-- ==== Sys2Proof/Syntax.lean ====
section
/-! DEFINITION.
The commands the block takes from outside: one constructor per row of spec/opcode_table.json. Numbers are naturals; WellFormed.lean says
which of them a command can carry.
-/

namespace Sys2Proof

/-- A command. -/
inductive Instr where
  /-- LOW_WORD_READ (R4): A host read of the lowest word of a field wider than 32 bits captures the whole field into its snapshot. -/
  | lowWordRead (addr : Nat)
  /-- REGISTER_WRITE (R291): A host write word to a register with no row of its own applies its RW, W1C and CMD fields, ignores the
  other fields and rejects attempted changes. `value` is the 32-bit word written. -/
  | registerWrite (addr : Nat) (value : Nat)
  /-- VOICE_EDGE (R77): An edge on a voice is counted by the prescaler, decoded from the thermometer code and, under decimation,
  stamped into the voice FIFO. `base` is the even coarse count at which the resolving window begins, `runs` the thermometer code
  from 1 SCK before it to 1 SCK after it as runs of equal bits, `extra` what the prescaler counted in pairs the decoder drops. -/
  | voiceEdge (voice : Nat) (base : Nat) (runs : List (Bool × Nat)) (extra : Nat)
  /-- PENDING_MARKER (R83): A marker waiting in the pending queue enters the voice FIFO when a slot frees, in the order EPOCH, DECIM,
  OVERRUN. -/
  | pendingMarker (voice : Nat)
  /-- EPOCH_WRAP (R72): The coarse count wraps from 2^54 - 1 to 0, EPOCH_COUNT increments and EPOCH markers are written. -/
  | epochWrap
  /-- STAMP_ACCUMULATE (R137): The fit engine takes a stamp from the stamp stream ahead of the ring writer into the running sums
  of its contexts. `upsets` lists the SRAM words in which reads find an error (1 corrected, 2 uncorrectable). -/
  | stampAccumulate (voice : Nat) (upsets : List (Nat × Nat) := [])
  /-- RING_WRITE (R84): The ring writer selects one waiting entry per FCK by extended time and writes it into its ring. -/
  | ringWrite
  /-- RING_DATA_READ (R90): A host read of a ring data window snapshots the word at RD_PTR and, at 12 modulo 16, advances RD_PTR
  and FILL. `upsets` lists the SRAM words in which reads find an error (1 corrected, 2 uncorrectable). -/
  | ringDataRead (ring : Nat) (offset : Nat) (upsets : List (Nat × Nat) := [])
  /-- FLUSH (R90): RING_CMD 0x51 sets RD_PTR to WR_PTR, FILL to 0 and FLUSHED to 1. -/
  | flush (ring : Nat)
  /-- CLEAR_LOSS_COUNT (R88): RING_CMD 0x52 sets LOSS_COUNT of the ring to 0. -/
  | clearLossCount (ring : Nat)
  /-- CLEAR_VOICE_COUNTS (R82): VOICE[n].CMD 0xA1 sets RUNT_COUNT and OVERRUN_COUNT to 0. -/
  | clearVoiceCounts (voice : Nat)
  /-- VOICE_START (R86): A STARTING voice whose SCK is open, whose tuning table is valid and whose R29 check is satisfied becomes
  ACTIVE with a START marker. -/
  | voiceStart (voice : Nat)
  /-- SCRUB (R17): The scrubber reads an SRAM word on an unused read cycle, corrects a single-bit error and writes it back when the
  write port is idle. `outcome` is 1 for a corrected error and 2 for an uncorrectable word, `user` the reader whose state the word
  holds. -/
  | scrub (bank : Nat) (row : Nat) (column : Nat) (outcome : Nat) (user : Nat)
  /-- ROW_REPLACEMENT_DONE (R334): The copy of a failing SRAM row into a spare row completes and the spare row takes over. -/
  | rowReplacementDone (bank : Nat) (row : Nat)
  /-- POWER_GOOD_RISE (R34): All five main rails have stayed above their thresholds for 4,000 RCK, power-good rises and a POR boot
  begins. `straps` are the levels of ADDR_STRAP[0..3], `testEn` that of TEST_EN. -/
  | powerGoodRise (straps : Nat) (testEn : Bool)
  /-- POWER_GOOD_FALL (R37): A main rail falls below its threshold, power-good falls, MAIN_LOSS and LOST_RAIL are recorded and the
  device enters BACKUP. Bit i of `rails` is the rail of LOST_RAIL code i + 1. -/
  | powerGoodFall (rails : Nat)
  /-- VBAT_LOW (R37): VBAT falls below its monitoring threshold while power-good is high and SUPPLY_EVENT.VBAT_LOW is set. -/
  | vbatLow
  /-- BOOT_STEP_COMPLETE (R20): A boot step completes and the steps that depend on it start. `info` is what the step finds: step 1 the
  class of VDDIO_V; step 5 the bytes of the SFDP tables of the NVM; step 7 the mask of the audit
  programs that fail, and the mask of the slots that cannot be read. -/
  | bootStepComplete (number : Nat) (info : List Nat)
  /-- FIRST_PERIOD (R21): After boot the device computes epsilon and starts its first period. -/
  | firstPeriod
  /-- PIN_RESET (R339): RESET_N low causes a PIN reset that boots from step 2. -/
  | pinReset
  /-- SOFT_RESET (R339): POWER_CMD 0x4F causes a SOFT reset at the rise of HSPI_CS_N that ends the access. -/
  | softReset
  /-- CHOIR_RESET (R262): At the boundary named by a delivered CMD RESET, every device performs a CHOIR reset. -/
  | choirReset
  /-- STRAP_CHANGE (R31): A strap level differs from the sampled address and STRAP_STATUS.CHANGED is set. `levels` are those of
  ADDR_STRAP[0..3]. -/
  | strapChange (levels : Nat)
  /-- SEAL_CHANGE (R32): SEAL_N has held a new level for 2^22 FCK and the debounced seal state changes. `level` is the debounced
  SEAL_OPEN. -/
  | sealChange (level : Bool)
  /-- XTAL_FAIL (R64): No crystal cycle, or FPLL lock lost, for 2 RCK moves FCK to RCK, gates SCK and enters the safe state. `cause`
  is 0 for the crystal and 1 for FPLL. -/
  | xtalFail (cause : Nat)
  /-- REFERENCE_SWITCH (R58): A planned switch at a boundary or a forced switch closes the SCK gate and moves the SPLL PFD to the new
  reference. `count` is the coarse count at which the gate closes. -/
  | referenceSwitch (count : Nat)
  /-- SPLL_LOCK_DETECT (R58): The SPLL phase error stays below 625 ps for 64 PFD cycles and lock detect is seen in FCK. -/
  | spllLockDetect
  /-- WINDOW_CHECK (R60): After 256 reference cycles the SPLL output count is checked, and the gate opens or the check repeats.
  `count` is that of SPLL output / 8 over 256 reference cycles. -/
  | windowCheck (count : Nat)
  /-- SPLL_SWITCH_TIMEOUT (R61): Lock detect or the window check has not passed 2 ms after step 4 and fault 0x0410 or 0x0411 is
  recorded. -/
  | spllSwitchTimeout
  /-- OVERSPEED (R60): The overspeed guard count over 1,024 FCK reaches 414, records fault 0x0412 and starts a forced switch. `count`
  is the coarse count at which the gate closes. -/
  | overspeed (count : Nat)
  /-- OCXO_WINDOW (R50): A 1 s stability window ends, y_k and delta y_k are reported and the OCXO state moves. `periods` REF_IN
  periods took `ticks` × 0.8 ns. -/
  | ocxoWindow (periods : Nat) (ticks : Nat)
  /-- REF_IN_LOST (R52): No REF_IN edge arrives within 100 FCK, the OCXO leaves STABLE and a forced switch to the crystal starts. -/
  | refInLost
  /-- OCXO_RDY_CHANGE (R49): OCXO_RDY rises or falls and, with RDY_USE 1, gates the stability check or fails the reference. -/
  | ocxoRdyChange (level : Bool)
  /-- WARMUP_LATE (R53): The OCXO has not reached STABLE within WARMUP_MAX seconds and fault 0x0405 is recorded. -/
  | warmupLate
  /-- TB_RESTART_CHECK (R51): TB_CMD 0xC1 restarts the stability check and returns the OCXO to WAIT. -/
  | tbRestartCheck
  /-- TUNING_HIT (R97): A tuning oscillator edge injected into a clear slot is decoded and added to the histogram bin of its
  fine code. `slot` is the coarse count of the SCK slot, `runs` the thermometer code from 1 SCK before it to 1 SCK after it as
  runs of equal bits. `busy` says that the comma window of a link sampler lies in the slot. -/
  | tuningHit (context : Nat) (slot : Nat) (runs : List (Bool × Nat)) (busy : Bool := false)
  /-- TABLE_SWAP (R102): A passed candidate becomes the table in force at the owner's swap boundary and TUNE.SEQ increments. -/
  | tableSwap (context : Nat)
  /-- TABLE_EXPIRED (R107): The age of a VALID table exceeds AGE_MAX, the context enters EXPIRED and fault 0x0205 is recorded. -/
  | tableExpired (context : Nat)
  /-- BOOT_TUNING_LATE (R106): A context has not ended its boot collection 5 ms after SCK opened and fault 0x0207 is recorded. -/
  | bootTuningLate (context : Nat)
  /-- COLLECTION_TIMEOUT (R106): A collection is still incomplete after 50 ms, fault 0x0208 is recorded and the owner is retired. -/
  | collectionTimeout (context : Nat)
  /-- TUNE_RESTART (R101): TUNE_CMD 0x71 discards the collection in progress in context CTX and starts a new one. -/
  | tuneRestart (context : Nat)
  /-- EXCITER_TRIP (R118): The unclocked trip signal drives the exciter to SAFE, sets its hold and counts the assertion. -/
  | exciterTrip (exciter : Nat)
  /-- CLASSIFIER_CONDITION (R120): The classifier sees a monitor's CLASS_COND level for two samples, records fault 0x0301 and makes
  the LOSS_MASK periods rests with reason 4. `level` is 0 INSIDE, 1 BELOW, 2 ABOVE. -/
  | classifierCondition (monitor : Nat) (level : Nat)
  /-- OPEN_WIRE_CHECK (R121): At the FCK in which Q_x rises, the pulse is checked for BELOW and CHECK_FAIL is updated. `below` is the
  mask of the monitors on which the classifier sees BELOW. -/
  | openWireCheck (exciter : Nat) (below : Nat)
  /-- MONITOR_SETTLED (R124): The settling time of a monitor elapses and it goes to TESTING or READY. -/
  | monitorSettled (monitor : Nat)
  /-- SELF_TEST_STEP (R123): A self-test step has settled and sampled 16 FCK, and the test passes, moves on or fails to RETEST or
  FAILED. `upper` and `lower` are the 16 samples of the two comparators. -/
  | selfTestStep (monitor : Nat) (upper : Nat) (lower : Nat)
  /-- WM_SELF_TEST (R125): WM_CMD 0x61 starts a self-test of every monitor in MASK. -/
  | wmSelfTest (mask : Nat)
  /-- MONITOR_BOTH_HIGH (R124): The classifier sees 0b11 on a READY monitor for two samples, records fault 0x0304 and starts a test. -/
  | monitorBothHigh (monitor : Nat)
  /-- EXCITER_START (R126): The start instant S of an exciter schedule arrives and the schedule starts. -/
  | exciterStart (exciter : Nat)
  /-- PULSE_START (R118): A scheduled pulse start clears the hold if the trip is deasserted and the output follows the schedule.
  `trip` says whether the synchronised trip signal is asserted. -/
  | pulseStart (exciter : Nat) (trip : Bool)
  /-- PULSE_END (R126): The active phase of a pulse ends and, after the last pulse, the schedule ends and the exciter goes IDLE. -/
  | pulseEnd (exciter : Nat)
  /-- SWEEP_HALF_PERIOD (R127): A half-period H_j of a sweep cycle elapses and the output toggles or the sweep moves to its next step.
  `trip` says whether the synchronised trip signal is asserted. -/
  | sweepHalfPeriod (exciter : Nat) (trip : Bool)
  /-- PERIOD_BOUNDARY (R134): The coarse count reaches a timer boundary, BOUND markers are placed, PCOUNT advances and contexts move
  their sums to closeout. -/
  | periodBoundary (timer : Nat)
  /-- CLOSEOUT (R147): Once the markers have left the FIFOs, the closeout unit solves a context and writes its RING_16 entry. `parity`
  is the mask of voices whose tuning table is read with a parity error, `upsets` lists the SRAM words in which reads find an error
  (1 corrected, 2 uncorrectable), `chains` is the mask of the Allan chains that an uncorrectable word held. -/
  | closeout (parity : Nat) (upsets : List (Nat × Nat)) (chains : Nat)
  /-- CLOSEOUT_DEADLINE (R147): Deadline D is reached, unfinished contexts become rests with reason 1 and fault 0x0501 is recorded. -/
  | closeoutDeadline (timer : Nat)
  /-- VOICE_SILENT (R146): No counted edge for SILENCE_MAX sets SILENT and records fault 0x0510. -/
  | voiceSilent (voice : Nat)
  /-- CLEAR_ALLAN_CTX (R144): FIT_CMD 0x81 clears the Allan accumulators of context CTX. -/
  | clearAllanCtx (context : Nat)
  /-- CLEAR_ALLAN_ALL (R144): FIT_CMD 0x82 clears the Allan accumulators of every context. -/
  | clearAllanAll
  /-- CLEAR_REST_COUNTS (R148): FIT_CMD 0x83 clears every REST_COUNT. -/
  | clearRestCounts
  /-- ANALYSER_STAMP (R158): An analyser instance processes a stamp once no earlier stamp of its other voice can arrive, forming
  measurements. `upsets` lists the SRAM words in which reads find an error (1 corrected, 2 uncorrectable). -/
  | analyserStamp (analyser : Nat) (upsets : List (Nat × Nat) := [])
  /-- ANALYSER_CLOSEOUT (R164): At a boundary an instance's results are closed out, the result block is replaced and RSEQ increments.
  `upsets` lists the SRAM words in which reads find an error. -/
  | analyserCloseout (analyser : Nat) (upsets : List (Nat × Nat))
  /-- RSEQ_READ (R164): A host read of RSEQ captures the whole analyser result block into a snapshot. -/
  | rseqRead (analyser : Nat)
  /-- CAPTURE_TIMEOUT (R171): CAP_TIMEOUT ms after acceptance the capture completes with TRUNC. -/
  | captureTimeout
  /-- REARM_ELAPSED (R168): CAP_REARM us after completion the unit goes to FILLING or ARMED. -/
  | rearmElapsed
  /-- MISSED_TRIGGER_READ (R170): A host read of a missed-trigger window snapshots the entry and removes it at 12 modulo 16.
  `upsets` lists the SRAM words in which reads find an error (1 corrected, 2 uncorrectable). -/
  | missedTriggerRead (analyser : Nat) (offset : Nat) (upsets : List (Nat × Nat) := [])
  /-- CAPTURE_BUFFER_READ (R172): A host read of a capture buffer entry captures it whole into a snapshot without advancing.
  `upsets` lists the SRAM words in which reads find an error (1 corrected, 2 uncorrectable). -/
  | captureBufferRead (entry : Nat) (offset : Nat) (upsets : List (Nat × Nat) := [])
  /-- COMMAND_TRIGGER (R166): ANA[a].CMD 0x91 raises a trigger of the instance. -/
  | commandTrigger (analyser : Nat)
  /-- CLEAR_HISTOGRAM (R165): ANA[a].CMD 0x92 clears the histogram, HIST_UNDER and HIST_OVER. -/
  | clearHistogram (analyser : Nat)
  /-- CLEAR_TOTAL (R162): ANA[a].CMD 0x96 clears TOTAL and TOTAL_SUSPECT. -/
  | clearTotal (analyser : Nat)
  /-- CLEAR_MISS_COUNT (R170): ANA[a].CMD 0x97 clears MISS.COUNT. -/
  | clearMissCount (analyser : Nat)
  /-- RELEASE_SEGMENT (R172): CAP_CMD 0x93 releases segment SEG. -/
  | releaseSegment (segment : Nat)
  /-- COMPLETE_CAPTURE (R171): CAP_CMD 0x94 completes the capture in POST with TRUNC. -/
  | completeCapture
  /-- RELEASE_ALL (R172): CAP_CMD 0x95 releases every segment. -/
  | releaseAll
  /-- LOCAL_SUM (R180): After the last pair closeout, stages 1 to 4 form each cell mass and the local sum L, or its rest, and
  offer it. `upsets` lists the SRAM words in which reads find an error (1 corrected, 2 uncorrectable). -/
  | localSum (upsets : List (Nat × Nat) := [])
  /-- PIPELINE_COMMIT (R182): With S or its rest available, stages 6 to 13 run and LEGAL_RESULT is committed in one FCK.
  `upsets` lists the SRAM words in which reads find an error (1 corrected, 2 uncorrectable). -/
  | pipelineCommit (upsets : List (Nat × Nat) := [])
  /-- ZERO (R189): OP_CMD 0xB1 takes a ZERO command into pending, evaluated at its effective period. -/
  | zero
  /-- TARE (R192): OP_CMD 0xB2 takes a TARE command into pending, evaluated at its effective period. -/
  | tare
  /-- CLEAR_TARE (R192): OP_CMD 0xB3 takes a CLEAR_TARE command into pending, evaluated at its effective period. -/
  | clearTare
  /-- PRINT (R198): OP_CMD 0xB4 takes a PRINT command into pending, evaluated at its effective period. -/
  | print
  /-- LEGAL_RESULT_READ (R195): A host read of LEGAL_RESULT.WEIGHT captures all four words into a snapshot. -/
  | legalResultRead
  /-- TOT_PULSE_END (R200): A TOT_PULSE high or low phase of WIDTH ms ends, TOT_BACKLOG decreases and the next pulse may start. -/
  | totPulseEnd
  /-- TRACK_STAMP (R210): The track channel takes a VOICE[15] or VOICE[14] stamp, updating the cell timing loop, frame marks and
  head position. `upsets` lists the SRAM words in which reads find an error (1 corrected, 2 uncorrectable). -/
  | trackStamp (voice : Nat) (upsets : List (Nat × Nat) := [])
  /-- FRAME_DECODE (R213): A collected frame is decoded by detector and LDPC iterations until it is accepted or fails. `upsets`
  lists the SRAM words in which reads find an error (1 corrected, 2 uncorrectable). -/
  | frameDecode (upsets : List (Nat × Nat) := [])
  /-- FRAME_LATE (R215): A frame not ended by its deadline D_f is dropped, counted and records fault 0x0702. -/
  | frameLate
  /-- SHOCK (R222): The classifier path sees WM[5] in SHOCK_COND and marks SHOCK on the zone in progress. -/
  | shock
  /-- DROPOUT (R212): The classifier path sees WM[7] BELOW and the bits over that time are erased. WM[7] was BELOW from coarse count
  `first` to `last`. -/
  | dropout (first : Nat) (last : Nat)
  /-- LEARN_RUN_START (R226): A requested profile learning run begins at the next pass of the bridge point through 0. -/
  | learnRunStart
  /-- LEARN_PROFILE (R226): TRACK_CMD 0xD1 requests a profile learning run. -/
  | learnProfile
  /-- CLEAR_PROV (R224): TRACK_CMD 0xD3 sets PROV and PROV_COUNT to 0 and logs the cleared values. -/
  | clearProv
  /-- EMPTY_WEAK_MAP (R225): TRACK_CMD 0xD4, with the seal open, empties the weak-segment map. -/
  | emptyWeakMap
  /-- REACQUIRE (R218): TRACK_CMD 0xD5 sends the track channel to ACQUIRE. -/
  | reacquire
  /-- LANE_SIGNAL_DETECT (R234): A lane receiver sees transitions and a training attempt begins. -/
  | laneSignalDetect (port : Nat) (lane : Nat)
  /-- LANE_ALIGN (R234): 32 consecutive K28.5 at one alignment move the lane from ALIGN to EXCHANGE. `codes` are the line codes.
  -/
  | laneAlign (port : Nat) (lane : Nat) (codes : List Nat := [])
  /-- TRAINING_SET (R234): A received TS1 or TS2 is checked against the lane and advances EXCHANGE or CONFIRM. `codes` are the
  four line codes of the set, `sent` is how many TS2 the lane has sent in CONFIRM, and `deskewed` says that lane 1 is deskewed.
  -/
  | trainingSet (port : Nat) (lane : Nat) (codes : List Nat) (sent : Nat) (deskewed : Bool)
  /-- TRAINING_TIMEOUT (R234): A training attempt ends after 4 ms and lanes not UP record fault 0x0801. -/
  | trainingTimeout (port : Nat)
  /-- TRAINING_RETRY (R235): 1 ms after a failed attempt the next training attempt starts. -/
  | trainingRetry (port : Nat)
  /-- LANE_SIGNAL_LOSS (R236): Loss of signal or of character alignment on a lane retrains the port. -/
  | laneSignalLoss (port : Nat)
  /-- CODE_VIOLATION_LIMIT (R236): 16 code or disparity violations within 2^16 words record fault 0x0803 and retrain the port.
  `codes` are the line codes that the lane took, from a running disparity that is positive when `disparity` is true. -/
  | codeViolationLimit (port : Nat) (lane : Nat) (disparity : Bool) (codes : List Nat := [])
  /-- ONE_LANE_RETRAIN (R236): A port that has run on one lane for 1 s retrains once. -/
  | oneLaneRetrain (port : Nat)
  /-- FRAME_RX (R237): A frame arrives on a port, is checked, acknowledged or NAKed, and deduplicated for delivery. `bytes` are LSEQ,
  HOPS, the check byte and the characters up to the CRC; `aborted` says that the frame ends in K30.7. -/
  | frameRx (port : Nat) (bytes : List Nat) (aborted : Bool)
  /-- ACK (R238): A received ACK set releases the acknowledged frames from the replay buffer. -/
  | ack (port : Nat) (lseq : Nat)
  /-- NAK (R238): A received NAK set acknowledges earlier frames and starts a replay from its LSEQ. `upsets` lists the SRAM
  words in which reads find an error (1 corrected, 2 uncorrectable). -/
  | nak (port : Nat) (lseq : Nat) (upsets : List (Nat × Nat) := [])
  /-- ACK_TIMER (R238): 1 us passes with unacknowledged good frames and an ACK is sent. -/
  | ackTimer (port : Nat)
  /-- REPLAY_TIMEOUT (R239): The oldest held frame is unacknowledged 4 us after it was sent and the held frames are resent.
  `upsets` lists the SRAM words in which reads find an error (1 corrected, 2 uncorrectable). -/
  | replayTimeout (port : Nat) (upsets : List (Nat × Nat) := [])
  /-- SYNC_SEND (R246): Every 2^18 FCK a SYNC frame preceded by K28.7 is launched on each UP port and stamped. `stampA` and
  `stampB` are the launch stamps of the ports, as raw time; none where the sampler gives none. Bit p of `parity` says that port
  p's stamp was converted with an entry whose parity is wrong. -/
  | syncSend (stampA : Option Nat) (stampB : Option Nat) (parity : Nat := 0)
  /-- TIME_SEND (R243): The cantor sends a TIME message every LEASE / 8. -/
  | timeSend
  /-- HEALTH_SEND (R243): A device sends a HEALTH message every LEASE / 4. -/
  | healthSend
  /-- CFGHASH_SEND (R243): A device sends a CFGHASH message every 1 s. -/
  | cfghashSend
  /-- SYNC_RX (R247): A SYNC from a neighbour gives the four stamps from which theta and d are formed. `stamp` is the receive
  stamp, as raw time. `parity` says that the stamp was converted with an entry whose parity is wrong. -/
  | syncRx (port : Nat) (stamp : Option Nat) (parity : Bool := false)
  /-- THETA_TIMEOUT (R249): No theta has been formed for 4 x 2^18 FCK and the member holds s unchanged. -/
  | thetaTimeout
  /-- TIME_RX (R255): A delivered TIME renews the lease, resolves epochs and carries EPS and the calendar. The message processed is
  the first of its kind that has been delivered. -/
  | timeRx
  /-- SUM_RX (R258): The cantor takes a member's SUM for its boundary, forming S once every device has offered. The message processed
  is the first of its kind that has been delivered. -/
  | sumRx
  /-- SUM_WINDOW_END (R258): SUM_WINDOW after the boundary the cantor decides S, possibly as a rest, and sends RESULT. -/
  | sumWindowEnd
  /-- RESULT_RX (R259): A member applies the S of a delivered RESULT, checks its digest and applies any REALIGN. The message processed
  is the first of its kind that has been delivered. -/
  | resultRx
  /-- RESULT_TIMEOUT (R259): No RESULT by the boundary plus 2 x SUM_WINDOW makes the period a rest with reason 10. -/
  | resultTimeout
  /-- HEALTH_RX (R248): A delivered HEALTH updates the sender's state, hop count and the parent choice. The message processed is the
  first of its kind that has been delivered. -/
  | healthRx
  /-- CFGHASH_RX (R257): A delivered CFGHASH is compared with the own hashes and a mismatch sends the device OUT. The message
  processed is the first of its kind that has been delivered. -/
  | cfghashRx
  /-- LOG_RX (R314): A delivered LOG record is written to the own journal with REMOTE set. The message processed is the first of its
  kind that has been delivered. -/
  | logRx
  /-- OP_RX (R261): The cantor receives a forwarded operator command and places it in a RESULT. The message processed is the first of
  its kind that has been delivered. -/
  | opRx
  /-- SWITCH_RX (R282): A STAGED member receives SWITCH and commits, or a HASH mismatch cancels with code 15. The message processed is
  the first of its kind that has been delivered. -/
  | switchRx
  /-- SWITCH_ACK_RX (R282): The cantor records a member's SWITCH_ACK in SWITCH_ACK. The message processed is the first of its kind
  that has been delivered. -/
  | switchAckRx
  /-- RESET_RX (R262): A delivered CMD RESET schedules a CHOIR reset at its named boundary. The message processed is the first of its
  kind that has been delivered. -/
  | resetRx
  /-- RETIRE_RX (R262): A member receiving RETIRE enters OUT. The message processed is the first of its kind that has been delivered. -/
  | retireRx
  /-- READMIT_RX (R262): A target receiving READMIT leaves OUT on probation. The message processed is the first of its kind that has
  been delivered. -/
  | readmitRx
  /-- REALIGN_REQ_RX (R260): The cantor receiving REALIGN_REQ sets REALIGN in its next RESULT. The message processed is the first of
  its kind that has been delivered. -/
  | realignReqRx
  /-- CLAIM_TIME (R255): An eligible device reaches its claim time, takes a higher epoch, enters CANTOR and sends TIME with CLAIM. -/
  | claimTime
  /-- ALIVE_LAPSE (R254): No message from a device has been delivered within LEASE and it is no longer alive. -/
  | aliveLapse (address : Nat)
  /-- RETRAIN_PORT (R236): CHOIR_CMD 0xE1 retrains port PORT. -/
  | retrainPort (port : Nat)
  /-- READMIT_DEVICE (R262): CHOIR_CMD 0xE3 on the cantor sends READMIT for ADDR. -/
  | readmitDevice (address : Nat)
  /-- CHOIR_RESET_CMD (R262): CHOIR_CMD 0xE5 on the cantor sends RESET naming a boundary at least LEASE / 4 ahead. -/
  | choirResetCmd
  /-- CLEAR_CHOIR_COUNTERS (R263): CHOIR_CMD 0xE7 clears the counters of the choir block. -/
  | clearChoirCounters
  /-- APPLY (R279): CFG_CMD 0xF1 starts validation of the inactive slot. -/
  | apply
  /-- APPLY_LOAD (R279): CFG_CMD 0xF2 starts validation of the inactive slot, ending in a LOAD reset. -/
  | applyLoad
  /-- CANCEL (R279): CFG_CMD 0xF3 in STAGED returns the apply state to IDLE. -/
  | cancel
  /-- PROGRAM_KEY_FUSES (R272): CFG_CMD 0xF7, once and with the seal open, programs KEY_HASH from FUSE_STAGE and sets KEY_SET. -/
  | programKeyFuses
  /-- VALIDATION_DONE (R273): Validation of an image completes, refusing it with a code or moving to STAGED or COMMITTING. `failed`
  says that the NVM could not be read. -/
  | validationDone (failed : Bool)
  /-- COMMIT_COMPLETE (R279): The COMMITTING programs of audit record and marks complete past the commit point and the device is
  ARMED. `step` is the program of COMMITTING that ends, and `failed` says that the NVM reports a failure. -/
  | commitComplete (step : Nat) (failed : Bool := false)
  /-- SWITCHING_BOUNDARY (R280): At the switching boundary every class I field takes its new value and atomic groups take effect. -/
  | switchingBoundary
  /-- TRANSITION_END (R281): TRANS_REST periods have passed and every non-atomic group has settled, so the apply returns to IDLE. -/
  | transitionEnd
  /-- READ (R285): Host command 0x03 reads words on one line without turnaround. `late` is the number of the first word that is not
  ready in time; `upsets` lists what the reads of memory find wrong. -/
  | read (addr : Nat) (words : Nat) (late : Option Nat) (upsets : List (Nat × Nat))
  /-- FAST_READ (R285): Host command 0x0B reads words on one line after 8 turnaround cycles. `late` is the number of the first word
  that is not ready in time; `upsets` lists what the reads of memory find wrong. -/
  | fastRead (addr : Nat) (words : Nat) (late : Option Nat) (upsets : List (Nat × Nat))
  /-- QUAD_READ (R285): Host command 0x6B reads words with quad data after 8 turnaround cycles. `late` is the number of the first word
  that is not ready in time; `upsets` lists what the reads of memory find wrong. -/
  | quadRead (addr : Nat) (words : Nat) (late : Option Nat) (upsets : List (Nat × Nat))
  /-- QIO_READ (R285): Host command 0xEB reads words with quad address and data after 8 turnaround cycles. `late` is the number of the
  first word that is not ready in time; `upsets` lists what the reads of memory find wrong. -/
  | qioRead (addr : Nat) (words : Nat) (late : Option Nat) (upsets : List (Nat × Nat))
  /-- WRITE (R285): Host command 0x02 writes words on one line. `bytes` follow the address; bit i of `full` says that the request FIFO
  is full as word i arrives. -/
  | write (addr : Nat) (bytes : List Nat) (full : Nat)
  /-- QUAD_WRITE (R285): Host command 0x32 writes words with quad data. `bytes` follow the address; bit i of `full` says that the
  request FIFO is full as word i arrives. -/
  | quadWrite (addr : Nat) (bytes : List Nat) (full : Nat)
  /-- QIO_WRITE (R285): Host command 0x38 writes words with quad address and data. `bytes` follow the address; bit i of `full` says
  that the request FIFO is full as word i arrives. -/
  | qioWrite (addr : Nat) (bytes : List Nat) (full : Nat)
  /-- STATUS (R293): Host command 0x05 returns the status byte repeatedly without crossing to FCK. -/
  | status
  /-- UNKNOWN_COMMAND (R285): A command byte not in the table is ignored with access code 13. -/
  | unknownCommand (code : Nat)
  /-- UNREAD (R298): HOST_CMD 0x5A moves RD_PTR of the ring back by the words the last read access advanced. -/
  | unread (ring : Nat)
  /-- PT_READ (R299): NVM_PT_CMD 0x31 reads LEN bytes from the NVM into NVM_PT_BUF. -/
  | ptRead
  /-- PT_PROGRAM (R299): NVM_PT_CMD 0x32 programs LEN bytes within one page, subject to the region rules. -/
  | ptProgram
  /-- PT_ERASE (R299): NVM_PT_CMD 0x33 erases a 4 KiB sector, subject to the region rules. -/
  | ptErase
  /-- SLOT_ERASE (R300): NVM_PT_CMD 0x34 erases the inactive slot, first sector first. -/
  | slotErase
  /-- PT_DONE (R301): A pass-through operation completes and NVM_PT_STATUS records its result. `failed` says that the NVM reports a
  failure. -/
  | ptDone (failed : Bool)
  /-- PT_TIMEOUT (R301): A program, erase or slot erase exceeds its time limit, ends with RESULT 5 and records fault 0x0906. -/
  | ptTimeout
  /-- EXTEST (R302): JTAG EXTEST takes effect and holds the functional logic in reset. -/
  | extest
  /-- IDCODE (R302): JTAG IDCODE selects the IDCODE register without effect on the device. -/
  | idcode
  /-- SAMPLE_PRELOAD (R302): JTAG SAMPLE/PRELOAD takes effect without effect on the device. -/
  | samplePreload
  /-- CLAMP (R302): JTAG CLAMP takes effect and holds the functional logic in reset. -/
  | clamp
  /-- HIGHZ (R302): JTAG HIGHZ takes effect and holds the functional logic in reset. -/
  | highz
  /-- BYPASS (R302): JTAG BYPASS takes effect without effect on the device. -/
  | bypass
  /-- PRIVATE_INSTRUCTION (R303): A private JTAG instruction loads BYPASS with the seal intact, or enters the safe state and clears
  SRAM with the seal open. -/
  | privateInstruction (code : Nat)
  /-- JTAG_INSTRUCTION_LEAVE (R302): The instruction register leaves EXTEST, CLAMP, HIGHZ or a private instruction and a PIN reset
  follows. -/
  | jtagInstructionLeave
  /-- CALENDAR_SECOND (R306): Every 32,768 KCK the calendar advances one second and captures CAL_SECOND. -/
  | calendarSecond
  /-- SET_CALENDAR (R307): CAL_CMD 0xC8 checks CAL_SET and accepts or rejects the calendar write. -/
  | setCalendar
  /-- CAL_WRITE_APPLY (R307): An accepted calendar write takes effect at the second KCK after it is seen, and a CAL_WRITE record is
  written. -/
  | calWriteApply
  /-- KCK_STOP (R308): 8,192 RCK pass without a KCK edge, VALID becomes 0 and fault 0x0A02 is recorded. -/
  | kckStop
  /-- LOG_RECORD_WRITE (R312): A queued journal record is programmed into the ACTIVE sector, opening the next sector when needed.
  `outcome` is 0 done, 1 the program fails, 2 the sector to be opened is bad. -/
  | logRecordWrite (outcome : Nat)
  /-- COLLECTION (R315): The oldest journal sector is collected, its retained records copied and the sector erased. `outcome` is 0
  done, 1 the program fails, 2 the sector to be opened is bad. -/
  | collection (outcome : Nat)
  /-- NVM_RETRY (R320): Every 100 ms during an NVM hold the failed log operation is retried. `outcome` is 0 done, 1 the program fails,
  2 the sector to be opened is bad. -/
  | nvmRetry (outcome : Nat)
  /-- TOTALISER_PHASE1 (R319): A totaliser entry has been programmed with COMMIT 0xFF and phase 2 follows. `outcome` is 0 done, 1 the
  program fails, 2 the sector to be opened is bad. -/
  | totaliserPhase1 (outcome : Nat)
  /-- TOTALISER_PHASE2 (R319): COMMIT is programmed to 0x00 and TOTAL and the other values take effect. `outcome` is 0 done, 1 the
  program fails, 2 the sector to be opened is bad. -/
  | totaliserPhase2 (outcome : Nat)
  /-- LOAD_RECORD (R322): LOG_CMD 0xC1 loads the record with the lowest RSEQ at or above LOG_CUR into LOG_WINDOW. -/
  | loadRecord
  /-- LOAD_AUDIT_RECORD (R322): LOG_CMD 0xC3 loads audit record AUDIT_SEL into AUDIT_WINDOW. -/
  | loadAuditRecord
  /-- LOG_LOAD_DONE (R322): A log or audit load completes and LOG_READ.RESULT is set. -/
  | logLoadDone (failed : Bool)
  /-- RE_ADMIT (R332): FAULT_CMD 0x21 re-admits a retired source on probation. `source` is the SRC of R329. -/
  | reAdmit (source : Nat)
  /-- CLEAR_SRAM_CORR (R334): FAULT_CMD 0x23 clears SRAM_CORR. -/
  | clearSramCorr
  /-- RING_LOCK_TIMEOUT (R335): No word of a locked entry is offered for 64 FCK, so the lock is broken and the partial entry
  discarded. -/
  | ringLockTimeout (ring : Nat)
  /-- HOLD (R342): POWER_CMD 0x41 enters HOLD, stopping periods with rests of reason 12. -/
  | hold
  /-- RUN (R341): POWER_CMD 0x42 returns from HOLD to RUN. -/
  | run
  /-- STANDBY (R343): POWER_CMD 0x44 starts STANDBY entry, waiting for operations in progress. -/
  | standby
  /-- STANDBY_ENTRY_COMPLETE (R343): Operations in progress finish or 1 s passes, SCK is gated with C_0 stored and the clocks stop. -/
  | standbyEntryComplete
  /-- RESUME (R344): POWER_CMD 0x45 starts a resume from STANDBY. -/
  | resume
  /-- WAKE (R341): A rising edge of WAKE in STANDBY starts a resume. -/
  | wake
  /-- RESUME_STEP_COMPLETE (R344): A resume step completes and the coarse count is set, the dependent steps starting. `kck` is the KCK
  count of step 4. -/
  | resumeStepComplete (number : Nat) (kck : Nat)
  /-- DIE_TEMP_MEASURE (R368): Every 1 ms the junction temperature is measured into DIE_TEMP and TMAX. `temperature` is a signed
  16-bit value in 1/16 °C. -/
  | dieTempMeasure (temperature : Nat)
  /-- RESET_N_RISE (R20): RESET_N returns high after a PIN reset, or after power-good rose while it was low, and the boot proceeds
  from its step. -/
  | resetNRise
  /-- REF_IN_EDGES_PRESENT (R51): REF_IN edges appear while the OCXO is in WAIT, and with RDY_USE 0, or with OCXO_RDY already 1, the
  stability check begins in CHECKING. -/
  | refInEdgesPresent
  /-- BACKUP_DOMAIN_LOSS (R7): VBAT is lost while the main supplies are absent, so every class B field returns to its reset value and
  the calendar restarts invalid at 2000-01-01. -/
  | backupDomainLoss
deriving DecidableEq, Repr

end Sys2Proof
end

