-- ==== Sys2Proof/Decode.lean ====
section
/-! DEFINITION.
The commands of the table as words. The table gives no row any bits: a command reaches the block as an access of its host port, a frame on
a link, a level on a pin or an event of its own, and no word spells one.
-/

namespace Sys2Proof

/-- The command that a word of `nbits` bits spells: none, since no row of the table gives bits. DESIGN CHOICE: log entry 7. -/
def decodeTableWord (nbits w : Nat) : Option Instr :=
  match nbits, w with
  | _, _ => none

end Sys2Proof
end

