-- ==== Sys2Proof/Word.lean ====
section
/-! DEFINITION.
The word types of the model and their plainest arithmetic.
-/

namespace Sys2Proof

/-- One byte of a host access, of the NVM or of a message (R3: least significant byte first). -/
abbrev Byte := BitVec 8

/-- A 32-bit word as the host sees it (R3). -/
abbrev Word := BitVec 32

/-- An IEEE 754 binary64 value as its 64 bits (R11). -/
abbrev F64 := BitVec 64

/-- The modulus of the 54-bit coarse count (R72). -/
def coarseMod : Nat := 2 ^ 54

/-- The bytes of `v`, least significant first, `n` of them (R3). -/
def bytesLE : Nat → Nat → List Nat
  | 0, _ => []
  | n + 1, v => v % 256 :: bytesLE n (v / 256)

/-- The value of bytes given least significant first (R3). -/
def ofBytesLE : List Nat → Nat
  | [] => 0
  | b :: r => b % 256 + 256 * ofBytesLE r

/-- The value of bytes given most significant first. -/
def ofBytesBE (l : List Nat) : Nat := l.foldl (fun a b => a * 256 + b % 256) 0

/-- A natural number as a signed integer of `w` bits, two's complement. -/
def toSigned (w v : Nat) : Int :=
  if v % 2 ^ w < 2 ^ (w - 1) then ((v % 2 ^ w : Nat) : Int) else ((v % 2 ^ w : Nat) : Int) - (2 ^ w : Nat)

/-- A signed integer in `w` bits, two's complement. -/
def ofSigned (w : Nat) (i : Int) : Nat := (i % ((2 ^ w : Nat) : Int)).toNat

/-- The bits `hi` to `lo` of `v`. -/
def bitsOf (v hi lo : Nat) : Nat := (v >>> lo) % 2 ^ (hi + 1 - lo)

/-- A Boolean as a bit. -/
def bit (b : Bool) : Nat := if b then 1 else 0

/-- Add one, holding at the largest value of `w` bits. -/
def incHold (w v : Nat) : Nat := if v + 1 < 2 ^ w then v + 1 else 2 ^ w - 1

/-- Replace the element at `i`, when there is one. -/
def setAt {α : Type} : List α → Nat → α → List α
  | [], _, _ => []
  | _ :: r, 0, x => x :: r
  | y :: r, i + 1, x => y :: setAt r i x

/-- `n` copies of `x`. -/
def copies {α : Type} : Nat → α → List α
  | 0, _ => []
  | n + 1, x => x :: copies n x

end Sys2Proof
end

