-- ==== Sys2Proof/Config.lean ====
section
/-! DEFINITION.
What the spec leaves open: constants without a body, so that nothing can be proved of their values.
-/

namespace Sys2Proof

/-- The fused serial number (R375): each device has its own. Free (DESIGN CHOICE, log entry 3). -/
opaque Config.serial : BitVec 64

/-- Sign and payload bits of a binary64 NaN that an operation makes; the spec names none. Free (DESIGN CHOICE, log entry 4). -/
opaque Config.nanPayload : BitVec 64

/-- The values a spec rule leaves open, numbered by the device's free-value counter. Free (DESIGN CHOICE, log entry 5). -/
opaque Config.freeValue : Nat → Nat

/-- The metric of one branch of the detector (R212, R213): the rule gives the error model and the state, and no number for a branch.
Arguments: SIGMA, the cell period, the observation of the bit (stamps from its grid time on; none of an erased bit), the bit's value, and the
alignment offsets before and after it. Free (DESIGN CHOICE, log entry 6). -/
opaque Config.branchMetric : Nat → BitVec 64 → Option (List Int) → Bool → Int → Int → Int

end Sys2Proof
end

