-- ==== Sys2Proof/Machine/Store.lean ====
section
/-! DEFINITION.
A sparse table of naturals: the one form in which registers, memories and rings are held.
A key that is not listed reads 0; a list in canonical form is strictly rising in its keys and holds no 0.
-/

namespace Sys2Proof.Machine

/-- A sparse table from keys to values; an unlisted key reads 0. -/
abbrev Store := List (Nat × Nat)

/-- The value at a key. -/
def Store.read : Store → Nat → Nat
  | [], _ => 0
  | (k, v) :: r, q => if q = k then v else Store.read r q

/-- Insert a non-zero value in rising order. -/
def Store.insert : Store → Nat → Nat → Store
  | [], q, x => [(q, x)]
  | (k, v) :: r, q, x =>
    if q < k then (q, x) :: (k, v) :: r
    else if q = k then (q, x) :: r
    else (k, v) :: Store.insert r q x

/-- Remove a key. -/
def Store.erase (s : Store) (q : Nat) : Store := s.filter (fun p => p.1 != q)

/-- Write a value: a 0 removes the entry, so that equal tables are equal lists. -/
def Store.write (s : Store) (q x : Nat) : Store :=
  if x = 0 then Store.erase s q else Store.insert s q x

/-- Write consecutive values from a key on. -/
def Store.writeList : Store → Nat → List Nat → Store
  | s, _, [] => s
  | s, q, x :: r => Store.writeList (Store.write s q x) (q + 1) r

/-- Read `n` consecutive values from a key on. -/
def Store.readList (s : Store) (q : Nat) : Nat → List Nat
  | 0 => []
  | n + 1 => Store.read s q :: Store.readList s (q + 1) n

/-- Remove every key from `lo` up to but not `hi`. -/
def Store.clearRange (s : Store) (lo hi : Nat) : Store := s.filter (fun p => decide (p.1 < lo) || decide (hi ≤ p.1))

/-- The canonical form: keys strictly rising, no 0 held. -/
def Store.wf : Store → Bool
  | [] => true
  | [(_, v)] => v != 0
  | (k, v) :: (k', v') :: r => v != 0 && decide (k < k') && Store.wf ((k', v') :: r)

/-- A table with its entries written one by one: in canonical form whatever the list. -/
def Store.canon (s : Store) : Store := s.foldr (fun p t => Store.write t p.1 p.2) []

/-- Like units by number: only those that differ from the default need be listed. -/
abbrev Tab (α : Type) := List (Nat × α)

/-- The unit of a number, `d` when it is not listed. -/
def Tab.read {α : Type} (d : α) : Tab α → Nat → α
  | [], _ => d
  | (k, v) :: r, q => if q = k then v else Tab.read d r q

/-- Replace the unit of a number. -/
def Tab.write {α : Type} : Tab α → Nat → α → Tab α
  | [], q, x => [(q, x)]
  | (k, v) :: r, q, x =>
    if q < k then (q, x) :: (k, v) :: r
    else if q = k then (q, x) :: r
    else (k, v) :: Tab.write r q x

end Sys2Proof.Machine
end

