-- ==== Sys2Proof/Machine/Fields.lean ====
section
/-! DEFINITION.
Register fields: their access types (R6), their reset classes (R7), and the register file as one table per class.
-/

namespace Sys2Proof.Machine

/-- The reset classes of R7. -/
inductive Cls where
  | F | N | B | P | H | S | I
deriving DecidableEq, Repr

/-- The access types of R6. -/
inductive Acc where
  | ro | rw | im | iml | w1c | cmd
deriving DecidableEq, Repr

/-- A field: `key` is 32 times the byte address of its lowest word plus its lowest bit. -/
structure Fld where
  key : Nat
  width : Nat
  acc : Acc
  cls : Cls
  reset : Nat
deriving DecidableEq, Repr

/-- The register file: one table per reset class; each holds the difference of a field from its reset value, so an
empty table is the class at reset. -/
structure RegFile where
  f : Store
  n : Store
  b : Store
  p : Store
  h : Store
  s : Store
  i : Store
deriving DecidableEq, Repr

/-- The table of a class. -/
def RegFile.table (r : RegFile) : Cls → Store
  | .F => r.f
  | .N => r.n
  | .B => r.b
  | .P => r.p
  | .H => r.h
  | .S => r.s
  | .I => r.i

/-- Replace the table of a class. -/
def RegFile.setTable (r : RegFile) (c : Cls) (t : Store) : RegFile :=
  match c with
  | .F => { r with f := t }
  | .N => { r with n := t }
  | .B => { r with b := t }
  | .P => { r with p := t }
  | .H => { r with h := t }
  | .S => { r with s := t }
  | .I => { r with i := t }

/-- A field's value in a table of its class. -/
def fieldRead (t : Store) (f : Fld) : Nat := (Store.read t f.key) ^^^ f.reset

/-- A table of a field's class with the field written; the value is cut to the field's width. -/
def fieldWrite (t : Store) (f : Fld) (v : Nat) : Store := Store.write t f.key ((v % 2 ^ f.width) ^^^ f.reset)

/-- A field's value. -/
def RegFile.get (r : RegFile) (f : Fld) : Nat := fieldRead (r.table f.cls) f

/-- The register file with a field written. -/
def RegFile.set (r : RegFile) (f : Fld) (v : Nat) : RegFile :=
  r.setTable f.cls (fieldWrite (r.table f.cls) f v)

/-- Every table is in canonical form. -/
def RegFile.wf (r : RegFile) : Bool :=
  Store.wf r.f && Store.wf r.n && Store.wf r.b && Store.wf r.p && Store.wf r.h && Store.wf r.s && Store.wf r.i

/-- Every field at its reset value. -/
def RegFile.atReset : RegFile := { f := [], n := [], b := [], p := [], h := [], s := [], i := [] }

end Sys2Proof.Machine
end

