-- ==== Sys2Proof/Machine/RegMap.lean ====
section
/-! DEFINITION.
The fields of the register map (R370, and the register tables of each chapter), with width, access, class and reset
value, and the table of registers by address.
-/

namespace Sys2Proof.Machine

-- DEVICE_ID, 0x000000
def Reg.DEVICE_ID_DEVICE : Fld := ⟨0, 16, .ro, .F, 3350⟩
def Reg.DEVICE_ID_MANUF : Fld := ⟨16, 11, .ro, .F, 691⟩
-- SILICON_REV, 0x000004
def Reg.SILICON_REV_LETTER : Fld := ⟨128, 8, .ro, .F, 66⟩
def Reg.SILICON_REV_NUMBER : Fld := ⟨136, 8, .ro, .F, 1⟩
def Reg.SILICON_REV_CODE : Fld := ⟨144, 4, .ro, .F, 3⟩
-- SERIAL, 0x000008
def Reg.SERIAL : Fld := ⟨256, 64, .ro, .F, 0⟩
-- MAP_VERSION, 0x000010
def Reg.MAP_VERSION_MAJOR : Fld := ⟨512, 8, .ro, .F, 1⟩
def Reg.MAP_VERSION_MINOR : Fld := ⟨520, 8, .ro, .F, 0⟩
-- DEVICE_STATUS, 0x000014
def Reg.DEVICE_STATUS_CONFIGURED : Fld := ⟨640, 1, .ro, .S, 0⟩
def Reg.DEVICE_STATUS_POWER : Fld := ⟨641, 3, .ro, .S, 0⟩
def Reg.DEVICE_STATUS_RCK_MODE : Fld := ⟨644, 1, .ro, .S, 0⟩
def Reg.DEVICE_STATUS_SEAL_OPEN : Fld := ⟨645, 1, .ro, .S, 1⟩
def Reg.DEVICE_STATUS_ERROR : Fld := ⟨646, 1, .ro, .S, 1⟩
def Reg.DEVICE_STATUS_IRQ : Fld := ⟨647, 1, .ro, .S, 0⟩
def Reg.DEVICE_STATUS_CHOIR_STATE : Fld := ⟨648, 3, .ro, .S, 0⟩
def Reg.DEVICE_STATUS_NVM_HOLD : Fld := ⟨651, 1, .ro, .S, 0⟩
def Reg.DEVICE_STATUS_AUDIT_FULL : Fld := ⟨652, 1, .ro, .S, 0⟩
def Reg.DEVICE_STATUS_BOOTING : Fld := ⟨653, 1, .ro, .S, 1⟩
def Reg.DEVICE_STATUS_ADDR : Fld := ⟨656, 4, .ro, .P, 0⟩
-- SCRATCH, 0x000018
def Reg.SCRATCH_DATA : Fld := ⟨768, 32, .rw, .S, 0⟩
-- HOST_CFG, 0x000800
def Reg.HOST_CFG_CRC_EN : Fld := ⟨65536, 1, .im, .I, 0⟩
-- HOST_NOTIFY_EN, 0x000804
def Reg.HOST_NOTIFY_EN_KINDS : Fld := ⟨65665, 11, .im, .I, 104⟩
-- HOST_STATUS, 0x000808
def Reg.HOST_STATUS_LAST_CODE : Fld := ⟨65792, 4, .ro, .S, 11⟩
def Reg.HOST_STATUS_CRC_ACTIVE : Fld := ⟨65796, 1, .ro, .S, 0⟩
def Reg.HOST_STATUS_RCK_MODE : Fld := ⟨65797, 1, .ro, .S, 0⟩
def Reg.HOST_STATUS_BOOTING : Fld := ⟨65798, 1, .ro, .S, 1⟩
-- HOST_ERR_ADDR, 0x00080C
def Reg.HOST_ERR_ADDR_ADDR : Fld := ⟨65920, 24, .ro, .S, 0⟩
-- HOST_COUNT_A, 0x000810
def Reg.HOST_COUNT_A_REJECTS : Fld := ⟨66048, 16, .ro, .S, 0⟩
def Reg.HOST_COUNT_A_LEGAL_REJECTS : Fld := ⟨66064, 16, .ro, .H, 0⟩
-- HOST_COUNT_B, 0x000814
def Reg.HOST_COUNT_B_CRC_ERR : Fld := ⟨66176, 16, .ro, .S, 0⟩
def Reg.HOST_COUNT_B_NOT_READY : Fld := ⟨66192, 16, .ro, .S, 0⟩
-- HOST_IRQ_PEND, 0x000818
def Reg.HOST_IRQ_PEND_NOTIFY : Fld := ⟨66304, 1, .ro, .S, 0⟩
def Reg.HOST_IRQ_PEND_NOTIFY_LOST : Fld := ⟨66305, 1, .ro, .S, 0⟩
def Reg.HOST_IRQ_PEND_FAULT : Fld := ⟨66306, 1, .ro, .S, 0⟩
def Reg.HOST_IRQ_PEND_RCK_MODE : Fld := ⟨66307, 1, .ro, .S, 0⟩
-- HOST_IRQ_EN, 0x00081C
def Reg.HOST_IRQ_EN_EN : Fld := ⟨66432, 4, .rw, .H, 15⟩
-- HOST_CMD, 0x000820
def Reg.HOST_CMD_CODE : Fld := ⟨66560, 8, .cmd, .S, 0⟩
def Reg.HOST_CMD_RING : Fld := ⟨66568, 5, .cmd, .S, 0⟩
-- NVM_PT_ADDR, 0x000830
def Reg.NVM_PT_ADDR : Fld := ⟨67072, 32, .rw, .S, 0⟩
-- NVM_PT_LEN, 0x000834
def Reg.NVM_PT_LEN : Fld := ⟨67200, 9, .rw, .S, 1⟩
-- NVM_PT_CMD, 0x000838
def Reg.NVM_PT_CMD_CODE : Fld := ⟨67328, 8, .cmd, .S, 0⟩
-- NVM_PT_STATUS, 0x00083C
def Reg.NVM_PT_STATUS_STATE : Fld := ⟨67456, 1, .ro, .S, 0⟩
def Reg.NVM_PT_STATUS_RESULT : Fld := ⟨67460, 4, .ro, .S, 0⟩
def Reg.NVM_PT_STATUS_OPS : Fld := ⟨67472, 16, .ro, .S, 0⟩
-- JTAG_STATUS, 0x000840
def Reg.JTAG_STATUS_JTAG_RESET : Fld := ⟨67584, 1, .w1c, .P, 0⟩
def Reg.JTAG_STATUS_CLEARING : Fld := ⟨67585, 1, .ro, .S, 0⟩
def Reg.JTAG_STATUS_PRIVATE_USED : Fld := ⟨67586, 1, .w1c, .P, 0⟩
def Reg.JTAG_STATUS_REFUSED : Fld := ⟨67592, 8, .ro, .H, 0⟩
-- NVM_PT_BUF, 0x000900
def Reg.NVM_PT_BUF_DATA (n : Nat) : Fld := ⟨73728 + 128 * n, 32, .rw, .S, 0⟩
-- TB_CFG, 0x001000
def Reg.TB_CFG_MODE : Fld := ⟨131072, 2, .iml, .I, 0⟩
def Reg.TB_CFG_CANTOR_REF : Fld := ⟨131074, 2, .iml, .I, 0⟩
def Reg.TB_CFG_RDY_USE : Fld := ⟨131076, 1, .iml, .I, 0⟩
def Reg.TB_CFG_REF_OUT_EN : Fld := ⟨131077, 1, .iml, .I, 0⟩
def Reg.TB_CFG_WARMUP_MAX : Fld := ⟨131088, 16, .iml, .I, 0⟩
-- TB_STATUS, 0x001004
def Reg.TB_STATUS_SOURCE : Fld := ⟨131200, 2, .ro, .S, 0⟩
def Reg.TB_STATUS_GATED : Fld := ⟨131202, 1, .ro, .S, 1⟩
def Reg.TB_STATUS_SPLL_LOCK : Fld := ⟨131203, 1, .ro, .S, 0⟩
def Reg.TB_STATUS_FPLL_LOCK : Fld := ⟨131204, 1, .ro, .S, 0⟩
def Reg.TB_STATUS_FCK_SRC : Fld := ⟨131205, 1, .ro, .S, 0⟩
def Reg.TB_STATUS_OCXO_STATE : Fld := ⟨131206, 3, .ro, .S, 0⟩
def Reg.TB_STATUS_STAB_COUNT : Fld := ⟨131209, 5, .ro, .S, 0⟩
def Reg.TB_STATUS_AGE_HELD : Fld := ⟨131214, 1, .ro, .S, 0⟩
def Reg.TB_STATUS_AGE_BEFORE_REF : Fld := ⟨131215, 1, .ro, .S, 0⟩
def Reg.TB_STATUS_REFOUT_SRC : Fld := ⟨131216, 2, .ro, .S, 0⟩
-- TB_EVENT, 0x001008
def Reg.TB_EVENT_RELOCK : Fld := ⟨131328, 1, .w1c, .S, 0⟩
def Reg.TB_EVENT_REF_LOSS : Fld := ⟨131329, 1, .w1c, .S, 0⟩
def Reg.TB_EVENT_OCXO_WINDOW : Fld := ⟨131330, 1, .w1c, .S, 0⟩
def Reg.TB_EVENT_OCXO_DRIFT : Fld := ⟨131331, 1, .w1c, .S, 0⟩
def Reg.TB_EVENT_RDY_FELL : Fld := ⟨131332, 1, .w1c, .S, 0⟩
def Reg.TB_EVENT_SPLL_FAIL : Fld := ⟨131333, 1, .w1c, .S, 0⟩
def Reg.TB_EVENT_OVERSPEED : Fld := ⟨131334, 1, .w1c, .S, 0⟩
def Reg.TB_EVENT_XTAL_FAIL : Fld := ⟨131335, 1, .w1c, .P, 0⟩
def Reg.TB_EVENT_WARMUP_LATE : Fld := ⟨131336, 1, .w1c, .S, 0⟩
-- AGE_A0, 0x001010
def Reg.AGE_A0_VALUE : Fld := ⟨131584, 32, .iml, .I, 0⟩
-- AGE_A1, 0x001014
def Reg.AGE_A1_VALUE : Fld := ⟨131712, 32, .iml, .I, 0⟩
-- AGE_D0, 0x001018
def Reg.AGE_D0_DAYS : Fld := ⟨131840, 16, .iml, .I, 1⟩
-- AGE_REF_DATE, 0x00101C
def Reg.AGE_REF_DATE_DAY : Fld := ⟨131968, 5, .iml, .I, 1⟩
def Reg.AGE_REF_DATE_MONTH : Fld := ⟨131976, 4, .iml, .I, 1⟩
def Reg.AGE_REF_DATE_YEAR : Fld := ⟨131984, 12, .iml, .I, 2000⟩
-- AGE_DAYS, 0x001020
def Reg.AGE_DAYS_D : Fld := ⟨132096, 20, .ro, .S, 0⟩
-- AGE_EPS, 0x001028
def Reg.AGE_EPS_EPS : Fld := ⟨132352, 64, .ro, .S, 0⟩
-- OCXO_OFFSET, 0x001030
def Reg.OCXO_OFFSET_VALUE : Fld := ⟨132608, 32, .ro, .S, 0⟩
-- OCXO_DRIFT, 0x001034
def Reg.OCXO_DRIFT_VALUE : Fld := ⟨132736, 32, .ro, .S, 0⟩
-- RELOCK_COUNT, 0x001038
def Reg.RELOCK_COUNT_COUNT : Fld := ⟨132864, 16, .ro, .H, 0⟩
-- RELOCK_GAP, 0x00103C
def Reg.RELOCK_GAP_G : Fld := ⟨132992, 24, .ro, .S, 0⟩
-- CHOIR_STEER, 0x001040
def Reg.CHOIR_STEER_S : Fld := ⟨133120, 32, .ro, .S, 0⟩
-- TB_CMD, 0x001044
def Reg.TB_CMD_CODE : Fld := ⟨133248, 8, .cmd, .S, 0⟩
-- EPOCH_COUNT, 0x001080
def Reg.EPOCH_COUNT_COUNT : Fld := ⟨135168, 16, .ro, .S, 0⟩
-- TIME_NOW, 0x001088
def Reg.TIME_NOW_TIME : Fld := ⟨135424, 64, .ro, .S, 0⟩
-- VOICE_CTRL, 0x002000
def Reg.VOICE_CTRL_EN (n : Nat) : Fld := ⟨262144 + 8192 * n, 1, .im, .I, 0⟩
def Reg.VOICE_CTRL_SRC (n : Nat) : Fld := ⟨262145 + 8192 * n, 1, .im, .I, 0⟩
def Reg.VOICE_CTRL_MODE (n : Nat) : Fld := ⟨262146 + 8192 * n, 2, .im, .I, 0⟩
def Reg.VOICE_CTRL_TERM (n : Nat) : Fld := ⟨262148 + 8192 * n, 1, .im, .I, 0⟩
def Reg.VOICE_CTRL_EDGE (n : Nat) : Fld := ⟨262149 + 8192 * n, 2, .im, .I, 1⟩
def Reg.VOICE_CTRL_TUNE_LOG (n : Nat) : Fld := ⟨262151 + 8192 * n, 1, .im, .I, 0⟩
def Reg.VOICE_CTRL_BOUND_LOG (n : Nat) : Fld := ⟨262152 + 8192 * n, 1, .im, .I, 0⟩
-- VOICE_ROUTE, 0x002004
def Reg.VOICE_ROUTE_WM (n : Nat) : Fld := ⟨262272 + 8192 * n, 3, .im, .I, 0⟩
def Reg.VOICE_ROUTE_COMP (n : Nat) : Fld := ⟨262275 + 8192 * n, 1, .im, .I, 0⟩
-- VOICE_DECIM_CFG, 0x002008
def Reg.VOICE_DECIM_CFG_KMIN (n : Nat) : Fld := ⟨262400 + 8192 * n, 5, .im, .I, 0⟩
def Reg.VOICE_DECIM_CFG_KMAX (n : Nat) : Fld := ⟨262408 + 8192 * n, 5, .im, .I, 20⟩
def Reg.VOICE_DECIM_CFG_RUNT_LIMIT (n : Nat) : Fld := ⟨262416 + 8192 * n, 16, .im, .I, 65535⟩
-- VOICE_STATUS, 0x002010
def Reg.VOICE_STATUS_STATE (n : Nat) : Fld := ⟨262656 + 8192 * n, 3, .ro, .S, 0⟩
def Reg.VOICE_STATUS_K (n : Nat) : Fld := ⟨262660 + 8192 * n, 5, .ro, .S, 0⟩
def Reg.VOICE_STATUS_FIFO_LEVEL (n : Nat) : Fld := ⟨262666 + 8192 * n, 6, .ro, .S, 0⟩
-- VOICE_EVENT, 0x002014
def Reg.VOICE_EVENT_OVERRUN (n : Nat) : Fld := ⟨262784 + 8192 * n, 1, .w1c, .S, 0⟩
def Reg.VOICE_EVENT_RUNT (n : Nat) : Fld := ⟨262785 + 8192 * n, 1, .w1c, .S, 0⟩
def Reg.VOICE_EVENT_DECIM_UP (n : Nat) : Fld := ⟨262786 + 8192 * n, 1, .w1c, .S, 0⟩
def Reg.VOICE_EVENT_DECIM_DOWN (n : Nat) : Fld := ⟨262787 + 8192 * n, 1, .w1c, .S, 0⟩
def Reg.VOICE_EVENT_KMAX_HIT (n : Nat) : Fld := ⟨262788 + 8192 * n, 1, .w1c, .S, 0⟩
def Reg.VOICE_EVENT_RETIRED (n : Nat) : Fld := ⟨262789 + 8192 * n, 1, .w1c, .S, 0⟩
-- VOICE_RUNT_COUNT, 0x002018
def Reg.VOICE_RUNT_COUNT_COUNT (n : Nat) : Fld := ⟨262912 + 8192 * n, 16, .ro, .S, 0⟩
-- VOICE_OVERRUN_COUNT, 0x00201C
def Reg.VOICE_OVERRUN_COUNT_COUNT (n : Nat) : Fld := ⟨263040 + 8192 * n, 16, .ro, .S, 0⟩
-- VOICE_EVTOTAL, 0x002020
def Reg.VOICE_EVTOTAL_COUNT (n : Nat) : Fld := ⟨263168 + 8192 * n, 64, .ro, .H, 0⟩
-- VOICE_CMD, 0x002030
def Reg.VOICE_CMD_CODE (n : Nat) : Fld := ⟨263680 + 8192 * n, 8, .cmd, .S, 0⟩
-- TUNE_CFG, 0x003000
def Reg.TUNE_CFG_AGE_MAX : Fld := ⟨393216, 8, .im, .I, 10⟩
def Reg.TUNE_CFG_SHIFT_MAX : Fld := ⟨393224, 12, .im, .I, 1024⟩
-- TUNE_VALID, 0x003004
def Reg.TUNE_VALID_CTX : Fld := ⟨393344, 20, .ro, .S, 0⟩
-- TUNE_CMD, 0x003008
def Reg.TUNE_CMD_CODE : Fld := ⟨393472, 8, .cmd, .S, 0⟩
def Reg.TUNE_CMD_CTX : Fld := ⟨393480, 5, .cmd, .S, 0⟩
-- TUNE_TABLE_SEL, 0x00300C
def Reg.TUNE_TABLE_SEL_CTX : Fld := ⟨393600, 5, .rw, .S, 0⟩
-- TUNE_STATUS, 0x003100
def Reg.TUNE_STATUS_STATE (n : Nat) : Fld := ⟨401408 + 1024 * n, 3, .ro, .S, 0⟩
def Reg.TUNE_STATUS_PENDING (n : Nat) : Fld := ⟨401411 + 1024 * n, 1, .ro, .S, 0⟩
def Reg.TUNE_STATUS_MODE (n : Nat) : Fld := ⟨401412 + 1024 * n, 2, .ro, .S, 0⟩
def Reg.TUNE_STATUS_EMPTY (n : Nat) : Fld := ⟨401424 + 1024 * n, 11, .ro, .S, 0⟩
-- TUNE_HITS, 0x003104
def Reg.TUNE_HITS_COUNT (n : Nat) : Fld := ⟨401536 + 1024 * n, 21, .ro, .S, 0⟩
-- TUNE_SEQ, 0x003108
def Reg.TUNE_SEQ_COUNT (n : Nat) : Fld := ⟨401664 + 1024 * n, 16, .ro, .S, 0⟩
-- TUNE_SWAP_TIME, 0x00310C
def Reg.TUNE_SWAP_TIME_TIME (n : Nat) : Fld := ⟨401792 + 1024 * n, 64, .ro, .S, 0⟩
-- TUNE_AGE, 0x003114
def Reg.TUNE_AGE_MS (n : Nat) : Fld := ⟨402048 + 1024 * n, 32, .ro, .S, 0⟩
-- TUNE_TEST, 0x003118
def Reg.TUNE_TEST_WIDEST (n : Nat) : Fld := ⟨402176 + 1024 * n, 13, .ro, .S, 0⟩
def Reg.TUNE_TEST_SHIFT (n : Nat) : Fld := ⟨402192 + 1024 * n, 16, .ro, .S, 0⟩
-- TUNE_DISCARD, 0x00311C
def Reg.TUNE_DISCARD_COUNT (n : Nat) : Fld := ⟨402304 + 1024 * n, 16, .ro, .S, 0⟩
def Reg.TUNE_DISCARD_REJECTS (n : Nat) : Fld := ⟨402320 + 1024 * n, 16, .ro, .S, 0⟩
-- WM_LEVEL, 0x004000
def Reg.WM_LEVEL_LEVEL : Fld := ⟨524288, 16, .ro, .S, 0⟩
-- WM_CMD, 0x004008
def Reg.WM_CMD_CODE : Fld := ⟨524544, 8, .cmd, .S, 0⟩
def Reg.WM_CMD_MASK : Fld := ⟨524552, 8, .cmd, .S, 0⟩
-- WM_CFG, 0x004100
def Reg.WM_CFG_EN (n : Nat) : Fld := ⟨532480 + 1024 * n, 1, .im, .I, 0⟩
def Reg.WM_CFG_MODE (n : Nat) : Fld := ⟨532481 + 1024 * n, 2, .im, .I, 3⟩
def Reg.WM_CFG_HYST (n : Nat) : Fld := ⟨532483 + 1024 * n, 5, .im, .I, 0⟩
def Reg.WM_CFG_CLASS_COND (n : Nat) : Fld := ⟨532488 + 1024 * n, 2, .im, .I, 0⟩
def Reg.WM_CFG_QUAL_EN (n : Nat) : Fld := ⟨532490 + 1024 * n, 1, .im, .I, 0⟩
def Reg.WM_CFG_QUAL_EXC (n : Nat) : Fld := ⟨532491 + 1024 * n, 3, .im, .I, 0⟩
-- WM_THRESH, 0x004104
def Reg.WM_THRESH_LOWER (n : Nat) : Fld := ⟨532608 + 1024 * n, 10, .im, .I, 0⟩
def Reg.WM_THRESH_UPPER (n : Nat) : Fld := ⟨532624 + 1024 * n, 10, .im, .I, 1023⟩
-- WM_LOSS_MASK, 0x004108
def Reg.WM_LOSS_MASK_VOICES (n : Nat) : Fld := ⟨532736 + 1024 * n, 16, .im, .I, 0⟩
-- WM_THRESH_LIVE, 0x00410C
def Reg.WM_THRESH_LIVE_LOWER (n : Nat) : Fld := ⟨532864 + 1024 * n, 10, .ro, .S, 0⟩
def Reg.WM_THRESH_LIVE_UPPER (n : Nat) : Fld := ⟨532880 + 1024 * n, 10, .ro, .S, 0⟩
def Reg.WM_THRESH_LIVE_HYST (n : Nat) : Fld := ⟨532891 + 1024 * n, 5, .ro, .S, 0⟩
-- WM_STATUS, 0x004110
def Reg.WM_STATUS_STATE (n : Nat) : Fld := ⟨532992 + 1024 * n, 3, .ro, .S, 0⟩
def Reg.WM_STATUS_FAIL_STEP (n : Nat) : Fld := ⟨532996 + 1024 * n, 3, .ro, .S, 0⟩
def Reg.WM_STATUS_SEEN_UP (n : Nat) : Fld := ⟨533000 + 1024 * n, 1, .ro, .S, 0⟩
def Reg.WM_STATUS_SEEN_LO (n : Nat) : Fld := ⟨533001 + 1024 * n, 1, .ro, .S, 0⟩
-- WM_COND_COUNT, 0x004114
def Reg.WM_COND_COUNT_COUNT (n : Nat) : Fld := ⟨533120 + 1024 * n, 16, .ro, .S, 0⟩
-- EXC_CFG, 0x004800
def Reg.EXC_CFG_MODE (n : Nat) : Fld := ⟨589824 + 2048 * n, 2, .im, .I, 0⟩
def Reg.EXC_CFG_ACTIVE (n : Nat) : Fld := ⟨589826 + 2048 * n, 1, .im, .I, 1⟩
def Reg.EXC_CFG_SAFE (n : Nat) : Fld := ⟨589827 + 2048 * n, 1, .im, .I, 0⟩
def Reg.EXC_CFG_SYNC_VOICE (n : Nat) : Fld := ⟨589828 + 2048 * n, 4, .im, .I, 0⟩
-- EXC_TRIP, 0x004804
def Reg.EXC_TRIP_SEL (n : Nat) : Fld := ⟨589952 + 2048 * n, 16, .im, .I, 0⟩
def Reg.EXC_TRIP_QUAL (n : Nat) : Fld := ⟨589968 + 2048 * n, 1, .im, .I, 0⟩
def Reg.EXC_TRIP_BLANK (n : Nat) : Fld := ⟨589969 + 2048 * n, 15, .im, .I, 0⟩
-- EXC_DELAY, 0x004808
def Reg.EXC_DELAY_FCK (n : Nat) : Fld := ⟨590080 + 2048 * n, 24, .im, .I, 0⟩
-- EXC_WIDTH, 0x00480C
def Reg.EXC_WIDTH_FCK (n : Nat) : Fld := ⟨590208 + 2048 * n, 24, .im, .I, 0⟩
-- EXC_SPACING, 0x004810
def Reg.EXC_SPACING_FCK (n : Nat) : Fld := ⟨590336 + 2048 * n, 24, .im, .I, 0⟩
-- EXC_COUNT, 0x004814
def Reg.EXC_COUNT_PULSES (n : Nat) : Fld := ⟨590464 + 2048 * n, 16, .im, .I, 1⟩
-- EXC_F_START, 0x004818
def Reg.EXC_F_START_F (n : Nat) : Fld := ⟨590592 + 2048 * n, 20, .im, .I, 16⟩
-- EXC_F_STEP, 0x00481C
def Reg.EXC_F_STEP_F (n : Nat) : Fld := ⟨590720 + 2048 * n, 16, .im, .I, 0⟩
-- EXC_SWEEP, 0x004820
def Reg.EXC_SWEEP_STEPS (n : Nat) : Fld := ⟨590848 + 2048 * n, 11, .im, .I, 1⟩
def Reg.EXC_SWEEP_CYCLES (n : Nat) : Fld := ⟨590864 + 2048 * n, 8, .im, .I, 1⟩
-- EXC_STATUS, 0x004824
def Reg.EXC_STATUS_STATE (n : Nat) : Fld := ⟨590976 + 2048 * n, 3, .ro, .S, 0⟩
def Reg.EXC_STATUS_TRIP_LIVE (n : Nat) : Fld := ⟨590979 + 2048 * n, 1, .ro, .S, 0⟩
def Reg.EXC_STATUS_CHECK_FAIL (n : Nat) : Fld := ⟨590980 + 2048 * n, 2, .ro, .S, 0⟩
def Reg.EXC_STATUS_STEP (n : Nat) : Fld := ⟨590984 + 2048 * n, 10, .ro, .S, 0⟩
-- EXC_TRIP_COUNT, 0x004828
def Reg.EXC_TRIP_COUNT_COUNT (n : Nat) : Fld := ⟨591104 + 2048 * n, 16, .ro, .S, 0⟩
-- EXC_SKIP_COUNT, 0x00482C
def Reg.EXC_SKIP_COUNT_COUNT (n : Nat) : Fld := ⟨591232 + 2048 * n, 16, .ro, .S, 0⟩
-- FIT_CFG, 0x005000
def Reg.FIT_CFG_CLOSE_WIN : Fld := ⟨655360, 16, .iml, .I, 8192⟩
-- FIT_STATUS, 0x005004
def Reg.FIT_STATUS_QUEUE : Fld := ⟨655488, 5, .ro, .S, 0⟩
def Reg.FIT_STATUS_BUSY : Fld := ⟨655493, 1, .ro, .S, 0⟩
-- FIT_EVENT, 0x005008
def Reg.FIT_EVENT_CLOSE_LATE : Fld := ⟨655616, 1, .w1c, .S, 0⟩
def Reg.FIT_EVENT_SILENCE : Fld := ⟨655617, 1, .w1c, .S, 0⟩
-- FIT_CMD, 0x00500C
def Reg.FIT_CMD_CODE : Fld := ⟨655744, 8, .cmd, .S, 0⟩
def Reg.FIT_CMD_CTX : Fld := ⟨655752, 5, .cmd, .S, 0⟩
-- TIMER_LENGTH, 0x005020
def Reg.TIMER_LENGTH_US (n : Nat) : Fld := ⟨656384 + 512 * n, 24, .iml, .I, 0⟩
-- TIMER_PHASE, 0x005024
def Reg.TIMER_PHASE_US (n : Nat) : Fld := ⟨656512 + 512 * n, 24, .iml, .I, 0⟩
-- TIMER_PCOUNT, 0x005028
def Reg.TIMER_PCOUNT_COUNT (n : Nat) : Fld := ⟨656640 + 512 * n, 32, .ro, .S, 0⟩
-- TIMER_STATUS, 0x00502C
def Reg.TIMER_STATUS_RUNNING (n : Nat) : Fld := ⟨656768 + 512 * n, 1, .ro, .S, 0⟩
def Reg.TIMER_STATUS_HOLD (n : Nat) : Fld := ⟨656769 + 512 * n, 1, .ro, .S, 0⟩
-- FIT_VOICE_CFG, 0x005100
def Reg.FIT_VOICE_CFG_EN (n : Nat) : Fld := ⟨663552 + 1024 * n, 1, .iml, .I, 0⟩
def Reg.FIT_VOICE_CFG_TIMER (n : Nat) : Fld := ⟨663553 + 1024 * n, 2, .iml, .I, 0⟩
-- FIT_VOICE_MIN_STAMPS, 0x005104
def Reg.FIT_VOICE_MIN_STAMPS_VALUE (n : Nat) : Fld := ⟨663680 + 1024 * n, 24, .iml, .I, 3⟩
-- FIT_VOICE_SILENCE_MAX, 0x005108
def Reg.FIT_VOICE_SILENCE_MAX_VALUE (n : Nat) : Fld := ⟨663808 + 1024 * n, 24, .iml, .I, 0⟩
-- FIT_VOICE_NOM, 0x005110
def Reg.FIT_VOICE_NOM_HZ (n : Nat) : Fld := ⟨664064 + 1024 * n, 64, .iml, .I, 4607182418800017408⟩
-- FIT_VOICE_STATUS, 0x005118
def Reg.FIT_VOICE_STATUS_REST_LAST (n : Nat) : Fld := ⟨664320 + 1024 * n, 4, .ro, .S, 0⟩
def Reg.FIT_VOICE_STATUS_SILENT (n : Nat) : Fld := ⟨664324 + 1024 * n, 1, .ro, .S, 0⟩
-- FIT_VOICE_REST_COUNT, 0x00511C
def Reg.FIT_VOICE_REST_COUNT_COUNT (n : Nat) : Fld := ⟨664448 + 1024 * n, 16, .ro, .S, 0⟩
-- FIT_PAIR_CFG, 0x005300
def Reg.FIT_PAIR_CFG_EN (n : Nat) : Fld := ⟨679936 + 1024 * n, 1, .iml, .I, 0⟩
def Reg.FIT_PAIR_CFG_VOICE_A (n : Nat) : Fld := ⟨679940 + 1024 * n, 4, .iml, .I, 0⟩
def Reg.FIT_PAIR_CFG_VOICE_B (n : Nat) : Fld := ⟨679944 + 1024 * n, 4, .iml, .I, 0⟩
-- FIT_PAIR_WIN_START, 0x005304
def Reg.FIT_PAIR_WIN_START_US (n : Nat) : Fld := ⟨680064 + 1024 * n, 24, .iml, .I, 0⟩
-- FIT_PAIR_WIN_END, 0x005308
def Reg.FIT_PAIR_WIN_END_US (n : Nat) : Fld := ⟨680192 + 1024 * n, 24, .iml, .I, 0⟩
-- FIT_PAIR_NOM, 0x005310
def Reg.FIT_PAIR_NOM_RATIO (n : Nat) : Fld := ⟨680448 + 1024 * n, 64, .iml, .I, 4607182418800017408⟩
-- FIT_PAIR_STATUS, 0x005318
def Reg.FIT_PAIR_STATUS_VALUE (n : Nat) : Fld := ⟨680704 + 1024 * n, 16, .ro, .S, 0⟩
-- FIT_PAIR_REST_COUNT, 0x00531C
def Reg.FIT_PAIR_REST_COUNT_VALUE (n : Nat) : Fld := ⟨680832 + 1024 * n, 16, .ro, .S, 0⟩
-- ALLAN_SEL, 0x005400
def Reg.ALLAN_SEL_CTX : Fld := ⟨688128, 5, .rw, .S, 0⟩
-- STRIKE_CFG, 0x005F00
def Reg.STRIKE_CFG_RETIRE : Fld := ⟨778240, 4, .iml, .I, 4⟩
def Reg.STRIKE_CFG_DECAY : Fld := ⟨778248, 16, .iml, .I, 100⟩
def Reg.STRIKE_CFG_PROBATION : Fld := ⟨778264, 8, .iml, .I, 16⟩
-- CAP_CFG, 0x006000
def Reg.CAP_CFG_EN : Fld := ⟨786432, 1, .im, .I, 0⟩
def Reg.CAP_CFG_SEGS : Fld := ⟨786433, 3, .im, .I, 0⟩
def Reg.CAP_CFG_NO_TUNE : Fld := ⟨786436, 1, .im, .I, 0⟩
def Reg.CAP_CFG_TRIG_MASK : Fld := ⟨786440, 4, .im, .I, 0⟩
-- CAP_VOICES, 0x006004
def Reg.CAP_VOICES_VALUE : Fld := ⟨786560, 16, .im, .I, 0⟩
-- CAP_PRE, 0x006008
def Reg.CAP_PRE_VALUE : Fld := ⟨786688, 16, .im, .I, 0⟩
-- CAP_REARM, 0x00600C
def Reg.CAP_REARM_US : Fld := ⟨786816, 24, .im, .I, 0⟩
-- CAP_TIMEOUT, 0x006010
def Reg.CAP_TIMEOUT_VALUE : Fld := ⟨786944, 16, .im, .I, 0⟩
-- CAP_STATUS, 0x006014
def Reg.CAP_STATUS_STATE : Fld := ⟨787072, 3, .ro, .S, 0⟩
def Reg.CAP_STATUS_FLUSHED : Fld := ⟨787075, 1, .w1c, .S, 0⟩
def Reg.CAP_STATUS_SEG : Fld := ⟨787076, 6, .ro, .S, 0⟩
def Reg.CAP_STATUS_CSEQ : Fld := ⟨787088, 16, .ro, .S, 0⟩
-- CAP_FREE, 0x006018
def Reg.CAP_FREE_SEGS : Fld := ⟨787200, 64, .ro, .S, 0⟩
-- CAP_CMD, 0x006020
def Reg.CAP_CMD_CODE : Fld := ⟨787456, 8, .cmd, .S, 0⟩
def Reg.CAP_CMD_SEG : Fld := ⟨787464, 6, .cmd, .S, 0⟩
-- ANA_CFG, 0x006100
def Reg.ANA_CFG_MODE (n : Nat) : Fld := ⟨794624 + 4096 * n, 3, .im, .I, 0⟩
def Reg.ANA_CFG_TIMER (n : Nat) : Fld := ⟨794627 + 4096 * n, 2, .im, .I, 0⟩
def Reg.ANA_CFG_VOICE_S (n : Nat) : Fld := ⟨794629 + 4096 * n, 4, .im, .I, 0⟩
def Reg.ANA_CFG_VOICE_T (n : Nat) : Fld := ⟨794633 + 4096 * n, 4, .im, .I, 0⟩
def Reg.ANA_CFG_EDGE_S (n : Nat) : Fld := ⟨794637 + 4096 * n, 2, .im, .I, 1⟩
def Reg.ANA_CFG_EDGE_T (n : Nat) : Fld := ⟨794639 + 4096 * n, 2, .im, .I, 1⟩
def Reg.ANA_CFG_POL (n : Nat) : Fld := ⟨794641 + 4096 * n, 1, .im, .I, 0⟩
def Reg.ANA_CFG_HIST_EN (n : Nat) : Fld := ⟨794642 + 4096 * n, 1, .im, .I, 0⟩
def Reg.ANA_CFG_HIST_PER (n : Nat) : Fld := ⟨794643 + 4096 * n, 1, .im, .I, 0⟩
-- ANA_TRIG, 0x006104
def Reg.ANA_TRIG_COND (n : Nat) : Fld := ⟨794752 + 4096 * n, 2, .im, .I, 0⟩
def Reg.ANA_TRIG_VOICE (n : Nat) : Fld := ⟨794754 + 4096 * n, 4, .im, .I, 0⟩
def Reg.ANA_TRIG_EDGE (n : Nat) : Fld := ⟨794758 + 4096 * n, 2, .im, .I, 1⟩
def Reg.ANA_TRIG_FLAGS (n : Nat) : Fld := ⟨794760 + 4096 * n, 11, .im, .I, 0⟩
-- ANA_MIN_MEAS, 0x006108
def Reg.ANA_MIN_MEAS_MIN_MEAS (n : Nat) : Fld := ⟨794880 + 4096 * n, 24, .im, .I, 1⟩
-- ANA_HIST_SHIFT, 0x00610C
def Reg.ANA_HIST_SHIFT_HIST_SHIFT (n : Nat) : Fld := ⟨795008 + 4096 * n, 6, .im, .I, 0⟩
-- ANA_LIM_LO, 0x006110
def Reg.ANA_LIM_LO_LIM_LO (n : Nat) : Fld := ⟨795136 + 4096 * n, 64, .im, .I, 0⟩
-- ANA_LIM_HI, 0x006118
def Reg.ANA_LIM_HI_LIM_HI (n : Nat) : Fld := ⟨795392 + 4096 * n, 64, .im, .I, 0⟩
-- ANA_HIST_ORIGIN, 0x006120
def Reg.ANA_HIST_ORIGIN_HIST_ORIGIN (n : Nat) : Fld := ⟨795648 + 4096 * n, 64, .im, .I, 0⟩
-- ANA_CMD, 0x006128
def Reg.ANA_CMD_CODE (n : Nat) : Fld := ⟨795904 + 4096 * n, 8, .cmd, .S, 0⟩
-- ANA_MISS, 0x00612C
def Reg.ANA_MISS_COUNT (n : Nat) : Fld := ⟨796032 + 4096 * n, 16, .ro, .S, 0⟩
def Reg.ANA_MISS_FILL (n : Nat) : Fld := ⟨796048 + 4096 * n, 3, .ro, .S, 0⟩
def Reg.ANA_MISS_LOST (n : Nat) : Fld := ⟨796051 + 4096 * n, 1, .w1c, .S, 0⟩
-- ANA_HIST_UNDER, 0x006130
def Reg.ANA_HIST_UNDER_HIST_UNDER (n : Nat) : Fld := ⟨796160 + 4096 * n, 32, .ro, .S, 0⟩
-- ANA_HIST_OVER, 0x006134
def Reg.ANA_HIST_OVER_HIST_OVER (n : Nat) : Fld := ⟨796288 + 4096 * n, 32, .ro, .S, 0⟩
-- ANA_HISTST, 0x006138
def Reg.ANA_HISTST_REASON (n : Nat) : Fld := ⟨796416 + 4096 * n, 4, .ro, .S, 0⟩
def Reg.ANA_HISTST_REST_SEEN (n : Nat) : Fld := ⟨796420 + 4096 * n, 1, .w1c, .S, 0⟩
def Reg.ANA_HISTST_HSEQ (n : Nat) : Fld := ⟨796432 + 4096 * n, 16, .ro, .S, 0⟩
-- ANA_RSEQ, 0x006140
def Reg.ANA_RSEQ_RSEQ (n : Nat) : Fld := ⟨796672 + 4096 * n, 32, .ro, .S, 0⟩
-- ANA_RSTAT, 0x006144
def Reg.ANA_RSTAT_REASON (n : Nat) : Fld := ⟨796800 + 4096 * n, 4, .ro, .S, 0⟩
def Reg.ANA_RSTAT_CAUSES (n : Nat) : Fld := ⟨796804 + 4096 * n, 16, .ro, .S, 0⟩
def Reg.ANA_RSTAT_DECIM (n : Nat) : Fld := ⟨796820 + 4096 * n, 1, .ro, .S, 0⟩
def Reg.ANA_RSTAT_TOTAL_SUSPECT (n : Nat) : Fld := ⟨796821 + 4096 * n, 1, .ro, .S, 0⟩
-- ANA_START, 0x006148
def Reg.ANA_START_START (n : Nat) : Fld := ⟨796928 + 4096 * n, 64, .ro, .S, 0⟩
-- ANA_COUNT, 0x006150
def Reg.ANA_COUNT_COUNT (n : Nat) : Fld := ⟨797184 + 4096 * n, 32, .ro, .S, 0⟩
-- ANA_UNPAIRED, 0x006154
def Reg.ANA_UNPAIRED_UNPAIRED (n : Nat) : Fld := ⟨797312 + 4096 * n, 32, .ro, .S, 0⟩
-- ANA_VALUE, 0x006158
def Reg.ANA_VALUE_VALUE (n : Nat) : Fld := ⟨797440 + 4096 * n, 64, .ro, .S, 0⟩
-- ANA_SD, 0x006160
def Reg.ANA_SD_SD (n : Nat) : Fld := ⟨797696 + 4096 * n, 64, .ro, .S, 0⟩
-- ANA_MIN, 0x006168
def Reg.ANA_MIN_MIN (n : Nat) : Fld := ⟨797952 + 4096 * n, 64, .ro, .S, 0⟩
-- ANA_MAX, 0x006170
def Reg.ANA_MAX_MAX (n : Nat) : Fld := ⟨798208 + 4096 * n, 64, .ro, .S, 0⟩
-- HIST_SEL, 0x006400
def Reg.HIST_SEL_ANA : Fld := ⟨819200, 2, .rw, .S, 0⟩
def Reg.HIST_SEL_HALF : Fld := ⟨819202, 1, .rw, .S, 0⟩
-- PIPE_CFG, 0x007000
def Reg.PIPE_CFG_TIMER : Fld := ⟨917504, 2, .iml, .I, 0⟩
def Reg.PIPE_CFG_UNIT : Fld := ⟨917506, 2, .iml, .I, 1⟩
def Reg.PIPE_CFG_RANGES : Fld := ⟨917508, 2, .iml, .I, 1⟩
def Reg.PIPE_CFG_INIT_ZERO_EN : Fld := ⟨917510, 1, .iml, .I, 1⟩
def Reg.PIPE_CFG_ZT_EN : Fld := ⟨917511, 1, .iml, .I, 0⟩
def Reg.PIPE_CFG_IIR_EN : Fld := ⟨917512, 1, .iml, .I, 0⟩
def Reg.PIPE_CFG_OP_MASK : Fld := ⟨917513, 4, .iml, .I, 15⟩
def Reg.PIPE_CFG_N_MA : Fld := ⟨917520, 8, .iml, .I, 0⟩
def Reg.PIPE_CFG_REST_HOLD_MAX : Fld := ⟨917528, 8, .iml, .I, 0⟩
-- PIPE_MOTION, 0x007004
def Reg.PIPE_MOTION_WIN : Fld := ⟨917632, 7, .iml, .I, 2⟩
def Reg.PIPE_MOTION_K : Fld := ⟨917640, 8, .iml, .I, 4⟩
def Reg.PIPE_MOTION_UNDER_E : Fld := ⟨917648, 8, .iml, .I, 20⟩
-- E_BASE, 0x007010
def Reg.E_BASE : Fld := ⟨918016, 64, .iml, .I, 4607182418800017408⟩
-- RANGE_MAX, 0x007020
def Reg.RANGE_MAX (n : Nat) : Fld := ⟨918528 + 512 * n, 64, .iml, .I, 0⟩
-- RANGE_MULT, 0x007028
def Reg.RANGE_MULT (n : Nat) : Fld := ⟨918784 + 512 * n, 16, .iml, .I, 1⟩
-- IZ_NEG, 0x007050
def Reg.IZ_NEG : Fld := ⟨920064, 64, .iml, .I, 0⟩
-- IZ_POS, 0x007058
def Reg.IZ_POS : Fld := ⟨920320, 64, .iml, .I, 0⟩
-- ZR_NEG, 0x007060
def Reg.ZR_NEG : Fld := ⟨920576, 64, .iml, .I, 0⟩
-- ZR_POS, 0x007068
def Reg.ZR_POS : Fld := ⟨920832, 64, .iml, .I, 0⟩
-- TARE_MAX, 0x007070
def Reg.TARE_MAX : Fld := ⟨921088, 64, .iml, .I, 0⟩
-- IIR_B0, 0x007080
def Reg.IIR_B0 : Fld := ⟨921600, 64, .iml, .I, 4607182418800017408⟩
-- IIR_B1, 0x007088
def Reg.IIR_B1 : Fld := ⟨921856, 64, .iml, .I, 0⟩
-- IIR_B2, 0x007090
def Reg.IIR_B2 : Fld := ⟨922112, 64, .iml, .I, 0⟩
-- IIR_A1, 0x007098
def Reg.IIR_A1 : Fld := ⟨922368, 64, .iml, .I, 0⟩
-- IIR_A2, 0x0070A0
def Reg.IIR_A2 : Fld := ⟨922624, 64, .iml, .I, 0⟩
-- PIPE_STATUS, 0x007100
def Reg.PIPE_STATUS_INIT_DONE : Fld := ⟨925696, 1, .ro, .S, 0⟩
def Reg.PIPE_STATUS_READY : Fld := ⟨925697, 1, .ro, .S, 0⟩
def Reg.PIPE_STATUS_ZT_LIMIT : Fld := ⟨925698, 1, .ro, .S, 0⟩
def Reg.PIPE_STATUS_PRINT_ARMED : Fld := ⟨925699, 1, .ro, .S, 1⟩
def Reg.PIPE_STATUS_FED : Fld := ⟨925700, 9, .ro, .S, 0⟩
def Reg.PIPE_STATUS_MOTION_FILL : Fld := ⟨925709, 7, .ro, .S, 0⟩
-- PIPE_EVENT, 0x007104
def Reg.PIPE_EVENT_ERROR_ENTRY : Fld := ⟨925824, 1, .w1c, .S, 0⟩
def Reg.PIPE_EVENT_ZT_LIMIT_HIT : Fld := ⟨925825, 1, .w1c, .S, 0⟩
def Reg.PIPE_EVENT_PULSE_LOST : Fld := ⟨925826, 1, .w1c, .S, 0⟩
def Reg.PIPE_EVENT_RANGE_UP : Fld := ⟨925827, 1, .w1c, .S, 0⟩
def Reg.PIPE_EVENT_RANGE_DOWN : Fld := ⟨925828, 1, .w1c, .S, 0⟩
-- LR_WEIGHT, 0x007400
def Reg.LR_WEIGHT_WEIGHT : Fld := ⟨950272, 32, .ro, .S, 0⟩
-- LR_STATUS, 0x007404
def Reg.LR_STATUS_STABLE : Fld := ⟨950400, 1, .ro, .S, 0⟩
def Reg.LR_STATUS_CENTER_ZERO : Fld := ⟨950401, 1, .ro, .S, 0⟩
def Reg.LR_STATUS_RANGE : Fld := ⟨950402, 2, .ro, .S, 1⟩
def Reg.LR_STATUS_NET : Fld := ⟨950404, 1, .ro, .S, 0⟩
def Reg.LR_STATUS_OVERLOAD : Fld := ⟨950405, 1, .ro, .S, 0⟩
def Reg.LR_STATUS_UNDERLOAD : Fld := ⟨950406, 1, .ro, .S, 0⟩
def Reg.LR_STATUS_ERROR : Fld := ⟨950407, 1, .ro, .S, 1⟩
def Reg.LR_STATUS_ERR_CAUSE : Fld := ⟨950408, 4, .ro, .S, 1⟩
def Reg.LR_STATUS_RESTS : Fld := ⟨950412, 8, .ro, .S, 0⟩
def Reg.LR_STATUS_REST_REASON : Fld := ⟨950420, 4, .ro, .S, 0⟩
-- LR_TARE, 0x007408
def Reg.LR_TARE_TARE : Fld := ⟨950528, 32, .ro, .S, 0⟩
-- LR_SEQ, 0x00740C
def Reg.LR_SEQ_SEQ : Fld := ⟨950656, 16, .ro, .S, 0⟩
def Reg.LR_SEQ_PSEQ : Fld := ⟨950672, 16, .ro, .S, 0⟩
-- OP_CMD, 0x007420
def Reg.OP_CMD_CODE : Fld := ⟨951296, 8, .cmd, .S, 0⟩
-- OP_STATUS, 0x007424
def Reg.OP_STATUS_SEQ : Fld := ⟨951424, 8, .ro, .S, 0⟩
def Reg.OP_STATUS_PENDING : Fld := ⟨951432, 1, .ro, .S, 0⟩
def Reg.OP_STATUS_RESULT : Fld := ⟨951436, 4, .ro, .S, 0⟩
def Reg.OP_STATUS_CODE : Fld := ⟨951440, 8, .ro, .S, 0⟩
-- SP_CFG, 0x007500
def Reg.SP_CFG_SRC (n : Nat) : Fld := ⟨958464 + 512 * n, 2, .iml, .I, 0⟩
def Reg.SP_CFG_DIR (n : Nat) : Fld := ⟨958466 + 512 * n, 1, .iml, .I, 0⟩
def Reg.SP_CFG_SAFE (n : Nat) : Fld := ⟨958467 + 512 * n, 1, .iml, .I, 0⟩
def Reg.SP_CFG_REQ_STABLE (n : Nat) : Fld := ⟨958468 + 512 * n, 1, .iml, .I, 0⟩
def Reg.SP_CFG_ACTIVE_LEVEL (n : Nat) : Fld := ⟨958469 + 512 * n, 1, .iml, .I, 1⟩
-- SP_LEVEL, 0x007504
def Reg.SP_LEVEL_LEVEL (n : Nat) : Fld := ⟨958592 + 512 * n, 32, .iml, .I, 0⟩
-- SP_HYST, 0x007508
def Reg.SP_HYST_HYST (n : Nat) : Fld := ⟨958720 + 512 * n, 16, .iml, .I, 0⟩
-- SP_STATE, 0x00750C
def Reg.SP_STATE_ON (n : Nat) : Fld := ⟨958848 + 512 * n, 1, .ro, .S, 0⟩
def Reg.SP_STATE_FORCED (n : Nat) : Fld := ⟨958849 + 512 * n, 1, .ro, .S, 1⟩
-- TOT_CFG, 0x007580
def Reg.TOT_CFG_SRC : Fld := ⟨962560, 2, .iml, .I, 0⟩
def Reg.TOT_CFG_WIDTH : Fld := ⟨962568, 8, .iml, .I, 0⟩
-- TOT_UNIT, 0x007584
def Reg.TOT_UNIT : Fld := ⟨962688, 32, .iml, .I, 0⟩
-- TOT_D, 0x007588
def Reg.TOT_D : Fld := ⟨962816, 64, .iml, .I, 0⟩
-- TOTAL, 0x007590
def Reg.TOTAL : Fld := ⟨963072, 64, .ro, .N, 0⟩
-- TOT_BACKLOG, 0x007598
def Reg.TOT_BACKLOG : Fld := ⟨963328, 16, .ro, .S, 0⟩
-- PRINT_COUNT, 0x00759C
def Reg.PRINT_COUNT : Fld := ⟨963456, 32, .ro, .N, 0⟩
-- DIAG_S, 0x007600
def Reg.DIAG_S_S : Fld := ⟨966656, 64, .ro, .S, 0⟩
-- DIAG_F, 0x007608
def Reg.DIAG_F_F : Fld := ⟨966912, 64, .ro, .S, 0⟩
-- DIAG_Z, 0x007610
def Reg.DIAG_Z_Z : Fld := ⟨967168, 64, .ro, .S, 0⟩
-- DIAG_Z_INIT, 0x007618
def Reg.DIAG_Z_INIT_Z_INIT : Fld := ⟨967424, 64, .ro, .S, 0⟩
-- DIAG_G, 0x007620
def Reg.DIAG_G_G : Fld := ⟨967680, 64, .ro, .S, 0⟩
-- DIAG_T, 0x007628
def Reg.DIAG_T_T : Fld := ⟨967936, 64, .ro, .S, 0⟩
-- DIAG_V, 0x007630
def Reg.DIAG_V_V (n : Nat) : Fld := ⟨968192 + 256 * n, 64, .ro, .S, 0⟩
-- CELL_CFG, 0x007800
def Reg.CELL_CFG_EN (n : Nat) : Fld := ⟨983040 + 8192 * n, 1, .iml, .I, 0⟩
def Reg.CELL_CFG_PAIR (n : Nat) : Fld := ⟨983041 + 8192 * n, 3, .iml, .I, 0⟩
-- CELL_Q_REF, 0x007808
def Reg.CELL_Q_REF_Q_REF (n : Nat) : Fld := ⟨983296 + 8192 * n, 64, .iml, .I, 4607182418800017408⟩
-- CELL_Q_MIN, 0x007810
def Reg.CELL_Q_MIN_Q_MIN (n : Nat) : Fld := ⟨983552 + 8192 * n, 64, .iml, .I, 0⟩
-- CELL_Q_MAX, 0x007818
def Reg.CELL_Q_MAX_Q_MAX (n : Nat) : Fld := ⟨983808 + 8192 * n, 64, .iml, .I, 4611686018427387904⟩
-- CELL_NOM_T, 0x007820
def Reg.CELL_NOM_T_NOM_T (n : Nat) : Fld := ⟨984064 + 8192 * n, 64, .iml, .I, 4607182418800017408⟩
-- CELL_GAIN, 0x007828
def Reg.CELL_GAIN_GAIN (n : Nat) : Fld := ⟨984320 + 8192 * n, 64, .iml, .I, 4607182418800017408⟩
-- CELL_COEF, 0x007830
def Reg.CELL_COEF_COEF (n j : Nat) : Fld := ⟨984576 + 8192 * n + 256 * j, 64, .iml, .I, 0⟩
-- TRACK_CFG, 0x008000
def Reg.TRACK_CFG_EN : Fld := ⟨1048576, 1, .im, .I, 0⟩
def Reg.TRACK_CFG_LAMP_EN : Fld := ⟨1048577, 1, .im, .I, 0⟩
def Reg.TRACK_CFG_LAMP_EXC : Fld := ⟨1048578, 3, .im, .I, 0⟩
def Reg.TRACK_CFG_SHOCK_COND : Fld := ⟨1048581, 2, .iml, .I, 3⟩
def Reg.TRACK_CFG_LOOP_SHIFT : Fld := ⟨1048584, 4, .im, .I, 4⟩
def Reg.TRACK_CFG_BELT_ID : Fld := ⟨1048592, 8, .im, .I, 0⟩
-- TRACK_CELL, 0x008004
def Reg.TRACK_CELL_CELL_LEN : Fld := ⟨1048704, 16, .im, .I, 2000⟩
-- TRACK_DETECT, 0x008008
def Reg.TRACK_DETECT_SIGMA : Fld := ⟨1048832, 8, .im, .I, 32⟩
def Reg.TRACK_DETECT_HEAVY_ERAS : Fld := ⟨1048840, 8, .im, .I, 16⟩
def Reg.TRACK_DETECT_SPLICE_COUNT : Fld := ⟨1048848, 5, .im, .I, 0⟩
-- BELT_LEN, 0x008010
def Reg.BELT_LEN : Fld := ⟨1049088, 64, .iml, .I, 10240000⟩
-- TACH_UM, 0x008018
def Reg.TACH_UM : Fld := ⟨1049344, 64, .iml, .I, 4607182418800017408⟩
-- BRIDGE_OFFSET, 0x008020
def Reg.BRIDGE_OFFSET : Fld := ⟨1049600, 64, .iml, .I, 0⟩
-- WEIGH_LEN, 0x008028
def Reg.WEIGH_LEN : Fld := ⟨1049856, 32, .iml, .I, 1⟩
-- POS_ERR_MAX, 0x00802C
def Reg.POS_ERR_MAX : Fld := ⟨1049984, 32, .iml, .I, 1⟩
-- DR_MAX, 0x008030
def Reg.DR_MAX : Fld := ⟨1050112, 32, .iml, .I, 1⟩
-- V_MAX, 0x008034
def Reg.V_MAX : Fld := ⟨1050240, 16, .iml, .I, 8000⟩
-- PROF_MAX, 0x008038
def Reg.PROF_MAX : Fld := ⟨1050368, 64, .iml, .I, 4607182418800017408⟩
-- TRACK_STATUS, 0x008040
def Reg.TRACK_STATUS_STATE : Fld := ⟨1050624, 3, .ro, .S, 0⟩
def Reg.TRACK_STATUS_ZONE_HEAD : Fld := ⟨1050627, 6, .ro, .S, 0⟩
def Reg.TRACK_STATUS_ZONE_BRIDGE : Fld := ⟨1050633, 6, .ro, .S, 0⟩
def Reg.TRACK_STATUS_PROF_VALID : Fld := ⟨1050639, 1, .ro, .S, 0⟩
def Reg.TRACK_STATUS_WEAK_FULL : Fld := ⟨1050640, 1, .ro, .S, 0⟩
def Reg.TRACK_STATUS_LEARNING : Fld := ⟨1050641, 1, .ro, .S, 0⟩
-- TRACK_EVENT, 0x008044
def Reg.TRACK_EVENT_POS_FAIL : Fld := ⟨1050752, 1, .w1c, .S, 0⟩
def Reg.TRACK_EVENT_SHOCK : Fld := ⟨1050753, 1, .w1c, .S, 0⟩
def Reg.TRACK_EVENT_DR_LIMIT : Fld := ⟨1050754, 1, .w1c, .S, 0⟩
def Reg.TRACK_EVENT_PROVISIONAL : Fld := ⟨1050755, 1, .w1c, .S, 0⟩
def Reg.TRACK_EVENT_SPEED_HIGH : Fld := ⟨1050756, 1, .w1c, .S, 0⟩
def Reg.TRACK_EVENT_REALLOC : Fld := ⟨1050757, 1, .w1c, .S, 0⟩
def Reg.TRACK_EVENT_LEARN_DONE : Fld := ⟨1050758, 1, .w1c, .S, 0⟩
-- POS_HEAD, 0x008048
def Reg.POS_HEAD : Fld := ⟨1050880, 64, .ro, .S, 0⟩
-- POS_BRIDGE, 0x008050
def Reg.POS_BRIDGE : Fld := ⟨1051136, 64, .ro, .S, 0⟩
-- SPEED, 0x008058
def Reg.SPEED : Fld := ⟨1051392, 16, .ro, .S, 0⟩
-- REV, 0x00805C
def Reg.REV : Fld := ⟨1051520, 32, .ro, .N, 0⟩
-- FRAME_OK, 0x008060
def Reg.FRAME_OK : Fld := ⟨1051648, 32, .ro, .S, 0⟩
-- FRAME_FAIL, 0x008064
def Reg.FRAME_FAIL : Fld := ⟨1051776, 32, .ro, .S, 0⟩
-- FRAME_LATE, 0x008068
def Reg.FRAME_LATE : Fld := ⟨1051904, 32, .ro, .S, 0⟩
-- FRAME_HEAVY, 0x00806C
def Reg.FRAME_HEAVY : Fld := ⟨1052032, 32, .ro, .S, 0⟩
-- LAST_ERR, 0x008070
def Reg.LAST_ERR : Fld := ⟨1052160, 32, .ro, .S, 0⟩
-- PROV, 0x008078
def Reg.PROV : Fld := ⟨1052416, 64, .ro, .N, 0⟩
-- PROV_COUNT, 0x008080
def Reg.PROV_COUNT : Fld := ⟨1052672, 32, .ro, .N, 0⟩
-- RES_RAW, 0x008088
def Reg.RES_RAW : Fld := ⟨1052928, 64, .ro, .N, 0⟩
-- TRACK_CMD, 0x008090
def Reg.TRACK_CMD_CODE : Fld := ⟨1053184, 8, .cmd, .S, 0⟩
-- PROF_SEL, 0x008094
def Reg.PROF_SEL_GROUP : Fld := ⟨1053312, 3, .rw, .S, 0⟩
-- ZONE_A, 0x008200
def Reg.ZONE_A_THR_OFF (n : Nat) : Fld := ⟨1064960 + 256 * n, 11, .im, .I, 0⟩
def Reg.ZONE_A_HYST (n : Nat) : Fld := ⟨1064971 + 256 * n, 5, .im, .I, 0⟩
-- ZONE_B, 0x008204
def Reg.ZONE_B_ASYM (n : Nat) : Fld := ⟨1065088 + 256 * n, 16, .im, .I, 0⟩
-- SPLICE_POS, 0x008600
def Reg.SPLICE_POS (n : Nat) : Fld := ⟨1097728 + 512 * n, 64, .im, .I, 0⟩
-- SPLICE_LEN, 0x008608
def Reg.SPLICE_LEN (n : Nat) : Fld := ⟨1097984 + 512 * n, 32, .im, .I, 0⟩
-- SPLICE_BIT, 0x00860C
def Reg.SPLICE_BIT (n : Nat) : Fld := ⟨1098112 + 512 * n, 8, .im, .I, 0⟩
-- WEAK_MAP, 0x008800
def Reg.WEAK_MAP_SEG (n : Nat) : Fld := ⟨1114112 + 128 * n, 10, .ro, .N, 0⟩
def Reg.WEAK_MAP_VALID (n : Nat) : Fld := ⟨1114127 + 128 * n, 1, .ro, .N, 0⟩
-- CHOIR_CFG, 0x009000
def Reg.CHOIR_CFG_ADDR : Fld := ⟨1179648, 4, .im, .I, 0⟩
def Reg.CHOIR_CFG_RATE : Fld := ⟨1179652, 1, .im, .I, 0⟩
def Reg.CHOIR_CFG_PORT_A_EN : Fld := ⟨1179653, 1, .im, .I, 0⟩
def Reg.CHOIR_CFG_PORT_B_EN : Fld := ⟨1179654, 1, .im, .I, 0⟩
-- CHOIR_DEVICES, 0x009004
def Reg.CHOIR_DEVICES_MASK : Fld := ⟨1179776, 16, .im, .I, 1⟩
def Reg.CHOIR_DEVICES_RANK_COUNT : Fld := ⟨1179792, 5, .im, .I, 1⟩
-- CHOIR_RANK, 0x009008
def Reg.CHOIR_RANK_RANK : Fld := ⟨1179904, 64, .im, .I, 0⟩
-- CHOIR_SUMWIN, 0x009010
def Reg.CHOIR_SUMWIN_SUM_WINDOW : Fld := ⟨1180160, 24, .im, .I, 2000⟩
-- PORT_ASYM, 0x009014
def Reg.PORT_ASYM_ASYM_A : Fld := ⟨1180288, 16, .im, .I, 0⟩
def Reg.PORT_ASYM_ASYM_B : Fld := ⟨1180304, 16, .im, .I, 0⟩
-- CHOIR_STATUS, 0x009020
def Reg.CHOIR_STATUS_STATE : Fld := ⟨1180672, 3, .ro, .S, 0⟩
def Reg.CHOIR_STATUS_HOLDOVER : Fld := ⟨1180675, 1, .ro, .S, 0⟩
def Reg.CHOIR_STATUS_CANTOR : Fld := ⟨1180676, 4, .ro, .S, 0⟩
def Reg.CHOIR_STATUS_PARENT : Fld := ⟨1180680, 2, .ro, .S, 0⟩
def Reg.CHOIR_STATUS_HOPS : Fld := ⟨1180682, 6, .ro, .S, 0⟩
def Reg.CHOIR_STATUS_CEPOCH : Fld := ⟨1180688, 16, .ro, .S, 0⟩
-- CHOIR_EVENT, 0x009024
def Reg.CHOIR_EVENT_ROLE : Fld := ⟨1180800, 1, .w1c, .S, 0⟩
def Reg.CHOIR_EVENT_JOIN : Fld := ⟨1180801, 1, .w1c, .S, 0⟩
def Reg.CHOIR_EVENT_UNJOIN : Fld := ⟨1180802, 1, .w1c, .S, 0⟩
def Reg.CHOIR_EVENT_STEP : Fld := ⟨1180803, 1, .w1c, .S, 0⟩
def Reg.CHOIR_EVENT_CFG_MISMATCH : Fld := ⟨1180804, 1, .w1c, .S, 0⟩
def Reg.CHOIR_EVENT_DUP_ADDR : Fld := ⟨1180805, 1, .w1c, .S, 0⟩
def Reg.CHOIR_EVENT_REALIGN : Fld := ⟨1180806, 1, .w1c, .S, 0⟩
def Reg.CHOIR_EVENT_RESULT_MISS : Fld := ⟨1180807, 1, .w1c, .S, 0⟩
-- CHOIR_ALIVE, 0x009028
def Reg.CHOIR_ALIVE_ALIVE : Fld := ⟨1180928, 16, .ro, .S, 0⟩
def Reg.CHOIR_ALIVE_JOINED : Fld := ⟨1180944, 16, .ro, .S, 0⟩
-- LATE_MASK, 0x00902C
def Reg.LATE_MASK_LATE : Fld := ⟨1181056, 16, .ro, .S, 0⟩
-- CHOIR_THETA, 0x009030
def Reg.CHOIR_THETA_VALUE : Fld := ⟨1181184, 32, .ro, .S, 0⟩
-- CHOIR_DELAY, 0x009034
def Reg.CHOIR_DELAY_VALUE : Fld := ⟨1181312, 32, .ro, .S, 0⟩
-- CHOIR_COUNTS, 0x009038
def Reg.CHOIR_COUNTS_STALE_COUNT : Fld := ⟨1181440, 16, .ro, .S, 0⟩
def Reg.CHOIR_COUNTS_SUM_AFTER : Fld := ⟨1181456, 16, .ro, .S, 0⟩
-- CHOIR_CMD, 0x009040
def Reg.CHOIR_CMD_CODE : Fld := ⟨1181696, 8, .cmd, .S, 0⟩
def Reg.CHOIR_CMD_PORT : Fld := ⟨1181704, 1, .cmd, .S, 0⟩
def Reg.CHOIR_CMD_ADDR : Fld := ⟨1181708, 4, .cmd, .S, 0⟩
-- LINK_STATE, 0x009100
def Reg.LINK_STATE_STATE (n : Nat) : Fld := ⟨1187840 + 2048 * n, 2, .ro, .S, 0⟩
def Reg.LINK_STATE_CLOCK_LANE (n : Nat) : Fld := ⟨1187842 + 2048 * n, 1, .ro, .S, 0⟩
def Reg.LINK_STATE_LANE_STATE_0 (n : Nat) : Fld := ⟨1187844 + 2048 * n, 3, .ro, .S, 0⟩
def Reg.LINK_STATE_LANE_STATE_1 (n : Nat) : Fld := ⟨1187848 + 2048 * n, 3, .ro, .S, 0⟩
def Reg.LINK_STATE_FAILS_0 (n : Nat) : Fld := ⟨1187852 + 2048 * n, 2, .ro, .S, 0⟩
def Reg.LINK_STATE_FAILS_1 (n : Nat) : Fld := ⟨1187854 + 2048 * n, 2, .ro, .S, 0⟩
def Reg.LINK_STATE_REPLAY_FILL (n : Nat) : Fld := ⟨1187856 + 2048 * n, 6, .ro, .S, 0⟩
-- LINK_FRAMES_TX, 0x009104
def Reg.LINK_FRAMES_TX_FRAMES_TX (n : Nat) : Fld := ⟨1187968 + 2048 * n, 32, .ro, .S, 0⟩
-- LINK_FRAMES_RX, 0x009108
def Reg.LINK_FRAMES_RX_FRAMES_RX (n : Nat) : Fld := ⟨1188096 + 2048 * n, 32, .ro, .S, 0⟩
-- LINK_ERR, 0x00910C
def Reg.LINK_ERR_CRC_ERR (n : Nat) : Fld := ⟨1188224 + 2048 * n, 16, .ro, .S, 0⟩
def Reg.LINK_ERR_NAK_RX (n : Nat) : Fld := ⟨1188240 + 2048 * n, 16, .ro, .S, 0⟩
-- LINK_RETRY, 0x009110
def Reg.LINK_RETRY_RETRIES (n : Nat) : Fld := ⟨1188352 + 2048 * n, 16, .ro, .S, 0⟩
def Reg.LINK_RETRY_RETRAINS (n : Nat) : Fld := ⟨1188368 + 2048 * n, 16, .ro, .S, 0⟩
-- LINK_CODE_ERR, 0x009114
def Reg.LINK_CODE_ERR_CODE_ERR_0 (n : Nat) : Fld := ⟨1188480 + 2048 * n, 16, .ro, .S, 0⟩
def Reg.LINK_CODE_ERR_CODE_ERR_1 (n : Nat) : Fld := ⟨1188496 + 2048 * n, 16, .ro, .S, 0⟩
-- LINK_DROP, 0x009118
def Reg.LINK_DROP_FWD_DROP (n : Nat) : Fld := ⟨1188608 + 2048 * n, 16, .ro, .S, 0⟩
def Reg.LINK_DROP_DUP_COUNT (n : Nat) : Fld := ⟨1188624 + 2048 * n, 16, .ro, .S, 0⟩
-- LINK_BAD, 0x00911C
def Reg.LINK_BAD_BAD_TYPE (n : Nat) : Fld := ⟨1188736 + 2048 * n, 16, .ro, .S, 0⟩
def Reg.LINK_BAD_SYNC_DISC (n : Nat) : Fld := ⟨1188752 + 2048 * n, 16, .ro, .S, 0⟩
-- CFG_STATUS, 0x00A000
def Reg.CFG_STATUS_CONFIGURED : Fld := ⟨1310720, 1, .ro, .S, 0⟩
def Reg.CFG_STATUS_ACTIVE_SLOT : Fld := ⟨1310721, 1, .ro, .S, 0⟩
def Reg.CFG_STATUS_SLOT_A : Fld := ⟨1310722, 3, .ro, .S, 0⟩
def Reg.CFG_STATUS_SLOT_B : Fld := ⟨1310725, 3, .ro, .S, 0⟩
def Reg.CFG_STATUS_FALLBACK : Fld := ⟨1310728, 1, .ro, .S, 0⟩
def Reg.CFG_STATUS_SIG_CHECKED : Fld := ⟨1310729, 1, .ro, .S, 0⟩
def Reg.CFG_STATUS_BOOT_ERR : Fld := ⟨1310730, 5, .ro, .S, 0⟩
def Reg.CFG_STATUS_HDR_BAD : Fld := ⟨1310735, 1, .ro, .S, 0⟩
-- APPLY_STATUS, 0x00A004
def Reg.APPLY_STATUS_STATE : Fld := ⟨1310848, 3, .ro, .S, 0⟩
def Reg.APPLY_STATUS_LEGAL : Fld := ⟨1310851, 1, .ro, .S, 0⟩
def Reg.APPLY_STATUS_CHOIR_WIDE : Fld := ⟨1310852, 1, .ro, .S, 0⟩
def Reg.APPLY_STATUS_RESULT : Fld := ⟨1310853, 5, .ro, .S, 0⟩
def Reg.APPLY_STATUS_TRANS_LEFT : Fld := ⟨1310864, 8, .ro, .S, 0⟩
-- APPLY_ERR_ADDR, 0x00A008
def Reg.APPLY_ERR_ADDR_ADDR : Fld := ⟨1310976, 32, .ro, .S, 4294967295⟩
-- CFG_CMD, 0x00A00C
def Reg.CFG_CMD_CODE : Fld := ⟨1311104, 8, .cmd, .S, 0⟩
-- ACTIVE_GEN, 0x00A010
def Reg.ACTIVE_GEN : Fld := ⟨1311232, 32, .ro, .S, 0⟩
-- STAGED_GEN, 0x00A014
def Reg.STAGED_GEN : Fld := ⟨1311360, 32, .ro, .S, 0⟩
-- CHECK_CODE, 0x00A018
def Reg.CHECK_CODE : Fld := ⟨1311488, 32, .ro, .S, 0⟩
-- CHECK_STAGED, 0x00A01C
def Reg.CHECK_STAGED : Fld := ⟨1311616, 32, .ro, .S, 0⟩
-- CHOIR_HASH, 0x00A020
def Reg.CHOIR_HASH : Fld := ⟨1311744, 32, .ro, .S, 0⟩
-- COMMON_HASH, 0x00A024
def Reg.COMMON_HASH : Fld := ⟨1311872, 32, .ro, .S, 0⟩
-- AUDIT_COUNT, 0x00A028
def Reg.AUDIT_COUNT : Fld := ⟨1312000, 32, .ro, .N, 0⟩
-- AUDIT_USED, 0x00A02C
def Reg.AUDIT_USED : Fld := ⟨1312128, 32, .ro, .N, 0⟩
-- AUDIT_CAP, 0x00A030
def Reg.AUDIT_CAP : Fld := ⟨1312256, 32, .ro, .N, 0⟩
-- SWITCH_PSEQ, 0x00A034
def Reg.SWITCH_PSEQ : Fld := ⟨1312384, 32, .ro, .S, 0⟩
-- SWITCH_ACK, 0x00A038
def Reg.SWITCH_ACK : Fld := ⟨1312512, 16, .ro, .S, 0⟩
-- TRANS_REST, 0x00A040
def Reg.TRANS_REST : Fld := ⟨1312768, 8, .im, .I, 1⟩
-- IMAGE_ID, 0x00A044
def Reg.IMAGE_ID : Fld := ⟨1312896, 32, .im, .I, 0⟩
-- BUILD_DATE, 0x00A048
def Reg.BUILD_DATE_DAY : Fld := ⟨1313024, 5, .im, .I, 0⟩
def Reg.BUILD_DATE_MONTH : Fld := ⟨1313032, 4, .im, .I, 0⟩
def Reg.BUILD_DATE_YEAR : Fld := ⟨1313040, 12, .im, .I, 0⟩
-- TOOL_VERSION, 0x00A04C
def Reg.TOOL_VERSION : Fld := ⟨1313152, 32, .im, .I, 0⟩
-- NAME, 0x00A050
def Reg.NAME : Fld := ⟨1313280, 256, .im, .I, 0⟩
-- KEY_HASH, 0x00A080
def Reg.KEY_HASH : Fld := ⟨1314816, 256, .ro, .F, 0⟩
-- FUSE_STAGE, 0x00A0A0
def Reg.FUSE_STAGE : Fld := ⟨1315840, 256, .rw, .S, 0⟩
-- FUSE_STATUS, 0x00A0C0
def Reg.FUSE_STATUS_KEY_SET : Fld := ⟨1316864, 1, .ro, .F, 0⟩
-- NVM_INFO, 0x00A0D0
def Reg.NVM_INFO_SIZE_LOG2 : Fld := ⟨1317376, 5, .ro, .S, 0⟩
def Reg.NVM_INFO_ADDR4 : Fld := ⟨1317381, 1, .ro, .S, 0⟩
def Reg.NVM_INFO_READ_CMD : Fld := ⟨1317384, 8, .ro, .S, 0⟩
def Reg.NVM_INFO_DUMMY : Fld := ⟨1317392, 4, .ro, .S, 0⟩
-- CAL_NOW, 0x00B000
def Reg.CAL_NOW_CAL : Fld := ⟨1441792, 64, .ro, .B, 562951057227907072⟩
-- CAL_SET, 0x00B008
def Reg.CAL_SET_CAL : Fld := ⟨1442048, 60, .rw, .S, 0⟩
-- CAL_CMD, 0x00B010
def Reg.CAL_CMD_CODE : Fld := ⟨1442304, 8, .cmd, .S, 0⟩
-- CAL_STATUS, 0x00B014
def Reg.CAL_STATUS_VALID : Fld := ⟨1442432, 1, .ro, .B, 0⟩
def Reg.CAL_STATUS_END : Fld := ⟨1442433, 1, .ro, .B, 0⟩
def Reg.CAL_STATUS_REJECT : Fld := ⟨1442434, 1, .w1c, .S, 0⟩
def Reg.CAL_STATUS_REJ_REASON : Fld := ⟨1442435, 2, .ro, .S, 0⟩
def Reg.CAL_STATUS_SOURCE : Fld := ⟨1442437, 1, .ro, .S, 0⟩
def Reg.CAL_STATUS_KCK_STOP : Fld := ⟨1442438, 1, .w1c, .S, 0⟩
-- CAL_SECOND, 0x00B018
def Reg.CAL_SECOND_TIME : Fld := ⟨1442560, 64, .ro, .S, 0⟩
-- LOG_CFG, 0x00B020
def Reg.LOG_CFG_FAULT_LEVEL : Fld := ⟨1442816, 2, .im, .I, 0⟩
def Reg.LOG_CFG_CAL_LOCK : Fld := ⟨1442818, 1, .im, .I, 0⟩
-- LOG_STATUS, 0x00B024
def Reg.LOG_STATUS_NVM_HOLD : Fld := ⟨1442944, 1, .ro, .S, 0⟩
def Reg.LOG_STATUS_MOUNTED : Fld := ⟨1442945, 1, .ro, .S, 0⟩
def Reg.LOG_STATUS_LOG_QUEUE : Fld := ⟨1442952, 8, .ro, .S, 0⟩
def Reg.LOG_STATUS_TOT_QUEUE : Fld := ⟨1442960, 6, .ro, .S, 0⟩
-- LOG_EVENT, 0x00B028
def Reg.LOG_EVENT_LOST : Fld := ⟨1443072, 1, .w1c, .S, 0⟩
def Reg.LOG_EVENT_RESOLVED : Fld := ⟨1443073, 1, .w1c, .S, 0⟩
def Reg.LOG_EVENT_TOT_VOID : Fld := ⟨1443074, 1, .w1c, .S, 0⟩
def Reg.LOG_EVENT_SECTOR_BAD : Fld := ⟨1443075, 1, .w1c, .S, 0⟩
-- LOG_NEWEST, 0x00B02C
def Reg.LOG_NEWEST_NEWEST : Fld := ⟨1443200, 32, .ro, .S, 0⟩
-- LOG_OLDEST, 0x00B030
def Reg.LOG_OLDEST_OLDEST : Fld := ⟨1443328, 32, .ro, .S, 0⟩
-- LOG_SECTORS, 0x00B034
def Reg.LOG_SECTORS_FREE : Fld := ⟨1443456, 16, .ro, .S, 0⟩
def Reg.LOG_SECTORS_JOURNAL : Fld := ⟨1443472, 16, .ro, .S, 0⟩
-- LOSS_TOTAL, 0x00B038
def Reg.LOSS_TOTAL : Fld := ⟨1443584, 32, .ro, .S, 0⟩
-- LOG_CUR, 0x00B03C
def Reg.LOG_CUR_CUR : Fld := ⟨1443712, 32, .rw, .S, 0⟩
-- LOG_CMD, 0x00B040
def Reg.LOG_CMD_CODE : Fld := ⟨1443840, 8, .cmd, .S, 0⟩
-- LOG_READ, 0x00B044
def Reg.LOG_READ_BUSY : Fld := ⟨1443968, 1, .ro, .S, 0⟩
def Reg.LOG_READ_RESULT : Fld := ⟨1443969, 2, .ro, .S, 0⟩
def Reg.LOG_READ_LEN : Fld := ⟨1443984, 9, .ro, .S, 0⟩
-- AUDIT_SEL, 0x00B048
def Reg.AUDIT_SEL_INDEX : Fld := ⟨1444096, 16, .rw, .S, 0⟩
-- BKP_REG, 0x00B400
def Reg.BKP_REG_DATA (n : Nat) : Fld := ⟨1474560 + 128 * n, 32, .rw, .B, 0⟩
-- RESET_CAUSE, 0x00C000
def Reg.RESET_CAUSE_POR : Fld := ⟨1572864, 1, .w1c, .B, 0⟩
def Reg.RESET_CAUSE_PIN : Fld := ⟨1572865, 1, .w1c, .B, 0⟩
def Reg.RESET_CAUSE_SOFT : Fld := ⟨1572866, 1, .w1c, .B, 0⟩
def Reg.RESET_CAUSE_LOAD : Fld := ⟨1572867, 1, .w1c, .B, 0⟩
def Reg.RESET_CAUSE_CHOIR : Fld := ⟨1572868, 1, .w1c, .B, 0⟩
def Reg.RESET_CAUSE_SAFE : Fld := ⟨1572869, 1, .w1c, .B, 0⟩
def Reg.RESET_CAUSE_RESUME : Fld := ⟨1572870, 1, .w1c, .B, 0⟩
def Reg.RESET_CAUSE_LAST : Fld := ⟨1572876, 3, .ro, .B, 0⟩
-- POWER_STATUS, 0x00C004
def Reg.POWER_STATUS_STATE : Fld := ⟨1572992, 3, .ro, .S, 0⟩
def Reg.POWER_STATUS_PREV : Fld := ⟨1572995, 2, .ro, .S, 0⟩
def Reg.POWER_STATUS_RESUMES : Fld := ⟨1573008, 16, .ro, .H, 0⟩
-- POWER_CMD, 0x00C008
def Reg.POWER_CMD_CODE : Fld := ⟨1573120, 8, .cmd, .S, 0⟩
-- SAFE_STATUS, 0x00C00C
def Reg.SAFE_STATUS_CAUSE : Fld := ⟨1573248, 3, .ro, .B, 0⟩
def Reg.SAFE_STATUS_PENDING : Fld := ⟨1573251, 1, .ro, .B, 0⟩
def Reg.SAFE_STATUS_CODE : Fld := ⟨1573264, 16, .ro, .B, 0⟩
-- FAULT_STATUS, 0x00C010
def Reg.FAULT_STATUS_LAST_CODE : Fld := ⟨1573376, 16, .ro, .S, 0⟩
def Reg.FAULT_STATUS_COUNT : Fld := ⟨1573392, 16, .ro, .S, 0⟩
-- FAULT_CMD, 0x00C014
def Reg.FAULT_CMD_CODE : Fld := ⟨1573504, 8, .cmd, .S, 0⟩
def Reg.FAULT_CMD_SRC : Fld := ⟨1573512, 8, .cmd, .S, 0⟩
-- SUPPLY_STATUS, 0x00C100
def Reg.SUPPLY_STATUS_CORE_OK : Fld := ⟨1581056, 1, .ro, .S, 1⟩
def Reg.SUPPLY_STATUS_LINK_OK : Fld := ⟨1581057, 1, .ro, .S, 1⟩
def Reg.SUPPLY_STATUS_VDDA_OK : Fld := ⟨1581058, 1, .ro, .S, 1⟩
def Reg.SUPPLY_STATUS_VIOV_OK : Fld := ⟨1581059, 1, .ro, .S, 1⟩
def Reg.SUPPLY_STATUS_VIOH_OK : Fld := ⟨1581060, 1, .ro, .S, 1⟩
def Reg.SUPPLY_STATUS_VBAT_OK : Fld := ⟨1581061, 1, .ro, .S, 1⟩
def Reg.SUPPLY_STATUS_VIOV_LEVEL : Fld := ⟨1581064, 2, .ro, .S, 0⟩
def Reg.SUPPLY_STATUS_BKP_SRC : Fld := ⟨1581066, 1, .ro, .S, 0⟩
-- SUPPLY_EVENT, 0x00C104
def Reg.SUPPLY_EVENT_MAIN_LOSS : Fld := ⟨1581184, 1, .w1c, .B, 0⟩
def Reg.SUPPLY_EVENT_VBAT_LOW : Fld := ⟨1581185, 1, .w1c, .B, 0⟩
def Reg.SUPPLY_EVENT_LOST_RAIL : Fld := ⟨1581188, 3, .ro, .B, 0⟩
-- STRAP_STATUS, 0x00C108
def Reg.STRAP_STATUS_ADDR : Fld := ⟨1581312, 4, .ro, .P, 0⟩
def Reg.STRAP_STATUS_MISMATCH : Fld := ⟨1581316, 1, .ro, .I, 0⟩
def Reg.STRAP_STATUS_CHANGED : Fld := ⟨1581317, 1, .w1c, .P, 0⟩
-- PIN_LEVEL, 0x00C10C
def Reg.PIN_LEVEL_SEAL_OPEN : Fld := ⟨1581440, 1, .ro, .S, 1⟩
def Reg.PIN_LEVEL_SEAL_RAW : Fld := ⟨1581441, 1, .ro, .S, 0⟩
def Reg.PIN_LEVEL_OCXO_RDY : Fld := ⟨1581442, 1, .ro, .S, 0⟩
def Reg.PIN_LEVEL_WAKE : Fld := ⟨1581443, 1, .ro, .S, 0⟩
def Reg.PIN_LEVEL_STRAP_LIVE : Fld := ⟨1581444, 4, .ro, .S, 0⟩
-- IO_CFG, 0x00C110
def Reg.IO_CFG_VIOV_EXPECT : Fld := ⟨1581568, 2, .im, .I, 3⟩
-- DIE_TEMP, 0x00C200
def Reg.DIE_TEMP_TEMP : Fld := ⟨1589248, 16, .ro, .S, 0⟩
def Reg.DIE_TEMP_TMAX : Fld := ⟨1589264, 16, .ro, .P, 32768⟩
-- SRAM_CORR, 0x00C300
def Reg.SRAM_CORR (n : Nat) : Fld := ⟨1597440 + 128 * n, 16, .ro, .S, 0⟩
def Reg.SRAM_CORR_SPARE_USED (n : Nat) : Fld := ⟨1597456 + 128 * n, 5, .ro, .P, 0⟩
-- UNCORR, 0x00C320
def Reg.UNCORR (n : Nat) : Fld := ⟨1598464 + 128 * n, 16, .ro, .S, 0⟩
-- RING_LOCK, 0x00C380
def Reg.RING_LOCK_BREAKS : Fld := ⟨1601536, 16, .ro, .S, 0⟩
def Reg.RING_LOCK_RING : Fld := ⟨1601552, 5, .ro, .S, 0⟩
def Reg.RING_LOCK_OWNER : Fld := ⟨1601560, 4, .ro, .S, 0⟩
-- STRIKE, 0x00C400
def Reg.STRIKE_STRIKES (n : Nat) : Fld := ⟨1605632 + 128 * n, 4, .ro, .S, 0⟩
def Reg.STRIKE_RETIRED (n : Nat) : Fld := ⟨1605636 + 128 * n, 1, .ro, .S, 0⟩
def Reg.STRIKE_PROBATION (n : Nat) : Fld := ⟨1605637 + 128 * n, 1, .ro, .S, 0⟩
def Reg.STRIKE_DECAY_COUNT (n : Nat) : Fld := ⟨1605640 + 128 * n, 16, .ro, .S, 0⟩
def Reg.STRIKE_PROB_LEFT (n : Nat) : Fld := ⟨1605656 + 128 * n, 8, .ro, .S, 0⟩
-- RING_CFG, 0x100000
def Reg.RING_CFG_SIZE (n : Nat) : Fld := ⟨33554432 + 131072 * n, 10, .im, .I, if n = 19 then 1 else if n = 23 then 4 else 0⟩
def Reg.RING_CFG_POLICY (n : Nat) : Fld := ⟨33554444 + 131072 * n, 1, .im, .I, 0⟩
def Reg.RING_CFG_WATERMARK (n : Nat) : Fld := ⟨33554448 + 131072 * n, 10, .im, .I, 0⟩
-- RING_BASE, 0x100004
def Reg.RING_BASE_INDEX (n : Nat) : Fld := ⟨33554560 + 131072 * n, 17, .ro, .I, 0⟩
-- RING_WR_PTR, 0x100008
def Reg.RING_WR_PTR_INDEX (n : Nat) : Fld := ⟨33554688 + 131072 * n, 17, .ro, .S, 0⟩
-- RING_RD_PTR, 0x10000C
def Reg.RING_RD_PTR_INDEX (n : Nat) : Fld := ⟨33554816 + 131072 * n, 17, .ro, .S, 0⟩
-- RING_FILL, 0x100010
def Reg.RING_FILL_WORDS (n : Nat) : Fld := ⟨33554944 + 131072 * n, 18, .ro, .S, 0⟩
-- RING_STATUS, 0x100014
def Reg.RING_STATUS_OVERWRITTEN (n : Nat) : Fld := ⟨33555072 + 131072 * n, 1, .w1c, .S, 0⟩
def Reg.RING_STATUS_DROPPED (n : Nat) : Fld := ⟨33555073 + 131072 * n, 1, .w1c, .S, 0⟩
def Reg.RING_STATUS_UNDERRUN (n : Nat) : Fld := ⟨33555074 + 131072 * n, 1, .w1c, .S, 0⟩
def Reg.RING_STATUS_FLUSHED (n : Nat) : Fld := ⟨33555075 + 131072 * n, 1, .w1c, .S, 0⟩
def Reg.RING_STATUS_ABOVE_WM (n : Nat) : Fld := ⟨33555076 + 131072 * n, 1, .ro, .S, 0⟩
def Reg.RING_STATUS_FULL (n : Nat) : Fld := ⟨33555077 + 131072 * n, 1, .ro, .S, 0⟩
-- RING_LOSS_COUNT, 0x100018
def Reg.RING_LOSS_COUNT_COUNT (n : Nat) : Fld := ⟨33555200 + 131072 * n, 32, .ro, .S, 0⟩
-- RING_CMD, 0x10001C
def Reg.RING_CMD_CODE (n : Nat) : Fld := ⟨33555328 + 131072 * n, 8, .cmd, .S, 0⟩

/-- A register, or a family of equal registers at fixed strides; `fields` are the fields of one of them. -/
structure RegRow where
  base : Nat
  stride : Nat
  count : Nat
  stride2 : Nat
  count2 : Nat
  words : Nat
  fields : Nat → Nat → List Fld

/-- Registers of the map, part 1, by rising address. -/
def regRows0 : List RegRow :=
  [⟨0x0, 0x0, 1, 0x0, 1, 1, fun _ _ => [Reg.DEVICE_ID_DEVICE, Reg.DEVICE_ID_MANUF]⟩,
   ⟨0x4, 0x0, 1, 0x0, 1, 1, fun _ _ => [Reg.SILICON_REV_LETTER, Reg.SILICON_REV_NUMBER, Reg.SILICON_REV_CODE]⟩,
   ⟨0x8, 0x0, 1, 0x0, 1, 2, fun _ _ => [Reg.SERIAL]⟩,
   ⟨0x10, 0x0, 1, 0x0, 1, 1, fun _ _ => [Reg.MAP_VERSION_MAJOR, Reg.MAP_VERSION_MINOR]⟩,
   ⟨0x14, 0x0, 1, 0x0, 1, 1, fun _ _ => [Reg.DEVICE_STATUS_CONFIGURED, Reg.DEVICE_STATUS_POWER, Reg.DEVICE_STATUS_RCK_MODE, Reg.DEVICE_STATUS_SEAL_OPEN, Reg.DEVICE_STATUS_ERROR, Reg.DEVICE_STATUS_IRQ, Reg.DEVICE_STATUS_CHOIR_STATE, Reg.DEVICE_STATUS_NVM_HOLD, Reg.DEVICE_STATUS_AUDIT_FULL, Reg.DEVICE_STATUS_BOOTING, Reg.DEVICE_STATUS_ADDR]⟩,
   ⟨0x18, 0x0, 1, 0x0, 1, 1, fun _ _ => [Reg.SCRATCH_DATA]⟩,
   ⟨0x800, 0x0, 1, 0x0, 1, 1, fun _ _ => [Reg.HOST_CFG_CRC_EN]⟩,
   ⟨0x804, 0x0, 1, 0x0, 1, 1, fun _ _ => [Reg.HOST_NOTIFY_EN_KINDS]⟩,
   ⟨0x808, 0x0, 1, 0x0, 1, 1, fun _ _ => [Reg.HOST_STATUS_LAST_CODE, Reg.HOST_STATUS_CRC_ACTIVE, Reg.HOST_STATUS_RCK_MODE, Reg.HOST_STATUS_BOOTING]⟩,
   ⟨0x80C, 0x0, 1, 0x0, 1, 1, fun _ _ => [Reg.HOST_ERR_ADDR_ADDR]⟩,
   ⟨0x810, 0x0, 1, 0x0, 1, 1, fun _ _ => [Reg.HOST_COUNT_A_REJECTS, Reg.HOST_COUNT_A_LEGAL_REJECTS]⟩,
   ⟨0x814, 0x0, 1, 0x0, 1, 1, fun _ _ => [Reg.HOST_COUNT_B_CRC_ERR, Reg.HOST_COUNT_B_NOT_READY]⟩,
   ⟨0x818, 0x0, 1, 0x0, 1, 1, fun _ _ => [Reg.HOST_IRQ_PEND_NOTIFY, Reg.HOST_IRQ_PEND_NOTIFY_LOST, Reg.HOST_IRQ_PEND_FAULT, Reg.HOST_IRQ_PEND_RCK_MODE]⟩,
   ⟨0x81C, 0x0, 1, 0x0, 1, 1, fun _ _ => [Reg.HOST_IRQ_EN_EN]⟩,
   ⟨0x820, 0x0, 1, 0x0, 1, 1, fun _ _ => [Reg.HOST_CMD_CODE, Reg.HOST_CMD_RING]⟩,
   ⟨0x830, 0x0, 1, 0x0, 1, 1, fun _ _ => [Reg.NVM_PT_ADDR]⟩,
   ⟨0x834, 0x0, 1, 0x0, 1, 1, fun _ _ => [Reg.NVM_PT_LEN]⟩,
   ⟨0x838, 0x0, 1, 0x0, 1, 1, fun _ _ => [Reg.NVM_PT_CMD_CODE]⟩,
   ⟨0x83C, 0x0, 1, 0x0, 1, 1, fun _ _ => [Reg.NVM_PT_STATUS_STATE, Reg.NVM_PT_STATUS_RESULT, Reg.NVM_PT_STATUS_OPS]⟩,
   ⟨0x840, 0x0, 1, 0x0, 1, 1, fun _ _ => [Reg.JTAG_STATUS_JTAG_RESET, Reg.JTAG_STATUS_CLEARING, Reg.JTAG_STATUS_PRIVATE_USED, Reg.JTAG_STATUS_REFUSED]⟩,
   ⟨0x900, 0x4, 64, 0x0, 1, 1, fun n _ => [Reg.NVM_PT_BUF_DATA n]⟩,
   ⟨0x1000, 0x0, 1, 0x0, 1, 1, fun _ _ => [Reg.TB_CFG_MODE, Reg.TB_CFG_CANTOR_REF, Reg.TB_CFG_RDY_USE, Reg.TB_CFG_REF_OUT_EN, Reg.TB_CFG_WARMUP_MAX]⟩,
   ⟨0x1004, 0x0, 1, 0x0, 1, 1, fun _ _ => [Reg.TB_STATUS_SOURCE, Reg.TB_STATUS_GATED, Reg.TB_STATUS_SPLL_LOCK, Reg.TB_STATUS_FPLL_LOCK, Reg.TB_STATUS_FCK_SRC, Reg.TB_STATUS_OCXO_STATE, Reg.TB_STATUS_STAB_COUNT, Reg.TB_STATUS_AGE_HELD, Reg.TB_STATUS_AGE_BEFORE_REF, Reg.TB_STATUS_REFOUT_SRC]⟩,
   ⟨0x1008, 0x0, 1, 0x0, 1, 1, fun _ _ => [Reg.TB_EVENT_RELOCK, Reg.TB_EVENT_REF_LOSS, Reg.TB_EVENT_OCXO_WINDOW, Reg.TB_EVENT_OCXO_DRIFT, Reg.TB_EVENT_RDY_FELL, Reg.TB_EVENT_SPLL_FAIL, Reg.TB_EVENT_OVERSPEED, Reg.TB_EVENT_XTAL_FAIL, Reg.TB_EVENT_WARMUP_LATE]⟩,
   ⟨0x1010, 0x0, 1, 0x0, 1, 1, fun _ _ => [Reg.AGE_A0_VALUE]⟩,
   ⟨0x1014, 0x0, 1, 0x0, 1, 1, fun _ _ => [Reg.AGE_A1_VALUE]⟩,
   ⟨0x1018, 0x0, 1, 0x0, 1, 1, fun _ _ => [Reg.AGE_D0_DAYS]⟩,
   ⟨0x101C, 0x0, 1, 0x0, 1, 1, fun _ _ => [Reg.AGE_REF_DATE_DAY, Reg.AGE_REF_DATE_MONTH, Reg.AGE_REF_DATE_YEAR]⟩,
   ⟨0x1020, 0x0, 1, 0x0, 1, 1, fun _ _ => [Reg.AGE_DAYS_D]⟩,
   ⟨0x1028, 0x0, 1, 0x0, 1, 2, fun _ _ => [Reg.AGE_EPS_EPS]⟩]

/-- Registers of the map, part 2, by rising address. -/
def regRows1 : List RegRow :=
  [⟨0x1030, 0x0, 1, 0x0, 1, 1, fun _ _ => [Reg.OCXO_OFFSET_VALUE]⟩,
   ⟨0x1034, 0x0, 1, 0x0, 1, 1, fun _ _ => [Reg.OCXO_DRIFT_VALUE]⟩,
   ⟨0x1038, 0x0, 1, 0x0, 1, 1, fun _ _ => [Reg.RELOCK_COUNT_COUNT]⟩,
   ⟨0x103C, 0x0, 1, 0x0, 1, 1, fun _ _ => [Reg.RELOCK_GAP_G]⟩,
   ⟨0x1040, 0x0, 1, 0x0, 1, 1, fun _ _ => [Reg.CHOIR_STEER_S]⟩,
   ⟨0x1044, 0x0, 1, 0x0, 1, 1, fun _ _ => [Reg.TB_CMD_CODE]⟩,
   ⟨0x1080, 0x0, 1, 0x0, 1, 1, fun _ _ => [Reg.EPOCH_COUNT_COUNT]⟩,
   ⟨0x1088, 0x0, 1, 0x0, 1, 2, fun _ _ => [Reg.TIME_NOW_TIME]⟩,
   ⟨0x2000, 0x100, 16, 0x0, 1, 1, fun n _ => [Reg.VOICE_CTRL_EN n, Reg.VOICE_CTRL_SRC n, Reg.VOICE_CTRL_MODE n, Reg.VOICE_CTRL_TERM n, Reg.VOICE_CTRL_EDGE n, Reg.VOICE_CTRL_TUNE_LOG n, Reg.VOICE_CTRL_BOUND_LOG n]⟩,
   ⟨0x2004, 0x100, 16, 0x0, 1, 1, fun n _ => [Reg.VOICE_ROUTE_WM n, Reg.VOICE_ROUTE_COMP n]⟩,
   ⟨0x2008, 0x100, 16, 0x0, 1, 1, fun n _ => [Reg.VOICE_DECIM_CFG_KMIN n, Reg.VOICE_DECIM_CFG_KMAX n, Reg.VOICE_DECIM_CFG_RUNT_LIMIT n]⟩,
   ⟨0x2010, 0x100, 16, 0x0, 1, 1, fun n _ => [Reg.VOICE_STATUS_STATE n, Reg.VOICE_STATUS_K n, Reg.VOICE_STATUS_FIFO_LEVEL n]⟩,
   ⟨0x2014, 0x100, 16, 0x0, 1, 1, fun n _ => [Reg.VOICE_EVENT_OVERRUN n, Reg.VOICE_EVENT_RUNT n, Reg.VOICE_EVENT_DECIM_UP n, Reg.VOICE_EVENT_DECIM_DOWN n, Reg.VOICE_EVENT_KMAX_HIT n, Reg.VOICE_EVENT_RETIRED n]⟩,
   ⟨0x2018, 0x100, 16, 0x0, 1, 1, fun n _ => [Reg.VOICE_RUNT_COUNT_COUNT n]⟩,
   ⟨0x201C, 0x100, 16, 0x0, 1, 1, fun n _ => [Reg.VOICE_OVERRUN_COUNT_COUNT n]⟩,
   ⟨0x2020, 0x100, 16, 0x0, 1, 2, fun n _ => [Reg.VOICE_EVTOTAL_COUNT n]⟩,
   ⟨0x2030, 0x100, 16, 0x0, 1, 1, fun n _ => [Reg.VOICE_CMD_CODE n]⟩,
   ⟨0x3000, 0x0, 1, 0x0, 1, 1, fun _ _ => [Reg.TUNE_CFG_AGE_MAX, Reg.TUNE_CFG_SHIFT_MAX]⟩,
   ⟨0x3004, 0x0, 1, 0x0, 1, 1, fun _ _ => [Reg.TUNE_VALID_CTX]⟩,
   ⟨0x3008, 0x0, 1, 0x0, 1, 1, fun _ _ => [Reg.TUNE_CMD_CODE, Reg.TUNE_CMD_CTX]⟩,
   ⟨0x300C, 0x0, 1, 0x0, 1, 1, fun _ _ => [Reg.TUNE_TABLE_SEL_CTX]⟩,
   ⟨0x3100, 0x20, 20, 0x0, 1, 1, fun n _ => [Reg.TUNE_STATUS_STATE n, Reg.TUNE_STATUS_PENDING n, Reg.TUNE_STATUS_MODE n, Reg.TUNE_STATUS_EMPTY n]⟩,
   ⟨0x3104, 0x20, 20, 0x0, 1, 1, fun n _ => [Reg.TUNE_HITS_COUNT n]⟩,
   ⟨0x3108, 0x20, 20, 0x0, 1, 1, fun n _ => [Reg.TUNE_SEQ_COUNT n]⟩,
   ⟨0x310C, 0x20, 20, 0x0, 1, 2, fun n _ => [Reg.TUNE_SWAP_TIME_TIME n]⟩,
   ⟨0x3114, 0x20, 20, 0x0, 1, 1, fun n _ => [Reg.TUNE_AGE_MS n]⟩,
   ⟨0x3118, 0x20, 20, 0x0, 1, 1, fun n _ => [Reg.TUNE_TEST_WIDEST n, Reg.TUNE_TEST_SHIFT n]⟩,
   ⟨0x311C, 0x20, 20, 0x0, 1, 1, fun n _ => [Reg.TUNE_DISCARD_COUNT n, Reg.TUNE_DISCARD_REJECTS n]⟩,
   ⟨0x4000, 0x0, 1, 0x0, 1, 1, fun _ _ => [Reg.WM_LEVEL_LEVEL]⟩,
   ⟨0x4008, 0x0, 1, 0x0, 1, 1, fun _ _ => [Reg.WM_CMD_CODE, Reg.WM_CMD_MASK]⟩]

/-- Registers of the map, part 3, by rising address. -/
def regRows2 : List RegRow :=
  [⟨0x4100, 0x20, 8, 0x0, 1, 1, fun n _ => [Reg.WM_CFG_EN n, Reg.WM_CFG_MODE n, Reg.WM_CFG_HYST n, Reg.WM_CFG_CLASS_COND n, Reg.WM_CFG_QUAL_EN n, Reg.WM_CFG_QUAL_EXC n]⟩,
   ⟨0x4104, 0x20, 8, 0x0, 1, 1, fun n _ => [Reg.WM_THRESH_LOWER n, Reg.WM_THRESH_UPPER n]⟩,
   ⟨0x4108, 0x20, 8, 0x0, 1, 1, fun n _ => [Reg.WM_LOSS_MASK_VOICES n]⟩,
   ⟨0x410C, 0x20, 8, 0x0, 1, 1, fun n _ => [Reg.WM_THRESH_LIVE_LOWER n, Reg.WM_THRESH_LIVE_UPPER n, Reg.WM_THRESH_LIVE_HYST n]⟩,
   ⟨0x4110, 0x20, 8, 0x0, 1, 1, fun n _ => [Reg.WM_STATUS_STATE n, Reg.WM_STATUS_FAIL_STEP n, Reg.WM_STATUS_SEEN_UP n, Reg.WM_STATUS_SEEN_LO n]⟩,
   ⟨0x4114, 0x20, 8, 0x0, 1, 1, fun n _ => [Reg.WM_COND_COUNT_COUNT n]⟩,
   ⟨0x4800, 0x40, 8, 0x0, 1, 1, fun n _ => [Reg.EXC_CFG_MODE n, Reg.EXC_CFG_ACTIVE n, Reg.EXC_CFG_SAFE n, Reg.EXC_CFG_SYNC_VOICE n]⟩,
   ⟨0x4804, 0x40, 8, 0x0, 1, 1, fun n _ => [Reg.EXC_TRIP_SEL n, Reg.EXC_TRIP_QUAL n, Reg.EXC_TRIP_BLANK n]⟩,
   ⟨0x4808, 0x40, 8, 0x0, 1, 1, fun n _ => [Reg.EXC_DELAY_FCK n]⟩,
   ⟨0x480C, 0x40, 8, 0x0, 1, 1, fun n _ => [Reg.EXC_WIDTH_FCK n]⟩,
   ⟨0x4810, 0x40, 8, 0x0, 1, 1, fun n _ => [Reg.EXC_SPACING_FCK n]⟩,
   ⟨0x4814, 0x40, 8, 0x0, 1, 1, fun n _ => [Reg.EXC_COUNT_PULSES n]⟩,
   ⟨0x4818, 0x40, 8, 0x0, 1, 1, fun n _ => [Reg.EXC_F_START_F n]⟩,
   ⟨0x481C, 0x40, 8, 0x0, 1, 1, fun n _ => [Reg.EXC_F_STEP_F n]⟩,
   ⟨0x4820, 0x40, 8, 0x0, 1, 1, fun n _ => [Reg.EXC_SWEEP_STEPS n, Reg.EXC_SWEEP_CYCLES n]⟩,
   ⟨0x4824, 0x40, 8, 0x0, 1, 1, fun n _ => [Reg.EXC_STATUS_STATE n, Reg.EXC_STATUS_TRIP_LIVE n, Reg.EXC_STATUS_CHECK_FAIL n, Reg.EXC_STATUS_STEP n]⟩,
   ⟨0x4828, 0x40, 8, 0x0, 1, 1, fun n _ => [Reg.EXC_TRIP_COUNT_COUNT n]⟩,
   ⟨0x482C, 0x40, 8, 0x0, 1, 1, fun n _ => [Reg.EXC_SKIP_COUNT_COUNT n]⟩,
   ⟨0x5000, 0x0, 1, 0x0, 1, 1, fun _ _ => [Reg.FIT_CFG_CLOSE_WIN]⟩,
   ⟨0x5004, 0x0, 1, 0x0, 1, 1, fun _ _ => [Reg.FIT_STATUS_QUEUE, Reg.FIT_STATUS_BUSY]⟩,
   ⟨0x5008, 0x0, 1, 0x0, 1, 1, fun _ _ => [Reg.FIT_EVENT_CLOSE_LATE, Reg.FIT_EVENT_SILENCE]⟩,
   ⟨0x500C, 0x0, 1, 0x0, 1, 1, fun _ _ => [Reg.FIT_CMD_CODE, Reg.FIT_CMD_CTX]⟩,
   ⟨0x5020, 0x10, 4, 0x0, 1, 1, fun n _ => [Reg.TIMER_LENGTH_US n]⟩,
   ⟨0x5024, 0x10, 4, 0x0, 1, 1, fun n _ => [Reg.TIMER_PHASE_US n]⟩,
   ⟨0x5028, 0x10, 4, 0x0, 1, 1, fun n _ => [Reg.TIMER_PCOUNT_COUNT n]⟩,
   ⟨0x502C, 0x10, 4, 0x0, 1, 1, fun n _ => [Reg.TIMER_STATUS_RUNNING n, Reg.TIMER_STATUS_HOLD n]⟩,
   ⟨0x5100, 0x20, 16, 0x0, 1, 1, fun n _ => [Reg.FIT_VOICE_CFG_EN n, Reg.FIT_VOICE_CFG_TIMER n]⟩,
   ⟨0x5104, 0x20, 16, 0x0, 1, 1, fun n _ => [Reg.FIT_VOICE_MIN_STAMPS_VALUE n]⟩,
   ⟨0x5108, 0x20, 16, 0x0, 1, 1, fun n _ => [Reg.FIT_VOICE_SILENCE_MAX_VALUE n]⟩,
   ⟨0x5110, 0x20, 16, 0x0, 1, 2, fun n _ => [Reg.FIT_VOICE_NOM_HZ n]⟩]

/-- Registers of the map, part 4, by rising address. -/
def regRows3 : List RegRow :=
  [⟨0x5118, 0x20, 16, 0x0, 1, 1, fun n _ => [Reg.FIT_VOICE_STATUS_REST_LAST n, Reg.FIT_VOICE_STATUS_SILENT n]⟩,
   ⟨0x511C, 0x20, 16, 0x0, 1, 1, fun n _ => [Reg.FIT_VOICE_REST_COUNT_COUNT n]⟩,
   ⟨0x5300, 0x20, 8, 0x0, 1, 1, fun n _ => [Reg.FIT_PAIR_CFG_EN n, Reg.FIT_PAIR_CFG_VOICE_A n, Reg.FIT_PAIR_CFG_VOICE_B n]⟩,
   ⟨0x5304, 0x20, 8, 0x0, 1, 1, fun n _ => [Reg.FIT_PAIR_WIN_START_US n]⟩,
   ⟨0x5308, 0x20, 8, 0x0, 1, 1, fun n _ => [Reg.FIT_PAIR_WIN_END_US n]⟩,
   ⟨0x5310, 0x20, 8, 0x0, 1, 2, fun n _ => [Reg.FIT_PAIR_NOM_RATIO n]⟩,
   ⟨0x5318, 0x20, 8, 0x0, 1, 1, fun n _ => [Reg.FIT_PAIR_STATUS_VALUE n]⟩,
   ⟨0x531C, 0x20, 8, 0x0, 1, 1, fun n _ => [Reg.FIT_PAIR_REST_COUNT_VALUE n]⟩,
   ⟨0x5400, 0x0, 1, 0x0, 1, 1, fun _ _ => [Reg.ALLAN_SEL_CTX]⟩,
   ⟨0x5F00, 0x0, 1, 0x0, 1, 1, fun _ _ => [Reg.STRIKE_CFG_RETIRE, Reg.STRIKE_CFG_DECAY, Reg.STRIKE_CFG_PROBATION]⟩,
   ⟨0x6000, 0x0, 1, 0x0, 1, 1, fun _ _ => [Reg.CAP_CFG_EN, Reg.CAP_CFG_SEGS, Reg.CAP_CFG_NO_TUNE, Reg.CAP_CFG_TRIG_MASK]⟩,
   ⟨0x6004, 0x0, 1, 0x0, 1, 1, fun _ _ => [Reg.CAP_VOICES_VALUE]⟩,
   ⟨0x6008, 0x0, 1, 0x0, 1, 1, fun _ _ => [Reg.CAP_PRE_VALUE]⟩,
   ⟨0x600C, 0x0, 1, 0x0, 1, 1, fun _ _ => [Reg.CAP_REARM_US]⟩,
   ⟨0x6010, 0x0, 1, 0x0, 1, 1, fun _ _ => [Reg.CAP_TIMEOUT_VALUE]⟩,
   ⟨0x6014, 0x0, 1, 0x0, 1, 1, fun _ _ => [Reg.CAP_STATUS_STATE, Reg.CAP_STATUS_FLUSHED, Reg.CAP_STATUS_SEG, Reg.CAP_STATUS_CSEQ]⟩,
   ⟨0x6018, 0x0, 1, 0x0, 1, 2, fun _ _ => [Reg.CAP_FREE_SEGS]⟩,
   ⟨0x6020, 0x0, 1, 0x0, 1, 1, fun _ _ => [Reg.CAP_CMD_CODE, Reg.CAP_CMD_SEG]⟩,
   ⟨0x6100, 0x80, 4, 0x0, 1, 1, fun n _ => [Reg.ANA_CFG_MODE n, Reg.ANA_CFG_TIMER n, Reg.ANA_CFG_VOICE_S n, Reg.ANA_CFG_VOICE_T n, Reg.ANA_CFG_EDGE_S n, Reg.ANA_CFG_EDGE_T n, Reg.ANA_CFG_POL n, Reg.ANA_CFG_HIST_EN n, Reg.ANA_CFG_HIST_PER n]⟩,
   ⟨0x6104, 0x80, 4, 0x0, 1, 1, fun n _ => [Reg.ANA_TRIG_COND n, Reg.ANA_TRIG_VOICE n, Reg.ANA_TRIG_EDGE n, Reg.ANA_TRIG_FLAGS n]⟩,
   ⟨0x6108, 0x80, 4, 0x0, 1, 1, fun n _ => [Reg.ANA_MIN_MEAS_MIN_MEAS n]⟩,
   ⟨0x610C, 0x80, 4, 0x0, 1, 1, fun n _ => [Reg.ANA_HIST_SHIFT_HIST_SHIFT n]⟩,
   ⟨0x6110, 0x80, 4, 0x0, 1, 2, fun n _ => [Reg.ANA_LIM_LO_LIM_LO n]⟩,
   ⟨0x6118, 0x80, 4, 0x0, 1, 2, fun n _ => [Reg.ANA_LIM_HI_LIM_HI n]⟩,
   ⟨0x6120, 0x80, 4, 0x0, 1, 2, fun n _ => [Reg.ANA_HIST_ORIGIN_HIST_ORIGIN n]⟩,
   ⟨0x6128, 0x80, 4, 0x0, 1, 1, fun n _ => [Reg.ANA_CMD_CODE n]⟩,
   ⟨0x612C, 0x80, 4, 0x0, 1, 1, fun n _ => [Reg.ANA_MISS_COUNT n, Reg.ANA_MISS_FILL n, Reg.ANA_MISS_LOST n]⟩,
   ⟨0x6130, 0x80, 4, 0x0, 1, 1, fun n _ => [Reg.ANA_HIST_UNDER_HIST_UNDER n]⟩,
   ⟨0x6134, 0x80, 4, 0x0, 1, 1, fun n _ => [Reg.ANA_HIST_OVER_HIST_OVER n]⟩,
   ⟨0x6138, 0x80, 4, 0x0, 1, 1, fun n _ => [Reg.ANA_HISTST_REASON n, Reg.ANA_HISTST_REST_SEEN n, Reg.ANA_HISTST_HSEQ n]⟩]

/-- Registers of the map, part 5, by rising address. -/
def regRows4 : List RegRow :=
  [⟨0x6140, 0x80, 4, 0x0, 1, 1, fun n _ => [Reg.ANA_RSEQ_RSEQ n]⟩,
   ⟨0x6144, 0x80, 4, 0x0, 1, 1, fun n _ => [Reg.ANA_RSTAT_REASON n, Reg.ANA_RSTAT_CAUSES n, Reg.ANA_RSTAT_DECIM n, Reg.ANA_RSTAT_TOTAL_SUSPECT n]⟩,
   ⟨0x6148, 0x80, 4, 0x0, 1, 2, fun n _ => [Reg.ANA_START_START n]⟩,
   ⟨0x6150, 0x80, 4, 0x0, 1, 1, fun n _ => [Reg.ANA_COUNT_COUNT n]⟩,
   ⟨0x6154, 0x80, 4, 0x0, 1, 1, fun n _ => [Reg.ANA_UNPAIRED_UNPAIRED n]⟩,
   ⟨0x6158, 0x80, 4, 0x0, 1, 2, fun n _ => [Reg.ANA_VALUE_VALUE n]⟩,
   ⟨0x6160, 0x80, 4, 0x0, 1, 2, fun n _ => [Reg.ANA_SD_SD n]⟩,
   ⟨0x6168, 0x80, 4, 0x0, 1, 2, fun n _ => [Reg.ANA_MIN_MIN n]⟩,
   ⟨0x6170, 0x80, 4, 0x0, 1, 2, fun n _ => [Reg.ANA_MAX_MAX n]⟩,
   ⟨0x6178, 0x80, 4, 0x0, 1, 1, fun _ _ => []⟩,
   ⟨0x617C, 0x80, 4, 0x0, 1, 1, fun _ _ => []⟩,
   ⟨0x6400, 0x0, 1, 0x0, 1, 1, fun _ _ => [Reg.HIST_SEL_ANA, Reg.HIST_SEL_HALF]⟩,
   ⟨0x7000, 0x0, 1, 0x0, 1, 1, fun _ _ => [Reg.PIPE_CFG_TIMER, Reg.PIPE_CFG_UNIT, Reg.PIPE_CFG_RANGES, Reg.PIPE_CFG_INIT_ZERO_EN, Reg.PIPE_CFG_ZT_EN, Reg.PIPE_CFG_IIR_EN, Reg.PIPE_CFG_OP_MASK, Reg.PIPE_CFG_N_MA, Reg.PIPE_CFG_REST_HOLD_MAX]⟩,
   ⟨0x7004, 0x0, 1, 0x0, 1, 1, fun _ _ => [Reg.PIPE_MOTION_WIN, Reg.PIPE_MOTION_K, Reg.PIPE_MOTION_UNDER_E]⟩,
   ⟨0x7010, 0x0, 1, 0x0, 1, 2, fun _ _ => [Reg.E_BASE]⟩,
   ⟨0x7020, 0x10, 3, 0x0, 1, 2, fun n _ => [Reg.RANGE_MAX n]⟩,
   ⟨0x7028, 0x10, 3, 0x0, 1, 1, fun n _ => [Reg.RANGE_MULT n]⟩,
   ⟨0x7050, 0x0, 1, 0x0, 1, 2, fun _ _ => [Reg.IZ_NEG]⟩,
   ⟨0x7058, 0x0, 1, 0x0, 1, 2, fun _ _ => [Reg.IZ_POS]⟩,
   ⟨0x7060, 0x0, 1, 0x0, 1, 2, fun _ _ => [Reg.ZR_NEG]⟩,
   ⟨0x7068, 0x0, 1, 0x0, 1, 2, fun _ _ => [Reg.ZR_POS]⟩,
   ⟨0x7070, 0x0, 1, 0x0, 1, 2, fun _ _ => [Reg.TARE_MAX]⟩,
   ⟨0x7080, 0x0, 1, 0x0, 1, 2, fun _ _ => [Reg.IIR_B0]⟩,
   ⟨0x7088, 0x0, 1, 0x0, 1, 2, fun _ _ => [Reg.IIR_B1]⟩,
   ⟨0x7090, 0x0, 1, 0x0, 1, 2, fun _ _ => [Reg.IIR_B2]⟩,
   ⟨0x7098, 0x0, 1, 0x0, 1, 2, fun _ _ => [Reg.IIR_A1]⟩,
   ⟨0x70A0, 0x0, 1, 0x0, 1, 2, fun _ _ => [Reg.IIR_A2]⟩,
   ⟨0x7100, 0x0, 1, 0x0, 1, 1, fun _ _ => [Reg.PIPE_STATUS_INIT_DONE, Reg.PIPE_STATUS_READY, Reg.PIPE_STATUS_ZT_LIMIT, Reg.PIPE_STATUS_PRINT_ARMED, Reg.PIPE_STATUS_FED, Reg.PIPE_STATUS_MOTION_FILL]⟩,
   ⟨0x7104, 0x0, 1, 0x0, 1, 1, fun _ _ => [Reg.PIPE_EVENT_ERROR_ENTRY, Reg.PIPE_EVENT_ZT_LIMIT_HIT, Reg.PIPE_EVENT_PULSE_LOST, Reg.PIPE_EVENT_RANGE_UP, Reg.PIPE_EVENT_RANGE_DOWN]⟩,
   ⟨0x7400, 0x0, 1, 0x0, 1, 1, fun _ _ => [Reg.LR_WEIGHT_WEIGHT]⟩]

/-- Registers of the map, part 6, by rising address. -/
def regRows5 : List RegRow :=
  [⟨0x7404, 0x0, 1, 0x0, 1, 1, fun _ _ => [Reg.LR_STATUS_STABLE, Reg.LR_STATUS_CENTER_ZERO, Reg.LR_STATUS_RANGE, Reg.LR_STATUS_NET, Reg.LR_STATUS_OVERLOAD, Reg.LR_STATUS_UNDERLOAD, Reg.LR_STATUS_ERROR, Reg.LR_STATUS_ERR_CAUSE, Reg.LR_STATUS_RESTS, Reg.LR_STATUS_REST_REASON]⟩,
   ⟨0x7408, 0x0, 1, 0x0, 1, 1, fun _ _ => [Reg.LR_TARE_TARE]⟩,
   ⟨0x740C, 0x0, 1, 0x0, 1, 1, fun _ _ => [Reg.LR_SEQ_SEQ, Reg.LR_SEQ_PSEQ]⟩,
   ⟨0x7420, 0x0, 1, 0x0, 1, 1, fun _ _ => [Reg.OP_CMD_CODE]⟩,
   ⟨0x7424, 0x0, 1, 0x0, 1, 1, fun _ _ => [Reg.OP_STATUS_SEQ, Reg.OP_STATUS_PENDING, Reg.OP_STATUS_RESULT, Reg.OP_STATUS_CODE]⟩,
   ⟨0x7500, 0x10, 4, 0x0, 1, 1, fun n _ => [Reg.SP_CFG_SRC n, Reg.SP_CFG_DIR n, Reg.SP_CFG_SAFE n, Reg.SP_CFG_REQ_STABLE n, Reg.SP_CFG_ACTIVE_LEVEL n]⟩,
   ⟨0x7504, 0x10, 4, 0x0, 1, 1, fun n _ => [Reg.SP_LEVEL_LEVEL n]⟩,
   ⟨0x7508, 0x10, 4, 0x0, 1, 1, fun n _ => [Reg.SP_HYST_HYST n]⟩,
   ⟨0x750C, 0x10, 4, 0x0, 1, 1, fun n _ => [Reg.SP_STATE_ON n, Reg.SP_STATE_FORCED n]⟩,
   ⟨0x7580, 0x0, 1, 0x0, 1, 1, fun _ _ => [Reg.TOT_CFG_SRC, Reg.TOT_CFG_WIDTH]⟩,
   ⟨0x7584, 0x0, 1, 0x0, 1, 1, fun _ _ => [Reg.TOT_UNIT]⟩,
   ⟨0x7588, 0x0, 1, 0x0, 1, 2, fun _ _ => [Reg.TOT_D]⟩,
   ⟨0x7590, 0x0, 1, 0x0, 1, 2, fun _ _ => [Reg.TOTAL]⟩,
   ⟨0x7598, 0x0, 1, 0x0, 1, 1, fun _ _ => [Reg.TOT_BACKLOG]⟩,
   ⟨0x759C, 0x0, 1, 0x0, 1, 1, fun _ _ => [Reg.PRINT_COUNT]⟩,
   ⟨0x7600, 0x0, 1, 0x0, 1, 2, fun _ _ => [Reg.DIAG_S_S]⟩,
   ⟨0x7608, 0x0, 1, 0x0, 1, 2, fun _ _ => [Reg.DIAG_F_F]⟩,
   ⟨0x7610, 0x0, 1, 0x0, 1, 2, fun _ _ => [Reg.DIAG_Z_Z]⟩,
   ⟨0x7618, 0x0, 1, 0x0, 1, 2, fun _ _ => [Reg.DIAG_Z_INIT_Z_INIT]⟩,
   ⟨0x7620, 0x0, 1, 0x0, 1, 2, fun _ _ => [Reg.DIAG_G_G]⟩,
   ⟨0x7628, 0x0, 1, 0x0, 1, 2, fun _ _ => [Reg.DIAG_T_T]⟩,
   ⟨0x7630, 0x8, 8, 0x0, 1, 2, fun n _ => [Reg.DIAG_V_V n]⟩,
   ⟨0x7800, 0x100, 8, 0x0, 1, 1, fun n _ => [Reg.CELL_CFG_EN n, Reg.CELL_CFG_PAIR n]⟩,
   ⟨0x7808, 0x100, 8, 0x0, 1, 2, fun n _ => [Reg.CELL_Q_REF_Q_REF n]⟩,
   ⟨0x7810, 0x100, 8, 0x0, 1, 2, fun n _ => [Reg.CELL_Q_MIN_Q_MIN n]⟩,
   ⟨0x7818, 0x100, 8, 0x0, 1, 2, fun n _ => [Reg.CELL_Q_MAX_Q_MAX n]⟩,
   ⟨0x7820, 0x100, 8, 0x0, 1, 2, fun n _ => [Reg.CELL_NOM_T_NOM_T n]⟩,
   ⟨0x7828, 0x100, 8, 0x0, 1, 2, fun n _ => [Reg.CELL_GAIN_GAIN n]⟩,
   ⟨0x7830, 0x100, 8, 0x8, 15, 2, fun n j => [Reg.CELL_COEF_COEF n j]⟩,
   ⟨0x8000, 0x0, 1, 0x0, 1, 1, fun _ _ => [Reg.TRACK_CFG_EN, Reg.TRACK_CFG_LAMP_EN, Reg.TRACK_CFG_LAMP_EXC, Reg.TRACK_CFG_SHOCK_COND, Reg.TRACK_CFG_LOOP_SHIFT, Reg.TRACK_CFG_BELT_ID]⟩]

/-- Registers of the map, part 7, by rising address. -/
def regRows6 : List RegRow :=
  [⟨0x8004, 0x0, 1, 0x0, 1, 1, fun _ _ => [Reg.TRACK_CELL_CELL_LEN]⟩,
   ⟨0x8008, 0x0, 1, 0x0, 1, 1, fun _ _ => [Reg.TRACK_DETECT_SIGMA, Reg.TRACK_DETECT_HEAVY_ERAS, Reg.TRACK_DETECT_SPLICE_COUNT]⟩,
   ⟨0x8010, 0x0, 1, 0x0, 1, 2, fun _ _ => [Reg.BELT_LEN]⟩,
   ⟨0x8018, 0x0, 1, 0x0, 1, 2, fun _ _ => [Reg.TACH_UM]⟩,
   ⟨0x8020, 0x0, 1, 0x0, 1, 2, fun _ _ => [Reg.BRIDGE_OFFSET]⟩,
   ⟨0x8028, 0x0, 1, 0x0, 1, 1, fun _ _ => [Reg.WEIGH_LEN]⟩,
   ⟨0x802C, 0x0, 1, 0x0, 1, 1, fun _ _ => [Reg.POS_ERR_MAX]⟩,
   ⟨0x8030, 0x0, 1, 0x0, 1, 1, fun _ _ => [Reg.DR_MAX]⟩,
   ⟨0x8034, 0x0, 1, 0x0, 1, 1, fun _ _ => [Reg.V_MAX]⟩,
   ⟨0x8038, 0x0, 1, 0x0, 1, 2, fun _ _ => [Reg.PROF_MAX]⟩,
   ⟨0x8040, 0x0, 1, 0x0, 1, 1, fun _ _ => [Reg.TRACK_STATUS_STATE, Reg.TRACK_STATUS_ZONE_HEAD, Reg.TRACK_STATUS_ZONE_BRIDGE, Reg.TRACK_STATUS_PROF_VALID, Reg.TRACK_STATUS_WEAK_FULL, Reg.TRACK_STATUS_LEARNING]⟩,
   ⟨0x8044, 0x0, 1, 0x0, 1, 1, fun _ _ => [Reg.TRACK_EVENT_POS_FAIL, Reg.TRACK_EVENT_SHOCK, Reg.TRACK_EVENT_DR_LIMIT, Reg.TRACK_EVENT_PROVISIONAL, Reg.TRACK_EVENT_SPEED_HIGH, Reg.TRACK_EVENT_REALLOC, Reg.TRACK_EVENT_LEARN_DONE]⟩,
   ⟨0x8048, 0x0, 1, 0x0, 1, 2, fun _ _ => [Reg.POS_HEAD]⟩,
   ⟨0x8050, 0x0, 1, 0x0, 1, 2, fun _ _ => [Reg.POS_BRIDGE]⟩,
   ⟨0x8058, 0x0, 1, 0x0, 1, 1, fun _ _ => [Reg.SPEED]⟩,
   ⟨0x805C, 0x0, 1, 0x0, 1, 1, fun _ _ => [Reg.REV]⟩,
   ⟨0x8060, 0x0, 1, 0x0, 1, 1, fun _ _ => [Reg.FRAME_OK]⟩,
   ⟨0x8064, 0x0, 1, 0x0, 1, 1, fun _ _ => [Reg.FRAME_FAIL]⟩,
   ⟨0x8068, 0x0, 1, 0x0, 1, 1, fun _ _ => [Reg.FRAME_LATE]⟩,
   ⟨0x806C, 0x0, 1, 0x0, 1, 1, fun _ _ => [Reg.FRAME_HEAVY]⟩,
   ⟨0x8070, 0x0, 1, 0x0, 1, 1, fun _ _ => [Reg.LAST_ERR]⟩,
   ⟨0x8078, 0x0, 1, 0x0, 1, 2, fun _ _ => [Reg.PROV]⟩,
   ⟨0x8080, 0x0, 1, 0x0, 1, 1, fun _ _ => [Reg.PROV_COUNT]⟩,
   ⟨0x8088, 0x0, 1, 0x0, 1, 2, fun _ _ => [Reg.RES_RAW]⟩,
   ⟨0x8090, 0x0, 1, 0x0, 1, 1, fun _ _ => [Reg.TRACK_CMD_CODE]⟩,
   ⟨0x8094, 0x0, 1, 0x0, 1, 1, fun _ _ => [Reg.PROF_SEL_GROUP]⟩,
   ⟨0x8200, 0x8, 64, 0x0, 1, 1, fun n _ => [Reg.ZONE_A_THR_OFF n, Reg.ZONE_A_HYST n]⟩,
   ⟨0x8204, 0x8, 64, 0x0, 1, 1, fun n _ => [Reg.ZONE_B_ASYM n]⟩,
   ⟨0x8600, 0x10, 16, 0x0, 1, 2, fun n _ => [Reg.SPLICE_POS n]⟩,
   ⟨0x8608, 0x10, 16, 0x0, 1, 1, fun n _ => [Reg.SPLICE_LEN n]⟩]

/-- Registers of the map, part 8, by rising address. -/
def regRows7 : List RegRow :=
  [⟨0x860C, 0x10, 16, 0x0, 1, 1, fun n _ => [Reg.SPLICE_BIT n]⟩,
   ⟨0x8800, 0x4, 64, 0x0, 1, 1, fun n _ => [Reg.WEAK_MAP_SEG n, Reg.WEAK_MAP_VALID n]⟩,
   ⟨0x9000, 0x0, 1, 0x0, 1, 1, fun _ _ => [Reg.CHOIR_CFG_ADDR, Reg.CHOIR_CFG_RATE, Reg.CHOIR_CFG_PORT_A_EN, Reg.CHOIR_CFG_PORT_B_EN]⟩,
   ⟨0x9004, 0x0, 1, 0x0, 1, 1, fun _ _ => [Reg.CHOIR_DEVICES_MASK, Reg.CHOIR_DEVICES_RANK_COUNT]⟩,
   ⟨0x9008, 0x0, 1, 0x0, 1, 2, fun _ _ => [Reg.CHOIR_RANK_RANK]⟩,
   ⟨0x9010, 0x0, 1, 0x0, 1, 1, fun _ _ => [Reg.CHOIR_SUMWIN_SUM_WINDOW]⟩,
   ⟨0x9014, 0x0, 1, 0x0, 1, 1, fun _ _ => [Reg.PORT_ASYM_ASYM_A, Reg.PORT_ASYM_ASYM_B]⟩,
   ⟨0x9020, 0x0, 1, 0x0, 1, 1, fun _ _ => [Reg.CHOIR_STATUS_STATE, Reg.CHOIR_STATUS_HOLDOVER, Reg.CHOIR_STATUS_CANTOR, Reg.CHOIR_STATUS_PARENT, Reg.CHOIR_STATUS_HOPS, Reg.CHOIR_STATUS_CEPOCH]⟩,
   ⟨0x9024, 0x0, 1, 0x0, 1, 1, fun _ _ => [Reg.CHOIR_EVENT_ROLE, Reg.CHOIR_EVENT_JOIN, Reg.CHOIR_EVENT_UNJOIN, Reg.CHOIR_EVENT_STEP, Reg.CHOIR_EVENT_CFG_MISMATCH, Reg.CHOIR_EVENT_DUP_ADDR, Reg.CHOIR_EVENT_REALIGN, Reg.CHOIR_EVENT_RESULT_MISS]⟩,
   ⟨0x9028, 0x0, 1, 0x0, 1, 1, fun _ _ => [Reg.CHOIR_ALIVE_ALIVE, Reg.CHOIR_ALIVE_JOINED]⟩,
   ⟨0x902C, 0x0, 1, 0x0, 1, 1, fun _ _ => [Reg.LATE_MASK_LATE]⟩,
   ⟨0x9030, 0x0, 1, 0x0, 1, 1, fun _ _ => [Reg.CHOIR_THETA_VALUE]⟩,
   ⟨0x9034, 0x0, 1, 0x0, 1, 1, fun _ _ => [Reg.CHOIR_DELAY_VALUE]⟩,
   ⟨0x9038, 0x0, 1, 0x0, 1, 1, fun _ _ => [Reg.CHOIR_COUNTS_STALE_COUNT, Reg.CHOIR_COUNTS_SUM_AFTER]⟩,
   ⟨0x9040, 0x0, 1, 0x0, 1, 1, fun _ _ => [Reg.CHOIR_CMD_CODE, Reg.CHOIR_CMD_PORT, Reg.CHOIR_CMD_ADDR]⟩,
   ⟨0x9100, 0x40, 2, 0x0, 1, 1, fun n _ => [Reg.LINK_STATE_STATE n, Reg.LINK_STATE_CLOCK_LANE n, Reg.LINK_STATE_LANE_STATE_0 n, Reg.LINK_STATE_LANE_STATE_1 n, Reg.LINK_STATE_FAILS_0 n, Reg.LINK_STATE_FAILS_1 n, Reg.LINK_STATE_REPLAY_FILL n]⟩,
   ⟨0x9104, 0x40, 2, 0x0, 1, 1, fun n _ => [Reg.LINK_FRAMES_TX_FRAMES_TX n]⟩,
   ⟨0x9108, 0x40, 2, 0x0, 1, 1, fun n _ => [Reg.LINK_FRAMES_RX_FRAMES_RX n]⟩,
   ⟨0x910C, 0x40, 2, 0x0, 1, 1, fun n _ => [Reg.LINK_ERR_CRC_ERR n, Reg.LINK_ERR_NAK_RX n]⟩,
   ⟨0x9110, 0x40, 2, 0x0, 1, 1, fun n _ => [Reg.LINK_RETRY_RETRIES n, Reg.LINK_RETRY_RETRAINS n]⟩,
   ⟨0x9114, 0x40, 2, 0x0, 1, 1, fun n _ => [Reg.LINK_CODE_ERR_CODE_ERR_0 n, Reg.LINK_CODE_ERR_CODE_ERR_1 n]⟩,
   ⟨0x9118, 0x40, 2, 0x0, 1, 1, fun n _ => [Reg.LINK_DROP_FWD_DROP n, Reg.LINK_DROP_DUP_COUNT n]⟩,
   ⟨0x911C, 0x40, 2, 0x0, 1, 1, fun n _ => [Reg.LINK_BAD_BAD_TYPE n, Reg.LINK_BAD_SYNC_DISC n]⟩,
   ⟨0xA000, 0x0, 1, 0x0, 1, 1, fun _ _ => [Reg.CFG_STATUS_CONFIGURED, Reg.CFG_STATUS_ACTIVE_SLOT, Reg.CFG_STATUS_SLOT_A, Reg.CFG_STATUS_SLOT_B, Reg.CFG_STATUS_FALLBACK, Reg.CFG_STATUS_SIG_CHECKED, Reg.CFG_STATUS_BOOT_ERR, Reg.CFG_STATUS_HDR_BAD]⟩,
   ⟨0xA004, 0x0, 1, 0x0, 1, 1, fun _ _ => [Reg.APPLY_STATUS_STATE, Reg.APPLY_STATUS_LEGAL, Reg.APPLY_STATUS_CHOIR_WIDE, Reg.APPLY_STATUS_RESULT, Reg.APPLY_STATUS_TRANS_LEFT]⟩,
   ⟨0xA008, 0x0, 1, 0x0, 1, 1, fun _ _ => [Reg.APPLY_ERR_ADDR_ADDR]⟩,
   ⟨0xA00C, 0x0, 1, 0x0, 1, 1, fun _ _ => [Reg.CFG_CMD_CODE]⟩,
   ⟨0xA010, 0x0, 1, 0x0, 1, 1, fun _ _ => [Reg.ACTIVE_GEN]⟩,
   ⟨0xA014, 0x0, 1, 0x0, 1, 1, fun _ _ => [Reg.STAGED_GEN]⟩,
   ⟨0xA018, 0x0, 1, 0x0, 1, 1, fun _ _ => [Reg.CHECK_CODE]⟩]

/-- Registers of the map, part 9, by rising address. -/
def regRows8 : List RegRow :=
  [⟨0xA01C, 0x0, 1, 0x0, 1, 1, fun _ _ => [Reg.CHECK_STAGED]⟩,
   ⟨0xA020, 0x0, 1, 0x0, 1, 1, fun _ _ => [Reg.CHOIR_HASH]⟩,
   ⟨0xA024, 0x0, 1, 0x0, 1, 1, fun _ _ => [Reg.COMMON_HASH]⟩,
   ⟨0xA028, 0x0, 1, 0x0, 1, 1, fun _ _ => [Reg.AUDIT_COUNT]⟩,
   ⟨0xA02C, 0x0, 1, 0x0, 1, 1, fun _ _ => [Reg.AUDIT_USED]⟩,
   ⟨0xA030, 0x0, 1, 0x0, 1, 1, fun _ _ => [Reg.AUDIT_CAP]⟩,
   ⟨0xA034, 0x0, 1, 0x0, 1, 1, fun _ _ => [Reg.SWITCH_PSEQ]⟩,
   ⟨0xA038, 0x0, 1, 0x0, 1, 1, fun _ _ => [Reg.SWITCH_ACK]⟩,
   ⟨0xA040, 0x0, 1, 0x0, 1, 1, fun _ _ => [Reg.TRANS_REST]⟩,
   ⟨0xA044, 0x0, 1, 0x0, 1, 1, fun _ _ => [Reg.IMAGE_ID]⟩,
   ⟨0xA048, 0x0, 1, 0x0, 1, 1, fun _ _ => [Reg.BUILD_DATE_DAY, Reg.BUILD_DATE_MONTH, Reg.BUILD_DATE_YEAR]⟩,
   ⟨0xA04C, 0x0, 1, 0x0, 1, 1, fun _ _ => [Reg.TOOL_VERSION]⟩,
   ⟨0xA050, 0x0, 1, 0x0, 1, 8, fun _ _ => [Reg.NAME]⟩,
   ⟨0xA080, 0x0, 1, 0x0, 1, 8, fun _ _ => [Reg.KEY_HASH]⟩,
   ⟨0xA0A0, 0x0, 1, 0x0, 1, 8, fun _ _ => [Reg.FUSE_STAGE]⟩,
   ⟨0xA0C0, 0x0, 1, 0x0, 1, 1, fun _ _ => [Reg.FUSE_STATUS_KEY_SET]⟩,
   ⟨0xA0D0, 0x0, 1, 0x0, 1, 1, fun _ _ => [Reg.NVM_INFO_SIZE_LOG2, Reg.NVM_INFO_ADDR4, Reg.NVM_INFO_READ_CMD, Reg.NVM_INFO_DUMMY]⟩,
   ⟨0xB000, 0x0, 1, 0x0, 1, 2, fun _ _ => [Reg.CAL_NOW_CAL]⟩,
   ⟨0xB008, 0x0, 1, 0x0, 1, 2, fun _ _ => [Reg.CAL_SET_CAL]⟩,
   ⟨0xB010, 0x0, 1, 0x0, 1, 1, fun _ _ => [Reg.CAL_CMD_CODE]⟩,
   ⟨0xB014, 0x0, 1, 0x0, 1, 1, fun _ _ => [Reg.CAL_STATUS_VALID, Reg.CAL_STATUS_END, Reg.CAL_STATUS_REJECT, Reg.CAL_STATUS_REJ_REASON, Reg.CAL_STATUS_SOURCE, Reg.CAL_STATUS_KCK_STOP]⟩,
   ⟨0xB018, 0x0, 1, 0x0, 1, 2, fun _ _ => [Reg.CAL_SECOND_TIME]⟩,
   ⟨0xB020, 0x0, 1, 0x0, 1, 1, fun _ _ => [Reg.LOG_CFG_FAULT_LEVEL, Reg.LOG_CFG_CAL_LOCK]⟩,
   ⟨0xB024, 0x0, 1, 0x0, 1, 1, fun _ _ => [Reg.LOG_STATUS_NVM_HOLD, Reg.LOG_STATUS_MOUNTED, Reg.LOG_STATUS_LOG_QUEUE, Reg.LOG_STATUS_TOT_QUEUE]⟩,
   ⟨0xB028, 0x0, 1, 0x0, 1, 1, fun _ _ => [Reg.LOG_EVENT_LOST, Reg.LOG_EVENT_RESOLVED, Reg.LOG_EVENT_TOT_VOID, Reg.LOG_EVENT_SECTOR_BAD]⟩,
   ⟨0xB02C, 0x0, 1, 0x0, 1, 1, fun _ _ => [Reg.LOG_NEWEST_NEWEST]⟩,
   ⟨0xB030, 0x0, 1, 0x0, 1, 1, fun _ _ => [Reg.LOG_OLDEST_OLDEST]⟩,
   ⟨0xB034, 0x0, 1, 0x0, 1, 1, fun _ _ => [Reg.LOG_SECTORS_FREE, Reg.LOG_SECTORS_JOURNAL]⟩,
   ⟨0xB038, 0x0, 1, 0x0, 1, 1, fun _ _ => [Reg.LOSS_TOTAL]⟩,
   ⟨0xB03C, 0x0, 1, 0x0, 1, 1, fun _ _ => [Reg.LOG_CUR_CUR]⟩]

/-- Registers of the map, part 10, by rising address. -/
def regRows9 : List RegRow :=
  [⟨0xB040, 0x0, 1, 0x0, 1, 1, fun _ _ => [Reg.LOG_CMD_CODE]⟩,
   ⟨0xB044, 0x0, 1, 0x0, 1, 1, fun _ _ => [Reg.LOG_READ_BUSY, Reg.LOG_READ_RESULT, Reg.LOG_READ_LEN]⟩,
   ⟨0xB048, 0x0, 1, 0x0, 1, 1, fun _ _ => [Reg.AUDIT_SEL_INDEX]⟩,
   ⟨0xB400, 0x4, 16, 0x0, 1, 1, fun n _ => [Reg.BKP_REG_DATA n]⟩,
   ⟨0xC000, 0x0, 1, 0x0, 1, 1, fun _ _ => [Reg.RESET_CAUSE_POR, Reg.RESET_CAUSE_PIN, Reg.RESET_CAUSE_SOFT, Reg.RESET_CAUSE_LOAD, Reg.RESET_CAUSE_CHOIR, Reg.RESET_CAUSE_SAFE, Reg.RESET_CAUSE_RESUME, Reg.RESET_CAUSE_LAST]⟩,
   ⟨0xC004, 0x0, 1, 0x0, 1, 1, fun _ _ => [Reg.POWER_STATUS_STATE, Reg.POWER_STATUS_PREV, Reg.POWER_STATUS_RESUMES]⟩,
   ⟨0xC008, 0x0, 1, 0x0, 1, 1, fun _ _ => [Reg.POWER_CMD_CODE]⟩,
   ⟨0xC00C, 0x0, 1, 0x0, 1, 1, fun _ _ => [Reg.SAFE_STATUS_CAUSE, Reg.SAFE_STATUS_PENDING, Reg.SAFE_STATUS_CODE]⟩,
   ⟨0xC010, 0x0, 1, 0x0, 1, 1, fun _ _ => [Reg.FAULT_STATUS_LAST_CODE, Reg.FAULT_STATUS_COUNT]⟩,
   ⟨0xC014, 0x0, 1, 0x0, 1, 1, fun _ _ => [Reg.FAULT_CMD_CODE, Reg.FAULT_CMD_SRC]⟩,
   ⟨0xC100, 0x0, 1, 0x0, 1, 1, fun _ _ => [Reg.SUPPLY_STATUS_CORE_OK, Reg.SUPPLY_STATUS_LINK_OK, Reg.SUPPLY_STATUS_VDDA_OK, Reg.SUPPLY_STATUS_VIOV_OK, Reg.SUPPLY_STATUS_VIOH_OK, Reg.SUPPLY_STATUS_VBAT_OK, Reg.SUPPLY_STATUS_VIOV_LEVEL, Reg.SUPPLY_STATUS_BKP_SRC]⟩,
   ⟨0xC104, 0x0, 1, 0x0, 1, 1, fun _ _ => [Reg.SUPPLY_EVENT_MAIN_LOSS, Reg.SUPPLY_EVENT_VBAT_LOW, Reg.SUPPLY_EVENT_LOST_RAIL]⟩,
   ⟨0xC108, 0x0, 1, 0x0, 1, 1, fun _ _ => [Reg.STRAP_STATUS_ADDR, Reg.STRAP_STATUS_MISMATCH, Reg.STRAP_STATUS_CHANGED]⟩,
   ⟨0xC10C, 0x0, 1, 0x0, 1, 1, fun _ _ => [Reg.PIN_LEVEL_SEAL_OPEN, Reg.PIN_LEVEL_SEAL_RAW, Reg.PIN_LEVEL_OCXO_RDY, Reg.PIN_LEVEL_WAKE, Reg.PIN_LEVEL_STRAP_LIVE]⟩,
   ⟨0xC110, 0x0, 1, 0x0, 1, 1, fun _ _ => [Reg.IO_CFG_VIOV_EXPECT]⟩,
   ⟨0xC200, 0x0, 1, 0x0, 1, 1, fun _ _ => [Reg.DIE_TEMP_TEMP, Reg.DIE_TEMP_TMAX]⟩,
   ⟨0xC300, 0x4, 8, 0x0, 1, 1, fun n _ => [Reg.SRAM_CORR n, Reg.SRAM_CORR_SPARE_USED n]⟩,
   ⟨0xC320, 0x4, 8, 0x0, 1, 1, fun n _ => [Reg.UNCORR n]⟩,
   ⟨0xC380, 0x0, 1, 0x0, 1, 1, fun _ _ => [Reg.RING_LOCK_BREAKS, Reg.RING_LOCK_RING, Reg.RING_LOCK_OWNER]⟩,
   ⟨0xC400, 0x4, 256, 0x0, 1, 1, fun n _ => [Reg.STRIKE_STRIKES n, Reg.STRIKE_RETIRED n, Reg.STRIKE_PROBATION n, Reg.STRIKE_DECAY_COUNT n, Reg.STRIKE_PROB_LEFT n]⟩,
   ⟨0x100000, 0x1000, 24, 0x0, 1, 1, fun n _ => [Reg.RING_CFG_SIZE n, Reg.RING_CFG_POLICY n, Reg.RING_CFG_WATERMARK n]⟩,
   ⟨0x100004, 0x1000, 24, 0x0, 1, 1, fun n _ => [Reg.RING_BASE_INDEX n]⟩,
   ⟨0x100008, 0x1000, 24, 0x0, 1, 1, fun n _ => [Reg.RING_WR_PTR_INDEX n]⟩,
   ⟨0x10000C, 0x1000, 24, 0x0, 1, 1, fun n _ => [Reg.RING_RD_PTR_INDEX n]⟩,
   ⟨0x100010, 0x1000, 24, 0x0, 1, 1, fun n _ => [Reg.RING_FILL_WORDS n]⟩,
   ⟨0x100014, 0x1000, 24, 0x0, 1, 1, fun n _ => [Reg.RING_STATUS_OVERWRITTEN n, Reg.RING_STATUS_DROPPED n, Reg.RING_STATUS_UNDERRUN n, Reg.RING_STATUS_FLUSHED n, Reg.RING_STATUS_ABOVE_WM n, Reg.RING_STATUS_FULL n]⟩,
   ⟨0x100018, 0x1000, 24, 0x0, 1, 1, fun n _ => [Reg.RING_LOSS_COUNT_COUNT n]⟩,
   ⟨0x10001C, 0x1000, 24, 0x0, 1, 1, fun n _ => [Reg.RING_CMD_CODE n]⟩]

/-- Every register of the map. -/
def regRows : List RegRow := regRows0 ++ regRows1 ++ regRows2 ++ regRows3 ++ regRows4 ++ regRows5 ++ regRows6 ++ regRows7 ++ regRows8 ++ regRows9

end Sys2Proof.Machine
end

