-- ==== Sys2Proof/Machine/Units.lean ====
section
/-! DEFINITION.
The state of the device's units that no register field holds: queues, FIFOs, running sums, tables and sequencers.
Every register field has its one home in the register file; a unit here holds only what has no field of its own.
-/

namespace Sys2Proof.Machine

/-- An entry of a voice FIFO (R73 to R75) before it is packed into 16 bytes: its extended time (R72), the low ten bits
of TIME, EVCNT, EDGE and FLAGS, with the tuning table entry and the decimation that hold for a stamp (R103, R143). -/
structure Entry where
  id : Nat
  ext : Nat
  fine : Nat
  evcnt : Nat
  edge : Nat
  flags : Nat
  m : Nat
  k : Nat
deriving DecidableEq, Repr

/-- One voice (chapter 4): its counters, the SCK period of the latest transition of its live input (R95), its FIFO with the reserved
slot, the pending markers of R83, the markers the ring writer writes directly (R84), and the record of the period in progress, which began
at `since`. `level` is that with which the latest thermometer code ended, and `later` holds the windows (start, code, edges of dropped pairs)
that lie past a boundary not yet taken (R15). -/
structure Voice where
  evcnt : Nat
  seq : Nat
  nextId : Nat
  lastStamp : Option Nat
  lastEdge : Option Nat
  lastMove : Option Nat
  hidden : Nat
  fifo : List Entry
  pendEpoch : Option Entry
  pendDecim : Option Entry
  pendOverrun : Option Entry
  direct : List Entry
  riseDue : Bool
  runtNext : Bool
  since : Option Nat
  level : Option Bool
  later : List (Nat × List (Bool × Nat) × Nat)
  taken : Option Nat
  firstAt : Option Nat
  startAt : Nat
  counted : Nat
  rose : Bool
  kChanged : Bool
  runts : Nat
  kmaxRep : Bool
  runtRep : Bool
  probed : Bool
  causes : Nat
  fitTap : List Entry
  trackTap : List Entry
deriving DecidableEq, Repr

/-- A voice after reset. DEDUCED: log entry 63. -/
def Voice.fresh : Voice :=
  { evcnt := 0, seq := 0, nextId := 0, lastStamp := none, lastEdge := none, lastMove := none, hidden := 0, fifo := [],
    pendEpoch := none, pendDecim := none, pendOverrun := none, direct := [], riseDue := false, runtNext := false,
    since := none, level := none, later := [], taken := none, firstAt := none, startAt := 0, counted := 0, rose := false, kChanged := false, runts := 0, kmaxRep := false,
    runtRep := false, probed := false, causes := 0, fitTap := [], trackTap := [] }

/-- A ring lock: its owner, the owner's epoch when it was taken, and the words written so far (R335). -/
structure Lock where
  owner : Nat
  epoch : Nat
  words : Nat
deriving DecidableEq, Repr

/-- One ring (R87 to R91): its words, the lengths of the whole entries held (oldest first), how many words of the
oldest the host has read, the GAP marks of R88, the window snapshot of R90, and what an UNREAD can move back over (R298):
the lengths of the entries left, newest first, and whether GAP was shown on the way. -/
structure Ring where
  cells : Store
  ents : List Nat
  headRead : Nat
  gapHost : Bool
  gapNext : Bool
  snap : Nat
  snapOk : Bool
  back : List Nat
  gapBack : Bool
  lock : Option Lock
deriving DecidableEq, Repr

/-- An empty ring. -/
def Ring.fresh : Ring :=
  { cells := [], ents := [], headRead := 0, gapHost := false, gapNext := false, snap := 0, snapOk := false,
    back := [], gapBack := false, lock := none }

/-- An entry that waits for the ring writer (R84): its ring, its words, how many are written, its producer with the
producer's epoch when it was offered (R335; producer 0 takes no lock), and the writer cycle since which it waits. -/
structure WEntry where
  ring : Nat
  words : List Nat
  done : Nat
  producer : Nat
  epoch : Nat
  since : Nat
deriving DecidableEq, Repr

/-- The ring writer (R84): its cycle count, the entries for RING_16 to RING_23, and the producers' epochs (R335). -/
structure Writer where
  cycle : Nat
  waiting : List WEntry
  epochs : Store
deriving DecidableEq, Repr

/-- The writer after reset. DEDUCED: log entry 63. -/
def Writer.fresh : Writer := { cycle := 0, waiting := [], epochs := [] }

/-- The timescale and SPLL (chapter 3). `coarse` is the count at which SCK last ran; `gap` counts FCK since the gate
closed (R58). `step` is the step of a reference switch that is next: 0 none, 3 the gate closes, 4 the PFD moves to another target,
5 lock detect, 7 the window check, 8 the opening of SCK by a boot or a resume; `planned` says that a switch waits for a period boundary.
`refEdges` says that REF_IN edges are present and `warmDone` that the OCXO has been STABLE since the reset (R51, R53). `epsXtal` and `ageD`
are the latest ε(d) and its d, computed in the FCK `epsFck` of the timescale; `epsOld` and `ageOld` are those before (R55). -/
structure Timing where
  coarse : Nat
  fifths : Nat
  fck : Nat
  gap : Nat
  opened : Bool
  step : Nat
  target : Nat
  cfgSwitch : Bool
  repeated : Bool
  planned : Bool
  lastY : Option F64
  warmStarted : Bool
  warmRep : Bool
  warmDone : Bool
  refEdges : Bool
  epsXtal : F64
  epsOld : F64
  epsFck : Option Nat
  epsCantor : F64
  ageD : Nat
  ageOld : Nat
  lastAgeDate : Option (Nat × Nat)
deriving DecidableEq, Repr

/-- The timescale after reset. DESIGN CHOICE: log entry 65, of the correction before a first TIME. -/
def Timing.fresh : Timing :=
  { coarse := 0, fifths := 0, fck := 0, gap := 0, opened := false, step := 0, target := 0, cfgSwitch := false,
    repeated := false, planned := false, lastY := none, warmStarted := false, warmRep := false, warmDone := false, refEdges := false,
    epsXtal := 0#64, epsOld := 0#64, epsFck := none, epsCantor := 0#64, ageD := 0, ageOld := 0,
    lastAgeDate := none }

/-- One tuning context (R94): the histogram, the table in force and the candidate, whether any hit of the collection
was taken in isolation (R99), the FCK of the timescale in which the waiting candidate passed (R102), whether a parity fault was
recorded for the table in force (R110), and the age of the table: `ageBase` milliseconds at the FCK count `ageFrom` (R107). -/
structure Tune where
  hist : Store
  table : Store
  cand : Store
  iso : Bool
  tested : Nat
  parityRep : Bool
  boot : Bool
  lateRep : Bool
  ageFrom : Nat
  ageBase : Nat
deriving DecidableEq, Repr

/-- A tuning context after reset. -/
def Tune.fresh : Tune :=
  { hist := [], table := [], cand := [], iso := false, tested := 0, parityRep := false, boot := false, lateRep := false,
    ageFrom := 0, ageBase := 0 }

/-- One window monitor (R113 to R125): its live level, the level held before a change, the step of a self-test in
progress (1 to 4), whether a test is due after settling, whether it settles after a change of MODE, and the period in which fault 0x0301 was
last recorded. -/
structure Wm where
  level : Nat
  before : Nat
  step : Nat
  due : Bool
  moved : Bool
  rep301 : Option Nat
  rep302 : Option Nat
deriving DecidableEq, Repr

/-- A monitor after reset. -/
def Wm.fresh : Wm := { level := 0, before := 0, step := 0, due := false, moved := false, rep301 := none, rep302 := none }

/-- One exciter (R117 to R129): the hold, the schedule position, the drive qualifier Q, the check of the pulse in
progress with the monitors that failed it, and the level the output drives. -/
structure Exc where
  hold : Bool
  running : Bool
  pulse : Nat
  cycle : Nat
  high : Bool
  qual : Bool
  checking : Bool
  failed : Nat
  startDue : Bool
  skipRep : Option Nat
  afterHold : Bool
  out : Nat
deriving DecidableEq, Repr

/-- An exciter after reset. -/
def Exc.fresh : Exc :=
  { hold := false, running := false, pulse := 0, cycle := 0, high := false, qual := false, checking := false,
    failed := 0, startDue := false, skipRep := none, afterHold := false, out := 0 }

/-- One period timer (R134): the extended time of its next boundary, that of its latest boundary, whether the period
in progress is produced, and the ageing correction in force for it (R55). -/
structure Timer where
  next : Nat
  prev : Option Nat
  live : Bool
  eps : F64
  held : Bool
  clean : Bool
deriving DecidableEq, Repr

/-- A stopped timer. -/
def Timer.fresh : Timer :=
  { next := 0, prev := none, live := false, eps := 0#64, held := false, clean := true }

/-- The five running sums of R139. -/
structure Sums where
  n : Nat
  sn : Nat
  st : Nat
  snn : Nat
  snt : Nat
deriving DecidableEq, Repr

/-- Cleared sums. -/
def Sums.zero : Sums := { n := 0, sn := 0, st := 0, snn := 0, snt := 0 }

/-- The interval state of R143: u_ref, S1, S2, the exact extremes of Δt × 2^(20−k), K, and the last taken stamp of
each polarity as (n, t, k). -/
structure Ivl where
  uref : F64
  s1 : F64
  s2 : F64
  lo : Nat
  hi : Nat
  count : Nat
  lastFall : Option (Nat × Nat × Nat)
  lastRise : Option (Nat × Nat × Nat)
deriving DecidableEq, Repr

/-- Cleared interval state. -/
def Ivl.zero : Ivl :=
  { uref := 0#64, s1 := 0#64, s2 := 0#64, lo := 0, hi := 0, count := 0, lastFall := none, lastRise := none }

/-- What the fit engine keeps per voice: the start boundary and n0 of the period being summed, the last n (for the
unwrapping of R138), the sums and the interval state, whether a run of rests with reason 2 has been reported, and whether
an uncorrectable SRAM word was met in the period. -/
structure FitVoice where
  base : Option Nat
  n0 : Nat
  lastN : Nat
  sums : Sums
  ivl : Ivl
  few : Bool
  upset : Bool
deriving DecidableEq, Repr

/-- A voice context with nothing summed. -/
def FitVoice.fresh : FitVoice := { base := none, n0 := 0, lastN := 0, sums := Sums.zero, ivl := Ivl.zero, few := false, upset := false }

/-- The window sums of a pair context (R137). -/
structure FitPair where
  a : Sums
  b : Sums
  few : Bool
  upset : Bool
deriving DecidableEq, Repr

/-- A pair context with nothing summed. -/
def FitPair.fresh : FitPair := { a := Sums.zero, b := Sums.zero, few := false, upset := false }

/-- One Allan accumulator (R144): its sum and count, the partial block and the previous block average. -/
structure Allan where
  sum : F64
  count : Nat
  part : F64
  parts : Nat
  prev : Option F64
deriving DecidableEq, Repr

/-- A cleared accumulator. -/
def Allan.fresh : Allan := { sum := 0#64, count := 0, part := 0#64, parts := 0, prev := none }

/-- A context waiting for closeout (R140, R147): what the period was, its voices (of a voice context, both the same) and the
markers it waits for, the sums moved, and the settings the period had (R154). -/
structure Item where
  ctx : Nat
  timer : Nat
  start : Nat
  stop : Nat
  lengthUs : Nat
  pseq : Nat
  va : Nat
  vb : Nat
  waitA : Option Nat
  waitB : Option Nat
  a : Sums
  b : Sums
  ivl : Ivl
  pa : Nat
  pb : Nat
  minA : Nat
  minB : Nat
  nom : Nat
  causes : Nat
  runts : Nat
  counted : Nat
  decim : Bool
  prob : Bool
  k : Nat
  eps : F64
  held : Bool
deriving DecidableEq, Repr

/-- An entry of the stamp stream as the ring writer takes it, with its place in the order of taking. -/
structure Taken where
  take : Nat
  voice : Nat
  entry : Entry
deriving DecidableEq, Repr

/-- What an analyser instance gathers in a period (R159 to R165): the statistics of its measurements, those of φ, the unpaired
stamps, the pulse-begin stamps of DUTY, and the histogram of the period. -/
structure AnaAcc where
  ivl : Ivl
  pref : F64
  ps1 : F64
  ps2 : F64
  plo : F64
  phi : F64
  pcount : Nat
  unpaired : Nat
  decim : Bool
  begins : Nat
  first : Nat
  last : Nat
  width : Nat
  closed : Nat
  hist : Store
deriving DecidableEq, Repr

/-- Nothing gathered. -/
def AnaAcc.fresh : AnaAcc :=
  { ivl := Ivl.zero, pref := 0#64, ps1 := 0#64, ps2 := 0#64, plo := 0#64, phi := 0#64, pcount := 0, unpaired := 0, decim := false,
    begins := 0, first := 0, last := 0, width := 0, closed := 0, hist := [] }

/-- An analyser instance (chapter 8): the entries it has not processed, with the numbers from which it takes entries of its
voices; the entries its trigger condition looks at; the boundaries of its timer still ahead and the latest one passed, and the one at which the period in progress began; the
measurement in progress; TOTAL; the histogram shown; and the missed-trigger FIFO with its window snapshot. -/
structure Ana where
  qs : List Taken
  qt : List Taken
  tq : List Taken
  seenS : Nat
  seenT : Nat
  ahead : List Nat
  bound : Option Nat
  since : Option Nat
  causes : Nat
  lastEv : Option Nat
  total : Nat
  arm : Option Nat
  prevS : Option Nat
  pend : List Nat
  begun : Option Nat
  acc : AnaAcc
  shown : Store
  miss : List Nat
  missSnap : Nat
  missOk : Bool
deriving DecidableEq, Repr

/-- An instance after reset. -/
def Ana.fresh : Ana :=
  { qs := [], qt := [], tq := [], seenS := 0, seenT := 0, ahead := [], bound := none, since := none, causes := 0, lastEv := none, total := 0,
    arm := none, prevS := none, pend := [], begun := none, acc := AnaAcc.fresh, shown := [], miss := [], missSnap := 0, missOk := false }

/-- A period of an instance waiting for the analyser closeout (R164), with the settings the period had (R154). -/
structure AnaItem where
  ana : Nat
  timer : Nat
  start : Nat
  stop : Nat
  vs : List Nat
  mode : Nat
  minMeas : Nat
  histEn : Bool
  histPer : Bool
  causes : Nat
  decim : Bool
  eps : F64
  count : Nat
  acc : AnaAcc
deriving DecidableEq, Repr

/-- An accepted trigger (R169, R171): the triggering entry's place in the order of taking (none for a command), its time, the
instances that raised it, the pre part kept, and the entries of the post part so far. -/
structure Trig where
  take : Option Nat
  time : Nat
  src : Nat
  mask : Nat
  start : Nat
  pre : Nat
  post : Nat
  short : Bool
deriving DecidableEq, Repr

/-- The capture unit (R167 to R173): how many entries the ring writer has taken, the delay line, the write place in the segment
and the entries collected in it, the segments not free, the one last used, the accepted trigger, whether the re-arm interval has
passed, the misses since the previous capture, the buffer and its window snapshot. -/
structure Cap where
  takes : Nat
  line : List (Nat × Nat)
  wpos : Nat
  coll : Nat
  used : Nat
  last : Option Nat
  trig : Option Trig
  rearmed : Bool
  missed : Nat
  buf : Store
  snap : Nat
deriving DecidableEq, Repr

/-- The capture unit after reset. DESIGN CHOICE: log entry 62. -/
def Cap.fresh : Cap :=
  { takes := 0, line := [], wpos := 0, coll := 0, used := 0, last := none, trig := none, rearmed := true, missed := 0, buf := [], snap := 0 }

/-- The result of a pair context as the weighing pipeline takes it (R176, R177): its reason, RATIO, and f2 of voice B before the
ageing correction. -/
structure PairRes where
  reason : Nat
  ratio : F64
  fb : F64
deriving DecidableEq, Repr

/-- A sum of the pipeline (R180, R181): the value, or a rest with its reason and every reason that applied. -/
structure SumVal where
  value : F64
  reason : Nat
  causes : Nat
deriving DecidableEq, Repr

/-- A period of the pipeline's timer on its way through the pipeline (R182): the pair results so far, the own local sum L, the choir
sum S, the corner values, the errors of R179, the reasons that its sum has from elsewhere (R281), the operator command that is effective in it with the refusal its RESULT may carry,
the digest and realignment of the RESULT that brought S, whether the pipeline has started anew since it was opened, and what the track
channel showed at its end: displacement, speed, state and the segment of the bridge point. -/
structure PipeJob where
  start : Nat
  stop : Nat
  pseq : Nat
  res : Tab PairRes
  extra : Nat
  own : Option SumVal
  sum : Option SumVal
  vs : List F64
  badRatio : Bool
  arith : Bool
  cmd : Nat
  refused : Nat
  cmdSrc : Nat
  cmdSeq : Nat
  digest : Option Nat
  realign : List Nat
  stale : Bool
  ds : F64
  speed : F64
  belt : Nat
  seg : Option Nat
deriving DecidableEq, Repr

/-- An operator command waiting for its period (R197, R261): the device it was written on, its sequence number there, its code and
the PSEQ it names. DEDUCED: log entry 38. -/
structure OpReq where
  src : Nat
  seq : Nat
  code : Nat
  pseq : Nat
deriving DecidableEq, Repr

/-- A queued journal record before it is given its RSEQ (R312): KIND, ORIGIN, the calendar value and the payload. -/
structure LogRec where
  kind : Nat
  origin : Nat
  cal : Nat
  payload : List Nat
deriving DecidableEq, Repr

/-- A totaliser entry (R318) before it is given its TSEQ. -/
structure TotEntry where
  cause : Nat
  total : Nat
  res : Nat
  prov : Nat
  provCount : Nat
  printCount : Nat
  rev : Nat
  delta : Nat
deriving DecidableEq, Repr

/-- A collection in progress (R315): the source sector, the destination sector (none when nothing is retained), and the next
step. -/
structure Collect where
  src : Nat
  dst : Option Nat
  step : Nat
deriving DecidableEq, Repr

/-- The log (chapter 14) beside its NVM contents: where the region lies, the ACTIVE journal sector and the next record's place,
the collection due or in progress, the totaliser queue with its phase, the address of the entry between its phases, the next slot of
the ring of 504 slots and the latest TSEQ, the operation to retry in a hold (1 record, 2 phase 1, 3 phase 2, 4 collection),
whether fault 0x0A17 has been recorded, the read in progress (1 record, 2 audit record) and the two windows. Sectors are numbered from LOG_BASE. -/
structure LogSt where
  base : Nat
  size : Nat
  active : Option Nat
  pos : Nat
  coll : Option Collect
  collDue : Bool
  tot : List TotEntry
  phase1 : Bool
  totAddr : Nat
  totNext : Nat
  tseq : Nat
  retry : Nat
  exhausted : Bool
  load : Nat
  win : Store
  awin : Store
  auditRep : Bool
deriving DecidableEq, Repr

/-- The log before it is mounted. -/
def LogSt.fresh : LogSt :=
  { base := 0, size := 0, active := none, pos := 0, coll := none, collDue := false, tot := [], phase1 := false, totAddr := 0,
    totNext := 0, tseq := 0, retry := 0, exhausted := false, load := 0, win := [], awin := [], auditRep := false }

/-- The calendar (chapter 14) beside its registers: the accepted write that waits with its SOURCE, whether KCK stands still, and
whether a start of the backup domain has not been reported yet (R308). -/
structure CalSt where
  waiting : Option (Nat × Nat)
  stopped : Bool
  lost : Bool
deriving DecidableEq, Repr

/-- Faults and notifications (chapters 13 and 15): the sources charged and struck in the period in progress of their
strike timers, and the numbers offered to RING_23 and RING_19. -/
structure FaultSt where
  charged : Store
  struck : Store
  fseq : Nat
  nseq : Nat
deriving DecidableEq, Repr

/-- No fault charged. -/
def FaultSt.fresh : FaultSt := { charged := [], struck := [], fseq := 0, nseq := 0 }

/-- Resets, boot and power states (chapters 1, 2 and 15): power-good, the hold by TEST_EN, the boot steps of R20 and the
resume steps of R344 completed (bit n is step n), whether the first period may start (R21), the entry of STANDBY in
progress and what STANDBY stores (R343). -/
structure PowerSt where
  good : Bool
  testHeld : Bool
  resetLow : Bool
  jtagHeld : Bool
  backup : Bool
  steps : Nat
  resume : Nat
  firstOk : Bool
  entering : Bool
  wakeDue : Bool
  c0 : Nat
deriving DecidableEq, Repr

/-- An unpowered device. -/
def PowerSt.off : PowerSt :=
  { good := false, testHeld := false, resetLow := false, jtagHeld := false, backup := false, steps := 0, resume := 0,
    firstOk := false, entering := false, wakeDue := false, c0 := 0 }

/-- The key fuses (R272): KEY_SET and KEY_HASH. -/
structure Fuses where
  keySet : Bool
  keyHash : Nat
deriving DecidableEq, Repr

/-- Fuses as they are made. -/
def Fuses.fresh : Fuses := { keySet := false, keyHash := 0 }

/-- The levels of the output pins that no other unit holds: SP[0..3] and TOT_PULSE (R27), and whether the low phase that follows
a pulse is still running (R200). -/
structure Pins where
  sp : Store
  totPulse : Nat
  totRest : Bool
deriving DecidableEq, Repr

/-- Every pin low; an output that is not driven shows 0 too. DESIGN CHOICE: log entry 8. -/
def Pins.low : Pins := { sp := [], totPulse := 0, totRest := false }

/-- The shared SRAM's integrity state (R17, R334): the words known uncorrectable, the rows the scrubber corrected in the
previous pass and in this one, the rows being copied and the row map (each with 1 plus the number of its spare row), the
rows reported without a spare, and the banks whose corrected errors were reported in this pass. Rows are numbered
bank × 512 + row and words (bank × 512 + row) × 64 + column. -/
structure Sram where
  bad : Store
  prevPass : Store
  thisPass : Store
  copying : Store
  rowMap : Store
  noSpare : Store
  corrRep : Store
deriving DecidableEq, Repr

/-- An SRAM without faults. -/
def Sram.fresh : Sram :=
  { bad := [], prevPass := [], thisPass := [], copying := [], rowMap := [], noSpare := [], corrRep := [] }

/-- The weighing pipeline (chapter 9): the zero offset, its initial value and the tare, the moving-average values (oldest first),
the IIR terms, the motion window, its flags, the values of the last accepted print, and the periods under way, oldest first. -/
structure Pipe where
  z : F64
  zInit : F64
  t : F64
  ma : List F64
  a1 : F64
  a2 : F64
  f1 : F64
  f2 : F64
  motion : List F64
  iirFresh : Bool
  initTried : Bool
  holdCause : Bool
  severe : Bool
  restLatched : Bool
  retiredRep : Bool
  printWeight : Nat
  printNet : Nat
  jobs : List PipeJob
deriving DecidableEq, Repr

/-- The pipeline after a reset. -/
def Pipe.fresh : Pipe :=
  { z := 0#64, zInit := 0#64, t := 0#64, ma := [], a1 := 0#64, a2 := 0#64, f1 := 0#64, f2 := 0#64, motion := [], iirFresh := true,
    initTried := false, holdCause := false, severe := false, restLatched := false, retiredRep := false, printWeight := 0, printNet := 0,
    jobs := [] }

/-- A frame of the code track being collected (R211, R208): its start, the cells passed since, NOMARK, the coordinate of its start
when the position is established, and of a split frame the bit at which it splits, where the region ends, and the start of the
second fragment; and its corrected stamps, oldest first (R212). -/
structure Collected where
  start : Nat
  cells : Nat
  nomark : Bool
  pos : Option Nat
  split : Option (Nat × Nat)
  second : Option Nat
  stamps : List Nat
deriving DecidableEq, Repr

/-- A collected frame waiting for the decoder (R215): the frame, its end, its deadline and the cell period it had. -/
structure FrameWait where
  frame : Collected
  stop : Nat
  deadline : Nat
  cell : F64
deriving DecidableEq, Repr

/-- The track channel (chapter 10). Times are corrected times in T_SCK / 65,536 on the extended timescale. `tach` holds VOICE[14]
stamps, newest first, as unwrapped EVCNT and time; `cell` is T̂ and `seed` the latest T_0; `anchor` is P_a with ν(t_a); `gate` is the coordinate up to which
transitions are ignored; `recent` holds the latest transitions, newest first; `seen` is the latest instant for which the head was followed; of a
learning run, `learn` says 1 requested and 2 begun, `passed` that the bridge point has passed 0 since the request, and `inRun` that σ_a
has; `belt` is the BELT_LEN of before a reset that keeps class H (R229); the Stores are by segment or by zone. -/
structure TrackSt where
  tach : List (Nat × Nat)
  lastT : Option Nat
  cell : F64
  inMark : Bool
  lastStart : Option Nat
  near : Option Nat
  collect : Option Collected
  gate : Option Nat
  queue : List FrameWait
  recent : List Nat
  drops : List (Nat × Nat)
  anchor : Option (Nat × F64)
  drRep : Bool
  head : Nat
  seen : Nat
  zone : Option Nat
  asym : Nat
  asymFrom : Nat
  asymOld : Nat
  seed : F64
  sigma : Option Nat
  acc : Tab F64
  resultSeg : Store
  causes : Nat
  okSeg : Store
  badSeg : Store
  okZone : Store
  badZone : Store
  heavyNow : Store
  heavyRun : Store
  tseq : Nat
  learn : Nat
  passed : Bool
  inRun : Bool
  learnSum : Tab F64
  learnCount : Store
  learnBad : Bool
  prof : Tab F64
  pid : Nat
  fullRep : Bool
  belt : Option Nat
deriving DecidableEq, Repr

/-- The track channel after a reset. -/
def TrackSt.fresh : TrackSt :=
  { tach := [], lastT := none, cell := 0#64, inMark := false, lastStart := none, near := none, collect := none, gate := none, queue := [],
    recent := [], drops := [], anchor := none, drRep := false, head := 0, seen := 0, zone := none, asym := 0, asymFrom := 0, asymOld := 0, seed := 0#64,
    sigma := none, acc := [], resultSeg := [], causes := 0, okSeg := [], badSeg := [], okZone := [], badZone := [],
    heavyNow := [], heavyRun := [], tseq := 0, learn := 0, passed := false, inRun := false, learnSum := [], learnCount := [], learnBad := false, prof := [], pid := 0,
    fullRep := false, belt := none }

/-- A message of the choir (R237, R243): TYPE, BCAST, FRESH, SRC, DST, MSEQ, CEPOCH, the payload, and the port it came on. -/
structure Msg where
  type : Nat
  bcast : Bool
  fresh : Bool
  src : Nat
  dst : Nat
  mseq : Nat
  cepoch : Nat
  payload : List Nat
  port : Nat
deriving DecidableEq, Repr

/-- A frame in a replay buffer (R239): its LSEQ, HOPS, the bytes from the header to the CRC, and how often it was sent. -/
structure Held where
  lseq : Nat
  hops : Nat
  body : List Nat
  sends : Nat
deriving DecidableEq, Repr

/-- A SYNC stamp (R246, R247): the number of the SYNC, the tuned time if the sampler gave one, the TUNE.SEQ of the table it was
converted with, and how many relocks and steps had been made. -/
structure SyncStamp where
  seq : Nat
  time : Option Nat
  tune : Nat
  gates : Nat
deriving DecidableEq, Repr

/-- A link port (chapter 11) beside its registers: for each lane whether a signal is present and how many sets in a row it took; the
training attempt, the pause after a failed one, and the one retrain of a port on one lane; the transmit side with its replay buffer
and the frames waiting for it; the receive side with the last ordered set sent (LSEQ, 1 for a NAK); and the SYNC stamps, newest
first, with what the neighbour's latest SYNC said. -/
structure PortSt where
  sig0 : Bool
  sig1 : Bool
  count0 : Nat
  count1 : Nat
  attempt : Bool
  pause : Bool
  tried : Bool
  txSeq : Nat
  held : List Held
  queue : List (Nat × List Nat)
  rxSeq : Nat
  unacked : Bool
  setSent : Option (Nat × Nat)
  sseq : Nat
  launch : List SyncStamp
  rx : List SyncStamp
  peer : Option Nat
  peerFlags : Nat
deriving DecidableEq, Repr

/-- A port after a reset. DEDUCED: log entry 63. -/
def PortSt.fresh : PortSt :=
  { sig0 := false, sig1 := false, count0 := 0, count1 := 0, attempt := false, pause := false, tried := false, txSeq := 0, held := [],
    queue := [], rxSeq := 0, unacked := false, setSent := none, sseq := 0, launch := [], rx := [], peer := none, peerFlags := 0 }

/-- What a device knows of another (R241, R248, R257): the highest MSEQ delivered with the map of the 64 up to it, its latest HEALTH,
its latest CFGHASH, and what has been reported of it. -/
structure Peer where
  seen : Bool
  high : Nat
  map : Nat
  state : Nat
  hops : Nat
  hashed : Bool
  choirHash : Nat
  commonHash : Nat
  trackEn : Bool
  told : Bool
deriving DecidableEq, Repr

/-- An unknown device. -/
def Peer.fresh : Peer :=
  { seen := false, high := 0, map := 0, state := 0, hops := 0, hashed := false, choirHash := 0, commonHash := 0, trackEn := false,
    told := false }

/-- The fields of the latest TIME (R244). -/
structure TimeMsg where
  epoch : Nat
  pseq : Nat
  bound : Nat
  eps : F64
deriving DecidableEq, Repr

/-- The choir (chapter 11) beside its registers: the next MSEQ, the FCK count at the start, the ports, the other devices, the
messages delivered and not processed, the highest epoch seen, the steering's previous θ and how many θ in a row, the latest TIME,
the steps made, the last θ to the parent, the offers of SUM, the operator commands at the cantor, the own one, the
last period decided and applied, realignment, the named reset, and why the device is OUT (1 address, 2 configuration, 3 retired). -/
structure ChoirSt where
  mseq : Nat
  startFck : Nat
  ports : Tab PortSt
  peers : Tab Peer
  inbox : List Msg
  topEpoch : Nat
  theta : Option F64
  run : Nat
  bad : Nat
  time : Option TimeMsg
  steps : Nat
  shown : F64
  offers : List (Nat × Nat × SumVal)
  ops : List OpReq
  own : Option OpReq
  decided : Option Nat
  applied : Option Nat
  realignDue : Bool
  realigning : Bool
  resetAt : Option Nat
  outWhy : Nat
deriving DecidableEq, Repr

/-- The choir after a reset. DEDUCED: log entry 63. -/
def ChoirSt.fresh : ChoirSt :=
  { mseq := 0, startFck := 0, ports := [], peers := [], inbox := [], topEpoch := 0, theta := none, run := 0, bad := 0, time := none,
    steps := 0, shown := 0, offers := [], ops := [], own := none, decided := none, applied := none, realignDue := false,
    realigning := false, resetAt := none, outWhy := 0 }

/-- A reconfiguration under way (R279 to R282): the table of class I fields that the new image gives, its codes and GEN, the slot it
lies in, whether it ends in a LOAD reset, whether it is legal and whether the seal closed before its commit, the step of COMMITTING that has ended, the PSEQ that a SWITCH names, whether the switch comes after the named boundary, whether
the pipeline and the track channel start anew, and of the transition the groups under way: the reference, the voices whose pins
changed, and the link. -/
structure ImgSt where
  table : Store
  check : Nat
  choirHash : Nat
  commonHash : Nat
  gen : Nat
  signed : Bool
  slot : Nat
  load : Bool
  legal : Bool
  shut : Bool
  step : Nat
  named : Option Nat
  late : Bool
  pipeNew : Bool
  trackNew : Bool
  refGroup : Bool
  pins : Nat
  linkGroup : Bool
deriving DecidableEq, Repr

/-- No reconfiguration. -/
def ImgSt.none : ImgSt :=
  { table := [], check := 0, choirHash := 0, commonHash := 0, gen := 0, signed := false, slot := 0, load := false, legal := false, shut := false, step := 0,
    named := .none, late := false, pipeNew := false, trackNew := false, refGroup := false, pins := 0, linkGroup := false }

/-- The host port (chapter 13) beside its registers: the pass-through operation under way (its code, address and length), of the ring
that the most recent read access read, how many words it advanced over (held with 1 added), whether no access came after it, the bytes
that the DENIG-16 drove in the latest access, the instruction in force in the TAP, and the JTAG instructions to be logged when the
functional logic runs again. -/
structure HostSt where
  ptCode : Nat
  ptAddr : Nat
  ptLen : Nat
  moved : Store
  latest : Bool
  out : List Nat
  tap : Nat
  tapLog : List Nat
deriving DecidableEq, Repr

/-- The host port after a reset. -/
def HostSt.fresh : HostSt := { ptCode := 0, ptAddr := 0, ptLen := 0, moved := [], latest := false, out := [], tap := 1, tapLog := [] }

end Sys2Proof.Machine
end

