-- ==== Sys2Proof/Machine/Device.lean ====
section
/-! DEFINITION.
The device: every register, FIFO, buffer, counter, mode and pin the spec gives it.
-/

namespace Sys2Proof.Machine

/-- The device's state. -/
structure Dev where
  regs : RegFile
  fuses : Fuses
  snaps : Store
  time : Timing
  voices : Tab Voice
  rings : Tab Ring
  writer : Writer
  tune : Tab Tune
  wms : Tab Wm
  excs : Tab Exc
  timers : Tab Timer
  fitV : Tab FitVoice
  fitP : Tab FitPair
  allan : Tab Allan
  allanFrom : Store
  items : List Item
  anas : Tab Ana
  anaItems : List AnaItem
  cap : Cap
  faults : FaultSt
  power : PowerSt
  pins : Pins
  sram : Sram
  pipe : Pipe
  track : TrackSt
  choir : ChoirSt
  logQueue : List LogRec
  logLost : Nat
  calst : CalSt
  img : ImgSt
  host : HostSt
  nvm : Store
  logs : LogSt
  free : Nat
deriving DecidableEq, Repr

end Sys2Proof.Machine
end

