-- ==== Sys2Proof/Machine/State.lean ====
section
/-! DEFINITION.
The state: the device and the queue of the commands that wait.
-/

namespace Sys2Proof.Machine

/-- The whole state. `pending` holds the commands that have arrived and wait, first in, first out. -/
structure State where
  dev : Dev
  pending : List Instr
deriving DecidableEq, Repr

/-- The reasons a step stops at. There is none: the spec gives every command an effect, and a command that finds its condition unmet
leaves the device as it is. -/
inductive Fault : Type
deriving DecidableEq

/-- The reasons a command is refused. -/
inductive Refusal where
  /-- The command has no meaning yet. Raised by the arms of `exec` alone; no arm raises it. Safe: nothing is claimed of the command. -/
  | notModelled (mnemonic : String)
deriving DecidableEq, Repr

/-- The device without power: every register at its reset value (R7), every unit empty, every output low (R27). The command
POWER_GOOD_RISE starts it. DESIGN CHOICE: log entry 8. -/
def Dev.off : Dev :=
  { regs := RegFile.atReset, fuses := Fuses.fresh, snaps := [], time := Timing.fresh, voices := [], rings := [], writer := Writer.fresh, tune := [], wms := [],
    excs := [], timers := [], fitV := [], fitP := [], allan := [], allanFrom := [], items := [], anas := [], anaItems := [],
    cap := Cap.fresh, faults := FaultSt.fresh, power := PowerSt.off, pins := Pins.low, sram := Sram.fresh, pipe := Pipe.fresh,
    track := TrackSt.fresh, choir := ChoirSt.fresh, logQueue := [], logLost := 0,
    calst := { waiting := none, stopped := false, lost := true }, img := ImgSt.none, host := HostSt.fresh, nvm := [],
    logs := LogSt.fresh, free := 0 }

/-- The state right after reset: the device before power-good with no command waiting. DESIGN CHOICE: log entry 8. -/
def State.reset : State := { dev := Dev.off, pending := [] }

end Sys2Proof.Machine
end

