-- ==== Sys2Proof/WellFormed.lean ====
section
/-! DEFINITION.
Which operands a command can carry: numbers of units that exist (R16, R68, R94, R113, R134, R329), addresses of the map (R3, R369),
coarse counts (R72) and bytes.
-/

namespace Sys2Proof

/-- The number of bits in runs of equal bits. -/
def runBits : List (Bool × Nat) → Nat
  | [] => 0
  | (_, n) :: rest => n + runBits rest

/-- SRAM words that exist (R16), each with an error found in it: 1 corrected, 2 uncorrectable. -/
def upsetsOk (l : List (Nat × Nat)) : Bool := l.all (fun p => decide (p.1 < 8 * 512 * 64) && (p.2 == 1 || p.2 == 2))

/-- What a host read can meet: an SRAM word in error, or a parity error (3) in a tuning context's table, 16 to 19 being the links'
(R110). -/
def foundOk (l : List (Nat × Nat)) : Bool := l.all (fun p => upsetsOk [p] || (decide (p.1 < 20) && p.2 == 3))

/-- Can a command have these operands? -/
def Instr.wf : Instr → Bool
  | .lowWordRead addr => decide (addr < 2 ^ 24) && addr % 4 == 0
  | .registerWrite addr value => decide (addr < 2 ^ 24) && addr % 4 == 0 && decide (value < 2 ^ 32)
  | .voiceEdge voice base runs _ => decide (voice < 16) && base % 2 == 0 && decide (base < coarseMod) && runBits runs == 4096
  | .pendingMarker voice => decide (voice < 16)
  | .epochWrap => true
  | .stampAccumulate voice upsets => decide (voice < 16) && upsetsOk upsets
  | .ringWrite => true
  | .ringDataRead ring offset upsets => decide (ring < 24) && decide (offset < 0x800) && offset % 4 == 0 && upsetsOk upsets
  | .flush ring => decide (ring < 24)
  | .clearLossCount ring => decide (ring < 24)
  | .clearVoiceCounts voice => decide (voice < 16)
  | .voiceStart voice => decide (voice < 16)
  | .scrub bank row column outcome user => decide (bank < 8) && decide (row < 512) && decide (column < 64) && decide (outcome < 3) && decide (user < 33)
  | .rowReplacementDone bank row => decide (bank < 8) && decide (row < 512)
  | .powerGoodRise straps _ => decide (straps < 16)
  | .powerGoodFall rails => decide (0 < rails) && decide (rails < 32)
  | .vbatLow => true
  | .bootStepComplete number _ => decide (0 < number) && decide (number < 13)
  | .firstPeriod => true
  | .pinReset => true
  | .softReset => true
  | .choirReset => true
  | .strapChange levels => decide (levels < 16)
  | .sealChange _ => true
  | .xtalFail cause => decide (cause < 2)
  | .referenceSwitch count => decide (count < coarseMod)
  | .spllLockDetect => true
  | .windowCheck _ => true
  | .spllSwitchTimeout => true
  | .overspeed count => decide (count < coarseMod)
  | .ocxoWindow _ _ => true
  | .refInLost => true
  | .ocxoRdyChange _ => true
  | .warmupLate => true
  | .tbRestartCheck => true
  | .tuningHit context slot runs _ => decide (context < 20) && decide (slot < coarseMod) && runBits runs == 3072
  | .tableSwap context => decide (context < 20)
  | .tableExpired context => decide (context < 20)
  | .bootTuningLate context => decide (context < 20)
  | .collectionTimeout context => decide (context < 20)
  | .tuneRestart context => decide (context < 20)
  | .exciterTrip exciter => decide (exciter < 8)
  | .classifierCondition monitor level => decide (monitor < 8) && decide (level < 3)
  | .openWireCheck exciter below => decide (exciter < 8) && decide (below < 256)
  | .monitorSettled monitor => decide (monitor < 8)
  | .selfTestStep monitor upper lower => decide (monitor < 8) && decide (upper < 65536) && decide (lower < 65536)
  | .wmSelfTest mask => decide (mask < 256)
  | .monitorBothHigh monitor => decide (monitor < 8)
  | .exciterStart exciter => decide (exciter < 8)
  | .pulseStart exciter _ => decide (exciter < 8)
  | .pulseEnd exciter => decide (exciter < 8)
  | .sweepHalfPeriod exciter _ => decide (exciter < 8)
  | .periodBoundary timer => decide (timer < 4)
  | .closeout parity upsets chains => decide (parity < 65536) && decide (chains < 65536) && upsetsOk upsets
  | .closeoutDeadline timer => decide (timer < 4)
  | .voiceSilent voice => decide (voice < 16)
  | .clearAllanCtx context => decide (context < 24)
  | .clearAllanAll => true
  | .clearRestCounts => true
  | .analyserStamp analyser upsets => decide (analyser < 4) && upsetsOk upsets
  | .analyserCloseout analyser upsets => decide (analyser < 4) && upsetsOk upsets
  | .rseqRead analyser => decide (analyser < 4)
  | .captureTimeout => true
  | .rearmElapsed => true
  | .missedTriggerRead analyser offset upsets => decide (analyser < 4) && decide (offset < 16) && offset % 4 == 0 && upsetsOk upsets
  | .captureBufferRead entry offset upsets => decide (entry < 65536) && decide (offset < 16) && offset % 4 == 0 && upsetsOk upsets
  | .commandTrigger analyser => decide (analyser < 4)
  | .clearHistogram analyser => decide (analyser < 4)
  | .clearTotal analyser => decide (analyser < 4)
  | .clearMissCount analyser => decide (analyser < 4)
  | .releaseSegment segment => decide (segment < 64)
  | .completeCapture => true
  | .releaseAll => true
  | .localSum upsets => upsetsOk upsets
  | .pipelineCommit upsets => upsetsOk upsets
  | .zero => true
  | .tare => true
  | .clearTare => true
  | .print => true
  | .legalResultRead => true
  | .totPulseEnd => true
  | .trackStamp voice upsets => (voice == 14 || voice == 15) && upsetsOk upsets
  | .frameDecode upsets => upsetsOk upsets
  | .frameLate => true
  | .shock => true
  | .dropout first last => decide (first < coarseMod) && decide (last < coarseMod)
  | .learnRunStart => true
  | .learnProfile => true
  | .clearProv => true
  | .emptyWeakMap => true
  | .reacquire => true
  | .laneSignalDetect port lane => decide (port < 2) && decide (lane < 2)
  | .laneAlign port lane codes => decide (port < 2) && decide (lane < 2) && codes.all (fun c => decide (c < 1024))
  | .trainingSet port lane codes _ _ => decide (port < 2) && decide (lane < 2) && codes.length == 4 && codes.all (fun c => decide (c < 1024))
  | .trainingTimeout port => decide (port < 2)
  | .trainingRetry port => decide (port < 2)
  | .laneSignalLoss port => decide (port < 2)
  | .codeViolationLimit port lane _ codes => decide (port < 2) && decide (lane < 2) && decide (codes.length ≤ 65536) && codes.all (fun c => decide (c < 1024))
  | .oneLaneRetrain port => decide (port < 2)
  | .frameRx port bytes _ => decide (port < 2) && bytes.all (fun b => decide (b < 256))
  | .ack port lseq => decide (port < 2) && decide (lseq < 256)
  | .nak port lseq upsets => decide (port < 2) && decide (lseq < 256) && upsetsOk upsets
  | .ackTimer port => decide (port < 2)
  | .replayTimeout port upsets => decide (port < 2) && upsetsOk upsets
  | .syncSend _ _ parity => decide (parity < 4)
  | .timeSend => true
  | .healthSend => true
  | .cfghashSend => true
  | .syncRx port _ _ => decide (port < 2)
  | .thetaTimeout => true
  | .timeRx => true
  | .sumRx => true
  | .sumWindowEnd => true
  | .resultRx => true
  | .resultTimeout => true
  | .healthRx => true
  | .cfghashRx => true
  | .logRx => true
  | .opRx => true
  | .switchRx => true
  | .switchAckRx => true
  | .resetRx => true
  | .retireRx => true
  | .readmitRx => true
  | .realignReqRx => true
  | .claimTime => true
  | .aliveLapse address => decide (address < 16)
  | .retrainPort port => decide (port < 2)
  | .readmitDevice address => decide (address < 16)
  | .choirResetCmd => true
  | .clearChoirCounters => true
  | .apply => true
  | .applyLoad => true
  | .cancel => true
  | .programKeyFuses => true
  | .validationDone _ => true
  | .commitComplete step _ => decide (0 < step) && decide (step < 5)
  | .switchingBoundary => true
  | .transitionEnd => true
  | .read addr _ _ upsets => decide (addr < 2 ^ 24) && foundOk upsets
  | .fastRead addr _ _ upsets => decide (addr < 2 ^ 24) && foundOk upsets
  | .quadRead addr _ _ upsets => decide (addr < 2 ^ 24) && foundOk upsets
  | .qioRead addr _ _ upsets => decide (addr < 2 ^ 24) && foundOk upsets
  | .write addr bytes _ => decide (addr < 2 ^ 24) && bytes.all (fun b => decide (b < 256))
  | .quadWrite addr bytes _ => decide (addr < 2 ^ 24) && bytes.all (fun b => decide (b < 256))
  | .qioWrite addr bytes _ => decide (addr < 2 ^ 24) && bytes.all (fun b => decide (b < 256))
  | .status => true
  | .unknownCommand code => decide (code < 256)
  | .unread ring => decide (ring < 24)
  | .ptRead => true
  | .ptProgram => true
  | .ptErase => true
  | .slotErase => true
  | .ptDone _ => true
  | .ptTimeout => true
  | .extest => true
  | .idcode => true
  | .samplePreload => true
  | .clamp => true
  | .highz => true
  | .bypass => true
  | .privateInstruction code => decide (5 ≤ code) && decide (code < 31)
  | .jtagInstructionLeave => true
  | .calendarSecond => true
  | .setCalendar => true
  | .calWriteApply => true
  | .kckStop => true
  | .logRecordWrite outcome => decide (outcome < 3)
  | .collection outcome => decide (outcome < 3)
  | .nvmRetry outcome => decide (outcome < 3)
  | .totaliserPhase1 outcome => decide (outcome < 3)
  | .totaliserPhase2 outcome => decide (outcome < 3)
  | .loadRecord => true
  | .loadAuditRecord => true
  | .logLoadDone _ => true
  | .reAdmit source => decide (source < 256)
  | .clearSramCorr => true
  | .ringLockTimeout ring => decide (ring < 24)
  | .hold => true
  | .run => true
  | .standby => true
  | .standbyEntryComplete => true
  | .resume => true
  | .wake => true
  | .resumeStepComplete number _ => decide (0 < number) && decide (number < 9)
  | .dieTempMeasure temperature => decide (temperature < 65536)
  | .resetNRise => true
  | .refInEdgesPresent => true
  | .backupDomainLoss => true

end Sys2Proof
end

