-- ==== Sys2Proof/Machine/Effect.lean ====
section
/-! DEFINITION.
How a command's effect on the device becomes an outcome.
-/

namespace Sys2Proof.Machine

/-- The outcome of a command with an effect on the device. The queue is untouched; operands that no command can carry have no effect. -/
def State.onDev (s : State) (i : Instr) (f : Dev → Dev) : Host.Outcome State Fault Refusal :=
  .next { s with dev := if i.wf then f s.dev else s.dev }

end Sys2Proof.Machine
end

