-- ==== Sys2Proof/Machine/Ops.lean ====
section
/-! DEFINITION.
The named operations the commands are built from: register fields, the timescale, the units by number, offers to the
ring writer, notifications (R296) and journal records (R312, R313).
-/

namespace Sys2Proof.Machine

open Reg

/-- A register field's value. -/
def Dev.rd (d : Dev) (f : Fld) : Nat := d.regs.get f

/-- Write a register field. -/
def Dev.wr (d : Dev) (f : Fld) (v : Nat) : Dev := { d with regs := d.regs.set f v }

/-- Is a one-bit field set? -/
def Dev.is (d : Dev) (f : Fld) : Bool := d.rd f != 0

/-- Add one, holding at the field's largest value. -/
def Dev.inc (d : Dev) (f : Fld) : Dev := d.wr f (incHold f.width (d.rd f))

/-- Add one, wrapping. -/
def Dev.step1 (d : Dev) (f : Fld) : Dev := d.wr f (d.rd f + 1)

/-- Do something only when a condition holds. -/
def Dev.when (d : Dev) (c : Bool) (f : Dev → Dev) : Dev := if c then f d else d

/-- Do something for each element of a list, in order. -/
def Dev.each {α : Type} (d : Dev) (l : List α) (f : Dev → α → Dev) : Dev := l.foldl f d

/-- A value that a rule leaves open: the next of the free values (DESIGN CHOICE, log entry 5). -/
def Dev.openValue (d : Dev) : Nat := Config.freeValue d.free

/-- Use up the next free value. DESIGN CHOICE: log entry 5. -/
def Dev.nextFree (d : Dev) : Dev := { d with free := d.free + 1 }

/-- Voice `n`. -/
def Dev.voice (d : Dev) (n : Nat) : Voice := Tab.read Voice.fresh d.voices n

/-- Replace voice `n`; STATUS.FIFO_LEVEL shows its occupancy, the boundary slot included. -/
def Dev.putVoice (d : Dev) (n : Nat) (v : Voice) : Dev :=
  { d with voices := Tab.write d.voices n v }.wr (VOICE_STATUS_FIFO_LEVEL n) v.fifo.length

/-- Ring `n`. -/
def Dev.ring (d : Dev) (n : Nat) : Ring := Tab.read Ring.fresh d.rings n

/-- Replace ring `n`. -/
def Dev.putRing (d : Dev) (n : Nat) (r : Ring) : Dev := { d with rings := Tab.write d.rings n r }

/-- Tuning context `c`. -/
def Dev.tun (d : Dev) (c : Nat) : Tune := Tab.read Tune.fresh d.tune c

/-- Replace tuning context `c`. -/
def Dev.putTun (d : Dev) (c : Nat) (t : Tune) : Dev := { d with tune := Tab.write d.tune c t }

/-- Monitor `m`. -/
def Dev.wm (d : Dev) (m : Nat) : Wm := Tab.read Wm.fresh d.wms m

/-- Replace monitor `m`. -/
def Dev.putWm (d : Dev) (m : Nat) (w : Wm) : Dev := { d with wms := Tab.write d.wms m w }

/-- Exciter `x`. -/
def Dev.exc (d : Dev) (x : Nat) : Exc := Tab.read Exc.fresh d.excs x

/-- Replace exciter `x`. -/
def Dev.putExc (d : Dev) (x : Nat) (e : Exc) : Dev := { d with excs := Tab.write d.excs x e }

/-- Timer `t`. -/
def Dev.timer (d : Dev) (t : Nat) : Timer := Tab.read Timer.fresh d.timers t

/-- Replace timer `t`. -/
def Dev.putTimer (d : Dev) (t : Nat) (x : Timer) : Dev := { d with timers := Tab.write d.timers t x }

/-- Is timer `t` enabled (R134)? -/
def Dev.timerOn (d : Dev) (t : Nat) : Bool := d.is (TIMER_LENGTH_US t)

/-- The timer that stands for a unit's periods: `t`, or TIMER[0] when `t` is disabled (R327, R330). -/
def Dev.timerOr0 (d : Dev) (t : Nat) : Nat := if d.timerOn t then t else 0

/-- The timer of voice `n` (R135). -/
def Dev.timerOf (d : Dev) (n : Nat) : Nat := d.rd (FIT_VOICE_CFG_TIMER n)

/-- The present coarse count. Through a closed gate it is carried by FCK (R58, R64); before SCK first opens it is 0. -/
def Dev.coarse (d : Dev) : Nat :=
  if d.is TB_STATUS_GATED && d.time.opened then (d.time.coarse + d.time.gap * 16 / 5) % coarseMod else d.time.coarse

/-- The present extended time (R72). -/
def Dev.ext (d : Dev) : Nat := d.rd EPOCH_COUNT_COUNT * coarseMod + d.coarse

/-- TIME_NOW: the coarse count in stamp format. -/
def Dev.timeNow (d : Dev) : Nat := d.coarse * 1024

/-- Bring the running count forward to a coarse count an event names; it never runs back. DESIGN CHOICE: log entry 57. -/
def Dev.advance (d : Dev) (c : Nat) : Dev :=
  if d.time.coarse < c % coarseMod then { d with time := { d.time with coarse := c % coarseMod, fifths := 0 } } else d

/-- Is SCK running: the gate open and FCK on FPLL? -/
def Dev.sckOpen (d : Dev) : Bool := !d.is TB_STATUS_GATED && !d.is TB_STATUS_FCK_SRC

/-- POWER_STATUS.STATE (R341): 0 BOOT, 1 RUN, 2 HOLD, 3 STANDBY, 4 RESUMING, 5 SAFE. -/
def Dev.mode (d : Dev) : Nat := d.rd POWER_STATUS_STATE

/-- Is the device powered, out of reset and neither held by TEST_EN nor by the TAP? -/
def Dev.alive (d : Dev) : Bool := d.power.good && !d.power.testHeld && !d.power.resetLow && !d.power.jtagHeld

/-- Has boot step `n` of R20 completed? -/
def Dev.booted (d : Dev) (n : Nat) : Bool := d.power.steps.testBit n

/-- A boot is in progress until steps 9, 10 and 11 have completed (R294). -/
def Dev.booting (d : Dev) : Bool := d.mode == 0

/-- The number of declared devices of the choir (R232). -/
def Dev.deviceCount (d : Dev) : Nat :=
  ((List.range 16).filter (fun a => (d.rd CHOIR_DEVICES_MASK).testBit a)).length

/-- The reference that the mode or the role asks for (R47, R48): 0 crystal, 1 OCXO, 2 OCXO preferred, 3 fractional crystal of
a member. -/
def Dev.refMode (d : Dev) : Nat :=
  if d.rd TB_CFG_MODE = 3 then
    (if d.rd CHOIR_STATUS_STATE = 4 ∨ d.deviceCount ≤ 1 then d.rd TB_CFG_CANTOR_REF else 3)
  else d.rd TB_CFG_MODE

/-- Does the mode or the role ask for the OCXO (R47, R48, R51)? -/
def Dev.needsOcxo (d : Dev) : Bool := d.refMode == 1 || d.refMode == 2

/-- The OCXO state follows the mode and the role (R51): OFF and WAIT. -/
def Dev.followOcxo (d : Dev) : Dev :=
  let st := d.rd TB_STATUS_OCXO_STATE
  if d.needsOcxo then
    if st = 0 then ({ d with time := { d.time with warmStarted := true, lastY := none } }).wr TB_STATUS_OCXO_STATE 1 else d
  else if st = 0 ∨ st = 5 then d
  else (({ d with time := { d.time with lastY := none } }).wr TB_STATUS_OCXO_STATE 0).wr TB_STATUS_STAB_COUNT 0

/-- The FCK, counted on the timescale, in which a coarse count is reached. -/
def fckOf (ext : Nat) : Nat := ext * 5 / 16

/-- The calendar value with its flag bits (R305). -/
def Dev.calendar (d : Dev) : Nat :=
  d.rd CAL_NOW_CAL % 2 ^ 60 + d.rd CAL_STATUS_END * 2 ^ 62 + d.rd CAL_STATUS_VALID * 2 ^ 63

/-- Offer an entry to the ring writer (R84) under a producer's present epoch (R335; producer 0 takes no lock). In the safe
state RING_16 and RING_17 take no new entry (R337). -/
def Dev.offer (d : Dev) (ring producer : Nat) (words : List Nat) : Dev :=
  if d.mode = 5 ∧ (ring = 16 ∨ ring = 17) then d
  else
    { d with writer := { d.writer with waiting := d.writer.waiting ++
      [{ ring := ring, words := words, done := 0, producer := producer,
         epoch := Store.read d.writer.epochs producer, since := d.writer.cycle }] } }

/-- Raise a producer's epoch: it was restarted or abandoned work in progress (R335). DEDUCED: log entry 43. -/
def Dev.raiseEpoch (d : Dev) (producer : Nat) : Dev :=
  { d with writer := { d.writer with
      epochs := Store.write d.writer.epochs producer ((Store.read d.writer.epochs producer + 1) % 256) } }

/-- A notification word (R296). -/
def notifyWord (time kind sub arg nseq : Nat) : Nat :=
  time % 2 ^ 64 + kind % 256 * 2 ^ 64 + sub % 256 * 2 ^ 72 + arg % 2 ^ 32 * 2 ^ 80 + nseq % 65536 * 2 ^ 112

/-- Raise a notification when HOST_NOTIFY_EN enables its kind (R296). -/
def Dev.notify (d : Dev) (kind sub arg : Nat) : Dev :=
  if (d.rd HOST_NOTIFY_EN_KINDS).testBit (kind - 1) then
    let d := d.offer 19 0 [notifyWord d.timeNow kind sub arg d.faults.nseq]
    { d with faults := { d.faults with nseq := (d.faults.nseq + 1) % 65536 } }
  else d

/-- Set the queue of journal records; LOG_STATUS.LOG_QUEUE shows its length. -/
def Dev.putLog (d : Dev) (q : List LogRec) : Dev := { d with logQueue := q }.wr LOG_STATUS_LOG_QUEUE q.length

/-- Replace the first waiting record of a kind, if one waits. -/
def replaceKind (r : LogRec) : List LogRec → Option (List LogRec)
  | [] => none
  | x :: q => if x.kind = r.kind then some (r :: q) else (replaceKind r q).map (x :: ·)

/-- Queue a journal record (R320): a full queue discards and counts it; an AGEING or WEAK_MAP record replaces a waiting
one of its kind while the NVM is held or the queue is full. -/
def Dev.queueLog (d : Dev) (r : LogRec) : Dev :=
  let full := decide (64 ≤ d.logQueue.length)
  let swapped := if (full || d.is LOG_STATUS_NVM_HOLD) && (r.kind == 1 || r.kind == 5) then replaceKind r d.logQueue else none
  match swapped with
  | some q => d.putLog q
  | none => if full then { d with logLost := d.logLost + 1 }.inc LOSS_TOTAL else d.putLog (d.logQueue ++ [r])

/-- Queue a record that this device originates (R312, R313). -/
def Dev.log (d : Dev) (kind : Nat) (payload : List Nat) : Dev :=
  d.queueLog { kind := kind, origin := d.rd CHOIR_CFG_ADDR, cal := d.calendar, payload := payload }

/-- The bits of CHOIR_EVENT, lowest first. -/
def choirEventFlds : List Fld :=
  [CHOIR_EVENT_ROLE, CHOIR_EVENT_JOIN, CHOIR_EVENT_UNJOIN, CHOIR_EVENT_STEP, CHOIR_EVENT_CFG_MISMATCH,
   CHOIR_EVENT_DUP_ADDR, CHOIR_EVENT_REALIGN, CHOIR_EVENT_RESULT_MISS]

/-- The bits of a mask that CHOIR_EVENT does not hold yet. -/
def Dev.choirNew (d : Dev) (mask : Nat) : Nat :=
  (choirEventFlds.zipIdx.map (fun p => if mask.testBit p.2 && !d.is p.1 then 2 ^ p.2 else 0)).sum

/-- Set bits of CHOIR_EVENT. The bits that become 1 raise a CHOIR notification and a CHOIR record (R296, R313). -/
def Dev.choirEvent (d : Dev) (mask : Nat) : Dev :=
  let fresh := d.choirNew mask
  if fresh = 0 then d
  else
    let d := d.each choirEventFlds.zipIdx (fun d p => if fresh.testBit p.2 then d.wr p.1 1 else d)
    let d := d.notify 8 (d.rd CHOIR_STATUS_STATE) fresh
    d.log 11 (bytesLE 1 fresh ++ bytesLE 1 (d.rd CHOIR_STATUS_STATE) ++ bytesLE 1 (d.rd CHOIR_STATUS_CANTOR) ++ [0] ++
      bytesLE 2 (d.rd CHOIR_STATUS_CEPOCH) ++ [0, 0] ++ bytesLE 4 (d.rd (TIMER_PCOUNT_COUNT (d.rd PIPE_CFG_TIMER))))

/-- Analyser instance `a`. -/
def Dev.ana (d : Dev) (a : Nat) : Ana := Tab.read Ana.fresh d.anas a

/-- Replace instance `a`. -/
def Dev.putAna (d : Dev) (a : Nat) (x : Ana) : Dev := { d with anas := Tab.write d.anas a x }

/-- Does instance `a` measure two different voices (R157)? -/
def Dev.anaTwo (d : Dev) (a : Nat) : Bool :=
  (d.rd (ANA_CFG_MODE a) == 1 || d.rd (ANA_CFG_MODE a) == 2) && d.rd (ANA_CFG_VOICE_S a) != d.rd (ANA_CFG_VOICE_T a)

/-- The voices of instance `a`. -/
def Dev.anaVoices (d : Dev) (a : Nat) : List Nat :=
  if d.rd (ANA_CFG_MODE a) = 0 then []
  else if d.anaTwo a then [d.rd (ANA_CFG_VOICE_S a), d.rd (ANA_CFG_VOICE_T a)] else [d.rd (ANA_CFG_VOICE_S a)]

/-- Mark a reason (R149) on the period in progress of voice `n`, and on that of each analyser instance that uses it (R164). -/
def Dev.restVoice (d : Dev) (n reason : Nat) : Dev :=
  let v := d.voice n
  let d := d.putVoice n { v with causes := v.causes ||| 2 ^ reason }
  d.each (List.range 4) (fun d a =>
    if (d.anaVoices a).contains n then d.putAna a { d.ana a with causes := (d.ana a).causes ||| 2 ^ reason } else d)

/-- Mark a reason on the period in progress of every voice. -/
def Dev.restAll (d : Dev) (reason : Nat) : Dev := d.each (List.range 16) (fun d n => d.restVoice n reason)

/-- A new entry of a voice; RUNT marks the first entry formed after a dropped pair (R74, R77). -/
def Voice.entry (v : Voice) (ext fine evcnt edge flags m k : Nat) : Entry :=
  { id := v.nextId, ext := ext, fine := fine, evcnt := evcnt, edge := edge,
    flags := flags ||| (if v.runtNext then 32 else 0), m := m, k := k }

/-- Put a new entry at the end of the FIFO. -/
def Voice.pushFifo (v : Voice) (e : Entry) : Voice :=
  { v with fifo := v.fifo ++ [e], nextId := v.nextId + 1, runtNext := false }

/-- Hand the ring writer a marker to write directly (R84). -/
def Voice.pushDirect (v : Voice) (e : Entry) : Voice :=
  { v with direct := v.direct ++ [e], nextId := v.nextId + 1, runtNext := false }

/-- The numbers of the bits set in a mask of 16. -/
def maskBits (mask : Nat) : List Nat := (List.range 16).filter (fun n => mask.testBit n)

end Sys2Proof.Machine
end

