-- ==== Sys2Proof/Machine/Outputs.lean ====
section
/-! DEFINITION.
The outputs and the legal result: forcing setpoints, pulses and exciters to their safe levels, and committing an error.
-/

namespace Sys2Proof.Machine

open Reg

/-- Set the level of setpoint pin `i`. -/
def Dev.spPin (d : Dev) (i level : Nat) : Dev := { d with pins := { d.pins with sp := Store.write d.pins.sp i level } }

/-- Turn setpoint `i` off and drive its safe level (R199), with SRC 0 too. DEDUCED: log entry 75. -/
def Dev.spForce (d : Dev) (i : Nat) : Dev :=
  ((d.wr (SP_STATE_ON i) 0).wr (SP_STATE_FORCED i) 1).spPin i (d.rd (SP_CFG_SAFE i))

/-- Every setpoint off and at its safe level. -/
def Dev.spForceAll (d : Dev) : Dev := d.each (List.range 4) Dev.spForce

/-- Drive TOT_PULSE low (R200). -/
def Dev.totLow (d : Dev) : Dev := { d with pins := { d.pins with totPulse := 0, totRest := false } }

/-- Abandon an exciter's schedule and drive its safe level (R130), one in OFF too. DEDUCED: log entry 75. -/
def Dev.excSafe (d : Dev) (x : Nat) : Dev :=
  d.putExc x { d.exc x with running := false, high := false, qual := false, checking := false, failed := 0,
                            startDue := false, out := d.rd (EXC_CFG_SAFE x) }

/-- Every exciter at its safe level. -/
def Dev.excSafeAll (d : Dev) : Dev := d.each (List.range 8) Dev.excSafe

/-- Restart the pipeline's filters: the moving average, the IIR state and the motion window are emptied (R184). -/
def Dev.restartFilters (d : Dev) : Dev :=
  { d with pipe := { d.pipe with ma := [], a1 := 0#64, a2 := 0#64, f1 := 0#64, f2 := 0#64, motion := [], iirFresh := true } }
    |>.wr PIPE_STATUS_FED 0 |>.wr PIPE_STATUS_READY 0 |>.wr PIPE_STATUS_MOTION_FILL 0

/-- Show an error cause in LEGAL_RESULT: the weight and the status bits R184 names are held at 0. -/
def Dev.showError (d : Dev) (cause : Nat) : Dev :=
  let d := if d.is LR_STATUS_ERROR then d else d.wr PIPE_EVENT_ERROR_ENTRY 1
  d |>.wr LR_WEIGHT_WEIGHT 0 |>.wr LR_STATUS_STABLE 0 |>.wr LR_STATUS_CENTER_ZERO 0 |>.wr LR_STATUS_OVERLOAD 0
    |>.wr LR_STATUS_UNDERLOAD 0 |>.wr LR_STATUS_ERROR 1 |>.wr LR_STATUS_ERR_CAUSE cause

/-- End a commit of LEGAL_RESULT: SEQ rises and a RESULT notification of the entry's kind is raised (R195, R296). -/
def Dev.countCommit (d : Dev) (kind : Nat) : Dev :=
  let d := d.step1 LR_SEQ_SEQ
  d.notify 2 kind (d.rd LR_SEQ_SEQ + d.rd LR_SEQ_PSEQ * 65536)

/-- Commit an error outside a period, as at entry into HOLD and into the safe state (R184, R202, R337): the filters
restart, the setpoints are forced, and SEQ rises. -/
def Dev.commitError (d : Dev) (cause : Nat) : Dev :=
  ((d.showError cause).restartFilters.spForceAll).countCommit 3

end Sys2Proof.Machine
end

