-- ==== Sys2Proof/Machine/Belt.lean ====
section
/-! DEFINITION.
The belt of the track channel (R205 to R208, R225): coordinates, segments, splices, the live thresholds, and what counts for frames and zones.
-/

namespace Sys2Proof.Machine

open Reg

/-- Replace the track channel. -/
def Dev.putTrack (d : Dev) (t : TrackSt) : Dev := { d with track := t }

/-- TRACK_STATUS.STATE (R218): 0 OFF, 1 ACQUIRE, 2 LOCKED, 3 BRIDGING, 4 STOPPED, 5 FAILED. -/
def Dev.trackState (d : Dev) : Nat := d.rd TRACK_STATUS_STATE

/-- The position is established in LOCKED, BRIDGING and STOPPED (R218). -/
def Dev.placed (d : Dev) : Bool := d.trackState == 2 || d.trackState == 3 || d.trackState == 4

/-- The cell length in µm. -/
def Dev.cellLen (d : Dev) : Nat := d.rd TRACK_CELL_CELL_LEN

/-- The segment of a coordinate (R206). -/
def Dev.segOf (d : Dev) (p : Nat) : Nat := p * 1024 / d.rd BELT_LEN

/-- A coordinate brought into the belt. -/
def Dev.onBelt (d : Dev) (x : Int) : Nat := (x % (d.rd BELT_LEN : Int)).toNat

/-- How far `q` lies ahead of `p` on the belt. -/
def Dev.ahead (d : Dev) (p q : Nat) : Nat := d.onBelt ((q : Int) - (p : Int))

/-- The live thresholds of WM[6] (R116). -/
def Dev.putLive (d : Dev) (lower upper hyst : Nat) : Dev :=
  ((d.wr (WM_THRESH_LIVE_LOWER 6) lower).wr (WM_THRESH_LIVE_UPPER 6) upper).wr (WM_THRESH_LIVE_HYST 6) hyst

/-- While the position is not established the image's own thresholds apply, with ASYM 0 (R209). -/
def Dev.leaveZones (d : Dev) : Dev :=
  match d.track.zone with
  | none => d
  | some _ =>
    let d := d.putLive (d.rd (WM_THRESH_LOWER 6)) (d.rd (WM_THRESH_UPPER 6)) (d.rd (WM_CFG_HYST 6))
    d.putTrack { d.track with zone := none, asymOld := d.track.asym, asym := 0, asymFrom := d.ext }

/-- The segments of a stretch of belt, each once. -/
def Dev.segsOf (d : Dev) (p len : Nat) : List Nat :=
  let a := d.segOf p
  let n := d.segOf (p + (len - 1)) - a + 1
  if len = 0 then [] else (List.range (min n 1024)).map (fun i => (a + i) % 1024)

/-- The segments overlapped by the cells of a frame that begins at a coordinate, split or not. -/
def Dev.frameSegs (d : Dev) (p : Nat) (split : Option (Nat × Nat)) : List Nat :=
  match split with
  | none => d.segsOf p (320 * d.cellLen)
  | some s => (d.segsOf p (2 * s.1 * d.cellLen) ++ d.segsOf s.2 ((320 - 2 * s.1) * d.cellLen)).dedup

/-- The splice entries: POS, LEN and BIT (R208). DEDUCED: log entry 40. -/
def Dev.splices (d : Dev) : List (Nat × Nat × Nat) :=
  (List.range (min 16 (d.rd TRACK_DETECT_SPLICE_COUNT))).map (fun s => (d.rd (SPLICE_POS s), d.rd (SPLICE_LEN s), d.rd (SPLICE_BIT s)))

/-- Do two coordinates lie within half a frame pitch of each other? -/
def Dev.nearBy (d : Dev) (p q : Nat) : Bool :=
  decide (d.ahead p q < 163 * d.cellLen) || decide (d.ahead q p < 163 * d.cellLen)

/-- The splice that splits the frame beginning at a coordinate: its bit and the end of its region (R208). -/
def Dev.splitOf (d : Dev) (p : Nat) : Option (Nat × Nat) :=
  (d.splices.find? (fun s => s.2.2 != 0 && d.nearBy p (d.onBelt ((s.1 : Int) - ((2 * s.2.2 * d.cellLen : Nat) : Int))))).map
    (fun s => (s.2.2, d.onBelt ((s.1 + s.2.1 : Nat) : Int)))

/-- Add 1 to a counter of a table, holding at 255. -/
def bump255 (s : Store) (k : Nat) : Store := Store.write s k (min 255 (Store.read s k + 1))

/-- Count a frame for the segments and zones it overlaps (R227). -/
def Dev.countFrame (d : Dev) (segs : List Nat) (good : Bool) : Dev :=
  let zones := (segs.map (· / 16)).dedup
  let t := d.track
  if good then d.putTrack { t with okSeg := segs.foldl bump255 t.okSeg, okZone := zones.foldl bump255 t.okZone }
  else d.putTrack { t with badSeg := segs.foldl bump255 t.badSeg, badZone := zones.foldl bump255 t.badZone }

/-- A HEAVY frame: counted, and its segments are marked (R216, R225). -/
def Dev.heavyFrame (d : Dev) (segs : List Nat) : Dev :=
  let d := d.inc FRAME_HEAVY
  d.putTrack { d.track with heavyNow := segs.foldl (fun m s => Store.write m s 1) d.track.heavyNow }

/-- The segments of a frame whose coordinate is known. -/
def Dev.segsOfFrame (d : Dev) (c : Collected) : List Nat :=
  match c.pos with
  | some p => d.frameSegs p c.split
  | none => []

/-- Mark causes on the zone in progress (R222). -/
def Dev.markZone (d : Dev) (mask : Nat) : Dev :=
  if d.track.sigma.isSome then d.putTrack { d.track with causes := d.track.causes ||| mask } else d

end Sys2Proof.Machine
end

