-- ==== Sys2Proof/Machine/Faults.lean ====
section
/-! DEFINITION.
Faults (chapter 15): the fault record, strikes, retirement and what it does to each source, and the safe state.
-/

namespace Sys2Proof.Machine

open Reg

/-- The classes of R327. -/
def reportOnly : Nat := 0
def transient : Nat := 1
def permanent : Nat := 2

/-- The source identifiers of R329 that are not indexed. -/
def srcOcxo : Nat := 0x20
def srcSpll : Nat := 0x21
def srcDevice : Nat := 0x22
def srcNone : Nat := 0xFF

/-- The strike timer of a source (R329, R330). -/
def Dev.strikeTimer (d : Dev) (src : Nat) : Nat :=
  if src < 16 then d.timerOf src else d.timerOr0 (d.rd PIPE_CFG_TIMER)

/-- Is a source retired? -/
def Dev.isRetired (d : Dev) (src : Nat) : Bool := d.is (STRIKE_RETIRED src)

/-- TOTAL of a totalising instance is suspect when a period overlaps a closed gate (R162). -/
def Dev.suspectTotals (d : Dev) : Dev :=
  d.each (List.range 4) (fun d a => if d.rd (ANA_CFG_MODE a) = 5 then d.wr (ANA_RSTAT_TOTAL_SUSPECT a) 1 else d)

/-- Close the SCK gate (R58 steps 1 to 3): the count is taken at closure and FCK counts the gap; collections of tuning hits
are discarded, and every period in progress is a rest with reason 6 (R59), or 7 for a switch of the configuration.
DEDUCED: log entry 30. -/
def Dev.closeGate (d : Dev) (reason : Nat) : Dev :=
  let d := (d.restAll reason).suspectTotals
  if d.is TB_STATUS_GATED then d
  else
    let d := { d with time := { d.time with gap := 0 } }.wr TB_STATUS_GATED 1
    d.each (List.range 20) (fun d c =>
      if d.rd (TUNE_STATUS_MODE c) = 0 then d
      else (d.putTun c { d.tun c with hist := [], iso := false }).wr (TUNE_HITS_COUNT c) 0)

/-- Collection in a context stops (R101). -/
def Dev.stopTuning (d : Dev) (c : Nat) : Dev :=
  ((d.putTun c { d.tun c with hist := [], iso := false }).wr (TUNE_HITS_COUNT c) 0).wr (TUNE_STATUS_MODE c) 0

/-- Is a fault written to the journal (R313)? -/
def Dev.faultLogged (d : Dev) (code cls : Nat) : Bool :=
  if code = 0x0B20 then !d.is TB_STATUS_FCK_SRC
  else decide (code / 256 = 9) || decide (code / 256 = 10) || decide (cls = 2) ||
    (decide (cls = 1) && decide (1 ≤ d.rd LOG_CFG_FAULT_LEVEL)) || decide (2 ≤ d.rd LOG_CFG_FAULT_LEVEL)

/-- A fault record (R327). -/
def faultWord (time code src strikes cls retire prob arg fseq : Nat) : Nat :=
  time % 2 ^ 64 + code * 2 ^ 64 + src * 2 ^ 80 + strikes * 2 ^ 88 + cls * 2 ^ 92 + retire * 2 ^ 94 + prob * 2 ^ 95 +
    arg % 65536 * 2 ^ 96 + fseq * 2 ^ 112

/-- Write one fault record with all four actions of R326. -/
def Dev.writeFault (d : Dev) (code cls src strikes retire prob arg : Nat) : Dev :=
  let w := faultWord d.timeNow code src strikes cls retire prob arg d.faults.fseq
  let logged := d.faultLogged code cls
  let d := d.offer 23 0 [w]
  let d := { d with faults := { d.faults with fseq := (d.faults.fseq + 1) % 65536 } }
  let d := d.notify 4 0 code
  let d := d.when logged (fun d => d.log 7 (bytesLE 16 w))
  (d.inc FAULT_STATUS_COUNT).wr FAULT_STATUS_LAST_CODE code

/-- Record a fault that charges no source: what a report-only fault without sources comes to (R326, R327). -/
def Dev.report (d : Dev) (code : Nat) : Dev :=
  d.writeFault code reportOnly srcNone 0 0 0 (d.rd (TIMER_PCOUNT_COUNT (d.timerOr0 (d.rd PIPE_CFG_TIMER))))

/-- A frame that ends without acceptance (R214, R216). -/
def Dev.failFrame (d : Dev) (c : Collected) (code : Nat) : Dev :=
  let segs := d.segsOfFrame c
  (((d.inc FRAME_FAIL).heavyFrame segs).countFrame segs false).report code

/-- The collection of a frame is cut short: the frame ends without acceptance. -/
def Dev.cutFrame (d : Dev) : Dev :=
  match d.track.collect with
  | some c => (d.putTrack { d.track with collect := none }).failFrame c 0x0701
  | none => d

/-- VOICE[14] is neither ACTIVE nor PROBATION: the track channel is FAILED, which is a cause of the zone in progress (R218, R222). -/
def Dev.failTrack (d : Dev) : Dev :=
  if !d.is TRACK_CFG_EN || d.trackState == 0 || d.trackState == 5 then d
  else
    let d := d.cutFrame.leaveZones
    let d := d.putTrack { d.track with near := none, lastStart := none, gate := none, anchor := none }
    (d.markZone 16).wr TRACK_STATUS_STATE 5

/-- Retire voice `n` (R86): a counting voice gets a RETIRED marker, a voice in STARTING gets none; a DISABLED voice stays so.
Its period in progress is a rest with reason 3, and its tuning collection stops. Without VOICE[14] the track channel is FAILED (R218). -/
def Dev.retireVoice (d : Dev) (n : Nat) : Dev :=
  let st := d.rd (VOICE_STATUS_STATE n)
  if st = 0 ∨ st = 3 then d
  else
    let v := d.voice n
    let v := if st = 1 then v else v.pushDirect (v.entry d.ext 0 v.evcnt 0 0x401 0 0)
    let d := d.putVoice n v
    let d := (((d.wr (VOICE_STATUS_STATE n) 3).wr (VOICE_EVENT_RETIRED n) 1).restVoice n 3).stopTuning n
    if n = 14 then d.failTrack else d

/-- A source is retired: its strike record says so (R331). DEDUCED: log entry 36. -/
def Dev.markRetired (d : Dev) (src : Nat) : Dev := (d.wr (STRIKE_RETIRED src) 1).wr (STRIKE_PROBATION src) 0

/-- Retire a voice as a source. -/
def Dev.retireVoiceSource (d : Dev) (n : Nat) : Dev := (d.markRetired n).retireVoice n

/-- Monitor `m` enters FAILED: every voice routed from it and every voice in its LOSS_MASK is retired (R124). -/
def Dev.failMonitor (d : Dev) (m : Nat) : Dev :=
  let d := d.wr (WM_STATUS_STATE m) 5
  let d := d.putWm m { d.wm m with step := 0, due := false }
  let hit := (List.range 16).filter (fun n =>
    (d.is (VOICE_CTRL_EN n) && d.is (VOICE_CTRL_SRC n) && d.rd (VOICE_ROUTE_WM n) == m) ||
      (d.rd (WM_LOSS_MASK_VOICES m)).testBit n)
  d.each hit Dev.retireVoiceSource

/-- The lane state field of port `p`, lane `l`. -/
def laneState (p l : Nat) : Fld := if l = 0 then LINK_STATE_LANE_STATE_0 p else LINK_STATE_LANE_STATE_1 p

/-- The port state that the lane states give (R236): UP on both, UP on one with the other retired, DOWN, or TRAINING. -/
def portStateOf (lane0 lane1 : Nat) : Nat :=
  if lane0 = 4 ∧ lane1 = 4 then 2
  else if (lane0 = 4 ∧ lane1 = 5) ∨ (lane0 = 5 ∧ lane1 = 4) then 3
  else if (lane0 = 0 ∨ lane0 = 5) ∧ (lane1 = 0 ∨ lane1 = 5) then 0
  else 1

/-- Show the port state and the clock lane that the lane states give. -/
def Dev.showPort (d : Dev) (p : Nat) : Dev :=
  let l0 := d.rd (LINK_STATE_LANE_STATE_0 p)
  let l1 := d.rd (LINK_STATE_LANE_STATE_1 p)
  (d.wr (LINK_STATE_CLOCK_LANE p) (bit (l0 == 5))).wr (LINK_STATE_STATE p) (portStateOf l0 l1)

/-- Retire a link lane: the port runs on the other one, and is DOWN when both are retired (R236). -/
def Dev.retireLane (d : Dev) (p l : Nat) : Dev :=
  ((d.wr (laneState p l) 5).showPort p).stopTuning (16 + 2 * p + l)

/-- The cantor role is left (R48, R51, R256): holdover ends, the OCXO is no longer asked for, and SPLL moves to a member's reference by a
planned switch. DEDUCED: log entry 68. -/
def Dev.leaveCantor (d : Dev) : Dev :=
  let d := ((d.wr CHOIR_STATUS_HOLDOVER 0).followOcxo)
  { d with time := { d.time with planned := true } }

/-- The device enters OUT (R333): a cantor gives its role up, and a joined member leaves. -/
def Dev.enterOut (d : Dev) : Dev :=
  let st := d.rd CHOIR_STATUS_STATE
  let d := d.wr CHOIR_STATUS_STATE 5
  let d := if st = 4 then d.leaveCantor else d
  d.choirEvent ((if st = 4 then 1 else 0) + (if st = 3 then 4 else 0))

/-- Does a source keep a strike record (R329)? -/
def hasStrikes (src : Nat) : Bool :=
  decide (src < 0x14) || (decide (0x18 ≤ src) && decide (src < 0x23)) || (decide (0x30 ≤ src) && decide (src < 0x40)) ||
    decide (src = 0x50) || decide (src = 0x51)

/-- The strikes of a source after a fault (R330). A fault to a source that is not retired marks the period; a transient one resets
DECAY_COUNT and adds one strike, at most once per period, holding at 15. -/
def Dev.addStrike (d : Dev) (src cls : Nat) : Dev :=
  if !hasStrikes src || d.isRetired src then d
  else
    let d := if cls = 1 then d.wr (STRIKE_DECAY_COUNT src) 0 else d
    let d := { d with faults := { d.faults with charged := Store.write d.faults.charged src 1 } }
    if cls = 1 ∧ Store.read d.faults.struck src = 0 then
      { d with faults := { d.faults with struck := Store.write d.faults.struck src 1 } }.inc (STRIKE_STRIKES src)
    else d

/-- Does this fault retire its source (R331)? Judged after the strike. -/
def Dev.retires (d : Dev) (src cls : Nat) : Bool :=
  hasStrikes src && !d.isRetired src &&
    (decide (cls = 2) || (decide (cls = 1) &&
      (d.is (STRIKE_PROBATION src) || decide (d.rd STRIKE_CFG_RETIRE ≤ d.rd (STRIKE_STRIKES src)))))

/-- Record one fault for one source; answers whether it retired the source. DEDUCED: log entry 36. -/
def Dev.chargeFault (d : Dev) (code cls src : Nat) (arg : Option Nat) : Dev × Bool :=
  let d := d.addStrike src cls
  let gone := d.retires src cls
  let t := if src < 16 then d.timerOf src else d.timerOr0 (d.rd PIPE_CFG_TIMER)
  let a := arg.getD (d.rd (TIMER_PCOUNT_COUNT t))
  let strikes := if hasStrikes src then d.rd (STRIKE_STRIKES src) else 0
  let prob := if hasStrikes src then d.rd (STRIKE_PROBATION src) else 0
  let d := d.writeFault code cls src strikes (bit gone) prob a
  (if gone then d.markRetired src else d, gone)

/-- Enter the safe state (R337, R338). A later cause changes nothing. DEDUCED: log entry 31. -/
def Dev.enterSafe (d : Dev) (cause code : Nat) : Dev :=
  if d.mode = 5 then d
  else
    let d := d.wr POWER_STATUS_STATE 5
    let d := d.wr SAFE_STATUS_CAUSE cause |>.wr SAFE_STATUS_CODE code |>.wr SAFE_STATUS_PENDING 1
    let d := d.writeFault 0x0B20 reportOnly srcNone 0 0 0 (d.rd TOT_BACKLOG)
    let d := (d.closeGate 6)
    let d := { d with time := { d.time with step := 0, planned := false }, items := [], anaItems := [], power := { d.power with firstOk := false, entering := false },
                      writer := { d.writer with waiting := d.writer.waiting.filter (fun e => e.ring != 16 && e.ring != 17) } }
    let d := d.each (List.range 4) (fun d t => d.putTimer t { d.timer t with live := false })
    let d := d.wr FIT_STATUS_QUEUE 0 |>.wr FIT_STATUS_BUSY 0
    (((d.commitError 8).totLow).excSafeAll).wr TB_STATUS_REFOUT_SRC 0

/-- What the retirement of a source does (R329). A member's retirement is sent by the cantor's own rule (R262). -/
def Dev.retireEffect (d : Dev) (src code : Nat) : Dev :=
  if src < 0x10 then d.retireVoice src
  else if src < 0x14 then d.retireLane ((src - 0x10) / 2) ((src - 0x10) % 2)
  else if 0x18 ≤ src ∧ src < 0x20 then d.failMonitor (src - 0x18)
  else if src = srcOcxo then d.wr TB_STATUS_OCXO_STATE 5
  else if src = srcDevice then
    if 1 < d.deviceCount then d.enterOut
    else if code = 0x0420 ∨ code = 0x0421 ∨ code = 0x0A15 then d
    else d.enterSafe 5 code
  else if src = 0x50 then d.wr CFG_STATUS_SLOT_A 5
  else if src = 0x51 then d.wr CFG_STATUS_SLOT_B 5
  else d

/-- Record a fault for one source and take its consequences. -/
def Dev.faultOne (code cls : Nat) (arg : Option Nat) (d : Dev) (src : Nat) : Dev :=
  let r := d.chargeFault code cls src arg
  if r.2 then r.1.retireEffect src code else r.1

/-- Record a fault (R326): one record per source charged, in ascending SRC, or one with SRC 0xFF when none is. -/
def Dev.fault (d : Dev) (code cls : Nat) (srcs : List Nat) (arg : Option Nat := none) : Dev :=
  match srcs with
  | [] => Dev.faultOne code cls arg d srcNone
  | l => d.each l (Dev.faultOne code cls arg)

end Sys2Proof.Machine
end

