-- ==== Sys2Proof/Machine/Float.lean ====
section
/-! DEFINITION.
IEEE 754 binary64, round to nearest even only (R11, R177, R178). A finite value is the exact integer number of
units of 2^-1074 (`F64.units`); every operation computes exactly and rounds once.
-/

namespace Sys2Proof.Machine

/-- The sign bit. -/
def f64Neg (x : F64) : Bool := decide (2 ^ 63 ≤ x.toNat)

/-- The magnitude bits. -/
def f64Mag (x : F64) : Nat := x.toNat % 2 ^ 63

/-- Infinite. -/
def f64IsInf (x : F64) : Bool := f64Mag x == 0x7FF0000000000000

/-- Not a number. -/
def f64IsNaN (x : F64) : Bool := decide (0x7FF0000000000000 < f64Mag x)

/-- Neither infinite nor not a number (R179, R204). -/
def f64IsFinite (x : F64) : Bool := decide (f64Mag x < 0x7FF0000000000000)

/-- Plus or minus zero. -/
def f64IsZero (x : F64) : Bool := f64Mag x == 0

/-- The magnitude of a finite value in units of 2^-1074. -/
def f64MagUnits (x : F64) : Nat :=
  if f64Mag x < 2 ^ 52 then f64Mag x
  else (2 ^ 52 + f64Mag x % 2 ^ 52) <<< (f64Mag x / 2 ^ 52 - 1)

/-- A finite value in units of 2^-1074, exact. -/
def f64Units (x : F64) : Int := if f64Neg x then -(f64MagUnits x : Int) else (f64MagUnits x : Int)

/-- A value with the given sign and magnitude bits. -/
def f64Make (neg : Bool) (mag : Nat) : F64 := BitVec.ofNat 64 (bit neg * 2 ^ 63 + mag)

/-- Plus zero. -/
def f64Zero : F64 := 0

/-- One. -/
def f64One : F64 := 0x3FF0000000000000

/-- Infinity of a sign. -/
def f64Inf (neg : Bool) : F64 := f64Make neg 0x7FF0000000000000

/-- The NaN an operation makes: quiet, its sign and payload free (DESIGN CHOICE, log entry 4). -/
def f64NaN : F64 := 0x7FF8000000000000 ||| Config.nanPayload

/-- Round `n / d` to the nearest integer, ties to even. -/
def roundDiv (n d : Nat) : Nat :=
  let q := n / d
  let r := n % d
  if 2 * r < d then q else if d < 2 * r then q + 1 else q + q % 2

/-- The nearest binary64 to `n / d` units of 2^-1074, ties to even, with the given sign. -/
def f64Round (neg : Bool) (n d : Nat) : F64 :=
  let s := Nat.log2 (n / d) - 52
  let b := roundDiv n (d <<< s) + s * 2 ^ 52
  if 0x7FF0000000000000 ≤ b then f64Inf neg else f64Make neg b

/-- The nearest binary64 to the rational `num / den`, ties to even. -/
def f64OfRat (num : Int) (den : Nat) : F64 := f64Round (decide (num < 0)) (num.natAbs <<< 1074) den

/-- The nearest binary64 to an integer. -/
def f64OfInt (i : Int) : F64 := f64OfRat i 1

/-- Negation. -/
def f64Negate (x : F64) : F64 := x ^^^ 0x8000000000000000

/-- Magnitude. -/
def f64Abs (x : F64) : F64 := x &&& 0x7FFFFFFFFFFFFFFF

/-- Addition. -/
def f64Add (x y : F64) : F64 :=
  if f64IsNaN x || f64IsNaN y then f64NaN
  else if f64IsInf x then (if f64IsInf y && (f64Neg x != f64Neg y) then f64NaN else x)
  else if f64IsInf y then y
  else
    let s := f64Units x + f64Units y
    if s = 0 then f64Make (f64Neg x && f64Neg y) 0 else f64Round (decide (s < 0)) s.natAbs 1

/-- Subtraction. -/
def f64Sub (x y : F64) : F64 := f64Add x (if f64IsNaN y then y else f64Negate y)

/-- Multiplication. -/
def f64Mul (x y : F64) : F64 :=
  let neg := f64Neg x != f64Neg y
  if f64IsNaN x || f64IsNaN y then f64NaN
  else if f64IsInf x || f64IsInf y then (if f64IsZero x || f64IsZero y then f64NaN else f64Inf neg)
  else f64Round neg (f64MagUnits x * f64MagUnits y) (2 ^ 1074)

/-- Division. -/
def f64Div (x y : F64) : F64 :=
  let neg := f64Neg x != f64Neg y
  if f64IsNaN x || f64IsNaN y then f64NaN
  else if f64IsInf x then (if f64IsInf y then f64NaN else f64Inf neg)
  else if f64IsInf y then f64Make neg 0
  else if f64IsZero y then (if f64IsZero x then f64NaN else f64Inf neg)
  else f64Round neg (f64MagUnits x <<< 1074) (f64MagUnits y)

/-- The integer square root by bisection: the largest `r` with `r * r ≤ n`, for `n < 4 ^ k`. -/
def isqrtBits (n : Nat) : Nat → Nat → Nat
  | 0, r => r
  | k + 1, r => isqrtBits n k (if (r + 2 ^ k) * (r + 2 ^ k) ≤ n then r + 2 ^ k else r)

/-- The integer square root. -/
def isqrt (n : Nat) : Nat := isqrtBits n (Nat.log2 n / 2 + 1) 0

/-- Square root, rounded once. -/
def f64Sqrt (x : F64) : F64 :=
  if f64IsNaN x then f64NaN
  else if f64IsZero x then x
  else if f64Neg x then f64NaN
  else if f64IsInf x then x
  else
    let n := f64MagUnits x <<< 1074
    let r := isqrt n
    f64Round false (2 * r + bit (r * r != n)) 2

/-- `x < y`; false when either is not a number. -/
def f64Lt (x y : F64) : Bool :=
  if f64IsNaN x || f64IsNaN y then false
  else if f64IsInf y && !f64Neg y then !(f64IsInf x && !f64Neg x)
  else if f64IsInf x then f64Neg x && !(f64IsInf y && f64Neg y)
  else if f64IsInf y then false
  else decide (f64Units x < f64Units y)

/-- `x ≤ y`; false when either is not a number. -/
def f64Le (x y : F64) : Bool := !f64IsNaN x && !f64IsNaN y && !f64Lt y x

/-- Equal as numbers. -/
def f64Eq (x y : F64) : Bool := f64Le x y && f64Le y x

/-- The integer nearest to a finite value, ties to even. -/
def f64ToIntEven (x : F64) : Int :=
  let m := roundDiv (f64MagUnits x) (2 ^ 1074)
  if f64Neg x then -(m : Int) else (m : Int)

/-- The largest integer not above a finite value. -/
def f64Floor (x : F64) : Int := f64Units x / (2 ^ 1074 : Nat)

/-- The smaller and the larger of two values. -/
def f64Min (x y : F64) : F64 := if f64Lt y x then y else x

/-- The larger of two values. -/
def f64Max (x y : F64) : F64 := if f64Lt x y then y else x

/-- Terms `y^(2i+1)/(2i+1)` of the artanh series in fixed point with 320 fraction bits; `p = y^(2i+1)`, `y2 = y*y`. -/
def artanhTerms (y2 : Nat) : Nat → Nat → Nat → Nat
  | 0, _, _ => 0
  | k + 1, i, p => p / (2 * i + 1) + artanhTerms y2 k (i + 1) (p * y2 / 2 ^ 320)

/-- ln(a / b) for `b ≤ a ≤ 2 b`, in fixed point with 320 fraction bits. -/
def lnRatio (a b : Nat) : Nat :=
  let y := (a - b) * 2 ^ 320 / (a + b)
  2 * artanhTerms (y * y / 2 ^ 320) 110 0 y

/-- ln of a positive rational `n / d` in fixed point with 320 fraction bits. -/
def lnFixed (n d : Nat) : Int :=
  let e : Int := (Nat.log2 n : Int) - Nat.log2 d
  let n1 := if 0 ≤ e then n else n <<< (-e).toNat
  let d1 := if 0 ≤ e then d <<< e.toNat else d
  let ln2 : Int := lnRatio 2 1
  if d1 ≤ n1 then e * ln2 + lnRatio n1 d1
  else (e - 1) * ln2 + lnRatio (2 * n1) d1

/-- The binary64 nearest to ln of a positive rational (R54). -/
def f64LnRat (n d : Nat) : F64 :=
  let l := lnFixed n d
  if l = 0 then f64Zero else f64OfRat l (2 ^ 320)

end Sys2Proof.Machine
end

