-- ==== Sys2Proof/Machine/Ageing.lean ====
section
/-! DEFINITION.
Dates (R305) and the ageing correction of the crystal (R54 to R56).
-/

namespace Sys2Proof.Machine

open Reg

/-- Leap years of the Gregorian rule (R305). -/
def isLeap (y : Nat) : Bool := (decide (y % 4 = 0) && decide (y % 100 ≠ 0)) || decide (y % 400 = 0)

/-- The length of a month. -/
def monthDays (y m : Nat) : Nat :=
  if m = 2 then (if isLeap y then 29 else 28) else if m = 4 ∨ m = 6 ∨ m = 9 ∨ m = 11 then 30 else 31

/-- Is a date possible (R305)? -/
def datePossible (y m day : Nat) : Bool :=
  decide (2000 ≤ y) && decide (y ≤ 2999) && decide (1 ≤ m) && decide (m ≤ 12) && decide (1 ≤ day) && decide (day ≤ monthDays y m)

/-- The days of a year before a month. -/
def daysBefore (y : Nat) : Nat → Nat
  | 0 => 0
  | m + 1 => if m = 0 then 0 else daysBefore y m + monthDays y m

/-- The number of whole days from 2000-01-01. -/
def dayNumber (y m day : Nat) : Nat :=
  let k := y - 2000
  k * 365 + (k + 3) / 4 - (k + 99) / 100 + (k + 399) / 400 + daysBefore y m + (day - 1)

/-- A date as AGE_REF_DATE lays it out: DAY [4:0], MONTH [11:8], YEAR [27:16]. -/
def dateDays (w : Nat) : Nat := dayNumber (bitsOf w 27 16) (bitsOf w 11 8) (bitsOf w 4 0)

/-- The present date, in that layout. -/
def Dev.date (d : Dev) : Nat := d.rd CAL_NOW_CAL / 2 ^ 32 % 2 ^ 28

/-- The reference date, in that layout. -/
def Dev.refDate (d : Dev) : Nat :=
  d.rd AGE_REF_DATE_DAY + d.rd AGE_REF_DATE_MONTH * 2 ^ 8 + d.rd AGE_REF_DATE_YEAR * 2 ^ 16

/-- A coefficient of the ageing law: the signed integer divided by 10^12, rounded once (R54). -/
def ageCoefficient (v : Nat) : F64 := f64Div (f64OfInt (toSigned 32 v)) (f64OfInt 1000000000000)

/-- ε(d) = A0 + A1 × ln(1 + d / D0), each operation rounded, in the order of R54. -/
def ageEps (a0 a1 d0 days : Nat) : F64 :=
  let q := f64Add f64One (f64Div (f64OfInt days) (f64OfInt d0))
  f64Add (ageCoefficient a0) (f64Mul (ageCoefficient a1) (f64LnRat (f64MagUnits q) (2 ^ 1074)))

/-- Compute the crystal's ε(d) (R54 to R56). With an invalid calendar the day number of the latest ageing record stands, or
0; faults 0x0430 and 0x0431 are recorded when their condition begins. The values before the FCK of the computation stand beside it. -/
def Dev.computeEps (d : Dev) : Dev :=
  let valid := d.is CAL_STATUS_VALID
  let now := dateDays d.date
  let ref := dateDays d.refDate
  let days := if valid then now - ref else (d.time.lastAgeDate.map (fun p => p.1)).getD 0
  let before := valid && decide (now < ref)
  let wasHeld := d.is TB_STATUS_AGE_HELD
  let wasBefore := d.is TB_STATUS_AGE_BEFORE_REF
  let eps := ageEps (d.rd AGE_A0_VALUE) (d.rd AGE_A1_VALUE) (d.rd AGE_D0_DAYS) days
  let now' := fckOf d.ext
  let again := d.time.epsFck == some now'
  let d := { d with time := { d.time with epsXtal := eps, ageD := days, epsFck := some now',
                                          epsOld := if again then d.time.epsOld else d.time.epsXtal,
                                          ageOld := if again then d.time.ageOld else d.time.ageD } }
  let d := (d.wr TB_STATUS_AGE_BEFORE_REF (bit before))
  let d := if valid then d else d.wr TB_STATUS_AGE_HELD 1
  let d := if !valid && !wasHeld then d.fault 0x0430 reportOnly [] else d
  if before && !wasBefore then d.fault 0x0431 reportOnly [] else d

/-- The frozen steering value s as a number (R57, R256). -/
def Dev.steer (d : Dev) : F64 := f64OfRat (toSigned 32 (d.rd CHOIR_STEER_S)) (2 ^ 32)

/-- Is the latest ε(d) in force for a period that begins at extended time `b` (R55): was it computed in an earlier FCK? -/
def Dev.epsInForce (d : Dev) (b : Nat) : Bool :=
  match d.time.epsFck with
  | some f => decide (f < fckOf b)
  | none => true

/-- The crystal's ε(d) for a period that begins at extended time `b`. -/
def Dev.xtalEps (d : Dev) (b : Nat) : F64 := if d.epsInForce b then d.time.epsXtal else d.time.epsOld

/-- The ageing correction that applies to a period that begins at extended time `b` (R55): none on REF_IN, ε(d) on the crystal, the cantor's
EPS on a member, and in holdover ε_H = (1 + ε)(1 + s) − 1 (R256). A device that claimed from LISTEN runs under R47 from the claim: its own
ε(d), also while SPLL still waits for its switch. -/
def Dev.epsNow (d : Dev) (b : Nat) : F64 :=
  let src := d.rd TB_STATUS_SOURCE
  if src = 1 then f64Zero
  else if src = 0 then d.xtalEps b
  else if d.is CHOIR_STATUS_HOLDOVER then
    f64Sub (f64Mul (f64Add f64One (d.xtalEps b)) (f64Add f64One d.steer)) f64One
  else if d.refMode = 3 then d.time.epsCantor
  else d.xtalEps b

/-- Is every period a rest with reason 6 because the OCXO is required and SPLL does not run on it (R52, R256)? -/
def Dev.ocxoMissing (d : Dev) : Bool := d.refMode == 1 && d.rd TB_STATUS_SOURCE != 1

/-- A date change writes an AGEING record (R313): d, and the date. DEDUCED: log entry 49. -/
def Dev.logAge (d : Dev) : Dev :=
  d.log 1 (bytesLE 4 (dateDays d.date - dateDays d.refDate) ++ bytesLE 4 d.date)

end Sys2Proof.Machine
end

