-- ==== Sys2Proof/Machine/Rings.lean ====
section
/-! DEFINITION.
The 24 rings (R87 to R91), their locks (R335), and the ring writer (R84).
-/

namespace Sys2Proof.Machine

open Reg

/-- A ring's capacity in 16-byte words. -/
def Dev.ringCap (d : Dev) (n : Nat) : Nat := d.rd (RING_CFG_SIZE n) * 256

/-- The first word of a ring in the ring region: the sizes before it added up (R87). -/
def Dev.ringBase (d : Dev) (n : Nat) : Nat := ((List.range n).map (fun i => d.ringCap i)).sum

/-- The number of an SRAM word of the ring region: consecutive words rotate through BANK_0 to BANK_3 (R16); the row and
the column within a bank follow in order (DEDUCED, log entry 21). -/
def ringSramWord (i : Nat) : Nat := (i % 4 * 512 + i / 4 / 64) * 64 + i / 4 % 64

/-- The number of the SRAM word at word index `i` of ring `n`. -/
def Dev.ringWord (d : Dev) (n i : Nat) : Nat := ringSramWord (d.ringBase n + i)

/-- A write of an SRAM word ends its being known uncorrectable (R334). -/
def Dev.sramWritten (d : Dev) (w : Nat) : Dev := { d with sram := { d.sram with bad := Store.erase d.sram.bad w } }

/-- Set a ring's FILL; FULL follows it. -/
def Dev.putFill (d : Dev) (n fill : Nat) : Dev :=
  (d.wr (RING_FILL_WORDS n) fill).wr (RING_STATUS_FULL n) (bit (decide (0 < d.ringCap n) && decide (d.ringCap n ≤ fill)))

/-- Set a ring's FILL: ABOVE_WM follows the watermark, and its rise raises RING_WM (R91). -/
def Dev.setFill (d : Dev) (n fill : Nat) : Dev :=
  let wm := d.rd (RING_CFG_WATERMARK n)
  let above := decide (wm ≠ 0) && decide (wm * 256 ≤ fill)
  let was := d.is (RING_STATUS_ABOVE_WM n)
  let d := (d.putFill n fill).wr (RING_STATUS_ABOVE_WM n) (bit above)
  d.when (above && !was) (fun d => d.notify 1 n fill)

/-- Discard the oldest whole entries until `need` words fit: the ring's unit, RD_PTR, FILL and the number discarded. -/
def discardOldest (need cap : Nat) : List Nat → Nat → Nat → Nat → Nat → List Nat × Nat × Nat × Nat × Nat
  | [], head, rp, fill, lost => ([], head, rp, fill, lost)
  | e :: rest, head, rp, fill, lost =>
    if fill + need ≤ cap then (e :: rest, head, rp, fill, lost)
    else discardOldest need cap rest 0 ((rp + (e - head)) % cap) (fill - (e - head)) (lost + 1)

/-- Write words from a word index on, around the end of the ring. -/
def Dev.putWords (n cap : Nat) : List Nat → Nat → Dev → Dev
  | [], _, d => d
  | w :: ws, i, d =>
    let r := d.ring n
    let d := (d.putRing n { r with cells := Store.write r.cells (i % cap) w }).sramWritten (d.ringWord n (i % cap))
    Dev.putWords n cap ws (i + 1) d

/-- Add to LOSS_COUNT, which holds at its largest value (R88). -/
def Dev.addLoss (d : Dev) (n k : Nat) : Dev :=
  d.wr (RING_LOSS_COUNT_COUNT n) (min (d.rd (RING_LOSS_COUNT_COUNT n) + k) (2 ^ 32 - 1))

/-- A STRICT ring does not take an entry (R88): it is counted, DROPPED is set, fault 0x0105 is recorded once until DROPPED
is cleared, and a voice ring marks the first entry after it with GAP. -/
def Dev.dropEntry (d : Dev) (n : Nat) : Dev :=
  let told := d.is (RING_STATUS_DROPPED n)
  let d := (d.addLoss n 1).wr (RING_STATUS_DROPPED n) 1
  let d := d.when (decide (n < 16)) (fun d => d.putRing n { d.ring n with gapNext := true })
  d.when (!told) (fun d => d.fault 0x0105 reportOnly [])

/-- Make room for `need` words under HISTORY (R88): the oldest entries are discarded and counted, RD_PTR moves past them,
OVERWRITTEN is set, and the first voice entry the host reads after it shows GAP. A one-word entry takes their place in the same FCK, so
ABOVE_WM is not judged here. -/
def Dev.makeRoom (d : Dev) (n need : Nat) : Dev :=
  let r := d.ring n
  let cap := d.ringCap n
  let q := discardOldest need cap r.ents r.headRead (d.rd (RING_RD_PTR_INDEX n)) (d.rd (RING_FILL_WORDS n)) 0
  if q.2.2.2.2 = 0 then d
  else
    let gap := r.gapHost || decide (n < 16)
    let d := d.putRing n { r with ents := q.1, headRead := q.2.1, snapOk := false, gapHost := gap, back := [], gapBack := false }
    let d := (d.wr (RING_RD_PTR_INDEX n) q.2.2.1).putFill n q.2.2.2.1
    (d.addLoss n q.2.2.2.2).wr (RING_STATUS_OVERWRITTEN n) 1

/-- Does an entry of `len` words get its place (R88)? Under HISTORY room is made; under STRICT it is dropped when it does
not fit. The answer says whether it may be written. -/
def Dev.claimRoom (d : Dev) (n len : Nat) : Dev × Bool :=
  if d.ringCap n = 0 then (d, false)
  else if d.rd (RING_FILL_WORDS n) + len ≤ d.ringCap n then (d, true)
  else if d.is (RING_CFG_POLICY n) then (d.dropEntry n, false)
  else (d.makeRoom n len, true)

/-- A whole entry becomes part of the ring: WR_PTR and FILL advance (R335). -/
def Dev.sealEntry (d : Dev) (n len : Nat) : Dev :=
  let r := d.ring n
  let d := d.putRing n { r with ents := r.ents ++ [len] }
  let d := d.wr (RING_WR_PTR_INDEX n) ((d.rd (RING_WR_PTR_INDEX n) + len) % d.ringCap n)
  d.setFill n (d.rd (RING_FILL_WORDS n) + len)

/-- Write a whole entry at once: an entry of one word needs no lock (R335). A voice ring that dropped an entry marks this
one with GAP, bit 8 of FLAGS. -/
def Dev.writeEntry (d : Dev) (n : Nat) (w : Nat) : Dev :=
  let p := d.claimRoom n 1
  if p.2 then
    let d := p.1
    let r := d.ring n
    let w := if r.gapNext then w ||| 2 ^ 109 else w
    let d := d.putRing n { r with gapNext := false }
    (Dev.putWords n (d.ringCap n) [w] (d.rd (RING_WR_PTR_INDEX n)) d).sealEntry n 1
  else p.1

/-- A broken lock (R335): the words already written are discarded, LOSS_COUNT rises, RING_LOCK shows the break. -/
def Dev.breakLock (d : Dev) (n owner code cls : Nat) (srcs : List Nat) : Dev :=
  let d := d.putRing n { d.ring n with lock := none }
  let d := (d.addLoss n 1).inc RING_LOCK_BREAKS
  let d := (d.wr RING_LOCK_RING n).wr RING_LOCK_OWNER owner
  d.fault code cls srcs (some (n + owner * 256))

/-- Take one word of the first waiting entry (R84, R335). -/
def Dev.writeWaiting (d : Dev) (e : WEntry) (rest : List WEntry) : Dev :=
  let r := d.ring e.ring
  let pop : Dev := { d with writer := { d.writer with waiting := rest } }
  let len := e.words.length
  if 1 < len ∧ e.epoch ≠ Store.read d.writer.epochs e.producer then
    match r.lock with
    | some l => if e.done = 0 then pop else pop.breakLock e.ring l.owner 0x0B11 reportOnly []
    | none => pop
  else if len ≤ 1 then pop.writeEntry e.ring (e.words.headD 0)
  else
    let p := if e.done = 0 then d.claimRoom e.ring len else (d, true)
    if p.2 then
      let d := p.1.setFill e.ring (p.1.rd (RING_FILL_WORDS e.ring))
      let cap := d.ringCap e.ring
      let d := Dev.putWords e.ring cap [e.words.getD e.done 0] (d.rd (RING_WR_PTR_INDEX e.ring) + e.done) d
      if e.done + 1 = len then
        let d : Dev := { d with writer := { d.writer with waiting := d.writer.waiting.tail } }
        (d.putRing e.ring { d.ring e.ring with lock := none }).sealEntry e.ring len
      else
        let d := d.putRing e.ring { d.ring e.ring with lock := some { owner := e.producer, epoch := e.epoch, words := e.done + 1 } }
        { d with writer := { d.writer with waiting :=
            { e with done := e.done + 1, since := d.writer.cycle } :: d.writer.waiting.tail } }
    else { p.1 with writer := { p.1.writer with waiting := p.1.writer.waiting.tail } }

/-- RING_CMD 0x51 (R90): the ring is emptied. -/
def Dev.flush (n : Nat) (d : Dev) : Dev :=
  let d := d.putRing n { d.ring n with ents := [], headRead := 0, snapOk := false, back := [], gapBack := false }
  ((d.wr (RING_RD_PTR_INDEX n) (d.rd (RING_WR_PTR_INDEX n))).setFill n 0).wr (RING_STATUS_FLUSHED n) 1

/-- RING_CMD 0x52 (R88). -/
def Dev.clearLoss (n : Nat) (d : Dev) : Dev := d.wr (RING_LOSS_COUNT_COUNT n) 0

/-- RING_LOCK_TIMEOUT (R335): no word of a locked entry was offered for 64 FCK. The owner's epoch rises too. -/
def Dev.lockTimeout (n : Nat) (d : Dev) : Dev :=
  match (d.ring n).lock with
  | none => d
  | some l =>
    let d := d.raiseEpoch l.owner
    let left := d.writer.waiting.filter (fun e => !(e.ring == n && decide (0 < e.done)))
    let d : Dev := { d with writer := { d.writer with waiting := left } }
    d.breakLock n l.owner 0x0B10 transient [srcDevice]

/-- Empty a ring at a switching boundary that moves or resizes it: the entries discarded are added to LOSS_COUNT. The snapshot of a read in
progress stays whole (R90), and GAP still marks the first entry after a loss (R88); a lock is
left to R335. -/
def Dev.emptyRing (n : Nat) (d : Dev) : Dev :=
  let r := d.ring n
  let d := d.addLoss n r.ents.length
  let d := d.putRing n { Ring.fresh with gapHost := r.gapHost, gapNext := r.gapNext, snap := r.snap, lock := r.lock }
  let d := ((d.wr (RING_RD_PTR_INDEX n) 0).wr (RING_WR_PTR_INDEX n) 0).setFill n 0
  d.wr (RING_STATUS_FLUSHED n) 1

/-- The word the host reads at RD_PTR, with GAP shown in the first voice entry after a loss (R88). -/
def Dev.headWord (d : Dev) (n : Nat) : Nat :=
  let r := d.ring n
  let w := Store.read r.cells (d.rd (RING_RD_PTR_INDEX n))
  if r.gapHost then w ||| 2 ^ 109 else w

/-- A read of a data window word completes (R90): at 0 modulo 16 the word at RD_PTR is taken into the snapshot; at 12 modulo
16 RD_PTR advances over the word the snapshot returned. DESIGN CHOICE: log entry 11. -/
def Dev.ringDataRead (n offset : Nat) (d : Dev) : Dev :=
  let r := d.ring n
  if offset % 16 = 0 then
    if d.rd (RING_FILL_WORDS n) = 0 then
      (d.putRing n { r with snap := 0, snapOk := false }).wr (RING_STATUS_UNDERRUN n) 1
    else d.putRing n { r with snap := d.headWord n, snapOk := true }
  else if offset % 16 = 12 ∧ r.snapOk then
    let fin := decide (r.headRead + 1 = r.ents.headD 0)
    let ents := if fin then r.ents.tail else r.ents
    let head := if fin then 0 else r.headRead + 1
    let back := if fin then r.ents.headD 0 :: r.back else r.back
    let shown := r.gapBack || r.gapHost
    let d := d.putRing n { r with snapOk := false, gapHost := false, ents := ents, headRead := head, back := back, gapBack := shown }
    (d.wr (RING_RD_PTR_INDEX n) ((d.rd (RING_RD_PTR_INDEX n) + 1) % d.ringCap n)).setFill n (d.rd (RING_FILL_WORDS n) - 1)
  else d

/-- The value a data window read returns (R90). -/
def Dev.ringDataValue (d : Dev) (n offset : Nat) : Nat :=
  let w := if offset % 16 = 0 then (if d.rd (RING_FILL_WORDS n) = 0 then 0 else d.headWord n) else (d.ring n).snap
  bitsOf w (offset % 16 / 4 * 32 + 31) (offset % 16 / 4 * 32)

end Sys2Proof.Machine
end

