-- ==== Sys2Proof/Machine/Voices.lean ====
section
/-! DEFINITION.
Voices (R67 to R86): decoding the thermometer code, counting and stamping edges, decimation, overrun and markers.
-/

namespace Sys2Proof.Machine

open Reg

/-- What the edge decoder finds in a resolving window (R77): a transition at a bit position with its direction, a pair it drops because the
level between is not solid, or the second transition of a short pulse whose first one, `before` bits ahead of the window, lies in the
window before. -/
inductive Found where
  | edge (pos : Nat) (rising : Bool)
  | drop (pos : Nat)
  | tail (pos : Nat) (rising : Bool) (before : Nat)
deriving DecidableEq, Repr

/-- Is it a transition? -/
def Found.isEdge : Found → Bool
  | .drop _ => false
  | _ => true

/-- Where it lies. -/
def Found.pos : Found → Nat
  | .edge p _ => p
  | .drop p => p
  | .tail p _ _ => p

/-- The same in a window that begins `lead` bits later. -/
def Found.rebase (lead : Nat) : Found → Found
  | .edge p r => .edge (p - lead) r
  | .drop p => .drop (p - lead)
  | .tail p r before => .tail (p - lead) r before

/-- Join neighbouring runs of one level and leave out empty ones. -/
def mergeRuns : List (Bool × Nat) → List (Bool × Nat)
  | [] => []
  | (l, n) :: rest =>
    if n = 0 then mergeRuns rest
    else
      match mergeRuns rest with
      | (l', n') :: r => if l = l' then (l, n + n') :: r else (l, n) :: (l', n') :: r
      | [] => [(l, n)]

/-- The bit of a thermometer code at a position. -/
def bitAt : List (Bool × Nat) → Nat → Bool
  | [], _ => false
  | (l, n) :: rest, p => if p < n then l else bitAt rest (p - n)

/-- Walk the runs of a thermometer code from a bit position on, given the last solid level and where it ended. A run of at least 8 equal bits
is solid. The fine code is the midpoint of the bits from the first that is not of the old solid level to the first of the new one, rounded
down: of a sharp transition, the first bit of the new level. DEDUCED: log entry 69. -/
def findEdges : List (Bool × Nat) → Nat → Option (Bool × Nat) → List Found
  | [], _, _ => []
  | (l, n) :: rest, pos, last =>
    if n < 8 then findEdges rest (pos + n) last
    else
      match last with
      | none => findEdges rest (pos + n) (some (l, pos + n))
      | some (l', e) =>
        if l = l' then .drop ((e + pos) / 2) :: findEdges rest (pos + n) (some (l, pos + n))
        else .edge ((e + pos) / 2) l :: findEdges rest (pos + n) (some (l, pos + n))

/-- How many transitions were found. -/
def edgeCount (l : List Found) : Nat := (l.filter Found.isEdge).length

/-- A window resolves up to two transitions (R77): of more, pairs are dropped from the end (DEDUCED, log entry 22). The list holds transitions
alone, and then the pairs dropped. -/
def limitEdges (fuel : Nat) (edges drops : List Found) : List Found :=
  match fuel with
  | 0 => edges ++ drops
  | fuel + 1 =>
    if edges.length ≤ 2 then edges ++ drops
    else
      let n := edges.length - 2
      limitEdges fuel (edges.take n) (((edges.drop n).take 1).map (fun f => Found.drop f.pos) ++ drops)

/-- Where the short pulse around a position of dropped pairs begins and ends: the solid level before it ends at the first number and begins
again at the second. -/
def dropSpan : List (Bool × Nat) → Nat → Nat → Option (Bool × Nat) → Option (Bool × Nat × Nat)
  | [], _, _, _ => none
  | (l, n) :: rest, at_, pos, last =>
    if n < 8 then dropSpan rest at_ (pos + n) last
    else
      match last with
      | none => dropSpan rest at_ (pos + n) (some (l, pos + n))
      | some (l', e) => if l = l' ∧ (e + pos) / 2 = at_ then some (l, e, pos) else dropSpan rest at_ (pos + n) (some (l, pos + n))

/-- A dropped pair at a window boundary `b` (chapter 4, coincidences): when its pulse spans the boundary each edge is decoded in its own
window; two pulses, one on either side, are dropped each in its own. DEDUCED: log entry 69. -/
def splitDrop (runs : List (Bool × Nat)) (b : Nat) : Found → List Found
  | .drop p =>
    match dropSpan runs p 0 none with
    | some (l, s, e) =>
      if s < b ∧ b ≤ e ∧ bitAt runs (b - 1) != l then [.edge s (!l), .tail e l (b - s)]
      else if s < b ∧ b < e then [.drop s, .drop (e - 1)]
      else [.drop p]
    | none => [.drop p]
  | f => [f]

/-- What a window of `width` bits shows. The runs give its thermometer code with one SCK of context (1,024 bits) before and after it; a short
pulse across a window boundary is decoded in two windows. -/
def decodeWindow (width : Nat) (runs : List (Bool × Nat)) : List Found :=
  let code := mergeRuns runs
  let l := (((findEdges code 0 none).flatMap (splitDrop code 1024)).flatMap (splitDrop code (1024 + width))).filter
    (fun f => decide (1024 ≤ f.pos) && decide (f.pos < 1024 + width))
  let l := l.map (Found.rebase 1024)
  if edgeCount l ≤ 2 then l else limitEdges l.length (l.filter Found.isEdge) (l.filter (fun f => !f.isEdge))

/-- The stamp slots of a FIFO in use; the reserved slot is not one of them (R14). -/
def Voice.slots (v : Voice) : Nat := (v.fifo.filter (fun e => !e.flags.testBit 7)).length

/-- Is a stamp slot free? -/
def Voice.free (v : Voice) : Bool := decide (v.slots < 32)

/-- Re-form a waiting marker as it enters the FIFO. -/
def Voice.enter (v : Voice) (e : Entry) : Voice :=
  v.pushFifo (v.entry e.ext e.fine e.evcnt e.edge e.flags e.m e.k)

/-- The first waiting marker enters the FIFO when a slot is free, in the order EPOCH, DECIM, OVERRUN (R83). -/
def Voice.enterPending (v : Voice) : Voice :=
  if !v.free then v
  else
    match v.pendEpoch, v.pendDecim, v.pendOverrun with
    | some e, _, _ => { v with pendEpoch := none }.enter e
    | none, some e, _ => { v with pendDecim := none }.enter e
    | none, none, some e => { v with pendOverrun := none }.enter e
    | none, none, none => v

/-- Every waiting marker that finds a slot enters the FIFO: markers go before any later stamp (R83). -/
def Voice.drainPending (v : Voice) : Voice := v.enterPending.enterPending.enterPending

/-- PENDING_MARKER (R83). -/
def Dev.pendingMarker (n : Nat) (d : Dev) : Dev := d.putVoice n (d.voice n).enterPending

/-- Place a DECIM marker (R75): into the FIFO, or into its pending slot. -/
def Voice.placeDecim (v : Voice) (ext k evcnt : Nat) : Voice :=
  let v := v.drainPending
  let e := { id := 0, ext := ext, fine := k, evcnt := evcnt, edge := 0, flags := 5, m := 0, k := k }
  if v.free && v.pendEpoch.isNone && v.pendDecim.isNone && v.pendOverrun.isNone then v.enter e
  else { v with pendDecim := some e }

/-- Place an EPOCH marker (R72, R75). -/
def Voice.placeEpoch (v : Voice) (ext : Nat) : Voice :=
  let v := v.drainPending
  let e := { id := 0, ext := ext, fine := 0, evcnt := v.evcnt, edge := 0, flags := 3, m := 0, k := 0 }
  if v.free && v.pendEpoch.isNone && v.pendDecim.isNone && v.pendOverrun.isNone then v.enter e
  else { v with pendEpoch := some e }

/-- Does the track channel use voice `n`? -/
def Dev.tracked (d : Dev) (n : Nat) : Bool := d.is TRACK_CFG_EN && decide (14 ≤ n)

/-- Hand an entry to the fit engine and the track channel, which read the stamp stream ahead of the ring writer (R89). -/
def Dev.tap (d : Dev) (n : Nat) (e : Entry) : Dev :=
  let trk := d.tracked n
  let v := d.voice n
  let v := { v with fitTap := v.fitTap ++ [e] }
  d.putVoice n (if trk then { v with trackTap := v.trackTap ++ [e] } else v)

/-- A cause for a rise of k (R79); at KMAX it sets KMAX_HIT and records fault 0x0102 once per period (R81). -/
def Dev.riseCause (d : Dev) (n : Nat) : Dev :=
  let v := d.voice n
  if d.rd (VOICE_DECIM_CFG_KMAX n) ≤ d.rd (VOICE_STATUS_K n) then
    let d := d.wr (VOICE_EVENT_KMAX_HIT n) 1
    if v.kmaxRep then d
    else (d.putVoice n { v with kmaxRep := true }).fault 0x0102 transient [n]
  else d.putVoice n { v with riseDue := true }

/-- k is brought into KMIN to KMAX (R78) after an image has moved the limits, with a DECIM marker, unless one still waits (R83).
DESIGN CHOICE: log entry 66. -/
def Dev.clampK (d : Dev) (n ext : Nat) : Dev :=
  let v := (d.voice n).drainPending
  let old := d.rd (VOICE_STATUS_K n)
  let k := max (d.rd (VOICE_DECIM_CFG_KMIN n)) (min old (d.rd (VOICE_DECIM_CFG_KMAX n)))
  if k = old ∨ v.pendDecim.isSome then d.putVoice n v
  else
    let v := { v with rose := v.rose || decide (old < k), kChanged := true }.placeDecim ext k v.evcnt
    ((d.putVoice n v).wr (VOICE_STATUS_K n) k).wr (if old < k then VOICE_EVENT_DECIM_UP n else VOICE_EVENT_DECIM_DOWN n) 1

/-- A rise that is due takes effect at this counted edge, unless a DECIM marker still waits (R79). -/
def Dev.takeRise (d : Dev) (n ext : Nat) : Dev :=
  let d := d.clampK n ext
  let v := (d.voice n).drainPending
  if v.riseDue && v.pendDecim.isNone && decide (d.rd (VOICE_STATUS_K n) < d.rd (VOICE_DECIM_CFG_KMAX n)) then
    let k := d.rd (VOICE_STATUS_K n) + 1
    let v := { v with riseDue := false, rose := true, kChanged := true }.placeDecim ext k v.evcnt
    ((d.putVoice n v).wr (VOICE_STATUS_K n) k).wr (VOICE_EVENT_DECIM_UP n) 1
  else d.putVoice n v

/-- An edge due for stamping finds no slot (R82): it is lost. The first one is held for the OVERRUN marker, and fault 0x0101 is recorded
with it. DEDUCED: log entry 70. -/
def Dev.loseEdge (d : Dev) (n ext fine : Nat) : Dev :=
  let v := d.voice n
  let first := v.pendOverrun.isNone
  let mark : Entry := { id := 0, ext := ext, fine := fine, evcnt := v.evcnt, edge := 0, flags := 17, m := 0, k := 0 }
  let v := if first then { v with pendOverrun := some mark } else v
  let d := (d.putVoice n v).restVoice n 5
  let d := (d.inc (VOICE_OVERRUN_COUNT_COUNT n)).wr (VOICE_EVENT_OVERRUN n) 1
  d.when first (fun d => d.fault 0x0101 transient [n])

/-- Stamp an edge: into the FIFO and to the readers of the stamp stream. A stamp that brings the occupancy to 24 is a cause for a rise (R79):
one that finds 24 entries or more already there brings it nowhere (Example 4-1). DEDUCED: log entry 70. -/
def Dev.stampEdge (d : Dev) (n ext fine : Nat) (rising : Bool) : Dev :=
  let v := (d.voice n).drainPending
  if v.free then
    let e := v.entry ext fine v.evcnt (bit rising) 0 (Store.read (d.tun n).table fine) (d.rd (VOICE_STATUS_K n))
    let reached := decide (v.slots = 23)
    let v := { v.pushFifo e with lastStamp := some (ext * 1024 + fine) }
    let d := (d.putVoice n v).tap n e
    d.when reached (fun d => d.riseCause n)
  else (d.putVoice n v).loseEdge n ext fine

/-- Is an edge less than 2 SCK after the previous stamped edge of its voice (R78)? -/
def Voice.tooClose (v : Voice) (raw : Nat) : Bool :=
  match v.lastStamp with
  | none => false
  | some p => decide (raw < p + 2048)

/-- Count one selected edge (R70). -/
def Dev.countEdge (d : Dev) (n ext : Nat) : Dev :=
  let v := d.voice n
  let d := d.putVoice n { v with evcnt := (v.evcnt + 1) % 2 ^ 32, counted := v.counted + 1, lastEdge := some ext }
  (d.step1 (VOICE_EVTOTAL_COUNT n)).wr (FIT_VOICE_STATUS_SILENT n) 0

/-- Would a stamp find a slot, once the waiting markers have entered (R82, R83)? -/
def Dev.roomFor (d : Dev) (n : Nat) : Bool := (d.voice n).drainPending.free

/-- Count an edge and, under decimation, stamp it (R78). `pair` says that it is the second edge of a resolved pair whose
first was stamped. The answer says whether it was stamped. -/
def Dev.takeEdge (d : Dev) (n ext fine : Nat) (rising pair : Bool) : Dev × Bool :=
  let d := (d.countEdge n ext).takeRise n ext
  let v := d.voice n
  let due := decide (v.evcnt % 2 ^ d.rd (VOICE_STATUS_K n) = 0)
  if pair && decide (d.rd (VOICE_CTRL_EDGE n) = 3) then (d.stampEdge n ext fine rising, d.roomFor n)
  else if !due then (d, false)
  else if v.tooClose (ext * 1024 + fine) then (d.riseCause n, false)
  else (d.stampEdge n ext fine rising, d.roomFor n)

/-- A pair is dropped (R77): counted in RUNT_COUNT, marked on the next entry; more than RUNT_LIMIT in one period records
fault 0x0104 (R92). DEDUCED: log entries 22 and 54. -/
def Dev.dropPair (d : Dev) (n : Nat) : Dev :=
  let v := d.voice n
  let runts := v.runts + 1
  let excess := decide (d.rd (VOICE_DECIM_CFG_RUNT_LIMIT n) < runts) && !v.runtRep
  let d := d.putVoice n { v with runts := runts, runtNext := true, runtRep := v.runtRep || excess }
  let d := (d.inc (VOICE_RUNT_COUNT_COUNT n)).wr (VOICE_EVENT_RUNT n) 1
  d.when excess (fun d => d.fault 0x0104 transient [n])

/-- The prescaler counts the edges of dropped pairs (R77). They are counted edges: a rise that is due takes effect at the first (R79). -/
def Dev.countExtra (d : Dev) (n ext extra : Nat) : Dev :=
  if extra = 0 then d
  else
    let d := (d.countEdge n ext).takeRise n ext
    let v := d.voice n
    let d := d.putVoice n { v with evcnt := (v.evcnt + (extra - 1)) % 2 ^ 32, counted := v.counted + (extra - 1) }
    d.wr (VOICE_EVTOTAL_COUNT n) (d.rd (VOICE_EVTOTAL_COUNT n) + (extra - 1))

/-- Is an edge of this direction counted (R69)? -/
def selected (edge : Nat) (rising : Bool) : Bool := if rising then edge.testBit 0 else edge.testBit 1

/-- Take what a window holds, in order: `start` is its extended time, `extra` what the prescaler counted in dropped pairs,
`paired` whether the edge before it in the window was stamped. -/
def Dev.takeFound (n start : Nat) : List Found → Nat → Bool → Dev → Dev
  | [], extra, _, d => d.countExtra n start extra
  | .drop _ :: rest, extra, paired, d => Dev.takeFound n start rest 0 paired ((d.countExtra n start extra).dropPair n)
  | .edge pos rising :: rest, extra, paired, d =>
    if selected (d.rd (VOICE_CTRL_EDGE n)) rising then
      let r := d.takeEdge n (start + pos / 1024) (pos % 1024) rising paired
      Dev.takeFound n start rest extra r.2 r.1
    else Dev.takeFound n start rest extra false d
  | .tail pos rising before :: rest, extra, _, d =>
    if selected (d.rd (VOICE_CTRL_EDGE n)) rising then
      let stamped := decide ((d.voice n).lastStamp = some (start * 1024 - before))
      let r := d.takeEdge n (start + pos / 1024) (pos % 1024) rising stamped
      Dev.takeFound n start rest extra r.2 r.1
    else Dev.takeFound n start rest extra false d

/-- Does a voice count (R86)? -/
def Dev.counting (d : Dev) (n : Nat) : Bool := d.rd (VOICE_STATUS_STATE n) == 2 || d.rd (VOICE_STATUS_STATE n) == 4

/-- The level a monitor puts out (R124): live in READY, the level before the change while SETTLING, else INSIDE. -/
def Dev.wmOut (d : Dev) (m : Nat) : Nat :=
  let st := d.rd (WM_STATUS_STATE m)
  if st = 4 then (d.wm m).level else if st = 1 then (d.wm m).before else 0

/-- What monitor `WM` of a routed voice shows on the route (R68, R124, R125): the upper comparator with COMP 1, else the lower one, high while
the monitor does not read BELOW; held through a test, low in FAILED. -/
def Dev.routeLevel (d : Dev) (n : Nat) : Bool :=
  let m := d.rd (VOICE_ROUTE_WM n)
  let st := d.rd (WM_STATUS_STATE m)
  let level := if st = 2 ∨ st = 3 then (d.wm m).before else d.wmOut m
  if st = 5 then false else if d.is (VOICE_ROUTE_COMP n) then decide (level = 2) else decide (level ≠ 1)

/-- Is a thermometer code one that the input of a voice can show? On a pin pair any is. A route carries edges only while its monitor is READY
(R124, R125), and its code begins with the level that the monitor is known to put out or that the latest code ended with.
DEDUCED: log entry 73. -/
def Dev.inputShows (d : Dev) (n : Nat) (runs : List (Bool × Nat)) : Bool :=
  !d.is (VOICE_CTRL_SRC n) ||
    (d.rd (WM_STATUS_STATE (d.rd (VOICE_ROUTE_WM n))) == 4 &&
      (bitAt runs 0 == d.routeLevel n || (d.voice n).level == some (bitAt runs 0)))

/-- Does an extended time lie at or past a boundary of a voice's timer that is not taken yet (R15)? -/
def Dev.pastBoundary (d : Dev) (n ext : Nat) : Bool :=
  d.is (TIMER_STATUS_RUNNING (d.timerOf n)) && decide ((d.timer (d.timerOf n)).next ≤ ext)

/-- The selected edges among what a window holds. -/
def selectedCount (edge : Nat) (l : List Found) : Nat :=
  (l.filter (fun f => match f with | .edge _ r => selected edge r | .tail _ r _ => selected edge r | .drop _ => false)).length

/-- The level with which a thermometer code ends. -/
def lastLevel (runs : List (Bool × Nat)) : Option Bool := runs.getLast?.map Prod.fst

/-- What a window shows of a voice's input: the level it ends with, and where its last transition lies (R95). -/
def Dev.seeInput (d : Dev) (n base : Nat) (found : List Found) (runs : List (Bool × Nat)) : Dev :=
  let v := d.voice n
  let move := match found.getLast? with
    | some f => some (base + f.pos / 1024)
    | none => v.lastMove
  d.putVoice n { v with level := lastLevel runs, lastMove := move }

/-- The windows that waited for a boundary and lie before the next one are taken, in order (R15). -/
def Dev.takeLater (d : Dev) (n : Nat) : Dev :=
  let v := d.voice n
  let now := v.later.takeWhile (fun w => !d.pastBoundary n w.1)
  let d := d.putVoice n { v with later := v.later.drop now.length }
  d.each now (fun d w => if d.counting n then Dev.takeFound n w.1 (decodeWindow 2048 w.2.1) w.2.2 false d else d)

/-- VOICE_EDGE (R77, R78): the resolving window of 2 SCK begins at the even coarse count `base`; `runs` is the thermometer code from 1 SCK
before it to 1 SCK after it; the prescaler counts `extra` edges in pairs the decoder drops. A window at or past a boundary that is not taken
yet belongs to the new period, and is taken with it (R15). While the gate is closed the prescaler only counts on modulo 16 (R70).
DESIGN CHOICE: log entries 9 and 57. -/
def Dev.voiceEdge (n base : Nat) (runs : List (Bool × Nat)) (extra : Nat) (d : Dev) : Dev :=
  let found := decodeWindow 2048 runs
  if !d.alive || !d.counting n || !d.inputShows n runs then d
  else if d.sckOpen then
    let d := d.advance (base + 1)
    let d := d.seeInput n base found runs
    let start := d.rd EPOCH_COUNT_COUNT * coarseMod + base % coarseMod
    if d.pastBoundary n start then d.putVoice n { d.voice n with later := (d.voice n).later ++ [(start, runs, extra)] }
    else Dev.takeFound n start found extra false d
  else
    let v := d.voice n
    d.putVoice n { v with hidden := (v.hidden + selectedCount (d.rd (VOICE_CTRL_EDGE n)) found + extra) % 16 }

/-- EPOCH markers for every voice in STARTING, ACTIVE or PROBATION at an extended time (R72). -/
def Dev.epochMarkers (d : Dev) (ext : Nat) : Dev :=
  d.each (List.range 16) (fun d n =>
    let st := d.rd (VOICE_STATUS_STATE n)
    if st = 1 ∨ st = 2 ∨ st = 4 then d.putVoice n ((d.voice n).placeEpoch ext) else d)

/-- The coarse count passes from 2^54 − 1 to 0 (R72). DESIGN CHOICE: log entry 55. -/
def Dev.wrapEpoch (d : Dev) : Dev :=
  let d := { d with time := { d.time with coarse := 0, fifths := 0 } }.inc EPOCH_COUNT_COUNT
  d.epochMarkers (d.rd EPOCH_COUNT_COUNT * coarseMod)

/-- EPOCH_WRAP (R72). While the gate is closed the wrap is taken at its reopening. DESIGN CHOICE: log entry 55. -/
def Dev.epochWrap (d : Dev) : Dev := if d.alive && d.sckOpen then d.wrapEpoch else d

/-- CLEAR_VOICE_COUNTS (R82). -/
def Dev.clearVoiceCounts (n : Nat) (d : Dev) : Dev := (d.wr (VOICE_RUNT_COUNT_COUNT n) 0).wr (VOICE_OVERRUN_COUNT_COUNT n) 0

/-- Does VDDIO_V suit voice `n` (R29)? -/
def Dev.viovOk (d : Dev) (n : Nat) : Bool :=
  d.rd (VOICE_CTRL_MODE n) != 2 || d.rd SUPPLY_STATUS_VIOV_LEVEL == d.rd IO_CFG_VIOV_EXPECT

/-- A voice begins counting with a START marker (R75, R76, R86), in ACTIVE or in PROBATION. `firstAt` is kept through a
retirement and through the transition of a pin change: the periods until the first one after the marker are rests with reason 3, or 7
(chapter 7, coincidences; R281). -/
def Dev.startVoice (d : Dev) (n state : Nat) : Dev :=
  let v := d.voice n
  let pin := decide (d.rd APPLY_STATUS_STATE = 5) && d.img.pins.testBit n
  let first := if (state = 4 ∨ pin) ∧ v.firstAt.isSome then v.firstAt else some d.ext
  let v := { v with evcnt := 0, riseDue := false, hidden := 0, lastStamp := none, lastEdge := none, later := [],
                    firstAt := first, startAt := d.ext, counted := 0, rose := false, probed := decide (state = 4) }
  let v := v.pushDirect (v.entry d.ext 0 0 0 0x201 0 0)
  let d := (d.putVoice n v).wr (VOICE_STATUS_STATE n) state
  let d := d.wr (VOICE_STATUS_K n) (d.rd (VOICE_DECIM_CFG_KMIN n))
  if d.rd (TUNE_STATUS_MODE n) = 1 ∧ d.mode ≠ 0 ∧ d.mode ≠ 4 then d.wr (TUNE_STATUS_MODE n) 2 else d

/-- VOICE_START (R86): SCK open, the tuning table valid and R29 satisfied. -/
def Dev.voiceStart (n : Nat) (d : Dev) : Dev :=
  if d.alive && d.rd (VOICE_STATUS_STATE n) == 1 && d.sckOpen && d.rd (TUNE_STATUS_STATE n) == 1 && d.viovOk n
  then d.startVoice n 2 else d

end Sys2Proof.Machine
end

