-- ==== Sys2Proof/Machine/Tuning.lean ====
section
/-! DEFINITION.
Interpolator tuning (R94 to R110): collecting hits, the candidate table and its test, swaps, age and parity.
-/

namespace Sys2Proof.Machine

open Reg

/-- The source a tuning context's faults charge (R111): its voice, or its link lane. DEDUCED: log entry 32. -/
def tuneOwner (c : Nat) : Nat := if c < 16 then c else 0x10 + (c - 16)

/-- Is port `p` enabled by CHOIR_CFG? -/
def Dev.portEnabled (d : Dev) (p : Nat) : Bool := if p = 0 then d.is CHOIR_CFG_PORT_A_EN else d.is CHOIR_CFG_PORT_B_EN

/-- Does the owner of a context let it collect (R101)? DEDUCED: log entry 32. -/
def Dev.ownerCollects (d : Dev) (c : Nat) : Bool :=
  if c < 16 then d.rd (VOICE_STATUS_STATE c) == 1 || d.counting c
  else d.portEnabled ((c - 16) / 2) && decide (1 < d.deviceCount) && d.rd (laneState ((c - 16) / 2) (c % 2)) != 5 &&
    d.is CFG_STATUS_CONFIGURED

/-- Does a context collect (R101)? Not in FAILED, and not while a passed candidate waits. -/
def Dev.collects (d : Dev) (c : Nat) : Bool :=
  d.ownerCollects c && d.rd (TUNE_STATUS_STATE c) != 4 && !d.is (TUNE_STATUS_PENDING c)

/-- TUNE[c].STATUS.MODE while a context collects: isolated while its owner is STARTING or untrained and during a boot or a
resume, else background (R101). -/
def Dev.tuneMode (d : Dev) (c : Nat) : Nat :=
  let idle := if c < 16 then d.rd (VOICE_STATUS_STATE c) == 1 else d.rd (laneState ((c - 16) / 2) (c % 2)) != 4
  if idle || d.mode == 0 || d.mode == 4 then 1 else 2

/-- A collection that runs goes on as the owner's state and the device's ask (R101): isolated, or in the background. -/
def Dev.followOwner (d : Dev) (c : Nat) : Dev :=
  if d.rd (TUNE_STATUS_MODE c) = 0 then d else d.wr (TUNE_STATUS_MODE c) (if d.collects c then d.tuneMode c else 0)

/-- Begin a collection, or stand still when the context does not collect. -/
def Dev.beginTuning (d : Dev) (c : Nat) : Dev :=
  let d := (d.putTun c { d.tun c with hist := [], iso := false }).wr (TUNE_HITS_COUNT c) 0
  d.wr (TUNE_STATUS_MODE c) (if d.collects c then d.tuneMode c else 0)

/-- Set a context's state; TUNE_VALID follows it, and an owner's period without a valid table is a rest with reason 8
(R104). -/
def Dev.setTune (d : Dev) (c st : Nat) : Dev :=
  let mask := d.rd TUNE_VALID_CTX
  let cleared := if mask.testBit c then mask - 2 ^ c else mask
  let d := (d.wr (TUNE_STATUS_STATE c) st).wr TUNE_VALID_CTX (if st = 1 then cleared + 2 ^ c else cleared)
  d.when (decide (c < 16) && (st == 0 || st == 2 || st == 3)) (fun d => d.restVoice c 8)

/-- The table of a histogram (R98): entry i from the hits before it and its own, limited to 16 bits. -/
def tuneTable (hist : Store) : Nat → Nat → Nat → Store
  | 0, _, _ => []
  | fuel + 1, i, before =>
    let h := Store.read hist i
    let m := min 65535 ((2 * before + h + 16) / 32)
    let rest := tuneTable hist fuel (i + 1) (before + h)
    if m = 0 then rest else (i, m) :: rest

/-- The number of empty bins. -/
def emptyBins (hist : Store) : Nat := 1024 - hist.length

/-- The largest bin. -/
def widestBin (hist : Store) : Nat := hist.foldl (fun m p => max m p.2) 0

/-- The largest shift against the table in force, over the bins that hold hits (R99). -/
def largestShift (hist cand table : Store) : Nat :=
  hist.foldl (fun m p => max m ((Store.read cand p.1 - Store.read table p.1) + (Store.read table p.1 - Store.read cand p.1))) 0

/-- A discarded candidate: counted, and a new collection starts at once. -/
def Dev.rejectCandidate (d : Dev) (c code : Nat) : Dev :=
  ((d.inc (TUNE_DISCARD_REJECTS c)).fault code transient [tuneOwner c]).beginTuning c

/-- CANDIDATE_TEST (R99, R105). -/
def Dev.testCandidate (d : Dev) (c : Nat) : Dev :=
  let t := d.tun c
  let cand := tuneTable t.hist 1024 0 0
  let e := emptyBins t.hist
  let w := widestBin t.hist
  let s := largestShift t.hist cand t.table
  let st := d.rd (TUNE_STATUS_STATE c)
  let d := (d.wr (TUNE_STATUS_EMPTY c) e).wr (TUNE_TEST_WIDEST c) (min w 0x1FFF)
  let d := d.putTun c { t with boot := false }
  if 8 < e then
    if st = 3 then
      let d := ((d.inc (TUNE_DISCARD_REJECTS c)).setTune c 4).stopTuning c
      d.fault 0x0202 permanent [tuneOwner c]
    else (d.setTune c 3).rejectCandidate c 0x0201
  else if 4096 < w then d.rejectCandidate c 0x0203
  else
    let third := st ≠ 0 ∧ st ≠ 3 ∧ t.iso = false
    let d := if third then d.wr (TUNE_TEST_SHIFT c) (min s 65535) else d
    if third ∧ d.rd TUNE_CFG_SHIFT_MAX < s then d.rejectCandidate c 0x0204
    else
      let d := d.putTun c { d.tun c with cand := cand, hist := [], tested := fckOf d.ext }
      (d.wr (TUNE_STATUS_PENDING c) 1).wr (TUNE_STATUS_MODE c) 0

/-- A tuning hit that a voice logs (R85): a stamp with TUNE, while the FIFO holds fewer than 16 entries, behind the markers that waited
(R83). -/
def Dev.logHit (d : Dev) (c ext fine : Nat) : Dev :=
  let v := (d.voice c).drainPending
  if d.is (VOICE_CTRL_TUNE_LOG c) && decide (v.fifo.length < 16) then
    d.putVoice c (v.pushFifo (v.entry ext fine v.evcnt 1 64 0 (d.rd (VOICE_STATUS_K c))))
  else d

/-- May the injector not use a slot (R95)? In background collection a voice's slot is blocked by a transition of its live input in the slots
s − 2 to s + 2, and a link lane's by a comma window armed there. `busy` is what the activity detector, ahead of the matched delay, or the
lane says of these slots; a transition already decoded blocks of itself. DESIGN CHOICE: log entry 9. -/
def Dev.blocked (d : Dev) (c slot : Nat) (busy : Bool) : Bool :=
  d.rd (TUNE_STATUS_MODE c) == 2 && (busy || (decide (c < 16) && match (d.voice c).lastMove with
    | none => false
    | some m => decide (m ≤ slot + 2) && decide (slot ≤ m + 2)))

/-- TUNING_HIT (R97): a hit offered to the SCK slot at coarse count `slot`, decoded from the slot's thermometer code. A hit offered to a slot
that the injector may not use is discarded (R95). DESIGN CHOICE: log entry 9. -/
def Dev.tuningHit (c slot : Nat) (runs : List (Bool × Nat)) (busy : Bool) (d : Dev) : Dev :=
  if !d.alive || !d.sckOpen || d.rd (TUNE_STATUS_MODE c) == 0 || d.blocked c slot busy then d
  else
    let d := d.advance slot
    match decodeWindow 1024 runs with
    | [.edge pos _] =>
      let t := d.tun c
      let f := pos % 1024
      let d := d.putTun c { t with hist := Store.write t.hist f ((Store.read t.hist f + 1) % 2 ^ 21),
                                   iso := t.iso || d.rd (TUNE_STATUS_MODE c) == 1 }
      let d := d.step1 (TUNE_HITS_COUNT c)
      let d := if c < 16 then d.logHit c (d.rd EPOCH_COUNT_COUNT * coarseMod + slot % coarseMod) f else d
      if d.rd (TUNE_HITS_COUNT c) = 2 ^ 20 then d.testCandidate c else d
    | _ => d.inc (TUNE_DISCARD_COUNT c)

/-- A passed candidate becomes the table in force at a coarse count (R102), and a new collection begins. -/
def Dev.swapTable (d : Dev) (c coarse : Nat) : Dev :=
  let t := d.tun c
  let d := d.putTun c { t with table := t.cand, cand := [], parityRep := false, ageFrom := d.time.fck, ageBase := 0 }
  let d := ((d.wr (TUNE_STATUS_PENDING c) 0).step1 (TUNE_SEQ_COUNT c)).wr (TUNE_SWAP_TIME_TIME c) (coarse * 1024)
  (d.setTune c 1).beginTuning c

/-- Does the owner of a context produce periods (R102)? Such a context swaps at its period boundary. -/
def Dev.ownerPeriods (d : Dev) (c : Nat) : Bool :=
  decide (c < 16) && d.counting c && d.timerOn (d.timerOf c) && d.is (TIMER_STATUS_RUNNING (d.timerOf c))

/-- TABLE_SWAP (R102): where the owner produces no periods the candidate comes into force in the FCK after its test.
DESIGN CHOICE: log entry 1. -/
def Dev.tableSwap (c : Nat) (d : Dev) : Dev :=
  if d.alive && d.is (TUNE_STATUS_PENDING c) && !d.ownerPeriods c && d.sckOpen then d.swapTable c d.coarse else d

/-- TABLE_EXPIRED (R107): only a VALID context expires. DEDUCED: log entry 32. -/
def Dev.tableExpired (c : Nat) (d : Dev) : Dev :=
  if d.alive && d.rd (TUNE_STATUS_STATE c) == 1 then
    let age := d.rd TUNE_CFG_AGE_MAX * 1000 + 1
    let t := d.tun c
    let d := d.putTun c { t with ageBase := max age (t.ageBase + (d.time.fck - t.ageFrom) / 250000), ageFrom := d.time.fck }
    (d.setTune c 2).fault 0x0205 reportOnly [tuneOwner c]
  else d

/-- The age of the table in force in milliseconds (R107). -/
def Dev.tableAge (d : Dev) (c : Nat) : Nat :=
  let t := d.tun c
  if d.rd (TUNE_SEQ_COUNT c) = 0 ∧ t.table = [] then 0
  else min (2 ^ 32 - 1) (t.ageBase + (d.time.fck - t.ageFrom) / 250000)

/-- BOOT_TUNING_LATE (R106). -/
def Dev.bootTuningLate (c : Nat) (d : Dev) : Dev :=
  let t := d.tun c
  if d.alive && t.boot && !t.lateRep && d.rd (TUNE_STATUS_MODE c) != 0 then
    (d.putTun c { t with lateRep := true }).fault 0x0207 transient [tuneOwner c]
  else d

/-- COLLECTION_TIMEOUT (R106). -/
def Dev.collectionTimeout (c : Nat) (d : Dev) : Dev :=
  let t := d.tun c
  if d.alive && t.boot && d.rd (TUNE_STATUS_MODE c) != 0 then
    (d.putTun c { t with boot := false }).fault 0x0208 permanent [tuneOwner c]
  else d

/-- TUNE_RESTART (R101): the collection in progress is discarded and a new one starts. -/
def Dev.tuneRestart (c : Nat) (d : Dev) : Dev := if d.collects c then d.beginTuning c else d

/-- A table entry is read with a parity error (R110): recorded once for the table in force. The context enters NONE; only a re-admission or a
reset takes one out of FAILED (R100). DEDUCED: log entry 72. -/
def Dev.tableParity (d : Dev) (c : Nat) : Dev :=
  let t := d.tun c
  if t.parityRep || t.table.isEmpty then d
  else
    let d := d.putTun c { t with parityRep := true }
    let d := if d.rd (TUNE_STATUS_STATE c) = 4 then d
      else
        let d := d.setTune c 0
        if d.is (TUNE_STATUS_PENDING c) then d else d.beginTuning c
    d.fault 0x0206 transient [tuneOwner c]

/-- Isolated collections begin when SCK opens at a boot or a resume (R106, R344). -/
def Dev.bootTuning (d : Dev) : Dev :=
  d.each (List.range 20) (fun d c =>
    if d.collects c then
      let d := d.beginTuning c
      d.putTun c { d.tun c with boot := true, lateRep := false }
    else d)

/-- Collections discarded by a closed gate begin again when SCK reopens (chapter 5, coincidences). -/
def Dev.resumeTuning (d : Dev) : Dev :=
  d.each (List.range 20) (fun d c => if d.collects c && d.rd (TUNE_STATUS_MODE c) == 0 then d.beginTuning c else d)

/-- Re-admission of a source: a FAILED context returns to NONE and collects again (R100). -/
def Dev.readmitTuning (d : Dev) (c : Nat) : Dev :=
  let d := if d.rd (TUNE_STATUS_STATE c) = 4 then d.setTune c 0 else d
  if d.is (TUNE_STATUS_PENDING c) then d else d.beginTuning c

end Sys2Proof.Machine
end

