-- ==== Sys2Proof/Machine/Monitors.lean ====
section
/-! DEFINITION.
Window monitors and exciters (R113 to R130): levels, the trip matrix, the classifier, self-tests and schedules.
-/

namespace Sys2Proof.Machine

open Reg

/-- The cell of exciter `x` for monitor `m` (R117): 0 never, 1 ABOVE, 2 BELOW, 3 either. -/
def Dev.tripCell (d : Dev) (x m : Nat) : Nat := d.rd (EXC_TRIP_SEL x) / 4 ^ m % 4

/-- Is a monitor's level one that a cell or CLASS_COND code selects? Levels: 0 INSIDE, 1 BELOW, 2 ABOVE (R114). -/
def levelSelected (code level : Nat) : Bool := (decide (level = 2) && code.testBit 0) || (decide (level = 1) && code.testBit 1)

/-- Are a monitor's cells asserted whatever its level: during a test (R125) and in FAILED (R124)? -/
def Dev.cellsForced (d : Dev) (m : Nat) : Bool :=
  let st := d.rd (WM_STATUS_STATE m)
  st == 2 || st == 3 || st == 5

/-- The level WM_LEVEL shows for a monitor (R114, R125). -/
def Dev.wmShown (d : Dev) (m : Nat) : Nat :=
  let st := d.rd (WM_STATUS_STATE m)
  if st = 2 ∨ st = 3 then 3 else if st = 5 then (d.wm m).level else d.wmOut m

/-- WM_LEVEL. -/
def Dev.wmLevels (d : Dev) : Nat := ((List.range 8).map (fun m => d.wmShown m * 4 ^ m)).sum

/-- Does monitor `m` contribute to the trip of exciter `x` (R117)? BELOW is qualified by Q when QUAL is set. -/
def Dev.tripBy (d : Dev) (x m : Nat) : Bool :=
  let code := d.tripCell x m
  let level := d.wmOut m
  decide (code ≠ 0) && (d.cellsForced m ||
    (levelSelected code level && (decide (level ≠ 1) || !d.is (EXC_TRIP_QUAL x) || (d.exc x).qual)))

/-- Is a monitor powered (R130)? Not in STANDBY. -/
def Dev.monitorsOn (d : Dev) : Bool := d.alive && d.mode != 3

/-- Are the cells of the trip matrix active? Not before boot step 10, nor in STANDBY (R130). -/
def Dev.matrixActive (d : Dev) : Bool := d.mode != 3 && d.mode != 4 && d.booted 10

/-- The trip signal of exciter `x` as the known levels give it (R117). -/
def Dev.tripSignal (d : Dev) (x : Nat) : Bool := d.matrixActive && (List.range 8).any (fun m => d.tripBy x m)

/-- The level exciter `x` drives (R118, R129, R130): low before boot step 10 has completed, and CFG.SAFE in the safe state and through STANDBY,
an exciter in OFF with the others. DEDUCED: log entry 75. -/
def Dev.excLevel (d : Dev) (x : Nat) : Nat :=
  let e := d.exc x
  let st := d.rd (EXC_STATUS_STATE x)
  let idle := 1 - d.rd (EXC_CFG_ACTIVE x)
  if d.mode = 3 ∨ d.mode = 4 ∨ d.mode = 5 then d.rd (EXC_CFG_SAFE x)
  else if st = 0 ∨ (d.mode = 0 ∧ !d.booted 10) then 0
  else if d.mode = 2 ∨ st = 3 ∨ st = 4 ∨ e.hold ∨ e.afterHold ∨ d.is (EXC_STATUS_TRIP_LIVE x) then d.rd (EXC_CFG_SAFE x)
  else if e.running ∧ e.high then d.rd (EXC_CFG_ACTIVE x)
  else idle

/-- Bring an exciter's output level up to date. -/
def Dev.driveExc (d : Dev) (x : Nat) : Dev := d.putExc x { d.exc x with out := d.excLevel x }

/-- The trip asserts or is seen asserted: the hold is set, IDLE and RUN go to HELD (R118, R129). -/
def Dev.holdExc (d : Dev) (x : Nat) : Dev :=
  let st := d.rd (EXC_STATUS_STATE x)
  let d := d.putExc x { d.exc x with hold := true }
  let d := if st = 1 ∨ st = 2 then d.wr (EXC_STATUS_STATE x) 3 else d
  d.driveExc x

/-- Follow the known levels: TRIP_LIVE shows the trip signal, and an asserted one holds the exciter. -/
def Dev.followTrip (d : Dev) (x : Nat) : Dev :=
  let now := d.tripSignal x
  let d := d.wr (EXC_STATUS_TRIP_LIVE x) (bit now)
  if now then d.holdExc x else d.driveExc x

/-- Follow the known levels where the device's own clocked logic may assert the trip: an assertion is counted (R119). DESIGN CHOICE: log entry 74. -/
def Dev.assertTrip (d : Dev) (x : Nat) : Dev :=
  let d := if d.tripSignal x && !d.is (EXC_STATUS_TRIP_LIVE x) then d.inc (EXC_TRIP_COUNT_COUNT x) else d
  d.followTrip x

/-- Follow the known levels on every exciter. -/
def Dev.followTrips (d : Dev) : Dev := d.each (List.range 8) Dev.followTrip

/-- A monitor's test asserts its cells: an exciter not yet tripped counts one assertion (R119, R125). -/
def Dev.forceTrips (d : Dev) (m : Nat) : Dev :=
  d.each (List.range 8) (fun d x =>
    if d.tripCell x m = 0 ∨ !d.matrixActive then d else d.assertTrip x)

/-- EXCITER_TRIP (R118, R119): one assertion of the unclocked trip signal, however short, by a comparator. DESIGN CHOICE: log entry 74. -/
def Dev.exciterTrip (x : Nat) (d : Dev) : Dev :=
  if !d.power.good || !d.matrixActive then d
  else
    let d := (d.inc (EXC_TRIP_COUNT_COUNT x)).wr (EXC_STATUS_TRIP_LIVE x) (bit (d.tripSignal x))
    d.holdExc x

/-- The voices that a monitor's conditions affect (R120). -/
def Dev.lossVoices (d : Dev) (m : Nat) : List Nat := maskBits (d.rd (WM_LOSS_MASK_VOICES m))

/-- The voices routed from a monitor or in its LOSS_MASK (R124, R125). -/
def Dev.touchedVoices (d : Dev) (m : Nat) : List Nat :=
  (List.range 16).filter (fun n =>
    (d.is (VOICE_CTRL_SRC n) && d.rd (VOICE_ROUTE_WM n) == m) || (d.rd (WM_LOSS_MASK_VOICES m)).testBit n)

/-- The period that a monitor's once-per-period limit counts: that of the first voice in LOSS_MASK, or of the pipeline's
timer when the mask is empty (R120, R329). -/
def Dev.lossPeriod (d : Dev) (m : Nat) : Nat :=
  match d.lossVoices m with
  | n :: _ => d.rd (TIMER_PCOUNT_COUNT (d.timerOf n))
  | [] => d.rd (TIMER_PCOUNT_COUNT (d.timerOr0 (d.rd PIPE_CFG_TIMER)))

/-- A condition of monitor `m` (R120, R121): counted, its voices' periods are rests with reason 4, and the fault is recorded
at most once per period. -/
def Dev.condition (d : Dev) (m code : Nat) : Dev :=
  let w := d.wm m
  let p := some (d.lossPeriod m)
  let told := if code = 0x0301 then w.rep301 == p else w.rep302 == p
  let w := if code = 0x0301 then { w with rep301 := p } else { w with rep302 := p }
  let d := (d.putWm m w).inc (WM_COND_COUNT_COUNT m)
  let d := d.each (d.lossVoices m) (fun d n => d.restVoice n 4)
  if told then d else d.fault code transient (d.lossVoices m)

/-- The open-wire check of monitor `m` fails in the pulse in progress of exciter `x` (R121). The third in a row confirms the
open wire: OPEN_WIRE_CONFIRMED. -/
def Dev.failCheck (d : Dev) (x m : Nat) : Dev :=
  let e := d.exc x
  if e.failed.testBit m then d
  else
    let d := (d.putExc x { e with failed := e.failed + 2 ^ m }).condition m 0x0302
    let n := min 3 (d.rd (EXC_STATUS_CHECK_FAIL x) + 1)
    let d := d.wr (EXC_STATUS_CHECK_FAIL x) n
    if n = 3 then
      let d := d.fault 0x0303 permanent (d.lossVoices m)
      let d := (d.wr (EXC_STATUS_STATE x) 4).putExc x { d.exc x with running := false, high := false, qual := false, checking := false }
      d.driveExc x
    else d

/-- CLASSIFIER_CONDITION (R120, R121): the classifier sees `level` on monitor `m` for two consecutive samples. It ignores a FAILED monitor, whose
level WM_LEVEL still shows (R114). -/
def Dev.classifierCondition (m level : Nat) (d : Dev) : Dev :=
  if !d.monitorsOn then d
  else if d.rd (WM_STATUS_STATE m) = 5 then d.putWm m { d.wm m with level := level }
  else if d.rd (WM_STATUS_STATE m) != 4 then d
  else
    let d := (d.putWm m { d.wm m with level := level }).followTrips
    let cond := levelSelected (d.rd (WM_CFG_CLASS_COND m)) level
    let qual := d.is (WM_CFG_QUAL_EN m) && decide (level = 1)
    let d := if cond && !qual then d.condition m 0x0301 else d
    let x := d.rd (WM_CFG_QUAL_EXC m)
    if qual && (d.exc x).qual && (d.exc x).checking then d.failCheck x m else d

/-- The half-period of step `j` of a sweep from its frequency codes (R127): 2 × 10^9 / F rounded to the nearest, halves up. -/
def sweepHalf (fStart fStep j : Nat) : Nat :=
  let f := ((fStart : Int) + (j : Int) * toSigned 16 fStep).toNat
  if f = 0 then 0 else (2 * 2000000000 + f) / (2 * f)

/-- The half-period H of a sweep step (R127). -/
def Dev.halfPeriod (d : Dev) (x j : Nat) : Nat := sweepHalf (d.rd (EXC_F_START_F x)) (d.rd (EXC_F_STEP_F x)) j

/-- The active phase of the pulse in progress in FCK. -/
def Dev.activePhase (d : Dev) (x : Nat) : Nat :=
  if d.rd (EXC_CFG_MODE x) = 3 then d.halfPeriod x (d.rd (EXC_STATUS_STEP x)) else d.rd (EXC_WIDTH_FCK x)

/-- OPEN_WIRE_CHECK (R121): Q of exciter `x` rises. `below` is the mask of the monitors on which the classifier sees BELOW. -/
def Dev.openWireCheck (x below : Nat) (d : Dev) : Dev :=
  let e := d.exc x
  if !d.monitorsOn || !e.running || !e.high || decide (d.activePhase x ≤ d.rd (EXC_TRIP_BLANK x)) then d
  else
    let d := d.putExc x { e with qual := true, checking := !e.hold }
    let d := if e.hold then d
      else d.each (List.range 8) (fun d m =>
        if d.is (WM_CFG_QUAL_EN m) && d.rd (WM_CFG_QUAL_EXC m) == x && d.rd (WM_STATUS_STATE m) == 4 &&
          (below.testBit m || (d.wm m).level == 1) then d.failCheck x m else d)
    d.assertTrip x

/-- The active phase of a pulse ends: a check that no monitor failed has passed (R121). -/
def Dev.endPhase (d : Dev) (x : Nat) : Dev :=
  let e := d.exc x
  let d := if e.checking ∧ e.failed = 0 then d.wr (EXC_STATUS_CHECK_FAIL x) 0 else d
  (d.putExc x { e with high := false, qual := false, checking := false, failed := 0 }).followTrip x

/-- The schedule ends (R126, R129). -/
def Dev.endSchedule (d : Dev) (x : Nat) : Dev :=
  let d := d.putExc x { d.exc x with running := false, high := false, pulse := 0, cycle := 0 }
  let d := if d.rd (EXC_STATUS_STATE x) = 2 then d.wr (EXC_STATUS_STATE x) 1 else d
  d.driveExc x

/-- A pulse start (R118): the hold is cleared only when the synchronised trip is deasserted. -/
def Dev.beginPulse (d : Dev) (x : Nat) (trip : Bool) : Dev :=
  let e := d.exc x
  let d := d.putExc x { e with high := true, qual := false, checking := false, failed := 0, pulse := e.pulse + 1 }
  let d := d.wr (EXC_STATUS_TRIP_LIVE x) (bit (trip || d.tripSignal x))
  if d.is (EXC_STATUS_TRIP_LIVE x) then d.holdExc x
  else
    let d := d.putExc x { d.exc x with hold := false }
    let d := if d.rd (EXC_STATUS_STATE x) = 3 then d.wr (EXC_STATUS_STATE x) 2 else d
    d.driveExc x

/-- EXCITER_START (R126, R128): the start instant S. A schedule still running is not disturbed: the start is skipped.
DEDUCED: log entry 23. -/
def Dev.exciterStart (x : Nat) (d : Dev) : Dev :=
  let e := d.exc x
  let st := d.rd (EXC_STATUS_STATE x)
  if !d.alive || !e.startDue || d.mode != 1 || st == 0 || st == 4 then d
  else
    let d := d.putExc x { e with startDue := false, afterHold := false }
    if e.running then
      let p := some (d.rd (TIMER_PCOUNT_COUNT (d.timerOf (d.rd (EXC_CFG_SYNC_VOICE x)))))
      let d := (d.putExc x { d.exc x with skipRep := p }).inc (EXC_SKIP_COUNT_COUNT x)
      if e.skipRep = p then d else d.fault 0x0306 reportOnly []
    else
      let d := d.putExc x { d.exc x with running := true, high := false, pulse := 0, cycle := 0 }
      let d := d.wr (EXC_STATUS_STEP x) 0
      let d := if st = 1 then d.wr (EXC_STATUS_STATE x) 2 else d
      d.driveExc x

/-- PULSE_START (R118, R126): a pulse of the schedule starts; `trip` says whether the synchronised trip signal is asserted in
that FCK. Of a sweep this is the first active edge. -/
def Dev.pulseStart (x : Nat) (trip : Bool) (d : Dev) : Dev :=
  let e := d.exc x
  let mode := d.rd (EXC_CFG_MODE x)
  let due := if mode = 2 then d.rd (EXC_COUNT_PULSES x) = 0 ∨ e.pulse < d.rd (EXC_COUNT_PULSES x) else e.pulse = 0
  if d.alive && d.mode == 1 && e.running && !e.high && decide due then d.beginPulse x trip else d

/-- PULSE_END (R126): the active phase of a pulse of WIDTH ends, and with the last pulse the schedule. -/
def Dev.pulseEnd (x : Nat) (d : Dev) : Dev :=
  let e := d.exc x
  let mode := d.rd (EXC_CFG_MODE x)
  if d.alive && e.running && e.high && decide (mode = 1 ∨ mode = 2) then
    let d := d.endPhase x
    if mode = 1 ∨ e.pulse = d.rd (EXC_COUNT_PULSES x) then d.endSchedule x else d
  else d

/-- SWEEP_HALF_PERIOD (R127): the active half of a cycle ends, or the inactive one, and with it the cycle, the step or the
sweep. -/
def Dev.sweepHalfPeriod (x : Nat) (trip : Bool) (d : Dev) : Dev :=
  let e := d.exc x
  if d.alive && d.mode == 1 && e.running && decide (d.rd (EXC_CFG_MODE x) = 3) && decide (0 < e.pulse) then
    if e.high then d.endPhase x
    else if e.cycle + 1 < d.rd (EXC_SWEEP_CYCLES x) then (d.putExc x { e with cycle := e.cycle + 1 }).beginPulse x trip
    else if d.rd (EXC_STATUS_STEP x) + 1 < d.rd (EXC_SWEEP_STEPS x) then
      ((d.putExc x { e with cycle := 0 }).step1 (EXC_STATUS_STEP x)).beginPulse x trip
    else d.endSchedule x
  else d

/-- Start instants that a boundary of voice `n` gives to the exciters synchronised to it (R126), whatever the voice's state but RETIRED and
DISABLED: not in a closed gate, where they are counted as skipped (R128). -/
def Dev.boundaryStarts (d : Dev) (n : Nat) (gated : Bool) : Dev :=
  d.each (List.range 8) (fun d x =>
    let e := d.exc x
    let st := d.rd (EXC_STATUS_STATE x)
    let vst := d.rd (VOICE_STATUS_STATE n)
    if d.rd (EXC_CFG_SYNC_VOICE x) ≠ n ∨ st = 0 ∨ st = 4 ∨ vst = 0 ∨ vst = 3 ∨ d.mode ≠ 1 then d
    else if gated then d.inc (EXC_SKIP_COUNT_COUNT x)
    else d.putExc x { e with startDue := true })

/-- Begin a self-test (R123, R125): the cells assert, and the periods of the voices it touches are rests with reason 4. -/
def Dev.beginTest (d : Dev) (m state : Nat) : Dev :=
  let w := d.wm m
  let d := (d.putWm m { w with before := if d.rd (WM_STATUS_STATE m) = 4 then w.level else w.before, step := 1, due := false, moved := false })
  let d := d.wr (WM_STATUS_STATE m) state
  let d := d.each (d.touchedVoices m) (fun d n => d.restVoice n 4)
  d.forceTrips m

/-- A monitor becomes READY with its live level. -/
def Dev.wmReady (d : Dev) (m : Nat) : Dev :=
  ((d.putWm m { d.wm m with step := 0, due := false, moved := false }).wr (WM_STATUS_STATE m) 4).followTrips

/-- A monitor starts settling (R124): `due` says whether a test follows; otherwise it settles after a change of MODE. A test that a
re-admission has asked for stays due. -/
def Dev.settleMonitor (d : Dev) (m : Nat) (due : Bool) : Dev :=
  let w := d.wm m
  let st := d.rd (WM_STATUS_STATE m)
  let keep := if st = 4 then w.level else if st = 1 ∨ st = 2 ∨ st = 3 then w.before else 0
  ((d.putWm m { w with before := keep, step := 0, due := due || (st == 1 && w.due), moved := !due }).wr (WM_STATUS_STATE m) 1).followTrips

/-- Does a monitor that touches voice `v` settle after a change of MODE (R124)? -/
def Dev.settlingMoved (d : Dev) (v : Nat) : Bool :=
  (List.range 8).any (fun m => d.rd (WM_STATUS_STATE m) == 1 && (d.wm m).moved && (d.touchedVoices m).contains v)

/-- MONITOR_SETTLED (R124). -/
def Dev.monitorSettled (m : Nat) (d : Dev) : Dev :=
  if d.monitorsOn && d.rd (WM_STATUS_STATE m) == 1 then
    if (d.wm m).due then d.beginTest m 2 else d.wmReady m
  else d

/-- The comparator values a self-test step expects (R123): upper, lower. -/
def stepExpect (step : Nat) : Nat × Nat :=
  if step = 1 then (0, 1) else if step = 2 then (0, 0) else if step = 3 then (1, 0) else (1, 1)

/-- The first of the 16 samples that differs from what is expected. -/
def firstBad (upper lower eu el : Nat) : Option Nat :=
  (List.range 16).find? (fun i => bit (upper.testBit i) != eu || bit (lower.testBit i) != el)

/-- SELF_TEST_STEP (R123, R124): the step in progress has sampled both comparators in 16 consecutive FCK. -/
def Dev.selfTestStep (m upper lower : Nat) (d : Dev) : Dev :=
  let st := d.rd (WM_STATUS_STATE m)
  let w := d.wm m
  if !d.monitorsOn || !(st == 2 || st == 3) then d
  else
    match firstBad upper lower (stepExpect w.step).1 (stepExpect w.step).2 with
    | none => if w.step < 4 then d.putWm m { w with step := w.step + 1 } else d.wmReady m
    | some i =>
      let d := d.wr (WM_STATUS_FAIL_STEP m) w.step |>.wr (WM_STATUS_SEEN_UP m) (bit (upper.testBit i))
        |>.wr (WM_STATUS_SEEN_LO m) (bit (lower.testBit i))
      if st = 2 then
        let d := d.fault 0x0304 transient [0x18 + m]
        if d.rd (WM_STATUS_STATE m) = 2 then d.beginTest m 3 else d.followTrips
      else (d.fault 0x0305 permanent [0x18 + m]).followTrips

/-- Every enabled monitor is tested, those READY at once, as at a re-admission (R123); one that settles is tested after it. -/
def Dev.testMonitors (d : Dev) : Dev :=
  d.each (List.range 8) (fun d m =>
    let st := d.rd (WM_STATUS_STATE m)
    if st = 4 then d.beginTest m 2 else if st = 1 then d.putWm m { d.wm m with due := true } else d)

/-- May the monitors of a mask be tested (R125)? Each must be READY and not reserved by an enabled track channel (R131). -/
def Dev.testAllowed (d : Dev) (mask : Nat) : Bool :=
  (List.range 8).all (fun m => !mask.testBit m || (d.rd (WM_STATUS_STATE m) == 4 && !(d.is TRACK_CFG_EN && decide (5 ≤ m))))

/-- WM_SELF_TEST (R125). -/
def Dev.wmSelfTest (mask : Nat) (d : Dev) : Dev :=
  if d.monitorsOn && d.testAllowed mask then
    d.each (List.range 8) (fun d m => if mask.testBit m then d.beginTest m 2 else d)
  else d

/-- MONITOR_BOTH_HIGH (R124): 0b11 on a READY monitor for two samples. -/
def Dev.monitorBothHigh (m : Nat) (d : Dev) : Dev :=
  if d.monitorsOn && d.rd (WM_STATUS_STATE m) == 4 then
    let d := d.wr (WM_STATUS_FAIL_STEP m) 5 |>.wr (WM_STATUS_SEEN_UP m) 1 |>.wr (WM_STATUS_SEEN_LO m) 1
    let d := d.fault 0x0304 transient [0x18 + m]
    if d.rd (WM_STATUS_STATE m) = 4 then d.beginTest m 2 else d.followTrips
  else d

/-- A running schedule is abandoned (R129). -/
def Dev.dropSchedule (d : Dev) (x : Nat) : Dev :=
  let d := d.putExc x { d.exc x with running := false, high := false, qual := false, checking := false, failed := 0,
                                     startDue := false, pulse := 0, cycle := 0 }
  let d := if d.rd (EXC_STATUS_STATE x) = 2 then d.wr (EXC_STATUS_STATE x) 1 else d
  d.driveExc x

/-- A running schedule is abandoned at entry into HOLD (R130): the output stays safe until the first start instant after HOLD. -/
def Dev.abandonExc (d : Dev) (x : Nat) : Dev :=
  let d := d.dropSchedule x
  (d.putExc x { d.exc x with afterHold := true }).driveExc x

/-- STOPPED exciters return to IDLE when every voice in the LOSS_MASK of each monitor that checks them is re-admitted
(R129). -/
def Dev.reviveExcs (d : Dev) : Dev :=
  d.each (List.range 8) (fun d x =>
    let ms := (List.range 8).filter (fun m => d.is (WM_CFG_QUAL_EN m) && d.rd (WM_CFG_QUAL_EXC m) == x)
    if d.rd (EXC_STATUS_STATE x) = 4 ∧ ms.all (fun m => (d.lossVoices m).all (fun n => !d.isRetired n)) then
      (((d.wr (EXC_STATUS_STATE x) 1).wr (EXC_STATUS_CHECK_FAIL x) 0).driveExc x)
    else d)

end Sys2Proof.Machine
end

