-- ==== Sys2Proof/Machine/Sram.lean ====
section
/-! DEFINITION.
The SRAM's error correction (R17, R334): counting, reporting, and replacing rows.
-/

namespace Sys2Proof.Machine

open Reg

/-- The row of an SRAM word, bank × 512 + row. DEDUCED: log entry 21. -/
def sramRow (w : Nat) : Nat := w / 64

/-- The bank of an SRAM word. DEDUCED: log entry 21. -/
def sramBank (w : Nat) : Nat := w / 32768

/-- A row must be replaced (R334): the copy into the next free spare row starts, or fault 0x0B04 is recorded once for the
row. A row being copied is not copied again. -/
def Dev.replaceRow (d : Dev) (row : Nat) : Dev :=
  let b := row / 512
  if Store.read d.sram.copying row ≠ 0 then d
  else if d.rd (SRAM_CORR_SPARE_USED b) < 16 then
    let n := d.rd (SRAM_CORR_SPARE_USED b) + 1
    { d with sram := { d.sram with copying := Store.write d.sram.copying row n } }.wr (SRAM_CORR_SPARE_USED b) n
  else if Store.read d.sram.noSpare row ≠ 0 then d
  else { d with sram := { d.sram with noSpare := Store.write d.sram.noSpare row 1 } }.fault 0x0B04 permanent [srcDevice] (some row)

/-- UNCORRECTABLE_WORD (R334): the first finding is recorded and counted, and its row is replaced. DEDUCED: log entry 53. -/
def Dev.uncorrectable (d : Dev) (w : Nat) : Dev :=
  if Store.read d.sram.bad w ≠ 0 then d
  else
    let d := { d with sram := { d.sram with bad := Store.write d.sram.bad w 1 } }.inc (UNCORR (sramBank w))
    (d.fault 0x0B02 transient [srcDevice] (some (sramRow w))).replaceRow (sramRow w)

/-- A corrected error (R17, R334): counted, and recorded at most once per bank and scrub pass. -/
def Dev.corrected (d : Dev) (w : Nat) : Dev :=
  let b := sramBank w
  let d := d.inc (SRAM_CORR b)
  if Store.read d.sram.corrRep b ≠ 0 then d
  else { d with sram := { d.sram with corrRep := Store.write d.sram.corrRep b 1 } }.fault 0x0B01 reportOnly [] (some (sramRow w))

/-- What a read finds wrong in SRAM words: pairs of a word's number and 1 for a corrected error, 2 for an uncorrectable
word. DESIGN CHOICE: log entry 24. -/
def Dev.meetUpsets (d : Dev) (l : List (Nat × Nat)) : Dev :=
  d.each l (fun d p => if p.2 = 1 then d.corrected p.1 else if p.2 = 2 then d.uncorrectable p.1 else d)

/-- The scrubber corrects a word: its row is replaced when it was corrected in the previous pass too. -/
def Dev.scrubCorrected (d : Dev) (w : Nat) : Dev :=
  let d := d.corrected w
  let row := sramRow w
  let d := { d with sram := { d.sram with thisPass := Store.write d.sram.thisPass row 1 } }
  if Store.read d.sram.prevPass row ≠ 0 then d.replaceRow row else d

/-- The scrubber has read the last word of a bank: its next pass begins. -/
def Dev.endPass (d : Dev) (bank : Nat) : Dev :=
  let mine := fun (p : Nat × Nat) => p.1 / 512 == bank
  let prev := d.sram.prevPass.filter (fun p => !mine p)
  { d with sram := { d.sram with
      prevPass := (d.sram.thisPass.filter mine).foldl (fun s p => Store.write s p.1 1) prev,
      thisPass := d.sram.thisPass.filter (fun p => !mine p),
      corrRep := Store.write d.sram.corrRep bank 0 } }

/-- ROW_REPLACEMENT_DONE (R334): the spare row takes over. -/
def Dev.rowReplacementDone (bank row : Nat) (d : Dev) : Dev :=
  let r := bank * 512 + row
  let n := Store.read d.sram.copying r
  if !d.alive || n == 0 then d
  else
    { d with sram := { d.sram with copying := Store.write d.sram.copying r 0, rowMap := Store.write d.sram.rowMap r n,
                                   prevPass := Store.write d.sram.prevPass r 0, thisPass := Store.write d.sram.thisPass r 0 } }
      |>.fault 0x0B03 reportOnly [] (some r)

/-- CLEAR_SRAM_CORR (R334): every SRAM_CORR returns to 0. -/
def Dev.clearSramCorr (d : Dev) : Dev := d.each (List.range 8) (fun d b => d.wr (SRAM_CORR b) 0)

end Sys2Proof.Machine
end

