-- ==== Sys2Proof/Machine/Fit.lean ====
section
/-! DEFINITION.
Periods and the fit engine (R134 to R155): the sums, the boundary, closeout, Allan accumulators, silence, and the strike
records that boundaries advance (R330, R332).
-/

namespace Sys2Proof.Machine

open Reg

/-- The first reason that applies, in the order of R148; 10 and 9 are the choir's own (R258). -/
def firstReason (causes : Nat) : Nat := ([12, 7, 6, 11, 3, 10, 9, 5, 4, 8, 2, 1].find? (fun r => causes.testBit r)).getD 0

/-- Add a stamp to the sums of R139. -/
def Sums.add (s : Sums) (n t : Nat) : Sums :=
  { n := s.n + 1, sn := s.sn + n, st := s.st + t, snn := s.snn + n * n, snt := s.snt + n * t }

/-- Use an interval (R143): Δt of a stamp pair at decimation k. -/
def Ivl.use (v : Ivl) (dt k : Nat) : Ivl :=
  let u := f64OfRat dt (2 ^ k)
  let x := dt * 2 ^ (20 - k)
  if v.count = 0 then { v with uref := u, lo := x, hi := x, count := 1 }
  else
    let e := f64Sub u v.uref
    { v with s1 := f64Add v.s1 e, s2 := f64Add v.s2 (f64Mul e e), lo := min v.lo x, hi := max v.hi x, count := (v.count + 1) % 2 ^ 32 }

/-- Take a stamp into the interval statistics (R143): `p` is 2 for EDGE BOTH and 1 otherwise. -/
def Ivl.take (v : Ivl) (p n t k : Nat) (rising : Bool) : Ivl :=
  let last := if rising then v.lastRise else v.lastFall
  let v := match last with
    | some (n', t', k') => if k = k' ∧ n = n' + p * 2 ^ k then v.use (t - t') k else v
    | none => v
  if rising then { v with lastRise := some (n, t, k) } else { v with lastFall := some (n, t, k) }

/-- P of a voice: 2 for EDGE BOTH, 1 otherwise (R141). -/
def Dev.polarity (d : Dev) (n : Nat) : Nat := if d.rd (VOICE_CTRL_EDGE n) = 3 then 2 else 1

/-- The fit engine's state of a voice. -/
def Dev.fitVoice (d : Dev) (n : Nat) : FitVoice := Tab.read FitVoice.fresh d.fitV n

/-- Replace it. -/
def Dev.putFitVoice (d : Dev) (n : Nat) (v : FitVoice) : Dev := { d with fitV := Tab.write d.fitV n v }

/-- The fit engine's state of a pair. -/
def Dev.fitPair (d : Dev) (p : Nat) : FitPair := Tab.read FitPair.fresh d.fitP p

/-- Replace it. -/
def Dev.putFitPair (d : Dev) (p : Nat) (v : FitPair) : Dev := { d with fitP := Tab.write d.fitP p v }

/-- A pair's window in µs from the start boundary; WIN_END 0 stands for LENGTH (R137). -/
def Dev.pairWindow (d : Dev) (p t : Nat) : Nat × Nat :=
  let e := d.rd (FIT_PAIR_WIN_END_US p)
  (d.rd (FIT_PAIR_WIN_START_US p), if e = 0 then d.rd (TIMER_LENGTH_US t) else e)

/-- Take a stamp into the pair contexts that use its voice, when it lies in their window (R137). -/
def Dev.takePairs (d : Dev) (v base ext n t : Nat) : Dev :=
  d.each (List.range 8) (fun d p =>
    let w := d.pairWindow p (d.timerOf v)
    if d.is (FIT_PAIR_CFG_EN p) ∧ base + w.1 * 800 ≤ ext ∧ ext < base + w.2 * 800 then
      let f := d.fitPair p
      let f := if d.rd (FIT_PAIR_CFG_VOICE_A p) = v then { f with a := f.a.add n t } else f
      let f := if d.rd (FIT_PAIR_CFG_VOICE_B p) = v then { f with b := f.b.add n t } else f
      d.putFitPair p f
    else d)

/-- At the BOUND marker of a voice the sums of the period that ends there move into the items that wait for them, and the
accumulators start again (R138, R140). -/
def Dev.moveSums (d : Dev) (v : Nat) (e : Entry) : Dev :=
  let f := d.fitVoice v
  let items := d.items.map (fun i =>
    if i.stop ≠ e.ext then i
    else if i.ctx < 16 then (if i.ctx = v then { i with a := f.sums, ivl := f.ivl } else i)
    else
      let q := d.fitPair (i.ctx - 16)
      let i := if i.va = v then { i with a := q.a } else i
      if i.vb = v then { i with b := q.b } else i)
  let d : Dev := { d with items := items }
  let d := d.each (List.range 8) (fun d p =>
    let q := d.fitPair p
    let q := if d.rd (FIT_PAIR_CFG_VOICE_A p) = v then { q with a := Sums.zero } else q
    let q := if d.rd (FIT_PAIR_CFG_VOICE_B p) = v then { q with b := Sums.zero } else q
    d.putFitPair p q)
  d.putFitVoice v { f with base := some e.ext, n0 := e.evcnt, lastN := 0, sums := Sums.zero, ivl := Ivl.zero }

/-- The fit engine takes one entry of the stamp stream of voice `v` (R137, R138). -/
def Dev.takeFit (d : Dev) (v : Nat) (e : Entry) : Dev :=
  if e.flags.testBit 7 then d.moveSums v e
  else if e.flags.testBit 0 ∨ e.flags.testBit 6 then d
  else
    let f := d.fitVoice v
    match f.base with
    | none => d
    | some base =>
      let raw := (e.evcnt + 2 ^ 32 - f.n0) % 2 ^ 32
      let n := f.lastN + (raw + 2 ^ 40 - f.lastN) % 2 ^ 32
      let t := (e.ext - base) * 65536 + e.m
      let d := d.putFitVoice v
        { f with lastN := n, sums := f.sums.add n t, ivl := f.ivl.take (d.polarity v) n t e.k (e.edge == 1) }
      d.takePairs v base e.ext n t

/-- STAMP_ACCUMULATE (R137): the oldest entry of the stamp stream of voice `v` that the fit engine has not taken. -/
def Dev.stampAccumulate (v : Nat) (d : Dev) : Dev :=
  let s := d.voice v
  match s.fitTap with
  | [] => d
  | e :: rest => if d.alive then (d.putVoice v { s with fitTap := rest }).takeFit v e else d

/-- Take every entry up to the one with number `id`: the fit engine reads ahead of the ring writer (R89). -/
def Dev.drainFit (d : Dev) (v id : Nat) : Dev :=
  let s := d.voice v
  let early := s.fitTap.takeWhile (fun e => decide (e.id ≤ id))
  let d := d.putVoice v { s with fitTap := s.fitTap.drop early.length }
  d.each early (fun d e => d.takeFit v e)

/-- Every voice's stamp stream is taken to its end, as at a change of the settings (R154). -/
def Dev.drainFits (d : Dev) : Dev :=
  d.each (List.range 16) (fun d v => d.drainFit v (d.voice v).nextId)

/-- FIT_STATUS.QUEUE shows how many contexts wait. -/
def Dev.putItems (d : Dev) (l : List Item) : Dev := { d with items := l }.wr FIT_STATUS_QUEUE l.length

/-- NUM of R141. -/
def Sums.num (s : Sums) : Int := (s.n * s.snt : Nat) - (s.sn * s.st : Nat)

/-- DEN of R141. -/
def Sums.den (s : Sums) : Int := (s.n * s.snn : Nat) - (s.sn * s.sn : Nat)

/-- A quotient of integers, rounded once. -/
def f64OfQuot (n d : Int) : F64 := if 0 < d then f64OfRat n d.toNat else f64Div (f64OfInt n) (f64OfInt d)

/-- FREQ (R141). -/
def Sums.freq (s : Sums) (p : Nat) (eps : F64) : F64 :=
  let b := f64OfQuot s.num s.den
  let f1 := f64Div (f64OfInt 52428800000000) b
  f64Mul (f64Div f1 (f64OfInt p)) (f64Add f64One eps)

/-- RATIO (R142). -/
def pairRatio (a b : Sums) (pa pb : Nat) : F64 := f64OfQuot (b.num * a.den * pb) (b.den * a.num * pa)

/-- The constant c of R143. -/
def secondsPerUnit : F64 := f64OfRat 125 (100000000000 * 65536)

/-- A value in T_SCK / 65,536 as seconds (R143). -/
def toSeconds (x eps : F64) : F64 := f64Div (f64Mul x secondsPerUnit) (f64Add f64One eps)

/-- INT_MEAN, INT_SD, INT_MIN and INT_MAX (R143). -/
def Ivl.values (v : Ivl) (eps : F64) : List F64 :=
  if v.count = 0 then [f64Zero, f64Zero, f64Zero, f64Zero]
  else
    let k := f64OfInt v.count
    let mean := f64Add v.uref (f64Div v.s1 k)
    let var := f64Div (f64Sub v.s2 (f64Div (f64Mul v.s1 v.s1) k)) (f64OfInt (v.count - 1))
    let sd := if v.count < 2 then f64Zero else toSeconds (f64Sqrt var) eps
    [toSeconds mean eps, sd, toSeconds (f64OfRat v.lo (2 ^ 20)) eps, toSeconds (f64OfRat v.hi (2 ^ 20)) eps]

/-- One accumulator takes a produced period (R144). -/
def Allan.feed (a : Allan) (k : Nat) (y : F64) : Allan :=
  let part := if a.parts = 0 then y else f64Add a.part y
  if a.parts + 1 < 2 ^ k then { a with part := part, parts := a.parts + 1 }
  else
    let avg := f64Div part (f64OfInt (2 ^ k : Nat))
    let a := match a.prev with
      | some p =>
        if a.count + 1 < 2 ^ 32 then
          let e := f64Sub avg p
          { a with sum := f64Add a.sum (f64Mul e e), count := a.count + 1 }
        else a
      | none => a
    { a with part := f64Zero, parts := 0, prev := some avg }

/-- A rest discards the partial block and the previous average (R144). -/
def Allan.rest (a : Allan) : Allan := { a with part := f64Zero, parts := 0, prev := none }

/-- Change the sixteen accumulators of a context. -/
def Dev.allanEach (d : Dev) (ctx : Nat) (f : Nat → Allan → Allan) : Dev :=
  { d with allan := (List.range 16).foldl (fun t k => Tab.write t (ctx * 16 + k) (f k (Tab.read Allan.fresh t (ctx * 16 + k)))) d.allan }

/-- FIT_CMD 0x81 (R144): sums and counts are 0 at once; blocks restart at the next boundary. -/
def Dev.clearAllanCtx (ctx : Nat) (d : Dev) : Dev :=
  if ctx < 24 then
    let d := d.allanEach ctx (fun _ _ => Allan.fresh)
    { d with allanFrom := Store.write d.allanFrom ctx (d.ext + 1) }
  else d

/-- FIT_CMD 0x82. -/
def Dev.clearAllanAll (d : Dev) : Dev := d.each (List.range 24) (fun d c => Dev.clearAllanCtx c d)

/-- FIT_CMD 0x83. -/
def Dev.clearRestCounts (d : Dev) : Dev :=
  let d := d.each (List.range 16) (fun d n => d.wr (FIT_VOICE_REST_COUNT_COUNT n) 0)
  d.each (List.range 8) (fun d p => d.wr (FIT_PAIR_REST_COUNT_VALUE p) 0)

/-- The period's Allan chains: fed by a result, broken by a rest (R144). -/
def Dev.feedAllan (d : Dev) (i : Item) (reason : Nat) (value : F64) : Dev :=
  if reason ≠ 0 then d.allanEach i.ctx (fun _ a => a.rest)
  else if i.start < Store.read d.allanFrom i.ctx then d
  else
    let y := f64Sub (f64Div value (BitVec.ofNat 64 i.nom)) f64One
    d.allanEach i.ctx (fun k a => a.feed k y)

/-- The header word of a RING_16 entry (R150). -/
def Item.header (i : Item) (reason : Nat) : Nat :=
  let pair := decide (16 ≤ i.ctx)
  i.start % coarseMod * 1024 + i.lengthUs % 2 ^ 24 * 2 ^ 64 + reason * 2 ^ 88 + bit pair * 2 ^ 92 + bit i.held * 2 ^ 93 +
    bit i.prob * 2 ^ 94 + bit i.decim * 2 ^ 95 + i.ctx % 16 * 2 ^ 96 + i.timer * 2 ^ 100 + i.k * 2 ^ 102 +
    (if pair then 3 else 5) * 2 ^ 107 + i.pseq % 65536 * 2 ^ 112

/-- The words of a voice entry (R151). DEDUCED: log entry 33. -/
def Item.voiceWords (i : Item) (reason : Nat) (freq : F64) : List Nat :=
  let v := if reason = 0 then i.ivl.values i.eps else [f64Zero, f64Zero, f64Zero, f64Zero]
  [i.header reason,
   freq.toNat + i.a.n % 2 ^ 32 * 2 ^ 64 + i.counted % 2 ^ 32 * 2 ^ 96,
   (v.getD 0 0).toNat + (v.getD 1 0).toNat * 2 ^ 64,
   (v.getD 2 0).toNat + (v.getD 3 0).toNat * 2 ^ 64,
   i.causes + min i.runts 0xFFFF * 2 ^ 16 + i.ivl.count * 2 ^ 32]

/-- The words of a pair entry (R152). DEDUCED: log entry 33. -/
def Item.pairWords (i : Item) (reason : Nat) (ratio fa fb : F64) : List Nat :=
  [i.header reason, ratio.toNat + i.a.n % 2 ^ 32 * 2 ^ 64 + i.causes * 2 ^ 96, fa.toNat + fb.toNat * 2 ^ 64]

/-- The reasons of an item once its sums are known: reason 2 joins those of the period (R145, R148). -/
def Item.tooFew (i : Item) : Bool := decide (i.a.n < i.minA) || (decide (16 ≤ i.ctx) && decide (i.b.n < i.minB))

/-- Fault 0x0502 at the first period of a run of rests with reason 2 (R155). DEDUCED: log entry 33. -/
def Dev.reportFew (d : Dev) (i : Item) : Dev :=
  let few := i.causes.testBit 2
  let src := if i.ctx < 16 then [i.va]
    else (if i.a.n < i.minA then [i.va] else []) ++ (if i.b.n < i.minB then [i.vb] else [])
  if i.ctx < 16 then
    let f := d.fitVoice i.ctx
    let d := d.putFitVoice i.ctx { f with few := few }
    if few && !f.few then d.fault 0x0502 transient src else d
  else
    let f := d.fitPair (i.ctx - 16)
    let d := d.putFitPair (i.ctx - 16) { f with few := few }
    if few && !f.few then d.fault 0x0502 transient src else d

/-- A rest is counted (R148). -/
def Dev.countRest (d : Dev) (ctx reason : Nat) : Dev :=
  if reason = 0 then d
  else if ctx < 16 then (d.inc (FIT_VOICE_REST_COUNT_COUNT ctx)).wr (FIT_VOICE_STATUS_REST_LAST ctx) reason
  else (d.inc (FIT_PAIR_REST_COUNT_VALUE (ctx - 16))).wr (FIT_PAIR_STATUS_VALUE (ctx - 16)) reason

/-- A pair result reaches the weighing pipeline (R176). -/
def Dev.pairDone (d : Dev) (p t stop : Nat) (r : PairRes) : Dev :=
  if t ≠ d.rd PIPE_CFG_TIMER then d
  else
    let jobs := d.pipe.jobs.map (fun (j : PipeJob) => if j.stop = stop then { j with res := Tab.write j.res p r } else j)
    { d with pipe := { d.pipe with jobs := jobs } }

/-- Finish a context: its RING_16 entry, its Allan chains, its counts, and for a pair the result that the pipeline takes
(R140 to R152). The causes are complete. -/
def Dev.finishItem (d : Dev) (i : Item) : Dev :=
  let reason := firstReason i.causes
  let d := d.countRest i.ctx reason
  if i.ctx < 16 then
    let f := if reason = 0 then i.a.freq i.pa i.eps else f64Zero
    (d.offer 16 1 (i.voiceWords reason f)).feedAllan i reason f
  else
    let r := if reason = 0 then pairRatio i.a i.b i.pa i.pb else f64Zero
    let fa := if reason = 0 then i.a.freq i.pa i.eps else f64Zero
    let fb := if reason = 0 then i.b.freq i.pb i.eps else f64Zero
    let res : PairRes := { reason := reason, ratio := r, fb := if reason = 0 then i.b.freq i.pb f64Zero else f64Zero }
    let d := d.pairDone (i.ctx - 16) i.timer i.stop res
    (d.offer 16 1 (i.pairWords reason r fa fb)).feedAllan i reason r

/-- Has a marker left its voice's FIFO (R15)? -/
def Dev.gone (d : Dev) (v : Nat) (wait : Option Nat) : Bool :=
  match wait with
  | none => true
  | some id => (d.voice v).fifo.all (fun e => e.id != id)

/-- May the head context start (R15, R147)? -/
def Dev.ready (d : Dev) (i : Item) : Bool := d.gone i.va i.waitA && d.gone i.vb i.waitB

/-- A table entry of a voice is read with a parity error (R110): the period is a rest with reason 8. -/
def Item.spoilt (i : Item) (parity : Nat) : Item :=
  if parity.testBit i.va ∨ parity.testBit i.vb then { i with causes := i.causes ||| 2 ^ 8 } else i

/-- A reason that the closeout of a voice context finds holds for the waiting periods of the analyser instances that use the voice over the same
interval (R164). -/
def Dev.tellAnas (d : Dev) (v start stop bit_ : Nat) : Dev :=
  { d with anaItems := d.anaItems.map (fun (i : AnaItem) =>
      if i.vs.contains v ∧ i.start < stop ∧ start < i.stop then { i with causes := i.causes ||| bit_ } else i) }

/-- CLOSEOUT (R147): the head of the queue is solved. `parity` is the mask of voices whose tuning table is read with a parity
error (R110); `upsets` lists what the reads of the context's SRAM words find (R17, R334), and `chains` is the mask of the Allan
chains that an uncorrectable word held. DESIGN CHOICE: log entry 9. -/
def Dev.closeout (parity : Nat) (upsets : List (Nat × Nat)) (chains : Nat) (d : Dev) : Dev :=
  match d.items with
  | [] => d
  | i :: rest =>
    if !d.alive || !d.ready i then d
    else
      let d := d.putItems rest
      let d := d.each (maskBits parity) (fun d v => if v = i.va ∨ v = i.vb then d.tableParity v else d)
      let d := d.meetUpsets upsets
      let bad := upsets.any (fun p => p.2 == 2)
      let d := if bad then d.allanEach i.ctx (fun k a => if chains.testBit k then Allan.fresh else a) else d
      let i := i.spoilt parity
      let d := if parity.testBit i.va then d.tellAnas i.va i.start i.stop (2 ^ 8) else d
      let d := if parity.testBit i.vb then d.tellAnas i.vb i.start i.stop (2 ^ 8) else d
      let d := if bad && decide (i.ctx < 16) then d.tellAnas i.va i.start i.stop (2 ^ 11) else d
      let i := if bad then { i with causes := i.causes ||| 2 ^ 11, a := Sums.zero, b := Sums.zero, ivl := Ivl.zero } else i
      let i := if i.tooFew then { i with causes := i.causes ||| 2 ^ 2 } else i
      let d := if bad then d.raiseEpoch 1 else d
      (d.finishItem i).reportFew i

/-- CLOSEOUT_DEADLINE (R147): every context of the oldest boundary of timer `t` that is not finished becomes a rest with
reason 1, and the closeout abandons its work (R335). Reason 2 applies too where the sums are complete (R145, R148). DEDUCED: log entry 33. -/
def Dev.closeoutDeadline (t : Nat) (d : Dev) : Dev :=
  match d.items.find? (fun i => i.timer == t) with
  | none => d
  | some h =>
    if !d.alive then d
    else
      let mine := fun (i : Item) => i.timer == t && i.stop == h.stop
      let late := d.items.filter mine
      let d := (d.putItems (d.items.filter (fun i => !mine i))).wr FIT_EVENT_CLOSE_LATE 1
      let d := (d.raiseEpoch 1).fault 0x0501 transient [srcDevice]
      d.each late (fun d i =>
        let few := d.ready i && i.tooFew
        let i := { i with causes := i.causes ||| 2 ^ 1 ||| (if few then 2 ^ 2 else 0) }
        let d := d.finishItem i
        if d.ready i then d.reportFew i else d)

/-- Is a voice's silence beyond SILENCE_MAX at an extended time (R146)? -/
def Dev.silentAt (d : Dev) (v ext : Nat) : Bool :=
  let m := d.rd (FIT_VOICE_SILENCE_MAX_VALUE v)
  let s := d.voice v
  decide (m ≠ 0) && d.counting v && decide (m * 800 < ext - s.lastEdge.getD s.startAt)

/-- VOICE_SILENT (R146): SILENT is set, fault 0x0510 is recorded for the episode, and the period in progress and those that
wait for closeout are rests with reason 4. -/
def Dev.voiceSilent (v : Nat) (d : Dev) : Dev :=
  if d.alive && d.counting v && d.rd (FIT_VOICE_SILENCE_MAX_VALUE v) != 0 && !d.is (FIT_VOICE_STATUS_SILENT v) then
    let d := (d.wr (FIT_VOICE_STATUS_SILENT v) 1).wr FIT_EVENT_SILENCE 1
    let d := d.restVoice v 4
    let d := { d with items := d.items.map (fun (i : Item) => if i.va = v ∨ i.vb = v then { i with causes := i.causes ||| 2 ^ 4 } else i) }
    let d := { d with anaItems := d.anaItems.map (fun (i : AnaItem) => if i.vs.contains v then { i with causes := i.causes ||| 2 ^ 4 } else i) }
    d.fault 0x0510 transient [v]
  else d

/-- The BOUND marker of a voice (R15, R75): into the reserved slot, and to the readers of the stamp stream. RUNT waits for the
next entry of a voice that does not log BOUND markers. While an earlier BOUND marker still stands in the FIFO, both do.
DEDUCED: log entry 25. -/
def Dev.markBound (d : Dev) (v ext : Nat) : Dev :=
  let s := d.voice v
  let logged := d.is (VOICE_CTRL_BOUND_LOG v)
  let e := s.entry ext 0 s.evcnt 0 0x81 0 0
  let e := if logged then e else { e with flags := 0x81 }
  let s := { s with fifo := s.fifo ++ [e], nextId := s.nextId + 1, runtNext := if logged then false else s.runtNext }
  (d.putVoice v s).tap v e

/-- k falls at the boundary (R80), unless a DECIM marker still waits (R83). -/
def Dev.decimFall (d : Dev) (v : Nat) (tm : Timer) (ext : Nat) : Dev :=
  let s := (d.voice v).drainPending
  let k := d.rd (VOICE_STATUS_K v)
  match tm.prev with
  | none => d
  | some b =>
    if d.counting v ∧ d.rd (VOICE_DECIM_CFG_KMIN v) < k ∧ !s.rose ∧ !s.riseDue ∧ s.pendDecim.isNone ∧ !s.causes.testBit 6 ∧ !s.causes.testBit 7 ∧
        s.startAt ≤ b ∧ s.counted < 25 * 2 ^ (k - 1) * ((ext - b) / 800) then
      ((d.putVoice v (s.placeDecim ext (k - 1) s.evcnt)).wr (VOICE_STATUS_K v) (k - 1)).wr (VOICE_EVENT_DECIM_DOWN v) 1
    else d

/-- Does a context produce an entry for the period that begins at `b` (R136, R148)? Each of its voices has had its START marker
by then, or is retired; a DISABLED voice produces none. DEDUCED: log entry 36. -/
def Dev.voiceProduces (d : Dev) (v b : Nat) : Bool :=
  let s := d.voice v
  d.rd (VOICE_STATUS_STATE v) != 0 &&
    ((match s.firstAt with | some x => decide (x ≤ b) | none => false) || d.rd (VOICE_STATUS_STATE v) == 3)

/-- The marker that the boundary just placed in a voice's FIFO. -/
def Dev.boundId (d : Dev) (v : Nat) : Option Nat := (d.voice v).fifo.getLast?.map Entry.id

/-- Where the period of voice `v` began that the boundary of a timer ends: at the timer's boundary `b` before it, or where the voice came to the
timer (R154). -/
def Dev.periodStart (d : Dev) (v b : Nat) : Nat := max b ((d.voice v).since.getD 0)

/-- The contexts of timer `t` and of the voices `mine` whose period begins at `b` and ends at `ext` (R140, R147, R148): voice contexts 0 to 15,
then pair contexts 0 to 7. -/
def Dev.boundaryItems (d : Dev) (mine : List Nat) (t b ext : Nat) (tm : Timer) : List Item :=
  let base : Item :=
    { ctx := 0, timer := t, start := b, stop := ext, lengthUs := (ext - b) / 800, pseq := d.rd (TIMER_PCOUNT_COUNT t), va := 0, vb := 0,
      waitA := none, waitB := none, a := Sums.zero, b := Sums.zero, ivl := Ivl.zero, pa := 1, pb := 1, minA := 0, minB := 0, nom := 0,
      causes := 0, runts := 0, counted := 0, decim := false, prob := false, k := 0, eps := tm.eps, held := tm.held }
  let ofVoice := fun (v : Nat) =>
    let s := d.voice v
    let b := d.periodStart v b
    { base with ctx := v, start := b, lengthUs := (ext - b) / 800, va := v, vb := v, waitA := d.boundId v, waitB := d.boundId v, pa := d.polarity v, pb := d.polarity v,
                minA := d.rd (FIT_VOICE_MIN_STAMPS_VALUE v), minB := 0, nom := d.rd (FIT_VOICE_NOM_HZ v),
                causes := s.causes ||| (if (d.fitVoice v).upset then 2 ^ 11 else 0), runts := s.runts, counted := s.counted,
                decim := s.kChanged, prob := s.probed, k := d.rd (VOICE_STATUS_K v) }
  let ofPair := fun (p : Nat) =>
    let a := d.rd (FIT_PAIR_CFG_VOICE_A p)
    let b' := d.rd (FIT_PAIR_CFG_VOICE_B p)
    let sa := d.voice a
    let sb := d.voice b'
    let b := max (d.periodStart a b) (d.periodStart b' b)
    { base with ctx := 16 + p, start := b, lengthUs := (ext - b) / 800, va := a, vb := b', waitA := d.boundId a, waitB := d.boundId b', pa := d.polarity a, pb := d.polarity b',
                minA := d.rd (FIT_VOICE_MIN_STAMPS_VALUE a), minB := d.rd (FIT_VOICE_MIN_STAMPS_VALUE b'), nom := d.rd (FIT_PAIR_NOM_RATIO p),
                causes := sa.causes ||| sb.causes ||| (if (d.fitPair p).upset then 2 ^ 11 else 0),
                decim := sa.kChanged || sb.kChanged, prob := sa.probed || sb.probed, k := d.rd (VOICE_STATUS_K a) }
  let vs := (List.range 16).filter (fun v => d.is (FIT_VOICE_CFG_EN v) && mine.contains v && d.voiceProduces v (d.periodStart v b))
  let ps := (List.range 8).filter (fun p => d.is (FIT_PAIR_CFG_EN p) && mine.contains (d.rd (FIT_PAIR_CFG_VOICE_A p)) &&
    d.voiceProduces (d.rd (FIT_PAIR_CFG_VOICE_A p)) b && d.voiceProduces (d.rd (FIT_PAIR_CFG_VOICE_B p)) b)
  vs.map ofVoice ++ ps.map ofPair

/-- Is one of the monitors that touch a voice under test (R125)? Its voices' periods are rests with reason 4. -/
def Dev.underTest (d : Dev) (v : Nat) : Bool :=
  (List.range 8).any (fun m => (d.rd (WM_STATUS_STATE m) == 2 || d.rd (WM_STATUS_STATE m) == 3) && (d.touchedVoices m).contains v)

/-- Has a voice whose pin changed started again, or does it not run in the new image (R281)? -/
def Dev.pinSettled (d : Dev) (v : Nat) : Bool :=
  d.rd (VOICE_STATUS_STATE v) == 0 || d.rd (VOICE_STATUS_STATE v) == 3 ||
    ((d.rd (VOICE_STATUS_STATE v) == 2 || d.rd (VOICE_STATUS_STATE v) == 4) && (d.voice v).firstAt.isSome)

/-- Is a period of voice `v` one of the transition of R281? -/
def Dev.inTransition (d : Dev) (v : Nat) : Bool :=
  d.rd APPLY_STATUS_STATE == 5 &&
    ((d.img.refGroup && (d.is APPLY_STATUS_TRANS_LEFT || d.time.step != 0)) ||
     (d.img.pins.testBit v && (d.is APPLY_STATUS_TRANS_LEFT || !d.pinSettled v)))

/-- The reasons that a period of voice `v` carries from its start (R149). -/
def Dev.startCauses (d : Dev) (v : Nat) (gated : Bool) : Nat :=
  let ts := d.rd (TUNE_STATUS_STATE v)
  (if d.rd (VOICE_STATUS_STATE v) = 3 then 2 ^ 3 else 0) + (if d.is (FIT_VOICE_STATUS_SILENT v) || d.underTest v then 2 ^ 4 else 0) +
    (if gated && !d.time.cfgSwitch || d.ocxoMissing then 2 ^ 6 else 0) +
    (if (gated && d.time.cfgSwitch) || d.inTransition v || d.settlingMoved v then 2 ^ 7 else 0) +
    (if ts = 0 ∨ ts = 2 ∨ ts = 3 then 2 ^ 8 else 0)

/-- The record of a voice's period that begins at `ext` starts afresh (R140). -/
def Dev.freshRecord (d : Dev) (v ext : Nat) (gated : Bool) : Dev :=
  let d := d.putFitVoice v { d.fitVoice v with upset := false }
  let s := d.voice v
  d.putVoice v { s with since := some ext, causes := d.startCauses v gated, counted := 0, rose := false, kChanged := false, runts := 0,
                        kmaxRep := false, runtRep := false, probed := d.rd (VOICE_STATUS_STATE v) == 4 }

/-- The sources that keep a strike record with a strike timer (R329). -/
def strikeSources : List Nat :=
  List.range 20 ++ (List.range 8).map (· + 0x18) ++ [0x20, 0x21, 0x22] ++ (List.range 16).map (· + 0x30)

/-- Probation ends (R332): a voice goes to ACTIVE. -/
def Dev.endProbation (d : Dev) (src : Nat) : Dev :=
  let d := d.wr (STRIKE_PROBATION src) 0
  if src < 16 ∧ d.rd (VOICE_STATUS_STATE src) = 4 then d.wr (VOICE_STATUS_STATE src) 2 else d

/-- A source's strike record at the end of a period of its strike timer without HOLD or STANDBY (R330, R332): STRIKE_DECAY and
PROBATION_END. `whole` says that the period counts for a voice's probation. -/
def Dev.decayStrike (d : Dev) (src : Nat) (whole : Bool) : Dev :=
  if d.isRetired src || Store.read d.faults.charged src != 0 then d
  else
    let n := d.rd (STRIKE_DECAY_COUNT src) + 1
    let d := if d.rd (STRIKE_STRIKES src) = 0 then d
      else if d.rd STRIKE_CFG_DECAY ≤ n then (d.wr (STRIKE_STRIKES src) (d.rd (STRIKE_STRIKES src) - 1)).wr (STRIKE_DECAY_COUNT src) 0
      else d.wr (STRIKE_DECAY_COUNT src) n
    if d.is (STRIKE_PROBATION src) && whole then
      let left := d.rd (STRIKE_PROB_LEFT src) - 1
      let d := d.wr (STRIKE_PROB_LEFT src) left
      if left = 0 then d.endProbation src else d
    else d

/-- The strike records at a boundary of timer `t` (R330). -/
def Dev.decayStrikes (d : Dev) (t : Nat) (tm : Timer) : Dev :=
  d.each strikeSources (fun d src =>
    if d.strikeTimer src ≠ t then d
    else
      let whole := decide (16 ≤ src) || (match tm.prev with | some b => decide ((d.voice src).startAt ≤ b) | none => false)
      let d := if tm.clean && tm.prev.isSome then d.decayStrike src whole else d
      { d with faults := { d.faults with charged := Store.write d.faults.charged src 0, struck := Store.write d.faults.struck src 0 } })

/-- The ageing correction that the period from the boundary `b` on uses (R55, R56). -/
def Dev.takeEps (d : Dev) (t b : Nat) : Dev :=
  let d := if d.is CAL_STATUS_VALID && d.is TB_STATUS_AGE_HELD then d.wr TB_STATUS_AGE_HELD 0 else d
  let tm := { d.timer t with eps := d.epsNow b, held := d.is TB_STATUS_AGE_HELD && (d.rd TB_STATUS_SOURCE == 0 || d.is CHOIR_STATUS_HOLDOVER) }
  let d := d.putTimer t tm
  if t = d.rd PIPE_CFG_TIMER then (d.wr AGE_DAYS_D (if d.epsInForce b then d.time.ageD else d.time.ageOld)).wr AGE_EPS_EPS (d.epsNow b).toNat else d

/-- The voices of timer `t`. -/
def Dev.timerVoices (d : Dev) (t : Nat) : List Nat := (List.range 16).filter (fun v => d.timerOf v == t)

/-- The period in progress of some voices of timer `t` ends at `ext` (R134 to R148): the BOUND markers are placed, silence is judged, and the
contexts wait for closeout. DEDUCED: log entry 25. -/
def Dev.endContexts (d : Dev) (vs : List Nat) (t ext : Nat) : Dev :=
  let tm := d.timer t
  let d := d.each vs (fun d v => d.markBound v ext)
  let d := d.each vs (fun d v => if d.silentAt v ext then d.restVoice v 4 else d)
  let items := match tm.prev with
    | some b => if tm.live then d.boundaryItems vs t b ext tm else []
    | none => []
  d.putItems (d.items ++ items)

/-- What ends at the boundary `ext` of timer `t` (R134 to R148): the period of its voices, and PCOUNT rises. -/
def Dev.endPeriod (d : Dev) (t ext : Nat) : Dev :=
  let tm := d.timer t
  let d := d.endContexts (d.timerVoices t) t ext
  if tm.prev.isSome then d.step1 (TIMER_PCOUNT_COUNT t) else d.wr (TIMER_PCOUNT_COUNT t) 0

/-- What begins there: k may fall, tuning tables are swapped, strikes decay, exciters are given their start instants, and the
records of the new period start afresh, and what lay past the boundary is taken (R15). `gated` says that the boundary is taken at the end of a
closed gate (R59); no candidate table is swapped there. DEDUCED: log entry 32. -/
def Dev.beginPeriod (d : Dev) (t ext : Nat) (gated : Bool) : Dev :=
  let tm := d.timer t
  let vs := d.timerVoices t
  let d := d.each vs (fun d v => d.decimFall v tm ext)
  let d := d.each vs (fun d v => if d.is (TUNE_STATUS_PENDING v) && !gated && decide ((d.tun v).tested < fckOf ext) then d.swapTable v (ext % coarseMod) else d)
  let d := d.decayStrikes t tm
  let d := d.each vs (fun d v => d.boundaryStarts v gated)
  let d := d.each vs (fun d v => d.freshRecord v ext gated)
  let d := d.each (List.range 8) (fun d p =>
    if d.timerOf (d.rd (FIT_PAIR_CFG_VOICE_A p)) = t then d.putFitPair p { d.fitPair p with upset := false } else d)
  let live := decide (d.mode = 1) && d.power.firstOk
  let d := d.putTimer t
    { tm with prev := some ext, next := ext + d.rd (TIMER_LENGTH_US t) * 800, live := live,
              clean := decide (d.mode ≠ 2) && decide (d.mode ≠ 3) && decide (d.mode ≠ 4) }
  (d.takeEps t ext).each vs Dev.takeLater

end Sys2Proof.Machine
end

