-- ==== Sys2Proof/Machine/Capture.lean ====
section
/-! DEFINITION.
Event capture (R167 to R173): segments, the delay line, triggers and their misses, completion.
-/

namespace Sys2Proof.Machine

open Reg

/-- Replace the capture unit. -/
def Dev.putCap (d : Dev) (c : Cap) : Dev := { d with cap := c }

/-- The number of segments. -/
def Dev.capSegs (d : Dev) : Nat := 2 ^ d.rd CAP_CFG_SEGS

/-- LEN: the entries of a segment (R167). -/
def Dev.capLen (d : Dev) : Nat := 65536 / d.capSegs

/-- CAP_FREE: bit s is set while segment s is free. -/
def Dev.capFree (d : Dev) : Nat := ((List.range d.capSegs).map (fun s => if d.cap.used.testBit s then 0 else 2 ^ s)).sum

/-- The next segment to take (R168): the lowest-numbered free one above the last used, wrapping. -/
def Dev.nextSegment (d : Dev) : Option Nat :=
  let n := d.capSegs
  let from' := match d.cap.last with | some s => s + 1 | none => 0
  ((List.range n).map (fun i => (from' + i) % n)).find? (fun s => !d.cap.used.testBit s)

/-- Set CAP_STATUS.STATE. -/
def Dev.capState (d : Dev) (s : Nat) : Dev := d.wr CAP_STATUS_STATE s

/-- The entries collected in the segment in use, those in the delay line included. -/
def Dev.collected (d : Dev) : Nat := d.cap.coll + d.cap.line.length

/-- FILLING becomes ARMED when PRE entries are collected (R168). -/
def Dev.fillOrArm (d : Dev) : Dev := d.capState (if d.rd CAP_PRE_VALUE ≤ d.collected then 2 else 1)

/-- Take a free segment, or stay FULL; the re-arm interval runs on through FULL (R168). -/
def Dev.takeSegment (d : Dev) : Dev :=
  match d.nextSegment with
  | none => (d.putCap { d.cap with line := [], trig := none, coll := 0 }).capState 5
  | some s =>
    let d := (d.putCap { d.cap with used := d.cap.used ||| 2 ^ s, last := some s, wpos := 0, coll := 0, trig := none }).wr CAP_STATUS_SEG s
    if d.cap.rearmed then d.fillOrArm else d.capState 4

/-- The SRAM word of an entry of the capture buffer, in BANK_4 and BANK_5 (R16; DEDUCED, log entry 21). -/
def captureSramWord (i : Nat) : Nat := 4 * 32768 + i

/-- Write one captured entry at the write place of the segment. -/
def Dev.writeCaptured (d : Dev) (w : Nat) : Dev :=
  let len := d.capLen
  let i := d.rd CAP_STATUS_SEG * len + d.cap.wpos % len
  (d.putCap { d.cap with buf := Store.write d.cap.buf i w, wpos := (d.cap.wpos + 1) % len, coll := d.cap.coll + 1 }).sramWritten (captureSramWord i)

/-- The index entry of a capture (R171). -/
def indexWords (t : Trig) (cseq seg missed : Nat) (trunc aborted : Bool) : List Nat :=
  [t.time % 2 ^ 64 + t.start % 65536 * 2 ^ 64 + t.pre % 65536 * 2 ^ 80 + t.post % 65536 * 2 ^ 96 + cseq * 2 ^ 112,
   seg + t.src * 2 ^ 6 + t.mask * 2 ^ 8 + bit t.short * 2 ^ 12 + bit trunc * 2 ^ 13 + bit aborted * 2 ^ 14 + missed * 2 ^ 16]

/-- A capture completes (R171): CSEQ rises, its index entry goes to RING_22, and a CAPTURE notification is raised (R296). -/
def Dev.indexCapture (d : Dev) (trunc aborted : Bool) : Dev :=
  match d.cap.trig with
  | none => d
  | some t =>
    let d := d.step1 CAP_STATUS_CSEQ
    let d := d.offer 22 7 (indexWords t (d.rd CAP_STATUS_CSEQ) (d.rd CAP_STATUS_SEG) (min d.cap.missed 0xFFFF) trunc aborted)
    let d := d.notify 9 (d.rd CAP_STATUS_SEG) (d.rd CAP_STATUS_CSEQ)
    d.putCap { d.cap with trig := none, missed := 0, rearmed := false }

/-- A capture completes and the next segment is taken (R168). -/
def Dev.finishCapture (d : Dev) (trunc : Bool) : Dev := (d.indexCapture trunc false).takeSegment

/-- The post part is complete when it holds LEN − CAP_PRE entries (R169). -/
def Dev.postFull (d : Dev) : Bool :=
  match d.cap.trig with
  | none => false
  | some t => decide (d.capLen - d.rd CAP_PRE_VALUE ≤ t.post)

/-- Entries of the delay line go to the post part, until it is complete. -/
def Dev.feedPost (d : Dev) : List (Nat × Nat) → Dev
  | [] => d
  | (k, w) :: rest =>
    match d.cap.trig with
    | none => (d.putCap { d.cap with line := (k, w) :: rest })
    | some t =>
      let d := (d.putCap { d.cap with trig := some { t with post := t.post + 1 } }).writeCaptured w
      if d.postFull then
        let d := d.finishCapture false
        if d.rd CAP_STATUS_STATE = 5 then d else d.putCap { d.cap with line := rest }
      else d.feedPost rest

/-- The oldest entries leave a delay line that is longer than 16. -/
def Dev.runLine (d : Dev) : Dev :=
  if d.cap.line.length ≤ 16 then d
  else
    match d.cap.line with
    | [] => d
    | (_, w) :: rest => (d.putCap { d.cap with line := rest }).writeCaptured w

/-- The capture unit takes an entry as it is offered to its ring (R167): `take` is its place in the order of taking. -/
def Dev.capture (d : Dev) (voice take word : Nat) : Dev :=
  let st := d.rd CAP_STATUS_STATE
  if !d.is CAP_CFG_EN || !(d.rd CAP_VOICES_VALUE).testBit voice || (d.is CAP_CFG_NO_TUNE && word.testBit 107) || st == 0 || st == 5 then d
  else if st = 3 then d.feedPost [(take, word)]
  else
    let d := (d.putCap { d.cap with line := d.cap.line ++ [(take, word)] }).runLine
    if st = 1 then d.fillOrArm else d

/-- A missed trigger (R170). -/
def Dev.missTrigger (d : Dev) (a cause cond time : Nat) : Dev :=
  let d := d.putCap { d.cap with missed := d.cap.missed + 1 }
  let d := d.inc (ANA_MISS_COUNT a)
  let x := d.ana a
  if x.miss.length < 4 then
    let w := time % 2 ^ 64 + cause * 2 ^ 64 + cond * 2 ^ 66 + d.rd CAP_STATUS_CSEQ * 2 ^ 96
    (d.putAna a { x with miss := x.miss ++ [w] }).wr (ANA_MISS_FILL a) (x.miss.length + 1)
  else if d.is (ANA_MISS_LOST a) then d
  else (d.wr (ANA_MISS_LOST a) 1).fault 0x0521 reportOnly []

/-- Accept a trigger (R169): the entries taken before the triggering one are written as the pre part, the others follow. -/
def Dev.acceptTrigger (d : Dev) (a : Nat) (take : Option Nat) (time : Nat) : Dev :=
  let before := match take with
    | some k => d.cap.line.filter (fun p => decide (p.1 < k))
    | none => d.cap.line
  let later := match take with
    | some k => d.cap.line.filter (fun p => decide (k ≤ p.1))
    | none => []
  let d := d.putCap { d.cap with line := [] }
  let d := d.each before (fun d p => d.writeCaptured p.2)
  let pre := min (d.rd CAP_PRE_VALUE) d.cap.coll
  let len := d.capLen
  let start := d.rd CAP_STATUS_SEG * len + (d.cap.wpos + len - pre % len) % len
  let t : Trig := { take := take, time := time, src := a, mask := 2 ^ a, start := start, pre := pre, post := 0,
                    short := decide (pre < d.rd CAP_PRE_VALUE) }
  ((d.putCap { d.cap with trig := some t }).capState 3).feedPost later

/-- A trigger of instance `a` (R166, R169, R170): accepted in FILLING and ARMED, one more source of the same triggering entry,
or missed. -/
def Dev.trigger (d : Dev) (a cond : Nat) (take : Option Nat) (time : Nat) : Dev :=
  let st := d.rd CAP_STATUS_STATE
  if st = 0 ∨ !(d.rd CAP_CFG_TRIG_MASK).testBit a then d
  else if st = 1 ∨ st = 2 then d.acceptTrigger a take time
  else if st = 3 then
    match d.cap.trig with
    | some t =>
      if take.isSome ∧ t.take = take then
        d.putCap { d.cap with trig := some { t with mask := t.mask ||| 2 ^ a, src := min t.src a } }
      else d.missTrigger a 1 cond time
    | none => d
  else d.missTrigger a (if st = 4 then 2 else 3) cond time

/-- COMMAND_TRIGGER (R166): ANA[a].CMD 0x91. -/
def Dev.commandTrigger (a : Nat) (d : Dev) : Dev := d.trigger a 0 none d.timeNow

/-- CAPTURE_TIMEOUT (R171). -/
def Dev.captureTimeout (d : Dev) : Dev :=
  if d.alive && d.rd CAP_STATUS_STATE == 3 && d.rd CAP_TIMEOUT_VALUE != 0 then d.finishCapture true else d

/-- COMPLETE_CAPTURE (R171): CAP_CMD 0x94 in POST. -/
def Dev.completeCapture (d : Dev) : Dev := if d.rd CAP_STATUS_STATE = 3 then d.finishCapture true else d

/-- REARM_ELAPSED (R168): CAP_REARM µs have passed since the completion. -/
def Dev.rearmElapsed (d : Dev) : Dev :=
  if !d.alive || d.cap.rearmed then d
  else
    let d := d.putCap { d.cap with rearmed := true }
    if d.rd CAP_STATUS_STATE = 4 then d.fillOrArm else d

/-- A release lets a FULL unit go on (R168). -/
def Dev.afterRelease (d : Dev) : Dev := if d.rd CAP_STATUS_STATE = 5 then d.takeSegment else d

/-- Remove a bit of a mask. -/
def clearBit (mask b : Nat) : Nat := if mask.testBit b then mask - 2 ^ b else mask

/-- RELEASE_SEGMENT (R172): CAP_CMD 0x93. A segment in use counts as free from then on too. DEDUCED: log entry 62. -/
def Dev.releaseSegment (s : Nat) (d : Dev) : Dev :=
  if d.capSegs ≤ s then d else (d.putCap { d.cap with used := clearBit d.cap.used s }).afterRelease

/-- RELEASE_ALL (R172): CAP_CMD 0x95. -/
def Dev.releaseAll (d : Dev) : Dev := (d.putCap { d.cap with used := 0 }).afterRelease

/-- The unit goes to DISABLED (R168, R173): a capture in POST is completed with ABORTED, a collected pre part is discarded. The segment taken
is not free before its release. -/
def Dev.disableCapture (d : Dev) : Dev :=
  let st := d.rd CAP_STATUS_STATE
  let d := if st = 3 then d.indexCapture false true else d
  (d.putCap { d.cap with line := [], coll := 0, trig := none }).capState 0

/-- The unit leaves DISABLED (R168): FULL, and at once FILLING when a segment is free. -/
def Dev.enableCapture (d : Dev) : Dev :=
  if d.is CAP_CFG_EN && d.rd CAP_STATUS_STATE == 0 && d.mode == 1 then (d.capState 5).takeSegment else d

/-- Every segment is released at a switching boundary (R173): FLUSHED is set, and the unit collects anew in the segment it takes next. -/
def Dev.flushCapture (d : Dev) : Dev :=
  let st := d.rd CAP_STATUS_STATE
  let d := (d.putCap { d.cap with used := 0, last := none, line := [], coll := 0 }).wr CAP_STATUS_FLUSHED 1
  if st = 0 then d else d.takeSegment

/-- CAPTURE_BUFFER_READ (R172): a read at 0 modulo 16 captures the whole entry. DESIGN CHOICE: log entry 11. -/
def Dev.captureBufferRead (i offset : Nat) (d : Dev) : Dev :=
  if offset % 16 = 0 then d.putCap { d.cap with snap := Store.read d.cap.buf i } else d

/-- The value such a read returns. DESIGN CHOICE: log entry 62. -/
def Dev.captureBufferValue (d : Dev) (i offset : Nat) : Nat :=
  let w := if offset % 16 = 0 then Store.read d.cap.buf i else d.cap.snap
  w / 2 ^ (offset % 16 / 4 * 32) % 2 ^ 32

/-- MISSED_TRIGGER_READ (R170): the window of instance `a`, read under R90; the read at 12 modulo 16 removes the entry.
DESIGN CHOICE: log entry 11. -/
def Dev.missedTriggerRead (a offset : Nat) (d : Dev) : Dev :=
  let x := d.ana a
  if offset % 16 = 0 then d.putAna a { x with missSnap := x.miss.headD 0, missOk := !x.miss.isEmpty }
  else if offset % 16 = 12 ∧ x.missOk then
    (d.putAna a { x with miss := x.miss.tail, missOk := false }).wr (ANA_MISS_FILL a) x.miss.tail.length
  else d

/-- The value such a read returns. -/
def Dev.missedTriggerValue (d : Dev) (a offset : Nat) : Nat :=
  let x := d.ana a
  let w := if offset % 16 = 0 then x.miss.headD 0 else x.missSnap
  w / 2 ^ (offset % 16 / 4 * 32) % 2 ^ 32

/-- CLEAR_MISS_COUNT: ANA[a].CMD 0x97. -/
def Dev.clearMissCount (a : Nat) (d : Dev) : Dev := d.wr (ANA_MISS_COUNT a) 0

end Sys2Proof.Machine
end

