-- ==== Sys2Proof/Machine/Crypto.lean ====
section
/-! DEFINITION.
The check codes and digests the spec names (R11): CRC-16, CRC-32, SHA-256 and ECDSA verification over P-256.
Bytes are naturals below 256. PRESUMED: log entry 58.
-/

namespace Sys2Proof.Machine

/-- One bit of CRC-16 with polynomial 0x1021. -/
def crc16Bit (c : Nat) (b : Bool) : Nat :=
  let top := decide (2 ^ 15 ≤ c % 2 ^ 16)
  let s := (c * 2) % 2 ^ 16
  if top != b then s ^^^ 0x1021 else s

/-- The bits of a byte, most significant first. -/
def byteBits (b : Nat) : List Bool := [7, 6, 5, 4, 3, 2, 1, 0].map (fun i => b.testBit i)

/-- CRC-16 of a list of bits, starting from 0xFFFF. -/
def crc16Bits (l : List Bool) : Nat := l.foldl crc16Bit 0xFFFF

/-- CRC-16 of bytes, most significant bit first. -/
def crc16 (l : List Nat) : Nat := crc16Bits (l.flatMap byteBits)

/-- Eight steps of the reflected CRC-32. -/
def crc32Shift : Nat → Nat → Nat
  | 0, c => c
  | k + 1, c => crc32Shift k (if c % 2 = 1 then (c / 2) ^^^ 0xEDB88320 else c / 2)

/-- CRC-32 of bytes, IEEE 802.3. -/
def crc32 (l : List Nat) : Nat :=
  (l.foldl (fun c b => crc32Shift 8 (c ^^^ (b % 256))) 0xFFFFFFFF) ^^^ 0xFFFFFFFF

/-! ### SHA-256

The constants are computed as FIPS 180-4 defines them, and the message schedule is a window of sixteen words that slides with the rounds. -/

/-- The greatest `x + …` whose power `e` does not pass `n`, its `k` lowest bits decided one by one. -/
def rootBits (e n : Nat) : Nat → Nat → Nat
  | 0, x => x
  | k + 1, x => rootBits e n k (if (x + 2 ^ k) ^ e ≤ n then x + 2 ^ k else x)

/-- The first 32 bits of the fraction of the `e`-th root of a prime below 2^9. -/
def rootFraction (e p : Nat) : Nat := rootBits e (p * 2 ^ (32 * e)) 40 0 % 2 ^ 32

/-- The primes below 312, of which there are 64. -/
def smallPrimes : List Nat := (List.range 312).filter (fun p => decide (2 ≤ p) && (List.range p).all (fun q => decide (q < 2) || p % q != 0))

/-- Where a block stands: the two halves of the working words, newest first, and the window of the schedule, oldest first. -/
structure ShaState where
  high : List (BitVec 32)
  low : List (BitVec 32)
  window : List (BitVec 32)

/-- Three rotations of a word to the right, added modulo 2. -/
def spin (x : BitVec 32) (i j k : Nat) : BitVec 32 := (x.rotateRight i ^^^ x.rotateRight j) ^^^ x.rotateRight k

/-- The same with a shift in the third place. -/
def smear (x : BitVec 32) (i j k : Nat) : BitVec 32 := (x.rotateRight i ^^^ x.rotateRight j) ^^^ (x >>> k)

/-- A word of a list. -/
def wordAt (l : List (BitVec 32)) (i : Nat) : BitVec 32 := l.getD i 0

/-- The word that follows the window. -/
def windowNext (w : List (BitVec 32)) : BitVec 32 :=
  (wordAt w 0 + wordAt w 9) + (smear (wordAt w 1) 7 18 3 + smear (wordAt w 14) 17 19 10)

/-- A round with its constant. Each half takes one new word and drops its oldest. -/
def ShaState.turn (x : ShaState) (k : Nat) : ShaState :=
  let p := wordAt x.high
  let q := wordAt x.low
  let pick := q 2 ^^^ (q 0 &&& (q 1 ^^^ q 2))
  let vote := (p 0 &&& p 1) ||| (p 2 &&& (p 0 ||| p 1))
  let mix := ((wordAt x.window 0 + BitVec.ofNat 32 k) + (pick + spin (q 0) 6 11 25)) + q 3
  { high := (mix + (vote + spin (p 0) 2 13 22)) :: x.high.take 3, low := (p 3 + mix) :: x.low.take 3,
    window := x.window.drop 1 ++ [windowNext x.window] }

/-- The words of a block of 64 bytes, most significant byte first. -/
def blockWords : Nat → List Nat → List (BitVec 32)
  | 0, _ => []
  | n + 1, l => BitVec.ofNat 32 (ofBytesBE (l.take 4)) :: blockWords n (l.drop 4)

/-- One block: the eight words of the hash value become the next eight. -/
def shaBlock (hash : List (BitVec 32)) (block : List Nat) : List (BitVec 32) :=
  let x := (smallPrimes.map (rootFraction 3)).foldl ShaState.turn { high := hash.take 4, low := hash.drop 4, window := blockWords 16 block }
  List.zipWith (fun old new => old + new) hash (x.high ++ x.low)

/-- All blocks of a padded message. -/
def shaBlocks : Nat → List (BitVec 32) → List Nat → List (BitVec 32)
  | 0, hash, _ => hash
  | n + 1, hash, l => shaBlocks n (shaBlock hash (l.take 64)) (l.drop 64)

/-- A message with its padding: a bit 1, zeros, and the length in bits as the last eight bytes of a block. -/
def shaPadded (l : List Nat) : List Nat :=
  (l ++ 0x80 :: copies ((119 - l.length % 64) % 64) 0) ++ (bytesLE 8 (8 * l.length)).reverse

/-- The SHA-256 digest as a 256-bit number, byte 0 most significant. -/
def sha256 (l : List Nat) : Nat :=
  let start := (smallPrimes.take 8).map (fun p => BitVec.ofNat 32 (rootFraction 2 p))
  let padded := shaPadded l
  (shaBlocks (padded.length / 64) start padded).foldl (fun s w => s * 2 ^ 32 + w.toNat) 0

/-- The first 32 bits of a digest, as R9 forms a check code. -/
def digestCode (d : Nat) : Nat := d / 2 ^ 224

/-- The prime of P-256. -/
def p256P : Nat := 0xffffffff00000001000000000000000000000000ffffffffffffffffffffffff

/-- The order of the base point. -/
def p256N : Nat := 0xffffffff00000000ffffffffffffffffbce6faada7179e84f3b9cac2fc632551

/-- The coefficient b. -/
def p256B : Nat := 0x5ac635d8aa3a93e7b3ebbd55769886bc651d06b0cc53b0f63bce3c3e27d2604b

/-- The base point. -/
def p256G : Nat × Nat :=
  (0x6b17d1f2e12c4247f8bce6e563a440f277037d812deb33a0f4a13945d898c296,
   0x4fe342e2fe1a7f9b8ee7eb4a7c0f9e162bce33576b315ececbb6406837bf51f5)

/-- `b ^ e mod m` for `e < 2 ^ k`. -/
def powMod (m b e : Nat) : Nat → Nat
  | 0 => 1 % m
  | k + 1 =>
    let r := powMod m b e k
    (if e.testBit (255 - k) then b * (r * r % m) else r * r) % m

/-- The inverse modulo a prime of 256 bits. -/
def invMod (m x : Nat) : Nat := powMod m (x % m) (m - 2) 256

/-- A point of P-256; none is the point at infinity. -/
abbrev Point := Option (Nat × Nat)

/-- Point addition. -/
def pointAdd : Point → Point → Point
  | none, q => q
  | p, none => p
  | some (x1, y1), some (x2, y2) =>
    if x1 = x2 then
      if (y1 + y2) % p256P = 0 then none
      else
        let l := (3 * x1 * x1 + p256P - 3) * invMod p256P (2 * y1) % p256P
        let x3 := (l * l + 2 * p256P - 2 * x1) % p256P
        some (x3, (l * (x1 + p256P - x3) + p256P - y1) % p256P)
    else
      let l := (y2 + p256P - y1) * invMod p256P (x2 + p256P - x1) % p256P
      let x3 := (l * l + 2 * p256P - x1 - x2) % p256P
      some (x3, (l * (x1 + p256P - x3) + p256P - y1) % p256P)

/-- Scalar multiplication by the `k` lowest bits of `e`. -/
def pointMul (p : Point) (e : Nat) : Nat → Point
  | 0 => none
  | k + 1 =>
    let r := pointMul p e k
    let d := pointAdd r r
    if e.testBit (255 - k) then pointAdd d p else d

/-- The point lies on the curve. -/
def onP256 (q : Nat × Nat) : Bool :=
  decide (q.1 < p256P) && decide (q.2 < p256P) &&
    (q.2 * q.2 % p256P == (q.1 * q.1 % p256P * q.1 + (p256P - 3) * q.1 + p256B) % p256P)

/-- ECDSA verification of a digest over P-256 (FIPS 186-5). -/
def ecdsaVerify (qx qy r s digest : Nat) : Bool :=
  onP256 (qx, qy) && decide (0 < r) && decide (r < p256N) && decide (0 < s) && decide (s < p256N) &&
    (let w := invMod p256N s
     match pointAdd (pointMul (some p256G) (digest * w % p256N) 256) (pointMul (some (qx, qy)) (r * w % p256N) 256) with
     | none => false
     | some (x, _) => x % p256N == r)

end Sys2Proof.Machine
end

