-- ==== Sys2Proof/Machine/Nvm.lean ====
section
/-! DEFINITION.
The NVM's contents (R265 to R267): reading, programming and erasing, the log region's sectors (R310, R311) and journal records
(R312). A byte is kept as its difference from the erased value 0xFF, so an erased NVM is the empty table.
-/

namespace Sys2Proof.Machine

open Reg

/-- `n` consecutive values of a table from a key on, given the part of the table that begins there. -/
def readRun : Nat → Nat → Store → List Nat
  | 0, _, _ => []
  | n + 1, q, [] => 0 :: readRun n (q + 1) []
  | n + 1, q, (k, v) :: r => if k = q then v :: readRun n (q + 1) r else 0 :: readRun n (q + 1) ((k, v) :: r)

/-- `n` bytes of NVM contents from an address on. DESIGN CHOICE: log entry 8. -/
def nvmRead (m : Store) (a n : Nat) : List Nat := (readRun n a (m.dropWhile (fun p => decide (p.1 < a)))).map (fun b => b ^^^ 255)

/-- The unsigned integer of `n` bytes at an address (R3). -/
def nvmInt (m : Store) (a n : Nat) : Nat := ofBytesLE (nvmRead m a n)

/-- Program bytes from an address on: a bit only goes from 1 to 0. -/
def nvmProgram (m : Store) (a : Nat) (l : List Nat) : Store :=
  l.zipIdx.foldl (fun s p => Store.write s (a + p.2) (Store.read s (a + p.2) ||| (p.1 % 256 ^^^ 255))) m

/-- Program bytes with a failure: any of the bits to be programmed may still be 1, as the bits of `f` say. -/
def nvmSpoil (m : Store) (a : Nat) (l : List Nat) (f : Nat) : Store :=
  nvmProgram m a (l.zipIdx.map (fun p => p.1 ||| f / 256 ^ p.2 % 256))

/-- Erase the 4 KiB sector at an address. -/
def nvmErase (m : Store) (a : Nat) : Store := Store.clearRange m a (a + 4096)

/-- Bytes of the NVM. -/
def Dev.nvmBytes (d : Dev) (a n : Nat) : List Nat := nvmRead d.nvm a n

/-- Program the NVM. -/
def Dev.program (d : Dev) (a : Nat) (l : List Nat) : Dev := { d with nvm := nvmProgram d.nvm a l }

/-- Program the NVM with a failure; what it holds then is open. DESIGN CHOICE: log entry 52. -/
def Dev.spoil (d : Dev) (a : Nat) (l : List Nat) : Dev := { d with nvm := nvmSpoil d.nvm a l d.openValue }.nextFree

/-- Erase a sector. -/
def Dev.eraseSector (d : Dev) (a : Nat) : Dev := { d with nvm := nvmErase d.nvm a }

/-- Erase the sector at an address with a failure: any bit may still be programmed, as the bits of `f` say. -/
def nvmHalfErase (m : Store) (a f : Nat) : Store :=
  (m.filter (fun p => decide (a ≤ p.1) && decide (p.1 < a + 4096))).foldl
    (fun s p => Store.write s p.1 (p.2 &&& (f / 256 ^ (p.1 - a) % 256))) m

/-- An erase that did not complete; what the sector holds then is open. DESIGN CHOICE: log entry 52. -/
def Dev.halfErase (d : Dev) (a : Nat) : Dev := { d with nvm := nvmHalfErase d.nvm a d.openValue }.nextFree

/-- A slot erase that did not complete (R300): its first sectors are erased in ascending order, an open number of them. -/
def Dev.halfSlotErase (d : Dev) (a : Nat) : Dev :=
  let n := d.openValue % 48
  let d := d.nextFree
  (d.each (List.range n) (fun d i => d.eraseSector (a + i * 4096))).halfErase (a + n * 4096)

/-- What a pass-through operation that did not complete leaves in the NVM (R299 to R301). DESIGN CHOICE: log entry 52. -/
def Dev.spoilPt (d : Dev) : Dev :=
  if d.host.ptCode = 0x32 then
    d.spoil d.host.ptAddr ((List.range d.host.ptLen).map (fun i => d.rd (NVM_PT_BUF_DATA (i / 4)) / 256 ^ (i % 4) % 256))
  else if d.host.ptCode = 0x33 then d.halfErase d.host.ptAddr
  else if d.host.ptCode = 0x34 then d.halfSlotErase d.host.ptAddr
  else d

/-- A pass-through operation under way is cut off. DESIGN CHOICE: log entry 52. -/
def Dev.abandonPt (d : Dev) : Dev := if d.is NVM_PT_STATUS_STATE then d.spoilPt else d

/-- The states of a sector (R311). -/
inductive SecState where
  | bad | obsolete | complete | copying | full | active | erased
deriving DecidableEq, Repr

/-- A sector of the log region that is not blank: its number from LOG_BASE, area, state, SEQ and SRC_SEQ, and its contents. -/
structure Sector where
  num : Nat
  area : Nat
  state : SecState
  seq : Nat
  src : Nat
  cells : Store
deriving DecidableEq, Repr

/-- The MAGIC of a sector header (R310). -/
def sectorMagic : Nat := 0x0D16104A

/-- The HCRC of a sector header (R310). -/
def headerCrc (h : List Nat) : Nat := crc32 (h.take 5 ++ (h.drop 8).take 20)

/-- Decode a sector's header (R311). A header that is not erased and whose STATE byte no row names counts as torn. -/
def sectorState (h : List Nat) : SecState :=
  let st := h.getD 5 255
  let blank := h.all (fun b => b == 255)
  let sound := ofBytesLE (h.take 4) == sectorMagic && ofBytesLE ((h.drop 28).take 4) == headerCrc h
  if st = 0 then .bad
  else if !st.testBit 3 || (!blank && !sound) then .obsolete
  else if !st.testBit 4 then .complete
  else if !st.testBit 5 then .copying
  else if !st.testBit 6 then .full
  else if !st.testBit 7 then .active
  else if blank then .erased
  else .obsolete

/-- Read a sector. -/
def sectorOf (base num : Nat) (cells : Store) : Sector :=
  let h := nvmRead cells (base + num * 4096) 32
  { num := num, area := h.getD 4 0, state := sectorState h, seq := ofBytesLE ((h.drop 8).take 4), src := ofBytesLE ((h.drop 12).take 4),
    cells := cells }

/-- Cut a table at multiples of 4 KiB from a base on. -/
def splitSectors (base : Nat) : Store → List (Nat × Store)
  | [] => []
  | (k, v) :: r =>
    let n := (k - base) / 4096
    match splitSectors base r with
    | (m, s) :: t => if m = n then (n, (k, v) :: s) :: t else (n, [(k, v)]) :: (m, s) :: t
    | [] => [(n, [(k, v)])]

/-- A header with a sector's first STATE (R310). -/
def sectorHeader (area state seq src : Nat) : List Nat :=
  let front := bytesLE 4 sectorMagic ++ [area, state, 255, 255] ++ bytesLE 4 seq ++ bytesLE 4 src ++ copies 12 255
  front ++ bytesLE 4 (headerCrc front)

/-- How many sectors the log uses: those within the first 16 MiB of the region (R310). -/
def Dev.logSectors (d : Dev) : Nat := min d.logs.size (2 ^ 24) / 4096

/-- The sectors of the log region that are not blank. -/
def Dev.sectors (d : Dev) : List Sector :=
  let top := d.logs.base + d.logSectors * 4096
  (splitSectors d.logs.base (d.nvm.filter (fun p => decide (d.logs.base ≤ p.1) && decide (p.1 < top)))).map
    (fun p => sectorOf d.logs.base p.1 p.2)

/-- The number of audit sectors A (R310). -/
def Dev.auditSectors (d : Dev) : Nat := (d.rd AUDIT_CAP + 126) / 127

/-- The first journal sector (R310). -/
def Dev.journalFirst (d : Dev) : Nat := d.auditSectors + 8

/-- The journal sectors that are not blank. -/
def Dev.journal (d : Dev) : List Sector := d.sectors.filter (fun s => decide (d.journalFirst ≤ s.num))

/-- The address of a sector. -/
def Dev.sectorAddr (d : Dev) (n : Nat) : Nat := d.logs.base + n * 4096

/-- The number of ERASED journal sectors. -/
def Dev.freeSectors (d : Dev) : Nat :=
  (d.logSectors - d.journalFirst) - (d.journal.filter (fun s => s.state != .erased)).length

/-- The next ERASED journal sector after sector `n`, going round. -/
def Dev.nextErased (d : Dev) (n : Nat) : Option Nat :=
  let first := d.journalFirst
  let count := d.logSectors - first
  let used := (d.journal.filter (fun s => s.state != .erased)).map Sector.num
  ((List.range count).map (fun i => first + (n + 1 + i - first) % count)).find? (fun s => !used.contains s)

/-- One more than the highest SEQ of an area (R310). -/
def nextSeq (l : List Sector) : Nat := (l.filter (fun s => s.state != .erased && s.state != .bad)).foldl (fun m s => max m s.seq) 0 + 1

/-- A journal record as it lies in the NVM (R312): its address, its sector's SEQ, and its bytes. -/
structure Rec where
  addr : Nat
  secSeq : Nat
  bytes : List Nat
deriving DecidableEq, Repr

/-- KIND. -/
def Rec.kind (r : Rec) : Nat := r.bytes.getD 2 0

/-- ORIGIN. -/
def Rec.origin (r : Rec) : Nat := r.bytes.getD 3 0

/-- RSEQ. -/
def Rec.rseq (r : Rec) : Nat := ofBytesLE ((r.bytes.drop 4).take 4)

/-- The payload, with its padding. -/
def Rec.payload (r : Rec) : List Nat := (r.bytes.drop 16).take (r.bytes.length - 20)

/-- Is a record whole: its length possible and its CRC right (R312)? -/
def recordGood (b : List Nat) : Bool :=
  decide (20 ≤ b.length) && decide (b.length ≤ 284) && decide (b.length % 4 = 0) && ofBytesLE (b.take 2) == b.length &&
    ofBytesLE (b.drop (b.length - 4)) == crc32 (b.take (b.length - 4))

/-- The records of a sector from an offset on, where they end, and whether a record there fails. -/
def scanRecords (m : Store) (addr seq : Nat) : Nat → Nat → List Rec × Nat × Bool
  | 0, off => ([], off, false)
  | fuel + 1, off =>
    let len := nvmInt m (addr + off) 2
    if 4094 < off ∨ len = 0xFFFF then ([], off, false)
    else
      let b := nvmRead m (addr + off) len
      if off + len ≤ 4096 ∧ recordGood b then
        let r := scanRecords m addr seq fuel (off + len)
        ({ addr := addr + off, secSeq := seq, bytes := b } :: r.1, r.2)
      else ([], off, true)

/-- The records of a sector. -/
def Dev.sectorRecords (d : Dev) (s : Sector) : List Rec × Nat × Bool := scanRecords s.cells (d.sectorAddr s.num) s.seq 204 32

/-- Does a sector hold records of the journal? -/
def Sector.holds (s : Sector) : Bool := s.state == .active || s.state == .full || s.state == .complete

/-- The records held, each RSEQ once: of two copies that in the sector with the higher SEQ counts (R316). -/
def Dev.records (d : Dev) : List Rec :=
  let l := (d.journal.filter Sector.holds).flatMap (fun s => (d.sectorRecords s).1)
  l.filter (fun r => l.all (fun q => q.rseq != r.rseq || decide (q.secSeq ≤ r.secSeq)))

/-- The latest record of a kind. -/
def latestOf (kind : Nat) (l : List Rec) : Option Rec :=
  (l.filter (fun r => r.kind == kind)).foldl (fun b r => match b with
    | some x => if x.rseq < r.rseq then some r else some x
    | none => some r) none

/-- The PID of a PROFILE record. -/
def Rec.pid (r : Rec) : Nat := ofBytesLE (r.payload.take 2)

/-- The PART of a PROFILE record. -/
def Rec.part (r : Rec) : Nat := r.payload.getD 2 0

/-- The highest PID whose 32 parts are all held (R315). -/
def completePid (l : List Rec) : Option Nat :=
  let p := l.filter (fun r => r.kind == 6)
  let whole := p.filter (fun r => (List.range 32).all (fun k => p.any (fun q => q.pid == r.pid && q.part == k)))
  whole.foldl (fun b r => match b with | some x => some (max x r.pid) | none => some r.pid) none

/-- The retained records (R315). -/
def retained (l : List Rec) : List Rec :=
  let a := latestOf 1 l
  let w := latestOf 5 l
  let p := completePid l
  l.filter (fun r => some r == a || some r == w || (r.kind == 6 && some r.pid == p))

end Sys2Proof.Machine
end

