-- ==== Sys2Proof/Machine/Image.lean ====
section
/-! DEFINITION.
The configuration image (R267 to R272): a slot's header and marks, its directory, the canonical form of its sections, the hashes
and the signature. An image becomes a table of the class I fields.
-/

namespace Sys2Proof.Machine

open Reg

/-- The first byte of slot 0 or 1 in the NVM (R266). -/
def slotBase (slot : Nat) : Nat := if slot = 0 then 0x10000 else 0x40000

/-- The size of a slot. -/
def slotSize : Nat := 196608

/-- `n` bytes at an offset of a list. -/
def cut (b : List Nat) (off n : Nat) : List Nat := (b.drop off).take n

/-- An unsigned integer of `n` bytes at an offset (R3). -/
def intAt (b : List Nat) (off n : Nat) : Nat := ofBytesLE (cut b off n)

/-- Does a slot header pass (R267)? -/
def headerPasses (h : List Nat) : Bool :=
  intAt h 0 4 == 0x0D16C0F1 && intAt h 4 2 == 1 && decide (intAt h 8 4 ≤ slotSize) && intAt h 0x7C 4 == crc32 (h.take 0x7C)

/-- Is the mark at an offset programmed? -/
def marked (h : List Nat) (off : Nat) : Bool := intAt h off 4 != 0xFFFFFFFF

/-- The state that a slot's first 256 bytes give it: 0 EMPTY, 1 WRITTEN, 2 ACTIVE, 3 SUPERSEDED, 4 INVALID (R267). -/
def slotState (h : List Nat) : Nat :=
  if intAt h 0 4 = 0xFFFFFFFF then 0
  else if !headerPasses h then 4
  else if marked h 0x80 && !marked h 0x84 && !marked h 0x88 then 1
  else if marked h 0x80 && marked h 0x84 && !marked h 0x88 then 2
  else if marked h 0x80 && marked h 0x84 && marked h 0x88 then 3
  else 4

/-- Is a field one that the image sets? -/
def Fld.inImage (f : Fld) : Bool := f.acc == .im || f.acc == .iml

/-- The section that owns an IM field (R268); the cell blocks belong to PIPELINE through their virtual addresses. -/
def Fld.section (f : Fld) : Nat :=
  let a := f.key / 32
  if a < 0x1000 then 10
  else if a < 0x2000 then 2
  else if a < 0x4000 ∨ a = 0xC110 then 3
  else if a < 0x4800 then 4
  else if a < 0x5000 then 5
  else if a < 0x6000 then 6
  else if a < 0x7000 ∨ 0x100000 ≤ a then 10
  else if a < 0x8000 then 7
  else if a < 0x9000 then (if f.acc = .iml then 7 else 8)
  else if a < 0xA000 then 9
  else if a < 0xB000 then 1
  else 11

/-- The fields of a row of the map. -/
def RegRow.all (r : RegRow) : List Fld :=
  (List.range r.count).flatMap (fun n => (List.range r.count2).flatMap (fun m => r.fields n m))

/-- Every field the image sets. -/
def imageFields : List Fld := (regRows.flatMap RegRow.all).filter Fld.inImage

/-- The word of a field. -/
def Fld.word (f : Fld) : Nat := f.key / 32

/-- The words of a field with the mask of its bits in each. -/
def Fld.wordMasks (f : Fld) : List (Nat × Nat) :=
  let a := f.key / 32
  if f.key % 32 + f.width ≤ 32 then [(a, (2 ^ f.width - 1) * 2 ^ (f.key % 32))]
  else (List.range (f.width / 32)).map (fun i => (a + 4 * i, 2 ^ 32 - 1))

/-- Is a field one of a cell block? -/
def Fld.inCell (f : Fld) : Bool := decide (0x7800 ≤ f.key / 32) && decide (f.key / 32 < 0x8000)

/-- The virtual address of a word of the cell blocks for device `a` (R268). -/
def cellAddr (a w : Nat) : Nat := 0x800000 + a * 0x800 + (w - 0x7800)

/-- The words that a section's body holds, with their masks: for PIPELINE the cell blocks of the declared devices (R269). -/
def sectionMasks (id mask : Nat) : Store :=
  let own := imageFields.filter (fun f => f.section == id)
  let put := fun (s : Store) (w : Nat × Nat) => Store.write s w.1 (Store.read s w.1 ||| w.2)
  let plain := (own.filter (fun f => !f.inCell)).flatMap Fld.wordMasks
  let cells := (own.filter Fld.inCell).flatMap Fld.wordMasks
  let devs := (List.range 16).filter (fun a => mask.testBit a)
  let virt := devs.flatMap (fun a => cells.map (fun w => (cellAddr a w.1, w.2)))
  (plain ++ virt).foldl put []

/-- The entries of a section body (R269). -/
def entriesOf : Nat → List Nat → List (Nat × Nat)
  | 0, _ => []
  | n + 1, b => if b = [] then [] else (intAt b 0 4, intAt b 4 4) :: entriesOf n (b.drop 8)

/-- The first place where the entries are not the words asked for, or set a bit outside their fields. DEDUCED: log entry 41. -/
def misplaced : Store → List (Nat × Nat) → Option Nat
  | [], [] => none
  | (w, _) :: _, [] => some w
  | [], (a, _) :: _ => some a
  | (w, m) :: ws, (a, v) :: es => if a ≠ w then some a else if v &&& m ≠ v then some a else misplaced ws es

/-- The fields that hold a binary64. -/
def Fld.isDouble (f : Fld) : Bool :=
  let a := f.key / 32
  f.width == 64 && (decide (0x5000 ≤ a ∧ a < 0x6000) || decide (0x7000 ≤ a ∧ a < 0x8000) || a == 0x8018 || a == 0x8038)

/-- Words joined, least significant first. -/
def joinWords : List Nat → Nat
  | [] => 0
  | w :: r => w + 2 ^ 32 * joinWords r

/-- A field's value in a table of words; a cell's through its virtual address for device `a`. -/
def Fld.inWords (ws : Store) (a : Nat) (f : Fld) : Nat :=
  let w := if f.inCell then cellAddr a (f.key / 32) else f.key / 32
  if f.key % 32 + f.width ≤ 32 then Store.read ws w / 2 ^ (f.key % 32) % 2 ^ f.width
  else joinWords ((List.range (f.width / 32)).map (fun i => Store.read ws (w + 4 * i)))

/-- Is a binary64 −0 or NaN? -/
def badDouble (v : Nat) : Bool := v == 2 ^ 63 || f64IsNaN (BitVec.ofNat 64 v)

/-- The first binary64 field of a section that is −0 or NaN: its address (R269). -/
def badDoubleAt (ws : Store) (id mask : Nat) : Option Nat :=
  let fs := imageFields.filter (fun f => f.section == id && f.isDouble)
  let devs := (List.range 16).filter (fun a => mask.testBit a)
  let plain := (fs.filter (fun f => !f.inCell)).filter (fun f => badDouble (f.inWords ws 0))
  match plain with
  | f :: _ => some (f.key / 32)
  | [] =>
    (devs.flatMap (fun a => (fs.filter Fld.inCell).filterMap
      (fun f => if badDouble (f.inWords ws a) then some (cellAddr a (f.key / 32)) else none))).head?

/-- Check 4 for a section other than IDENT: the address that breaks the canonical form. -/
def notCanonical (id mask : Nat) (body : List Nat) : Option Nat :=
  let es := entriesOf body.length body
  if body.length % 8 ≠ 0 then some ((es.getLast?.map Prod.fst).getD 0xFFFFFFFF)
  else
    match misplaced (sectionMasks id mask) es with
    | some a => some a
    | none => badDoubleAt (es.foldl (fun s e => Store.write s e.1 e.2) []) id mask

/-- Does NAME hold printable characters up to its first 0, and only 0 from there (R269)? -/
def nameGood : List Nat → Bool
  | [] => true
  | c :: r => if c = 0 then r.all (fun x => x == 0) else decide (0x20 ≤ c) && decide (c ≤ 0x7E) && nameGood r

/-- Check 4 for IDENT (R269, R273): the address of the field that breaks it, or 0xFFFFFFFF for a byte that is part of no field. -/
def identBad (b : List Nat) : Option Nat :=
  if b.length ≠ 64 ∨ intAt b 0 2 ≠ 0x0D16 ∨ intAt b 2 2 ≠ 1 then some 0xFFFFFFFF
  else if intAt b 4 1 = 0 then some TRANS_REST.word
  else if intAt b 5 3 ≠ 0 then some 0xFFFFFFFF
  else if !nameGood (cut b 20 32) then some NAME.word
  else if intAt b 52 12 ≠ 0 then some 0xFFFFFFFF
  else none

/-- A directory entry: ID with its zero bytes, OFFSET, LENGTH and CRC. -/
structure DirEntry where
  id : Nat
  off : Nat
  len : Nat
  crc : Nat
deriving DecidableEq, Repr

/-- The directory of a slot (R267). DEDUCED: log entry 41. -/
def directory (b : List Nat) : List DirEntry :=
  (List.range 11).map (fun i =>
    let o := 0x100 + 16 * i
    { id := intAt b o 4, off := intAt b (o + 4) 4, len := intAt b (o + 8) 4, crc := intAt b (o + 12) 4 })

/-- Sections in order, aligned, without overlap, within the image. -/
def extentsGood (top : Nat) : Nat → Nat → List DirEntry → Bool
  | _, _, [] => true
  | id, low, e :: r =>
    e.id == id && e.off % 16 == 0 && decide (low ≤ e.off) && decide (e.off + e.len ≤ top) && extentsGood top (id + 1) (e.off + e.len) r

/-- Check 2 (R273). -/
def directoryGood (b : List Nat) : Bool :=
  extentsGood (intAt b 8 4) 1 0x300 (directory b) && (cut b 0x1B0 0x50).all (fun x => x == 0)

/-- The body of section `id`. -/
def bodyOf (b : List Nat) (id : Nat) : List Nat :=
  match (directory b)[id - 1]? with
  | some e => cut b e.off e.len
  | none => []

/-- Check 3: the first section whose CRC differs, by its offset. -/
def badCrc (b : List Nat) : Option Nat := ((directory b).find? (fun e => crc32 (cut b e.off e.len) != e.crc)).map DirEntry.off

/-- The legal check code (R9, R270). -/
def legalCode (b : List Nat) : Nat :=
  digestCode (sha256 ([2, 6, 7].flatMap (fun id => bytesLE 4 id ++ bytesLE 4 (bodyOf b id).length ++ bodyOf b id)))

/-- The bytes of an entry. -/
def entryBytes (e : Nat × Nat) : List Nat := bytesLE 4 e.1 ++ bytesLE 4 e.2

/-- CHOIR_HASH (R257, R270): the CHOIR body with the own address 0. -/
def choirHashOf (b : List Nat) : Nat :=
  let es := entriesOf slotSize (bodyOf b 9)
  digestCode (sha256 (es.flatMap (fun e => entryBytes (if e.1 = 0x9000 then (e.1, e.2 - e.2 % 16) else e))))

/-- COMMON_HASH (R257, R270): the common block, then LENGTH and PHASE of the pipeline's timer. -/
def commonHashOf (b : List Nat) : Nat :=
  let common := (entriesOf slotSize (bodyOf b 7)).filter (fun e => decide (e.1 < 0x7800))
  let t := (common.headD (0, 0)).2 % 4
  let fit := (entriesOf slotSize (bodyOf b 6)).filter (fun e => e.1 == 0x5020 + t * 0x10 || e.1 == 0x5024 + t * 0x10)
  digestCode (sha256 ((common ++ fit).flatMap entryBytes))

/-- A digest with its first byte lowest, as KEY_HASH holds it. -/
def digestLE (x : Nat) : Nat := ofBytesLE (bytesLE 32 x).reverse

/-- The signature message (R272). -/
def signedBytes (b : List Nat) : List Nat := b.take 0x80 ++ cut b 0x100 0x100 ++ (b.take (intAt b 8 4)).drop 0x300

/-- Check 6 (R272) when KEY_SET is 1. -/
def signatureGood (keyHash : Nat) (b : List Nat) : Bool :=
  let pub := cut b 0x200 64
  let be := fun (off : Nat) => ofBytesBE (cut b off 32)
  (intAt b 6 2).testBit 0 && digestLE (sha256 pub) == keyHash &&
    ecdsaVerify (be 0x200) (be 0x220) (be 0x240) (be 0x260) (sha256 (signedBytes b))

/-- Every word of the image's bodies but IDENT; a word in two sections holds the fields of both. -/
def imageWords (b : List Nat) : Store :=
  ((List.range 10).flatMap (fun i => entriesOf slotSize (bodyOf b (i + 2)))).foldl
    (fun s e => Store.write s e.1 (Store.read s e.1 ||| e.2)) []

/-- The IDENT fields of a table (R269). -/
def identInto (b : List Nat) (t : Store) : Store :=
  let t := fieldWrite t TRANS_REST (intAt b 4 1)
  let t := fieldWrite t IMAGE_ID (intAt b 8 4)
  let date := intAt b 12 4
  let t := fieldWrite (fieldWrite (fieldWrite t BUILD_DATE_DAY date) BUILD_DATE_MONTH (date / 2 ^ 8)) BUILD_DATE_YEAR (date / 2 ^ 16)
  fieldWrite (fieldWrite t TOOL_VERSION (intAt b 16 4)) NAME (intAt b 20 32)

/-- The class I fields that an image gives a device of address `a` (R268). -/
def imageTable (b : List Nat) (ws : Store) : Store :=
  let a := CHOIR_CFG_ADDR.inWords ws 0
  let fs := imageFields.filter (fun f => f.section != 1)
  identInto (bodyOf b 1) (fs.foldl (fun t f => fieldWrite t f (f.inWords ws a)) [])

end Sys2Proof.Machine
end

