-- ==== Sys2Proof/Machine/LinkTx.lean ====
section
/-! DEFINITION.
Sending on the Guvel link (R237 to R245): the header, the replay buffer, the frames waiting for it, and the messages a device
originates.
-/

namespace Sys2Proof.Machine

open Reg

/-- Port `p` beside its registers. -/
def Dev.port (d : Dev) (p : Nat) : PortSt := Tab.read PortSt.fresh d.choir.ports p

/-- Replace port `p`; REPLAY_FILL shows how many frames it holds. -/
def Dev.putPort (d : Dev) (p : Nat) (x : PortSt) : Dev :=
  { d with choir := { d.choir with ports := Tab.write d.choir.ports p x } }.wr (LINK_STATE_REPLAY_FILL p) x.held.length

/-- Replace the choir's state. -/
def Dev.putChoir (d : Dev) (c : ChoirSt) : Dev := { d with choir := c }

/-- Is port `p` UP, on both lanes or on one (R236)? -/
def Dev.portUp (d : Dev) (p : Nat) : Bool := d.rd (LINK_STATE_STATE p) == 2 || d.rd (LINK_STATE_STATE p) == 3

/-- LEASE in µs: the greater of 16 periods of the pipeline timer and 50 ms (R254). -/
def Dev.leaseUs (d : Dev) : Nat := max (16 * d.rd (TIMER_LENGTH_US (d.rd PIPE_CFG_TIMER))) 50000

/-- This device's choir address. -/
def Dev.addr (d : Dev) : Nat := d.rd CHOIR_CFG_ADDR

/-- Has the device a choir to speak to? Nothing is sent in STANDBY, in the safe state or by a choir of one (R232). -/
def Dev.speaks (d : Dev) : Bool := decide (1 < d.deviceCount) && d.mode != 5 && d.mode != 3

/-- A frame starts on a port: it takes the next LSEQ and is held for replay (R238, R239). -/
def Dev.startTx (d : Dev) (p hops : Nat) (body : List Nat) : Dev :=
  let x := d.port p
  let d := d.putPort p { x with held := x.held ++ [{ lseq := x.txSeq, hops := hops, body := body, sends := 1 }], txSeq := (x.txSeq + 1) % 256 }
  d.inc (LINK_FRAMES_TX_FRAMES_TX p)

/-- Frames that wait start while fewer than 32 are held (R239). -/
def Dev.flushPort (p : Nat) : List (Nat × List Nat) → Dev → Dev
  | [], d => d
  | f :: rest, d =>
    if (d.port p).held.length < 32 ∧ d.portUp p then
      Dev.flushPort p rest ((d.putPort p { d.port p with queue := rest }).startTx p f.1 f.2)
    else d

/-- Put a frame behind those that wait on a port. -/
def Dev.queueTx (d : Dev) (p hops : Nat) (body : List Nat) : Dev :=
  let x := d.port p
  let q := x.queue ++ [(hops, body)]
  Dev.flushPort p q (d.putPort p { x with queue := q })

/-- The header of a frame (R237). -/
def frameHeader (type src dst mseq cepoch len : Nat) (bcast fresh : Bool) : List Nat :=
  [type % 16 + bit bcast * 16 + bit fresh * 32, src % 16 + dst % 16 * 16] ++ bytesLE 2 mseq ++ bytesLE 2 cepoch ++ [len, 0]

/-- A frame's bytes from its header to its CRC (R237). -/
def frameBody (header payload : List Nat) : List Nat := header ++ payload ++ bytesLE 4 (crc32 (header ++ payload))

/-- The bytes in 16-byte words, the last filled with 0. -/
def wordsOf : Nat → List Nat → List Nat
  | 0, _ => []
  | n + 1, l => if l = [] then [] else ofBytesLE (l.take 16) :: wordsOf n (l.drop 16)

/-- The entry of RING_20 or RING_21 (R245). -/
def messageWords (time port : Nat) (m : Msg) : List Nat :=
  let body := wordsOf 4 m.payload
  let head := time + m.type * 2 ^ 64 + m.src * 2 ^ 68 + m.dst * 2 ^ 72 + bit m.bcast * 2 ^ 76 + port * 2 ^ 77 + m.payload.length * 2 ^ 79 +
    (body.length + 1) * 2 ^ 87 + m.mseq * 2 ^ 91 + m.cepoch * 2 ^ 107
  head :: body

/-- Is the device within its first lease after its start (R241)? -/
def Dev.isFresh (d : Dev) : Bool := decide (d.time.fck - d.choir.startFck < d.leaseUs * 250)

/-- The next message of this device (R241): its MSEQ is taken. -/
def Dev.newMessage (d : Dev) (type dst : Nat) (bcast : Bool) (payload : List Nat) : Dev × Msg :=
  let m : Msg := { type := type, bcast := bcast, fresh := d.isFresh, src := d.addr, dst := dst, mseq := d.choir.mseq,
                   cepoch := d.rd CHOIR_STATUS_CEPOCH, payload := payload, port := 2 }
  (d.putChoir { d.choir with mseq := (d.choir.mseq + 1) % 65536 }, m)

/-- The bytes a message goes out as. -/
def Msg.body (m : Msg) : List Nat :=
  frameBody (frameHeader m.type m.src m.dst m.mseq m.cepoch m.payload.length m.bcast m.fresh) m.payload

/-- Originate a message (R241, R245): out of every port that is UP, with HOPS one less than the number of devices. -/
def Dev.send (d : Dev) (type dst : Nat) (bcast : Bool) (payload : List Nat) : Dev :=
  if !d.speaks then d
  else
    let r := d.newMessage type dst bcast payload
    let d := r.1.offer 20 5 (messageWords d.timeNow 2 r.2)
    d.each [0, 1] (fun d p => if d.portUp p then d.queueTx p (d.deviceCount - 1) r.2.body else d)

/-- The payload of a CMD message (R244). -/
def cmdPayload (kind arg opseq pseq hash : Nat) : List Nat :=
  [kind, arg % 256, opseq % 256, 0] ++ bytesLE 4 pseq ++ bytesLE 4 hash ++ [0, 0, 0, 0]

/-- Send a CMD message to one device. -/
def Dev.sendCmd (d : Dev) (dst kind arg opseq pseq hash : Nat) : Dev := d.send 6 dst false (cmdPayload kind arg opseq pseq hash)

/-- Send a CMD message to all. -/
def Dev.sendCmdAll (d : Dev) (kind arg pseq hash : Nat) : Dev := d.send 6 0 true (cmdPayload kind arg 0 pseq hash)

/-- The choir states by name (R250). -/
def Dev.choirState (d : Dev) : Nat := d.rd CHOIR_STATUS_STATE

/-- Does this device decide the choir sum: the cantor, or a choir of one? -/
def Dev.isCantor (d : Dev) : Bool := d.choirState == 4 || decide (d.deviceCount ≤ 1)

/-- The port retrains as a whole (R236): every lane that is not retired falls back to DETECT; the replay buffer is kept. Producers 5 and
6 are restarted (R335). -/
def Dev.retrain (d : Dev) (p : Nat) : Dev :=
  let d := d.each [0, 1] (fun d l => if d.rd (laneState p l) = 5 then d else d.wr (laneState p l) 0)
  let x := d.port p
  let d := d.putPort p { x with sig0 := false, sig1 := false, count0 := 0, count1 := 0, attempt := false, pause := false, unacked := false,
                                setSent := none }
  (((d.showPort p).inc (LINK_RETRY_RETRAINS p)).raiseEpoch 5).raiseEpoch 6

end Sys2Proof.Machine
end

