-- ==== Sys2Proof/Machine/Calendar.lean ====
section
/-! DEFINITION.
The calendar (R305 to R309).
-/

namespace Sys2Proof.Machine

open Reg

/-- The bits of a calendar value that hold its date and time (R305); the others read 0. -/
def calMask : Nat := 0x0FFF0F1F001F3F3F

/-- The year, month, day, hour, minute and second of a calendar value. -/
def calYear (c : Nat) : Nat := bitsOf c 59 48
def calMonth (c : Nat) : Nat := bitsOf c 43 40
def calDay (c : Nat) : Nat := bitsOf c 36 32
def calHour (c : Nat) : Nat := bitsOf c 20 16
def calMin (c : Nat) : Nat := bitsOf c 13 8
def calSec (c : Nat) : Nat := bitsOf c 5 0

/-- Is a calendar value a possible date and time (R305)? -/
def calPossible (c : Nat) : Bool :=
  datePossible (calYear c) (calMonth c) (calDay c) && decide (calHour c < 24) && decide (calMin c < 60) && decide (calSec c < 60)

/-- A calendar value from its fields. -/
def calMake (y mo da h mi s : Nat) : Nat := s + mi * 2 ^ 8 + h * 2 ^ 16 + da * 2 ^ 32 + mo * 2 ^ 40 + y * 2 ^ 48

/-- The last second of the range (R306). -/
def calLast : Nat := calMake 2999 12 31 23 59 59

/-- The next day of a date (R305). -/
def nextDay (y m da : Nat) : Nat × Nat × Nat :=
  if da < monthDays y m then (y, m, da + 1) else if m < 12 then (y, m + 1, 1) else (y + 1, 1, 1)

/-- One second later, carrying by the ranges of R305; the value holds at the end of range. -/
def calNext (c : Nat) : Nat :=
  let y := calYear c
  let m := calMonth c
  let da := calDay c
  if c = calLast then c
  else if calSec c < 59 then calMake y m da (calHour c) (calMin c) (calSec c + 1)
  else if calMin c < 59 then calMake y m da (calHour c) (calMin c + 1) 0
  else if calHour c < 23 then calMake y m da (calHour c + 1) 0 0
  else
    let n := nextDay y m da
    calMake n.1 n.2.1 n.2.2 0 0 0

/-- The seconds from 2000-01-01 00:00:00 to a possible value. -/
def calSeconds (c : Nat) : Nat :=
  dayNumber (calYear c) (calMonth c) (calDay c) * 86400 + calHour c * 3600 + calMin c * 60 + calSec c

/-- The years, months and days that a number of days makes. -/
def splitYears : Nat → Nat → Nat → Nat × Nat
  | 0, y, n => (y, n)
  | k + 1, y, n => if n < (if isLeap y then 366 else 365) then (y, n) else splitYears k (y + 1) (n - (if isLeap y then 366 else 365))

/-- And the month and day of the year. -/
def splitMonths (y : Nat) : Nat → Nat → Nat → Nat × Nat
  | 0, m, n => (m, n)
  | k + 1, m, n => if n < monthDays y m then (m, n) else splitMonths y k (m + 1) (n - monthDays y m)

/-- The calendar value a number of seconds after 2000-01-01 00:00:00, not beyond the end of range. -/
def calOfSeconds (s : Nat) : Nat :=
  let s := min s (calSeconds calLast)
  let y := splitYears 1000 2000 (s / 86400)
  let m := splitMonths y.1 11 1 y.2
  calMake y.1 m.1 (m.2 + 1) (s % 86400 / 3600) (s % 3600 / 60) (s % 60)

/-- The calendar's present value without its flags. -/
def Dev.cal (d : Dev) : Nat := d.rd CAL_NOW_CAL % 2 ^ 60

/-- Is ε of the crystal in use: has boot step 13 computed it (R55)? -/
def Dev.epsKnown (d : Dev) : Bool := d.booted 13 && d.is CFG_STATUS_CONFIGURED

/-- What a change of the calendar brings (R55, R56, R313): ε is computed anew when the date changes or the calendar becomes
valid, and a change of date with a valid calendar queues an AGEING record. -/
def Dev.calendarChanged (d : Dev) (old : Nat) (becameValid : Bool) : Dev :=
  let moved := d.cal / 2 ^ 32 != old % 2 ^ 60 / 2 ^ 32
  if !d.alive then d
  else
    let d := if d.epsKnown && (moved || becameValid) then d.computeEps else d
    if moved && d.is CAL_STATUS_VALID then d.logAge else d

/-- CAL_SECOND captures TIME_NOW in the FCK in which a second begins (R306). -/
def Dev.captureSecond (d : Dev) : Dev := if d.alive then d.wr CAL_SECOND_TIME d.timeNow else d

/-- Set the calendar's value. -/
def Dev.putCal (d : Dev) (c : Nat) : Dev := d.wr CAL_NOW_CAL (c % 2 ^ 60)

/-- CALENDAR_SECOND (R306): every 32,768th KCK, in every power state in which the backup domain is supplied. At the end of
range the value holds, END is set and fault 0x0A04 is recorded once. -/
def Dev.calendarSecond (d : Dev) : Dev :=
  if !d.power.backup then d
  else
    let old := d.cal
    let d : Dev := { d with calst := { d.calst with stopped := false } }
    if old = calLast then
      if d.is CAL_STATUS_END then d
      else
        let d := d.wr CAL_STATUS_END 1
        if d.alive then d.fault 0x0A04 reportOnly [] else d
    else ((d.putCal (calNext old)).captureSecond).calendarChanged old false

/-- Is the device a member in ALIGN, LOCKING or JOINED, which follows the cantor's calendar (R307, R309)? -/
def Dev.followsCantor (d : Dev) : Bool :=
  let st := d.rd CHOIR_STATUS_STATE
  st == 1 || st == 2 || st == 3

/-- The difference of two counts of seconds. -/
def secondsApart (a b : Nat) : Nat := (a - b) + (b - a)

/-- Why a calendar write by host software is rejected (R307), 0 when it is accepted. -/
def Dev.calReject (d : Dev) (c : Nat) : Nat :=
  if !calPossible c then 1
  else if d.is LOG_CFG_CAL_LOCK && d.is CAL_STATUS_VALID && decide (60 < secondsApart (calSeconds c) (calSeconds d.cal)) &&
    !d.is PIN_LEVEL_SEAL_OPEN then 2
  else if d.followsCantor then 3
  else 0

/-- A rejected write leaves the calendar unchanged (R307). -/
def Dev.rejectCal (d : Dev) (c reason : Nat) : Dev :=
  let d := (d.wr CAL_STATUS_REJECT 1).wr CAL_STATUS_REJ_REASON reason
  (d.log 3 (bytesLE 8 c ++ [reason])).fault 0x0A03 reportOnly []

/-- The value in CAL_SET that takes part in the check (R307). -/
def Dev.calSet (d : Dev) : Nat := d.rd CAL_SET_CAL &&& calMask

/-- SET_CALENDAR (R307): CAL_CMD 0xC8. While an accepted write waits a further one changes nothing. -/
def Dev.setCalendar (d : Dev) : Dev :=
  if d.calst.waiting.isSome then d
  else
    let c := d.calSet
    let r := d.calReject c
    if r = 0 then { d with calst := { d.calst with waiting := some (c, 0) } } else d.rejectCal c r

/-- A calendar write takes effect: the second divider restarts (R307, R309). -/
def Dev.writeCal (d : Dev) (c source : Nat) : Dev :=
  let old := d.calendar
  let wasValid := d.is CAL_STATUS_VALID
  let d := ((d.putCal c).wr CAL_STATUS_VALID 1).wr CAL_STATUS_END 0
  let d := d.captureSecond
  let told := source == 0 || !wasValid || old % 2 ^ 60 != c
  let d := if told then d.log 2 (bytesLE 8 old ++ bytesLE 8 d.calendar ++ [source]) else d
  d.calendarChanged old (!wasValid)

/-- CAL_WRITE_APPLY (R307): the second KCK after an accepted write, or after KCK resumes. A device that has become a member
rejects the write of its host (chapter 14, coincidences). -/
def Dev.calWriteApply (d : Dev) : Dev :=
  match d.calst.waiting with
  | none => d
  | some (c, source) =>
    if !d.alive then d
    else
      let d : Dev := { d with calst := { d.calst with waiting := none, stopped := false } }
      if source = 0 ∧ d.followsCantor then d.rejectCal c 3 else d.writeCal c source

/-- The stop of KCK becomes known (R308). -/
def Dev.showKckStop (d : Dev) : Dev :=
  let d := (d.wr CAL_STATUS_VALID 0).wr CAL_STATUS_KCK_STOP 1
  let d := d.fault 0x0A02 reportOnly []
  if d.epsKnown then d.computeEps else d

/-- KCK_STOP (R308): KCK stands still. With power-good low it is found at the next boot. -/
def Dev.kckStop (d : Dev) : Dev :=
  let d : Dev := { d with calst := { d.calst with stopped := true } }
  if d.alive then d.showKckStop else if d.power.good then d.wr CAL_STATUS_VALID 0 else d

/-- The backup domain loses its supply (R7, R308): every class B field returns to its reset value, and the calendar starts again
invalid when the domain is supplied. -/
def Dev.loseBackup (d : Dev) : Dev :=
  { d with regs := { d.regs with b := [] }, power := { d.power with backup := false },
           calst := { waiting := none, stopped := false, lost := true } }

/-- BACKUP_DOMAIN_LOSS (R7): VBAT is lost while the main supplies are absent. PRESUMED: log entry 47. -/
def Dev.backupDomainLoss (d : Dev) : Dev := if d.power.good then d else d.loseBackup

/-- A member writes the cantor's calendar into its own (R309): `c` is C′ and `apart` says that CAL_SECOND differs from the
cantor's second start by more than 1 ms. -/
def Dev.followCal (d : Dev) (c : Nat) (apart : Bool) : Dev :=
  let d := d.wr CAL_STATUS_SOURCE 1
  if d.cal ≠ c ∨ !d.is CAL_STATUS_VALID ∨ apart then { d with calst := { d.calst with waiting := some (c, 1) } } else d

end Sys2Proof.Machine
end

