-- ==== Sys2Proof/Machine/Log.lean ====
section
/-! DEFINITION.
The log (R310 to R322): holds, journal records, collection, the two-phase totaliser journal, audit records, the mount at boot step
11, and reading by host software.
-/

namespace Sys2Proof.Machine

open Reg

/-- Can the NVM be reached: NCK runs only while FCK runs on FPLL, and not in STANDBY (R337, R343), and is no pass-through operation under way (R301)? -/
def Dev.nvmReady (d : Dev) : Bool := d.alive && !d.is TB_STATUS_FCK_SRC && d.mode != 3 && !d.is NVM_PT_STATUS_STATE

/-- Replace the log's state. -/
def Dev.putLogs (d : Dev) (l : LogSt) : Dev := { d with logs := l }

/-- Set the totaliser queue; LOG_STATUS.TOT_QUEUE shows its length. -/
def Dev.putTot (d : Dev) (q : List TotEntry) : Dev := (d.putLogs { d.logs with tot := q }).wr LOG_STATUS_TOT_QUEUE q.length

/-- A log operation has failed (R320): the hold begins with fault 0x0906, and the operation is retried. -/
def Dev.beginHold (d : Dev) (op : Nat) : Dev :=
  let d := d.putLogs { d.logs with retry := op }
  if d.is LOG_STATUS_NVM_HOLD then d
  else ({ d with logLost := 0 }.wr LOG_STATUS_NVM_HOLD 1).fault 0x0906 transient [srcDevice]

/-- The failed operation has succeeded: the hold ends, and lost records are reported (R320). -/
def Dev.endHold (d : Dev) : Dev :=
  if d.is LOG_STATUS_NVM_HOLD then
    let n := d.logLost
    let d := ({ d with logLost := 0 }.wr LOG_STATUS_NVM_HOLD 0).putLogs { d.logs with retry := 0 }
    if n = 0 then d else ((d.log 13 (bytesLE 4 n)).wr LOG_EVENT_LOST 1).fault 0x0A13 reportOnly []
  else d

/-- What host software sees of the map follows the NVM: NEWEST, OLDEST, FREE and JOURNAL. -/
def Dev.refreshMap (d : Dev) : Dev :=
  let r := d.records.map Rec.rseq
  let low := match r with | [] => 0 | x :: q => q.foldl min x
  let used := (d.journal.filter (fun s => s.state != .erased && s.state != .bad)).length
  (((d.wr LOG_NEWEST_NEWEST (r.foldl max 0)).wr LOG_OLDEST_OLDEST low).wr LOG_SECTORS_FREE d.freeSectors).wr LOG_SECTORS_JOURNAL used

/-- Program the STATE byte of a sector. -/
def Dev.setSector (d : Dev) (n st : Nat) : Dev := d.program (d.sectorAddr n + 5) [st]

/-- A sector is given up (R321). -/
def Dev.markBad (d : Dev) (n : Nat) : Dev :=
  ((d.setSector n 0).wr LOG_EVENT_SECTOR_BAD 1).fault 0x0A11 transient [srcDevice]

/-- Write a header into an ERASED sector; a sector that is not blank is erased first (R311). -/
def Dev.openSector (d : Dev) (n area st seq src : Nat) : Dev :=
  (d.eraseSector (d.sectorAddr n)).program (d.sectorAddr n) (sectorHeader area st seq src)

/-- The bytes of a journal record (R312). -/
def recordBytes (kind origin rseq cal : Nat) (payload : List Nat) : List Nat :=
  let pad := (4 - payload.length % 4) % 4
  let body := payload ++ copies pad 0
  let front := bytesLE 2 (20 + body.length) ++ [kind, origin] ++ bytesLE 4 rseq ++ bytesLE 8 cal ++ body
  front ++ bytesLE 4 (crc32 front)

/-- The RSEQ the next record gets (R312). DEDUCED: log entry 46. -/
def Dev.nextRseq (d : Dev) : Nat := d.rd LOG_NEWEST_NEWEST + 1

/-- Does the ACTIVE sector take a record of this length? -/
def Dev.fits (d : Dev) (len : Nat) : Bool := d.logs.active.isSome && decide (d.logs.pos + len ≤ 4096)

/-- The next journal sector is opened (R312); `bad` says that it cannot be erased or its header not be written (R321). -/
def Dev.openJournal (d : Dev) (bad : Bool) : Dev :=
  let d := match d.logs.active with
    | some n => (d.setSector n 0x3F).putLogs { d.logs with active := none }
    | none => d
  let last := (d.journal.filter Sector.holds).foldl (fun b s => match b with
    | some x => if Sector.seq x < s.seq then some s else some x
    | none => some s) (none : Option Sector)
  match d.nextErased ((last.map Sector.num).getD (d.logSectors - 1)) with
  | none => d
  | some n =>
    if bad then d.markBad n
    else
      let d := d.openSector n 3 0x7F (nextSeq d.journal) 0xFFFFFFFF
      d.putLogs { d.logs with active := some n, pos := 32, collDue := d.logs.collDue || decide (d.freeSectors < 2) }

/-- Have RSEQ or SEQ run out (R312)? -/
def Dev.journalFull (d : Dev) : Bool := decide (0xFFFFFFF0 < d.nextRseq) || decide (0xFFFFFFF0 < nextSeq d.journal)

/-- A record has been written: ageing corrections of an invalid calendar use its day number (R56). -/
def Dev.notedRecord (d : Dev) (r : LogRec) : Dev :=
  if r.kind = 1 then { d with time := { d.time with lastAgeDate := some (ofBytesLE (r.payload.take 4), ofBytesLE ((r.payload.drop 4).take 4)) } }
  else d

/-- Write the first record of the queue (R312): 0 it is written, 1 its program fails, 2 the sector to be opened is bad. The bytes
written are answered too. -/
def Dev.writeRecord (d : Dev) (outcome : Nat) : Dev × List Nat :=
  match d.logQueue with
  | [] => (d, [])
  | r :: rest =>
    if d.journalFull then
      (if d.logs.exhausted then d else (d.putLogs { d.logs with exhausted := true }).fault 0x0A17 reportOnly [], [])
    else
      let b := recordBytes r.kind r.origin d.nextRseq r.cal r.payload
      let d := if d.fits b.length then d else d.openJournal (outcome == 2)
      match d.logs.active with
      | none => (d, [])
      | some n =>
        if !d.fits b.length then (d, [])
        else
          let a := d.sectorAddr n + d.logs.pos
          let d := d.putLogs { d.logs with pos := d.logs.pos + b.length }
          if outcome = 1 then ((d.spoil a b).beginHold 1, [])
          else
            let d := ((d.program a b).putLog rest).notedRecord r
            let d := if d.rd LOG_OLDEST_OLDEST = 0 then d.wr LOG_OLDEST_OLDEST (d.nextRseq) else d
            let d := (d.wr LOG_NEWEST_NEWEST d.nextRseq).wr LOG_SECTORS_FREE d.freeSectors
            let used := (d.journal.filter (fun s => s.state != .erased && s.state != .bad)).length
            ((d.wr LOG_SECTORS_JOURNAL used).endHold, b)

/-- May a log operation start: the log is mounted, no hold, no collection under way? -/
def Dev.logReady (d : Dev) : Bool := d.nvmReady && d.is LOG_STATUS_MOUNTED && !d.is LOG_STATUS_NVM_HOLD

/-- The source of a collection (R315): the FULL or COMPLETE journal sector with the lowest SEQ. -/
def Dev.collectSource (d : Dev) : Option Sector :=
  (d.journal.filter (fun s => s.state == .full || s.state == .complete)).foldl (fun b s => match b with
    | some x => if s.seq < Sector.seq x then some s else some x
    | none => some s) none

/-- The retained records of a sector, in RSEQ order (R315). -/
def Dev.retainedIn (d : Dev) (n : Nat) : List Rec :=
  (retained d.records).filter (fun r => decide (d.sectorAddr n ≤ r.addr) && decide (r.addr < d.sectorAddr n + 4096))

/-- The next step of R315: 1 and 2 the destination, 3 COMPLETE, 4 OBSOLETE, 5 the erase, 6 the map. -/
def Dev.collectStep (d : Dev) (c : Collect) (outcome : Nat) : Dev :=
  let go := fun (d : Dev) (step : Nat) => d.putLogs { d.logs with coll := some { c with step := step } }
  if outcome = 1 then
    let d := match c.step, c.dst with
      | 2, some n => d.spoil (d.sectorAddr n + 32) ((d.retainedIn c.src).flatMap Rec.bytes)
      | _, _ => d
    d.beginHold 4
  else if c.step = 1 then
    match d.nextErased c.src with
    | none => d
    | some n =>
      if outcome = 2 then d.markBad n
      else
        let d := d.openSector n 3 0xDF (nextSeq d.journal) (((d.journal.find? (fun s => s.num == c.src)).map Sector.seq).getD 0)
        (d.putLogs { d.logs with coll := some { c with dst := some n, step := 2 } }).endHold
  else if c.step = 2 then
    match c.dst with
    | none => go d 4
    | some n => (go (d.program (d.sectorAddr n + 32) ((d.retainedIn c.src).flatMap Rec.bytes)) 3).endHold
  else if c.step = 3 then
    match c.dst with
    | none => go d 4
    | some n => (go (d.setSector n 0xCF) 4).endHold
  else if c.step = 4 then (go (d.setSector c.src 0xF7) 5).endHold
  else if c.step = 5 then (go (if outcome = 2 then d.markBad c.src else d.eraseSector (d.sectorAddr c.src)) 6).endHold
  else
    let d := d.refreshMap
    (d.putLogs { d.logs with coll := none, collDue := decide (d.freeSectors < 2) && d.collectSource.isSome }).endHold

/-- COLLECTION (R315): the next step of the collection that is due. -/
def Dev.collectNext (d : Dev) (outcome : Nat) : Dev :=
  match d.logs.coll with
  | some c => d.collectStep c outcome
  | none =>
    if !d.logs.collDue || d.logs.phase1 then d
    else
      match d.collectSource with
      | none => d.putLogs { d.logs with collDue := false }
      | some s =>
        let step := if d.retainedIn s.num = [] then 4 else 1
        d.collectStep { src := s.num, dst := none, step := step } outcome

/-- COLLECTION as a command. -/
def Dev.collection (outcome : Nat) (d : Dev) : Dev := if d.logReady then d.collectNext outcome else d

/-- The first totaliser sector (R310). -/
def Dev.totFirst (d : Dev) : Nat := d.auditSectors

/-- The totaliser's sectors that are not blank. -/
def Dev.totSectors (d : Dev) : List Sector :=
  d.sectors.filter (fun s => decide (d.totFirst ≤ s.num) && decide (s.num < d.journalFirst))

/-- The address of slot `i` of the totaliser ring: 63 entries of 64 bytes after the header of a sector (DEDUCED, log entry 20). -/
def Dev.totSlot (d : Dev) (i : Nat) : Nat := d.sectorAddr (d.totFirst + i / 63 % 8) + 32 + i % 63 * 64

/-- The bytes of a totaliser entry (R318), not committed. -/
def TotEntry.toBytes (e : TotEntry) (tseq cal : Nat) : List Nat :=
  let front := bytesLE 4 tseq
  let body := bytesLE 8 e.total ++ bytesLE 8 e.res ++ bytesLE 8 e.prov ++ bytesLE 4 e.provCount ++ bytesLE 4 e.printCount ++
    bytesLE 4 e.rev ++ bytesLE 4 e.delta ++ bytesLE 8 cal ++ copies 4 255
  front ++ [e.cause, 255, 255, 255] ++ body ++ bytesLE 4 (crc32 (front ++ body))

/-- Put a totaliser entry into the queue (R319, R320). The 33rd keeps the reserve place, and the device enters the safe state. -/
def Dev.queueTot (d : Dev) (e : TotEntry) : Dev :=
  let n := d.logs.tot.length
  if 33 ≤ n then d
  else
    let d := d.putTot (d.logs.tot ++ [e])
    if n = 32 then (d.fault 0x0A15 permanent [srcDevice]).enterSafe 3 0x0A15 else d

/-- The latest values queued, or those in force: what a further entry builds on (R223). -/
def Dev.totLatest (d : Dev) : TotEntry :=
  (d.logs.tot.getLast?).getD
    { cause := 0, total := d.rd TOTAL, res := d.rd RES_RAW, prov := d.rd PROV, provCount := d.rd PROV_COUNT,
      printCount := d.rd PRINT_COUNT, rev := d.rd REV, delta := 0 }

/-- Phase 1 of the first entry (R319): 0 done, 1 the program fails, 2 the sector to be opened is bad. -/
def Dev.totPhase1 (d : Dev) (outcome : Nat) : Dev :=
  match d.logs.tot with
  | [] => d
  | e :: _ =>
    if d.logs.phase1 then d
    else
      let i := d.logs.totNext
      let sec := d.totFirst + i / 63 % 8
      let opens := decide (i % 63 = 0)
      if opens && outcome == 2 then (d.markBad sec).putLogs { d.logs with totNext := (i + 63) % 504 }
      else
        let d := if opens then (d.eraseSector (d.sectorAddr (d.totFirst + (i / 63 + 1) % 8))).openSector sec 2 0x7F (nextSeq d.totSectors) 0xFFFFFFFF
          else d
        let b := e.toBytes (d.logs.tseq + 1) d.calendar
        let a := d.totSlot i
        if outcome = 1 then (d.spoil a b).beginHold 2
        else
          let d := d.program a b
          (d.putLogs { d.logs with phase1 := true, totAddr := a, totNext := (i + 1) % 504, tseq := d.logs.tseq + 1 }).endHold

/-- A pulse begins on TOT_PULSE (R200). -/
def Dev.totStart (d : Dev) : Dev :=
  if d.mode = 1 ∧ d.rd TOT_CFG_SRC ≠ 0 ∧ 0 < d.rd TOT_BACKLOG ∧ d.pins.totPulse = 0 ∧ !d.pins.totRest then
    { d with pins := { d.pins with totPulse := 1 } }
  else d

/-- TOT_BACKLOG rises by the multiples of TOT_UNIT that TOTAL passes (R200). DEDUCED: log entry 46. -/
def Dev.addPulses (d : Dev) (old new : Nat) : Dev :=
  let u := d.rd TOT_UNIT
  if u = 0 ∨ d.rd TOT_CFG_SRC = 0 then d
  else
    let rise := (new + 2 ^ 64 - old) % 2 ^ 64
    let n := (old + rise) / u - old / u
    let room := 0xFFFF - d.rd TOT_BACKLOG
    let d := d.wr TOT_BACKLOG (d.rd TOT_BACKLOG + min n room)
    let d := if room < n then (d.wr PIPE_EVENT_PULSE_LOST 1).fault 0x0606 reportOnly [] else d
    d.totStart

/-- The values of an entry take effect (R319). -/
def Dev.takeTot (d : Dev) (e : TotEntry) : Dev :=
  let old := d.rd TOTAL
  let d := (((((d.wr TOTAL e.total).wr RES_RAW e.res).wr PROV e.prov).wr PROV_COUNT e.provCount).wr PRINT_COUNT e.printCount).wr REV e.rev
  if e.cause = 6 then d else d.addPulses old e.total

/-- Phase 2 (R319): COMMIT is programmed, and the new values take effect. -/
def Dev.totPhase2 (d : Dev) (outcome : Nat) : Dev :=
  match d.logs.tot with
  | [] => d
  | e :: rest =>
    if !d.logs.phase1 then d
    else if outcome ≠ 0 then (d.spoil (d.logs.totAddr + 5) [0]).beginHold 3
    else
      let d := (d.program (d.logs.totAddr + 5) [0]).putTot rest
      ((d.putLogs { d.logs with phase1 := false }).takeTot e).endHold

/-- TOTALISER_PHASE1 (R319). -/
def Dev.totaliserPhase1 (outcome : Nat) (d : Dev) : Dev := if d.logReady then d.totPhase1 outcome else d

/-- TOTALISER_PHASE2 (R319). -/
def Dev.totaliserPhase2 (outcome : Nat) (d : Dev) : Dev := if d.logReady then d.totPhase2 outcome else d

/-- The written slots of the audit area: index and bytes (R317). -/
def Dev.auditSlots (d : Dev) : List (Nat × List Nat) :=
  (d.sectors.filter (fun s => decide (s.num < d.auditSectors))).flatMap (fun s =>
    ((List.range 127).map (fun i => (s.num * 127 + i, nvmRead s.cells (d.sectorAddr s.num + 32 + i * 32) 32))).filter
      (fun p => !p.2.all (fun b => b == 255)))

/-- The address of audit slot `i` (R317). -/
def Dev.auditAddr (d : Dev) (i : Nat) : Nat := d.sectorAddr (i / 127) + 32 + i % 127 * 32

/-- The CRC of an audit record (R317). -/
def auditCrc (b : List Nat) : Nat := crc32 (b.take 1 ++ (b.drop 2).take 26)

/-- Is an audit record's CRC right? -/
def auditGood (b : List Nat) : Bool := ofBytesLE (b.drop 28) == auditCrc b

/-- Is an audit record confirmed, or pending? A record with both STATE bits 0 is voided (R317). -/
def auditConfirmed (b : List Nat) : Bool := auditGood b && !(b.getD 1 0).testBit 0 && (b.getD 1 0).testBit 1
def auditPending (b : List Nat) : Bool := auditGood b && (b.getD 1 0).testBit 0 && (b.getD 1 0).testBit 1

/-- NEW of an audit record. -/
def auditNew (b : List Nat) : Nat := ofBytesLE ((b.drop 12).take 4)

/-- NEW of the last confirmed record (R274, R275). -/
def Dev.lastConfirmed (d : Dev) : Option Nat := ((d.auditSlots.filter (fun p => auditConfirmed p.2)).getLast?).map (fun p => auditNew p.2)

/-- AUDIT_USED and AUDIT_COUNT follow the audit area (R277, R317). -/
def Dev.countAudit (d : Dev) : Dev :=
  let l := d.auditSlots
  let used := match l.getLast? with | some p => p.1 + 1 | none => 0
  (d.wr AUDIT_USED used).wr AUDIT_COUNT (l.filter (fun p => auditConfirmed p.2)).length

/-- Is the audit area full? DEDUCED: log entry 46. -/
def Dev.auditFull (d : Dev) : Bool := decide (d.rd AUDIT_CAP ≤ d.rd AUDIT_USED)

/-- Write an audit record into the next slot (R317), its sector opened with the first record in it; `bad` says that the program fails.
DEDUCED: log entry 46. -/
def Dev.writeAudit (d : Dev) (kind state old new gen : Nat) (bad : Bool) : Dev :=
  let i := d.rd AUDIT_USED
  let front := [0, 0] ++ bytesLE 4 i ++ bytesLE 4 old ++ bytesLE 4 new ++ bytesLE 8 d.calendar ++ bytesLE 4 gen
  let b := [kind, state] ++ front ++ bytesLE 4 (crc32 ([kind] ++ front))
  let mine := d.sectors.filter (fun s => decide (s.num < d.auditSectors))
  let d := if i % 127 = 0 then d.program (d.sectorAddr (i / 127)) (sectorHeader 1 0x7F (nextSeq mine) 0xFFFFFFFF) else d
  (if bad then d.spoil (d.auditAddr i) b else d.program (d.auditAddr i) b).countAudit

/-- Confirm or void the last audit record: its STATE bit 0, or 1, is programmed. -/
def Dev.settleAudit (d : Dev) (confirm : Bool) : Dev :=
  (d.program (d.auditAddr (d.rd AUDIT_USED - 1) + 1) [if confirm then 0xFE else 0xFD]).countAudit

/-- Fault 0x0905, once per boot (R277). -/
def Dev.reportAuditFull (d : Dev) : Dev :=
  if d.logs.auditRep then d else (d.putLogs { d.logs with auditRep := true }).fault 0x0905 reportOnly []

/-- An interrupted operation has been resolved (R316). -/
def Dev.resolved (d : Dev) : Dev := (d.wr LOG_EVENT_RESOLVED 1).fault 0x0A12 reportOnly []

/-- The sectors of the journal in a state. -/
def Dev.inState (d : Dev) (st : SecState) : List Sector := d.journal.filter (fun s => s.state == st)

/-- Does a record of the sector fail its CRC? -/
def Dev.torn (d : Dev) (s : Sector) : Bool := (d.sectorRecords s).2.2

/-- A torn record in the ACTIVE sector: the sector is FULL after its last good record (R316). -/
def Dev.closeTorn (d : Dev) (s : Sector) : Dev :=
  if d.torn s then ((d.setSector s.num 0x3F).resolved).fault 0x0A10 reportOnly [] else d

/-- A COMPLETE sector is authoritative: the source that its SRC_SEQ names is programmed OBSOLETE and erased (R316). -/
def Dev.dropSource (d : Dev) (s : Sector) : Dev :=
  let src := d.journal.filter (fun (q : Sector) => (q.state == .full || q.state == .complete) && q.seq == s.src && q.num != s.num)
  d.each src (fun (d : Dev) (q : Sector) => ((d.setSector q.num 0xF7).eraseSector (d.sectorAddr q.num)).resolved)

/-- A COPYING or OBSOLETE sector is erased (R316). -/
def Dev.dropSector (d : Dev) (s : Sector) : Dev := (d.eraseSector (d.sectorAddr s.num)).resolved

/-- Of two ACTIVE sectors that with the lower SEQ is programmed FULL (R316). -/
def Dev.closeOlder (d : Dev) (s : Sector) : Dev :=
  if (d.inState .active).any (fun q => decide (s.seq < q.seq)) then (d.setSector s.num 0x3F).resolved else d

/-- The resolutions of R316, in the order of its table; a torn record in the ACTIVE sector comes last. -/
def Dev.resolveSectors (d : Dev) : Dev :=
  let d := d.each (d.inState .copying) Dev.dropSector
  let d := d.each (d.inState .complete) Dev.dropSource
  let d := d.each ((d.journal ++ d.totSectors).filter (fun s => s.state == .obsolete)) Dev.dropSector
  let d := d.each (d.inState .active) Dev.closeOlder
  d.each (d.inState .active) Dev.closeTorn

/-- The ACTIVE sector and the next record's place. -/
def Dev.findActive (d : Dev) : Dev :=
  match (d.inState .active).head? with
  | some s => d.putLogs { d.logs with active := some s.num, pos := (d.sectorRecords s).2.1 }
  | none => d.putLogs { d.logs with active := none, pos := 0 }

/-- The totaliser entries written, with their slots: those whose CRC is right. -/
def Dev.totEntries (d : Dev) : List (Nat × List Nat) :=
  (d.totSectors.filter Sector.holds).flatMap (fun s =>
    ((List.range 63).map (fun i => ((s.num - d.totFirst) * 63 + i, nvmRead s.cells (d.sectorAddr s.num + 32 + i * 64) 64))).filter
      (fun p => ofBytesLE (p.2.drop 60) == crc32 (p.2.take 4 ++ (p.2.drop 8).take 52)))

/-- TSEQ of an entry. -/
def entryTseq (b : List Nat) : Nat := ofBytesLE (b.take 4)

/-- The entry with the highest TSEQ. -/
def newestEntry (l : List (Nat × List Nat)) : Option (Nat × List Nat) :=
  l.foldl (fun b p => match b with
    | some x => if entryTseq x.2 < entryTseq p.2 then some p else some x
    | none => some p) none

/-- The values of an entry. -/
def entryOf (b : List Nat) : TotEntry :=
  let f := fun (o n : Nat) => ofBytesLE ((b.drop o).take n)
  { cause := 6, total := f 8 8, res := f 16 8, prov := f 24 8, provCount := f 32 4, printCount := f 36 4, rev := f 40 4, delta := 0 }

/-- Every value 0. -/
def TotEntry.zero : TotEntry := { cause := 6, total := 0, res := 0, prov := 0, provCount := 0, printCount := 0, rev := 0, delta := 0 }

/-- The next slot of the totaliser ring: after the last written slot of the sector with the highest SEQ. -/
def Dev.nextTotSlot (d : Dev) : Nat :=
  let top := (d.totSectors.filter Sector.holds).foldl (fun b s => match b with
    | some x => if Sector.seq x < s.seq then some s else some x
    | none => some s) (none : Option Sector)
  match top with
  | none => 0
  | some s =>
    let base := d.sectorAddr s.num + 32
    let used := (s.cells.filter (fun p => decide (base ≤ p.1))).foldl (fun m p => max m ((p.1 - base) / 64 + 1)) 0
    ((s.num - d.totFirst) * 63 + used) % 504

/-- The totaliser is restored (R319). -/
def Dev.restoreTotal (d : Dev) : Dev :=
  let l := d.totEntries
  let top := l.foldl (fun m p => max m (entryTseq p.2)) 0
  let d := d.putLogs { d.logs with tseq := top, totNext := d.nextTotSlot, phase1 := false }
  let live := l.filter (fun p => p.2.getD 6 0 == 255)
  match newestEntry live with
  | none => ((d.takeTot TotEntry.zero).queueTot TotEntry.zero).fault 0x0A16 reportOnly []
  | some (i, b) =>
    if b.getD 5 255 = 0 then d.takeTot (entryOf b)
    else
      let d := d.program (d.totSlot i + 6) [0]
      let prints := (entryOf b).printCount
      let d := (d.log 12 (setAt b 6 0)).wr LOG_EVENT_TOT_VOID 1
      let d := match newestEntry (live.filter (fun p => p.2.getD 5 255 == 0 && decide (entryTseq p.2 < entryTseq b))) with
        | some c => d.takeTot { entryOf c.2 with printCount := prints }
        | none =>
          let e := { TotEntry.zero with printCount := prints }
          (d.takeTot e).queueTot e
      d.fault 0x0A14 reportOnly []

/-- Audit records whose CRC fails are voided at boot (R317). -/
def Dev.voidTorn (d : Dev) : Dev :=
  d.each (d.auditSlots.filter (fun p => !auditGood p.2)) (fun d p => d.program (d.auditAddr p.1 + 1) [0xFD])

/-- The date and day number of the latest AGEING record (R56). -/
def Dev.findAgeing (d : Dev) : Dev :=
  { d with time := { d.time with lastAgeDate := (latestOf 1 d.records).map (fun r => (ofBytesLE (r.payload.take 4), ofBytesLE ((r.payload.drop 4).take 4))) } }

/-- The mount of boot step 11 (R316 to R319). -/
def Dev.mount (d : Dev) : Dev :=
  let d := ((d.resolveSectors.findActive).findAgeing).voidTorn
  let d := (d.countAudit).restoreTotal
  let d := d.putLogs { d.logs with collDue := decide (d.freeSectors < 2) }
  (d.refreshMap).wr LOG_STATUS_MOUNTED 1

/-- LOAD_RECORD and LOAD_AUDIT_RECORD (R322): a load begins. -/
def Dev.beginLoad (kind : Nat) (d : Dev) : Dev :=
  if d.is LOG_READ_BUSY then d else (d.putLogs { d.logs with load := kind }).wr LOG_READ_BUSY 1

/-- A load ends with a result and the bytes loaded. DEDUCED: log entry 46. -/
def Dev.endLoad (d : Dev) (result len : Nat) : Dev := ((d.wr LOG_READ_BUSY 0).wr LOG_READ_RESULT result).wr LOG_READ_LEN len

/-- The record with the lowest RSEQ at or above LOG_CUR. -/
def Dev.recordAt (d : Dev) (cur : Nat) : Option Rec :=
  (d.records.filter (fun r => decide (cur ≤ r.rseq))).foldl (fun b r => match b with
    | some x => if r.rseq < Rec.rseq x then some r else some x
    | none => some r) none

/-- LOG_LOAD_DONE (R322): the load completes while NCK runs (R13); `failed` says that the NVM could not be read. -/
def Dev.logLoadDone (failed : Bool) (d : Dev) : Dev :=
  if !d.alive || d.is TB_STATUS_FCK_SRC || d.mode == 3 || !d.is LOG_READ_BUSY then d
  else if d.logs.load = 1 then
    let d := d.putLogs { d.logs with win := [] }
    if failed then d.endLoad 2 0
    else
      match (if d.is LOG_STATUS_MOUNTED then d.recordAt (d.rd LOG_CUR_CUR) else none) with
      | none => d.endLoad 1 0
      | some r =>
        let d := (d.putLogs { d.logs with win := Store.writeList [] 0 r.bytes }).wr LOG_CUR_CUR (r.rseq + 1)
        d.endLoad 0 r.bytes.length
  else
    let d := d.putLogs { d.logs with awin := [] }
    let i := d.rd AUDIT_SEL_INDEX
    if failed then d.endLoad 2 0
    else if !d.is LOG_STATUS_MOUNTED || decide (d.rd AUDIT_USED ≤ i) then d.endLoad 1 0
    else (d.putLogs { d.logs with awin := Store.writeList [] 0 (d.nvmBytes (d.auditAddr i) 32) }).endLoad 0 32

end Sys2Proof.Machine
end

