-- ==== Sys2Proof/Machine/Reset.lean ====
section
/-! DEFINITION.
What a reset does (R7, R339, R340, R345), and what the survival table keeps.
-/

namespace Sys2Proof.Machine

open Reg

/-- The register file after a reset of a kind of R339 (1 POR, 2 PIN, 3 SOFT, 4 LOAD, 5 CHOIR): classes S and I at their Reset values,
class H too but for SOFT, LOAD and CHOIR, and class P at a POR (R7, R345). -/
def RegFile.afterReset (r : RegFile) (kind : Nat) : RegFile :=
  { r with s := [], i := [], h := if kind ≤ 2 then [] else r.h, p := if kind ≤ 1 then [] else r.p }

/-- The field of RESET_CAUSE for a kind (R340). -/
def causeFld (kind : Nat) : Fld :=
  match kind with
  | 1 => RESET_CAUSE_POR
  | 2 => RESET_CAUSE_PIN
  | 3 => RESET_CAUSE_SOFT
  | 4 => RESET_CAUSE_LOAD
  | _ => RESET_CAUSE_CHOIR

/-- What pins and supplies show does not change with a reset; the debounced seal starts at its Reset value (R7, R32).
DEDUCED: log entry 48. -/
def Dev.showLevels (d o : Dev) : Dev :=
  d.each [PIN_LEVEL_SEAL_RAW, PIN_LEVEL_OCXO_RDY, PIN_LEVEL_WAKE, PIN_LEVEL_STRAP_LIVE, SUPPLY_STATUS_VBAT_OK, SUPPLY_STATUS_VIOV_LEVEL,
          SUPPLY_STATUS_BKP_SRC] (fun d f => d.wr f (o.rd f))

/-- A unit of the analyser after a reset: TOTAL has class H. -/
def keepTotals (l : Tab Ana) : Tab Ana := l.map (fun p => (p.1, { Ana.fresh with total := p.2.total }))

/-- The device with every unit fresh: what R345 keeps beside the registers is the NVM, the backup domain, the row map and analyser TOTAL. -/
def Dev.afterReset (d : Dev) (kind : Nat) : Dev :=
  { regs := d.regs.afterReset kind, fuses := d.fuses, snaps := [], time := Timing.fresh, voices := [], rings := [], writer := Writer.fresh, tune := [],
    wms := [], excs := [], timers := [], fitV := [], fitP := [], allan := [], allanFrom := [], items := [],
    anas := if kind ≤ 2 then [] else keepTotals d.anas, anaItems := [], cap := Cap.fresh, faults := FaultSt.fresh,
    power := { PowerSt.off with good := d.power.good, testHeld := d.power.testHeld, resetLow := d.power.resetLow, backup := d.power.backup,
                                jtagHeld := d.power.jtagHeld, steps := if kind ≤ 1 then 0 else 2 },
    pins := Pins.low, sram := { Sram.fresh with rowMap := if kind ≤ 1 then [] else d.sram.rowMap }, pipe := Pipe.fresh,
    track := { TrackSt.fresh with belt := if kind ≤ 2 then none else if d.is CFG_STATUS_CONFIGURED then some (d.rd BELT_LEN) else d.track.belt },
    choir := ChoirSt.fresh, logQueue := [], logLost := 0, calst := { d.calst with waiting := none },
    img := ImgSt.none, host := { HostSt.fresh with tap := d.host.tap, tapLog := d.host.tapLog }, nvm := d.nvm, logs := LogSt.fresh,
    free := d.free }

/-- A reset of a kind (R339, R340): its bit is set in RESET_CAUSE and LAST takes the kind. -/
def Dev.reset (d : Dev) (kind : Nat) : Dev :=
  let d := d.abandonPt
  (((d.afterReset kind).showLevels d).wr (causeFld kind) 1).wr RESET_CAUSE_LAST kind

/-- CHOIR_RESET is due (R262): the boundary that RESET names has been seen. In the safe state no boundary is seen any more, and the command itself
says that it has come. DEDUCED: log entry 45. -/
def Dev.resetDue (d : Dev) : Bool :=
  match d.choir.resetAt with
  | none => false
  | some p =>
    let t := d.rd PIPE_CFG_TIMER
    d.mode == 5 || (d.timer t).prev.isSome && decide ((d.rd (TIMER_PCOUNT_COUNT t) + 2 ^ 32 - p % 2 ^ 32) % 2 ^ 32 < 2 ^ 31)

/-- CHOIR_RESET (R262, R339): at the named boundary. In the safe state it ends only while FCK runs on FPLL (R338). -/
def Dev.choirReset (d : Dev) : Dev := if d.alive && d.resetDue && !d.is TB_STATUS_FCK_SRC then d.reset 5 else d

/-- SOFT_RESET (R339): POWER_CMD 0x4F. -/
def Dev.softReset (d : Dev) : Dev := if d.alive then d.reset 3 else d

/-- PIN_RESET (R339): RESET_N goes low, and the device stays in reset as long as it is low; this PIN reset does not come from the TAP. While it is held by TEST_EN it has no
effect (R33). DEDUCED: log entry 51. -/
def Dev.pinReset (d : Dev) : Dev :=
  if !d.power.good then { d with power := { d.power with resetLow := true } }
  else if d.power.testHeld then d
  else
    let d := (d.reset 2).wr JTAG_STATUS_JTAG_RESET 0
    { d with power := { d.power with resetLow := true } }

/-- RESET_N_RISE: the boot begins when RESET_N is high. -/
def Dev.resetNRise (d : Dev) : Dev := { d with power := { d.power with resetLow := false } }

end Sys2Proof.Machine
end

