-- ==== Sys2Proof/Machine/Analyser.lean ====
section
/-! DEFINITION.
Analyser modes (R157 to R166): merging the stamps of two voices, the measurements of each mode, triggers, closeout.
-/

namespace Sys2Proof.Machine

open Reg

/-- Is an edge selected by EDGE_S, EDGE_T or TRIG.EDGE: 1 RISE, 2 FALL, 3 either? -/
def edgeSelected (code edge : Nat) : Bool := if edge = 1 then code.testBit 0 else code.testBit 1

/-- The tuned time of an entry in T_SCK / 65,536 (R103); a BOUND marker stands at its boundary. -/
def Entry.tuned (e : Entry) : Nat := e.ext * 65536 + e.m

/-- The extended time with the fine code. -/
def Entry.raw (e : Entry) : Nat := e.ext * 1024 + e.fine

/-- Is an entry a BOUND marker? -/
def Entry.isBound (e : Entry) : Bool := e.flags.testBit 7

/-- Is an entry a stamp of a live edge (MARKER = 0 and TUNE = 0)? -/
def Entry.isLive (e : Entry) : Bool := !e.flags.testBit 0 && !e.flags.testBit 6

/-- Does an instance process an entry: a live stamp or a BOUND marker (R158)? -/
def Entry.measured (e : Entry) : Bool := e.isLive || e.isBound

/-- Where an entry stands in the merge: its tuned time, BOUND before stamps, the start voice before the stop voice. -/
def mergeKey (t : Taken) (stop : Nat) : Nat := t.entry.tuned * 4 + (if t.entry.isBound then 0 else 1 + stop)

/-- Give an entry that the ring writer takes to the instances that use its voice, and to the triggers that look at it (R158,
R166). `take` is its place in the order of taking. -/
def Dev.feedAnas (d : Dev) (voice take : Nat) (e : Entry) (direct : Bool) : Dev :=
  let t : Taken := { take := take, voice := voice, entry := e }
  d.each (List.range 4) (fun d a =>
    let x := d.ana a
    let on := d.rd (ANA_CFG_MODE a) != 0
    let x := if on && !direct && e.measured && d.rd (ANA_CFG_VOICE_S a) == voice && decide (x.seenS ≤ e.id)
      then { x with qs := x.qs ++ [t], seenS := e.id + 1 } else x
    let x := if d.anaTwo a && !direct && e.measured && d.rd (ANA_CFG_VOICE_T a) == voice && decide (x.seenT ≤ e.id)
      then { x with qt := x.qt ++ [t], seenT := e.id + 1 } else x
    let cond := d.rd (ANA_TRIG_COND a)
    let x := if (cond == 1 || cond == 3) && d.rd (ANA_TRIG_VOICE a) == voice then { x with tq := x.tq ++ [t] } else x
    if x = d.ana a then d else d.putAna a x)

/-- Can no entry of voice `v` earlier than the time of an entry still arrive (R158)? -/
def Dev.noneEarlier (d : Dev) (v : Nat) (e : Entry) : Bool :=
  match (d.voice v).fifo with
  | h :: _ => decide (e.raw ≤ h.raw)
  | [] => decide (e.ext + 16 ≤ d.ext)

/-- The entry that an instance processes next, with its role (0 start voice, 1 stop voice), if it may (R158). -/
def Dev.anaNext (d : Dev) (a : Nat) (force : Bool) : Option (Taken × Nat) :=
  let x := d.ana a
  if d.anaTwo a then
    match x.qs, x.qt with
    | s :: _, t :: _ => if mergeKey s 0 ≤ mergeKey t 1 then some (s, 0) else some (t, 1)
    | s :: _, [] => if force || d.noneEarlier (d.rd (ANA_CFG_VOICE_T a)) s.entry then some (s, 0) else none
    | [], t :: _ => if force || d.noneEarlier (d.rd (ANA_CFG_VOICE_S a)) t.entry then some (t, 1) else none
    | [], [] => none
  else x.qs.head?.map (fun s => (s, 0))

/-- Take that entry off its queue. -/
def Ana.drop (x : Ana) (role : Nat) : Ana := if role = 0 then { x with qs := x.qs.tail } else { x with qt := x.qt.tail }

/-- Add one to a bin, which holds at its largest value. -/
def addBin (s : Store) (i : Nat) : Store := Store.write s i (min (Store.read s i + 1) 0xFFFFFFFF)

/-- Enter a measurement into the histogram (R165). -/
def Dev.histogram (d : Dev) (a u : Nat) : Dev :=
  if !d.is (ANA_CFG_HIST_EN a) then d
  else
    let o := d.rd (ANA_HIST_ORIGIN_HIST_ORIGIN a)
    let b := (u - o) / 2 ^ d.rd (ANA_HIST_SHIFT_HIST_SHIFT a)
    let x := d.ana a
    if u < o then d.inc (ANA_HIST_UNDER_HIST_UNDER a)
    else if 1024 ≤ b then d.inc (ANA_HIST_OVER_HIST_OVER a)
    else if d.is (ANA_CFG_HIST_PER a) then d.putAna a { x with acc := { x.acc with hist := addBin x.acc.hist b } }
    else d.putAna a { x with shown := addBin x.shown b }

/-- A measurement u of INTERVAL or WIDTH (R163, R165, R166): statistics, histogram, and the LIMIT trigger on its later stamp. -/
def Dev.measure (d : Dev) (a u : Nat) (t : Taken) : Dev :=
  let x := d.ana a
  let d := d.putAna a { x with acc := { x.acc with ivl := x.acc.ivl.use u 0 } }
  let d := d.histogram a u
  let lim := d.rd (ANA_TRIG_COND a) = 2 ∧ (d.rd (ANA_CFG_MODE a) = 1 ∨ d.rd (ANA_CFG_MODE a) = 3)
  if lim ∧ (u < d.rd (ANA_LIM_LO_LIM_LO a) ∨ d.rd (ANA_LIM_HI_LIM_HI a) < u) then
    d.trigger a 2 (some t.take) (t.entry.raw % 2 ^ 64)
  else d

/-- Add to UNPAIRED. -/
def Ana.unpair (x : Ana) (n : Nat) : Ana := { x with acc := { x.acc with unpaired := (x.acc.unpaired + n) % 2 ^ 32 } }

/-- A start stamp in INTERVAL (R159). -/
def Ana.startStamp (x : Ana) (t : Nat) : Ana :=
  let x := if x.arm.isSome then x.unpair 1 else x
  { x with arm := some t }

/-- A stop stamp in INTERVAL (R159). -/
def Dev.stopStamp (d : Dev) (a : Nat) (t : Taken) : Dev :=
  let x := d.ana a
  match x.arm with
  | some ts =>
    if ts ≤ t.entry.tuned then (d.putAna a { x with arm := none }).measure a (t.entry.tuned - ts) t
    else d.putAna a (x.unpair 1)
  | none => d.putAna a (x.unpair 1)

/-- A stamp in INTERVAL, in the roles its voice and edge give it (R159); with one voice and one EDGE every selected stamp has both. -/
def Dev.intervalStamp (d : Dev) (a : Nat) (t : Taken) (start stop : Bool) : Dev :=
  let one := d.rd (ANA_CFG_VOICE_S a) == d.rd (ANA_CFG_VOICE_T a) && d.rd (ANA_CFG_EDGE_S a) == d.rd (ANA_CFG_EDGE_T a)
  if one then
    if !start then d
    else
    let d := if (d.ana a).arm.isSome then d.stopStamp a t else d
    d.putAna a { d.ana a with arm := some t.entry.tuned }
  else
    let d := if start then d.putAna a ((d.ana a).startStamp t.entry.tuned) else d
    if stop then d.stopStamp a t else d

/-- Unwrap φ into (φ_ref − 0.5, φ_ref + 0.5] (R160). -/
def unwrapTurn (ref x : F64) : F64 :=
  let half : F64 := 0x3FE0000000000000
  if f64Le x (f64Sub ref half) then f64Add x f64One
  else if f64Lt (f64Add ref half) x then f64Sub x f64One else x

/-- Take one φ into the statistics (R160, R163). -/
def AnaAcc.takePhase (c : AnaAcc) (x : F64) : AnaAcc :=
  if c.pcount = 0 then { c with pref := x, plo := x, phi := x, pcount := 1 }
  else
    let y := unwrapTurn c.pref x
    let e := f64Sub y c.pref
    { c with ps1 := f64Add c.ps1 e, ps2 := f64Add c.ps2 (f64Mul e e), plo := f64Min c.plo y, phi := f64Max c.phi y,
             pcount := (c.pcount + 1) % 2 ^ 32 }

/-- A start stamp in PHASE closes a cycle (R160). -/
def Ana.cycleStamp (x : Ana) (t : Nat) : Ana :=
  match x.prevS with
  | none => { x with prevS := some t }
  | some s =>
    let acc := x.pend.foldl (fun c p => c.takePhase (f64Div (f64OfInt (p - s : Nat)) (f64OfInt (t - s : Nat)))) x.acc
    { x with acc := acc, pend := [], prevS := some t }

/-- A stop stamp in PHASE waits for the end of its cycle. -/
def Ana.phaseStamp (x : Ana) (t : Nat) : Ana :=
  match x.prevS with
  | none => x.unpair 1
  | some _ => { x with pend := x.pend ++ [t] }

/-- A stamp in WIDTH or DUTY (R161). -/
def Dev.pulseStamp (d : Dev) (a : Nat) (t : Taken) : Dev :=
  let x := d.ana a
  let begins := (t.entry.edge == 1) != d.is (ANA_CFG_POL a)
  let u := t.entry.tuned
  if begins then
    let c := x.acc
    let c := { c with begins := c.begins + 1, first := if c.begins = 0 then u else c.first, last := u,
                      closed := c.closed + c.width, width := 0 }
    d.putAna a { x with acc := c, begun := some u }
  else
    match x.begun with
    | none => d
    | some b => (d.putAna a { x with begun := none, acc := { x.acc with width := u - b } }).measure a (u - b) t

/-- The causes that a period of an instance carries from its start. -/
def Dev.anaStartCauses (d : Dev) (a : Nat) (gated : Bool) : Nat :=
  (d.anaVoices a).foldl (fun m v => m ||| d.startCauses v gated) 0

/-- An instance passes a boundary of its timer (R159, R160): the measurement in progress is given up, and what was gathered moves
to the period that waits for it. -/
def Dev.anaRoll (d : Dev) (a stop : Nat) : Dev :=
  let x := d.ana a
  let acc := { x.acc with unpaired := (x.acc.unpaired + x.pend.length) % 2 ^ 32 }
  let items := d.anaItems.map (fun i => if i.ana = a ∧ i.stop = stop then { i with acc := acc } else i)
  { d with anaItems := items }.putAna a
    { x with acc := AnaAcc.fresh, arm := none, prevS := none, pend := [], begun := none, bound := some stop, ahead := x.ahead.tail }

/-- Pass every boundary that lies at or before an extended time. -/
def Dev.anaRollTo (d : Dev) (a ext : Nat) : Nat → Dev
  | 0 => d
  | n + 1 =>
    match (d.ana a).ahead with
    | b :: _ => if b ≤ ext then (d.anaRoll a b).anaRollTo a ext n else d
    | [] => d

/-- C of R162 becomes known at the BOUND marker of S: TOTAL adds it, and the period that ends there takes it. -/
def Dev.takeCount (d : Dev) (a stop evcnt : Nat) : Dev :=
  let x := d.ana a
  let c := match x.lastEv with | some e => (evcnt + 2 ^ 32 - e) % 2 ^ 32 | none => 0
  let total := if d.rd (ANA_CFG_MODE a) = 5 then (x.total + c) % 2 ^ 64 else x.total
  let items := d.anaItems.map (fun i => if i.ana = a ∧ i.stop = stop then { i with count := c } else i)
  { d with anaItems := items }.putAna a { x with lastEv := some evcnt, total := total }

/-- A stamp or BOUND marker is processed by instance `a` (R159 to R162). -/
def Dev.anaProcess (d : Dev) (a : Nat) (t : Taken) (role : Nat) : Dev :=
  let e := t.entry
  let d := d.putAna a ((d.ana a).drop role)
  let d := d.anaRollTo a e.ext ((d.ana a).ahead.length)
  if e.isBound then (if role = 0 ∧ (d.ana a).bound = some e.ext then d.takeCount a e.ext e.evcnt else d)
  else
    let two := d.anaTwo a
    let start := role == 0 && edgeSelected (d.rd (ANA_CFG_EDGE_S a)) e.edge
    let stop := (if two then role == 1 else true) && edgeSelected (d.rd (ANA_CFG_EDGE_T a)) e.edge
    let mode := d.rd (ANA_CFG_MODE a)
    let used := start || (decide (mode = 1 ∨ mode = 2) && stop)
    let d := if used && decide (0 < e.k) then d.putAna a { d.ana a with acc := { (d.ana a).acc with decim := true } } else d
    if mode = 1 then d.intervalStamp a t start stop
    else if mode = 2 then
      let d := if start then d.putAna a ((d.ana a).cycleStamp e.tuned) else d
      if stop then d.putAna a ((d.ana a).phaseStamp e.tuned) else d
    else if (mode = 3 ∨ mode = 4) ∧ start then d.pulseStamp a t
    else d

/-- The trigger conditions EDGE and MARKER look at the next entry of TRIG.VOICE (R166). -/
def Dev.anaTrigger (d : Dev) (a : Nat) : Dev :=
  let x := d.ana a
  match x.tq with
  | [] => d
  | t :: rest =>
    let d := d.putAna a { x with tq := rest }
    let e := t.entry
    let hit := if d.rd (ANA_TRIG_COND a) = 1 then e.isLive && edgeSelected (d.rd (ANA_TRIG_EDGE a)) e.edge
      else decide (d.rd (ANA_TRIG_COND a) = 3) && (e.flags &&& d.rd (ANA_TRIG_FLAGS a) != 0)
    if hit then d.trigger a (d.rd (ANA_TRIG_COND a)) (some t.take) (e.raw % 2 ^ 64) else d

/-- Does measuring go on? Not while FCK runs on RCK (R23), nor in the safe state (R337). -/
def Dev.measuring (d : Dev) : Bool := d.alive && !d.is TB_STATUS_FCK_SRC && d.mode != 5

/-- ANALYSER_STAMP (R158, R166): instance `a` looks at the next entry of its trigger voice, and processes its next stamp when no
earlier stamp of its other voice can arrive. -/
def Dev.analyserStamp (a : Nat) (d : Dev) : Dev :=
  if !d.measuring then d
  else
    let d := d.anaTrigger a
    match d.anaNext a false with
    | some (t, role) => d.anaProcess a t role
    | none => d

/-- Process every entry that lies before a boundary. -/
def Dev.anaDrain (d : Dev) (a stop : Nat) : Nat → Dev
  | 0 => d
  | n + 1 =>
    match d.anaNext a true with
    | some (t, role) =>
      if t.entry.ext < stop ∨ (t.entry.isBound ∧ t.entry.ext = stop) then (d.anaProcess a t role).anaDrain a stop n else d
    | none => d

/-- The entries an instance has not processed. -/
def Dev.anaBacklog (d : Dev) (a : Nat) : Nat := (d.ana a).qs.length + (d.ana a).qt.length

/-- The entries still in the FIFO of voice `v` from number `from_` on that an instance processes. -/
def Dev.unfed (d : Dev) (v from_ : Nat) : List Taken :=
  ((d.voice v).fifo.filter (fun e => e.measured && decide (from_ ≤ e.id))).map (fun e => { take := d.cap.takes, voice := v, entry := e })

/-- The instance takes what still stands in the FIFOs of its voices, ahead of the ring writer: what lies before a boundary is processed before
the boundary is passed (R15), though the ring writer is late. DEDUCED: log entry 77. -/
def Dev.preFeed (d : Dev) (a : Nat) : Dev :=
  let x := d.ana a
  let s := d.rd (ANA_CFG_VOICE_S a)
  let t := d.rd (ANA_CFG_VOICE_T a)
  if d.rd (ANA_CFG_MODE a) = 0 then d
  else
    let x := { x with qs := x.qs ++ d.unfed s x.seenS, seenS := max x.seenS (d.voice s).nextId }
    d.putAna a (if d.anaTwo a then { x with qt := x.qt ++ d.unfed t x.seenT, seenT := max x.seenT (d.voice t).nextId } else x)

/-- Bring an instance to a boundary: process what lies before it, then pass it. Where the timer of S is not the instance's own, no
BOUND marker of S stands at the boundary and C is open (log entry 5). -/
def Dev.anaReach (d : Dev) (a stop : Nat) : Dev :=
  let d := d.anaDrain a stop (d.anaBacklog a)
  d.anaRollTo a stop ((d.ana a).ahead.length)

/-- COUNT, VALUE, SD, MIN and MAX of R163. -/
def AnaItem.values (i : AnaItem) (total : Nat) : Nat × List Nat :=
  let c := i.acc
  let v := (c.ivl.values i.eps).map BitVec.toNat
  if i.mode = 2 then
    let k := f64OfInt c.pcount
    let mean := f64Add c.pref (f64Div c.ps1 k)
    let var := f64Div (f64Sub c.ps2 (f64Div (f64Mul c.ps1 c.ps1) k)) (f64OfInt (c.pcount - 1 : Nat))
    if c.pcount = 0 then (0, [0, 0, 0, 0])
    else (c.pcount, [mean.toNat, if c.pcount < 2 then 0 else (f64Sqrt var).toNat, c.plo.toNat, c.phi.toNat])
  else if i.mode = 4 then
    let duty := if c.begins < 2 then 0 else (f64Div (f64OfInt c.closed) (f64OfInt (c.last - c.first : Nat))).toNat
    (c.begins - 1, duty :: v.tail)
  else if i.mode = 5 then (i.count, [total, 0, 0, 0])
  else (c.ivl.count, v)

/-- Replace the result block (R164): RSEQ rises. -/
def Dev.putResult (d : Dev) (a : Nat) (i : AnaItem) (reason causes : Nat) : Dev :=
  let x := i.values (d.ana a).total
  let rest := reason ≠ 0
  let count := if rest then 0 else x.1
  let v := if rest then [if i.mode = 5 then x.2.getD 0 0 else 0, 0, 0, 0] else x.2
  (d.step1 (ANA_RSEQ_RSEQ a)) |>.wr (ANA_RSTAT_REASON a) reason |>.wr (ANA_RSTAT_CAUSES a) causes
    |>.wr (ANA_RSTAT_DECIM a) (bit i.decim) |>.wr (ANA_START_START a) (i.start % coarseMod * 1024)
    |>.wr (ANA_COUNT_COUNT a) count |>.wr (ANA_UNPAIRED_UNPAIRED a) (if rest then 0 else i.acc.unpaired)
    |>.wr (ANA_VALUE_VALUE a) (v.getD 0 0) |>.wr (ANA_SD_SD a) (v.getD 1 0) |>.wr (ANA_MIN_MIN a) (v.getD 2 0)
    |>.wr (ANA_MAX_MAX a) (v.getD 3 0)

/-- The histogram at a closeout (R165): of a cumulative one REST_SEEN shows measurements of a rest; a per-period one is exchanged. HIST_UNDER
and HIST_OVER count on. -/
def Dev.closeHistogram (d : Dev) (a : Nat) (i : AnaItem) (reason : Nat) : Dev :=
  if !i.histEn then d
  else if i.histPer then
    let clear := decide (reason ≠ 0)
    let d := d.putAna a { d.ana a with shown := if clear then [] else i.acc.hist }
    (d.wr (ANA_HISTST_REASON a) reason).step1 (ANA_HISTST_HSEQ a)
  else if reason ≠ 0 ∧ i.acc.ivl.count ≠ 0 then d.wr (ANA_HISTST_REST_SEEN a) 1
  else d

/-- Finish a period of an instance; its causes are complete. -/
def Dev.finishAna (d : Dev) (i : AnaItem) (causes : Nat) : Dev :=
  let reason := firstReason causes
  (d.putResult i.ana { i with decim := i.decim || i.acc.decim } reason causes).closeHistogram i.ana i reason

/-- Has everything before a boundary left the FIFO of a voice (R15)? -/
def Dev.cleared (d : Dev) (v stop : Nat) : Bool :=
  (d.voice v).fifo.all (fun e => decide (stop ≤ e.ext) && !(e.isBound && decide (e.ext = stop)))

/-- The number of measurements of a period that MIN_MEAS looks at. -/
def AnaItem.measured (i : AnaItem) : Nat := (i.values 0).1

/-- Remove the first waiting period of an instance. -/
def dropAnaItem (a : Nat) : List AnaItem → List AnaItem
  | [] => []
  | i :: rest => if i.ana = a then rest else i :: dropAnaItem a rest

/-- ANALYSER_CLOSEOUT (R164): the oldest waiting period of instance `a` is closed out, once R15 allows it. -/
def Dev.analyserCloseout (a : Nat) (upsets : List (Nat × Nat)) (d : Dev) : Dev :=
  match d.anaItems.find? (fun i => i.ana == a) with
  | none => d
  | some h =>
    if !d.measuring || !h.vs.all (fun v => d.cleared v h.stop) then d
    else
      let d := (d.anaReach a h.stop).meetUpsets upsets
      let i := (d.anaItems.find? (fun i => i.ana == a)).getD h
      let d : Dev := { d with anaItems := dropAnaItem a d.anaItems }
      let bad := upsets.any (fun p => p.2 == 2)
      let causes := if bad then i.causes ||| 2 ^ 11 else i.causes
      let causes := if i.mode ≠ 5 ∧ i.measured < i.minMeas then causes ||| 2 ^ 2 else causes
      d.finishAna i causes

/-- The analyser periods of a boundary that reach the deadline are rests with reason 1 (R164). What was measured in them is passed first, so that
REST_SEEN shows it. DEDUCED: log entry 77. -/
def Dev.anaDeadline (d : Dev) (t stop : Nat) : Dev :=
  let mine := fun (i : AnaItem) => i.timer == t && i.stop == stop
  if !d.anaItems.any mine then d
  else
    let d := d.each ((d.anaItems.filter mine).map AnaItem.ana) (fun d a => (d.preFeed a).anaReach a stop)
    let late := d.anaItems.filter mine
    let d : Dev := { d with anaItems := d.anaItems.filter (fun i => !(i.timer == t && i.stop == stop)) }
    let d := d.fault 0x0520 transient [srcDevice]
    d.each late (fun d i => d.finishAna i (i.causes ||| 2 ^ 1))

/-- CLOSEOUT_DEADLINE (R147, R164): the deadline of the oldest boundary of timer `t` that still has unfinished contexts or
analyser instances. -/
def Dev.deadline (t : Nat) (d : Dev) : Dev :=
  if !d.alive then d
  else
    let stops := (d.items.filter (fun i => i.timer == t)).map Item.stop ++ (d.anaItems.filter (fun i => i.timer == t)).map AnaItem.stop
    match stops with
    | [] => d
    | s :: rest =>
      let stop := rest.foldl min s
      let d := if d.items.any (fun i => i.timer == t && i.stop == stop) then Dev.closeoutDeadline t d else d
      d.anaDeadline t stop

/-- The period in progress of an instance on timer `t` ends (R164): it waits for closeout. It began at the timer's boundary before, or where the
instance came to the timer (R154). -/
def Dev.anaEndOne (d : Dev) (a t stop : Nat) (tm : Timer) : Dev :=
  let x := d.ana a
  let vs := d.anaVoices a
  let own := vs.all (fun v => d.timerOf v == t)
  let count := if own then 0 else d.openValue % 2 ^ 32
  let d := if own then d else d.nextFree
  let item := match tm.prev with
    | some p =>
      let b := max p (x.since.getD 0)
      if tm.live && vs.all (fun v => d.voiceProduces v b) then
        [{ ana := a, timer := t, start := b, stop := stop, vs := vs, mode := d.rd (ANA_CFG_MODE a),
           minMeas := d.rd (ANA_MIN_MEAS_MIN_MEAS a), histEn := d.is (ANA_CFG_HIST_EN a), histPer := d.is (ANA_CFG_HIST_PER a),
           causes := x.causes, decim := vs.any (fun v => decide (0 < d.rd (VOICE_STATUS_K v)) || (d.voice v).kChanged),
           eps := tm.eps, count := count, acc := AnaAcc.fresh }]
      else []
    | none => []
  let x := { x with ahead := x.ahead ++ [stop], causes := 0,
                    total := if own || d.rd (ANA_CFG_MODE a) != 5 then x.total else (x.total + count) % 2 ^ 64 }
  ({ d with anaItems := d.anaItems ++ item }).putAna a x

/-- The instances on timer `t` end a period at a boundary (R164). -/
def Dev.anaEndPeriod (d : Dev) (t stop : Nat) (tm : Timer) : Dev :=
  d.each (List.range 4) (fun d a => if d.rd (ANA_CFG_MODE a) = 0 ∨ d.rd (ANA_CFG_TIMER a) ≠ t then d else d.anaEndOne a t stop tm)

/-- And begin the next one with the reasons it carries from its start. -/
def Dev.anaBeginPeriod (d : Dev) (t : Nat) (gated : Bool) : Dev :=
  d.each (List.range 4) (fun d a =>
    if d.rd (ANA_CFG_MODE a) = 0 ∨ d.rd (ANA_CFG_TIMER a) ≠ t then d
    else d.putAna a { d.ana a with causes := (d.ana a).causes ||| d.anaStartCauses a gated, since := (d.timer t).prev })

/-- A timer takes a boundary: its voices, contexts and analyser instances end a period there and begin the next. -/
def Dev.takeBoundary (d : Dev) (t ext : Nat) (gated : Bool) : Dev :=
  let tm := d.timer t
  (((d.endPeriod t ext).anaEndPeriod t ext tm).beginPeriod t ext gated).anaBeginPeriod t gated

/-- RSEQ_READ (R164): a read of RSEQ captures the whole result block: the fifteen words after RSEQ. DESIGN CHOICE: log entry 11. -/
def Dev.rseqRead (a : Nat) (d : Dev) : Dev :=
  let w64 := fun (f : Fld) => [d.rd f % 2 ^ 32, d.rd f / 2 ^ 32]
  let rstat := d.rd (ANA_RSTAT_REASON a) + d.rd (ANA_RSTAT_CAUSES a) * 2 ^ 4 + d.rd (ANA_RSTAT_DECIM a) * 2 ^ 20 +
    d.rd (ANA_RSTAT_TOTAL_SUSPECT a) * 2 ^ 21
  let words := [rstat] ++ w64 (ANA_START_START a) ++ [d.rd (ANA_COUNT_COUNT a), d.rd (ANA_UNPAIRED_UNPAIRED a)] ++
    w64 (ANA_VALUE_VALUE a) ++ w64 (ANA_SD_SD a) ++ w64 (ANA_MIN_MIN a) ++ w64 (ANA_MAX_MAX a)
  let base := 0x6100 + a * 0x80 + 0x44
  { d with snaps := (words.zipIdx).foldl (fun s p => Store.write s (base + p.2 * 4) p.1) d.snaps }

/-- CLEAR_HISTOGRAM: ANA[a].CMD 0x92. -/
def Dev.clearHistogram (a : Nat) (d : Dev) : Dev :=
  let x := d.ana a
  (d.putAna a { x with shown := [], acc := { x.acc with hist := [] } })
    |>.wr (ANA_HIST_UNDER_HIST_UNDER a) 0 |>.wr (ANA_HIST_OVER_HIST_OVER a) 0

/-- CLEAR_TOTAL: ANA[a].CMD 0x96. -/
def Dev.clearTotal (a : Nat) (d : Dev) : Dev := (d.putAna a { d.ana a with total := 0 }).wr (ANA_RSTAT_TOTAL_SUSPECT a) 0

/-- The word of the histogram window that stands at bin `j` of the half selected (R165). -/
def Dev.histogramValue (d : Dev) (j : Nat) : Nat :=
  Store.read (d.ana (d.rd HIST_SEL_ANA)).shown (j + 512 * d.rd HIST_SEL_HALF)

end Sys2Proof.Machine
end

