-- ==== Sys2Proof/Machine/Ldpc.lean ====
section
/-! DEFINITION.
The code of the belt track (R207) and its decoder (R213): parity checks, normalised min-sum in layers, and the outer iterations
with the detector, whose branch metrics are free (log entry 6).
-/

namespace Sys2Proof.Machine

/-- The block rows of H (R207): pairs of a block column and its shift. -/
def ldpcRows : List (List (Nat × Nat)) :=
  [[(0, 3), (2, 11), (3, 7), (5, 1), (6, 0)],
   [(1, 5), (2, 2), (4, 14), (6, 0), (7, 0)],
   [(0, 9), (1, 13), (3, 4), (5, 0), (7, 0), (8, 0)],
   [(0, 6), (2, 15), (4, 8), (8, 0), (9, 0)],
   [(1, 10), (3, 12), (4, 1), (5, 1), (9, 0)]]

/-- The variables of check `i` of a block row. -/
def checkVars (row : List (Nat × Nat)) (i : Nat) : List Nat := row.map (fun b => 16 * b.1 + (i + b.2) % 16)

/-- The checks of H with their numbers, in order. -/
def ldpcChecks : List (Nat × List Nat) :=
  ldpcRows.zipIdx.flatMap (fun r => (List.range 16).map (fun i => (16 * r.2 + i, checkVars r.1 i)))

/-- H × c = 0 (R207). -/
def parityOk (c : List Bool) : Bool :=
  ldpcChecks.all (fun k => !(k.2.foldl (fun p v => p != c.getD v false) false))

/-- The CRC over the information bits u_0 to u_63 is u_64 to u_79 (R207). -/
def trackCrcOk (c : List Bool) : Bool :=
  crc16Bits (c.take 64) == ((c.drop 64).take 16).foldl (fun a b => a * 2 + bit b) 0

/-- Saturate a ratio at ±127 (R212). -/
def llrSat (x : Int) : Int := if 127 < x then 127 else if x < -127 then -127 else x

/-- The message of a check to one of its variables: the product of the signs of the others, and 0.75 of their smallest
magnitude rounded toward zero (R213). -/
def checkMessage (others : List Int) : Int :=
  let neg := others.foldl (fun p x => p != decide (x < 0)) false
  let mag := others.foldl (fun m x => min m x.natAbs) 127
  let r : Int := ((3 * mag / 4 : Nat) : Int)
  if neg then -r else r

/-- The ratios in progress: the total of each variable, and the message of each check to each of its variables. -/
structure Decode where
  total : List Int
  msgs : List (List Int)
deriving DecidableEq, Repr

/-- Remove the element at an index. -/
def dropAt {α : Type} (l : List α) (i : Nat) : List α := l.take i ++ l.drop (i + 1)

/-- Take one check. -/
def checkStep (s : Decode) (k : Nat × List Nat) : Decode :=
  let old := s.msgs.getD k.1 []
  let inputs := k.2.zipIdx.map (fun v => llrSat (s.total.getD v.1 0 - old.getD v.2 0))
  let fresh := (List.range k.2.length).map (fun i => checkMessage (dropAt inputs i))
  let total := k.2.zipIdx.foldl (fun t v => setAt t v.1 (llrSat (inputs.getD v.2 0 + fresh.getD v.2 0))) s.total
  { total := total, msgs := setAt s.msgs k.1 fresh }

/-- The hard decisions: positive favours 0. -/
def hardBits (total : List Int) : List Bool := total.map (fun x => decide (x < 0))

/-- All checks and the CRC hold. -/
def codeGood (c : List Bool) : Bool := parityOk c && trackCrcOk c

/-- The layered passes of one outer iteration (R213): the codeword when decoding stops, and the totals.
DESIGN CHOICE: log entry 6. -/
def layeredPasses : Nat → Decode → Option (List Bool) × List Int
  | 0, s => (none, s.total)
  | n + 1, s =>
    let s := ldpcChecks.foldl checkStep s
    let c := hardBits s.total
    if codeGood c then (some c, s.total) else layeredPasses n s

/-- The alignment offsets, the states of the detector (R213). -/
def offsets : List Int := [-2, -1, 0, 1, 2]

/-- The metric of no path. -/
def noPath : Int := -(2 ^ 40)

/-- The best of some metrics. -/
def bestOf (l : List Int) : Int := l.foldl max noPath

/-- One bit of the trellis: the metric of its branch by the bit's value and the offsets before and after it, the a priori ratio included. -/
abbrev Branch := Bool → Int → Int → Int

/-- The branch of a bit from its observation and its a priori ratio, which counts for the value 0. -/
def branchOf (sigma : Nat) (cell : BitVec 64) (obs : Option (List Int)) (prior : Int) : Branch :=
  fun b d d' => Config.branchMetric sigma cell obs b d d' + (if b then 0 else prior)

/-- The best metrics that reach each offset behind a bit, from those in front of it. -/
def forward (g : Branch) (a : List Int) : List Int :=
  offsets.map (fun d' => bestOf ((offsets.zip a).flatMap (fun p => [p.2 + g false p.1 d', p.2 + g true p.1 d'])))

/-- The best metrics from each offset in front of a bit to the end, from those behind it. -/
def backward (g : Branch) (b : List Int) : List Int :=
  offsets.map (fun d => bestOf ((offsets.zip b).flatMap (fun p => [g false d p.1 + p.2, g true d p.1 + p.2])))

/-- The best metric of the paths through a bit with a value. -/
def through (g : Branch) (v : Bool) (a b : List Int) : Int :=
  bestOf ((offsets.zip a).flatMap (fun p => (offsets.zip b).map (fun q => p.2 + g v p.1 q.1 + q.2)))

/-- The channel ratios of the bits (R213): the detector sweeps forward from offset 0 with `a`, and backward from the end, where every offset
serves; the answer begins with the ratios of the bits left and ends with the backward metrics. -/
def bcjr : List (Branch × Int) → List Int → List Int × List Int
  | [], _ => ([], offsets.map (fun _ => 0))
  | (g, prior) :: rest, a =>
    let r := bcjr rest (forward g a)
    (llrSat (through g false a r.2 - through g true a r.2 - prior) :: r.1, backward g r.2)

/-- The detector pass (R213) over the observations of a frame, with the a priori ratios: an erased bit has ratio 0.
DESIGN CHOICE: log entry 6. -/
def detector (sigma : Nat) (cell : BitVec 64) (obs : List (Option (List Int))) (prior : List Int) : List Int :=
  let l := obs.zipIdx.map (fun o => (branchOf sigma cell o.1 (prior.getD o.2 0), prior.getD o.2 0))
  let r := (bcjr l [noPath, noPath, 0, noPath, noPath]).1
  (obs.zip r).map (fun x => if x.1.isNone then 0 else x.2)

/-- One outer iteration: the detector's ratios, 0 on erased bits, then eight layered passes; with the extrinsic ratios. -/
def outerPass (sigma : Nat) (cell : BitVec 64) (obs : List (Option (List Int))) (prior : List Int) : Option (List Bool) × List Int :=
  let ch := detector sigma cell obs prior
  let r := layeredPasses 8 { total := ch, msgs := copies 80 (copies 6 0) }
  (r.1, ch.zipIdx.map (fun x => llrSat (r.2.getD x.2 0 - x.1)))

/-- The outer iterations (R213), at most six: the codeword with the number of the iteration that found it.
DESIGN CHOICE: log entry 6. -/
def outerPasses (sigma : Nat) (cell : BitVec 64) (obs : List (Option (List Int))) : Nat → Nat → List Int → Option (List Bool × Nat)
  | 0, _, _ => none
  | n + 1, pass, prior =>
    match outerPass sigma cell obs prior with
    | (some c, _) => some (c, pass)
    | (none, ext) => outerPasses sigma cell obs n (pass + 1) ext

/-- The value of the bits beginning at `first`, `n` of them, most significant first. -/
def codeField (c : List Bool) (first n : Nat) : Nat := ((c.drop first).take n).foldl (fun a b => a * 2 + bit b) 0

end Sys2Proof.Machine
end

