-- ==== Sys2Proof/Machine/Track.lean ====
section
/-! DEFINITION.
The track channel for moving belts (R205 to R230): cell timing, frames, position, zones, the mass of each period and what it is
committed to. Times are corrected times in T_SCK / 65,536 on the extended timescale.
-/

namespace Sys2Proof.Machine

open Reg

/-- A register field that holds a binary64. -/
def Dev.rdF (d : Dev) (f : Fld) : F64 := BitVec.ofNat 64 (d.rd f)

/-- ν(t) of R217. Before the second stamp the share of the running edge has no interval to be measured by: a free value
(log entry 5). DEDUCED: log entry 40. -/
def Dev.nu (d : Dev) (t : Nat) : F64 :=
  match d.track.tach.dropWhile (fun p => decide (t < p.2)) with
  | [] => f64Zero
  | [p] => f64Add (f64OfInt p.1) (f64OfRat ((d.openValue % (2 ^ 52 + 1) : Nat) : Int) (2 ^ 52))
  | p :: q :: _ => f64Add (f64OfInt p.1) (f64Min f64One (f64Div (f64OfInt ((t - p.2 : Nat) : Int)) (f64OfInt ((p.2 - q.2 : Nat) : Int))))

/-- The distance the tachometer measures from a count on: TACH_UM × (ν(t) − ν). -/
def Dev.travelled (d : Dev) (t : Nat) (from0 : F64) : F64 := f64Mul (d.rdF TACH_UM) (f64Sub (d.nu t) from0)

/-- p̂_h(t) of R217. -/
def Dev.headAt (d : Dev) (t : Nat) : Nat :=
  match d.track.anchor with
  | some a => d.onBelt (f64Floor (f64Add (f64OfInt a.1) (d.travelled t a.2)))
  | none => d.rd POS_HEAD

/-- The bridge point of a head point (R206). -/
def Dev.bridgeOf (d : Dev) (p : Nat) : Nat := d.onBelt ((p : Int) - (d.rd BRIDGE_OFFSET : Int))

/-- The time of the oldest instant at which ν may still be asked for. -/
def Dev.tachKeep (d : Dev) : Nat :=
  let t := d.track
  let l := (t.collect.map Collected.start).toList ++ t.queue.map (fun w => w.frame.start) ++ t.lastStart.toList ++ t.near.toList ++
    ((d.timer (d.rd PIPE_CFG_TIMER)).prev.map (· * 65536)).toList
  match l with
  | [] => 0
  | x :: r => r.foldl min x

/-- Keep the stamps after an instant and the two before it. -/
def pruneTach (keep : Nat) : List (Nat × Nat) → List (Nat × Nat)
  | [] => []
  | p :: r => if keep < p.2 then p :: pruneTach keep r else p :: r.take 1

/-- Is an entry a stamp of an edge? -/
def Entry.isStamp (e : Entry) : Bool := !e.flags.testBit 0 && !e.flags.testBit 6 && !e.flags.testBit 7

/-- A stamp of VOICE[14]: its unwrapped EVCNT and its tuned time (R217). -/
def Dev.tachStamp (d : Dev) (e : Entry) : Dev :=
  let t := d.track
  let n := match t.tach with
    | [] => e.evcnt
    | p :: _ => p.1 + (e.evcnt + 2 ^ 32 - p.1 % 2 ^ 32) % 2 ^ 32
  d.putTrack { t with tach := pruneTach d.tachKeep ((n, e.ext * 65536 + e.m) :: t.tach) }

/-- Take the tachometer's stamps up to an instant: the mass path waits for them. -/
def Dev.drainTach (d : Dev) (ext : Nat) : Dev :=
  let v := d.voice 14
  let early := v.trackTap.takeWhile (fun e => decide (e.ext < ext))
  let d := d.putVoice 14 { v with trackTap := v.trackTap.drop early.length }
  d.each (early.filter Entry.isStamp) Dev.tachStamp

/-- A threshold with an offset, limited to 0 to 1023 (R209). -/
def thrAdd (base off : Nat) : Nat := (max 0 (min 1023 ((base : Int) + toSigned 11 off))).toNat

/-- HEAD_ZONE_CHANGE (R209): zone `z` of the zone table is applied in this FCK. -/
def Dev.applyZone (d : Dev) (z : Nat) : Dev :=
  let off := d.rd (ZONE_A_THR_OFF z)
  let d := d.putLive (thrAdd (d.rd (WM_THRESH_LOWER 6)) off) (thrAdd (d.rd (WM_THRESH_UPPER 6)) off) (d.rd (ZONE_A_HYST z))
  d.putTrack { d.track with zone := some z, asymOld := d.track.asym, asym := d.rd (ZONE_B_ASYM z), asymFrom := d.ext }

/-- The corrected time of a VOICE[15] stamp (R209). -/
def Dev.corrected15 (d : Dev) (e : Entry) : Nat :=
  let m := if d.rd (TUNE_STATUS_STATE 15) = 0 then 64 * e.fine else e.m
  let asym := toSigned 16 (if d.track.asymFrom ≤ e.ext then d.track.asym else d.track.asymOld)
  let cut : Int := if e.edge = 1 then 0 else (asym * 524288 + 5000) / 10000
  ((e.ext * 65536 + m : Nat) - cut).toNat

/-- Is a segment in the weak-segment map (R225)? -/
def Dev.isWeak (d : Dev) (s : Nat) : Bool := (List.range 64).any (fun w => d.is (WEAK_MAP_VALID w) && d.rd (WEAK_MAP_SEG w) == s)

/-- The region that lies between a frame mark ending at a coordinate and the next frame: its end (R208). -/
def Dev.regionAt (d : Dev) (p : Nat) : Option Nat :=
  (d.splices.find? (fun s => s.2.2 == 0 && d.nearBy p s.1)).map (fun s => d.onBelt ((s.1 + s.2.1 : Nat) : Int))

/-- Where the gate of a splice region opens: 3 cells before its end (R208). -/
def Dev.gateOf (d : Dev) (stop : Nat) : Nat := d.onBelt ((stop : Int) - ((3 * d.cellLen : Nat) : Int))

/-- Has the head point not reached a coordinate yet? -/
def Dev.beforeGate (d : Dev) (p gate : Nat) : Bool := d.ahead p gate != 0 && decide (d.ahead p gate * 2 < d.rd BELT_LEN)

/-- A late frame (R215). -/
def Dev.lateFrame (d : Dev) (c : Collected) : Dev :=
  let segs := d.segsOfFrame c
  (((d.inc FRAME_LATE).heavyFrame segs).countFrame segs false).fault 0x0702 reportOnly []

/-- The end boundary of the latest period and its PCOUNT, as RING_18 records name them. -/
def Dev.lastBoundary (d : Dev) : Nat × Nat :=
  let t := d.rd PIPE_CFG_TIMER
  ((d.timer t).prev.getD 0, d.rd (TIMER_PCOUNT_COUNT t))

/-- A mass as a count of TOT_D, and whether that count exists (R227). -/
def Dev.massCount (d : Dev) (m : F64) : Int × Bool :=
  let q := f64Div m (d.rdF TOT_D)
  if f64IsFinite q then (f64ToIntEven q, true) else ((d.openValue : Int), false)

/-- Write a RING_18 record (R227), of a zone made provisional or of a reallocation with its notification (R296). A count that the rule leaves without a value is free (log entry 5). -/
def Dev.trackRecord (d : Dev) (kind seg inhibit : Nat) (mass : F64) (added ok bad : Nat) (at0 : Nat × Nat) : Dev :=
  let c := d.massCount mass
  let heavy := Store.read d.track.heavyNow seg
  let w0 := at0.1 % coarseMod * 1024 + seg * 2 ^ 64 + seg / 16 * 2 ^ 74 + kind * 2 ^ 80 + inhibit * 2 ^ 83 + heavy * 2 ^ 90 +
    ok * 2 ^ 96 + bad * 2 ^ 104 + d.track.tseq * 2 ^ 112
  let w1 := ofSigned 32 c.1 + added % 2 ^ 32 * 2 ^ 32 + d.totLatest.rev % 2 ^ 32 * 2 ^ 64 + d.rd SPEED * 2 ^ 96 + at0.2 % 65536 * 2 ^ 112
  let d := d.offer 18 3 [w0, w1]
  let d := if c.2 then d else d.nextFree
  let d := if kind = 2 ∨ kind = 4 then d.notify 11 kind (seg / 16 + seg * 65536) else d
  d.putTrack { d.track with tseq := (d.track.tseq + 1) % 65536 }

/-- The bytes of a WEAK_MAP record (R313). -/
def Dev.weakPayload (d : Dev) (cause seg : Nat) : List Nat :=
  [cause, 0] ++ bytesLE 2 seg ++
    (List.range 64).flatMap (fun w => bytesLE 2 (d.rd (WEAK_MAP_SEG w) + d.rd (WEAK_MAP_VALID w) * 2 ^ 15))

/-- A segment whose HEAVY_RUN has reached 3 (R225). -/
def Dev.reallocate (d : Dev) (s : Nat) : Dev :=
  if d.isWeak s then d
  else
    match (List.range 64).find? (fun w => !d.is (WEAK_MAP_VALID w)) with
    | none =>
      if d.track.fullRep then d
      else ((d.putTrack { d.track with fullRep := true }).wr TRACK_STATUS_WEAK_FULL 1).fault 0x0731 reportOnly []
    | some w =>
      let d := (d.wr (WEAK_MAP_SEG w) s).wr (WEAK_MAP_VALID w) 1
      let d := d.log 5 (d.weakPayload 1 s)
      let t := d.track
      let ok := Store.read t.okSeg s
      let bad := Store.read t.badSeg s
      let d := d.putTrack { t with okSeg := Store.erase t.okSeg s, badSeg := Store.erase t.badSeg s }
      let d := d.trackRecord 4 s 0 f64Zero 0 ok bad d.lastBoundary
      (d.wr TRACK_EVENT_REALLOC 1).fault 0x0730 reportOnly []

/-- REVOLUTION_END (R225): a revolution of the head point ends. HEAVY_RUN holds at 3. -/
def Dev.endRevolution (d : Dev) : Dev :=
  let t := d.track
  let run := t.heavyNow.map (fun p => (p.1, min 3 (Store.read t.heavyRun p.1 + 1)))
  let d := d.putTrack { t with heavyRun := run, heavyNow := [] }
  d.each (run.filter (fun p => decide (p.2 = 3))) (fun d p => d.reallocate p.1)

/-- The bridged distance at an instant against the limits of R217 and R218. -/
def Dev.checkBridged (d : Dev) (t : Nat) : Dev :=
  match d.track.anchor with
  | none => d
  | some a =>
    let x := d.travelled t a.2
    let d := if d.trackState = 2 ∧ f64Lt (f64OfInt ((652 * d.cellLen : Nat) : Int)) x then d.wr TRACK_STATUS_STATE 3 else d
    if f64Lt (f64OfInt (d.rd DR_MAX)) x then
      let d := d.markZone 4
      if d.track.drRep then d
      else ((d.putTrack { d.track with drRep := true }).wr TRACK_EVENT_DR_LIMIT 1).fault 0x0712 reportOnly []
    else d

/-- The bridge point passes 0 (R206): REV rises with its own entry (R318), and a learning run that was requested may begin (R226). -/
def Dev.passZero (d : Dev) : Dev :=
  let b := d.totLatest
  let d := d.queueTot { b with cause := 5, rev := (b.rev + 1) % 2 ^ 32, delta := 0 }
  if d.track.learn = 1 then d.putTrack { d.track with passed := true, inRun := false } else d

/-- Did a point that moved forward from one coordinate to another pass 0? -/
def Dev.wrapped (d : Dev) (old p : Nat) : Bool := decide (p < old) && decide (d.ahead old p * 2 < d.rd BELT_LEN)

/-- Follow the head point: POS_HEAD, POS_BRIDGE, the bridged distance, the zone under the head, the end of a revolution and the passes of the
bridge point. An instant before one already followed changes nothing. -/
def Dev.followHead (d : Dev) (t : Nat) : Dev :=
  if !d.placed then d
  else
    let t := max t d.track.seen
    let p := d.headAt t
    let old := d.track.head
    let d := d.putTrack { d.track with head := p, seen := t }
    let d := ((d.wr POS_HEAD p).wr POS_BRIDGE (d.bridgeOf p)).wr TRACK_STATUS_ZONE_HEAD (d.segOf p / 16)
    let d := d.checkBridged t
    let d := if d.track.zone = some (d.segOf p / 16) then d else d.applyZone (d.segOf p / 16)
    let d := if d.wrapped old p then d.endRevolution else d
    if d.wrapped (d.bridgeOf old) (d.bridgeOf p) then d.passZero else d

/-- Enter ACQUIRE (R210, R218): the frame being collected ends. -/
def Dev.acquire (d : Dev) : Dev :=
  let d := d.cutFrame.leaveZones
  let t := d.track
  (d.putTrack { t with cell := t.seed, inMark := false, lastStart := none, near := none, gate := none, anchor := none,
                       drRep := false }).wr TRACK_STATUS_STATE 1

/-- The channel is FAILED while VOICE[14] is not ACTIVE or PROBATION, and acquires again after it (R218). -/
def Dev.followTach (d : Dev) : Dev :=
  if !d.is TRACK_CFG_EN || d.trackState == 0 then d
  else if !d.counting 14 then d.failTrack
  else if d.trackState = 5 then (d.putTrack { d.track with tach := [] }).acquire else d

/-- Begin a frame at a transition (R211), at most one is collected at a time; a frame cut short fails. -/
def Dev.startFrame (d : Dev) (t cells : Nat) (nomark : Bool) : Dev :=
  let d := d.cutFrame
  let pos := if d.placed then some (d.headAt t) else none
  let split := pos.bind d.splitOf
  let weak := match pos with
    | some p => (d.frameSegs p split).any (fun s => d.isWeak s)
    | none => false
  let c := { start := t, cells := cells, nomark := nomark, pos := pos, split := split, second := none,
             stamps := (d.track.recent.filter (fun x => decide (t ≤ x))).reverse }
  let take := !weak && d.trackState != 4 && d.trackState != 5
  d.putTrack { d.track with lastStart := some t, near := none, inMark := false, collect := if take then some c else none }

/-- The transition that ends a frame mark: a splice region or the next frame follows (R208, R211). -/
def Dev.endMark (d : Dev) (t cells : Nat) (nomark : Bool) : Dev :=
  match (if d.placed then d.regionAt (d.headAt t) else none) with
  | some stop =>
    let d := d.cutFrame
    d.putTrack { d.track with gate := some (d.gateOf stop), lastStart := none, near := none, inMark := false }
  | none => d.startFrame t cells nomark

/-- A collected frame is offered to the decoder (R215). -/
def Dev.offerFrame (d : Dev) (c : Collected) (t : Nat) : Dev :=
  let k := d.track
  let d := d.putTrack { k with collect := none }
  if 3 ≤ k.queue.length then d.lateFrame c
  else
    let w := { frame := c, stop := t, deadline := t + (f64Floor (f64Mul (f64OfInt 320) k.cell)).toNat, cell := k.cell }
    d.putTrack { d.track with queue := k.queue ++ [w] }

/-- The cells of an interval: ⌊Δ / T̂ + 1/2⌋ (R210). -/
def cellsOf (dt : Nat) (cell : F64) : Nat :=
  (f64Floor (f64Add (f64Div (f64OfInt dt) cell) (f64OfRat 1 2))).toNat

/-- The timing loop of R210. -/
def Dev.trackLoop (d : Dev) (dt n : Nat) : Dev :=
  let t := d.track
  if n = 1 ∨ n = 2 then
    let gain := f64OfRat 1 (2 ^ d.rd TRACK_CFG_LOOP_SHIFT)
    let err := f64Sub (f64Div (f64OfInt dt) (f64OfInt n)) t.cell
    d.putTrack { t with cell := f64Add t.cell (f64Mul err gain) }
  else if 8 ≤ n then d.putTrack { t with cell := t.seed }
  else d

/-- Cells pass in the frame being collected: it may reach its splice region or its end. -/
def Dev.passCells (d : Dev) (t n : Nat) : Dev :=
  match d.track.collect with
  | none => d
  | some c =>
    let c := { c with cells := c.cells + n, stamps := c.stamps ++ [t] }
    match c.split, c.second with
    | some s, none =>
      if 2 * s.1 ≤ c.cells then d.putTrack { d.track with collect := some { c with cells := 2 * s.1 }, gate := some (d.gateOf s.2) }
      else d.putTrack { d.track with collect := some c }
    | _, _ =>
      if 320 ≤ c.cells then d.offerFrame c t else d.putTrack { d.track with collect := some c }

/-- How far, in µm, an instant lies after the last frame start, and where the next start is predicted (R211). -/
def Dev.prediction (d : Dev) (start : Nat) : Nat :=
  let extra := match (if d.placed then d.splitOf (d.headAt start) else none) with
    | some s => (d.splices.find? (fun (q : Nat × Nat × Nat) => d.onBelt ((q.1 + q.2.1 : Nat) : Int) == s.2)).map (fun (q : Nat × Nat × Nat) => q.2.1)
    | none => none
  326 * d.cellLen + extra.getD 0

/-- The distance between two instants by the tachometer, rounded down to µm. -/
def Dev.distance (d : Dev) (a b : Nat) : Int := f64Floor (d.travelled b (d.nu a))

/-- The transition nearest to the prediction stands for a mark that did not appear (R211). -/
def Dev.predictStart (d : Dev) (t : Nat) : Dev :=
  match d.track.lastStart with
  | none => d
  | some s =>
    if !d.placed then d
    else
      let p : Int := (d.prediction s : Nat)
      let off := fun (x : Nat) => (d.distance s x - p).natAbs
      let best := match d.track.near with
        | some u => if off t < off u then t else u
        | none => t
      if p + 3 * (d.cellLen : Nat) < d.distance s t then d.endMark best (cellsOf (t - best) d.track.cell) true
      else d.putTrack { d.track with near := some best }

/-- Is Δ / T̂ in [2.5, 3.5] (R211)? -/
def markInterval (dt : Nat) (cell : F64) : Bool :=
  let q := f64Div (f64OfInt dt) cell
  f64Le (f64OfRat 5 2) q && f64Le q (f64OfRat 7 2)

/-- The first transition after a splice region begins bit BIT, or the next frame (R208). -/
def Dev.afterRegion (d : Dev) (t : Nat) : Dev :=
  let d := d.putTrack { d.track with gate := none, lastT := some t, inMark := false }
  match d.track.collect with
  | some c => d.putTrack { d.track with collect := some { c with second := some t, stamps := c.stamps ++ [t] } }
  | none => d.startFrame t 0 false

/-- An interval between consecutive transitions outside the splice regions (R210, R211). -/
def Dev.trackInterval (d : Dev) (t prev : Nat) : Dev :=
  let dt := t - prev
  let n := cellsOf dt d.track.cell
  let mark := markInterval dt d.track.cell
  let ends := mark && d.track.inMark
  let d := (d.trackLoop dt n).passCells t n
  let d := d.putTrack { d.track with inMark := mark && !ends }
  if ends then d.endMark t 0 false else d.predictStart t

/-- The latest transitions, newest first; what a frame start without a mark needs of them lies within its last cells. -/
def Dev.keepRecent (d : Dev) (t : Nat) : Dev := d.putTrack { d.track with lastT := some t, recent := (t :: d.track.recent).take 32 }

/-- A corrected transition of VOICE[15] (R208 to R211). -/
def Dev.transition (d : Dev) (t : Nat) : Dev :=
  match d.track.gate with
  | some g => if d.placed && d.beforeGate (d.headAt t) g then d.putTrack { d.track with lastT := some t } else (d.keepRecent t).afterRegion t
  | none =>
    let prev := d.track.lastT
    let d := d.keepRecent t
    match prev with
    | some p => if p < t then d.trackInterval t p else d
    | none => d

/-- A stamp of VOICE[15]. In STOPPED and FAILED no frame is collected (R218), while the timing loop goes on (R210). -/
def Dev.headStamp (d : Dev) (e : Entry) : Dev :=
  let t := d.corrected15 e
  if d.trackState = 4 ∨ d.trackState = 5 then
    let d := match d.track.lastT with
      | some p => if p < t then d.trackLoop (t - p) (cellsOf (t - p) d.track.cell) else d
      | none => d
    d.putTrack { d.track with lastT := some t, inMark := false }
  else d.transition t

/-- TRACK_STAMP (R210): the track channel takes the oldest entry it has not taken of voice 14 or 15. DEDUCED: log entry 40. -/
def Dev.trackStamp (v : Nat) (d : Dev) : Dev :=
  if !d.alive || !d.is TRACK_CFG_EN || d.trackState == 0 then d
  else
    let d := d.followTach
    match (d.voice v).trackTap with
    | [] => d
    | e :: rest =>
      let d := d.putVoice v { d.voice v with trackTap := rest }
      if !e.isStamp then d
      else if v = 14 then (d.tachStamp e).followHead (e.ext * 65536 + e.m)
      else (d.headStamp e).followHead (e.ext * 65536)

/-- DROPOUT (R212): the classifier path saw WM[7] BELOW from one coarse count to another. -/
def Dev.dropout (first last : Nat) (d : Dev) : Dev :=
  if d.alive && d.is TRACK_CFG_EN && decide (first ≤ last) then
    let base := d.rd EPOCH_COUNT_COUNT * coarseMod
    d.putTrack { d.track with drops := d.track.drops ++ [((base + first) * 65536, (base + last) * 65536)] }
  else d

/-- SHOCK (R222): the classifier path saw WM[5] in SHOCK_COND. -/
def Dev.shock (d : Dev) : Dev := if d.alive && d.is TRACK_CFG_EN && d.trackState != 0 then d.markZone 2 else d

/-- The grid time of a bit's start (R212). -/
def FrameWait.bitStart (w : FrameWait) (j : Nat) : Int :=
  let cells := fun (n : Nat) => f64Floor (f64Mul (f64OfInt n) w.cell)
  match w.frame.split, w.frame.second with
  | some s, some u => if s.1 ≤ j then (u : Int) + cells (2 * (j - s.1)) else (w.frame.start : Int) + cells (2 * j)
  | _, _ => (w.frame.start : Int) + cells (2 * j)

/-- Is a bit erased: does one of its cells, widened by one cell on each side, overlap a dropout (R212)? -/
def FrameWait.erases (w : FrameWait) (drops : List (Nat × Nat)) (j : Nat) : Bool :=
  let c := f64Floor w.cell
  let a := w.bitStart j - c
  let b := w.bitStart j + 3 * c
  drops.any (fun p => decide (a ≤ (p.2 : Int)) && decide ((p.1 : Int) < b))

/-- The observation of a bit (R212): the corrected stamps in [s_j − 0.5 × T̂, s_j + 2.5 × T̂), each from the grid time s_j on; none of an
erased bit. -/
def FrameWait.observe (w : FrameWait) (drops : List (Nat × Nat)) (j : Nat) : Option (List Int) :=
  if w.erases drops j then none
  else
    let lo := f64Negate (f64Mul (f64OfRat 1 2) w.cell)
    let hi := f64Mul (f64OfRat 5 2) w.cell
    some ((w.frame.stamps.map (fun x => (x : Int) - w.bitStart j)).filter (fun x => f64Le lo (f64OfInt x) && f64Lt (f64OfInt x) hi))

/-- What the detector is given of the 160 bits of a frame. -/
def FrameWait.observed (w : FrameWait) (drops : List (Nat × Nat)) : List (Option (List Int)) := (List.range 160).map (w.observe drops)

/-- Dropouts that no frame can ask for any more are forgotten. -/
def Dev.pruneDrops (d : Dev) : Dev :=
  let t := d.track
  let l := (t.collect.map Collected.start).toList ++ t.queue.map (fun w => w.frame.start)
  match l with
  | [] => d
  | x :: r => d.putTrack { t with drops := t.drops.filter (fun p => decide (r.foldl min x ≤ p.2 + 2 ^ 40)) }

/-- ERR of R217, brought into (−BELT_LEN / 2, BELT_LEN / 2]. -/
def Dev.positionError (d : Dev) (pos head : Nat) : Int :=
  let e := d.onBelt ((pos : Int) - (head : Int))
  if d.rd BELT_LEN < 2 * e then (e : Int) - (d.rd BELT_LEN : Int) else (e : Int)

/-- A signed 32-bit register value, saturating. -/
def satSigned32 (x : Int) : Nat := ofSigned 32 (max (-(2 ^ 31)) (min (2 ^ 31 - 1) x))

/-- The position error of an accepted frame is shown and checked (R217). -/
def Dev.checkPosition (d : Dev) (pos t : Nat) : Dev :=
  let e := d.positionError pos (d.headAt t)
  let d := d.wr LAST_ERR (satSigned32 e)
  if d.rd POS_ERR_MAX < e.natAbs then ((d.markZone 1).wr TRACK_EVENT_POS_FAIL 1).fault 0x0710 reportOnly [] else d

/-- FRAME_ACCEPTED (R217, R218): the error, the new anchor and the state. -/
def Dev.anchorFrame (d : Dev) (pos t : Nat) : Dev :=
  let d := if d.placed then (d.checkBridged (d.ext * 65536)).checkPosition pos t else d
  let d := d.putTrack { d.track with anchor := some (pos, d.nu t), drRep := false }
  let d := if d.trackState = 1 then
      (d.putTrack { d.track with head := pos }).wr TRACK_STATUS_STATE 2
    else if d.trackState = 3 then d.wr TRACK_STATUS_STATE 2 else d
  d.followHead (d.ext * 65536)

/-- The recovery class of an accepted frame is HEAVY (R216). -/
def Dev.heavyAccepted (d : Dev) (c : Collected) (pass erased : Nat) : Bool :=
  decide (4 ≤ pass) || decide (d.rd TRACK_DETECT_HEAVY_ERAS < erased) || c.nomark

/-- A frame is accepted (R214 to R217). -/
def Dev.acceptFrame (d : Dev) (c : Collected) (pos pass erased : Nat) : Dev :=
  let segs := d.frameSegs pos (if c.split.isSome then d.splitOf pos else none)
  let heavy := d.heavyAccepted c pass erased
  let d := (d.inc FRAME_OK).countFrame segs true
  let d := if heavy then d.heavyFrame segs else d
  if d.trackState = 5 ∨ d.trackState = 0 then d else d.anchorFrame pos c.start

/-- What the decoder finds in a frame decides it (R214). -/
def Dev.judgeFrame (d : Dev) (c : Collected) (erased : Nat) (found : Option (List Bool × Nat)) : Dev :=
  match found with
  | none => d.failFrame c 0x0701
  | some (bits, pass) =>
    let pos := codeField bits 0 40
    let good := codeField bits 40 8 == d.rd TRACK_CFG_BELT_ID && decide (pos < d.rd BELT_LEN) && codeField bits 48 8 == d.segOf pos / 16
    if good then d.acceptFrame c pos pass erased else d.failFrame c 0x0703

/-- FRAME_DECODE (R213 to R217): the frame at the head of the queue is decoded. -/
def Dev.frameDecode (d : Dev) : Dev :=
  match d.track.queue with
  | [] => d
  | w :: rest =>
    if !d.alive || !d.is TRACK_CFG_EN then d
    else
      let d := d.putTrack { d.track with queue := rest }
      if w.deadline < d.ext * 65536 then (d.lateFrame w.frame).pruneDrops
      else
        let obs := w.observed d.track.drops
        (d.judgeFrame w.frame (obs.filter Option.isNone).length (outerPasses (d.rd TRACK_DETECT_SIGMA) w.cell obs 6 1 [])).pruneDrops

/-- FRAME_LATE (R215): the frame at the head of the queue has not ended by its deadline. -/
def Dev.frameLate (d : Dev) : Dev :=
  match d.track.queue with
  | [] => d
  | w :: rest =>
    if d.alive && decide (w.deadline ≤ d.ext * 65536) then ((d.putTrack { d.track with queue := rest }).lateFrame w.frame).pruneDrops
    else d

/-- PROF of a segment. -/
def Dev.profile (d : Dev) (s : Nat) : F64 := Tab.read f64Zero d.track.prof s

/-- A segment is closed (R221). -/
def Dev.closeSegment (d : Dev) (s : Nat) (at0 : Nat × Nat) : Dev :=
  let t := d.track
  let d := d.putTrack { t with okSeg := Store.erase t.okSeg s, badSeg := Store.erase t.badSeg s, resultSeg := Store.erase t.resultSeg s }
  d.trackRecord 0 s (Store.read t.resultSeg s * 8) (Tab.read f64Zero t.acc s) 0 (Store.read t.okSeg s) (Store.read t.badSeg s) at0

/-- M_z: the accumulators of a zone added in ascending order (R221). -/
def Dev.zoneMass (d : Dev) (z : Nat) : F64 :=
  (List.range 15).foldl (fun m i => f64Add m (Tab.read f64Zero d.track.acc (16 * z + i + 1))) (Tab.read f64Zero d.track.acc (16 * z))

/-- The commit of a zone mass (R223): the entry and k. -/
def Dev.commitMass (d : Dev) (m : F64) : Dev × Nat :=
  let b := d.totLatest
  let td := d.rdF TOT_D
  let res := f64Add (BitVec.ofNat 64 b.res) m
  let k := (max 0 (f64Floor (f64Div res td))).toNat
  let left := f64Sub res (f64Mul (f64OfInt k) td)
  (d.queueTot { b with cause := 2, total := (b.total + k) % 2 ^ 64, res := left.toNat, delta := k % 2 ^ 32 }, k)

/-- A mass goes to the provisional accumulator (R224). -/
def Dev.addProv (d : Dev) (m : F64) : Dev :=
  let b := d.totLatest
  d.queueTot { b with cause := 3, prov := (f64Add (BitVec.ofNat 64 b.prov) m).toNat, provCount := incHold 32 b.provCount, delta := 0 }

/-- Does the classifier path see WM[5] in SHOCK_COND (R222, R117)? -/
def Dev.shaken (d : Dev) : Bool := levelSelected (d.rd TRACK_CFG_SHOCK_COND) (d.wmOut 5)

/-- The causes a zone has from its start: PROFILE while PROF_VALID is 0, and SHOCK while a shock goes on (R222). -/
def Dev.freshCauses (d : Dev) : Nat := (if d.is TRACK_STATUS_PROF_VALID then 0 else 32) + (if d.shaken then 2 else 0)

/-- ZONE_CLOSE (R221, R222): zone `z` is committed or made provisional. -/
def Dev.closeZone (d : Dev) (z : Nat) (at0 : Nat × Nat) : Dev :=
  let t := d.track
  let m := d.zoneMass z
  let seg := 16 * z + 15
  let ok := Store.read t.okZone z
  let bad := Store.read t.badZone z
  let d := d.putTrack
    { t with acc := t.acc.filter (fun p => p.1 / 16 != z), okZone := Store.erase t.okZone z, badZone := Store.erase t.badZone z,
             causes := d.freshCauses, learnBad := t.learnBad || (t.inRun && t.causes &&& 0x5F != 0) }
  if t.causes = 0 then
    let r := if d.rd TOT_CFG_SRC = 2 then d.commitMass m else (d, 0)
    r.1.trackRecord 1 seg 0 m r.2 ok bad at0
  else
    let d := (d.addProv m).trackRecord 2 seg t.causes m 0 ok bad at0
    let d := if t.causes.testBit 1 then (d.wr TRACK_EVENT_SHOCK 1).fault 0x0711 reportOnly [] else d
    (d.wr TRACK_EVENT_PROVISIONAL 1).fault 0x0713 reportOnly []

/-- The mean load of a segment in a learning run (R226). -/
def Dev.learned (d : Dev) (s : Nat) : F64 :=
  f64Div (Tab.read f64Zero d.track.learnSum s) (f64OfInt (Store.read d.track.learnCount s))

/-- May the profile of the run be taken (R226)? -/
def Dev.learnGood (d : Dev) : Bool :=
  !d.track.learnBad && (List.range 1024).all (fun s =>
    Store.read d.track.learnCount s != 0 && f64Le (f64Abs (d.learned s)) (d.rdF PROF_MAX))

/-- The 32 records of a profile (R313). -/
def Dev.logProfile (d : Dev) : Dev :=
  d.each (List.range 32) (fun d k =>
    d.log 6 (bytesLE 2 d.track.pid ++ [k, 0] ++ (List.range 32).flatMap (fun i => bytesLE 8 (d.profile (32 * k + i)).toNat)))

/-- LEARN_RUN_END (R226). -/
def Dev.endLearning (d : Dev) : Dev :=
  let good := d.learnGood
  let fresh := (List.range 1024).map (fun s => (s, d.learned s))
  let d := (d.putTrack { d.track with learn := 0, passed := false, inRun := false, learnSum := [], learnCount := [],
                                       learnBad := false }).wr TRACK_STATUS_LEARNING 0
  let d := d.wr TRACK_EVENT_LEARN_DONE 1
  if good then
    ((d.putTrack { d.track with prof := fresh, pid := (d.track.pid + 1) % 65536 }).wr TRACK_STATUS_PROF_VALID 1).logProfile
  else d.fault 0x0732 reportOnly []

/-- σ_a passes from the last segment to the first: a learning run gathers from here on, over one revolution (R226).
DEDUCED: log entry 80. -/
def Dev.learnTurn (d : Dev) : Dev :=
  if d.track.learn = 0 then d
  else if d.track.learn = 2 ∧ d.track.inRun then d.endLearning
  else d.putTrack { d.track with inRun := true, learnSum := [], learnCount := [], learnBad := false }

/-- σ_a advances by one segment (R220, R221). -/
def Dev.leaveSegment (d : Dev) (at0 : Nat × Nat) : Dev :=
  match d.track.sigma with
  | none => d
  | some s =>
    let d := d.closeSegment s at0
    let d := if s % 16 = 15 then d.closeZone (s / 16) at0 else d
    let d := if s = 1023 then d.learnTurn else d
    d.putTrack { d.track with sigma := some ((s + 1) % 1024) }

/-- σ_a advances by `n` segments. -/
def Dev.leaveSegments (at0 : Nat × Nat) : Nat → Dev → Dev
  | 0, d => d
  | n + 1, d => Dev.leaveSegments at0 n (d.leaveSegment at0)

/-- The attribution segment follows that of the bridge point at the end of a period (R220). The first segment after a start is entered in
the middle of its zone. -/
def Dev.advanceSigma (d : Dev) (s : Nat) (at0 : Nat × Nat) : Dev :=
  let d := match d.track.sigma with
    | none => d.putTrack { d.track with sigma := some s, causes := 64 ||| d.freshCauses }
    | some a => if (s + 1024 - a) % 1024 < 512 then Dev.leaveSegments at0 ((s + 1024 - a) % 1024) d else d
  d.wr TRACK_STATUS_ZONE_BRIDGE (d.track.sigma.getD 0 / 16)

/-- The speed of a period: SPEED, the seed of R210, STOPPED, and the limit V_MAX (R218, R219, R222). -/
def Dev.takeSpeed (d : Dev) (v : F64) : Dev :=
  let mms := f64Mul v (f64OfInt 1000)
  let shown := if f64Lt (f64OfInt 65535) mms then 65535 else (f64ToIntEven mms).toNat
  let d := d.wr SPEED shown
  let d := if f64Lt f64Zero v then
      let seed := f64Mul (f64Div (f64OfInt d.cellLen) v) (f64OfInt 52428800)
      let lo := f64Mul (f64OfRat 4 5) seed
      let hi := f64Mul (f64OfRat 5 4) seed
      let cell := if f64IsZero d.track.cell then seed else f64Max lo (f64Min hi d.track.cell)
      let held := if d.track.gate.isSome then d.track.cell else cell
      d.putTrack { d.track with seed := seed, cell := held }
    else d
  let slow := f64Lt mms (f64OfInt 50)
  let d := if slow ∧ (d.trackState = 2 ∨ d.trackState = 3) then
      let d := d.cutFrame
      (d.putTrack { d.track with near := none, lastStart := none, gate := none }).wr TRACK_STATUS_STATE 4
    else if !slow ∧ d.trackState = 4 then d.wr TRACK_STATUS_STATE 3
    else d
  if f64Lt (f64OfInt (d.rd V_MAX)) mms then ((d.markZone 16).wr TRACK_EVENT_SPEED_HIGH 1).fault 0x0720 reportOnly [] else d

/-- The mass of a period: m = ((G − PROF) × Δs) / WEIGH_LEN (R220). -/
def Dev.periodMass (d : Dev) (g prof ds : F64) : F64 := f64Div (f64Mul (f64Sub g prof) ds) (f64OfInt (d.rd WEIGH_LEN))

/-- A result period adds its mass to σ_a, and in a learning run its gross to the segment's mean (R220, R226). -/
def Dev.attribute (d : Dev) (s : Nat) (g ds : F64) : Dev :=
  let t := d.track
  let m := d.periodMass g (d.profile s) ds
  let t := { t with acc := Tab.write t.acc s (f64Add (Tab.read f64Zero t.acc s) m) }
  let t := if t.learn ≠ 0 ∧ t.inRun then
      { t with learnSum := Tab.write t.learnSum s (f64Add (Tab.read f64Zero t.learnSum s) g),
               learnCount := Store.write t.learnCount s (Store.read t.learnCount s + 1) }
    else t
  d.putTrack t

/-- A mass without a place (R220): UNASSIGNED. Before any segment was attributed the profile value is free (log entry 5). -/
def Dev.unassigned (d : Dev) (g ds : F64) (at0 : Nat × Nat) : Dev :=
  let s := d.track.sigma.getD (d.openValue % 1024)
  let d := if d.track.sigma.isSome then d else d.nextFree
  let m := d.periodMass g (d.profile s) ds
  (d.addProv m).trackRecord 3 s 0 m 0 0 0 at0

/-- The mass of a period with a segment, or the mark of a segment whose period has no result while the belt moved (R220, R221). -/
def Dev.placeMass (d : Dev) (g : Option F64) (ds : F64) : Dev :=
  match g, d.track.sigma with
  | some x, some s => d.attribute s x ds
  | none, some s =>
    if f64IsZero ds then d
    else (d.putTrack { d.track with resultSeg := Store.write d.track.resultSeg s 1 }).markZone 8
  | _, none => d

/-- What a period shows of the belt at its end boundary (R219, R220): the displacement, the speed, the state and, while the position is
established, the segment of the bridge point. -/
structure BeltEnd where
  ds : F64
  speed : F64
  state : Nat
  seg : Option Nat
deriving DecidableEq, Repr

/-- No track channel. -/
def BeltEnd.none : BeltEnd := { ds := f64Zero, speed := f64Zero, state := 0, seg := .none }

/-- A boundary of the pipeline's timer that ends a period from `start` to `stop` (R210, R217 to R220): the tachometer is taken up to it, the
speed is shown and the seed formed. -/
def Dev.beltBoundary (d : Dev) (start stop : Nat) : Dev × BeltEnd :=
  if !d.is TRACK_CFG_EN || d.trackState == 0 then (d, BeltEnd.none)
  else
    let d := (d.drainTach stop).followTach
    if d.trackState = 5 then (d, { BeltEnd.none with state := 5 })
    else
      let ds := f64Mul (d.rdF TACH_UM) (f64Sub (d.nu (stop * 65536)) (d.nu (start * 65536)))
      let d := if d.track.tach.length = 1 then d.nextFree else d
      let speed := f64Div ds (f64OfRat ((stop - start : Nat) : Int) 800)
      let d := (d.takeSpeed speed).followHead (stop * 65536)
      let seg := if d.placed then some (d.segOf (d.bridgeOf (d.headAt (stop * 65536)))) else none
      (d, { ds := ds, speed := speed, state := d.trackState, seg := seg })

/-- A period while the bridge point has a place: its marks, then its mass. -/
def Dev.placedPeriod (d : Dev) (seg : Nat) (at0 : Nat × Nat) (g : Option F64) (ds speed : F64) : Dev :=
  let d := d.advanceSigma seg at0
  let d := d.markZone d.freshCauses
  let fast := f64Lt (f64OfInt (d.rd V_MAX)) (f64Mul speed (f64OfInt 1000))
  (if fast then d.markZone 16 else d).placeMass g ds

/-- TRACK_PERIOD (R219 to R222) of a period of the pipeline: `g` is its gross when it committed a result without error, overload or
underload. -/
def Dev.trackPeriod (d : Dev) (j : PipeJob) (g : Option F64) : Dev :=
  let at0 := (j.stop, j.pseq + 1)
  if j.belt = 0 then d
  else if j.belt = 5 then d.markZone 16
  else
    match j.seg, g with
    | some s, _ => d.placedPeriod s at0 g j.ds j.speed
    | none, some x => if f64Lt f64Zero j.ds then d.unassigned x j.ds at0 else d
    | none, none => d

/-- LEARN_PROFILE (R226): TRACK_CMD 0xD1. -/
def Dev.learnProfile (d : Dev) : Dev :=
  if d.is TRACK_CFG_EN && d.track.learn == 0 then d.putTrack { d.track with learn := 1 } else d

/-- LEARN_RUN_START (R226): the bridge point has passed 0 since the request. -/
def Dev.learnRunStart (d : Dev) : Dev :=
  if d.alive && d.is TRACK_CFG_EN && d.track.learn == 1 && d.track.passed then
    (d.putTrack { d.track with learn := 2 }).wr TRACK_STATUS_LEARNING 1
  else d

/-- CLEAR_PROV (R224): TRACK_CMD 0xD3. -/
def Dev.clearProv (d : Dev) : Dev :=
  let b := d.totLatest
  let d := d.log 4 (bytesLE 8 b.prov ++ bytesLE 4 b.provCount)
  d.queueTot { b with cause := 4, prov := 0, provCount := 0, delta := 0 }

/-- EMPTY_WEAK_MAP (R225): TRACK_CMD 0xD4, with the seal open. -/
def Dev.emptyWeakMap (d : Dev) : Dev :=
  if !d.is PIN_LEVEL_SEAL_OPEN then d
  else
    let d := d.each (List.range 64) (fun d w => (d.wr (WEAK_MAP_SEG w) 0).wr (WEAK_MAP_VALID w) 0)
    let d := (d.putTrack { d.track with fullRep := false }).wr TRACK_STATUS_WEAK_FULL 0
    d.log 5 (d.weakPayload 2 0)

/-- REACQUIRE (R218): TRACK_CMD 0xD5. -/
def Dev.reacquire (d : Dev) : Dev := if d.is TRACK_CFG_EN && d.trackState != 0 then d.acquire.followTach else d

/-- A start of the track channel (R229): the frames collected before it end without acceptance (R214). -/
def Dev.startTrack (d : Dev) : Dev :=
  let d := d.raiseEpoch 3
  let d := d.each d.track.queue (fun d w => d.failFrame w.frame 0x0701)
  let d := (d.markZone 64).acquire
  let t := d.track
  let z := t.sigma.getD 0 / 16
  let d := d.putTrack { t with acc := t.acc.filter (fun p => p.1 / 16 != z), resultSeg := t.resultSeg.filter (fun p => p.1 / 16 != z),
                               queue := [], drops := [], lastT := none, recent := [], tach := [], seen := 0 }
  if d.is TRACK_CFG_EN then d.followTach else d.wr TRACK_STATUS_STATE 0

/-- The weak-segment map and the profile are restored from the log (R225, R226). A profile of another BELT_LEN is not valid (R229).
DEDUCED: log entry 80. -/
def Dev.restoreTrack (d : Dev) : Dev :=
  let l := d.records
  let d := match latestOf 5 l with
    | some r => d.each (List.range 64) (fun d w =>
        let x := ofBytesLE ((r.payload.drop (4 + 2 * w)).take 2)
        (d.wr (WEAK_MAP_SEG w) (x % 1024)).wr (WEAK_MAP_VALID w) (x / 2 ^ 15))
    | none => d
  match completePid l with
  | none => d
  | some p =>
    let parts := l.filter (fun r => r.kind == 6 && r.pid == p)
    let cells := parts.flatMap (fun r => (List.range 32).map (fun i =>
      (32 * r.part + i, (BitVec.ofNat 64 (ofBytesLE ((r.payload.drop (4 + 8 * i)).take 8)) : F64))))
    let prof := cells.foldl (fun t c => Tab.write t c.1 c.2) []
    let same := match d.track.belt with
      | some b => b == d.rd BELT_LEN
      | none => true
    (d.putTrack { d.track with prof := prof, pid := p }).wr TRACK_STATUS_PROF_VALID (bit same)

/-- VOICE_START (R86), with which the track channel leaves FAILED (R218). -/
def Dev.voiceBegins (n : Nat) (d : Dev) : Dev :=
  let d := Dev.voiceStart n d
  if n = 14 then d.followTach else d

end Sys2Proof.Machine
end

