-- ==== Sys2Proof/Machine/Pipeline.lean ====
section
/-! DEFINITION.
The weighing pipeline (R176 to R203): the stages of R182, the legal result, the setpoints and the totaliser pulse.
-/

namespace Sys2Proof.Machine

open Reg

/-- Replace the pipeline. -/
def Dev.putPipe (d : Dev) (p : Pipe) : Dev := { d with pipe := p }

/-- A binary64 shown in a diagnostic register. -/
def Dev.wrF (d : Dev) (f : Fld) (x : F64) : Dev := d.wr f x.toNat

/-- The timer of the pipeline. -/
def Dev.pipeTimer (d : Dev) : Nat := d.rd PIPE_CFG_TIMER

/-- The enabled cells (R176), ascending. -/
def Dev.cells (d : Dev) : List Nat := (List.range 8).filter (fun c => d.is (CELL_CFG_EN c))

/-- P_j of R178. -/
def Dev.cellPoly (d : Dev) (c j : Nat) (x : F64) : F64 :=
  let k := fun (i : Nat) => d.rdF (CELL_COEF_COEF c (5 * j + i))
  f64Add (f64Mul (f64Add (f64Mul (f64Add (f64Mul (f64Add (f64Mul (k 4) x) (k 3)) x) (k 2)) x) (k 1)) x) (k 0)

/-- The values of R177, R178 and R180 for one cell: x, τ, W and V. -/
def Dev.cellValues (d : Dev) (c : Nat) (ratio fb : F64) : List F64 :=
  let x := f64Sub ratio (d.rdF (CELL_Q_REF_Q_REF c))
  let tau := f64Sub (f64Div fb (d.rdF (CELL_NOM_T_NOM_T c))) f64One
  let p0 := d.cellPoly c 0 x
  let p1 := d.cellPoly c 1 x
  let p2 := d.cellPoly c 2 x
  let w := f64Add (f64Mul (f64Add (f64Mul p2 tau) p1) tau) p0
  [x, tau, p0, p1, p2, w, f64Mul (d.rdF (CELL_GAIN_GAIN c)) w]

/-- Is RATIO outside Q_MIN to Q_MAX (R179)? -/
def Dev.ratioBad (d : Dev) (c : Nat) (ratio : F64) : Bool :=
  f64Lt ratio (d.rdF (CELL_Q_MIN_Q_MIN c)) || f64Lt (d.rdF (CELL_Q_MAX_Q_MAX c)) ratio

/-- Add values in order, starting from the first (R180, R181). -/
def f64SumList : List F64 → F64
  | [] => f64Zero
  | x :: r => r.foldl f64Add x

/-- The result of the pair of a cell in a job. -/
def Dev.cellResult (d : Dev) (j : PipeJob) (c : Nat) : PairRes :=
  Tab.read { reason := 2, ratio := f64Zero, fb := f64Zero } j.res (d.rd (CELL_CFG_PAIR c))

/-- Have all enabled cells their pair results? A job of before a start of the pipeline waits for none. -/
def Dev.jobReady (d : Dev) (j : PipeJob) : Bool :=
  j.stale || d.cells.all (fun c => j.res.any (fun p => p.1 == d.rd (CELL_CFG_PAIR c)))

/-- The reasons of the cells' pair entries as a mask. -/
def Dev.cellCauses (d : Dev) (j : PipeJob) : Nat :=
  d.cells.foldl (fun m c => let r := (d.cellResult j c).reason; if r = 0 then m else m ||| 2 ^ r) 0

/-- A rest with its reasons. -/
def restSum (causes : Nat) : SumVal := { value := f64Zero, reason := firstReason causes, causes := causes }

/-- The values of the cells that have a result; a cell with a rest forms none. -/
def Dev.formed (d : Dev) (j : PipeJob) (c : Nat) : List F64 :=
  if (d.cellResult j c).reason = 0 then d.cellValues c (d.cellResult j c).ratio (d.cellResult j c).fb else []

/-- The enabled cells whose RATIO lies outside Q_MIN to Q_MAX (R179), whatever the other cells show. -/
def Dev.badCells (d : Dev) (j : PipeJob) : List Nat :=
  d.cells.filter (fun c => (d.cellResult j c).reason == 0 && d.ratioBad c (d.cellResult j c).ratio)

/-- Stages 1 to 4 (R177 to R180): the local sum of a job, or its rest, with the corner values and the errors of R179. A stale job is a rest
with its own reason alone. -/
def Dev.sumCells (d : Dev) (j : PipeJob) : PipeJob :=
  if j.stale then { j with own := some (restSum j.extra) }
  else
    let vals := d.cells.map (d.formed j)
    let vs := vals.map (fun l => l.getD 6 f64Zero)
    let causes := d.cellCauses j ||| j.extra
    let l := if causes = 0 then f64SumList vs else f64Zero
    { j with own := some (if causes = 0 then { value := l, reason := 0, causes := 0 } else restSum causes), vs := vs,
             badRatio := !(d.badCells j).isEmpty, arith := !(f64IsFinite l && vals.all (fun v => v.all f64IsFinite)) }

/-- The faults of R179: 0x0602 for voice A of each cell out of range, 0x0601 for a value that is not finite. -/
def Dev.sumFaults (d : Dev) (j : PipeJob) : Dev :=
  let bad := if j.badRatio then d.badCells j else []
  let d := d.each bad (fun d c => d.fault 0x0602 transient [d.rd (FIT_PAIR_CFG_VOICE_A (d.rd (CELL_CFG_PAIR c)))])
  if j.arith then d.fault 0x0601 transient [srcDevice] else d

/-- Replace the first job without an own sum. -/
def replaceJob (f : PipeJob → PipeJob) : List PipeJob → List PipeJob
  | [] => []
  | j :: r => if j.own.isNone then f j :: r else j :: replaceJob f r

/-- Voices A and B of a pair. -/
def Dev.pairVoices (d : Dev) (p : Nat) : Nat × Nat := (d.rd (FIT_PAIR_CFG_VOICE_A p), d.rd (FIT_PAIR_CFG_VOICE_B p))

/-- The reason that a pair has before any result, at the boundary that ends its period of timer `t` (R148, R153, R229): 12 when the
period overlaps HOLD; the first cause of its voices
where the period is not produced, and a free one where they show none (log entry 5). -/
def Dev.pairReason (d : Dev) (t p : Nat) : Nat :=
  let v := d.pairVoices p
  let causes := (d.voice v.1).causes ||| (d.voice v.2).causes
  if d.mode = 2 ∨ !(d.timer t).clean then 12 else if firstReason causes ≠ 0 then firstReason causes else 1 + d.openValue % 15

/-- Will the period that begins at `start` of timer `t` give a result of pair `p` (R140)? -/
def Dev.pairWaits (d : Dev) (t start p : Nat) : Bool :=
  let v := d.pairVoices p
  (d.timer t).live && d.mode != 2 && d.is (FIT_PAIR_CFG_EN p) && d.timerOf v.1 == t && d.voiceProduces v.1 start && d.voiceProduces v.2 start

/-- The pairs that give no result for a period, each with its reason. -/
def Dev.presets (d : Dev) (t start : Nat) : Tab PairRes :=
  (d.cells.map (fun c => d.rd (CELL_CFG_PAIR c))).foldl
    (fun m p => if d.pairWaits t start p then m else Tab.write m p { reason := d.pairReason t p, ratio := f64Zero, fb := f64Zero }) []

/-- A boundary of the pipeline's timer opens a job (R176, R182): a pair result is awaited for every enabled cell but those that give
none. `stale` says that the pipeline has started anew at the boundary. -/
def Dev.openJob (d : Dev) (start stop pseq : Nat) (res : Tab PairRes) (extra : Nat) (stale : Bool) (b : BeltEnd) : Dev :=
  let j : PipeJob :=
    { start := start, stop := stop, pseq := pseq, res := res, extra := extra ||| (if stale then 2 ^ 7 else 0), own := none, sum := none,
      vs := [], badRatio := false, arith := false, cmd := 0, refused := 0, cmdSrc := 0, cmdSeq := 0, digest := none, realign := [],
      stale := stale, ds := b.ds, speed := b.speed, belt := b.state, seg := b.seg }
  (d.putPipe { d.pipe with jobs := d.pipe.jobs ++ [j] }).nextFree

/-- The periods under way when the pipeline starts with other settings: each still gives its entry, and feeds nothing to the new filters. One
without its own sum is a rest with reason 7. DESIGN CHOICE: log entry 78. -/
def Dev.staleJobs (d : Dev) : List PipeJob :=
  d.pipe.jobs.map (fun (j : PipeJob) => { j with stale := true, extra := if j.own.isNone then j.extra ||| 2 ^ 7 else j.extra })

/-- e_i of range `r` (R191). -/
def Dev.interval (d : Dev) (r : Nat) : F64 := f64Mul (f64OfInt (d.rd (RANGE_MULT (r - 1)))) (d.rdF E_BASE)

/-- MAX_i. -/
def Dev.rangeMax (d : Dev) (r : Nat) : F64 := d.rdF (RANGE_MAX (r - 1))

/-- The range in force. -/
def Dev.range (d : Dev) : Nat := d.rd LR_STATUS_RANGE

/-- OVERLOAD of a gross value (R194). -/
def Dev.overloaded (d : Dev) (g : F64) : Bool :=
  let r := d.rd PIPE_CFG_RANGES
  f64Lt (f64Add (d.rangeMax r) (f64Mul (f64OfInt 9) (d.interval r))) g

/-- UNDERLOAD of a gross value (R194). -/
def Dev.underloaded (d : Dev) (g : F64) : Bool :=
  f64Lt g (f64Negate (f64Mul (f64OfInt (d.rd PIPE_MOTION_UNDER_E)) (d.rdF E_BASE)))

/-- The range selected for a gross value (R191). -/
def Dev.selectRange (d : Dev) (g : F64) (stable : Bool) : Nat :=
  let rp := d.range
  let n := d.rd PIPE_CFG_RANGES
  if rp < n ∧ f64Lt (d.rangeMax rp) g then
    ((List.range 4).find? (fun i => decide (rp < i) && decide (i ≤ n) && f64Le g (d.rangeMax i))).getD n
  else if 1 < rp ∧ stable ∧ f64Le (f64Abs g) (f64Mul (f64OfRat 1 4) (d.rdF E_BASE)) then 1
  else rp

/-- The nearest multiple of an interval, ties to even; a quotient that is not finite has no value (the period is an overload or an
underload then, and shows 0). -/
def roundTo (x e : F64) : Int :=
  let q := f64Div x e
  if f64IsFinite q then f64ToIntEven q else 0

/-- The value of the moving average (R185). -/
def Dev.average (d : Dev) : F64 := f64Div (f64SumList d.pipe.ma) (f64OfInt d.pipe.ma.length)

/-- N of R185. -/
def Dev.maLength (d : Dev) : Nat := d.rd PIPE_CFG_N_MA + 1

/-- Feed S to the moving average (R185). -/
def Dev.feed (d : Dev) (s : F64) : Dev :=
  let ma := d.pipe.ma ++ [s]
  let ma := ma.drop (ma.length - d.maLength)
  (d.putPipe { d.pipe with ma := ma }).wr PIPE_STATUS_FED ma.length |>.wr PIPE_STATUS_READY (bit (ma.length == d.maLength))

/-- The IIR filter (R186): F, and the terms kept. -/
def Dev.filter (d : Dev) : Dev × F64 :=
  let p := d.pipe
  let a := d.average
  if !d.is PIPE_CFG_IIR_EN then (d, a)
  else
    let p := if p.iirFresh then { p with a1 := a, a2 := a, f1 := a, f2 := a, iirFresh := false } else p
    let s0 := f64Mul (d.rdF IIR_B0) a
    let s1 := f64Add s0 (f64Mul (d.rdF IIR_B1) p.a1)
    let s2 := f64Add s1 (f64Mul (d.rdF IIR_B2) p.a2)
    let s3 := f64Sub s2 (f64Mul (d.rdF IIR_A1) p.f1)
    let f := f64Sub s3 (f64Mul (d.rdF IIR_A2) p.f2)
    (d.putPipe { p with a2 := p.a1, a1 := a, f2 := p.f1, f1 := f }, f)

/-- Motion detection (R187): the window takes F; STABLE is answered, and whether every value formed is finite. -/
def Dev.detectMotion (d : Dev) (f : F64) : Dev × Bool × Bool :=
  let w := d.rd PIPE_MOTION_WIN
  let l := d.pipe.motion ++ [f]
  let l := l.drop (l.length - w)
  let limit := f64Mul (f64Div (f64OfInt (d.rd PIPE_MOTION_K)) (f64OfInt 4)) (d.interval d.range)
  let diffs := l.map (fun x => f64Abs (f64Sub x f))
  let d := (d.putPipe { d.pipe with motion := l }).wr PIPE_STATUS_MOTION_FILL l.length
  (d, decide (l.length = w) && diffs.all (fun x => f64Le x limit), f64IsFinite limit && diffs.all f64IsFinite)

/-- The initial zero (R188). DEDUCED: log entry 37. -/
def Dev.tryInitZero (d : Dev) (f : F64) (stable : Bool) : Dev :=
  if d.is PIPE_STATUS_INIT_DONE || !stable then d
  else if f64Le (f64Negate (d.rdF IZ_NEG)) f && f64Le f (d.rdF IZ_POS) then
    (d.putPipe { d.pipe with z := f, zInit := f, initTried := false }).wr PIPE_STATUS_INIT_DONE 1
  else
    let was := d.pipe.initTried
    let d := d.putPipe { d.pipe with initTried := true }
    if was then d else d.fault 0x0604 reportOnly []

/-- The entry of RING_17 for a period or a print (R196). -/
def Dev.resultWords (d : Dev) (j : PipeJob) (kind reason code zt printNo : Nat) : List Nat :=
  let st := d.rd LR_STATUS_STABLE + d.rd LR_STATUS_CENTER_ZERO * 2 + d.rd LR_STATUS_RANGE * 4 + d.rd LR_STATUS_NET * 16 +
    d.rd LR_STATUS_OVERLOAD * 32 + d.rd LR_STATUS_UNDERLOAD * 64 + d.rd LR_STATUS_ERROR * 128 + d.rd LR_STATUS_ERR_CAUSE * 256
  let w0 := j.start % coarseMod * 1024 + d.rd LR_WEIGHT_WEIGHT * 2 ^ 64 + st * 2 ^ 96 + kind * 2 ^ 108 + j.pseq % 65536 * 2 ^ 112
  let w1 := d.rd LR_TARE_TARE + d.rd LR_STATUS_RESTS * 2 ^ 32 + reason * 2 ^ 40 + j.cmd * 2 ^ 44 + code * 2 ^ 48 + zt * 2 ^ 52 +
    printNo * 2 ^ 64 + d.rd CHECK_CODE * 2 ^ 96
  [w0, w1]

/-- The outcome of an operator command is shown on the device it was written on (R197). DEDUCED: log entry 39. -/
def Dev.reportCmd (d : Dev) (j : PipeJob) (code : Nat) : Dev :=
  if j.cmd ≠ 0 ∧ j.cmdSrc = d.addr ∧ d.is OP_STATUS_PENDING ∧ j.cmdSeq = d.rd OP_STATUS_SEQ then
    let d := d.putChoir { d.choir with own := none }
    (((d.wr OP_STATUS_PENDING 0).wr OP_STATUS_RESULT code).wr OP_STATUS_CODE (0xB0 + j.cmd)).notify 3 (0xB0 + j.cmd) (code + d.rd OP_STATUS_SEQ * 256 + j.pseq % 65536 * 65536)
  else d

/-- Setpoint `i` at a commit (R199): `v` is WEIGHT_G or WEIGHT as SRC selects. -/
def Dev.setpoint (d : Dev) (i : Nat) (g w : Int) (forced stable : Bool) : Dev :=
  let src := d.rd (SP_CFG_SRC i)
  if src = 0 ∨ forced then d.spForce i
  else
    let v := if src = 1 then g else w
    let level := toSigned 32 (d.rd (SP_LEVEL_LEVEL i))
    let hyst : Int := (d.rd (SP_HYST_HYST i) : Nat)
    let may := stable || !d.is (SP_CFG_REQ_STABLE i)
    let below := d.is (SP_CFG_DIR i)
    let onNow := if below then decide (v ≤ level) else decide (level ≤ v)
    let offNow := if below then decide (level + hyst < v) else decide (v < level - hyst)
    let was := d.is (SP_STATE_ON i)
    let isOn := if was then !offNow else onNow && may
    let active := d.rd (SP_CFG_ACTIVE_LEVEL i)
    ((d.wr (SP_STATE_ON i) (bit isOn)).wr (SP_STATE_FORCED i) 0).spPin i (if isOn then active else 1 - active)

/-- The code a command has before its own conditions (R197): 10, 11 from the cantor, then 7 at a rest. -/
def Dev.maskedCode (d : Dev) (j : PipeJob) (rest : Bool) : Option Nat :=
  if j.refused ≠ 0 then some j.refused
  else if !(d.rd PIPE_CFG_OP_MASK).testBit (j.cmd - 1) then some 10
  else if rest then some 7
  else none

/-- The code of a command in a period that is an error (R197): CLEAR_TARE asks for NET 1 alone (R192). DEDUCED: log entry 37. -/
def Dev.errorCode (d : Dev) (j : PipeJob) (rest : Bool) : Nat :=
  if j.cmd = 0 then 0 else (d.maskedCode j rest).getD (if j.cmd = 3 then (if d.is LR_STATUS_NET then 0 else 6) else 2)

/-- An accepted CLEAR_TARE (R192). -/
def Dev.clearTareNow (d : Dev) : Dev := ((d.putPipe { d.pipe with t := f64Zero }).wr LR_TARE_TARE 0).wr LR_STATUS_NET 0

/-- The motion window is cleared (R187). -/
def Dev.clearMotion (d : Dev) : Dev := (d.putPipe { d.pipe with motion := [] }).wr PIPE_STATUS_MOTION_FILL 0

/-- The diagnostic values of the period (R201); what the period does not form shows 0. DESIGN CHOICE: log entry 78. -/
def Dev.showDiag (d : Dev) (s f g : F64) (vs : List F64) : Dev :=
  let d := (((d.wrF DIAG_S_S s).wrF DIAG_F_F f).wrF DIAG_G_G g).wrF DIAG_Z_Z d.pipe.z
  let d := (d.wrF DIAG_Z_INIT_Z_INIT d.pipe.zInit).wrF DIAG_T_T d.pipe.t
  let d := d.each (List.range 8) (fun d c => d.wr (DIAG_V_V c) 0)
  d.each (d.cells.zip vs) (fun d p => d.wrF (DIAG_V_V p.1) p.2)

/-- The end of a period that shows an error: SEQ, the setpoints, the entry of RING_17 (R184, R195, R196). A rest clears the motion window. -/
def Dev.commitBad (d : Dev) (j : PipeJob) (cause reason : Nat) (rest : Bool) : Dev :=
  let code := d.errorCode j rest
  let d := if j.cmd = 3 ∧ code = 0 then d.clearTareNow.wrF DIAG_T_T f64Zero else d
  let d := if rest then d.clearMotion else d
  let d := (d.wr LR_STATUS_RESTS 0).showError cause
  let d := ((d.wr LR_SEQ_PSEQ j.pseq).spForceAll).countCommit 3
  (d.reportCmd j code).offer 17 2 (d.resultWords j 3 reason code 0 0)

/-- A rest of R183; beyond REST_HOLD_MAX an error with cause REST_HOLD. -/
def Dev.commitRest (d : Dev) (j : PipeJob) (reason : Nat) : Dev :=
  let code := d.errorCode j true
  let d := d.clearMotion
  let d := (d.inc LR_STATUS_RESTS).wr LR_STATUS_REST_REASON reason |>.wr LR_STATUS_STABLE 0 |>.wr LR_STATUS_CENTER_ZERO 0
  let beyond := decide (d.rd PIPE_CFG_REST_HOLD_MAX < d.rd LR_STATUS_RESTS)
  let enters := beyond && !d.pipe.restLatched
  let d := if enters then
      (((d.putPipe { d.pipe with restLatched := true, severe := true }).restartFilters).showError 4).fault 0x0603 reportOnly []
    else d
  let d := if beyond then d.spForceAll else (d.wr LR_STATUS_ERROR 0).wr LR_STATUS_ERR_CAUSE 0
  let kind := if beyond then 3 else 1
  let d := (d.wr LR_SEQ_PSEQ j.pseq).countCommit kind
  (d.reportCmd j code).offer 17 2 (d.resultWords j kind reason code 0 0)

/-- A zero command (R189): the code, and whether it is accepted. -/
def Dev.zeroCode (d : Dev) (f : F64) (stable loaded : Bool) : Nat :=
  let off := f64Sub f d.pipe.zInit
  if loaded then 2 else if !stable then 1 else if d.is LR_STATUS_NET then 4
  else if f64Le (f64Negate (d.rdF ZR_NEG)) off && f64Le off (d.rdF ZR_POS) then 0 else 3

/-- A tare command (R192): the code. -/
def Dev.tareCode (d : Dev) (g : F64) (r : Nat) (stable loaded : Bool) : Nat :=
  let m := roundTo g (d.interval r)
  if loaded then 2 else if !stable then 1
  else if 1 ≤ m ∧ f64Le (f64Mul (f64OfInt m) (d.interval r)) (d.rdF TARE_MAX) then 0 else 5

/-- A print command (R197, R198): the code. -/
def Dev.printCode (d : Dev) (weight : Int) (stable loaded : Bool) : Nat :=
  if loaded then 2 else if !stable then 1 else if !d.is PIPE_STATUS_PRINT_ARMED then 8
  else if d.rd TOT_CFG_SRC = 1 ∧ weight ≤ 0 then 12 else 0

/-- An accepted ZERO (R189, R190). -/
def Dev.setZero (d : Dev) (f : F64) : Dev := (d.putPipe { d.pipe with z := f }).wr PIPE_STATUS_ZT_LIMIT 0

/-- An accepted TARE (R192). -/
def Dev.setTare (d : Dev) (g : F64) (r : Nat) : Dev :=
  let m := roundTo g (d.interval r)
  ((d.putPipe { d.pipe with t := f64Mul (f64OfInt m) (d.interval r) }).wr LR_TARE_TARE (ofSigned 32 (m * (d.rd (RANGE_MULT (r - 1)) : Nat)))).wr
    LR_STATUS_NET 1

/-- Show a change of range (R191). -/
def Dev.takeRange (d : Dev) (r : Nat) : Dev :=
  let was := d.range
  let d := d.wr LR_STATUS_RANGE r
  if was < r then d.wr PIPE_EVENT_RANGE_UP 1 else if r < was then d.wr PIPE_EVENT_RANGE_DOWN 1 else d

/-- ZERO_TRACKING (R190): the answer says whether Z changed. -/
def Dev.trackZero (d : Dev) (g : F64) : Dev × Bool :=
  let us := d.rd (TIMER_LENGTH_US d.pipeTimer)
  let half := f64Mul (f64OfRat 1 2) (d.rdF E_BASE)
  if !f64Le (f64Abs g) half then (d, false)
  else
    let delta := f64Mul (f64Mul half (f64OfInt us)) (f64OfRat 1 1000000)
    let dz := f64Max (f64Negate delta) (f64Min g delta)
    let p := d.pipe
    let z := f64Add p.z dz
    let off := f64Sub z p.zInit
    let high := f64Lt (d.rdF ZR_POS) off
    let low := f64Lt off (f64Negate (d.rdF ZR_NEG))
    let z' := if high then f64Add p.zInit (d.rdF ZR_POS) else if low then f64Sub p.zInit (d.rdF ZR_NEG) else z
    let d := d.putPipe { p with z := z' }
    let d := if (high || low) && !d.is PIPE_STATUS_ZT_LIMIT then
        ((d.wr PIPE_STATUS_ZT_LIMIT 1).wr PIPE_EVENT_ZT_LIMIT_HIT 1).fault 0x0605 reportOnly []
      else d
    (d, !f64Eq z' p.z)

/-- The print is armed again by a committed result (R198). -/
def Dev.rearmPrint (d : Dev) (weight : Nat) : Dev :=
  let net := d.rd LR_STATUS_NET
  if weight ≠ d.pipe.printWeight ∨ net ≠ d.pipe.printNet ∨ (d.is LR_STATUS_CENTER_ZERO ∧ net = 0) then d.wr PIPE_STATUS_PRINT_ARMED 1 else d

/-- An accepted print (R198, R318): its entry of RING_17 and its totaliser entry. -/
def Dev.acceptPrint (d : Dev) (j : PipeJob) (weight : Nat) : Dev :=
  let b := d.totLatest
  let adds := d.rd TOT_CFG_SRC = 1
  let n := incHold 32 b.printCount
  let d := (d.putPipe { d.pipe with printWeight := weight, printNet := d.rd LR_STATUS_NET }).wr PIPE_STATUS_PRINT_ARMED 0
  let d := d.offer 17 2 (d.resultWords j 2 0 0 0 n)
  d.queueTot { b with cause := 1, printCount := n, total := if adds then (b.total + weight) % 2 ^ 64 else b.total,
                      delta := if adds then weight else 0 }

/-- The values of a committed result (R189 to R194). -/
structure Shown where
  g : F64
  dv : F64
  weight : Int
  gross : Int
  high : Bool
  low : Bool
deriving DecidableEq, Repr

/-- Write a result into LEGAL_RESULT (R193, R194). -/
def Dev.showResult (d : Dev) (x : Shown) (stable : Bool) : Dev :=
  let center := f64Le (f64Abs x.dv) (f64Mul (f64OfRat 1 4) (d.interval d.range))
  d |>.wr LR_WEIGHT_WEIGHT (ofSigned 32 x.weight) |>.wr LR_STATUS_STABLE (bit stable) |>.wr LR_STATUS_CENTER_ZERO (bit center)
    |>.wr LR_STATUS_OVERLOAD (bit x.high) |>.wr LR_STATUS_UNDERLOAD (bit x.low) |>.wr LR_STATUS_ERROR 0 |>.wr LR_STATUS_ERR_CAUSE 0
    |>.wr LR_STATUS_RESTS 0

/-- A ZERO that is effective in the period (R189): the code. -/
def Dev.doZero (d : Dev) (j : PipeJob) (f : F64) (stable : Bool) : Dev × Nat :=
  let g := f64Sub f d.pipe.z
  let code := (d.maskedCode j false).getD (d.zeroCode f stable (d.overloaded g || d.underloaded g))
  (if code = 0 then d.setZero f else d, code)

/-- A TARE or CLEAR_TARE that is effective in the period (R192): the code. -/
def Dev.doTare (d : Dev) (j : PipeJob) (g : F64) (r : Nat) (stable : Bool) : Dev × Nat :=
  let loaded := d.overloaded g || d.underloaded g
  let own := if j.cmd = 2 then d.tareCode g r stable loaded else if d.is LR_STATUS_NET then 0 else 6
  let code := (d.maskedCode j false).getD own
  (if code ≠ 0 then d else if j.cmd = 2 then d.setTare g r else d.clearTareNow, code)

/-- Stages 8 to 13 for a period whose F exists and whose initial zero is done (R182): the gross value is answered when neither
overload nor underload applies. -/
def Dev.commitGood (d : Dev) (j : PipeJob) (s f : F64) (stable : Bool) : Dev × Option F64 :=
  let z := if j.cmd = 1 then d.doZero j f stable else (d, 0)
  let d := z.1
  let g := f64Sub f d.pipe.z
  let r := d.selectRange g stable
  let d := d.takeRange r
  let t := if j.cmd = 2 ∨ j.cmd = 3 then d.doTare j g r stable else (d, z.2)
  let d := t.1
  let dv := if d.is LR_STATUS_NET then f64Sub g d.pipe.t else g
  let mult : Int := (d.rd (RANGE_MULT (r - 1)) : Nat)
  let high := d.overloaded g
  let low := d.underloaded g
  let weight := if high || low then 0 else roundTo dv (d.interval r) * mult
  let x : Shown := { g := g, dv := dv, weight := weight, gross := roundTo g (d.interval r) * mult, high := high, low := low }
  let d := (d.showResult x stable).wr LR_SEQ_PSEQ j.pseq
  let d := d.showDiag s f g j.vs
  let w32 := ofSigned 32 weight
  let d := d.rearmPrint w32
  let code := if j.cmd = 4 then (d.maskedCode j false).getD (d.printCode weight stable (high || low)) else t.2
  let zt := if d.is PIPE_CFG_ZT_EN && stable && !d.is LR_STATUS_NET && j.cmd == 0 && !high && !low then d.trackZero g else (d, false)
  let d := zt.1
  let d := d.each (List.range 4) (fun d i => d.setpoint i x.gross weight (high || low) stable)
  let d := d.countCommit 0
  let d := (d.reportCmd j code).offer 17 2 (d.resultWords j 0 0 code (bit zt.2) 0)
  let d := if j.cmd = 4 ∧ code = 0 then d.acceptPrint j w32 else d
  (d, if high || low then none else some g)

/-- The own voices of the enabled cells. -/
def Dev.cellVoices (d : Dev) : List Nat :=
  d.cells.flatMap (fun c => [d.rd (FIT_PAIR_CFG_VOICE_A (d.rd (CELL_CFG_PAIR c))), d.rd (FIT_PAIR_CFG_VOICE_B (d.rd (CELL_CFG_PAIR c)))])

/-- CELL_RETIRED applies (R184): an own voice is RETIRED, or the reasons of S show one of another device, whichever is the first of them. -/
def Dev.cellRetired (d : Dev) (s : SumVal) : Bool :=
  s.reason == 3 || s.causes.testBit 3 || d.cellVoices.any (fun v => d.rd (VOICE_STATUS_STATE v) == 3)

/-- Enter, stay in or leave the state of a retired cell: fault 0x0607 on entry (R203). -/
def Dev.noteRetired (d : Dev) (on : Bool) : Dev :=
  let was := d.pipe.retiredRep
  let d := d.putPipe { d.pipe with retiredRep := on }
  if on && !was then d.fault 0x0607 reportOnly [] else d

/-- An error of priority 1 to 6 (R184): on entry the pipeline restarts. DEDUCED: log entry 37. -/
def Dev.commitSevere (d : Dev) (j : PipeJob) (cause reason : Nat) (rest : Bool) : Dev :=
  let d := if d.pipe.severe then d else (d.putPipe { d.pipe with severe := true }).restartFilters
  (d.putPipe { d.pipe with restLatched := false }).commitBad j cause reason rest

/-- A value of R185 to R187 is not finite: ARITH (R179). -/
def Dev.commitArith (d : Dev) (j : PipeJob) : Dev := (d.fault 0x0601 transient [srcDevice]).commitSevere j 5 0 false

/-- Stages 6 to 13 of a period with a sum (R182): NOT_READY while the moving average fills or the initial zero has no attempt, INIT_ZERO
where it is attempted and refused (R184, R188). -/
def Dev.commitSum (d : Dev) (j : PipeJob) (s : F64) : Dev × Option F64 :=
  let d := d.putPipe { d.pipe with severe := false, restLatched := false }
  let d := d.feed s
  if d.pipe.ma.length < d.maLength then (d.commitBad j 1 0 false, none)
  else
    let a := d.average
    let r := d.filter
    let f := r.2
    let r := (r.1.showDiag s f f64Zero j.vs, f)
    if !(f64IsFinite a && f64IsFinite f) then (r.1.commitArith j, none)
    else
      let m := r.1.detectMotion f
      if !m.2.2 then (m.1.commitArith j, none)
      else
        let d := m.1.tryInitZero f m.2.1
        if d.is PIPE_STATUS_INIT_DONE then d.commitGood j s f m.2.1
        else (d.commitBad j (if m.2.1 then 2 else 1) 0 false, none)

/-- The severe cause of a period with its sum, in the order of R184; 0 when none applies. -/
def Dev.severeCause (d : Dev) (j : PipeJob) (s : SumVal) : Nat :=
  if d.mode = 2 ∨ (d.pipe.holdCause ∧ s.reason ≠ 0) then 7
  else if d.cellRetired s then 3
  else if j.arith || (s.reason == 0 && !f64IsFinite s.value) then 5
  else if j.badRatio then 6
  else 0

/-- Is the period that is a rest an error of NOT_READY (R183, R184)? -/
def Dev.waiting (d : Dev) : Bool :=
  !d.pipe.restLatched && (decide (d.pipe.ma.length < d.maLength) || !d.is PIPE_STATUS_INIT_DONE)

/-- S itself is not finite, where every value on the way to it was: fault 0x0601 (R179). -/
def Dev.infiniteSum (d : Dev) (j : PipeJob) (s : SumVal) : Dev :=
  if s.reason = 0 ∧ !f64IsFinite s.value ∧ !j.arith then d.fault 0x0601 transient [srcDevice] else d

/-- Stages 6 to 13 (R182) with S or its rest; the gross of a good result is answered. A stale job shows NOT_READY at best.
DESIGN CHOICE: log entry 78. -/
def Dev.commitJob (d : Dev) (j : PipeJob) (s : SumVal) : Dev × Option F64 :=
  let d := (d.noteRetired (d.cellRetired s)).infiniteSum j s
  let d := d.showDiag (if s.reason = 0 then s.value else f64Zero) f64Zero f64Zero j.vs
  let cause := d.severeCause j s
  let d := if s.reason = 0 ∧ d.mode ≠ 2 then d.putPipe { d.pipe with holdCause := false } else d
  if cause ≠ 0 then (d.commitSevere j cause s.reason (s.reason != 0), none)
  else if j.stale then (d.commitBad j 1 s.reason (s.reason != 0), none)
  else if s.reason = 0 then d.commitSum j s.value
  else if d.waiting then (d.commitBad j 1 s.reason true, none)
  else (d.commitRest j s.reason, none)

/-- The bytes of a binary64, least significant first. -/
def f64Bytes (x : F64) : List Nat := bytesLE 8 x.toNat

/-- DIGEST (R260): the CRC-32 over the pipeline state. -/
def Dev.digest (d : Dev) : Nat :=
  let p := d.pipe
  crc32 (f64Bytes p.z ++ f64Bytes p.zInit ++ f64Bytes p.t ++
    [d.range, d.rd LR_STATUS_NET, d.rd PIPE_STATUS_INIT_DONE, d.rd PIPE_STATUS_PRINT_ARMED, d.rd PIPE_STATUS_ZT_LIMIT, d.rd LR_STATUS_RESTS] ++
    bytesLE 2 (d.rd PIPE_STATUS_FED) ++ p.ma.flatMap f64Bytes ++ f64Bytes p.a1 ++ f64Bytes p.a2 ++ f64Bytes p.f1 ++ f64Bytes p.f2 ++
    p.motion.flatMap f64Bytes)

/-- The state a RESULT with REALIGN carries, from its offset 32 on (R244, R260). -/
def Dev.realignBytes (d : Dev) : List Nat :=
  let p := d.pipe
  f64Bytes p.z ++ f64Bytes p.zInit ++ f64Bytes p.t ++
    [d.range + d.rd LR_STATUS_NET * 4 + d.rd PIPE_STATUS_INIT_DONE * 8 + d.rd PIPE_STATUS_PRINT_ARMED * 16 + d.rd PIPE_STATUS_ZT_LIMIT * 32,
     d.rd LR_STATUS_RESTS, 0, 0, 0, 0, 0, 0]

/-- A binary64 among bytes. -/
def f64At (l : List Nat) (i : Nat) : F64 := BitVec.ofNat 64 (ofBytesLE ((l.drop i).take 8))

/-- Take the state of a RESULT with REALIGN (R260): TARE follows T and the interval of its range. -/
def Dev.takeRealign (d : Dev) (b : List Nat) : Dev :=
  let x := b.getD 24 0
  let d := d.putPipe { d.pipe with z := f64At b 0, zInit := f64At b 8, t := f64At b 16, initTried := false }
  let d := ((d.wr LR_STATUS_RANGE (x % 4)).wr LR_STATUS_NET (x / 4)).wr PIPE_STATUS_INIT_DONE (x / 8)
  let d := ((d.wr PIPE_STATUS_PRINT_ARMED (x / 16)).wr PIPE_STATUS_ZT_LIMIT (x / 32)).wr LR_STATUS_RESTS (b.getD 25 0)
  let d := d.wr LR_TARE_TARE (ofSigned 32 (roundTo (f64At b 16) (d.rdF E_BASE)))
  (d.putChoir { d.choir with realigning := false }).restartFilters

/-- A member compares its digest with the RESULT's (R260): each that differs is reported and asks for a realignment, and every period is a rest
with reason 10 until it comes. -/
def Dev.compareDigest (d : Dev) (j : PipeJob) (s : SumVal) : Dev × SumVal :=
  if j.realign ≠ [] then ((d.takeRealign j.realign).choirEvent 64, s)
  else
    match j.digest with
    | none => (d, s)
    | some x =>
      if x = d.digest then (d, if d.choir.realigning then restSum (2 ^ 10) else s)
      else
        let d := d.putChoir { d.choir with realigning := true }
        let d := d.fault 0x0832 reportOnly []
        (d.sendCmd (d.rd CHOIR_STATUS_CANTOR) 7 0 0 j.pseq 0, restSum (2 ^ 10))

/-- PIPELINE_COMMIT (R182): the oldest period whose sum, or rest, is available; then the track channel's part of it (R220). -/
def Dev.pipelineCommit (d : Dev) : Dev :=
  match d.pipe.jobs with
  | [] => d
  | j :: rest =>
    match j.sum with
    | none => d
    | some s =>
      if !d.alive || d.mode == 5 || d.mode == 3 then d
      else
        let d := d.putPipe { d.pipe with jobs := rest }
        let c := d.compareDigest j s
        let r := c.1.commitJob j c.2
        r.1.trackPeriod j r.2

/-- The cause that LEGAL_RESULT shows from a start of the pipeline on (R184): NOT_READY while the filters are empty, unless a cause of the device
stands before it. -/
def Dev.startCause (d : Dev) : Nat :=
  if d.mode = 5 then 8 else if d.mode = 2 ∨ d.pipe.holdCause then 7 else if d.cellRetired (restSum 0) then 3 else 1

/-- A start of the pipeline (R202). -/
def Dev.startPipeline (d : Dev) : Dev :=
  let d := d.raiseEpoch 2
  let done := !d.is PIPE_CFG_INIT_ZERO_EN
  let d := d.putPipe { Pipe.fresh with holdCause := d.pipe.holdCause, retiredRep := d.pipe.retiredRep, jobs := d.staleJobs }
  let d := d |>.wr LR_STATUS_NET 0 |>.wr LR_STATUS_RANGE 1 |>.wr LR_STATUS_RESTS 0 |>.wr LR_TARE_TARE 0 |>.wr PIPE_STATUS_PRINT_ARMED 1
    |>.wr PIPE_STATUS_INIT_DONE (bit done) |>.wr PIPE_STATUS_ZT_LIMIT 0
  (d.restartFilters.showError d.startCause).spForceAll

/-- LEGAL_RESULT_READ (R195): a read of WEIGHT captures the other three words. DESIGN CHOICE: log entry 11. -/
def Dev.legalResultRead (d : Dev) : Dev :=
  let st := d.rd LR_STATUS_STABLE + d.rd LR_STATUS_CENTER_ZERO * 2 + d.rd LR_STATUS_RANGE * 4 + d.rd LR_STATUS_NET * 16 +
    d.rd LR_STATUS_OVERLOAD * 32 + d.rd LR_STATUS_UNDERLOAD * 64 + d.rd LR_STATUS_ERROR * 128 + d.rd LR_STATUS_ERR_CAUSE * 256 +
    d.rd LR_STATUS_RESTS * 2 ^ 12 + d.rd LR_STATUS_REST_REASON * 2 ^ 20
  let words := [st, d.rd LR_TARE_TARE, d.rd LR_SEQ_SEQ + d.rd LR_SEQ_PSEQ * 65536]
  { d with snaps := words.zipIdx.foldl (fun s p => Store.write s (0x7404 + 4 * p.2) p.1) d.snaps }

/-- TOT_PULSE_END (R200): the high phase ends and owes one pulse less; the low phase of WIDTH ends and the next pulse may start. -/
def Dev.totPulseEnd (d : Dev) : Dev :=
  if !d.alive then d
  else if d.pins.totPulse = 1 then
    ({ d with pins := { d.pins with totPulse := 0, totRest := true } }).wr TOT_BACKLOG (d.rd TOT_BACKLOG - 1)
  else if d.pins.totRest then ({ d with pins := { d.pins with totRest := false } }).totStart
  else d

end Sys2Proof.Machine
end

