-- ==== Sys2Proof/Machine/Timebase.lean ====
section
/-! DEFINITION.
The timebase (R47 to R64): reference switches and the OCXO check.
-/

namespace Sys2Proof.Machine

open Reg

/-- Is the part of the timebase that needs the crystal alive: powered, FCK on FPLL, not in STANDBY or in the safe state? -/
def Dev.clocked (d : Dev) : Bool := d.alive && !d.is TB_STATUS_FCK_SRC && d.mode != 3 && d.mode != 5

/-- The crystal reference: integer for all but a member, whose SPLL runs fractional (R48, R57), and a
cantor in holdover (R256). -/
def Dev.crystalSource (d : Dev) : Nat := if d.refMode = 3 ∨ d.is CHOIR_STATUS_HOLDOVER then 2 else 0

/-- The reference that the mode, the role and the OCXO's state give (R47): REF_IN only while the OCXO is STABLE and SPLL is not
retired (R329). -/
def Dev.wantedSource (d : Dev) : Nat :=
  if d.needsOcxo && d.rd TB_STATUS_OCXO_STATE == 3 && !d.isRetired srcSpll then 1 else d.crystalSource

/-- REF_OUT repeats the reference that feeds SPLL, or is low (R63); in TB_MODE OCXO too it is the crystal while SPLL runs on it.
DEDUCED: log entry 64. -/
def Dev.showRefOut (d : Dev) : Dev :=
  d.wr TB_STATUS_REFOUT_SRC
    (if d.is TB_CFG_REF_OUT_EN && d.mode != 3 && d.mode != 5 then (if d.rd TB_STATUS_SOURCE = 1 then 2 else 1) else 0)

/-- REF_OUT at an applied image (R63): low at once without REF_OUT_EN, and else on its source until a switch has ended. -/
def Dev.imageRefOut (d : Dev) : Dev := if d.time.step = 0 ∨ !d.is TB_CFG_REF_OUT_EN then d.showRefOut else d

/-- A reference switch is decided (R58 step 1). With a switch already under way steps 4 to 9 run again towards the new target. A planned
switch to another reference still waits. DEDUCED: log entry 30. -/
def Dev.decideSwitch (d : Dev) (target : Nat) (cfg : Bool) : Dev :=
  let under := d.time.step
  let d := d.closeGate (if cfg || (under != 0 && d.time.cfgSwitch) then 7 else 6)
  { d with time := { d.time with step := if under = 0 ∨ under = 3 then 3 else 4, target := target, repeated := false,
                                 planned := decide (d.wantedSource ≠ target),
                                 cfgSwitch := if under = 0 then cfg else d.time.cfgSwitch || cfg } }

/-- A forced switch starts at once (R52, R60). A switch that already runs towards that reference serves. DEDUCED: log entry 30. -/
def Dev.forceSwitch (d : Dev) (target : Nat) : Dev :=
  if d.time.step ≠ 0 ∧ d.time.target = target then d else d.decideSwitch target false

/-- A planned switch waits for the next period boundary (R58). -/
def Dev.planSwitch (d : Dev) : Dev := { d with time := { d.time with planned := decide (d.wantedSource ≠ d.rd TB_STATUS_SOURCE) } }

/-- The check starts again from WAIT. -/
def Dev.ocxoWait (d : Dev) : Dev :=
  let d := { d with time := { d.time with lastY := none, planned := false } }
  (d.wr TB_STATUS_STAB_COUNT 0).wr TB_STATUS_OCXO_STATE (if d.rd TB_STATUS_OCXO_STATE = 5 then 5 else 1)

/-- Does SPLL run on REF_IN, or move to it? -/
def Dev.onRefIn (d : Dev) : Bool := if d.time.step = 0 then d.rd TB_STATUS_SOURCE == 1 else d.time.target == 1

/-- The OCXO leaves STABLE, its check fails for good, or the reference in use is lost, with the faults given (R51, R52): FAILED from STABLE,
and at once WAIT; a switch to the crystal when SPLL runs on REF_IN or moves to it. DEDUCED: log entry 28. -/
def Dev.failOcxo (d : Dev) (codes : List Nat) : Dev :=
  let st := d.rd TB_STATUS_OCXO_STATE
  let d := d.wr TB_STATUS_OCXO_STATE (if st = 3 then 4 else st)
  let d := d.each codes (fun d c => d.fault c transient [srcOcxo])
  let onRef := d.onRefIn
  let d := if st = 2 ∨ st = 3 then d.ocxoWait else { d with time := { d.time with planned := false } }
  if onRef then d.forceSwitch d.crystalSource else d

/-- The stability check begins (R49, R51): WAIT becomes CHECKING with REF_IN edges present and, with RDY_USE 1, OCXO_RDY 1. -/
def Dev.beginCheck (d : Dev) : Dev :=
  if d.clocked && d.time.refEdges && d.rd TB_STATUS_OCXO_STATE == 1 && (!d.is TB_CFG_RDY_USE || d.is PIN_LEVEL_OCXO_RDY) then
    (({ d with time := { d.time with lastY := none } }).wr TB_STATUS_OCXO_STATE 2).wr TB_STATUS_STAB_COUNT 0
  else d

/-- REF_IN_EDGES_PRESENT (R49, R51): the edges are there from now on. DEDUCED: log entry 67. -/
def Dev.refInEdgesPresent (d : Dev) : Dev :=
  if d.clocked && d.rd TB_STATUS_OCXO_STATE == 1 then { d with time := { d.time with refEdges := true } }.beginCheck else d

/-- OCXO_RDY_CHANGE (R49, R51, R52): a rise may begin the check (Example 3-2), and with RDY_USE 1 a fall fails the reference. -/
def Dev.ocxoRdyChange (level : Bool) (d : Dev) : Dev :=
  let fell := d.is PIN_LEVEL_OCXO_RDY && !level
  let d := d.wr PIN_LEVEL_OCXO_RDY (bit level)
  let st := d.rd TB_STATUS_OCXO_STATE
  if d.clocked && fell && d.is TB_CFG_RDY_USE && (st == 2 || st == 3) then (d.wr TB_EVENT_RDY_FELL 1).failOcxo [0x0404]
  else if level then d.beginCheck else d

/-- REF_IN_LOST (R52): of a reference under check, STABLE or in use. REF_OUT is held low when it repeated REF_IN (R63).
DEDUCED: log entry 67. -/
def Dev.refInLost (d : Dev) : Dev :=
  if !d.clocked then d
  else
    let st := d.rd TB_STATUS_OCXO_STATE
    let d := { d with time := { d.time with refEdges := false } }
    let d := if d.rd TB_STATUS_REFOUT_SRC = 2 then d.wr TB_STATUS_REFOUT_SRC 0 else d
    if st = 2 ∨ st = 3 ∨ d.onRefIn then (d.wr TB_EVENT_REF_LOSS 1).failOcxo [0x0401] else d

/-- A value in units of 10^-12, saturated to 32 bits (R50). DEDUCED: log entry 28. -/
def picoUnits (x : F64) : Nat :=
  let v := if f64IsFinite x then f64ToIntEven (f64Mul x (f64OfInt 1000000000000)) else if f64Neg x then -2147483648 else 2147483647
  ofSigned 32 (max (-2147483648) (min 2147483647 v))

/-- y_k of R50 from M periods in D × 0.8 ns. DEDUCED: log entry 28. -/
def Dev.windowOffset (d : Dev) (m dticks : Nat) : F64 :=
  let eps := if d.refMode = 3 then f64Zero else d.time.epsXtal
  f64Sub (f64Div (f64Mul (f64OfInt (m * 125)) (f64Add f64One eps)) (f64OfInt dticks)) f64One

/-- OCXO_WINDOW (R50, R51): `m` REF_IN periods took `dticks` × 0.8 ns. -/
def Dev.ocxoWindow (m dticks : Nat) (d : Dev) : Dev :=
  let st := d.rd TB_STATUS_OCXO_STATE
  if !d.clocked || !(st == 2 || st == 3) then d
  else
    let y := d.windowOffset m dticks
    let dy := d.time.lastY.map (fun p => f64Sub y p)
    let offBad := !f64Le (f64Abs y) (f64OfRat 1 2000000)
    let driftBad := match dy with
      | some x => !f64Lt (f64Abs x) (f64OfRat 1 200000000)
      | none => false
    let d := { d with time := { d.time with lastY := some y } }.wr OCXO_OFFSET_VALUE (picoUnits y)
    let d := match dy with
      | some x => d.wr OCXO_DRIFT_VALUE (picoUnits x)
      | none => d
    if offBad || driftBad then
      if st = 3 then
        let d := if offBad then d.wr TB_EVENT_OCXO_WINDOW 1 else d
        let d := if driftBad then d.wr TB_EVENT_OCXO_DRIFT 1 else d
        d.failOcxo ((if offBad then [0x0402] else []) ++ (if driftBad then [0x0403] else []))
      else d.wr TB_STATUS_STAB_COUNT 0
    else if dy.isNone then d
    else
      let n := min 30 (d.rd TB_STATUS_STAB_COUNT + 1)
      let d := d.wr TB_STATUS_STAB_COUNT n
      if n = 30 ∧ st = 2 then
        let d : Dev := { d with time := { d.time with warmDone := true } }
        let d := d.wr TB_STATUS_OCXO_STATE 3
        let d := if d.refMode = 1 ∧ d.booted 13 then { d with power := { d.power with firstOk := true } } else d
        d.planSwitch
      else d

/-- WARMUP_LATE (R53): WARMUP_MAX has passed and the OCXO has never been STABLE since the reset. -/
def Dev.warmupLate (d : Dev) : Dev :=
  if d.clocked && d.time.warmStarted && !d.time.warmRep && d.is TB_CFG_WARMUP_MAX && !d.time.warmDone then
    (({ d with time := { d.time with warmRep := true } }).wr TB_EVENT_WARMUP_LATE 1).fault 0x0405 reportOnly []
  else d

/-- May TB_CMD 0xC1 be accepted? -/
def Dev.mayRestartCheck (d : Dev) : Bool := d.rd TB_STATUS_OCXO_STATE == 2 || d.rd TB_STATUS_OCXO_STATE == 3

/-- TB_RESTART_CHECK (R51): the stability check starts again; on REF_IN this is a planned switch to the crystal. -/
def Dev.tbRestartCheck (d : Dev) : Dev := if d.mayRestartCheck then d.ocxoWait.planSwitch else d

/-- REFERENCE_SWITCH (R58 steps 2 to 4): the gate has closed at a coarse count, or, with a switch under way, the PFD moves on; from
REF_IN to the fractional crystal with s = 0 (R251). DESIGN CHOICE: log entry 57. -/
def Dev.referenceSwitch (count : Nat) (d : Dev) : Dev :=
  if !d.clocked || !(d.time.step == 3 || d.time.step == 4) then d
  else
    let d := if d.time.step = 3 then
        { d with time := { d.time with coarse := max d.time.coarse (count % coarseMod), gap := 0, fifths := 0 } }
      else d
    let d := d.when (d.rd TB_STATUS_SOURCE == 1 && d.time.target == 2) (fun d => d.wr CHOIR_STEER_S 0)
    ({ d with time := { d.time with step := 5 } }).wr TB_STATUS_SPLL_LOCK 0 |>.wr TB_STATUS_SOURCE d.time.target

/-- SPLL_LOCK_DETECT (R58 steps 5 and 6). -/
def Dev.spllLockDetect (d : Dev) : Dev :=
  if d.clocked && d.time.step == 5 then ({ d with time := { d.time with step := 7 } }).wr TB_STATUS_SPLL_LOCK 1 else d

/-- The switch has failed (R61): towards REF_IN the crystal is taken; on the crystal the device enters the safe state. -/
def Dev.spllFail (d : Dev) (code : Nat) : Dev :=
  let d := d.wr TB_EVENT_SPLL_FAIL 1
  if d.time.target = 1 then (d.fault code transient [srcSpll]).decideSwitch d.crystalSource false
  else (d.fault code permanent [srcSpll]).enterSafe 1 code

/-- SPLL_SWITCH_TIMEOUT (R61). -/
def Dev.spllSwitchTimeout (d : Dev) : Dev :=
  if d.clocked && d.time.step == 5 then d.spllFail 0x0410
  else if d.clocked && d.time.step == 7 then d.spllFail 0x0411
  else d

/-- OVERSPEED (R60). In the FCK in which another forced switch is decided the fault alone is recorded. DEDUCED: log entry 30. -/
def Dev.overspeed (count : Nat) (d : Dev) : Dev :=
  if !d.clocked || decide (count < 414) then d
  else if d.sckOpen then
    let d := (d.wr TB_EVENT_OVERSPEED 1).fault 0x0412 transient [srcSpll]
    d.forceSwitch (if d.isRetired srcSpll then d.crystalSource else d.rd TB_STATUS_SOURCE)
  else if d.time.step = 3 then (d.wr TB_EVENT_OVERSPEED 1).fault 0x0412 transient [srcSpll]
  else d

end Sys2Proof.Machine
end

