-- ==== Sys2Proof/Machine/Switch.lean ====
section
/-! DEFINITION.
The switching boundary (R280, R281): every class I field takes its new value, and each block behaves as its own chapter states for an
applied image.
-/

namespace Sys2Proof.Machine

open Reg

/-- APPLY_STATUS.STATE moves, with a notification (R279, R296). -/
def Dev.applyState (d : Dev) (st : Nat) : Dev :=
  if d.rd APPLY_STATUS_STATE = st then d else (d.wr APPLY_STATUS_STATE st).notify 5 st (d.rd APPLY_STATUS_RESULT)

/-- The apply state returns to IDLE: nothing is staged any more. -/
def Dev.endApply (d : Dev) : Dev :=
  { ((d.wr STAGED_GEN 0).wr CHECK_STAGED 0).applyState 0 with img := ImgSt.none }

/-- A refusal (R273, R279): its code, the address it names, and fault 0x0903. -/
def Dev.refuseApply (d : Dev) (code addr : Nat) : Dev :=
  (((d.wr APPLY_STATUS_RESULT code).wr APPLY_ERR_ADDR_ADDR addr).fault 0x0903 reportOnly []).endApply

/-- Does the address strap differ from the image (R31)? -/
def Dev.mismatch (d : Dev) : Bool := d.is CFG_STATUS_CONFIGURED && d.rd STRAP_STATUS_ADDR != d.rd CHOIR_CFG_ADDR

/-- SLOT_A and SLOT_B follow the marks; a retired slot reads RETIRED (R267, R329). -/
def Dev.showSlots (d : Dev) : Dev :=
  d.each [(0, CFG_STATUS_SLOT_A), (1, CFG_STATUS_SLOT_B)] (fun (d : Dev) (p : Nat × Fld) =>
    if d.rd p.2 = 5 then d else d.wr p.2 (slotState (d.nvmBytes (slotBase p.1) 256)))

/-- Does any of the fields differ between the settings before a switch and those after it? -/
def Dev.differs (d o : Dev) (l : List Fld) : Bool := l.any (fun f => o.rd f != d.rd f)

/-- R29 at a boot and at an applied image: an LVCMOS voice is retired when the class of VDDIO_V is not the one expected. A voice counts as
configured for LVCMOS by MODE alone while EN is 1, a routed one (SRC 1) too; with EN 0 it is left out. DESIGN CHOICE: log entry 79. -/
def Dev.checkViov (d : Dev) : Dev :=
  let bad := (List.range 16).filter (fun n => d.is (VOICE_CTRL_EN n) && !d.viovOk n && d.rd (VOICE_STATUS_STATE n) != 3)
  if bad = [] then d else d.fault 0x0103 permanent bad

/-- The settings of a voice's pin (R281). -/
def pinFlds (n : Nat) : List Fld :=
  [VOICE_CTRL_EN n, VOICE_CTRL_SRC n, VOICE_CTRL_MODE n, VOICE_CTRL_TERM n, VOICE_CTRL_EDGE n, VOICE_ROUTE_WM n, VOICE_ROUTE_COMP n]

/-- A voice with CTRL.EN = 0: a counting voice gets a RETIRED marker first (R86). -/
def Dev.disableVoice (d : Dev) (n : Nat) : Dev :=
  let v := d.voice n
  let v := if d.counting n then v.pushDirect (v.entry d.ext 0 v.evcnt 0 0x401 0 0) else v
  ((d.putVoice n v).wr (VOICE_STATUS_STATE n) 0).stopTuning n

/-- A voice goes to STARTING at `ext` (R86): its isolated collection begins, or the one that runs goes on isolated (R101). A retired voice stays
so, and so does one that an image had disabled since its retirement. -/
def Dev.restartVoice (d : Dev) (n ext : Nat) : Dev :=
  let was := d.rd (VOICE_STATUS_STATE n)
  if was = 3 then d
  else
    let d := d.putVoice n { d.voice n with firstAt := some ext, later := [] }
    let d := d.wr (VOICE_STATUS_STATE n) (if d.isRetired n then 3 else 1)
    if was = 0 then d.beginTuning n else d.followOwner n

/-- The voices of an applied image (R86, R281), with the mask of those whose pins change; k follows its limits (R78).
DEDUCED: log entry 36. -/
def Dev.applyVoices (d o : Dev) (ext : Nat) : Dev :=
  d.each (List.range 16) (fun d n =>
    let on := d.is (VOICE_CTRL_EN n)
    if !d.differs o (pinFlds n) || !(on || o.is (VOICE_CTRL_EN n)) then (if d.counting n then d.clampK n ext else d)
    else
      let d := if on then d.restartVoice n ext else d.disableVoice n
      { d with img := { d.img with pins := d.img.pins ||| 2 ^ n } })

/-- The rings of an applied image (R91; chapter 4, coincidences). -/
def Dev.applyRings (d o : Dev) : Dev :=
  d.each (List.range 24) (fun d n =>
    if o.ringBase n ≠ d.ringBase n ∨ o.ringCap n ≠ d.ringCap n then Dev.emptyRing n d
    else if d.differs o [RING_CFG_WATERMARK n] then d.setFill n (d.rd (RING_FILL_WORDS n)) else d)

/-- The image's own thresholds are in force (R116), but for WM[6] while the track channel has replaced them. -/
def Dev.showThresholds (d : Dev) : Dev :=
  d.each (List.range 8) (fun d m =>
    if m = 6 ∧ d.track.zone.isSome then d
    else ((d.wr (WM_THRESH_LIVE_LOWER m) (d.rd (WM_THRESH_LOWER m))).wr (WM_THRESH_LIVE_UPPER m) (d.rd (WM_THRESH_UPPER m))).wr
      (WM_THRESH_LIVE_HYST m) (d.rd (WM_CFG_HYST m)))

/-- A monitor with EN 0 is OFF (R124). -/
def Dev.monitorOff (d : Dev) (m : Nat) : Dev := (d.putWm m Wm.fresh).wr (WM_STATUS_STATE m) 0

/-- The monitors of an applied image (R123, R124). -/
def Dev.applyMonitors (d o : Dev) : Dev :=
  d.showThresholds.each (List.range 8) (fun d m =>
    let st := d.rd (WM_STATUS_STATE m)
    if !d.is (WM_CFG_EN m) then (if st = 0 then d else d.monitorOff m)
    else if st = 0 then d.settleMonitor m true
    else if st ≠ 5 ∧ d.differs o [WM_CFG_MODE m] then (d.settleMonitor m false).each (d.touchedVoices m) (fun d v => d.restVoice v 7)
    else d)

/-- The settings that make an exciter's schedule (R126, R127). -/
def scheduleFlds (x : Nat) : List Fld :=
  [EXC_CFG_MODE x, EXC_CFG_ACTIVE x, EXC_CFG_SYNC_VOICE x, EXC_DELAY_FCK x, EXC_WIDTH_FCK x, EXC_SPACING_FCK x, EXC_COUNT_PULSES x,
   EXC_F_START_F x, EXC_F_STEP_F x, EXC_SWEEP_STEPS x, EXC_SWEEP_CYCLES x]

/-- An exciter leaves OFF for IDLE (R129), with no hold of an earlier HOLD but in HOLD itself. -/
def Dev.wakeExc (d : Dev) (x : Nat) : Dev :=
  (d.putExc x { d.exc x with hold := false, afterHold := decide (d.mode = 2) }).wr (EXC_STATUS_STATE x) 1

/-- The exciters of an applied image (chapter 6, coincidences). -/
def Dev.applyExcs (d o : Dev) : Dev :=
  d.each (List.range 8) (fun d x =>
    let d := if d.differs o (scheduleFlds x) then d.dropSchedule x else d
    let d := if d.rd (EXC_CFG_MODE x) = 0 then d.wr (EXC_STATUS_STATE x) 0
      else if d.rd (EXC_STATUS_STATE x) = 0 then d.wakeExc x else d
    (d.assertTrip x).driveExc x)

/-- The settings whose change aborts a capture in POST (R173). -/
def captureFlds : List Fld :=
  [CAP_CFG_EN, CAP_CFG_SEGS, CAP_CFG_NO_TUNE, CAP_CFG_TRIG_MASK, CAP_VOICES_VALUE, CAP_PRE_VALUE, CAP_REARM_US, CAP_TIMEOUT_VALUE]

/-- The settings of an instance's trigger. -/
def triggerFlds (a : Nat) : List Fld := [ANA_TRIG_COND a, ANA_TRIG_VOICE a, ANA_TRIG_EDGE a, ANA_TRIG_FLAGS a]

/-- The capture unit of an applied image (R168, R173): a capture in POST is aborted, and a change of the segments releases them all. -/
def Dev.applyCapture (d o : Dev) : Dev :=
  let mine := d.differs o captureFlds
  let source := match d.cap.trig with
    | some t => d.differs o (triggerFlds t.src)
    | none => false
  let d := if !d.is CAP_CFG_EN then d.disableCapture
    else if d.rd CAP_STATUS_STATE = 3 ∧ (mine || source) then (d.indexCapture false true).takeSegment else d
  let d := if d.differs o [CAP_CFG_SEGS, CAP_VOICES_VALUE, CAP_PRE_VALUE] then d.flushCapture else d
  d.enableCapture

/-- The settings of an instance. -/
def anaFlds (a : Nat) : List Fld :=
  [ANA_CFG_MODE a, ANA_CFG_TIMER a, ANA_CFG_VOICE_S a, ANA_CFG_VOICE_T a, ANA_CFG_EDGE_S a, ANA_CFG_EDGE_T a, ANA_CFG_POL a,
   ANA_CFG_HIST_EN a, ANA_CFG_HIST_PER a]

/-- The number from which an instance takes the entries of a voice that it did not use before a switch at `ext`. -/
def Dev.firstEntry (d : Dev) (v ext : Nat) : Nat :=
  match (d.voice v).fifo.find? (fun e => decide (ext ≤ e.ext)) with
  | some e => e.id
  | none => (d.voice v).nextId

/-- An instance whose settings change measures afresh from the switching boundary on (R154, R173), when all before it has been processed. Its
period goes on unless its timer ends one there, and C counts from here. One that starts in the middle of a period has a rest with
reason 7 there (R280). -/
def Dev.applyAnas (d o : Dev) (ext : Nat) : Dev :=
  d.each (List.range 4) (fun d a =>
    let x := d.ana a
    let s := d.rd (ANA_CFG_VOICE_S a)
    let t := d.rd (ANA_CFG_TIMER a)
    let mid := o.rd (ANA_CFG_MODE a) = 0 ∧ (d.timer t).next ≠ ext ∧ (d.timer t).prev ≠ some ext
    if d.differs o (anaFlds a) then
      d.putAna a { x with qs := [], qt := [], seenS := d.firstEntry s ext, seenT := d.firstEntry (d.rd (ANA_CFG_VOICE_T a)) ext,
                          causes := if mid then x.causes ||| 2 ^ 7 else x.causes, lastEv := some (d.voice s).evcnt, arm := none, prevS := none,
                          pend := [], begun := none, acc := AnaAcc.fresh }
    else d)

/-- The settings of the ageing law (R54). -/
def ageFlds : List Fld := [AGE_A0_VALUE, AGE_A1_VALUE, AGE_D0_DAYS, AGE_REF_DATE_DAY, AGE_REF_DATE_MONTH, AGE_REF_DATE_YEAR]

/-- An image's class I values come into force (R280). -/
def Dev.takeTable (d : Dev) (t : Store) : Dev := { d with regs := d.regs.setTable .I (Store.canon t) }

/-- The identity of the image that becomes active. -/
def Dev.showActive (d : Dev) (m : ImgSt) : Dev :=
  d |>.wr CFG_STATUS_CONFIGURED 1 |>.wr CFG_STATUS_ACTIVE_SLOT m.slot |>.wr CFG_STATUS_SIG_CHECKED (bit m.signed)
    |>.wr ACTIVE_GEN m.gen |>.wr CHECK_CODE m.check |>.wr CHOIR_HASH m.choirHash |>.wr COMMON_HASH m.commonHash
    |>.wr HOST_STATUS_CRC_ACTIVE (d.rd HOST_CFG_CRC_EN)

/-- CFGHASH (R244): the codes of the active image. -/
def Dev.sendCfgHash (d : Dev) : Dev :=
  let eligible := (List.range (d.rd CHOIR_DEVICES_RANK_COUNT)).any (fun i => d.rd CHOIR_RANK_RANK / 16 ^ i % 16 == d.addr)
  d.send 5 0 true (bytesLE 4 (d.rd CHECK_CODE) ++ bytesLE 4 (d.rd CHOIR_HASH) ++ bytesLE 4 (d.rd COMMON_HASH) ++
    [d.rd TRACK_CFG_EN + 2 * bit eligible, 0, 0, 0])

/-- Lanes that are not retired fall back to DETECT and the ports are down; what they held is lost. -/
def Dev.portsDown (d : Dev) : Dev :=
  d.each [0, 1] (fun d p =>
    let d := d.each [0, 1] (fun d l => if d.rd (laneState p l) = 5 then d else d.wr (laneState p l) 0)
    (d.putPort p { PortSt.fresh with txSeq := (d.port p).txSeq }).showPort p)

/-- A choir of one holds the cantor role with epoch 0, trains no port and exchanges no message (R232). -/
def Dev.choirOfOne (d : Dev) : Dev :=
  let d := d.wr CHOIR_STATUS_STATE 4 |>.wr CHOIR_STATUS_CEPOCH 0 |>.wr CHOIR_STATUS_CANTOR d.addr |>.wr CHOIR_STATUS_HOLDOVER 0
  let d := d.portsDown
  d.putChoir { d.choir with peers := [], inbox := [], topEpoch := 0, theta := none, run := 0, bad := 0, time := none, offers := [],
                            realignDue := false, realigning := false, outWhy := 0 }

/-- The role in the choir that an applied image gives: a mismatch ends OUT (R250), a choir of one trains no port and exchanges no message
(R232), and a device that joins a choir listens. The reference follows the role (R47, R48). DEDUCED: log entry 45. -/
def Dev.applyRole (d o : Dev) : Dev :=
  let d := if d.choirState = 5 ∧ d.choir.outWhy = 2 then (d.putChoir { d.choir with outWhy := 0 }).wr CHOIR_STATUS_STATE 0 else d
  let d := if d.deviceCount ≤ 1 then (if 1 < o.deviceCount then d.choirOfOne else d.wr CHOIR_STATUS_CANTOR d.addr)
    else if o.deviceCount ≤ 1 then (d.wr CHOIR_STATUS_STATE 0).putChoir { d.choir with startFck := d.time.fck } else d
  d.followOcxo

/-- The link and the choir of an applied image: CFGHASH is sent (R243). DEDUCED: log entry 45. -/
def Dev.applyChoir (d : Dev) : Dev :=
  let d := if d.img.linkGroup then (d.retrain 0).retrain 1 else d
  let d := d.putChoir { d.choir with peers := d.choir.peers.map (fun p => (p.1, { p.2 with told := false })) }
  let d := d.each [16, 17, 18, 19] Dev.followOwner
  d.sendCfgHash

/-- A setpoint under the settings of an applied image (R199): SAFE while SRC is 0 and while it is forced, else the level of its state. -/
def Dev.applySetpoint (d : Dev) (i : Nat) : Dev :=
  if d.rd (SP_CFG_SRC i) = 0 ∨ d.is (SP_STATE_FORCED i) then d.spForce i
  else
    let active := d.rd (SP_CFG_ACTIVE_LEVEL i)
    d.spPin i (if d.is (SP_STATE_ON i) then active else 1 - active)

/-- The pipeline, its outputs and the track channel of an applied image (R199, R200, R202, R229). -/
def Dev.applyWeighing (d o : Dev) : Dev :=
  let d := if d.img.pipeNew then d.startPipeline else d
  let d := d.each (List.range 4) Dev.applySetpoint
  let d := if d.rd TOT_CFG_SRC = 0 then d.totLow else d.totStart
  let d := if d.differs o [BELT_LEN] then d.wr TRACK_STATUS_PROF_VALID 0 else d
  if d.img.trackNew then d.startTrack else d.followTach

/-- Mark a reason on every context of a timer in the period in progress. DEDUCED: log entry 35. -/
def Dev.restTimer (d : Dev) (t reason : Nat) : Dev :=
  let d := d.each (d.timerVoices t) (fun d v => d.putVoice v { d.voice v with causes := (d.voice v).causes ||| 2 ^ reason })
  d.each (List.range 4) (fun d a =>
    if d.rd (ANA_CFG_TIMER a) = t ∧ d.rd (ANA_CFG_MODE a) ≠ 0 then d.putAna a { d.ana a with causes := (d.ana a).causes ||| 2 ^ reason } else d)

/-- The timers whose period ends at the switching boundary: the pipeline's, every other one with a boundary there, and one whose grid
changes (R154). `t0` is the pipeline's timer and `new` the new settings. DEDUCED: log entry 35. -/
def Dev.endingTimers (d new : Dev) (t0 ext : Nat) : List Nat :=
  (List.range 4).filter (fun t => d.is (TIMER_STATUS_RUNNING t) && (t == t0 || (d.timer t).next == ext ||
    (new.differs d [TIMER_LENGTH_US t, TIMER_PHASE_US t] && (d.timer t).prev != some ext)))

/-- Does a timer stand in the middle of a period at an extended time: it runs, and neither its next boundary nor its latest lies there? -/
def Dev.midPeriod (d : Dev) (t ext : Nat) : Bool :=
  d.is (TIMER_STATUS_RUNNING t) && (d.timer t).next != ext && (d.timer t).prev != some ext

/-- What the instances have not processed before a boundary, they process. -/
def Dev.anaCatchUp (d : Dev) (ext : Nat) : Dev :=
  d.each (List.range 4) (fun d a => (d.each (d.ana a).tq (fun d _ => d.anaTrigger a)).preFeed a |>.anaReach a ext)

/-- The voices of timer `t`, and the instances, that the new settings move to another timer. -/
def Dev.leaving (d new : Dev) (t : Nat) : List Nat × List Nat :=
  ((d.timerVoices t).filter (fun v => new.timerOf v != t),
   (List.range 4).filter (fun a => d.rd (ANA_CFG_MODE a) != 0 && d.rd (ANA_CFG_TIMER a) == t && new.rd (ANA_CFG_TIMER a) != t))

/-- The periods that strictly contain the switching boundary are rests with reason 7 (R280), and the periods that end there end with the
old settings, those of contexts that the new ones move to another timer among them (R154): everything before it is taken first.
DEDUCED: log entry 35. -/
def Dev.endPeriods (d new : Dev) (ends : List Nat) (ext : Nat) : Dev :=
  let d := d.drainFits.anaCatchUp ext
  let d := d.each (List.range 4) (fun d t => if d.midPeriod t ext then d.restTimer t 7 else d)
  let d := d.each ends (fun d t => let tm := d.timer t; (d.endPeriod t ext).anaEndPeriod t ext tm)
  let d := d.each ((List.range 4).filter (fun t => !ends.contains t && d.midPeriod t ext)) (fun d t =>
    let gone := d.leaving new t
    let tm := d.timer t
    (d.endContexts gone.1 t ext).each gone.2 (fun d a => d.anaEndOne a t ext tm))
  d.drainFits.anaCatchUp ext

/-- The first boundary of a timer's grid at or after an extended time (R134). -/
def Dev.firstBoundary (d : Dev) (t ext : Nat) : Nat :=
  let l := d.rd (TIMER_LENGTH_US t) * 800
  let p := d.rd (TIMER_PHASE_US t) * 800 % l
  ext + (l + p - ext % l) % l

/-- A timer starts (R136): PCOUNT is 0 until its first boundary. DEDUCED: log entry 35. -/
def Dev.startTimer (d : Dev) (t : Nat) : Dev :=
  let d := d.putTimer t { Timer.fresh with next := d.firstBoundary t d.ext }
  (d.wr (TIMER_STATUS_RUNNING t) 1).wr (TIMER_PCOUNT_COUNT t) 0

/-- The contexts that come to another timer at the switching boundary begin their record there (R140, R154); where that timer ends no period
there, the rest of its period is a rest with reason 7. -/
def Dev.joinTimers (d o : Dev) (ends : List Nat) (ext : Nat) (gated : Bool) : Dev :=
  let mid := fun (d : Dev) (t : Nat) => d.is (TIMER_STATUS_RUNNING t) && (d.timer t).prev != some ext
  let d := d.each ((List.range 16).filter (fun v => o.timerOf v != d.timerOf v && !ends.contains (d.timerOf v))) (fun d v =>
    let d := d.freshRecord v ext gated
    (if mid d (d.timerOf v) then d.restVoice v 7 else d).takeLater v)
  d.each ((List.range 4).filter (fun a => o.rd (ANA_CFG_TIMER a) != d.rd (ANA_CFG_TIMER a) && !ends.contains (d.rd (ANA_CFG_TIMER a)))) (fun d a =>
    let c := d.anaStartCauses a gated ||| (if mid d (d.rd (ANA_CFG_TIMER a)) then 2 ^ 7 else 0)
    d.putAna a { d.ana a with causes := c, since := some ext })

/-- The timers of an applied image (R136, R154): the interval up to the first boundary of a new grid is a rest with reason 7. -/
def Dev.applyTimers (d o : Dev) (ends : List Nat) (ext : Nat) (gated : Bool) : Dev :=
  let d := d.each ends (fun d t => if d.timerOn t then (d.beginPeriod t ext gated).anaBeginPeriod t gated else d)
  let d := d.joinTimers o ends ext gated
  let d := d.each (List.range 16) (fun d v => if d.inTransition v then d.restVoice v 7 else d)
  d.each (List.range 4) (fun d t =>
    let moved := d.differs o [TIMER_LENGTH_US t, TIMER_PHASE_US t]
    if !d.timerOn t then (if d.is (TIMER_STATUS_RUNNING t) then (d.putTimer t Timer.fresh).wr (TIMER_STATUS_RUNNING t) 0 else d)
    else if !d.is (TIMER_STATUS_RUNNING t) then d.startTimer t
    else if moved then
      let d := if d.firstBoundary t ext = ext then d else d.restTimer t 7
      d.putTimer t { d.timer t with next := d.firstBoundary t (ext + 1) }
    else d)

/-- The non-atomic groups that the new image changes (R281): the reference when what R47 and R48 ask for is another one. -/
def Dev.markGroups (d o : Dev) : Dev :=
  let going := if d.time.step = 0 then d.rd TB_STATUS_SOURCE else d.time.target
  { d with img := { d.img with
      refGroup := d.refMode != o.refMode && d.wantedSource != going,
      linkGroup := d.differs o [CHOIR_CFG_RATE, CHOIR_CFG_PORT_A_EN, CHOIR_CFG_PORT_B_EN] } }

/-- The switching boundary (R280) at an extended time: `t0` is the pipeline's timer of the old image. DEDUCED: log entry 43. -/
def Dev.switchImage (d : Dev) (t0 ext : Nat) (gated : Bool) : Dev :=
  let m := d.img
  let ends := d.endingTimers (d.takeTable m.table) t0 ext
  let d := d.endPeriods (d.takeTable m.table) ends ext
  let o := d
  let d := (((((d.takeTable m.table).showActive m).applyRole o).markGroups o).applyVoices o ext).checkViov
  let group := d.img.refGroup || d.img.linkGroup || d.img.pins != 0
  let d := d.each [1, 2, 3, 5, 6, 7] Dev.raiseEpoch
  let d := ((((d.applyRings o).applyMonitors o).applyExcs o).applyAnas o ext).applyCapture o
  let d := if d.differs o ageFlds then d.computeEps else d
  let d := (d.applyWeighing o).applyChoir
  let d := (d.wr STAGED_GEN 0).wr CHECK_STAGED 0
  let d := if group then (d.wr APPLY_STATUS_TRANS_LEFT (d.rd TRANS_REST)).applyState 5 else d
  let d := d.applyTimers o ends ext gated
  let d := if d.mismatch then d.fault 0x0904 reportOnly [] else d
  let d := if m.late then d.fault 0x0907 reportOnly [] else d
  let d := if d.img.refGroup then d.imageRefOut.decideSwitch d.wantedSource true
    else d.imageRefOut.planSwitch
  if group then d else d.endApply

/-- Is the switching boundary reached with the boundary of PCOUNT `p` (R280, R282)? An image that waits through STANDBY applies at the first
boundary after the resume (chapter 12, coincidences). -/
def Dev.switchDue (d : Dev) (p : Nat) : Bool :=
  d.rd APPLY_STATUS_STATE == 4 && d.mode != 4 && (match d.img.named with
    | none => true
    | some q => decide ((p + 2 ^ 32 - q % 2 ^ 32) % 2 ^ 32 < 2 ^ 31))

/-- TRANSITION_END (R281): every group's condition has been met. -/
def Dev.transitionEnd (d : Dev) : Dev :=
  let settled := (List.range 16).all (fun v => !d.img.pins.testBit v || d.pinSettled v)
  let still := d.is APPLY_STATUS_TRANS_LEFT || (d.img.refGroup && d.time.step != 0) || !settled
  if d.alive && d.rd APPLY_STATUS_STATE == 5 && !still then d.endApply else d

end Sys2Proof.Machine
end

