-- ==== Sys2Proof/Machine/Validate.lean ====
section
/-! DEFINITION.
The rules that refuse an image at validation, and the checks of R273 in their order.
-/

namespace Sys2Proof.Machine

open Reg

/-- A rule broken by an image, with the address of the word that breaks it. -/
abbrev Refusal1 := Bool × Nat

/-- The devices that an image declares. -/
def declared (t : Store) : List Nat := (List.range 16).filter (fun a => (fieldRead t CHOIR_DEVICES_MASK).testBit a)

/-- Is timer `n` of a table enabled? -/
def timerIn (t : Store) (n : Nat) : Bool := fieldRead t (TIMER_LENGTH_US n) != 0

/-- TIMEBASE (R48, R66). -/
def timebaseRules (t : Store) : List Refusal1 :=
  let g := fieldRead t
  let mode := g TB_CFG_MODE
  let age := fun (f : Fld) => decide (50000000 < (toSigned 32 (g f)).natAbs)
  [(decide (1 < (declared t).length) && mode != 3, TB_CFG_MODE.word), (g TB_CFG_CANTOR_REF == 3, TB_CFG_CANTOR_REF.word),
   (g AGE_D0_DAYS == 0, AGE_D0_DAYS.word), (age AGE_A0_VALUE, AGE_A0_VALUE.word), (age AGE_A1_VALUE, AGE_A1_VALUE.word),
   (!datePossible (g AGE_REF_DATE_YEAR) (g AGE_REF_DATE_MONTH) (g AGE_REF_DATE_DAY), AGE_REF_DATE_DAY.word),
   (g TB_CFG_RDY_USE == 1 && g TB_CFG_WARMUP_MAX == 0 && (mode == 1 || (mode == 3 && g TB_CFG_CANTOR_REF == 1)), TB_CFG_WARMUP_MAX.word)]

/-- VOICES, TUNE_CFG and IO_CFG (R29, R69, R93, R112). -/
def voiceRules (t : Store) : List Refusal1 :=
  let g := fieldRead t
  (List.range 16).flatMap (fun n =>
    [(g (VOICE_CTRL_MODE n) == 3, (VOICE_CTRL_MODE n).word), (g (VOICE_CTRL_EDGE n) == 0, (VOICE_CTRL_EDGE n).word),
     (decide (g (VOICE_DECIM_CFG_KMAX n) < g (VOICE_DECIM_CFG_KMIN n)) || decide (20 < g (VOICE_DECIM_CFG_KMAX n)), (VOICE_DECIM_CFG_KMIN n).word),
     (g (VOICE_CTRL_SRC n) == 1 && g (WM_CFG_EN (g (VOICE_ROUTE_WM n))) == 0, (VOICE_ROUTE_WM n).word)]) ++
  [(g TUNE_CFG_AGE_MAX == 0, TUNE_CFG_AGE_MAX.word), (g TUNE_CFG_SHIFT_MAX == 0, TUNE_CFG_SHIFT_MAX.word),
   (g IO_CFG_VIOV_EXPECT == 0, IO_CFG_VIOV_EXPECT.word)]

/-- A threshold set that R116 refuses. -/
def thresholdsBad (lower upper hyst : Nat) : Bool := decide ((upper : Int) - hyst ≤ (lower : Int) + hyst)

/-- F_j of a sweep (R127). -/
def sweepCode (fStart fStep j : Nat) : Int := (fStart : Int) + (j : Int) * toSigned 16 fStep

/-- Is a frequency code outside the range of R133? -/
def sweepBad (f : Int) : Bool := decide (f < 16) || decide (1048575 < f)

/-- MONITORS and EXCITERS (R116, R133). -/
def monitorRules (t : Store) : List Refusal1 :=
  let g := fieldRead t
  (List.range 8).flatMap (fun m =>
    [(thresholdsBad (g (WM_THRESH_LOWER m)) (g (WM_THRESH_UPPER m)) (g (WM_CFG_HYST m)), (WM_THRESH_LOWER m).word),
     (g (WM_CFG_EN m) == 0 && g (WM_CFG_CLASS_COND m) != 0, (WM_CFG_CLASS_COND m).word),
     (g (WM_CFG_QUAL_EN m) == 1 && g (EXC_CFG_MODE (g (WM_CFG_QUAL_EXC m))) == 0, (WM_CFG_QUAL_EXC m).word)]) ++
  (List.range 8).flatMap (fun x =>
    let mode := g (EXC_CFG_MODE x)
    let width := g (EXC_WIDTH_FCK x)
    let steps := g (EXC_SWEEP_STEPS x)
    let code := sweepCode (g (EXC_F_START_F x)) (g (EXC_F_STEP_F x))
    [((List.range 8).any (fun m => g (EXC_TRIP_SEL x) / 4 ^ m % 4 != 0 && g (WM_CFG_EN m) == 0), (EXC_TRIP_SEL x).word),
     (mode != 0 && g (VOICE_CTRL_EN (g (EXC_CFG_SYNC_VOICE x))) == 0, (EXC_CFG_SYNC_VOICE x).word),
     ((mode == 1 || mode == 2) && width == 0, (EXC_WIDTH_FCK x).word),
     (mode == 2 && g (EXC_COUNT_PULSES x) != 1 && decide (g (EXC_SPACING_FCK x) ≤ width), (EXC_SPACING_FCK x).word),
     (mode == 3 && (steps == 0 || decide (1024 < steps) || g (EXC_SWEEP_CYCLES x) == 0), (EXC_SWEEP_STEPS x).word),
     (mode == 3 && (sweepBad (code 0) || sweepBad (code (steps - 1))), (EXC_F_START_F x).word)])

/-- The shortest period of an enabled timer. -/
def shortest (t : Store) : Option Nat :=
  ((List.range 4).filter (timerIn t)).foldl
    (fun (m : Option Nat) n => some (min (m.getD (fieldRead t (TIMER_LENGTH_US n))) (fieldRead t (TIMER_LENGTH_US n)))) none

/-- Is a nominal value zero, negative, infinite or not a number? -/
def nominalBad (v : Nat) : Bool := let x : F64 := BitVec.ofNat 64 v; !(f64IsFinite x && f64Lt f64Zero x)

/-- The timer of a voice. -/
def timerOfIn (t : Store) (v : Nat) : Nat := fieldRead t (FIT_VOICE_CFG_TIMER v)

/-- FIT (R156, R346). -/
def fitRules (t : Store) : List Refusal1 :=
  let g := fieldRead t
  (List.range 4).flatMap (fun n =>
    let l := g (TIMER_LENGTH_US n)
    [(l != 0 && (decide (l < 100) || decide (10000000 < l)), (TIMER_LENGTH_US n).word),
     (l != 0 && decide (l ≤ g (TIMER_PHASE_US n)), (TIMER_PHASE_US n).word)]) ++
  (List.range 16).flatMap (fun v =>
    let ctx := g (FIT_VOICE_CFG_EN v) == 1
    [((ctx || g (VOICE_CTRL_EN v) == 1) && !timerIn t (timerOfIn t v), (FIT_VOICE_CFG_TIMER v).word),
     (ctx && decide (g (FIT_VOICE_MIN_STAMPS_VALUE v) < 3), (FIT_VOICE_MIN_STAMPS_VALUE v).word),
     (ctx && nominalBad (g (FIT_VOICE_NOM_HZ v)), (FIT_VOICE_NOM_HZ v).word)]) ++
  (List.range 8).flatMap (fun p =>
    let a := g (FIT_PAIR_CFG_VOICE_A p)
    let b := g (FIT_PAIR_CFG_VOICE_B p)
    let l := g (TIMER_LENGTH_US (timerOfIn t a))
    let stop := if g (FIT_PAIR_WIN_END_US p) = 0 then l else g (FIT_PAIR_WIN_END_US p)
    let on := g (FIT_PAIR_CFG_EN p) == 1
    [(on && (a == b || g (VOICE_CTRL_EN a) == 0 || g (VOICE_CTRL_EN b) == 0 || timerOfIn t a != timerOfIn t b || !timerIn t (timerOfIn t a)),
       (FIT_PAIR_CFG_EN p).word),
     (on && decide (g (FIT_VOICE_MIN_STAMPS_VALUE a) < 3), (FIT_VOICE_MIN_STAMPS_VALUE a).word),
     (on && decide (g (FIT_VOICE_MIN_STAMPS_VALUE b) < 3), (FIT_VOICE_MIN_STAMPS_VALUE b).word),
     (on && nominalBad (g (FIT_PAIR_NOM_RATIO p)), (FIT_PAIR_NOM_RATIO p).word),
     (on && (decide (stop ≤ g (FIT_PAIR_WIN_START_US p)) || decide (l < stop)), (FIT_PAIR_WIN_END_US p).word)]) ++
  [(decide (g FIT_CFG_CLOSE_WIN < 5120) || (match shortest t with
      | some l => decide (250 * l ≤ g FIT_CFG_CLOSE_WIN)
      | none => false), FIT_CFG_CLOSE_WIN.word),
   (g STRIKE_CFG_RETIRE == 0 || g STRIKE_CFG_DECAY == 0 || g STRIKE_CFG_PROBATION == 0, STRIKE_CFG_RETIRE.word)]

/-- An instance of the analyser (R175). -/
def analyserRules (t : Store) (a : Nat) : List Refusal1 :=
  let g := fieldRead t
  let mode := g (ANA_CFG_MODE a)
  let two := mode == 1 || mode == 2
  let vs := g (ANA_CFG_VOICE_S a)
  let vt := g (ANA_CFG_VOICE_T a)
  let lacks := fun (e v : Nat) => e &&& g (VOICE_CTRL_EDGE v) != e
  let kmax := fun (v : Nat) => decide (0 < g (VOICE_DECIM_CFG_KMAX v))
  let trig := mode != 0 || (g CAP_CFG_EN == 1 && (g CAP_CFG_TRIG_MASK).testBit a)
  let cond := g (ANA_TRIG_COND a)
  [(mode == 6 || mode == 7, (ANA_CFG_MODE a).word),
   (mode != 0 && (!timerIn t (g (ANA_CFG_TIMER a)) || g (VOICE_CTRL_EN vs) == 0 || (two && g (VOICE_CTRL_EN vt) == 0)), (ANA_CFG_TIMER a).word),
   (mode != 0 && (g (ANA_CFG_EDGE_S a) == 0 || g (ANA_CFG_EDGE_T a) == 0 || lacks (g (ANA_CFG_EDGE_S a)) vs ||
      (two && lacks (g (ANA_CFG_EDGE_T a)) vt)), (ANA_CFG_EDGE_S a).word),
   ((mode == 2 && (kmax vs || kmax vt)) || ((mode == 3 || mode == 4) && kmax vs), (ANA_CFG_MODE a).word),
   ((mode == 3 || mode == 4) && g (VOICE_CTRL_EDGE vs) != 3, (ANA_CFG_VOICE_S a).word),
   (mode != 0 && mode != 1 && mode != 3 && g (ANA_CFG_HIST_EN a) == 1, (ANA_CFG_HIST_EN a).word),
   (trig && cond == 2 && mode != 1 && mode != 3, (ANA_TRIG_COND a).word),
   (mode != 0 && decide (40 < g (ANA_HIST_SHIFT_HIST_SHIFT a)), (ANA_HIST_SHIFT_HIST_SHIFT a).word),
   (mode != 0 && decide (g (ANA_LIM_HI_LIM_HI a) < g (ANA_LIM_LO_LIM_LO a)), (ANA_LIM_LO_LIM_LO a).word),
   (trig && (cond == 1 || cond == 3) && g (VOICE_CTRL_EN (g (ANA_TRIG_VOICE a))) == 0, (ANA_TRIG_VOICE a).word)]

/-- HOST: the analyser, the capture unit, the rings and the host port (R87, R175, R304). -/
def hostRules (t : Store) : List Refusal1 :=
  let g := fieldRead t
  let cap := g CAP_CFG_EN == 1
  (List.range 4).flatMap (analyserRules t) ++
  [(cap && (decide (6 < g CAP_CFG_SEGS) || decide (65536 / 2 ^ g CAP_CFG_SEGS ≤ g CAP_PRE_VALUE) || g CAP_VOICES_VALUE == 0), CAP_CFG_EN.word),
   (decide (512 < ((List.range 24).map (fun n => g (RING_CFG_SIZE n))).sum), (RING_CFG_SIZE 0).word),
   (decide (g (RING_CFG_SIZE 23) < 4), (RING_CFG_SIZE 23).word), (g (RING_CFG_SIZE 19) == 0, (RING_CFG_SIZE 19).word)]

/-- A binary64 field as an exact multiple of 2^-1074. -/
def exactIn (t : Store) (f : Fld) : Int := f64Units (BitVec.ofNat 64 (fieldRead t f))

/-- Is a binary64 value finite? -/
def finiteBits (v : Nat) : Bool := f64IsFinite (BitVec.ofNat 64 v)

/-- The cells of a declared device (R204): `v` reads a field of its cell block. -/
def cellRules (own : Bool) (t : Store) (ws : Store) (a : Nat) : List Refusal1 :=
  let v := fun (f : Fld) => f.inWords ws a
  let g := fieldRead t
  let x := fun (f : Fld) => f64Units (BitVec.ofNat 64 (v f))
  let at0 := fun (f : Fld) => cellAddr a f.word
  let doubles := imageFields.filter (fun f => f.inCell && f.isDouble)
  let infinite := doubles.filterMap (fun f => if finiteBits (v f) then none else some (true, at0 f))
  let on := (List.range 8).filter (fun c => v (CELL_CFG_EN c) == 1)
  let pairs := on.map (fun c => v (CELL_CFG_PAIR c))
  infinite ++ [(on.isEmpty, at0 (CELL_CFG_EN 0))] ++
  on.flatMap (fun c =>
    let p := v (CELL_CFG_PAIR c)
    [(own && (g (FIT_PAIR_CFG_EN p) == 0 || timerOfIn t (g (FIT_PAIR_CFG_VOICE_A p)) != g PIPE_CFG_TIMER || decide (1 < pairs.count p)),
       at0 (CELL_CFG_PAIR c)),
     (decide (x (CELL_GAIN_GAIN c) ≤ 0), at0 (CELL_GAIN_GAIN c)), (decide (x (CELL_NOM_T_NOM_T c) ≤ 0), at0 (CELL_NOM_T_NOM_T c)),
     (decide (x (CELL_Q_MAX_Q_MAX c) ≤ x (CELL_Q_MIN_Q_MIN c)), at0 (CELL_Q_MIN_Q_MIN c))])

/-- The ranges (R191, R204). -/
def rangeRules (t : Store) : List Refusal1 :=
  let g := fieldRead t
  let x := exactIn t
  let r := g PIPE_CFG_RANGES
  let top := x (RANGE_MAX (r - 1))
  let mult : Int := (g (RANGE_MULT (r - 1)) : Nat)
  let e := x E_BASE
  [(r == 0, PIPE_CFG_RANGES.word), (g (RANGE_MULT 0) != 1, (RANGE_MULT 0).word), (decide (x (RANGE_MAX 0) ≤ 0), (RANGE_MAX 0).word),
   (decide (2 ≤ r) && decide (x (RANGE_MAX 1) ≤ x (RANGE_MAX 0)), (RANGE_MAX 1).word),
   (decide (3 ≤ r) && decide (x (RANGE_MAX 2) ≤ x (RANGE_MAX 1)), (RANGE_MAX 2).word),
   (decide (2 ≤ r) && decide (g (RANGE_MULT 1) < 2), (RANGE_MULT 1).word), (decide (3 ≤ r) && decide (g (RANGE_MULT 2) < 2), (RANGE_MULT 2).word),
   (decide (e ≤ 0), E_BASE.word), (decide ((2147483647 : Int) * e < top + 9 * mult * e), (RANGE_MAX (r - 1)).word),
   (decide (x IZ_NEG < 0), IZ_NEG.word), (decide (x IZ_POS < 0), IZ_POS.word), (decide (x ZR_NEG < 0), ZR_NEG.word),
   (decide (x ZR_POS < 0), ZR_POS.word), (decide (x TARE_MAX < 0), TARE_MAX.word),
   (decide (top < 5 * (x IZ_NEG + x IZ_POS)), IZ_NEG.word), (decide (top < 25 * (x ZR_NEG + x ZR_POS)), ZR_NEG.word),
   (decide (top < x TARE_MAX), TARE_MAX.word)]

/-- The IIR filter (R204): its two stability conditions and its DC gain. -/
def iirRules (t : Store) : List Refusal1 :=
  let x := exactIn t
  let on := fieldRead t PIPE_CFG_IIR_EN == 1
  let one : Int := (2 ^ 1074 : Nat)
  let den := one + x IIR_A1 + x IIR_A2
  let num := x IIR_B0 + x IIR_B1 + x IIR_B2
  [(on && decide (one ≤ (x IIR_A2).natAbs), IIR_A2.word), (on && decide (one + x IIR_A2 ≤ (x IIR_A1).natAbs), IIR_A1.word),
   (on && decide (den.natAbs < 2 ^ 40 * (num - den).natAbs), IIR_B0.word)]

/-- PIPELINE (R204). -/
def pipelineRules (t : Store) (ws : Store) : List Refusal1 :=
  let g := fieldRead t
  let x := exactIn t
  let src := g TOT_CFG_SRC
  let doubles := imageFields.filter (fun f => f.section == 7 && f.isDouble && !f.inCell && decide (f.word < 0x7800))
  [(!timerIn t (g PIPE_CFG_TIMER), PIPE_CFG_TIMER.word), (g PIPE_CFG_UNIT == 3, PIPE_CFG_UNIT.word)] ++
  doubles.filterMap (fun f => if finiteBits (g f) then none else some (true, f.word)) ++
  (declared t).flatMap (fun a => cellRules (a == g CHOIR_CFG_ADDR) t ws a) ++ rangeRules t ++
  [(decide (g PIPE_MOTION_WIN < 2) || decide (64 < g PIPE_MOTION_WIN) || g PIPE_MOTION_K == 0 || g PIPE_MOTION_UNDER_E == 0, PIPE_MOTION_WIN.word)] ++ iirRules t ++
  [(src == 3 || (src == 1 && decide (x TOT_D ≠ x E_BASE)) || (src != 0 && g TOT_CFG_WIDTH == 0) || (src == 2 && g TRACK_CFG_EN == 0),
     TOT_CFG_SRC.word),
   (src != 0 && g TOT_UNIT == 0, TOT_UNIT.word)] ++
  (List.range 4).map (fun i => (g (SP_CFG_SRC i) == 3, (SP_CFG_SRC i).word))

/-- The resources of the track channel (R93, R131, R205). -/
def trackResources (t : Store) : List Refusal1 :=
  let g := fieldRead t
  let free := fun (m : Nat) => g (WM_CFG_EN m) == 1 && g (WM_CFG_CLASS_COND m) == 0 && g (WM_LOSS_MASK_VOICES m) == 0
  let lamp := fun (x : Nat) => g TRACK_CFG_LAMP_EN == 1 && g TRACK_CFG_LAMP_EXC == x
  [(!(g (VOICE_CTRL_EN 15) == 1 && g (VOICE_CTRL_SRC 15) == 1 && g (VOICE_ROUTE_WM 15) == 6 && g (VOICE_ROUTE_COMP 15) == 1 &&
      g (VOICE_CTRL_EDGE 15) == 3 && g (VOICE_DECIM_CFG_KMIN 15) == 0 && g (VOICE_DECIM_CFG_KMAX 15) == 0), (VOICE_CTRL_EN 15).word),
   (!(g (VOICE_CTRL_EN 14) == 1 && g (VOICE_CTRL_SRC 14) == 0 && g (VOICE_CTRL_EDGE 14) != 3), (VOICE_CTRL_EN 14).word),
   (!(free 6 && g (WM_CFG_MODE 6) == 0), (WM_CFG_EN 6).word), (!(free 7 && g (WM_CFG_MODE 7) != 3), (WM_CFG_EN 7).word),
   (!free 5, (WM_CFG_EN 5).word),
   (g TRACK_CFG_LAMP_EN == 1 && g (EXC_CFG_MODE (g TRACK_CFG_LAMP_EXC)) == 0, (EXC_CFG_MODE (g TRACK_CFG_LAMP_EXC)).word)] ++
  (List.range 8).map (fun x => (!lamp x && g (EXC_TRIP_SEL x) / 4 ^ 5 != 0, (EXC_TRIP_SEL x).word))

/-- The splice entries of a table: POS, LEN, BIT. -/
def splicesIn (t : Store) : List (Nat × Nat × Nat) :=
  (List.range (min 16 (fieldRead t TRACK_DETECT_SPLICE_COUNT))).map
    (fun s => (fieldRead t (SPLICE_POS s), fieldRead t (SPLICE_LEN s), fieldRead t (SPLICE_BIT s)))

/-- Are splice entries sorted, apart, within the belt and with a possible BIT (R231)? -/
def splicesGood (belt : Nat) : Nat → List (Nat × Nat × Nat) → Bool
  | _, [] => true
  | low, (p, l, b) :: r => decide (low ≤ p) && decide (p + l ≤ belt) && decide (b ≤ 159) && splicesGood belt (p + l) r

/-- A zone's threshold, limited (R209). -/
def zoneThreshold (base off : Nat) : Nat := (max 0 (min 1023 ((base : Int) + toSigned 11 off))).toNat

/-- The track channel (R205, R231), checked only when it is enabled. DEDUCED: log entry 41. -/
def trackRules (t : Store) : List Refusal1 :=
  let g := fieldRead t
  if g TRACK_CFG_EN = 0 then []
  else
    let belt := g BELT_LEN
    let cell := g TRACK_CELL_CELL_LEN
    let sp := splicesIn t
    let free := (sp.map (fun (s : Nat × Nat × Nat) => s.2.1)).sum
    let len := g (TIMER_LENGTH_US (g PIPE_CFG_TIMER))
    let src2 := g TOT_CFG_SRC == 2
    trackResources t ++
    [(belt % 1024 != 0 || decide (belt < 10000000) || decide (100000000000 < belt), BELT_LEN.word),
     (decide (cell < 2000) || decide (20000 < cell), TRACK_CELL_CELL_LEN.word),
     (decide (belt < free) || (belt - free) % (326 * cell) != 0, BELT_LEN.word),
     (!splicesGood belt 0 sp, (SPLICE_POS 0).word)] ++
    (List.range 64).map (fun z =>
      (thresholdsBad (zoneThreshold (g (WM_THRESH_LOWER 6)) (g (ZONE_A_THR_OFF z))) (zoneThreshold (g (WM_THRESH_UPPER 6)) (g (ZONE_A_THR_OFF z)))
        (g (ZONE_A_HYST z)), (ZONE_A_THR_OFF z).word)) ++
    [(decide (8000 < g V_MAX) || decide (belt * 1000 < g V_MAX * len * 1024), V_MAX.word),
     (g POS_ERR_MAX == 0, POS_ERR_MAX.word), (g DR_MAX == 0, DR_MAX.word), (g WEIGH_LEN == 0, WEIGH_LEN.word),
     (g TRACK_CFG_LOOP_SHIFT == 0, TRACK_CFG_LOOP_SHIFT.word), (g TRACK_CFG_SHOCK_COND == 0, TRACK_CFG_SHOCK_COND.word),
     (nominalBad (g TACH_UM), TACH_UM.word), (nominalBad (g PROF_MAX), PROF_MAX.word), (decide (belt ≤ g BRIDGE_OFFSET), BRIDGE_OFFSET.word),
     (src2 && (g PIPE_CFG_RANGES != 1 || decide (exactIn t TOT_D < exactIn t E_BASE)), TOT_D.word)]

/-- The ranks of an image: the first RANK_COUNT positions. -/
def ranksIn (t : Store) : List Nat :=
  (List.range (min 16 (fieldRead t CHOIR_DEVICES_RANK_COUNT))).map (fun i => fieldRead t CHOIR_RANK_RANK / 16 ^ i % 16)

/-- CHOIR (R264). DEDUCED: log entry 41. -/
def choirRules (t : Store) : List Refusal1 :=
  let g := fieldRead t
  let many := decide (1 < (declared t).length)
  let ranks := ranksIn t
  let win := g CHOIR_SUMWIN_SUM_WINDOW
  let asym := fun (f : Fld) => decide (10000 < (toSigned 16 (g f)).natAbs)
  [(!(declared t).contains (g CHOIR_CFG_ADDR), CHOIR_CFG_ADDR.word),
   (many && g CHOIR_DEVICES_RANK_COUNT == 0 || decide (16 < g CHOIR_DEVICES_RANK_COUNT), CHOIR_DEVICES_RANK_COUNT.word),
   (ranks.any (fun r => !(declared t).contains r || decide (1 < ranks.count r)), CHOIR_RANK_RANK.word),
   (many && g CHOIR_CFG_PORT_A_EN == 0 && g CHOIR_CFG_PORT_B_EN == 0, CHOIR_CFG_PORT_A_EN.word),
   (many && (decide (win * 250 < g FIT_CFG_CLOSE_WIN + 200 + 6250) || decide (g (TIMER_LENGTH_US (g PIPE_CFG_TIMER)) ≤ 2 * win)),
     CHOIR_SUMWIN_SUM_WINDOW.word),
   (asym PORT_ASYM_ASYM_A, PORT_ASYM_ASYM_A.word), (asym PORT_ASYM_ASYM_B, PORT_ASYM_ASYM_B.word)]

/-- LOG (R325). -/
def logRules (t : Store) : List Refusal1 := [(fieldRead t LOG_CFG_FAULT_LEVEL == 3, LOG_CFG_FAULT_LEVEL.word)]

/-- Every rule that refuses an image (code 7 of R273), but for that on TRANS_REST, which looks at the active image too.
DEDUCED: log entry 41. -/
def imageRules (t : Store) (ws : Store) : List Refusal1 :=
  timebaseRules t ++ voiceRules t ++ monitorRules t ++ fitRules t ++ pipelineRules t ws ++ trackRules t ++ choirRules t ++ hostRules t ++ logRules t

/-- What validation finds: 0 or the code of R273, with the address it names; and of an image that passed the checks of its own contents
its table, check code, CHOIR_HASH, COMMON_HASH and GEN, and whether a signature was verified. -/
structure Verdict where
  code : Nat
  addr : Nat
  table : Store
  check : Nat
  choirHash : Nat
  commonHash : Nat
  gen : Nat
  signed : Bool
deriving DecidableEq, Repr

/-- A refusal. -/
def Verdict.no (code addr : Nat) : Verdict :=
  { code := code, addr := addr, table := [], check := 0, choirHash := 0, commonHash := 0, gen := 0, signed := false }

/-- The order of the bodies of check 4: CHOIR, then by ID. -/
def bodyNotCanonical (b : List Nat) : Option Nat :=
  let mask := ((entriesOf slotSize (bodyOf b 9)).find? (fun e => e.1 == CHOIR_DEVICES_MASK.word)).map (fun e => e.2 % 65536)
  match notCanonical 9 0 (bodyOf b 9) with
  | some a => some a
  | none =>
    match identBad (bodyOf b 1) with
    | some a => some a
    | none => [2, 3, 4, 5, 6, 7, 8, 10, 11].findSome? (fun id => notCanonical id (mask.getD 0) (bodyOf b id))

/-- Checks 1 to 7 of R273 for a slot's bytes: `states` are the slot states accepted, `rate` the present CHOIR_CFG.RATE at an APPLY. -/
def validate (b : List Nat) (states : List Nat) (keySet : Bool) (keyHash : Nat) (rate : Option Nat) : Verdict :=
  if !states.contains (slotState (b.take 256)) then Verdict.no 1 0xFFFFFFFF
  else if !directoryGood b then Verdict.no 2 0xFFFFFFFF
  else if (badCrc b).isSome then Verdict.no 3 0xFFFFFFFF
  else
    match bodyNotCanonical b with
    | some a => Verdict.no 4 a
    | none =>
      let check := legalCode b
      let choir := choirHashOf b
      let common := commonHashOf b
      if intAt b 0x10 4 ≠ check ∨ intAt b 0x14 4 ≠ choir ∨ intAt b 0x18 4 ≠ common then Verdict.no 5 0xFFFFFFFF
      else if keySet && !signatureGood keyHash b then Verdict.no 6 0xFFFFFFFF
      else
        let ws := imageWords b
        let t := imageTable b ws
        let slow := match rate with
          | some r => fieldRead t CHOIR_CFG_RATE != r &&
              decide (fieldRead t TRANS_REST * fieldRead t (TIMER_LENGTH_US (fieldRead t PIPE_CFG_TIMER)) < 25000)
          | none => false
        match (imageRules t ws).find? (fun r => r.1) with
        | some r => Verdict.no 7 r.2
        | none =>
          if slow then Verdict.no 7 TRANS_REST.word
          else { code := 0, addr := 0xFFFFFFFF, table := t, check := check, choirHash := choir, commonHash := common, gen := intAt b 0xC 4,
                 signed := keySet }

end Sys2Proof.Machine
end

