-- ==== Sys2Proof/Machine/Apply.lean ====
section
/-! DEFINITION.
Reconfiguration (R277 to R282): from APPLY to ARMED, and the key fuses (R272).
-/

namespace Sys2Proof.Machine

open Reg

/-- The bytes of a slot. -/
def Dev.slotBytes (d : Dev) (s : Nat) : List Nat := d.nvmBytes (slotBase s) slotSize

/-- The state field of a slot. -/
def slotFld (s : Nat) : Fld := if s = 0 then CFG_STATUS_SLOT_A else CFG_STATUS_SLOT_B

/-- The slot that an APPLY reads: the inactive one; with no active image the WRITTEN one, slot A first. DEDUCED: log entry 42. -/
def Dev.targetSlot (d : Dev) : Nat :=
  if d.is CFG_STATUS_CONFIGURED then 1 - d.rd CFG_STATUS_ACTIVE_SLOT
  else if d.rd CFG_STATUS_SLOT_A = 1 then 0 else if d.rd CFG_STATUS_SLOT_B = 1 then 1 else 0

/-- Is APPLY or APPLY_LOAD accepted (R279)? -/
def Dev.mayApply (d : Dev) : Bool := d.alive && d.rd APPLY_STATUS_STATE == 0 && (d.mode == 1 || d.mode == 2)

/-- APPLY and APPLY_LOAD (R279): VALIDATING. DEDUCED: log entry 42. -/
def Dev.startApply (load : Bool) (d : Dev) : Dev :=
  if !d.mayApply then d
  else
    let s := d.targetSlot
    let d := { d with img := { ImgSt.none with slot := s, load := load } }
    let d := d |>.wr APPLY_STATUS_RESULT 0 |>.wr APPLY_STATUS_LEGAL 0 |>.wr APPLY_STATUS_CHOIR_WIDE 0 |>.wr APPLY_ERR_ADDR_ADDR 0xFFFFFFFF
      |>.wr STAGED_GEN (ofBytesLE (d.nvmBytes (slotBase s + 0xC) 4))
    d.applyState 1

/-- Is CANCEL accepted (R279)? -/
def Dev.mayCancel (d : Dev) : Bool := d.alive && d.rd APPLY_STATUS_STATE == 2

/-- CANCEL (R279). -/
def Dev.cancelApply (d : Dev) : Dev := if d.mayCancel then d.endApply else d

/-- Are the key fuses programmed on command (R272)? -/
def Dev.mayFuse (d : Dev) : Bool := d.alive && d.is PIN_LEVEL_SEAL_OPEN && !d.fuses.keySet

/-- PROGRAM_KEY_FUSES (R272). -/
def Dev.programKeyFuses (d : Dev) : Dev := if d.mayFuse then { d with fuses := { keySet := true, keyHash := d.rd FUSE_STAGE } } else d

/-- Is the change legal (R277)? -/
def Dev.isLegal (d : Dev) (v : Verdict) : Bool := !d.is CFG_STATUS_CONFIGURED || v.check != d.rd CHECK_CODE

/-- Is the change choir-wide (R282)? -/
def Dev.isChoirWide (d : Dev) (v : Verdict) : Bool :=
  decide (1 < d.deviceCount) && (v.choirHash != d.rd CHOIR_HASH || v.commonHash != d.rd COMMON_HASH)

/-- The belt block of a PIPELINE body. -/
def beltBlock (body : List Nat) : List (Nat × Nat) :=
  (entriesOf slotSize body).filter (fun (e : Nat × Nat) => decide (0x8000 ≤ e.1) && decide (e.1 < 0x8040))

/-- A validated image is noted for the rest of the sequence, with what it changes of the pipeline and the track channel (R202, R229). -/
def Dev.noteImage (d : Dev) (v : Verdict) (b : List Nat) : Dev :=
  let old := d.slotBytes (d.rd CFG_STATUS_ACTIVE_SLOT)
  let none0 := !d.is CFG_STATUS_CONFIGURED
  let legal := d.isLegal v
  let d := { d with img := { d.img with
      table := v.table, check := v.check, choirHash := v.choirHash, commonHash := v.commonHash, gen := v.gen, signed := v.signed,
      legal := legal, pipeNew := none0 || bodyOf old 7 != bodyOf b 7,
      trackNew := none0 || bodyOf old 8 != bodyOf b 8 || beltBlock (bodyOf old 7) != beltBlock (bodyOf b 7) } }
  d |>.wr APPLY_STATUS_LEGAL (bit legal) |>.wr APPLY_STATUS_CHOIR_WIDE (bit (d.isChoirWide v)) |>.wr STAGED_GEN v.gen |>.wr CHECK_STAGED v.check

/-- The checks of R273 that only an APPLY makes: 0 or the code. DEDUCED: log entry 41. -/
def Dev.applyCode (d : Dev) (v : Verdict) : Nat :=
  let legal := d.isLegal v
  if fieldRead v.table CHOIR_CFG_ADDR ≠ d.rd STRAP_STATUS_ADDR then 8
  else if legal ∧ d.img.shut then 14
  else if legal ∧ !d.is PIN_LEVEL_SEAL_OPEN then 9
  else if legal ∧ d.auditFull then 10
  else if !(decide (1 ≤ (v.gen + 2 ^ 32 - d.rd ACTIVE_GEN) % 2 ^ 32) &&
      decide ((v.gen + 2 ^ 32 - d.rd ACTIVE_GEN) % 2 ^ 32 < 2 ^ 31)) then 11
  else 0

/-- VALIDATION_DONE (R273, R279): the inactive slot has been read and checked; `failed` says that the NVM could not be read. -/
def Dev.validationDone (failed : Bool) (d : Dev) : Dev :=
  if !(d.nvmReady && d.rd APPLY_STATUS_STATE == 1) then d
  else if failed then (d.fault 0x0906 transient [srcDevice]).refuseApply 13 0xFFFFFFFF
  else
    let b := d.slotBytes d.img.slot
    let rate := if d.is CFG_STATUS_CONFIGURED then some (d.rd CHOIR_CFG_RATE) else none
    let v := validate b (if d.rd (slotFld d.img.slot) = 5 then [] else [1]) d.fuses.keySet d.fuses.keyHash rate
    if v.code ≠ 0 then d.refuseApply v.code v.addr
    else
      let code := d.applyCode v
      if code ≠ 0 then
        (if code = 10 then d.reportAuditFull else d).refuseApply code (if code = 8 then CHOIR_CFG_ADDR.word else 0xFFFFFFFF)
      else
        let d := d.noteImage v b
        d.applyState (if d.is APPLY_STATUS_CHOIR_WIDE && !d.isCantor then 2 else 3)

/-- The PCOUNT of the first boundary of the pipeline's timer at least LEASE / 4 ahead (R262, R282). -/
def Dev.boundaryAhead (d : Dev) : Nat :=
  let t := d.pipeTimer
  let tm := d.timer t
  let l := d.rd (TIMER_LENGTH_US t) * 800
  let index := if tm.prev.isSome then d.rd (TIMER_PCOUNT_COUNT t) + 1 else 0
  let stop := d.ext + d.leaseUs * 200
  (index + (if stop ≤ tm.next ∨ l = 0 then 0 else (stop - tm.next + l - 1) / l)) % 2 ^ 32

/-- ARMED is entered (R279, R282): in a choir-wide change the cantor sends SWITCH, and a member answers with SWITCH_ACK. -/
def Dev.arm (d : Dev) : Dev :=
  let d := d.applyState 4
  if !d.is APPLY_STATUS_CHOIR_WIDE then d
  else if d.isCantor then
    let p := d.boundaryAhead
    let d := { d with img := { d.img with named := some p } }
    ((d.wr SWITCH_PSEQ p).wr SWITCH_ACK 0).sendCmdAll 2 0 p d.img.commonHash
  else d.sendCmd (d.rd CHOIR_STATUS_CANTOR) 3 0 0 (d.img.named.getD 0) d.img.commonHash

/-- A step of COMMITTING failed before the commit point (R279): code 13 and fault 0x0906. -/
def Dev.failCommit (d : Dev) : Dev := (d.showSlots.fault 0x0906 transient [srcDevice]).refuseApply 13 0xFFFFFFFF

/-- The address of a mark (R267): 0x80 WRITTEN, 0x84 COMMITTED, 0x88 SUPERSEDED. DEDUCED: log entry 42. -/
def markAddr (s off : Nat) : Nat := slotBase s + off

/-- A mark with every bit programmed. DEDUCED: log entry 42. -/
def markBytes : List Nat := [0, 0, 0, 0]

/-- The steps of COMMITTING (R279): a change that is not legal has no audit record, and without an active image there is no old slot. -/
def Dev.commitSteps (d : Dev) : List Nat :=
  [1, 2, 3, 4].filter (fun n => (d.img.legal || n == 2 || n == 3) && (d.is CFG_STATUS_CONFIGURED || n != 3))

/-- The next step of COMMITTING that is due. -/
def Dev.commitDue (d : Dev) : Option Nat := d.commitSteps.find? (fun n => decide (d.img.step < n))

/-- Is the commit point passed (R279): SUPERSEDED on the old slot, or COMMITTED without one? -/
def Dev.commitPassed (d : Dev) : Bool := decide ((if d.is CFG_STATUS_CONFIGURED then 3 else 2) ≤ d.img.step)

/-- A program of COMMITTING, step `n` of R279. -/
def Dev.commitProgram (d : Dev) (n : Nat) : Dev :=
  let s := d.img.slot
  if n = 1 then d.writeAudit 1 0xFF (if d.is CFG_STATUS_CONFIGURED then d.rd CHECK_CODE else 0) d.img.check d.img.gen false
  else if n = 2 then d.program (markAddr s 0x84) markBytes
  else if n = 3 then d.program (markAddr (d.rd CFG_STATUS_ACTIVE_SLOT) 0x88) markBytes
  else d.settleAudit true

/-- The same when the NVM reports a failure: what it has left in the bytes is open. Before the commit point it ends the APPLY; a record that
is not confirmed is left to the next boot (R279), and both are failures of the NVM (R283). -/
def Dev.commitFails (d : Dev) (n : Nat) : Dev :=
  let s := d.img.slot
  if n = 1 then (d.writeAudit 1 0xFF (if d.is CFG_STATUS_CONFIGURED then d.rd CHECK_CODE else 0) d.img.check d.img.gen true).failCommit
  else if n = 2 then (d.spoil (markAddr s 0x84) markBytes).failCommit
  else if n = 3 then (d.spoil (markAddr (d.rd CFG_STATUS_ACTIVE_SLOT) 0x88) markBytes).failCommit
  else ((d.spoil (d.auditAddr (d.rd AUDIT_USED - 1) + 1) [0xFE]).countAudit).fault 0x0906 transient [srcDevice]

/-- After the last step (R279): the image is armed, or a LOAD reset follows. -/
def Dev.afterCommit (d : Dev) : Dev :=
  let d := d.showSlots
  if d.img.load ∨ !d.is CFG_STATUS_CONFIGURED then d.reset 4 else d.arm

/-- COMMIT_COMPLETE (R279): program `n` of COMMITTING ends, the one that is due; `failed` says that the NVM reports a failure. After the last
one the sequence goes on. -/
def Dev.commitComplete (n : Nat) (failed : Bool) (d : Dev) : Dev :=
  if !(d.nvmReady && d.rd APPLY_STATUS_STATE == 3 && d.commitDue == some n) then d
  else if failed ∧ n ≠ 4 then d.commitFails n
  else
    let d := if failed then d.commitFails n else d.commitProgram n
    let d := { d with img := { d.img with step := n } }.showSlots
    if d.commitDue.isNone then d.afterCommit else d

/-- The seal closes during an APPLY (R277): a legal change before its commit point is refused, at once in COMMITTING, and at the end of
VALIDATING or of STAGED. DEDUCED: log entry 42. -/
def Dev.sealClosed (d : Dev) : Dev :=
  if d.rd APPLY_STATUS_STATE = 1 ∨ d.rd APPLY_STATUS_STATE = 2 then { d with img := { d.img with shut := true } }
  else if d.rd APPLY_STATUS_STATE = 3 ∧ d.img.legal ∧ !d.commitPassed then d.refuseApply 14 0xFFFFFFFF
  else d

/-- A staged image is committed (R279): on a SWITCH of the staged COMMON_HASH, or when the device takes the cantor role. A legal one whose seal
has closed since its validation is refused (R277). -/
def Dev.commitStaged (d : Dev) : Dev :=
  if d.rd APPLY_STATUS_STATE ≠ 2 then d
  else if d.img.legal ∧ (d.img.shut ∨ !d.is PIN_LEVEL_SEAL_OPEN) then d.refuseApply 14 0xFFFFFFFF
  else d.applyState 3

end Sys2Proof.Machine
end

