-- ==== Sys2Proof/Machine/Boundary.lean ====
section
/-! DEFINITION.
Boundaries (R134, R59): taking them, the switching boundary among them (R280), the end of a closed gate, crystal failure (R64), and
one FCK of the clock.
-/

namespace Sys2Proof.Machine

open Reg

/-- A timer takes a boundary (R134). For the pipeline's timer it opens a period of the pipeline (R176), counts the transition down (R281),
and is the switching boundary when that is due (R280). DEDUCED: log entry 34. -/
def Dev.boundaryTaken (d : Dev) (t ext : Nat) (gated : Bool) : Dev :=
  let pipe := decide (t = d.pipeTimer)
  let tm := d.timer t
  let pseq := d.rd (TIMER_PCOUNT_COUNT t)
  let passing := decide (d.rd APPLY_STATUS_STATE = 5) && d.is APPLY_STATUS_TRANS_LEFT
  let extra := if passing && d.img.linkGroup then 2 ^ 7 else 0
  let res := match tm.prev with
    | some b => d.presets t b
    | none => []
  let p := if tm.prev.isSome then (pseq + 1) % 2 ^ 32 else 0
  let due := pipe && d.switchDue p
  let fresh := due && d.img.pipeNew
  let e := match tm.prev with
    | some b => if pipe then d.beltBoundary b ext else (d, BeltEnd.none)
    | none => (d, BeltEnd.none)
  let d := e.1
  let d := if pipe && passing then d.wr APPLY_STATUS_TRANS_LEFT (d.rd APPLY_STATUS_TRANS_LEFT - 1) else d
  let d := if due then
      let late := match d.img.named with
        | some q => decide (q ≠ p)
        | none => false
      { d with img := { d.img with late := late } }.switchImage t ext gated
    else d.takeBoundary t ext gated
  match tm.prev with
  | some b => if pipe ∧ d.mode ≠ 3 ∧ d.mode ≠ 5 then d.openJob b ext pseq res extra fresh e.2 else d
  | none => d

/-- SWITCHING_BOUNDARY (R280): the boundary of the pipeline's timer at which an armed image switches. -/
def Dev.switchingBoundary (d : Dev) : Dev :=
  let t := d.pipeTimer
  let tm := d.timer t
  let p := if tm.prev.isSome then (d.rd (TIMER_PCOUNT_COUNT t) + 1) % 2 ^ 32 else 0
  if d.alive && d.sckOpen && d.is (TIMER_STATUS_RUNNING t) && d.switchDue p then
    let ext := tm.next
    let d := if d.rd EPOCH_COUNT_COUNT < ext / coarseMod then d.wrapEpoch else d
    ((d.advance ext).boundaryTaken t ext false).choirReset
  else d

/-- The running timer with the earliest boundary before an extended time. -/
def Dev.earliest (d : Dev) (stop : Nat) : Option Nat :=
  (List.range 4).foldl (fun (best : Option Nat) t =>
    if d.is (TIMER_STATUS_RUNNING t) && decide ((d.timer t).next < stop) then
      match best with
      | some b => if (d.timer t).next < (d.timer b).next then some t else best
      | none => some t
    else best) none

/-- Take the boundaries that lie before an extended time, earliest first (R59). -/
def Dev.catchUp (stop : Nat) : Nat → Dev → Dev
  | 0, d => d
  | n + 1, d =>
    match d.earliest stop with
    | some t => Dev.catchUp stop n (d.boundaryTaken t (d.timer t).next true)
    | none => d

/-- As many boundaries as can lie between the earliest of them and an extended time: each timer's are at least 800 SCK apart. -/
def Dev.boundariesTo (d : Dev) (stop : Nat) : Nat :=
  match d.earliest stop with
  | some t => 4 * ((stop - (d.timer t).next) / 800 + 2)
  | none => 0

/-- The boundaries passed over up to an extended time are taken to have occurred (R59). DEDUCED: log entry 26. -/
def Dev.passBoundaries (d : Dev) (stop : Nat) : Dev := Dev.catchUp stop (d.boundariesTo stop) d

/-- EVCNT goes on with what the prescalers counted modulo 16 (R70), and with these counted edges SILENT ends (R146). DEDUCED: log entry 26. -/
def Dev.carryPrescaler (d : Dev) : Dev :=
  d.each (List.range 16) (fun d n =>
    let v := d.voice n
    if v.hidden = 0 then d
    else
      let d := d.putVoice n { v with evcnt := (v.evcnt + v.hidden) % 2 ^ 32, counted := v.counted + v.hidden, hidden := 0, lastEdge := some d.ext }
      (d.wr (VOICE_EVTOTAL_COUNT n) (d.rd (VOICE_EVTOTAL_COUNT n) + v.hidden)).wr (FIT_VOICE_STATUS_SILENT n) 0)

/-- SYNC markers into every enabled voice's ring (R59, R75). DEDUCED: log entry 27. -/
def Dev.syncMarkers (d : Dev) : Dev :=
  d.each (List.range 16) (fun d n =>
    if d.rd (VOICE_STATUS_STATE n) = 0 then d
    else
      let v := d.voice n
      d.putVoice n (v.pushDirect (v.entry d.ext 0 v.evcnt 0 9 0 0)))

/-- SCK reopens at a coarse count carried by `forward` SCK from closure (R58 step 9, R59, R72): the prescalers, the boundaries
passed over, an EPOCH marker when the count wrapped, ahead of the entries of the new epoch (R84), and the SYNC markers. -/
def Dev.reopen (d : Dev) (forward : Nat) : Dev :=
  let total := d.time.coarse + forward
  let wraps := total / coarseMod
  let d := { d with time := { d.time with coarse := total % coarseMod, fifths := 0, gap := 0, opened := true, step := 0 } }
  let d := if wraps = 0 then d else d.wr EPOCH_COUNT_COUNT (min 0xFFFF (d.rd EPOCH_COUNT_COUNT + wraps))
  let d := (d.wr TB_STATUS_GATED 0).carryPrescaler
  let wrap := d.rd EPOCH_COUNT_COUNT * coarseMod
  let d := if wraps = 0 then d else (d.passBoundaries wrap).epochMarkers wrap
  (d.passBoundaries d.ext).syncMarkers

/-- A cantor on its own OCXO is no longer in holdover (R256). -/
def Dev.leaveHoldover (d : Dev) : Dev := if d.rd TB_STATUS_SOURCE = 1 then d.wr CHOIR_STATUS_HOLDOVER 0 else d

/-- The gate opens at the end of a switch (R58 steps 8 to 10). -/
def Dev.openGate (d : Dev) : Dev :=
  let g := d.time.gap
  let d := d.reopen (g * 16 / 5)
  let d := d.inc RELOCK_COUNT_COUNT |>.wr RELOCK_GAP_G (min g (2 ^ 24 - 1)) |>.wr TB_EVENT_RELOCK 1
  let d := { d with time := { d.time with cfgSwitch := false } }
  d.leaveHoldover.resumeTuning.showRefOut

/-- Does SCK open for the first time after a boot (R20 step 8), or at a resume (R344 step 4)? -/
def Dev.firstOpening (d : Dev) : Bool := !d.time.opened || (d.mode == 4 && d.is TB_STATUS_GATED)

/-- WINDOW_CHECK (R60): `count` is the SPLL output / 8 over 256 reference cycles. A check passed lets the gate open, which at the first
opening of SCK is a step of the boot or of the resume. -/
def Dev.windowCheck (count : Nat) (d : Dev) : Dev :=
  if !d.clocked || d.time.step != 7 then d
  else
    let nominal := if d.time.target = 1 then 2560 else 1024
    let off := if count < nominal then nominal - count else count - nominal
    if off * 200 ≤ nominal then (if d.firstOpening then { d with time := { d.time with step := 8 } } else d.openGate)
    else if d.time.repeated then d.spllFail 0x0411
    else ({ d with time := { d.time with step := 5, repeated := true } }).wr TB_STATUS_SPLL_LOCK 0

/-- A planned switch starts at a period boundary, unless a reconfiguration waits for its own (R58). DEDUCED: log entry 29. -/
def Dev.startPlanned (d : Dev) : Dev :=
  if d.time.planned && d.time.step == 0 && d.rd APPLY_STATUS_STATE != 4 then
    if d.wantedSource = d.rd TB_STATUS_SOURCE then { d with time := { d.time with planned := false } }
    else d.decideSwitch d.wantedSource false
  else d

/-- Bring the count up to an extended time, through an epoch wrap when it lies beyond it. -/
def Dev.reach (d : Dev) (ext : Nat) : Dev :=
  let d := if d.rd EPOCH_COUNT_COUNT < ext / coarseMod then d.wrapEpoch else d
  d.advance ext

/-- PERIOD_BOUNDARY (R134): timer `t` reaches its next boundary. DESIGN CHOICE: log entry 1. -/
def Dev.periodBoundary (t : Nat) (d : Dev) : Dev :=
  if d.alive && d.sckOpen && d.is (TIMER_STATUS_RUNNING t) then
    let b := (d.timer t).next
    ((d.reach b).boundaryTaken t b false).startPlanned.choirReset
  else d

/-- Every enabled timer starts. -/
def Dev.startTimers (d : Dev) : Dev :=
  d.each (List.range 4) (fun d t => if d.timerOn t then d.startTimer t else d)

/-- XTAL_FAIL (R64): FCK moves to RCK, the count is frozen, and the device enters the safe state; so does a crystal that fails to start in a
resume, while FCK is still on RCK (chapter 15, coincidences). -/
def Dev.xtalFail (cause : Nat) (d : Dev) : Dev :=
  if !d.alive || (d.is TB_STATUS_FCK_SRC && d.mode != 4) then d
  else
    let c := d.coarse
    let code := if cause = 0 then 0x0420 else 0x0421
    let d := d.closeGate 6
    let d := { d with time := { d.time with coarse := c, fifths := 0, gap := 0, step := 0, planned := false } }
    let d := d.wr TB_STATUS_FCK_SRC 1 |>.wr TB_EVENT_XTAL_FAIL 1 |>.wr TB_STATUS_SPLL_LOCK 0 |>.wr TB_STATUS_FPLL_LOCK 0
    ((d.fault code permanent [srcDevice]).enterSafe 2 code).portsDown

/-- SCK runs on for `n` SCK: the count may wrap. DESIGN CHOICE: log entries 2 and 55. -/
def Dev.runSck (d : Dev) (n : Nat) : Dev :=
  let total := d.time.coarse + n
  if total < coarseMod then { d with time := { d.time with coarse := total } }
  else
    let d := d.wrapEpoch
    { d with time := { d.time with coarse := total - coarseMod } }

/-- One FCK passes: SCK advances by 16/5, or the gap is counted. Nothing counts without power or, but for FCK itself, on RCK.
DESIGN CHOICE: log entry 2. -/
def Dev.tick (d : Dev) : Dev :=
  if !d.power.good then d
  else
    let d := { d with time := { d.time with fck := d.time.fck + 1 } }
    if d.is TB_STATUS_FCK_SRC then d
    else if d.sckOpen then
      let f := d.time.fifths + 16
      ({ d with time := { d.time with fifths := f % 5 } }).runSck (f / 5)
    else if d.time.opened then { d with time := { d.time with gap := d.time.gap + 1 } }
    else d

end Sys2Proof.Machine
end

