-- ==== Sys2Proof/Machine/LineCode.lean ====
section
/-! DEFINITION.
The 8b/10b line code of the Guvel link (R11, R233, R234, R236): the code set with its running disparity, the comma K28.5, and what a receiver
counts as a violation. A line code is a number below 1024 whose most significant bit is sent first. The spec names the code and gives no table
of it. PRESUMED: log entry 82.
-/

namespace Sys2Proof.Machine

/-- A character: a data byte, or a control character by the byte that names it (K28.5 is 0xBC). -/
inductive LineChar where
  /-- D.x.y. -/
  | data (byte : Nat)
  /-- K.x.y. -/
  | control (byte : Nat)
deriving DecidableEq, Repr

/-- The six-bit codes of x = 0 to 31 at a negative running disparity. -/
def sixBits : List Nat :=
  [0b100111, 0b011101, 0b101101, 0b110001, 0b110101, 0b101001, 0b011001, 0b111000,
   0b111001, 0b100101, 0b010101, 0b110100, 0b001101, 0b101100, 0b011100, 0b010111,
   0b011011, 0b100011, 0b010011, 0b110010, 0b001011, 0b101010, 0b011010, 0b111010,
   0b110011, 0b100110, 0b010110, 0b110110, 0b001110, 0b101110, 0b011110, 0b101011]

/-- The four-bit codes of y = 0 to 7 of a data character, and of a control character, at a negative running disparity. -/
def fourBits (control : Bool) : List Nat :=
  if control then [0b1011, 0b0110, 0b1010, 0b1100, 0b1101, 0b0101, 0b1001, 0b0111]
  else [0b1011, 0b1001, 0b0101, 0b1100, 0b1101, 0b1010, 0b0110, 0b1110]

/-- The number of ones in a code of `n` bits. -/
def onesOf (n c : Nat) : Nat := ((List.range n).filter (fun i => c.testBit i)).length

/-- The running disparity after a block of `n` bits: more ones make it positive, more zeros negative, and of the balanced blocks 111000 and 1100
make it negative, 000111 and 0011 positive. -/
def disparityAfter (n c : Nat) (rd : Bool) : Bool :=
  if n < 2 * onesOf n c then true
  else if 2 * onesOf n c < n then false
  else if c = 2 ^ (n / 2) - 1 then true
  else if c = 2 ^ n - 2 ^ (n / 2) then false
  else rd

/-- A block at a running disparity: the code at a negative one, complemented at a positive one where the block has two forms. -/
def blockAt (n c : Nat) (twoForms rd : Bool) : Nat := if rd && twoForms then 2 ^ n - 1 - c else c

/-- Has a block two forms: it is not balanced, or is 111000 or 1100? -/
def hasTwoForms (n c : Nat) : Bool := 2 * onesOf n c != n || c == 2 ^ n - 2 ^ (n / 2)

/-- The line code of a character and the running disparity after it. D.x.A7 stands for D.x.7 where five equal bits would meet. -/
def encodeChar (ch : LineChar) (rd : Bool) : Nat × Bool :=
  let k := match ch with
    | .control _ => true
    | .data _ => false
  let b := match ch with
    | .control b => b
    | .data b => b
  let x := b % 32
  let y := b / 32 % 8
  let six0 := if k && x == 28 then 0b001111 else sixBits.getD x 0
  let six := blockAt 6 six0 (hasTwoForms 6 six0) rd
  let mid := disparityAfter 6 six rd
  let a7 := !k && y == 7 && (if mid then x == 11 || x == 13 || x == 14 else x == 17 || x == 18 || x == 20)
  let four0 := if a7 then 0b0111 else (fourBits k).getD y 0
  let four := blockAt 4 four0 (k || hasTwoForms 4 four0) mid
  (six * 16 + four, disparityAfter 4 four mid)

/-- The line codes of characters from a running disparity on. -/
def encodeChars : Bool → List LineChar → List Nat
  | _, [] => []
  | rd, ch :: rest => (encodeChar ch rd).1 :: encodeChars (encodeChar ch rd).2 rest

/-- The characters of the code: the 256 data characters and the 12 control characters. -/
def lineChars : List LineChar :=
  [0x1C, 0x3C, 0x5C, 0x7C, 0x9C, 0xBC, 0xDC, 0xFC, 0xF7, 0xFB, 0xFD, 0xFE].map LineChar.control ++ (List.range 256).map LineChar.data

/-- The character that a line code stands for at a running disparity; none is a violation. -/
def decodeChar (rd : Bool) (code : Nat) : Option LineChar := lineChars.find? (fun ch => (encodeChar ch rd).1 == code)

/-- The running disparity after a received line code, valid or not. -/
def disparityOver (rd : Bool) (code : Nat) : Bool := disparityAfter 4 (code % 16) (disparityAfter 6 (code / 16 % 64) rd)

/-- The characters of line codes from a running disparity on; none when one of them is a violation. -/
def decodeCodes : Bool → List Nat → Option (List LineChar)
  | _, [] => some []
  | rd, c :: rest =>
    match decodeChar rd c, decodeCodes (disparityOver rd c) rest with
    | some ch, some l => some (ch :: l)
    | _, _ => none

/-- The same where the first code is a comma, which tells the running disparity by its own form. -/
def decodeFromComma (codes : List Nat) : Option (List LineChar) := decodeCodes (codes.headD 0 == 0b1100000101) codes

/-- Are line codes 32 consecutive K28.5 at one character alignment (R234)? -/
def isIdleRun (codes : List Nat) : Bool := decodeFromComma codes == some (List.replicate 32 (.control 0xBC))

/-- The code and disparity violations among received line codes (R236). -/
def violations : Bool → List Nat → Nat
  | _, [] => 0
  | rd, c :: rest => (if (decodeChar rd c).isNone then 1 else 0) + violations (disparityOver rd c) rest

end Sys2Proof.Machine
end

