-- ==== Sys2Proof/Machine/Link.lean ====
section
/-! DEFINITION.
The Guvel link's ports (R232 to R242): lane training, frames received, acknowledgement and replay, forwarding and delivery.
-/

namespace Sys2Proof.Machine

open Reg

/-- Do the link's clocks run: powered, FCK on FPLL, not in STANDBY (R337, R343)? -/
def Dev.linkAlive (d : Dev) : Bool := d.alive && !d.is TB_STATUS_FCK_SRC && d.mode != 3

/-- Does port `p` train (R22, R31, R232): a valid image (boot step 7), more than one device, the port enabled, the strap as the image
says? -/
def Dev.trains (d : Dev) (p : Nat) : Bool :=
  d.linkAlive && d.is CFG_STATUS_CONFIGURED && decide (1 < d.deviceCount) && d.portEnabled p && !d.mismatch

/-- Consecutive failed attempts of a lane. -/
def laneFails (p l : Nat) : Fld := if l = 0 then LINK_STATE_FAILS_0 p else LINK_STATE_FAILS_1 p

/-- Violations counted on a lane. -/
def laneErrors (p l : Nat) : Fld := if l = 0 then LINK_CODE_ERR_CODE_ERR_0 p else LINK_CODE_ERR_CODE_ERR_1 p

/-- The source identifier of a lane (R329). -/
def laneSource (p l : Nat) : Nat := 0x10 + 2 * p + l

/-- Has a lane detected a signal in the attempt? -/
def PortSt.signal (x : PortSt) (l : Nat) : Bool := if l = 0 then x.sig0 else x.sig1

/-- Note it. -/
def PortSt.putSignal (x : PortSt) (l : Nat) (b : Bool) : PortSt := if l = 0 then { x with sig0 := b } else { x with sig1 := b }

/-- How many agreeing sets in a row a lane took. -/
def PortSt.run (x : PortSt) (l : Nat) : Nat := if l = 0 then x.count0 else x.count1

/-- Count them. -/
def PortSt.putRun (x : PortSt) (l n : Nat) : PortSt := if l = 0 then { x with count0 := n } else { x with count1 := n }

/-- LANE_SIGNAL_DETECT (R234): the receiver sees transitions. -/
def Dev.laneSignalDetect (p l : Nat) (d : Dev) : Dev :=
  if d.trains p && !(d.port p).pause && d.rd (laneState p l) == 0 then
    let d := d.putPort p { (d.port p).putSignal l true with attempt := true }
    (d.wr (laneState p l) 1).showPort p
  else d

/-- LANE_ALIGN (R234): 32 consecutive K28.5 at one character alignment. `codes` are the line codes that were received there. -/
def Dev.laneAlign (p l : Nat) (codes : List Nat) (d : Dev) : Dev :=
  if d.trains p && d.rd (laneState p l) == 1 && isIdleRun codes then (d.putPort p ((d.port p).putRun l 0)).wr (laneState p l) 2 else d

/-- What a lane sends (R234). -/
inductive LaneSends where
  /-- K28.5. -/
  | idle
  /-- Training sets with TS2 0. -/
  | ts1
  /-- Training sets with TS2 1. -/
  | ts2
  /-- Frames, and K28.5 with D16.2 between them (R237). -/
  | frames
deriving DecidableEq, Repr

/-- What lane `l` of port `p` sends in its state. -/
def Dev.laneSends (d : Dev) (p l : Nat) : LaneSends :=
  match d.rd (laneState p l) with
  | 2 => .ts1
  | 3 => .ts2
  | 4 => .frames
  | _ => .idle

/-- A training set that a lane sends, with TRAIN_SEQ `seq` (R234). -/
def Dev.setOf (d : Dev) (p l seq : Nat) : List LineChar :=
  let d1 := d.addr * 16 + p * 8 + l * 4 + d.rd CHOIR_CFG_RATE * 2 + bit (d.laneSends p l == .ts2)
  [.control 0xBC, .data d1, .data seq, .data ((d1 ^^^ seq) ^^^ 0x5A)]

/-- The line codes of one turn of what a lane sends, from a running disparity: one K28.5, one training set, or the idle pair of R237. -/
def Dev.laneCodes (d : Dev) (p l seq : Nat) (rd : Bool) : List Nat :=
  encodeChars rd (match d.laneSends p l with
    | .idle => [.control 0xBC]
    | .frames => [.control 0xBC, .data 0x50]
    | _ => d.setOf p l seq)

/-- Is a training set valid, and does it agree with the lane (R234)? `codes` are the four line codes that were received: K28.5 and the
data characters. DEDUCED: log entry 44. -/
def Dev.setAgrees (d : Dev) (l : Nat) (codes : List Nat) : Bool :=
  match decodeFromComma codes with
  | some [.control 0xBC, .data d1, .data d2, .data d3] =>
    let a := d1 / 16
    d3 == (d1 ^^^ d2) ^^^ 0x5A && d1 / 4 % 2 == l && d1 / 2 % 2 == d.rd CHOIR_CFG_RATE && (d.rd CHOIR_DEVICES_MASK).testBit a && a != d.addr
  | _ => false

/-- TS2 of a training set. -/
def isTs2 (codes : List Nat) : Bool :=
  match decodeFromComma codes with
  | some (_ :: .data d1 :: _) => d1.testBit 0
  | _ => false

/-- The frames of a replay buffer from an index on are sent again (R239). -/
def Dev.replayFrom (d : Dev) (p i : Nat) : Dev :=
  let x := d.port p
  let again := x.held.length - i
  if again = 0 then d
  else
    let held := x.held.take i ++ (x.held.drop i).map (fun (h : Held) => { h with sends := h.sends + 1 })
    let d := (d.putPort p { x with held := held }).inc (LINK_RETRY_RETRIES p)
    d.wr (LINK_FRAMES_TX_FRAMES_TX p) (min (2 ^ 32 - 1) (d.rd (LINK_FRAMES_TX_FRAMES_TX p) + again))

/-- A port that is UP again replays what it holds and starts the frames that wait (R236). -/
def Dev.portCame (d : Dev) (p : Nat) : Dev :=
  let x := d.port p
  let x := { x with attempt := false, tried := x.tried && d.rd (LINK_STATE_STATE p) == 3,
                    held := x.held.map (fun (h : Held) => { h with sends := 0 }) }
  let d := (d.putPort p x).replayFrom p 0
  Dev.flushPort p (d.port p).queue d

/-- A lane comes UP; its sampler's collection goes on in the background (R101). -/
def Dev.laneUp (d : Dev) (p l : Nat) : Dev :=
  let was := d.portUp p
  let d := (((d.wr (laneState p l) 4).wr (laneFails p l) 0).showPort p).followOwner (16 + 2 * p + l)
  if !was && d.portUp p then d.portCame p else d

/-- The port retrains, and the collections of its samplers go on in isolation (R101, R236). -/
def Dev.retrainAll (d : Dev) (p : Nat) : Dev := ((d.retrain p).followOwner (16 + 2 * p)).followOwner (17 + 2 * p)

/-- Are the 16 TS2 that a lane in CONFIRM sends out, and is lane 1 deskewed against lane 0 (R234)? A lane 1 without its lane 0 has
nothing to be deskewed against. -/
def Dev.confirmed (d : Dev) (p l sent : Nat) (deskewed : Bool) : Bool :=
  decide (16 ≤ sent) && (l == 0 || deskewed || d.rd (laneState p 0) == 5)

/-- TRAINING_SET (R234): a lane has taken a set, given by its line codes; `sent` is how many TS2 the lane has sent in CONFIRM, and
`deskewed` says that lane 1 is deskewed. DEDUCED: log entry 44. -/
def Dev.trainingSet (p l : Nat) (codes : List Nat) (sent : Nat) (deskewed : Bool) (d : Dev) : Dev :=
  let st := d.rd (laneState p l)
  if !d.trains p || !(st == 2 || st == 3) then d
  else
    let good := d.setAgrees l codes && (st == 2 || isTs2 codes)
    let n := if good then (d.port p).run l + 1 else 0
    if n < 16 ∨ (st = 3 ∧ !d.confirmed p l sent deskewed) then d.putPort p ((d.port p).putRun l n)
    else
      let d := d.putPort p ((d.port p).putRun l 0)
      if st = 2 then d.wr (laneState p l) 3 else d.laneUp p l

/-- A lane that had a signal and did not reach UP in the attempt (R235): fault 0x0801, and at the third in a row fault 0x0802, also
when the strikes have retired the lane just before. A retired lane that was retried is RETIRED again. DEDUCED: log entry 44. -/
def Dev.laneFailed (p : Nat) (d : Dev) (l : Nat) : Dev :=
  let st := d.rd (laneState p l)
  if st = 4 ∨ st = 5 then d
  else if d.isRetired (laneSource p l) then d.wr (laneState p l) 5
  else if !(d.port p).signal l then d
  else
    let d := (d.inc (laneFails p l)).fault 0x0801 transient [laneSource p l]
    let d := d.putPort p { d.port p with pause := true }
    if d.rd (laneFails p l) = 3 then d.fault 0x0802 permanent [laneSource p l] else d

/-- TRAINING_TIMEOUT (R234, R235): the attempt has lasted 4 ms. A lane that is UP stays so, for it leaves UP only with a retrain; when
the other lane has been retired, the port is UP on it alone (R236). -/
def Dev.trainingTimeout (p : Nat) (d : Dev) : Dev :=
  if !d.linkAlive || !(d.port p).attempt || d.portUp p then d
  else
    let d := d.each [0, 1] (Dev.laneFailed p)
    let d := d.each [0, 1] (fun d l => if d.rd (laneState p l) = 4 ∨ d.rd (laneState p l) = 5 then d else d.wr (laneState p l) 0)
    let d := (d.putPort p { d.port p with attempt := false, sig0 := false, sig1 := false, count0 := 0, count1 := 0 }).showPort p
    let d := (d.followOwner (16 + 2 * p)).followOwner (17 + 2 * p)
    if d.portUp p then d.portCame p else d

/-- TRAINING_RETRY (R235): 1 ms after a failed attempt. -/
def Dev.trainingRetry (p : Nat) (d : Dev) : Dev := d.putPort p { d.port p with pause := false }

/-- LANE_SIGNAL_LOSS (R236): of signal or of character alignment. -/
def Dev.laneSignalLoss (p : Nat) (d : Dev) : Dev :=
  let busy := fun (l : Nat) => d.rd (laneState p l) != 0 && d.rd (laneState p l) != 5
  if d.linkAlive && (busy 0 || busy 1) then d.retrainAll p else d

/-- CODE_VIOLATION_LIMIT (R236): the line codes that a lane took within 2^16 words, from a running disparity. -/
def Dev.codeViolationLimit (p l : Nat) (disparity : Bool) (codes : List Nat) (d : Dev) : Dev :=
  if !d.linkAlive || d.rd (laneState p l) == 5 then d
  else
    let count := violations disparity codes
    let d := d.wr (laneErrors p l) (min 0xFFFF (d.rd (laneErrors p l) + count))
    if count < 16 then d else (d.fault 0x0803 transient [laneSource p l]).retrainAll p

/-- ONE_LANE_RETRAIN (R236): a port that has run on one lane for 1 s retries the other lane once. -/
def Dev.oneLaneRetrain (p : Nat) (d : Dev) : Dev :=
  if d.linkAlive && d.rd (LINK_STATE_STATE p) == 3 && !(d.port p).tried then
    let d := d.each [0, 1] (fun d l => if d.rd (laneState p l) = 5 then d.wr (laneState p l) 0 else d)
    (d.putPort p { d.port p with tried := true }).retrainAll p
  else d

/-- RETRAIN_PORT (R236): CHOIR_CMD 0xE1. -/
def Dev.retrainPort (p : Nat) (d : Dev) : Dev := if d.linkAlive then d.retrainAll p else d

/-- A frame is discarded (R238): counted, fault 0x0804, and a NAK for the LSEQ expected. -/
def Dev.discardFrame (d : Dev) (p : Nat) : Dev :=
  let d := (d.inc (LINK_ERR_CRC_ERR p)).fault 0x0804 reportOnly []
  let x := d.port p
  d.putPort p { x with setSent := some (x.rxSeq, 1), unacked := false }

/-- The other port of the device. -/
def otherPort (p : Nat) : Nat := 1 - p

/-- Forward a frame (R240): out of the opposite port, ahead of what this device originates. -/
def Dev.forward (d : Dev) (p hops : Nat) (body : List Nat) : Dev :=
  let o := otherPort p
  if !d.portUp o then d
  else if 32 ≤ (d.port o).held.length then (d.inc (LINK_DROP_FWD_DROP o)).fault 0x0806 reportOnly []
  else d.startTx o (hops - 1) body

/-- What a device knows of another. -/
def Dev.peer (d : Dev) (a : Nat) : Peer := Tab.read Peer.fresh d.choir.peers a

/-- Replace it. -/
def Dev.putPeer (d : Dev) (a : Nat) (x : Peer) : Dev := d.putChoir { d.choir with peers := Tab.write d.choir.peers a x }

/-- The message in a frame's body (R237). -/
def parseMsg (b : List Nat) (port : Nat) : Msg :=
  let at0 := fun (i : Nat) => b.getD i 0
  { type := at0 0 % 16, bcast := (at0 0).testBit 4, fresh := (at0 0).testBit 5, src := at0 1 % 16, dst := at0 1 / 16, mseq := intAt b 2 2,
    cepoch := intAt b 4 2, payload := cut b 8 (at0 6), port := port }

/-- Is a frame's body complete and its CRC right? -/
def bodyGood (b : List Nat) : Bool :=
  let n := b.getD 6 0
  decide (12 ≤ b.length) && b.length == 12 + n && decide (n ≤ 64) && n % 4 == 0 &&
    intAt b (8 + n) 4 == crc32 (b.take (8 + n))

/-- Is a message a duplicate by the map of its source (R241)? -/
def Peer.duplicate (x : Peer) (mseq : Nat) : Bool :=
  let back := (x.high + 65536 - mseq) % 65536
  x.seen && decide (back < 32768) && (decide (64 ≤ back) || x.map.testBit back)

/-- Is it in the map? -/
def Peer.inMap (x : Peer) (mseq : Nat) : Bool :=
  let back := (x.high + 65536 - mseq) % 65536
  x.seen && decide (back < 64) && x.map.testBit back

/-- Note a delivered message (R241); a FRESH one that is not in the map resets it. -/
def Peer.note (x : Peer) (mseq : Nat) (fresh : Bool) : Peer :=
  let ahead := (mseq + 65536 - x.high) % 65536
  if !x.seen || fresh then { x with seen := true, high := mseq, map := 1 }
  else if ahead < 32768 then { x with high := mseq, map := (x.map * 2 ^ min ahead 64 + 1) % 2 ^ 64 }
  else { x with map := x.map ||| 2 ^ (65536 - ahead) }

/-- Serial-number order modulo 2^16: does `a` come after `b`? -/
def after16 (a b : Nat) : Bool :=
  let x := (a + 65536 - b % 65536) % 65536
  decide (0 < x) && decide (x < 32768)

/-- A message is delivered (R241, R245): noted, entered in RING_21 but for SYNC, its source is alive (R254), its epoch counts among
those seen (R255), and it waits to be processed. -/
def Dev.deliver (d : Dev) (m : Msg) : Dev :=
  let d := d.putPeer m.src ((d.peer m.src).note m.mseq m.fresh)
  let d := d.wr CHOIR_ALIVE_ALIVE (d.rd CHOIR_ALIVE_ALIVE ||| 2 ^ m.src)
  let d := if m.type = 0 then d else d.offer 21 6 (messageWords d.timeNow m.port m)
  d.putChoir { d.choir with inbox := d.choir.inbox ++ [m],
                            topEpoch := if after16 m.cepoch d.choir.topEpoch then m.cepoch else d.choir.topEpoch }

/-- Does a message come from a source that none of its messages may come from (R242): the own address, or one that is not declared? -/
def Dev.badSource (d : Dev) (m : Msg) : Bool := m.src == d.addr || !(d.rd CHOIR_DEVICES_MASK).testBit m.src

/-- What such a message does (R242): the own address puts the device OUT; an undeclared one is reported once. -/
def Dev.reportSource (d : Dev) (m : Msg) : Dev :=
  if m.src = d.addr then
    let d := (d.putChoir { d.choir with outWhy := 1 }).choirEvent 32
    (d.fault 0x0841 permanent [srcDevice]).enterOut
  else if (d.peer m.src).told then d else (d.putPeer m.src { d.peer m.src with told := true }).fault 0x0842 reportOnly []

/-- A good frame's message, for this device or on its way to another (R241 to R243). -/
def Dev.takeMessage (d : Dev) (m : Msg) : Dev :=
  if d.badSource m then d.reportSource m
  else if !(m.bcast || m.dst == d.addr) then d
  else if 8 ≤ m.type then d.inc (LINK_BAD_BAD_TYPE m.port)
  else
    let x := d.peer m.src
    if (if m.fresh then x.inMap m.mseq else x.duplicate m.mseq) then d.inc (LINK_DROP_DUP_COUNT m.port) else d.deliver m

/-- Is a frame forwarded (R240)? -/
def Dev.forwards (d : Dev) (hops : Nat) (m : Msg) : Bool := (m.dst != d.addr || m.bcast) && decide (2 ≤ hops)

/-- A good frame (R240, R241). The copy of a message that R242 discards is forwarded, for R240 asks for the frame's DST and HOPS alone.
DEDUCED: log entry 81. -/
def Dev.goodFrame (d : Dev) (p hops : Nat) (body : List Nat) : Dev :=
  let m := parseMsg body p
  let x := d.port p
  let d := (d.putPort p { x with rxSeq := (x.rxSeq + 1) % 256, unacked := true }).inc (LINK_FRAMES_RX_FRAMES_RX p)
  let d := if d.forwards hops m then d.forward p hops body else d
  d.takeMessage m

/-- A copy that was started and whose incoming frame fails (R240): it ends in K30.7, is withdrawn from the replay buffer, and its LSEQ
goes to the next frame. It counts as a frame sent, and with 32 frames held it is a copy dropped. DEDUCED: log entry 81. -/
def Dev.abortCopy (d : Dev) (p hops : Nat) (body : List Nat) : Dev :=
  let o := otherPort p
  let before := d.port o
  if body.length < 8 ∨ !d.forwards hops (parseMsg body p) then d
  else
    (d.forward p hops body).putPort o before

/-- FRAME_RX (R237 to R242): `bytes` are LSEQ, HOPS, the check byte, and the characters from the header to the CRC; `aborted` says that
it ends in K30.7, which is discarded without a NAK whatever else fails. A frame already taken is acknowledged again, and a copy starts
only for the frame that is expected. DESIGN CHOICE: log entry 9. -/
def Dev.frameRx (p : Nat) (bytes : List Nat) (aborted : Bool) (d : Dev) : Dev :=
  let lseq := bytes.getD 0 0
  let hops := bytes.getD 1 0
  let body := bytes.drop 3
  let start := decide (3 ≤ bytes.length) && bytes.getD 2 0 == (lseq ^^^ hops) ^^^ 0x5A
  let back := ((d.port p).rxSeq + 256 - lseq) % 256
  if !d.linkAlive || !d.portUp p then d
  else if aborted then (if start && back == 0 then d.abortCopy p hops body else d)
  else if !start then d.discardFrame p
  else if !bodyGood body then (if back = 0 then d.abortCopy p hops body else d).discardFrame p
  else if back = 0 then d.goodFrame p hops body
  else if back ≤ 128 then d.putPort p { d.port p with unacked := true }
  else d.discardFrame p

/-- Where a frame of the replay buffer stands. -/
def Dev.heldIndex (d : Dev) (p lseq : Nat) : Option Nat := (d.port p).held.findIdx? (fun h => h.lseq == lseq)

/-- Release the oldest `n` frames; frames that wait may start. -/
def Dev.releaseHeld (d : Dev) (p n : Nat) : Dev :=
  let x := d.port p
  Dev.flushPort p x.queue (d.putPort p { x with held := x.held.drop n })

/-- ACK (R238): every frame up to LSEQ is acknowledged. -/
def Dev.ackRx (p lseq : Nat) (d : Dev) : Dev :=
  if !d.linkAlive then d
  else
    match d.heldIndex p lseq with
    | some i => d.releaseHeld p (i + 1)
    | none => d

/-- The retry limit (R239): fault 0x0805 for each lane that is not retired, and the port retrains. DEDUCED: log entry 44. -/
def Dev.retryLimit (d : Dev) (p : Nat) : Dev :=
  let lanes := [0, 1].filter (fun l => d.rd (laneState p l) != 5)
  let d := d.fault 0x0805 transient (lanes.map (laneSource p))
  d.retrainAll p

/-- Replay from an index on; a frame sent five times reaches the limit. -/
def Dev.replay (d : Dev) (p i : Nat) : Dev :=
  if ((d.port p).held.drop i).any (fun h => decide (5 ≤ h.sends)) then d.retryLimit p else d.replayFrom p i

/-- NAK (R238, R239): every frame before LSEQ is acknowledged, and those from it on are sent again. One that names the LSEQ of the next
frame acknowledges all that is held. -/
def Dev.nakRx (p lseq : Nat) (d : Dev) : Dev :=
  if !d.linkAlive then d
  else
    let d := d.inc (LINK_ERR_NAK_RX p)
    match d.heldIndex p lseq with
    | some i =>
      let x := d.port p
      let d := (d.putPort p { x with held := x.held.drop i }).replay p 0
      Dev.flushPort p (d.port p).queue d
    | none => if lseq = (d.port p).txSeq then d.releaseHeld p (d.port p).held.length else d

/-- ACK_TIMER (R238): an ACK at least every 1 µs while good frames are unacknowledged. -/
def Dev.ackTimer (p : Nat) (d : Dev) : Dev :=
  let x := d.port p
  if d.linkAlive && x.unacked then d.putPort p { x with unacked := false, setSent := some ((x.rxSeq + 255) % 256, 0) } else d

/-- REPLAY_TIMEOUT (R239): the oldest held frame was last sent 4 µs ago. -/
def Dev.replayTimeout (p : Nat) (d : Dev) : Dev :=
  if d.linkAlive && d.portUp p && !(d.port p).held.isEmpty then d.replay p 0 else d

end Sys2Proof.Machine
end

