-- ==== Sys2Proof/Machine/Choir.lean ====
section
/-! DEFINITION.
The choir (R243 to R262): the messages devices exchange, the timescale that they share, the cantor's role, and the choir sum.
-/

namespace Sys2Proof.Machine

open Reg

/-- Does this device take part in the choir: alive, FCK on FPLL, neither in STANDBY nor in the safe state? -/
def Dev.choirAlive (d : Dev) : Bool := d.linkAlive && d.mode != 5

/-- Modulo 2^32: is `a` at or after `b`? -/
def from32 (a b : Nat) : Bool := decide ((a + 2 ^ 32 - b % 2 ^ 32) % 2 ^ 32 < 2 ^ 31)

/-- The rank position of an address (R255). -/
def Dev.rankOf (d : Dev) (a : Nat) : Option Nat :=
  (List.range (min 16 (d.rd CHOIR_DEVICES_RANK_COUNT))).find? (fun i => d.rd CHOIR_RANK_RANK / 16 ^ i % 16 == a)

/-- The first message of a kind that waits, and the rest. -/
def takeFirst (p : Msg → Bool) : List Msg → Option (Msg × List Msg)
  | [] => none
  | m :: r => if p m then some (m, r) else (takeFirst p r).map (fun x => (x.1, m :: x.2))

/-- Process the first delivered message of a kind. DEDUCED: log entry 45. -/
def Dev.process (d : Dev) (p : Msg → Bool) (f : Dev → Msg → Dev) : Dev :=
  if !d.choirAlive then d
  else
    match takeFirst p d.choir.inbox with
    | some (m, rest) => f (d.putChoir { d.choir with inbox := rest }) m
    | none => d

/-- The KIND of a CMD message (R244). -/
def Msg.kind (m : Msg) : Nat := m.payload.getD 0 0

/-- Is a message of the cantor older than the epoch known (R255)? -/
def Dev.stale (d : Dev) (m : Msg) : Bool := after16 (d.rd CHOIR_STATUS_CEPOCH) m.cepoch

/-- It is discarded and counted. -/
def Dev.dropStale (d : Dev) : Dev := d.inc CHOIR_COUNTS_STALE_COUNT

/-- HOPS_TO_CANTOR of this device. DEDUCED: log entry 44. -/
def Dev.hopsToCantor (d : Dev) : Nat := if d.choirState = 4 then 0 else d.rd CHOIR_STATUS_HOPS

/-! ### Messages a device sends -/

/-- CFGHASH_SEND (R243). -/
def Dev.cfghashSend (d : Dev) : Dev := if d.choirAlive then d.sendCfgHash else d

/-- ± a value of an integer in 32 bits, saturating. -/
def signedSat32 (x : F64) : Nat :=
  ofSigned 32 (max (-2147483648) (min 2147483647 (if f64IsFinite x then f64ToIntEven x else 0)))

/-- The last offset to the parent in ps, signed and saturating (R244). -/
def Dev.thetaPs (d : Dev) : Nat := signedSat32 (f64Mul d.choir.shown (f64OfRat 1250 65536))

/-- HEALTH_SEND (R243, R244). -/
def Dev.healthSend (d : Dev) : Dev :=
  let retired := ((List.range 16).map (fun n => if d.rd (VOICE_STATUS_STATE n) = 3 then 2 ^ n else 0)).sum
  if !d.choirAlive then d
  else
    d.send 7 0 true ([d.choirState, d.rd CHOIR_STATUS_PARENT + d.hopsToCantor % 64 * 4, d.rd (LINK_STATE_STATE 0), d.rd (LINK_STATE_STATE 1)] ++
      bytesLE 4 (d.rd (TIMER_PCOUNT_COUNT d.pipeTimer)) ++ bytesLE 2 retired ++ [0, 0] ++ bytesLE 4 d.thetaPs)

/-- A TIME message (R244). -/
def Dev.sendTime (d : Dev) (claim : Bool) : Dev :=
  let t := d.pipeTimer
  let bound := (d.timer t).prev.getD 0 % coarseMod * 1024
  d.send 1 0 true ([bit claim + 2 * d.rd CHOIR_STATUS_HOLDOVER, (d.rankOf d.addr).getD 0] ++ bytesLE 2 (d.rd EPOCH_COUNT_COUNT) ++
    bytesLE 4 (d.rd (TIMER_PCOUNT_COUNT t)) ++ bytesLE 8 bound ++ f64Bytes (d.epsNow d.ext) ++ bytesLE 8 d.calendar ++
    bytesLE 8 (d.rd CAL_SECOND_TIME) ++ copies 8 0)

/-- TIME_SEND (R243): the cantor, every LEASE / 8. -/
def Dev.timeSend (d : Dev) : Dev := if d.choirAlive && d.choirState == 4 then d.sendTime false else d

/-! ### SYNC and steering -/

/-- The tuning context of the sampler of a port's lane 0 (R246). -/
def syncContext (p : Nat) : Nat := 16 + 2 * p

/-- A stamp of the link sampler: the tuned time of a raw one, with the table's number and the relocks and steps so far. -/
def Dev.syncStamp (d : Dev) (p seq : Nat) (raw : Option Nat) : SyncStamp :=
  let c := syncContext p
  { seq := seq, time := raw.map (fun r => r / 1024 * 65536 + Store.read (d.tun c).table (r % 1024)), tune := d.rd (TUNE_SEQ_COUNT c),
    gates := d.rd RELOCK_COUNT_COUNT + d.choir.steps * 65536 }

/-- The stamp of a SYNC number among those kept. -/
def findStamp (l : List SyncStamp) (seq : Nat) : Option SyncStamp := l.find? (fun s => s.seq == seq)

/-- A tuned time as a payload field; a missing one is 0. DEDUCED: log entry 44. -/
def stampField (s : Option SyncStamp) : Nat := (s.bind (fun x => x.time)).getD 0

/-- A stamp of the link sampler is converted with an entry whose parity is wrong (R110). -/
def Dev.syncParity (d : Dev) (p : Nat) (raw : Option Nat) (bad : Bool) : Dev :=
  if bad && raw.isSome then d.tableParity (syncContext p) else d

/-- Launch a SYNC on a port (R243, R246): `raw` is its launch stamp, and `bad` says that its conversion meets a parity error.
DEDUCED: log entry 44. -/
def Dev.launchSync (d : Dev) (p : Nat) (raw : Option Nat) (bad : Bool) : Dev :=
  if !d.portUp p then d
  else
    let x := d.port p
    let n := (x.sseq + 1) % 256
    let tx := findStamp x.launch x.sseq
    let rx := x.rx.head?
    let swapped := match tx, rx with
      | some a, some b => a.tune != b.tune
      | _, _ => false
    let flags := bit (d.choirState == 3) + 2 * bit (d.choirState == 4) + 4 * bit swapped
    let payload := [n, (rx.map (fun s => s.seq)).getD 0, flags, 0] ++ bytesLE 8 (stampField tx) ++ bytesLE 8 (stampField rx) ++ copies 12 0
    let r := d.newMessage 0 0 true payload
    let d := r.1.putPort p { x with sseq := n, launch := (d.syncStamp p n raw :: x.launch).take 8 }
    (d.queueTx p 1 r.2.body).syncParity p raw bad

/-- SYNC_SEND (R243): every 2^18 FCK on each UP port, with the launch stamps of port A and port B and the mask of those whose conversion meets a
parity error. -/
def Dev.syncSend (stampA stampB : Option Nat) (parity : Nat) (d : Dev) : Dev :=
  if d.choirAlive && decide (1 < d.deviceCount) then
    (d.launchSync 0 stampA (parity.testBit 0)).launchSync 1 stampB (parity.testBit 1)
  else d

/-- The hop count of a port whose neighbour is JOINED or CANTOR (R248). -/
def Dev.portHops (d : Dev) (p : Nat) : Option Nat :=
  let x := d.port p
  match x.peer with
  | none => none
  | some a =>
    if !d.portUp p then none
    else if x.peerFlags.testBit 1 then some 1
    else if x.peerFlags.testBit 0 then some (1 + (d.peer a).hops) else none

/-- Choose the parent (R248): 0 none, 1 port A, 2 port B. -/
def Dev.chooseParent (d : Dev) : Dev :=
  let best := match d.portHops 0, d.portHops 1 with
    | some a, some b => if a ≤ b then (1, a) else (2, b)
    | some a, none => (1, a)
    | none, some b => (2, b)
    | none, none => (0, 63)
  (d.wr CHOIR_STATUS_PARENT best.1).wr CHOIR_STATUS_HOPS (min 63 best.2)

/-- I of R249: 2^18 FCK in units of T_SCK / 65,536. -/
def syncInterval : F64 := f64OfRat (2 ^ 38) 5

/-- A value limited to ± a bound. -/
def f64Clamp (x bound : F64) : F64 := f64Max (f64Negate bound) (f64Min x bound)

/-- The update of s (R249, R57): s is limited to ±100 ppm and then rounded to a multiple of 2^-32, at most ±429,497 of them. -/
def Dev.steerBy (d : Dev) (theta prev : F64) : Dev :=
  let step := f64Div (f64Add (f64Sub theta prev) (f64Div theta (f64OfInt 8))) syncInterval
  let s := f64Sub d.steer (f64Clamp step (f64OfRat 1 1000000))
  let s := f64Clamp s (f64OfRat 1 10000)
  d.wr CHOIR_STEER_S (ofSigned 32 (f64ToIntEven (f64Mul s (f64OfInt (2 ^ 32)))))

/-- Enter a choir state; JOIN and UNJOIN follow (R250). -/
def Dev.enterState (d : Dev) (st : Nat) : Dev :=
  let was := d.choirState
  let d := (d.wr CHOIR_STATUS_STATE st).putChoir { d.choir with run := 0, bad := 0 }
  d.choirEvent ((if st = 3 ∧ was ≠ 3 then 2 else 0) + (if was = 3 ∧ st ≠ 3 then 4 else 0))

/-- |θ| at most a number of ps, in units of T_SCK / 65,536. -/
def within (theta : F64) (ps : Nat) : Bool := f64Le (f64Abs theta) (f64OfRat (ps * 65536) 1250)

/-- The step of R251 onto the parent's timescale. DEDUCED: log entry 45. -/
def Dev.stepTimescale (d : Dev) (theta : F64) : Dev :=
  match d.choir.time with
  | none => d
  | some m =>
    let n := f64ToIntEven (f64Div theta (f64OfInt 65536))
    let coarse := ((((d.coarse : Nat) : Int) - n) % (coarseMod : Int)).toNat
    let d := d.restAll 6
    let old : Int := (d.ext : Nat)
    let d := { d with time := { d.time with coarse := coarse } }.wr EPOCH_COUNT_COUNT m.epoch
    let moved : Int := (d.ext : Nat) - old
    let d := d.each (List.range 16) (fun d v =>
      let x := d.voice v
      d.putVoice v { x with lastStamp := none, lastEdge := x.lastEdge.map (fun e => ((e : Int) + moved).toNat) })
    let d := (d.passBoundaries d.ext).syncMarkers.restAll 6
    let t := d.pipeTimer
    let l := d.rd (TIMER_LENGTH_US t) * 800
    let b0 := m.bound / 1024
    let bound : Int := ((if coarse < b0 ∧ 0 < m.epoch then m.epoch - 1 else m.epoch) * coarseMod + b0 : Nat)
    let d := match (d.timer t).prev with
      | some p => d.wr (TIMER_PCOUNT_COUNT t) (ofSigned 32 ((m.pseq : Nat) + (((p : Nat) : Int) - bound) / ((max l 1 : Nat) : Int)))
      | none => d
    let d := d.putChoir { d.choir with steps := d.choir.steps + 1, theta := none }
    (d.choirEvent 8).enterState 2

/-- A θ of the parent in ALIGN (R250): the second in a row makes the step, on the fractional crystal. DEDUCED: log entry 45. -/
def Dev.alignTheta (d : Dev) (theta : F64) : Dev :=
  if d.rd TB_STATUS_SOURCE ≠ 2 ∨ d.time.step ≠ 0 then d
  else if d.choir.run = 0 then d.putChoir { d.choir with run := 1 }
  else d.stepTimescale theta

/-- LOCKING is entered from JOINED (R250), unless the fault has put the device OUT. -/
def Dev.relock (d : Dev) : Dev := if d.choirState = 5 then d else d.enterState 2

/-- And in LOCKING and JOINED (R249, R250). -/
def Dev.steerTheta (d : Dev) (theta : F64) : Dev :=
  let d := d.steerBy theta (d.choir.theta.getD theta)
  let d := d.putChoir { d.choir with theta := some theta }
  if d.choirState = 2 then
    let n := if within theta 20 then d.choir.run + 1 else 0
    if 16 ≤ n then d.enterState 3 else d.putChoir { d.choir with run := n }
  else
    let bad := if within theta 100 then 0 else d.choir.bad + 1
    if !within theta 1000 then (d.fault 0x0810 transient [srcDevice]).relock
    else if 3 ≤ bad then d.enterState 2
    else d.putChoir { d.choir with bad := bad }

/-- A θ from the parent is used (R249 to R251), and shown with its delay. -/
def Dev.takeTheta (d : Dev) (theta delay : F64) : Dev :=
  let d := ((d.putChoir { d.choir with shown := theta }).wr CHOIR_THETA_VALUE (signedSat32 theta)).wr CHOIR_DELAY_VALUE
    (if f64Neg delay || !f64IsFinite delay then 0 else min (2 ^ 32 - 1) (f64ToIntEven delay).toNat)
  match d.choirState with
  | 1 => d.alignTheta theta
  | 2 => d.steerTheta theta
  | 3 => d.steerTheta theta
  | _ => d

/-- The asymmetry of a port in T_SCK / 65,536 (R247). -/
def Dev.portAsym (d : Dev) (p : Nat) : F64 :=
  f64Mul (f64OfRat 262144 10000) (f64OfInt (toSigned 16 (d.rd (if p = 0 then PORT_ASYM_ASYM_A else PORT_ASYM_ASYM_B))))

/-- A difference of stamps, which a SYNC carries modulo 2^64, as the signed number of least size (R244, R247). DEDUCED: log entry 44. -/
def stampDiff (a b : Nat) : Int := toSigned 64 ((a % 2 ^ 64 + 2 ^ 64 - b % 2 ^ 64) % 2 ^ 64)

/-- θ and d of an exchange (R247), when it is not discarded. -/
def Dev.exchange (d : Dev) (p : Nat) (m : Msg) : Option (F64 × F64) :=
  let x := d.port p
  let t2 := intAt m.payload 12 8
  let t3 := intAt m.payload 4 8
  match findStamp x.launch (m.payload.getD 1 0), findStamp x.rx ((m.payload.getD 0 0 + 255) % 256) with
  | some s1, some s4 =>
    match s1.time, s4.time with
    | some t1, some t4 =>
      if (m.payload.getD 2 0).testBit 2 ∨ s1.tune ≠ s4.tune ∨ s1.gates ≠ s4.gates ∨ t2 = 0 ∨ t3 = 0 ∨ d.is TB_STATUS_GATED then none
      else
        let up := stampDiff t4 t3
        let down := stampDiff t2 t1
        let half := f64OfInt 2
        some (f64Sub (f64Div (f64OfInt (up - down)) half) (d.portAsym p), f64Div (f64OfInt (up + down)) half)
    | _, _ => none
  | _, _ => none

/-- A SYNC from the neighbour on port `p` (R246 to R250). A member chooses its parent again; the cantor has none. -/
def Dev.takeSync (p : Nat) (stamp : Option Nat) (bad : Bool) (d : Dev) (m : Msg) : Dev :=
  let parent := d.rd CHOIR_STATUS_PARENT
  let e := d.exchange p m
  let x := d.port p
  let n := m.payload.getD 0 0
  let d := d.putPort p { x with rx := (d.syncStamp p n stamp :: x.rx).take 8, peer := some m.src, peerFlags := m.payload.getD 2 0 }
  let d := match e with
    | none => d.inc (LINK_BAD_SYNC_DISC p)
    | some r => if parent = p + 1 then d.takeTheta r.1 r.2 else d
  let d := d.syncParity p stamp bad
  if d.isCantor then d else d.chooseParent

/-- SYNC_RX (R247): `stamp` is the receive stamp of the SYNC, as raw time; `parity` says that its conversion meets a parity error. -/
def Dev.syncRx (p : Nat) (stamp : Option Nat) (parity : Bool) (d : Dev) : Dev :=
  d.process (fun m => m.type == 0 && m.port == p) (Dev.takeSync p stamp parity)

/-- THETA_TIMEOUT (R249): no θ for 4 × 2^18 FCK. s is held, and exchanges are no longer consecutive. DEDUCED: log entry 45. -/
def Dev.thetaTimeout (d : Dev) : Dev := if d.choirAlive then d.putChoir { d.choir with run := 0, bad := 0 } else d

/-! ### The cantor -/

/-- The device enters ALIGN (R250): it leaves holdover, and a device on another reference plans the switch to the fractional crystal
(R251). -/
def Dev.enterAlign (d : Dev) : Dev :=
  let d := (d.enterState 1).putChoir { (d.enterState 1).choir with theta := none }
  ((d.wr CHOIR_STATUS_HOLDOVER 0).followOcxo).planSwitch

/-- A configuration mismatch (R257): fault 0x0840 and CFG_MISMATCH; the mismatching member enters OUT. -/
def Dev.mismatchFound (d : Dev) (leave : Bool) : Dev :=
  let d := (d.choirEvent 16).fault 0x0840 reportOnly []
  if leave then (d.putChoir { d.choir with outWhy := 2 }).enterOut else d

/-- Do a device's hashes equal the own ones, as far as known? -/
def Dev.hashesMatch (d : Dev) (a : Nat) : Bool :=
  (d.peer a).hashed && (d.peer a).choirHash == d.rd CHOIR_HASH && (d.peer a).commonHash == d.rd COMMON_HASH

/-- Compare with the cantor's hashes, once they are known (R257). -/
def Dev.checkCantor (d : Dev) : Dev :=
  let a := d.rd CHOIR_STATUS_CANTOR
  if d.choirState = 4 ∨ d.choirState = 5 ∨ d.choir.time.isNone ∨ !(d.peer a).hashed then d
  else if d.hashesMatch a then (if d.choirState = 0 then d.enterAlign else d)
  else d.mismatchFound true

/-- C′ of R309 and whether CAL_SECOND stands apart from the cantor's second by more than 1 ms. -/
def Dev.cantorCal (d : Dev) (cal calTime : Nat) : Nat × Bool :=
  let diff : Int := toSigned 54 ((d.rd CAL_SECOND_TIME / 1024 + coarseMod - calTime / 1024 % coarseMod) % coarseMod)
  let k := (diff + 400000000) / 800000000
  (calOfSeconds (((calSeconds (cal % 2 ^ 60) : Nat) : Int) + k).toNat, decide (800000 < (diff - k * 800000000).natAbs))

/-- Is a TIME accepted (R255)? Its epoch is higher, or equal and from the cantor known or a higher rank. -/
def Dev.acceptsTime (d : Dev) (m : Msg) : Bool :=
  let mine := d.rd CHOIR_STATUS_CEPOCH
  let known := if d.choirState = 4 then d.addr else d.rd CHOIR_STATUS_CANTOR
  if after16 m.cepoch mine then true
  else if m.cepoch ≠ mine then false
  else if d.choirState ≠ 4 ∧ (d.choir.time.isNone ∨ known = m.src) then true
  else decide ((d.rankOf m.src).getD 16 < (d.rankOf known).getD 16)

/-- A TIME is accepted (R252, R255, R309). -/
def Dev.acceptTime (d : Dev) (m : Msg) : Dev :=
  let mine := d.rd CHOIR_STATUS_CEPOCH
  let equal := decide (m.cepoch = mine) && (d.choirState == 4 || (d.choir.time.isSome && d.rd CHOIR_STATUS_CANTOR != m.src))
  let higher := after16 m.cepoch mine
  let role := d.choirState == 4
  let eps := f64At m.payload 16
  let d := (d.wr CHOIR_STATUS_CEPOCH m.cepoch).wr CHOIR_STATUS_CANTOR m.src
  let d := d.putChoir { d.choir with
    time := some { epoch := intAt m.payload 2 2, pseq := intAt m.payload 4 4, bound := intAt m.payload 8 8, eps := eps } }
  let d := if equal then d.fault 0x0822 reportOnly [] else d
  let d := if role && higher then d.fault 0x0821 reportOnly [] else d
  let d := if role then (d.choirEvent 1).enterAlign else d
  let d := { d with time := { d.time with epsCantor := eps } }
  let cal := intAt m.payload 24 8
  let d := if d.followsCantor && cal.testBit 63 then
      let c := d.cantorCal cal (intAt m.payload 32 8)
      d.followCal c.1 c.2
    else d
  d.checkCantor

/-- TIME_RX (R252, R254, R255). A cantor's TIME of its own epoch from a lower rank is not accepted and not stale. -/
def Dev.timeRx (d : Dev) : Dev :=
  d.process (fun m => m.type == 1) (fun d m =>
    if d.acceptsTime m then d.acceptTime m else if d.stale m then d.dropStale else d)

/-- CLAIM_TIME (R255, R256): an eligible device claims from LISTEN or JOINED. DEDUCED: log entries 45 and 68. -/
def Dev.claimTime (d : Dev) : Dev :=
  let st := d.choirState
  if !d.choirAlive || !(st == 0 || st == 3) || decide (d.deviceCount ≤ 1) || (d.rankOf d.addr).isNone then d
  else
    let top := if after16 d.choir.topEpoch (d.rd CHOIR_STATUS_CEPOCH) then d.choir.topEpoch else d.rd CHOIR_STATUS_CEPOCH
    let e := (top + 1) % 65536
    let d := (d.wr CHOIR_STATUS_CEPOCH e).wr CHOIR_STATUS_CANTOR d.addr |>.wr CHOIR_STATUS_HOPS 0 |>.wr CHOIR_STATUS_PARENT 0
      |>.wr CHOIR_STATUS_HOLDOVER (bit (st == 3))
    let d := (d.putChoir { d.choir with topEpoch := e, theta := none, realigning := false }).enterState 4
    let d := ((d.choirEvent 1).fault 0x0820 reportOnly []).followOcxo.planSwitch
    (d.sendTime true).commitStaged

/-- HEALTH_RX (R244, R254). -/
def Dev.healthRx (d : Dev) : Dev :=
  d.process (fun m => m.type == 7) (fun d m =>
    let st := m.payload.getD 0 0
    let d := d.putPeer m.src { d.peer m.src with state := st, hops := m.payload.getD 1 0 / 4 }
    let joined := clearBit (d.rd CHOIR_ALIVE_JOINED) m.src
    d.wr CHOIR_ALIVE_JOINED (if st = 3 then joined + 2 ^ m.src else joined))

/-- CFGHASH_RX (R257): the cantor compares every device's hashes with its own, and a member those of the cantor. -/
def Dev.cfghashRx (d : Dev) : Dev :=
  d.process (fun m => m.type == 5) (fun d m =>
    let x := { d.peer m.src with hashed := true, choirHash := intAt m.payload 4 4, commonHash := intAt m.payload 8 4,
                                 trackEn := (m.payload.getD 12 0).testBit 0 }
    let d := d.putPeer m.src x
    if d.choirState = 4 then
      if d.hashesMatch m.src then d.putPeer m.src { x with told := false }
      else if x.told then d
      else (d.putPeer m.src { x with told := true }).mismatchFound false
    else if m.src = d.rd CHOIR_STATUS_CANTOR then d.checkCantor else d)

/-- ALIVE_LAPSE (R254). -/
def Dev.aliveLapse (a : Nat) (d : Dev) : Dev :=
  if d.choirAlive then d.wr CHOIR_ALIVE_ALIVE (clearBit (d.rd CHOIR_ALIVE_ALIVE) a) else d

/-- LOG_RX (R314): the record goes to the own journal with REMOTE set. -/
def Dev.logRx (d : Dev) : Dev :=
  d.process (fun m => m.type == 4) (fun d m =>
    let len := intAt m.payload 0 2
    d.queueLog { kind := m.payload.getD 2 0, origin := m.payload.getD 3 0 % 128 + 128, cal := intAt m.payload 8 8,
                 payload := cut m.payload 16 (len - 20) })

/-! ### The choir sum -/

/-- The declared devices other than this one, ascending. -/
def Dev.others (d : Dev) : List Nat := (maskBits (d.rd CHOIR_DEVICES_MASK)).filter (fun a => a != d.addr)

/-- The offer of a device for a period. -/
def Dev.offerOf (d : Dev) (pseq a : Nat) : Option SumVal :=
  (d.choir.offers.find? (fun (o : Nat × Nat × SumVal) => o.1 == pseq && o.2.1 == a)).map (fun o => o.2.2)

/-- May a device contribute at all (R258): alive, not OUT, JOINED in its latest HEALTH? -/
def Dev.contributes (d : Dev) (a : Nat) : Bool :=
  (d.rd CHOIR_ALIVE_ALIVE).testBit a && (d.rd CHOIR_ALIVE_JOINED).testBit a && (d.peer a).state != 5

/-- Change the first job with a PSEQ. -/
def changeJob (pseq : Nat) (f : PipeJob → PipeJob) : List PipeJob → List PipeJob
  | [] => []
  | j :: r => if j.pseq = pseq then f j :: r else j :: changeJob pseq f r

/-- Give a job its sum. -/
def Dev.giveSum (d : Dev) (pseq : Nat) (f : PipeJob → PipeJob) : Dev := d.putPipe { d.pipe with jobs := changeJob pseq f d.pipe.jobs }

/-- The own operator command has found its outcome without a period (R197, R261). DEDUCED: log entry 45. -/
def Dev.reportOp (d : Dev) (code : Nat) : Dev :=
  match d.choir.own with
  | none => d
  | some o =>
    let d := (d.putChoir { d.choir with own := none }).wr OP_STATUS_PENDING 0 |>.wr OP_STATUS_RESULT code |>.wr OP_STATUS_CODE o.code
    d.notify 3 o.code (code + o.seq * 256 + 0xFFFF * 65536)

/-- The originator reports code 11 when no RESULT carries its command by the named period plus 2 (R261). -/
def Dev.expireOp (d : Dev) (pseq src seq : Nat) : Dev :=
  match d.choir.own with
  | some o => if (src = d.addr ∧ seq = o.seq) ∨ !from32 pseq (o.pseq + 2) then d else d.reportOp 11
  | none => d

/-- The operator command that the RESULT of a period carries (R261): the first that names it or the period before; one that came too
late for both with code 11. -/
def pickOp (pseq : Nat) : List OpReq → Option (OpReq × Nat × List OpReq)
  | [] => none
  | o :: r =>
    if from32 pseq o.pseq then some (o, (if from32 pseq (o.pseq + 2) then 11 else 0), r)
    else (pickOp pseq r).map (fun x => (x.1, x.2.1, o :: x.2.2))

/-- Place a command into a job. -/
def PipeJob.carry (j : PipeJob) (o : Option (OpReq × Nat × List OpReq)) : PipeJob :=
  match o with
  | some (q, code, _) => { j with cmd := q.code % 16, refused := code, cmdSrc := q.src, cmdSeq := q.seq }
  | none => j

/-- The RESULT message of a decided job (R244). -/
def Dev.sendResult (d : Dev) (j : PipeJob) (s : SumVal) : Dev :=
  d.send 2 0 true (bytesLE 4 j.pseq ++ f64Bytes s.value ++ [s.reason + 16 * bit (j.realign != []), j.cmd] ++ bytesLE 2 s.causes ++
    [j.cmdSrc + 16 * j.refused, j.cmdSeq, 0, 0] ++ bytesLE 4 d.digest ++ copies 8 0 ++ j.realign)

/-- A member whose strikes have reached the limit is retired from the choir (R262). -/
def Dev.lateDevice (d : Dev) (a : Nat) : Dev :=
  let was := d.isRetired (0x30 + a)
  let d := d.fault 0x0830 transient [0x30 + a]
  if !was && d.isRetired (0x30 + a) then (d.fault 0x0850 permanent [0x30 + a]).sendCmd a 5 a 0 0 0 else d

/-- The reasons of S, 0 when it is none, and the devices that are late (R258). S is a rest when an offer is one or a contribution is lacking, and
then every device that does not contribute adds reason 10, also one whose SUM came. DEDUCED: log entry 45. -/
def Dev.sumReasons (d : Dev) (j : PipeJob) : Nat × List Nat :=
  let missing := d.others.filter (fun a => (d.offerOf j.pseq a).isNone)
  let late := missing.filter d.contributes
  let offered := d.others.filterMap (d.offerOf j.pseq)
  let own := match j.own with
    | some s => s.causes
    | none => 2 ^ 9
  let causes := offered.foldl (fun m (s : SumVal) => m ||| s.causes ||| (if s.reason = 0 then 0 else 2 ^ s.reason)) own
  if causes = 0 ∧ missing = [] then (0, late)
  else (causes ||| (if d.others.all d.contributes then 0 else 2 ^ 10) ||| (if late = [] then 0 else 2 ^ 9), late)

/-- S as the sum of the offers in ascending address (R181). -/
def Dev.sumOffers (d : Dev) (j : PipeJob) : F64 :=
  f64SumList ((maskBits (d.rd CHOIR_DEVICES_MASK)).map (fun a =>
    ((if a = d.addr then j.own else d.offerOf j.pseq a).map (fun s => s.value)).getD f64Zero))

/-- The cantor decides a period (R258, R260, R261). -/
def Dev.decideSum (d : Dev) (j : PipeJob) : Dev :=
  let r := d.sumReasons j
  let s : SumVal := if r.1 = 0 then { value := d.sumOffers j, reason := 0, causes := 0 } else restSum r.1
  let o := pickOp j.pseq d.choir.ops
  let state := if d.choir.realignDue then d.realignBytes else []
  let j := ({ j with sum := some s, realign := state }).carry o
  let d := d.wr LATE_MASK_LATE ((r.2.map (fun a => 2 ^ a)).sum)
  let d := d.each r.2 Dev.lateDevice
  let ops := match o with
    | some x => x.2.2
    | none => d.choir.ops
  let d := d.putChoir { d.choir with realignDue := false, decided := some j.pseq, ops := ops,
                                     offers := d.choir.offers.filter (fun (x : Nat × Nat × SumVal) => !from32 j.pseq x.1) }
  ((d.giveSum j.pseq (fun _ => j)).sendResult j s).expireOp j.pseq j.cmdSrc j.cmdSeq

/-- The oldest period whose sum is open. -/
def Dev.openSum (d : Dev) : Option PipeJob := d.pipe.jobs.find? (fun j => j.sum.isNone)

/-- Decide the oldest open period when every declared device has offered (R258), or, forced, as it stands. -/
def Dev.tryDecide (d : Dev) (force : Bool) : Dev :=
  match d.openSum with
  | none => d
  | some j => if force ∨ (j.own.isSome ∧ d.others.all (fun a => (d.offerOf j.pseq a).isSome)) then d.decideSum j else d

/-- SUM_WINDOW_END (R258). -/
def Dev.sumWindowEnd (d : Dev) : Dev :=
  if d.choirAlive && d.choirState == 4 && decide (1 < d.deviceCount) then d.tryDecide true else d

/-- May a member's SUM be taken (R257)? Of the devices with TRACK_EN only that of the lowest address. -/
def Dev.takesSum (d : Dev) (a : Nat) : Bool :=
  let lower := (d.is TRACK_CFG_EN && decide (d.addr < a)) || d.others.any (fun b => decide (b < a) && (d.peer b).trackEn)
  d.hashesMatch a && !((d.peer a).trackEn && lower)

/-- SUM_RX (R257, R258). A SUM that is not taken because of TRACK_EN, or before the sender's hashes are known, is no mismatch. -/
def Dev.sumRx (d : Dev) : Dev :=
  d.process (fun m => m.type == 3) (fun d m =>
    let pseq := intAt m.payload 0 4
    let reason := m.payload.getD 12 0 % 16
    let s : SumVal := { value := f64At m.payload 4, reason := reason, causes := intAt m.payload 14 2 }
    if d.choirState ≠ 4 then d
    else if !d.takesSum m.src then
      if (d.peer m.src).told || !(d.peer m.src).hashed || d.hashesMatch m.src then d
      else (d.putPeer m.src { d.peer m.src with told := true }).mismatchFound false
    else if (match d.choir.decided with
      | some q => from32 q pseq
      | none => false) then d.inc CHOIR_COUNTS_SUM_AFTER
    else
      (d.putChoir { d.choir with offers := d.choir.offers.filter (fun (o : Nat × Nat × SumVal) => o.1 != pseq || o.2.1 != m.src) ++
        [(pseq, m.src, s)] }).tryDecide false)

/-- The own sum is given to the pipeline of a choir of one, with the operator command of the period. -/
def Dev.ownSum (d : Dev) (j : PipeJob) : Dev :=
  let o := pickOp j.pseq d.choir.ops
  let ops := match o with
    | some x => x.2.2
    | none => d.choir.ops
  let j := ({ j with sum := j.own }).carry o
  (d.putChoir { d.choir with ops := ops }).giveSum j.pseq (fun _ => j)

/-- A member offers L, or its rest (R258). -/
def Dev.offerSum (d : Dev) (j : PipeJob) : Dev :=
  let s := j.own.getD (restSum 0)
  d.send 3 (d.rd CHOIR_STATUS_CANTOR) false (bytesLE 4 j.pseq ++ f64Bytes s.value ++ [s.reason, 0] ++ bytesLE 2 s.causes)

/-- LOCAL_SUM (R176 to R181): stages 1 to 4 of the oldest period whose pair results are complete. -/
def Dev.localSum (d : Dev) : Dev :=
  match d.pipe.jobs.find? (fun j => j.own.isNone) with
  | none => d
  | some j =>
    if !d.alive || !d.jobReady j || d.mode == 5 || d.mode == 3 then d
    else
      let j := d.sumCells j
      let d := (d.giveSum j.pseq (fun _ => j)).sumFaults j
      if d.deviceCount ≤ 1 then d.ownSum j
      else if d.choirState = 4 then d.tryDecide false
      else if d.choirState = 3 then d.offerSum j
      else if j.sum.isSome then d
      else (d.giveSum j.pseq (fun j => { j with sum := some (restSum (2 ^ 10)) })).expireOp j.pseq 16 0

/-- Does a member wait for the RESULT of a period (R250, R259): while JOINED, and of a period that it offered before it left? -/
def Dev.awaits (d : Dev) (j : PipeJob) : Bool := j.sum.isNone && (d.choirState == 3 || j.own.isSome)

/-- RESULT_RX (R259, R261). A member that has left JOINED takes the RESULTs of the periods that it offered (R250). DEDUCED: log entry 45. -/
def Dev.resultRx (d : Dev) : Dev :=
  d.process (fun m => m.type == 2) (fun d m =>
    let b := m.payload
    let pseq := intAt b 0 4
    let old := match d.choir.applied with
      | some q => from32 q pseq
      | none => false
    if d.stale m then d.dropStale
    else if m.cepoch ≠ d.rd CHOIR_STATUS_CEPOCH ∨ d.isCantor ∨ old = true then d
    else
      let flags := b.getD 12 0
      let s : SumVal := { value := f64At b 4, reason := flags % 16, causes := intAt b 14 2 }
      let take := fun (j : PipeJob) => if !d.awaits j then j else
        { j with sum := some s, cmd := b.getD 13 0 % 16, cmdSrc := b.getD 16 0 % 16, refused := b.getD 16 0 / 16, cmdSeq := b.getD 17 0,
                 digest := some (intAt b 20 4), realign := if flags.testBit 4 then b.drop 32 else [] }
      let d := d.putChoir { d.choir with applied := some pseq }
      (d.giveSum pseq take).expireOp pseq (b.getD 16 0 % 16) (b.getD 17 0))

/-- RESULT_TIMEOUT (R259): the boundary plus 2 × SUM_WINDOW has passed without a RESULT. -/
def Dev.resultTimeout (d : Dev) : Dev :=
  match d.openSum with
  | none => d
  | some j =>
    if !d.choirAlive || d.isCantor || !d.awaits j then d
    else
      let d := d.giveSum j.pseq (fun j => { j with sum := some (restSum (2 ^ 10)) })
      let d := d.putChoir { d.choir with applied := some j.pseq }
      ((d.fault 0x0831 transient [srcDevice]).choirEvent 128).expireOp j.pseq 16 0

/-! ### Commands -/

/-- May an operator command be taken (R294, R295): an image is active and the pipeline runs? -/
def Dev.mayOperate (d : Dev) : Bool := d.alive && d.is CFG_STATUS_CONFIGURED && (d.mode == 1 || d.mode == 2)

/-- ZERO, TARE, CLEAR_TARE and PRINT (R197, R261): `code` is that of OP_CMD. The command names the period in progress, whose boundary is
the first one seen after it. DEDUCED: log entries 38 and 39. -/
def Dev.operate (code : Nat) (d : Dev) : Dev :=
  if !d.mayOperate then d
  else if d.is OP_STATUS_PENDING then
    ((d.wr OP_STATUS_RESULT 9).wr OP_STATUS_CODE code).notify 3 code (9 + d.rd OP_STATUS_SEQ * 256 + 0xFFFF * 65536)
  else
    let seq := (d.rd OP_STATUS_SEQ + 1) % 256
    let o : OpReq := { src := d.addr, seq := seq, code := code, pseq := d.rd (TIMER_PCOUNT_COUNT d.pipeTimer) }
    let d := ((d.wr OP_STATUS_SEQ seq).wr OP_STATUS_PENDING 1).wr OP_STATUS_CODE code
    let d := d.putChoir { d.choir with own := some o }
    if d.isCantor then d.putChoir { d.choir with ops := d.choir.ops ++ [o] }
    else d.sendCmd (d.rd CHOIR_STATUS_CANTOR) 1 code seq o.pseq 0

/-- The messages of a CMD kind. -/
def isCmd (k : Nat) (m : Msg) : Bool := m.type == 6 && m.kind == k

/-- OP_RX (R261). -/
def Dev.opRx (d : Dev) : Dev :=
  d.process (isCmd 1) (fun d m =>
    let o : OpReq := { src := m.src, seq := m.payload.getD 2 0, code := m.payload.getD 1 0, pseq := intAt m.payload 4 4 }
    if d.choirState = 4 then d.putChoir { d.choir with ops := d.choir.ops ++ [o] } else d)

/-- A cantor's CMD is obeyed unless its epoch is stale (R255). -/
def Dev.obey (d : Dev) (k : Nat) (f : Dev → Msg → Dev) : Dev :=
  d.process (isCmd k) (fun d m => if d.stale m then d.dropStale else f d m)

/-- SWITCH_RX (R279, R282): of the current epoch. A device that has nothing staged gives no answer. -/
def Dev.switchRx (d : Dev) : Dev :=
  d.obey 2 (fun d m =>
    let p := intAt m.payload 4 4
    if d.rd APPLY_STATUS_STATE ≠ 2 ∨ m.cepoch ≠ d.rd CHOIR_STATUS_CEPOCH then d
    else if intAt m.payload 8 4 ≠ d.img.commonHash then d.refuseApply 15 0xFFFFFFFF
    else ({ d with img := { d.img with named := some p } }.wr SWITCH_PSEQ p).commitStaged)

/-- SWITCH_ACK_RX (R282). -/
def Dev.switchAckRx (d : Dev) : Dev :=
  d.process (isCmd 3) (fun d m =>
    if d.choirState = 4 then d.wr SWITCH_ACK (d.rd SWITCH_ACK ||| 2 ^ m.src) else d)

/-- RESET_RX (R262, R338): the boundary of a CHOIR reset is named. It is delivered in the safe state too. -/
def Dev.resetRx (d : Dev) : Dev :=
  match takeFirst (isCmd 4) d.choir.inbox with
  | some (m, rest) =>
    if !d.linkAlive then d
    else
      let d := d.putChoir { d.choir with inbox := rest }
      if d.stale m then d.dropStale else d.putChoir { d.choir with resetAt := some (intAt m.payload 4 4) }
  | none => d

/-- RETIRE_RX (R262): the member enters OUT. -/
def Dev.retireRx (d : Dev) : Dev :=
  d.obey 5 (fun d m => if m.payload.getD 1 0 = d.addr then (d.putChoir { d.choir with outWhy := 3 }).enterOut else d)

/-- READMIT_RX (R250, R262): a target that is OUT by a retirement, the cantor's or its own, leaves OUT on probation. -/
def Dev.readmitRx (d : Dev) : Dev :=
  d.obey 6 (fun d m =>
    if m.payload.getD 1 0 = d.addr ∧ d.choirState = 5 ∧ d.choir.outWhy ≠ 1 ∧ d.choir.outWhy ≠ 2 then
      let d := d.putChoir { d.choir with outWhy := 0 }
      d |>.wr CHOIR_STATUS_STATE 0 |>.wr (STRIKE_STRIKES srcDevice) 0 |>.wr (STRIKE_DECAY_COUNT srcDevice) 0
        |>.wr (STRIKE_RETIRED srcDevice) 0 |>.wr (STRIKE_PROBATION srcDevice) 1 |>.wr (STRIKE_PROB_LEFT srcDevice) (d.rd STRIKE_CFG_PROBATION)
    else d)

/-- REALIGN_REQ_RX (R260). -/
def Dev.realignReqRx (d : Dev) : Dev :=
  d.process (isCmd 7) (fun d _ => if d.choirState = 4 then d.putChoir { d.choir with realignDue := true } else d)

/-- Are the cantor's own commands accepted? -/
def Dev.mayCommand (d : Dev) : Bool := d.choirAlive && d.choirState == 4

/-- READMIT_DEVICE (R262, R329): CHOIR_CMD 0xE3. -/
def Dev.readmitDevice (a : Nat) (d : Dev) : Dev :=
  if !d.mayCommand then d
  else
    let src := 0x30 + a
    let d := if d.isRetired src then
        d |>.wr (STRIKE_STRIKES src) 0 |>.wr (STRIKE_DECAY_COUNT src) 0 |>.wr (STRIKE_RETIRED src) 0 |>.wr (STRIKE_PROBATION src) 1
          |>.wr (STRIKE_PROB_LEFT src) (d.rd STRIKE_CFG_PROBATION)
      else d
    d.sendCmd a 6 a 0 0 0

/-- CHOIR_RESET_CMD (R262): CHOIR_CMD 0xE5. -/
def Dev.choirResetCmd (d : Dev) : Dev :=
  if !d.mayCommand then d
  else
    let p := d.boundaryAhead
    (d.putChoir { d.choir with resetAt := some p }).sendCmdAll 4 0 p 0

/-- CLEAR_CHOIR_COUNTERS: CHOIR_CMD 0xE7, the counters of the block. -/
def Dev.clearChoirCounters (d : Dev) : Dev :=
  let d := (d.wr CHOIR_COUNTS_STALE_COUNT 0).wr CHOIR_COUNTS_SUM_AFTER 0
  d.each [0, 1] (fun d p =>
    d.each [LINK_FRAMES_TX_FRAMES_TX p, LINK_FRAMES_RX_FRAMES_RX p, LINK_ERR_CRC_ERR p, LINK_ERR_NAK_RX p, LINK_RETRY_RETRIES p,
            LINK_RETRY_RETRAINS p, LINK_CODE_ERR_CODE_ERR_0 p, LINK_CODE_ERR_CODE_ERR_1 p, LINK_DROP_FWD_DROP p, LINK_DROP_DUP_COUNT p,
            LINK_BAD_BAD_TYPE p, LINK_BAD_SYNC_DISC p] (fun d f => d.wr f 0))

end Sys2Proof.Machine
end

