-- ==== Sys2Proof/Machine/Sfdp.lean ====
section
/-! DEFINITION.
The SFDP tables of the NVM (R265, R274): the capacity, and the 1-1-4 read with its dummy cycles. The spec names JEDEC JESD216 (R11) and gives no
table of it. PRESUMED: log entry 83.
-/

namespace Sys2Proof.Machine

/-- What the DENIG-16 takes from SFDP: the capacity as log2 of bytes, the quad read instruction and its dummy cycles. -/
structure SfdpInfo where
  size : Nat
  cmd : Nat
  dummy : Nat
deriving DecidableEq, Repr

/-- Bytes `off` to `off + n - 1` of the tables as a number, least significant byte first. -/
def sfdpAt (b : List Nat) (off n : Nat) : Nat := ofBytesLE ((b.drop off).take n)

/-- The place of the parameter table with an ID among the parameter headers. -/
def sfdpTable (b : List Nat) (low high : Nat) : Option Nat :=
  ((List.range (sfdpAt b 6 1 + 1)).find? (fun i => sfdpAt b (8 + 8 * i) 1 == low && sfdpAt b (15 + 8 * i) 1 == high)).map
    (fun i => sfdpAt b (12 + 8 * i) 3)

/-- The capacity as log2 of bytes from the density word: bits less one, or their log2. -/
def sfdpSize (density : Nat) : Nat := if density.testBit 31 then density % 2 ^ 31 - 3 else Nat.log2 (density + 1) - 3

/-- The tables as the DENIG-16 reads them: a part without SFDP, or whose tables report no 1-1-4 read, gives no capacity and no instruction (R265).
Above 128 Mbit the instruction is that of the table of 4-byte addresses. -/
def readSfdp (b : List Nat) : SfdpInfo :=
  match sfdpTable b 0x00 0xFF with
  | none => { size := 0, cmd := 0, dummy := 0 }
  | some p =>
    let size := sfdpSize (sfdpAt b (p + 4) 4)
    let mode := sfdpAt b (p + 10) 2
    let wide := match sfdpTable b 0x84 0xFF with
      | some q => (sfdpAt b q 4).testBit 4
      | none => false
    if sfdpAt b 0 4 ≠ 0x50444653 ∨ !(sfdpAt b p 4).testBit 22 ∨ (24 < size ∧ !wide) then { size := 0, cmd := 0, dummy := 0 }
    else { size := size, cmd := if 24 < size then 0x6C else mode / 256, dummy := mode % 32 + mode / 32 % 8 }

end Sys2Proof.Machine
end

