-- ==== Sys2Proof/Machine/Boot.lean ====
section
/-! DEFINITION.
Supplies (R29 to R37) and the boot (R20 to R22, R274 to R276, R338).
-/

namespace Sys2Proof.Machine

open Reg

/-- The steps of R20 that a step waits for. -/
def bootNeeds (n : Nat) : List Nat :=
  [[], [], [1], [2], [3], [3], [4, 5], [6], [3, 7], [8], [7], [5], [3, 7], [7, 9, 10, 11]].getD n []

/-- The backup domain is supplied again: after a loss the calendar has started anew, which the next boot reports (R308). -/
def Dev.supplyBackup (d : Dev) : Dev :=
  if d.power.backup then d
  else { d with power := { d.power with backup := true }, calst := { d.calst with lost := true } }

/-- POWER_GOOD_RISE (R31, R33, R34, R36): `straps` are the levels of ADDR_STRAP[0..3] and `testEn` that of TEST_EN. -/
def Dev.powerGoodRise (straps : Nat) (testEn : Bool) (d : Dev) : Dev :=
  if d.power.good then d
  else
    let low := d.power.resetLow
    let d := (d.supplyBackup).wr SUPPLY_STATUS_BKP_SRC 0 |>.wr SUPPLY_STATUS_VIOV_LEVEL 0 |>.wr PIN_LEVEL_STRAP_LIVE straps
    let d := (d.reset 1).wr STRAP_STATUS_ADDR straps
    let d := { d with host := HostSt.fresh,
                      power := { d.power with good := true, testHeld := testEn, jtagHeld := false } }
    if low then d.wr RESET_CAUSE_PIN 1 else d

/-- The lowest code of LOST_RAIL among the rails of a mask (R37): bit i is the rail of code i + 1. -/
def lostRail (rails : Nat) : Nat := (((List.range 5).find? (fun i => rails.testBit i)).map (· + 1)).getD 0

/-- POWER_GOOD_FALL (R34, R37, R341): the rails of a mask are detected below their thresholds in one RCK. The device is in BACKUP.
PRESUMED: log entry 47. -/
def Dev.powerGoodFall (rails : Nat) (d : Dev) : Dev :=
  if !d.power.good || lostRail rails == 0 then d
  else
    let low := d.power.resetLow
    let o := d.abandonPt
    let d := (o.afterReset 1).showLevels o
    let d := { d with power := { PowerSt.off with backup := true, resetLow := low }, host := HostSt.fresh }
    d |>.wr SUPPLY_EVENT_MAIN_LOSS 1 |>.wr SUPPLY_EVENT_LOST_RAIL (lostRail rails) |>.wr SUPPLY_STATUS_BKP_SRC 1

/-- VBAT_LOW (R37): no command raises VBAT_OK again. DESIGN CHOICE: log entry 76. -/
def Dev.vbatLow (d : Dev) : Dev := if d.power.good then (d.wr SUPPLY_EVENT_VBAT_LOW 1).wr SUPPLY_STATUS_VBAT_OK 0 else d

/-- STRAP_CHANGE (R31; chapter 2, coincidences). DEDUCED: log entry 48. -/
def Dev.strapChange (levels : Nat) (d : Dev) : Dev :=
  if !d.power.good then d
  else
    let d := d.wr PIN_LEVEL_STRAP_LIVE levels
    if levels = d.rd STRAP_STATUS_ADDR then d else d.wr STRAP_STATUS_CHANGED 1

/-- SEAL_CHANGE (R32, R277, R296, R313): the debounced state of SEAL_N changes; in STANDBY nothing does.
DEDUCED: log entry 48. -/
def Dev.sealChange (level : Bool) (d : Dev) : Dev :=
  if !d.alive || d.mode == 3 || d.is PIN_LEVEL_SEAL_OPEN == level then d
  else
    let d := (d.wr PIN_LEVEL_SEAL_RAW (bit level)).wr PIN_LEVEL_SEAL_OPEN (bit level)
    let d := (d.notify 6 (bit level) 0).log 9 [bit level]
    if level then d else d.sealClosed

/-- Does the boot header pass (R266) on an NVM of 2 ^ `size` bytes? The journal has at least 32 sectors behind the audit area and the 8 of the
totaliser (R310). -/
def bootHeaderPasses (h : List Nat) (size : Nat) : Bool :=
  let base := intAt h 8 4
  let len := intAt h 0xC 4
  intAt h 0 4 == 0x0D16B007 && intAt h 4 2 == 1 && intAt h 6 1 == (if 24 < size then 4 else 3) && intAt h 7 1 == 0 &&
    decide (base % 4096 = 0) && decide (0x100000 ≤ base) && decide (len % 4096 = 0) && decide (2 ^ 20 ≤ len) && decide (base + len ≤ 2 ^ size) &&
    decide (4096 ≤ intAt h 0x10 4) && decide ((intAt h 0x10 4 + 126) / 127 + 8 + 32 ≤ min len 0x1000000 / 4096) && intAt h 0x14 8 == 0 && intAt h 0x1C 4 == crc32 (h.take 0x1C)

/-- Boot step 5 (R265, R266, R274): SFDP, the boot header and the first 256 bytes of both slots. `sfdp` are the bytes of the SFDP tables. -/
def Dev.readHeaders (d : Dev) (sfdp : List Nat) : Dev :=
  let i := readSfdp sfdp
  let h := d.nvmBytes 0 0x20
  let good := bootHeaderPasses h i.size
  let d := d |>.wr NVM_INFO_SIZE_LOG2 i.size |>.wr NVM_INFO_ADDR4 (bit (decide (24 < i.size))) |>.wr NVM_INFO_READ_CMD i.cmd
    |>.wr NVM_INFO_DUMMY i.dummy
  let d := (d.wr CFG_STATUS_HDR_BAD (bit (!good))).showSlots
  let d := d.putLogs { d.logs with base := if good then intAt h 8 4 else 0, size := if good then intAt h 0xC 4 else 0 }
  (d.wr AUDIT_CAP (if good then intAt h 0x10 4 else 0)).countAudit

/-- The ACTIVE slot that is selected (R274). -/
def Dev.selectedSlot (d : Dev) : Option Nat :=
  let a := d.rd CFG_STATUS_SLOT_A == 2
  let b := d.rd CFG_STATUS_SLOT_B == 2
  let gen := fun (s : Nat) => ofBytesLE (d.nvmBytes (slotBase s + 0xC) 4)
  if a && b then
    let rise := (gen 1 + 2 ^ 32 - gen 0) % 2 ^ 32
    some (if 1 ≤ rise ∧ rise < 2 ^ 31 then 1 else 0)
  else if a then some 0 else if b then some 1 else none

/-- Validate a slot at boot (R273): code 13 when it is one of the slots that cannot be read. -/
def Dev.checkSlot (d : Dev) (s : Nat) (states : List Nat) (dead : Nat) : Verdict :=
  if dead.testBit s then Verdict.no 13 0xFFFFFFFF
  else validate (d.slotBytes s) states d.fuses.keySet d.fuses.keyHash none

/-- A slot that cannot be read is a failure of the NVM (fault 0x0906). DEDUCED: log entry 49. -/
def Dev.noteRead (d : Dev) (code : Nat) : Dev := if code = 13 then d.fault 0x0906 transient [srcDevice] else d

/-- A failed validation is shown: its code, and the address of the field it concerns (R273). DEDUCED: log entry 49. -/
def Dev.showFailure (d : Dev) (v : Verdict) : Dev :=
  ((d.noteRead v.code).wr CFG_STATUS_BOOT_ERR v.code).wr APPLY_ERR_ADDR_ADDR v.addr

/-- A selected slot fails validation: it is retired (R274). -/
def Dev.failSlot (d : Dev) (s : Nat) (v : Verdict) : Dev := (d.showFailure v).fault 0x0901 permanent [0x50 + s]

/-- The device is unconfigured (R276). With no other failure to show, no slot was selectable: code 1 of R273. -/
def Dev.noImage (d : Dev) : Dev :=
  (d.when (!d.is CFG_STATUS_BOOT_ERR && !d.is CFG_STATUS_HDR_BAD) (fun d => d.wr CFG_STATUS_BOOT_ERR 1)).fault 0x0902 reportOnly []

/-- The load fails after validation (R275). -/
def Dev.failLoad (d : Dev) (code : Nat) : Dev := (d.wr CFG_STATUS_BOOT_ERR code).noImage

/-- R275 step 2: a pending audit record is confirmed or voided. `bad` says that the program fails. -/
def Dev.settlePending (d : Dev) (check : Nat) (bad : Bool) : Dev × Bool :=
  match d.auditSlots.getLast? with
  | none => (d, true)
  | some (i, b) =>
    if !auditPending b then (d, true)
    else
      let same := auditNew b == check
      if bad then ((d.spoil (d.auditAddr i + 1) [if same then 0xFE else 0xFD]).countAudit, false)
      else
        let d := d.settleAudit same
        (if same then d else d.fault 0x0909 reportOnly [], true)

/-- R275 step 3: an image that no audit record names is recorded as EXTERNAL. 0, or the code with which the load fails. -/
def Dev.recordExternal (d : Dev) (check gen : Nat) (bad : Bool) : Dev × Nat :=
  let last := d.lastConfirmed
  if last = some check then (d, 0)
  else if d.auditFull then (d.reportAuditFull, 10)
  else (d.writeAudit 2 0xFE (last.getD 0) check gen bad, if bad then 13 else 0)

/-- The monitors of an image at boot: the enabled ones settle and are tested (R123, R124). -/
def Dev.startMonitors (d : Dev) : Dev :=
  d.showThresholds.each (List.range 8) (fun d m => if d.is (WM_CFG_EN m) then d.settleMonitor m true else d)

/-- The choir starts (R232, R250): LISTEN, or the cantor role of epoch 0 in a choir of one; CFGHASH is sent (R243). -/
def Dev.startChoir (d : Dev) : Dev :=
  let d := d.putChoir { d.choir with startFck := d.time.fck }
  let d := if d.deviceCount ≤ 1 then d.choirOfOne else d.wr CHOIR_STATUS_STATE 0
  d.sendCfgHash

/-- Every block takes the image that has loaded. -/
def Dev.startBlocks (d : Dev) : Dev :=
  let d := d.each (List.range 16) (fun d n => if d.is (VOICE_CTRL_EN n) then d.wr (VOICE_STATUS_STATE n) 1 else d)
  let d := d.checkViov.startMonitors
  let d := d.each (List.range 8) (fun d x => (if d.rd (EXC_CFG_MODE x) = 0 then d else d.wakeExc x).driveExc x)
  let d := ((d.spForceAll).startPipeline.startTrack).startChoir
  let d := d.followOcxo
  if d.mismatch then d.fault 0x0904 reportOnly [] else d

/-- An image loads from a slot (R275): bit 0 of `bad` says that the audit program of step 2 fails, bit 1 that of step 3. -/
def Dev.loadImage (d : Dev) (s : Nat) (v : Verdict) (bad : Nat) : Dev :=
  let both := d.rd CFG_STATUS_SLOT_A == 2 && d.rd CFG_STATUS_SLOT_B == 2
  let d := if both then (d.program (markAddr (1 - s) 0x88) markBytes).showSlots else d
  let p := d.settlePending v.check (bad.testBit 0)
  let x := if p.2 then p.1.recordExternal v.check v.gen (bad.testBit 1) else (p.1, 13)
  let d := x.1
  if x.2 = 13 then (d.fault 0x0906 transient [srcDevice]).failLoad 13
  else if x.2 ≠ 0 then d.failLoad x.2
  else
    let m := { ImgSt.none with slot := s, check := v.check, choirHash := v.choirHash, commonHash := v.commonHash, gen := v.gen, signed := v.signed }
    ((d.takeTable v.table).showActive m).startBlocks

/-- The superseded slot B serves when slot A did not load (R274). DEDUCED: log entry 49. -/
def Dev.fallBack (d : Dev) (bad dead : Nat) : Dev :=
  if d.rd CFG_STATUS_SLOT_B ≠ 3 then d.noImage
  else
    let v := d.checkSlot 1 [3] dead
    if v.code ≠ 0 then (d.showFailure v).noImage
    else if d.lastConfirmed ≠ some v.check then d.noImage
    else
      let d := (d.wr CFG_STATUS_FALLBACK 1).fault 0x0908 reportOnly []
      let d := if d.rd CFG_STATUS_SLOT_A = 3 then d else d.program (markAddr 0 0x88) markBytes
      d.showSlots.loadImage 1 v bad

/-- Boot step 7 (R22, R273 to R276): the image is selected, validated and loaded. -/
def Dev.bootImage (d : Dev) (bad dead : Nat) : Dev :=
  if d.is CFG_STATUS_HDR_BAD then d.noImage
  else
    match d.selectedSlot with
    | none => d.fallBack bad dead
    | some s =>
      let v := d.checkSlot s [2] dead
      if v.code = 0 then d.loadImage s v bad
      else
        let d := d.failSlot s v
        if s = 0 then d.fallBack bad dead else d.noImage

/-- Boot step 8 (R20, R72, R136): SPLL has locked on the crystal, SCK opens, and the timers of a valid image start; none with an address
that differs from the strap (R31). -/
def Dev.openSck (d : Dev) : Dev :=
  let d := { d with time := { d.time with coarse := 0, fifths := 0, gap := 0, opened := true, step := 0 } }
  let d := d |>.wr TB_STATUS_SPLL_LOCK 1 |>.wr TB_STATUS_SOURCE d.crystalSource |>.wr TB_STATUS_GATED 0
  let d := d.bootTuning.showRefOut
  if d.is CFG_STATUS_CONFIGURED && !d.mismatch then d.startTimers else d

/-- Boot step 11 (R308, R316 to R319): the calendar is checked and the log mounted. DEDUCED: log entry 49. -/
def Dev.mountLog (d : Dev) : Dev :=
  let d := if d.calst.stopped then d.showKckStop else d
  let d := if d.calst.lost then { d with calst := { d.calst with lost := false } }.fault 0x0A01 reportOnly [] else d
  if d.is CFG_STATUS_HDR_BAD then d else d.mount.restoreTrack

/-- The fault of the safe state before this boot is reported (R338). What its log record holds beside the code is open (log entry 5). -/
def Dev.reportSafe (d : Dev) : Dev :=
  if d.is SAFE_STATUS_PENDING then
    let x := d.openValue
    let w := x % 2 ^ 64 + d.rd SAFE_STATUS_CODE * 2 ^ 64 + x / 2 ^ 64 % 2 ^ 48 * 2 ^ 80
    ((d.nextFree.wr RESET_CAUSE_SAFE 1).log 7 (bytesLE 16 w)).wr SAFE_STATUS_PENDING 0
  else d

/-- RESET_CAUSE as one word. -/
def Dev.resetCause (d : Dev) : Nat :=
  d.rd RESET_CAUSE_POR + d.rd RESET_CAUSE_PIN * 2 + d.rd RESET_CAUSE_SOFT * 4 + d.rd RESET_CAUSE_LOAD * 8 + d.rd RESET_CAUSE_CHOIR * 16 +
    d.rd RESET_CAUSE_SAFE * 32 + d.rd RESET_CAUSE_RESUME * 64 + d.rd RESET_CAUSE_LAST * 2 ^ 12

/-- CFG_STATUS as one word. -/
def Dev.cfgStatus (d : Dev) : Nat :=
  d.rd CFG_STATUS_CONFIGURED + d.rd CFG_STATUS_ACTIVE_SLOT * 2 + d.rd CFG_STATUS_SLOT_A * 4 + d.rd CFG_STATUS_SLOT_B * 32 +
    d.rd CFG_STATUS_FALLBACK * 2 ^ 8 + d.rd CFG_STATUS_SIG_CHECKED * 2 ^ 9 + d.rd CFG_STATUS_BOOT_ERR * 2 ^ 10 + d.rd CFG_STATUS_HDR_BAD * 2 ^ 15

/-- The JTAG instructions that held the logic in reset are logged (R302). DEDUCED: log entry 51. -/
def Dev.logTap (d : Dev) : Dev :=
  let l := d.host.tapLog
  let d := { d with host := { d.host with tapLog := [] } }
  d.each l (fun d c => d.log 10 [c, 1])

/-- The units that work in RUN alone start: the capture unit (R168), and the exciters' idle levels (R130). -/
def Dev.startRun (d : Dev) : Dev := d.enableCapture.each (List.range 8) Dev.driveExc

/-- The collections that run go on as the owners' states ask (R101). -/
def Dev.followOwners (d : Dev) : Dev := d.each (List.range 20) Dev.followOwner

/-- The boot ends (R101, R296, R313, R338, R341). DEDUCED: log entries 49 and 51. -/
def Dev.endBoot (d : Dev) : Dev :=
  let d := (d.wr POWER_STATUS_STATE 1).reportSafe
  let d := d.notify 7 (d.rd CFG_STATUS_CONFIGURED) d.resetCause
  let d := d.log 8 (bytesLE 4 d.resetCause ++ bytesLE 4 (d.rd CHECK_CODE) ++ bytesLE 4 (d.rd ACTIVE_GEN) ++ bytesLE 4 d.cfgStatus)
  d.logTap.startRun.followOwners

/-- Have the boot tunings ended, but for those that are late (R106)? -/
def Dev.tuningsEnded (d : Dev) : Bool := (List.range 20).all (fun c => !(d.tun c).boot || (d.tun c).lateRep)

/-- Have the self-tests of the enabled monitors ended (R123)? -/
def Dev.testsEnded (d : Dev) : Bool :=
  (List.range 8).all (fun m => d.rd (WM_STATUS_STATE m) == 0 || d.rd (WM_STATUS_STATE m) == 4 || d.rd (WM_STATUS_STATE m) == 5)

/-- May boot step `n` complete: the steps it waits for have, and what it brings about is done? SCK opens at step 8 once the window check has
passed (R60). The link lanes of step 12 may train after the boot's end. -/
def Dev.mayComplete (d : Dev) (n : Nat) : Bool :=
  d.alive && decide (1 ≤ n) && decide (n ≤ 12) && !d.is TB_STATUS_FCK_SRC && (d.mode == 0 || (n == 12 && (d.mode == 1 || d.mode == 2))) &&
    !d.booted n && (bootNeeds n).all d.booted && (n != 8 || d.time.step == 8) && (n != 9 || d.tuningsEnded) && (n != 10 || d.testsEnded)

/-- What a boot step brings about: `info` is what it finds (step 1 the class of VDDIO_V, step 5 the bytes of the SFDP tables, step 7 the mask of the audit programs that fail, and the mask of the slots that cannot be read). -/
def Dev.bootEffect (d : Dev) (n : Nat) (info : List Nat) : Dev :=
  if n = 1 then d.wr SUPPLY_STATUS_VIOV_LEVEL (info.getD 0 0)
  else if n = 3 then d.wr TB_STATUS_FPLL_LOCK 1
  else if n = 5 then d.readHeaders info
  else if n = 7 then
    let d := d.bootImage (info.getD 0 0) (info.getD 1 0)
    { d with time := { d.time with step := 5, target := d.crystalSource } }
  else if n = 8 then d.openSck
  else if n = 11 then d.mountLog
  else d

/-- A boot step is taken. -/
def Dev.stepTaken (d : Dev) (n : Nat) : Dev := { d with power := { d.power with steps := d.power.steps ||| 2 ^ n } }

/-- Periods start at once, but in TB_MODE OCXO they wait for the OCXO (R55). -/
def Dev.judgeFirst (d : Dev) : Dev :=
  { d with power := { d.power with firstOk := d.rd TB_CFG_MODE != 1 || d.rd TB_STATUS_OCXO_STATE == 3 } }

/-- BOOT_STEP_COMPLETE (R20). -/
def Dev.bootStepComplete (n : Nat) (info : List Nat) (d : Dev) : Dev :=
  if !d.mayComplete n then d
  else
    let d := d.bootEffect n info
    let d := d.stepTaken n
    let d := if n = 10 then d.followTrips else d
    if d.mode = 0 ∧ d.booted 9 ∧ d.booted 10 ∧ d.booted 11 then d.endBoot else d

/-- FIRST_PERIOD (R20 step 13, R21, R55, R313): the first computation of ε; in TB_MODE OCXO the periods wait for the OCXO. -/
def Dev.firstPeriod (d : Dev) : Dev :=
  if !d.alive || !(d.mode == 1 || d.mode == 2) || d.booted 13 || !(bootNeeds 13).all d.booted || !d.is CFG_STATUS_CONFIGURED then d
  else
    let d := (d.stepTaken 13).computeEps
    let d := if d.is CAL_STATUS_VALID ∧ d.time.lastAgeDate.map Prod.snd ≠ some d.date then d.logAge else d
    d.judgeFirst

end Sys2Proof.Machine
end

