-- ==== Sys2Proof/Machine/Power.lean ====
section
/-! DEFINITION.
The power states (R341 to R344), re-admission (R332), the scrubber (R334), the NVM's own operations as commands, and the die temperature (R368).
-/

namespace Sys2Proof.Machine

open Reg

/-- Is POWER_CMD 0x41 accepted (R341)? -/
def Dev.mayHold (d : Dev) : Bool := d.alive && d.mode == 1

/-- Entry into HOLD (R153, R168, R342): the periods in progress are rests with reason 12, LEGAL_RESULT shows HOLD, schedules are abandoned.
DEDUCED: log entries 34 and 59. -/
def Dev.enterHold (d : Dev) : Dev :=
  let d := (d.wr POWER_STATUS_STATE 2).restAll 12
  let d := (d.putPipe { d.pipe with holdCause := true, severe := true, restLatched := false }).commitError 7
  let d := d.each (List.range 4) (fun d t =>
    (d.putTimer t { d.timer t with clean := false }).wr (TIMER_STATUS_HOLD t) (d.rd (TIMER_STATUS_RUNNING t)))
  d.disableCapture.each (List.range 8) Dev.abandonExc

/-- HOLD (R342): POWER_CMD 0x41. -/
def Dev.hold (d : Dev) : Dev := if d.mayHold then d.enterHold else d

/-- The device is in RUN again (R153, R200): periods are no longer suspended, and a pulse that is owed may start.
DEDUCED: log entry 59. -/
def Dev.toRun (d : Dev) : Dev := (d.each (List.range 4) (fun d t => d.wr (TIMER_STATUS_HOLD t) 0)).startRun.totStart

/-- Is POWER_CMD 0x42 accepted (R341)? Not while STANDBY is being entered. -/
def Dev.mayRun (d : Dev) : Bool := d.alive && d.mode == 2 && !d.power.entering

/-- RUN (R341): POWER_CMD 0x42. -/
def Dev.run (d : Dev) : Dev := if d.mayRun then (d.wr POWER_STATUS_STATE 1).toRun else d

/-- Is POWER_CMD 0x44 accepted (R341)? -/
def Dev.mayStandby (d : Dev) : Bool := d.alive && (d.mode == 1 || d.mode == 2) && !d.power.entering

/-- STANDBY (R343): POWER_CMD 0x44. Until the entry is complete the device is as in HOLD; a staged image is dropped (R279). -/
def Dev.standby (d : Dev) : Dev :=
  if !d.mayStandby then d
  else
    let d := d.wr POWER_STATUS_PREV d.mode
    let d := if d.mode = 1 then d.enterHold else d
    let d := if d.rd APPLY_STATUS_STATE = 2 then d.endApply else d
    { d with power := { d.power with entering := true, wakeDue := false } }

/-- A resume starts (R344). -/
def Dev.beginResume (d : Dev) : Dev :=
  { d with power := { d.power with resume := 0, wakeDue := false } }.wr POWER_STATUS_STATE 4

/-- A pass-through operation that STANDBY abandons ends as a failure of the NVM (R343). DEDUCED: log entry 50. -/
def Dev.dropPt (d : Dev) : Dev :=
  if d.is NVM_PT_STATUS_STATE then
    ((d.abandonPt).wr NVM_PT_STATUS_STATE 0).wr NVM_PT_STATUS_RESULT 5
  else d

/-- STANDBY_ENTRY_COMPLETE (R343 steps 3 to 5). DEDUCED: log entry 50. -/
def Dev.standbyEntryComplete (d : Dev) : Dev :=
  if !d.alive || !d.power.entering then d
  else
    let c := d.coarse
    let d := (d.dropPt).wr POWER_STATUS_STATE 3
    let d := ((d.excSafeAll).spForceAll).totLow.portsDown
    let d := d.closeGate 12
    let d := { d with time := { d.time with coarse := c, fifths := 0, gap := 0, step := 0, planned := false, refEdges := false },
                      power := { d.power with entering := false, c0 := c } }
    let d := d |>.wr TB_STATUS_REFOUT_SRC 0 |>.wr TB_STATUS_SPLL_LOCK 0 |>.wr TB_STATUS_FPLL_LOCK 0 |>.wr TB_STATUS_FCK_SRC 1
    if d.power.wakeDue then d.beginResume else d

/-- Is POWER_CMD 0x45 accepted (R341)? -/
def Dev.mayResume (d : Dev) : Bool := d.alive && (d.mode == 3 || d.power.entering)

/-- RESUME (R344): POWER_CMD 0x45. While STANDBY is being entered, the resume follows the entry. -/
def Dev.resume (d : Dev) : Dev :=
  if !d.mayResume then d
  else if d.mode = 3 then d.beginResume
  else { d with power := { d.power with wakeDue := true } }

/-- WAKE (R341): a rising edge of WAKE. DEDUCED: log entry 48. -/
def Dev.wake (d : Dev) : Dev := if d.power.good then (d.wr PIN_LEVEL_WAKE 1).resume else d

/-- The steps of R344 that a step waits for. DEDUCED: log entry 50. -/
def resumeNeeds (n : Nat) : List Nat := [[], [], [1], [2], [3], [4], [4], [2], [5, 6, 7]].getD n []

/-- Step 4 of a resume (R344): SPLL has locked on the crystal, and SCK opens at C_0 + ⌊K × 24,414.0625⌋ for K KCK cycles; every context tunes in
isolation and the monitors are tested. It is the end of a switch of R58 (R58 step 10; chapter 3, coincidences); the gap in FCK that RELOCK_GAP
shows of it is open (log entry 5). -/
def Dev.reopenAfter (d : Dev) (k : Nat) : Dev :=
  let d := { d with time := { d.time with coarse := d.power.c0 } }
  let d := d.inc RELOCK_COUNT_COUNT |>.wr RELOCK_GAP_G d.openValue |>.nextFree.wr TB_EVENT_RELOCK 1
  let d := (d.wr TB_STATUS_SPLL_LOCK 1).wr TB_STATUS_SOURCE d.crystalSource
  let d := (d.reopen (k * 390625 / 16)).bootTuning
  d.each (List.range 8) (fun d m =>
    let st := d.rd (WM_STATUS_STATE m)
    if d.is (WM_CFG_EN m) && st != 0 && st != 5 then (if st = 1 then d.settleMonitor m true else d.beginTest m 2) else d)

/-- The choir after a resume (R250, R344): LISTEN; a choir of one keeps the cantor role (R232). -/
def Dev.relisten (d : Dev) : Dev :=
  let d := d.putChoir { d.choir with inbox := [], theta := none, run := 0, bad := 0, time := none, offers := [], ops := [], own := none,
                                     realignDue := false, realigning := false, resetAt := none }
  let d := d.wr CHOIR_STATUS_HOLDOVER 0
  if d.choirState = 5 then d
  else d.wr CHOIR_STATUS_STATE (if d.deviceCount ≤ 1 then 4 else 0)

/-- Step 8 of a resume (R344). DEDUCED: log entry 59. -/
def Dev.finishResume (d : Dev) : Dev :=
  let d := if d.rd TB_STATUS_OCXO_STATE = 0 then d else d.ocxoWait
  let d := if d.is CFG_STATUS_CONFIGURED then d.relisten.planSwitch else d
  let d := if d.needsOcxo then d.followOcxo else d
  let d := if d.is CFG_STATUS_CONFIGURED then d.startTrack else d
  let d := ((d.wr RESET_CAUSE_RESUME 1).inc POWER_STATUS_RESUMES).wr POWER_STATUS_STATE (d.rd POWER_STATUS_PREV)
  let d := d.followTrips.showRefOut.followOwners
  if d.mode = 1 then d.toRun else d

/-- May resume step `n` complete? DEDUCED: log entry 50. -/
def Dev.mayResumeStep (d : Dev) (n : Nat) : Bool :=
  d.alive && d.mode == 4 && decide (1 ≤ n) && decide (n ≤ 8) && !d.power.resume.testBit n && (resumeNeeds n).all d.power.resume.testBit &&
    (n != 4 || d.time.step == 8) && (n != 5 || d.tuningsEnded) && (n != 6 || d.testsEnded)

/-- RESUME_STEP_COMPLETE (R344): `k` is the KCK count of step 4. -/
def Dev.resumeStepComplete (n k : Nat) (d : Dev) : Dev :=
  if !d.mayResumeStep n then d
  else
    let d := { d with power := { d.power with resume := d.power.resume ||| 2 ^ n } }
    if n = 2 then (d.wr TB_STATUS_FPLL_LOCK 1).wr TB_STATUS_FCK_SRC 0
    else if n = 3 then { d with time := { d.time with step := 5, target := d.crystalSource, repeated := false } }
    else if n = 4 then d.reopenAfter k
    else if n = 8 then d.finishResume
    else d

/-- DIE_TEMP_MEASURE (R368): the junction temperature as a 16-bit signed value in 1/16 °C. -/
def Dev.dieTempMeasure (t : Nat) (d : Dev) : Dev :=
  if !d.alive || d.mode == 3 then d
  else
    let d := d.wr DIE_TEMP_TEMP t
    if toSigned 16 (d.rd DIE_TEMP_TMAX) < toSigned 16 t then d.wr DIE_TEMP_TMAX t else d

/-- Is FAULT_CMD 0x21 accepted (R332)? -/
def Dev.mayReadmit (d : Dev) (src : Nat) : Bool :=
  d.alive && hasStrikes src && d.isRetired src && !(decide (0x30 ≤ src) && decide (src < 0x40)) && src != 0x50 && src != 0x51

/-- The strike record starts afresh, on probation (R330, R332). -/
def Dev.onProbation (d : Dev) (src : Nat) : Dev :=
  d |>.wr (STRIKE_STRIKES src) 0 |>.wr (STRIKE_DECAY_COUNT src) 0 |>.wr (STRIKE_RETIRED src) 0 |>.wr (STRIKE_PROBATION src) 1
    |>.wr (STRIKE_PROB_LEFT src) (d.rd STRIKE_CFG_PROBATION)

/-- A re-admitted voice (R86, R100, R129). -/
def Dev.readmitVoice (d : Dev) (n : Nat) : Dev :=
  let d := if d.rd (VOICE_STATUS_STATE n) = 3 then d.startVoice n 4 else d
  (d.readmitTuning n).reviveExcs.followTach

/-- A re-admitted lane falls to DETECT (R329). -/
def Dev.readmitLane (d : Dev) (i : Nat) : Dev :=
  ((d.wr (laneState (i / 2) (i % 2)) 0).showPort (i / 2)).readmitTuning (16 + i)

/-- The state that R329 names for a re-admitted source. -/
def Dev.readmitEffect (d : Dev) (src : Nat) : Dev :=
  if src < 0x10 then d.readmitVoice src
  else if src < 0x14 then d.readmitLane (src - 0x10)
  else if src < 0x20 then (if d.is (WM_CFG_EN (src - 0x18)) then d.settleMonitor (src - 0x18) true else d.monitorOff (src - 0x18))
  else if src = srcOcxo then (d.wr TB_STATUS_OCXO_STATE 0).followOcxo
  else if src = srcSpll then d.planSwitch
  else if d.choirState = 5 ∧ d.choir.outWhy ≠ 1 ∧ d.choir.outWhy ≠ 2 then (d.putChoir { d.choir with outWhy := 0 }).wr CHOIR_STATUS_STATE 0
  else d

/-- RE_ADMIT (R332): FAULT_CMD 0x21. Every enabled monitor is tested (R123). -/
def Dev.reAdmit (src : Nat) (d : Dev) : Dev := if d.mayReadmit src then ((d.onProbation src).readmitEffect src).testMonitors else d

/-- The pipeline meets an uncorrectable word of its state (R334): its periods under way are rests with reason 11, and it starts again.
DEDUCED: log entry 37. -/
def Dev.upsetPipeline (d : Dev) : Dev :=
  let spoil := fun (j : PipeJob) =>
    { j with extra := j.extra ||| 2 ^ 11, own := j.own.map (fun s => restSum (s.causes ||| 2 ^ 11)) }
  let jobs := d.pipe.jobs.map spoil
  let d := if jobs = [] then d.restTimer d.pipeTimer 11 else d
  let d := d.startPipeline
  d.putPipe { d.pipe with jobs := jobs }

/-- The fit context of a voice meets an uncorrectable word (R334): its sums are cleared, and the period is a rest with reason 11, also for the
analyser instances that use the voice (R164). -/
def Dev.upsetVoice (d : Dev) (v : Nat) : Dev :=
  let x := d.fitVoice v
  let d := (d.raiseEpoch 1).putFitVoice v { FitVoice.fresh with base := x.base, few := x.few, upset := true }
  d.each (List.range 4) (fun d a =>
    if (d.anaVoices a).contains v then d.putAna a { d.ana a with causes := (d.ana a).causes ||| 2 ^ 11 } else d)

/-- What an uncorrectable word does to its reader (R334): `user` is 1 for the pipeline's state, 2 for the track tables, 3 and 4 for the replay
buffers of port A and B, 5 to 20 for the fit contexts of the voices, 21 to 28 for those of the pairs, and 29 to 32 for the analyser.
DEDUCED: log entry 53. -/
def Dev.upsetUser (d : Dev) (user : Nat) : Dev :=
  if user = 1 then d.upsetPipeline
  else if user = 2 then d.startTrack
  else if user = 3 ∨ user = 4 then d.retrainAll (user - 3)
  else if 5 ≤ user ∧ user < 21 then d.upsetVoice (user - 5)
  else if 21 ≤ user ∧ user < 29 then (d.raiseEpoch 1).putFitPair (user - 21) { FitPair.fresh with few := (d.fitPair (user - 21)).few, upset := true }
  else if 29 ≤ user ∧ user < 33 then
    d.putAna (user - 29) { d.ana (user - 29) with causes := (d.ana (user - 29)).causes ||| 2 ^ 11, acc := AnaAcc.fresh }
  else d

/-- The bank that holds the state of a reader (R16). -/
def userBank (user : Nat) : Nat := if user < 5 then 7 else 6

/-- A block reads the words of its state for its work (R17, R334): `upsets` are the errors that it finds there. DESIGN CHOICE: log entry 24. -/
def Dev.readState (user : Nat) (upsets : List (Nat × Nat)) (d : Dev) : Dev :=
  if !d.alive then d
  else
    let l := upsets.filter (fun p => sramBank p.1 == userBank user)
    let d := d.meetUpsets l
    if l.any (fun p => p.2 == 2) then d.upsetUser user else d

/-- Is a row of a bank being copied? The scrubber pauses in that bank. -/
def Dev.copyingIn (d : Dev) (bank : Nat) : Bool := d.sram.copying.any (fun p => p.1 / 512 == bank)

/-- SCRUB (R17, R334): the scrubber reads a word; `outcome` is 1 for a corrected error, 2 for an uncorrectable word of `user`, which is a
reader only in the bank that holds its state (R16).
DESIGN CHOICE: log entry 24. -/
def Dev.scrub (bank row column outcome user : Nat) (d : Dev) : Dev :=
  if !d.alive || d.mode == 3 || d.copyingIn bank then d
  else
    let w := (bank * 512 + row) * 64 + column
    let d := if outcome = 1 then d.scrubCorrected w else if outcome = 2 then
        (let d := d.uncorrectable w
         if userBank user = bank then d.upsetUser user else d)
      else d
    if row = 511 ∧ column = 63 then d.endPass bank else d

/-- A CHOIR record that this device originates is sent to all (R314). -/
def Dev.sendRecord (d : Dev) (b : List Nat) : Dev :=
  if b.getD 2 0 = 11 ∧ b.getD 3 0 = d.addr then d.send 4 0 true b else d

/-- Write a record, and send it if it is one of the choir. -/
def Dev.recordNext (d : Dev) (outcome : Nat) : Dev :=
  let r := d.writeRecord outcome
  r.1.sendRecord r.2

/-- LOG_RECORD_WRITE (R312). DEDUCED: log entry 46. -/
def Dev.logRecordWrite (outcome : Nat) (d : Dev) : Dev := if d.logReady then d.recordNext outcome else d

/-- NVM_RETRY (R320): the operation that failed is tried again. -/
def Dev.nvmRetry (outcome : Nat) (d : Dev) : Dev :=
  if !d.nvmReady || !d.is LOG_STATUS_NVM_HOLD then d
  else if d.logs.retry = 1 then d.recordNext outcome
  else if d.logs.retry = 2 then d.totPhase1 outcome
  else if d.logs.retry = 3 then d.totPhase2 outcome
  else d.collectNext outcome

/-- LOAD_RECORD (R322): LOG_READ_CMD loads the next journal record. -/
def Dev.loadRecord (d : Dev) : Dev := d.beginLoad 1

/-- LOAD_AUDIT_RECORD (R322). -/
def Dev.loadAuditRecord (d : Dev) : Dev := d.beginLoad 2

end Sys2Proof.Machine
end

