-- ==== Sys2Proof/Machine/PassThrough.lean ====
section
/-! DEFINITION.
The NVM pass-through (R299 to R301) and the TAP (R302, R303).
-/

namespace Sys2Proof.Machine

open Reg

/-- The size of the NVM, from SFDP. -/
def Dev.nvmSize (d : Dev) : Nat := 2 ^ d.rd NVM_INFO_SIZE_LOG2

/-- The slot that a stretch of the NVM meets, if any. -/
def meetsSlot (s a n : Nat) : Bool := decide (a < slotBase s + slotSize) && decide (slotBase s < a + n)

/-- Is a slot active? -/
def Dev.slotActive (d : Dev) (s : Nat) : Bool := d.is CFG_STATUS_CONFIGURED && d.rd CFG_STATUS_ACTIVE_SLOT == s

/-- Does a stretch meet the log region? -/
def Dev.meetsLog (d : Dev) (a n : Nat) : Bool :=
  decide (a < d.logs.base + d.logs.size) && decide (d.logs.base < a + n) && decide (0 < d.logs.size)

/-- Does a stretch meet the COMMITTED or SUPERSEDED words of a slot (R299)? -/
def meetsMarks (s a n : Nat) : Bool := decide (a < slotBase s + 0x8C) && decide (slotBase s + 0x84 < a + n)

/-- The regions of R299 for PROGRAM and ERASE of a stretch: the RESULT of a refusal, 0 when it is allowed. -/
def Dev.regionCode (d : Dev) (a n : Nat) : Nat :=
  let erase := decide (n = 4096)
  let refused := fun (s : Nat) =>
    meetsSlot s a n && (d.slotActive s || meetsMarks s a n || (erase && decide (a = slotBase s)))
  if refused 0 || refused 1 || d.meetsLog a n then 1
  else if meetsSlot 0 a n || meetsSlot 1 a n then (if d.rd APPLY_STATUS_STATE = 0 then 0 else 3)
  else if d.is PIN_LEVEL_SEAL_OPEN then 0 else 2

/-- The slot that SLOT_ERASE erases (R300): the inactive one, or with no active image that which contains NVM_PT_ADDR. -/
def Dev.slotToErase (d : Dev) : Option Nat :=
  let a := d.rd NVM_PT_ADDR
  if d.is CFG_STATUS_CONFIGURED then some (1 - d.rd CFG_STATUS_ACTIVE_SLOT)
  else if meetsSlot 0 a 1 then some 0 else if meetsSlot 1 a 1 then some 1 else none

/-- The RESULT with which a pass-through operation is refused, 0 when it starts (R299, R300). DEDUCED: log entry 19. -/
def Dev.ptRefusal (d : Dev) (code : Nat) : Nat :=
  let a := d.rd NVM_PT_ADDR
  let n := d.rd NVM_PT_LEN
  if code = 0x34 then (if d.slotToErase = none then 4 else if d.rd APPLY_STATUS_STATE = 0 then 0 else 3)
  else if code = 0x33 then (if a % 4096 = 0 ∧ a + 4096 ≤ d.nvmSize then d.regionCode a 4096 else 4)
  else if n = 0 ∨ 256 < n ∨ d.nvmSize < a + n then 4
  else if code = 0x31 then 0
  else if a / 256 = (a + n - 1) / 256 then d.regionCode a n else 4

/-- Does a pass-through operation start: alive in RUN or HOLD, none under way, and no condition unmet (R301)? -/
def Dev.ptStarts (d : Dev) (code : Nat) : Bool :=
  d.alive && !d.is NVM_PT_STATUS_STATE && (d.mode == 1 || d.mode == 2) && d.ptRefusal code == 0

/-- A pass-through operation is asked for (R301): it starts, or RESULT records the refusal. -/
def Dev.startPt (d : Dev) (code : Nat) : Dev :=
  if !d.alive || !(d.mode == 1 || d.mode == 2) || d.is NVM_PT_STATUS_STATE then d
  else
    let r := d.ptRefusal code
    if r ≠ 0 then d.wr NVM_PT_STATUS_RESULT r
    else
      let a := if code = 0x34 then slotBase (d.slotToErase.getD 0) else d.rd NVM_PT_ADDR
      { d with host := { d.host with ptCode := code, ptAddr := a, ptLen := d.rd NVM_PT_LEN } }.wr NVM_PT_STATUS_STATE 1

/-- PT_READ (R299). -/
def Dev.ptRead (d : Dev) : Dev := d.startPt 0x31

/-- PT_PROGRAM (R299). -/
def Dev.ptProgram (d : Dev) : Dev := d.startPt 0x32

/-- PT_ERASE (R299). -/
def Dev.ptErase (d : Dev) : Dev := d.startPt 0x33

/-- SLOT_ERASE (R300). -/
def Dev.slotErase (d : Dev) : Dev := d.startPt 0x34

/-- Put a byte into NVM_PT_BUF. -/
def Dev.putPtByte (d : Dev) (i b : Nat) : Dev :=
  let f := NVM_PT_BUF_DATA (i / 4)
  let w := d.rd f
  d.wr f (w - w / 256 ^ (i % 4) % 256 * 256 ^ (i % 4) + b * 256 ^ (i % 4))

/-- The bytes that a program takes from NVM_PT_BUF. -/
def Dev.ptBytes (d : Dev) : List Nat := (List.range d.host.ptLen).map (fun i => d.rd (NVM_PT_BUF_DATA (i / 4)) / 256 ^ (i % 4) % 256)

/-- The slot whose first byte is at an address. -/
def slotAt (a : Nat) : Nat := if a = slotBase 0 then 0 else 1

/-- What a completed operation has done (R299, R300). A slot erase ends the retirement of its slot. -/
def Dev.ptEffect (d : Dev) : Dev :=
  let a := d.host.ptAddr
  if d.host.ptCode = 0x31 then d.each (d.nvmBytes a d.host.ptLen).zipIdx (fun d p => d.putPtByte p.2 p.1)
  else if d.host.ptCode = 0x32 then d.program a d.ptBytes
  else if d.host.ptCode = 0x33 then d.eraseSector a
  else
    let d := d.each (List.range 48) (fun d i => d.eraseSector (a + i * 4096))
    let src := 0x50 + slotAt a
    let d := d |>.wr (STRIKE_STRIKES src) 0 |>.wr (STRIKE_RETIRED src) 0 |>.wr (slotFld (slotAt a)) 0
    d

/-- The operation ends: STATE is IDLE, OPS rises, and the slot states follow the NVM. -/
def Dev.endPt (d : Dev) (result : Nat) : Dev :=
  let d := (d.wr NVM_PT_STATUS_STATE 0).wr NVM_PT_STATUS_RESULT result
  (if result = 0 then d.step1 NVM_PT_STATUS_OPS else d).showSlots

/-- An operation fails (R301): RESULT 5 and fault 0x0906; of a READ the buffer keeps what it held. -/
def Dev.failPt (d : Dev) : Dev := (d.spoilPt.endPt 5).fault 0x0906 transient [srcDevice]

/-- Is a pass-through operation under way that can end? -/
def Dev.ptRuns (d : Dev) : Bool := d.alive && d.is NVM_PT_STATUS_STATE && d.mode != 3 && !d.is TB_STATUS_FCK_SRC

/-- PT_DONE (R301). -/
def Dev.ptDone (failed : Bool) (d : Dev) : Dev :=
  if !d.ptRuns then d else if failed then d.failPt else d.ptEffect.endPt 0

/-- PT_TIMEOUT (R301): a program, an erase or a slot erase has not finished in its time. -/
def Dev.ptTimeout (d : Dev) : Dev := if d.ptRuns && d.host.ptCode != 0x31 then d.failPt else d

/-- Does an instruction hold the functional logic in reset (R302)? -/
def tapHolds (c : Nat) : Bool := c == 0 || c == 3 || c == 4

/-- Is an instruction private (R303)? -/
def tapPrivate (c : Nat) : Bool := decide (4 < c) && c != 31

/-- The instruction register leaves the instruction in force (R302, R303): after one that held the logic in reset, and after a private one, a PIN
reset follows. -/
def Dev.leaveTap (d : Dev) : Dev :=
  let c := d.host.tap
  let d := { d with host := { d.host with tap := 31 } }
  if tapHolds c || tapPrivate c then
    let d := { d with power := { d.power with jtagHeld := false } }
    let d := if d.power.testHeld then d else (d.reset 2).wr JTAG_STATUS_JTAG_RESET 1
    if tapPrivate c then d.wr JTAG_STATUS_PRIVATE_USED 1 else d
  else d

/-- JTAG_INSTRUCTION_LEAVE (R302). -/
def Dev.jtagInstructionLeave (d : Dev) : Dev := if d.power.good then d.leaveTap else d

/-- A public instruction is loaded that has no effect on the device. -/
def Dev.loadPublic (c : Nat) (d : Dev) : Dev :=
  if !d.power.good then d
  else
    let d := d.leaveTap
    { d with host := { d.host with tap := c } }

/-- An instruction is loaded that holds the functional logic in reset as RESET_N does (R302); its log record waits until the logic runs
again. -/
def Dev.loadHolding (c : Nat) (d : Dev) : Dev :=
  if !d.power.good then d
  else
    let o := d.leaveTap.abandonPt
    let d := (o.afterReset 2).showLevels o
    { d with power := { d.power with jtagHeld := true }, host := { d.host with tap := c, tapLog := d.host.tapLog ++ [c] } }

/-- EXTEST. -/
def Dev.extest (d : Dev) : Dev := d.loadHolding 0

/-- The 32 bits that the TAP shifts out while IDCODE is loaded (R302, R374). -/
def Dev.idcodeBits (d : Dev) : Nat :=
  d.rd SILICON_REV_CODE * 2 ^ 28 + d.rd DEVICE_ID_DEVICE * 2 ^ 12 + d.rd DEVICE_ID_MANUF * 2 + 1

/-- IDCODE. -/
def Dev.idcode (d : Dev) : Dev := d.loadPublic 1

/-- SAMPLE/PRELOAD. -/
def Dev.samplePreload (d : Dev) : Dev := d.loadPublic 2

/-- CLAMP. -/
def Dev.clamp (d : Dev) : Dev := d.loadHolding 3

/-- HIGHZ. -/
def Dev.highz (d : Dev) : Dev := d.loadHolding 4

/-- BYPASS. -/
def Dev.bypass (d : Dev) : Dev := d.loadPublic 31

/-- Every bank of the SRAM and the tuning storage is cleared (R303). -/
def Dev.clearMemories (d : Dev) : Dev :=
  let rings := d.rings.map (fun (p : Nat × Ring) => (p.1, { p.2 with cells := [] }))
  let tune := d.tune.map (fun (p : Nat × Tune) => (p.1, { p.2 with hist := [], table := [], cand := [] }))
  let anas := d.anas.map (fun (p : Nat × Ana) => (p.1, { p.2 with acc := AnaAcc.fresh, shown := [] }))
  let ports := d.choir.ports.map (fun (p : Nat × PortSt) => (p.1, { p.2 with held := [] }))
  let d := { d with rings := rings, tune := tune, anas := anas, fitV := [], fitP := [], allan := [], cap := { d.cap with buf := [] },
                    pipe := Pipe.fresh, track := TrackSt.fresh, choir := { d.choir with ports := ports },
                    sram := { d.sram with bad := [] } }
  let d := d.each (List.range 64) (fun d w => (d.wr (WEAK_MAP_SEG w) 0).wr (WEAK_MAP_VALID w) 0)
  d.each [0, 1] (fun d p => d.wr (LINK_STATE_REPLAY_FILL p) 0)

/-- PRIVATE_INSTRUCTION (R303): refused with the seal intact; with the seal open it takes effect after the safe state, the clearing and the log
record. While the logic is held in reset there is nothing to stop. -/
def Dev.privateInstruction (c : Nat) (d : Dev) : Dev :=
  if !d.power.good || !tapPrivate c then d
  else
    let d := d.leaveTap
    if !d.is PIN_LEVEL_SEAL_OPEN then { d with host := { d.host with tap := 31 } }.inc JTAG_STATUS_REFUSED
    else
      let d := if d.alive then d.enterSafe 4 0 else d
      let d := d.clearMemories.log 10 [c, 1]
      { d with host := { d.host with tap := c } }

end Sys2Proof.Machine
end

