-- ==== Sys2Proof/Machine/Writer.lean ====
section
/-! DEFINITION.
RING_WRITE (R84): the ring writer's choice among the waiting entries, and the voice ring entry (R73 to R76).
-/

namespace Sys2Proof.Machine

open Reg

/-- What the writer may take of a voice: the directly written marker that comes before the FIFO head (R84), or the head, unless
an entry was taken from the FIFO less than 4 FCK ago. The Boolean marks a direct marker. -/
def Dev.offered (d : Dev) (n : Nat) : Option (Bool × Entry) :=
  let v := d.voice n
  let rested := match v.taken with | some c => decide (c + 4 ≤ d.writer.cycle) | none => true
  match v.direct, v.fifo with
  | m :: _, [] => some (true, m)
  | m :: _, h :: _ => if m.ext ≤ h.ext then some (true, m) else if rested then some (false, h) else none
  | [], h :: _ => if rested then some (false, h) else none
  | [], [] => none

/-- The better of two offers: the smaller extended time, and with equal times the lower voice. -/
def betterOffer (best : Option (Nat × Bool × Entry)) (n : Nat) (o : Option (Bool × Entry)) : Option (Nat × Bool × Entry) :=
  match best, o with
  | b, none => b
  | none, some (dir, e) => some (n, dir, e)
  | some (m, bd, be), some (dir, e) => if e.ext < be.ext then some (n, dir, e) else some (m, bd, be)

/-- The entry the writer selects among the voices (R84). -/
def Dev.selectVoice (d : Dev) : Option (Nat × Bool × Entry) :=
  (List.range 16).foldl (fun b n => betterOffer b n (d.offered n)) none

/-- A voice ring entry (R73). -/
def voiceWord (n seq : Nat) (e : Entry) : Nat :=
  e.ext % coarseMod * 1024 + e.fine + e.evcnt % 2 ^ 32 * 2 ^ 64 + n * 2 ^ 96 + e.edge * 2 ^ 100 + e.flags * 2 ^ 101 + seq * 2 ^ 112

/-- An entry is offered to its voice's ring (R76): it takes its sequence number, which START resets, and goes to the ring and to the
capture unit. -/
def Dev.offerVoice (d : Dev) (n take : Nat) (e : Entry) : Dev :=
  let v := d.voice n
  let seq := if e.flags.testBit 9 then 0 else v.seq
  let d := d.putVoice n { v with seq := (seq + 1) % 65536 }
  let w := voiceWord n seq e
  (d.capture n take w).writeEntry n w

/-- Take an entry of voice `n` (R84, R89): the readers of the stamp stream have it before the ring. A BOUND marker reaches the ring
only with BOUND_LOG (R75). -/
def Dev.takeVoice (d : Dev) (n : Nat) (direct : Bool) (e : Entry) : Dev :=
  let v := d.voice n
  let v := if direct then { v with direct := v.direct.tail } else { v with fifo := v.fifo.tail, taken := some d.writer.cycle }
  let d := if direct then d.putVoice n v else (d.putVoice n v).drainFit n e.id
  let take := d.cap.takes
  let d := d.putCap { d.cap with takes := take + 1 }
  let d := d.feedAnas n take e direct
  if e.flags.testBit 7 ∧ !d.is (VOICE_CTRL_BOUND_LOG n) then d else d.offerVoice n take e

/-- Must the writer take an entry of RING_16 to RING_23 in this FCK (R84)? -/
def Dev.othersTurn (d : Dev) (e : WEntry) : Bool :=
  (List.range 16).all (fun n => decide ((d.voice n).fifo.length < 16)) || decide (e.since + 8 ≤ d.writer.cycle)

/-- RING_WRITE (R84): one FCK of the ring writer. The entries that wait for RING_16 to RING_23 are taken in the order they were offered.
DESIGN CHOICE: log entries 1 and 71. DEDUCED: log entry 43. -/
def Dev.ringWrite (d : Dev) : Dev :=
  if !d.alive || d.mode == 3 then d
  else
    let d : Dev := { d with writer := { d.writer with cycle := d.writer.cycle + 1 } }
    let voices := fun (d : Dev) =>
      match d.selectVoice with
      | some (n, dir, e) => d.takeVoice n dir e
      | none => d
    match d.writer.waiting with
    | w :: rest => if d.othersTurn w then d.writeWaiting w rest else voices d
    | [] => voices d

end Sys2Proof.Machine
end

