-- ==== Sys2Proof/Machine/HostView.lean ====
section
/-! DEFINITION.
What the host sees: the address space of R369, the value of a word, and the snapshots that a read takes (R372).
-/

namespace Sys2Proof.Machine

open Reg

/-- Where an address lies in a row of the map: the indices of the register and the word in it. -/
def RegRow.locate (r : RegRow) (a : Nat) : Option (Nat × Nat × Nat) :=
  (List.range r.count).findSome? (fun i => (List.range r.count2).findSome? (fun j =>
    let b := r.base + i * r.stride + j * r.stride2
    if b ≤ a ∧ a < b + 4 * r.words then some (i, j, (a - b) / 4) else none))

/-- The fields of the register at an address, none where no register lies. -/
def fieldsAt (a : Nat) : Option (List Fld) :=
  regRows.findSome? (fun r => (r.locate a).map (fun p => r.fields p.1 p.2.1))

/-- How many bits of a field lie below those in the word at an address. -/
def Fld.shiftAt (f : Fld) (a : Nat) : Nat := if a ≤ f.word then 0 else (a - f.word) * 8 - f.key % 32

/-- The lowest bit of a field in the word at an address. -/
def Fld.lowAt (f : Fld) (a : Nat) : Nat := if a ≤ f.word then f.key % 32 else 0

/-- How many bits of a field lie in the word at an address. -/
def Fld.widthAt (f : Fld) (a : Nat) : Nat := min (f.width - f.shiftAt a) (32 - f.lowAt a)

/-- The bits of a field's value in the word at an address. -/
def Fld.partAt (f : Fld) (a v : Nat) : Nat := v / 2 ^ f.shiftAt a % 2 ^ f.widthAt a

/-- The bits of a word that belong to a field. -/
def Fld.ofWord (f : Fld) (a w : Nat) : Nat := w / 2 ^ f.lowAt a % 2 ^ f.widthAt a

/-- A field's value with its bits in the word at an address replaced. -/
def Fld.withPart (f : Fld) (a v x : Nat) : Nat := v - f.partAt a v * 2 ^ f.shiftAt a + x * 2 ^ f.shiftAt a

/-- HIRQ_N is asserted (R297): the levels of HOST_IRQ_PEND that HOST_IRQ_EN enables, once boot step 3 has completed. -/
def Dev.irqPend (d : Dev) : List Bool :=
  [d.is (RING_FILL_WORDS 19), d.is (RING_STATUS_OVERWRITTEN 19) || d.is (RING_STATUS_DROPPED 19), d.is (RING_FILL_WORDS 23),
   d.is TB_STATUS_FCK_SRC]

/-- HIRQ_N. -/
def Dev.irq (d : Dev) : Bool :=
  d.booted 3 && d.irqPend.zipIdx.any (fun p => p.1 && (d.rd HOST_IRQ_EN_EN).testBit p.2)

/-- BOOTING of the STATUS byte (R293): a boot, a STANDBY with its entry, or a resume. -/
def Dev.bootingBit (d : Dev) : Bool := d.mode == 0 || d.mode == 3 || d.mode == 4 || d.power.entering

/-- The fields of the identity and status block that mirror others (R373), by key. -/
def Dev.mirror (d : Dev) (k : Nat) : Option Nat :=
  if k = SERIAL.key then some Config.serial.toNat
  else if k = DEVICE_STATUS_CONFIGURED.key then some (d.rd CFG_STATUS_CONFIGURED)
  else if k = DEVICE_STATUS_POWER.key then some d.mode
  else if k = DEVICE_STATUS_RCK_MODE.key then some (d.rd TB_STATUS_FCK_SRC)
  else if k = DEVICE_STATUS_SEAL_OPEN.key then some (d.rd PIN_LEVEL_SEAL_OPEN)
  else if k = DEVICE_STATUS_ERROR.key then some (d.rd LR_STATUS_ERROR)
  else if k = DEVICE_STATUS_IRQ.key then some (bit d.irq)
  else if k = DEVICE_STATUS_CHOIR_STATE.key then some (d.rd CHOIR_STATUS_STATE)
  else if k = DEVICE_STATUS_NVM_HOLD.key then some (d.rd LOG_STATUS_NVM_HOLD)
  else if k = DEVICE_STATUS_AUDIT_FULL.key then some (bit (d.rd AUDIT_USED == d.rd AUDIT_CAP))
  else if k = DEVICE_STATUS_BOOTING.key then some (bit d.bootingBit)
  else if k = DEVICE_STATUS_ADDR.key then some (d.rd STRAP_STATUS_ADDR)
  else none

/-- The fields of the host port that show levels. DEDUCED: log entry 50. -/
def Dev.portLevel (d : Dev) (k : Nat) : Option Nat :=
  if k = HOST_STATUS_RCK_MODE.key then some (d.rd TB_STATUS_FCK_SRC)
  else if k = HOST_STATUS_BOOTING.key then some (bit d.bootingBit)
  else if k = HOST_IRQ_PEND_NOTIFY.key then some (bit (d.irqPend.getD 0 false))
  else if k = HOST_IRQ_PEND_NOTIFY_LOST.key then some (bit (d.irqPend.getD 1 false))
  else if k = HOST_IRQ_PEND_FAULT.key then some (bit (d.irqPend.getD 2 false))
  else if k = HOST_IRQ_PEND_RCK_MODE.key then some (bit (d.irqPend.getD 3 false))
  else none

/-- A value that is shown only with the seal open (R201, R228). -/
def Dev.unsealed (d : Dev) (v : Nat) : Nat := if d.is PIN_LEVEL_SEAL_OPEN then v else 0

/-- The head point at present (R217). -/
def Dev.headNow (d : Dev) : Nat := if d.placed then d.headAt (d.ext * 65536) else d.rd POS_HEAD

/-- PROV in counts of TOT_D as a signed number of 64 bits (R228). -/
def Dev.provCount (d : Dev) : Nat := (BitVec.ofInt 64 (d.massCount (d.rdF PROV)).1).toNat

/-- Other fields that are not held as they are shown: times, ages, levels and the values that the seal hides. -/
def Dev.derived (d : Dev) (f : Fld) : Option Nat :=
  if f.key = TIME_NOW_TIME.key then some d.timeNow
  else if f.key = WM_LEVEL_LEVEL.key then some d.wmLevels
  else if f.key = CAP_FREE_SEGS.key then some d.capFree
  else if f.key = CAL_NOW_CAL.key then some d.calendar
  else if f.key = CAL_SET_CAL.key then some d.calSet
  else if f.key = STRAP_STATUS_MISMATCH.key then some (bit d.mismatch)
  else if f.key = KEY_HASH.key then some d.fuses.keyHash
  else if f.key = FUSE_STATUS_KEY_SET.key then some (bit d.fuses.keySet)
  else if f.key = POS_HEAD.key then some d.headNow
  else if f.key = POS_BRIDGE.key then some (if d.placed then d.bridgeOf d.headNow else d.rd POS_BRIDGE)
  else if f.key = PROV.key then some d.provCount
  else if f.key = RES_RAW.key then some (d.unsealed (d.rd f))
  else if DIAG_S_S.key ≤ f.key ∧ f.key < (DIAG_V_V 8).key then some (d.unsealed (d.rd f))
  else if (TUNE_STATUS_STATE 0).key ≤ f.key ∧ f.key < (TUNE_STATUS_STATE 20).key ∧ f.key % 1024 = (TUNE_AGE_MS 0).key % 1024 then
    some (d.tableAge ((f.key - (TUNE_STATUS_STATE 0).key) / 1024))
  else if (RING_CFG_SIZE 0).key ≤ f.key ∧ f.key < (RING_CFG_SIZE 24).key ∧ f.key % 131072 = (RING_BASE_INDEX 0).key % 131072 then
    some (d.ringBase ((f.key - (RING_CFG_SIZE 0).key) / 131072))
  else none

/-- The value of a field as the host sees it in this FCK. -/
def Dev.visible (d : Dev) (f : Fld) : Nat :=
  if f.acc = .cmd then 0
  else ((d.mirror f.key).orElse (fun _ => (d.portLevel f.key).orElse (fun _ => d.derived f))).getD (d.rd f)

/-- The 32 bits of a word as its fields stand at present. -/
def Dev.presentWord (d : Dev) (fs : List Fld) (a : Nat) : Nat :=
  (fs.map (fun f => f.partAt a (d.visible f) * 2 ^ f.lowAt a)).sum

/-- Does the word at an address show a snapshot: a higher word of a wide field (R4), of a result block (R164), or of LEGAL_RESULT
(R195)? -/
def fromSnapshot (fs : List Fld) (a : Nat) : Bool :=
  fs.any (fun f => decide (f.word < a)) || (decide (0x7404 ≤ a) && decide (a < 0x7410)) ||
    (decide (0x6100 ≤ a) && decide (a < 0x6300) && decide (0x44 ≤ a % 0x80))

/-- The ring whose data window holds an address. -/
def ringWindow (a : Nat) : Option Nat :=
  if 0x100000 ≤ a ∧ a < 0x118000 ∧ 0x800 ≤ a % 0x1000 then some ((a - 0x100000) / 0x1000) else none

/-- Is an address one of the windows and buffers that hold no registers? -/
def inWindow (a : Nat) : Bool :=
  (ringWindow a).isSome || (decide (0x300000 ≤ a) && decide (a < 0x400000)) || (decide (0x3800 ≤ a) && decide (a < 0x4000)) ||
  (decide (0x5800 ≤ a) && decide (a < 0x5900)) || (decide (0x6600 ≤ a) && decide (a < 0x6640)) ||
  (decide (0x6800 ≤ a) && decide (a < 0x7000)) || (decide (0x8C00 ≤ a) && decide (a < 0x9000)) ||
  (decide (0xB100 ≤ a) && decide (a < 0xB220)) || (decide (0xB300 ≤ a) && decide (a < 0xB320))

/-- A word of the tuning table window (R109). -/
def Dev.tableWord (d : Dev) (j : Nat) : Nat :=
  if d.rd TUNE_TABLE_SEL_CTX < 20 then
    let t := (d.tun (d.rd TUNE_TABLE_SEL_CTX)).table
    Store.read t (2 * j) + Store.read t (2 * j + 1) * 65536
  else 0

/-- The accumulator that group `k` of the Allan window shows. -/
def Dev.allanShown (d : Dev) (k : Nat) : Allan :=
  if d.rd ALLAN_SEL_CTX < 24 then Tab.read Allan.fresh d.allan (d.rd ALLAN_SEL_CTX * 16 + k) else Allan.fresh

/-- A word of the Allan window: SUM under R4, then COUNT. -/
def Dev.allanWord (d : Dev) (a : Nat) : Nat :=
  let x := d.allanShown ((a - 0x5800) / 16)
  if a % 16 = 0 then x.sum.toNat % 2 ^ 32
  else if a % 16 = 4 then Store.read d.snaps a
  else if a % 16 = 8 then x.count
  else 0

/-- Entry `i` of the profile window (R226, R228). -/
def Dev.profileEntry (d : Dev) (i : Nat) : Nat :=
  d.unsealed (Tab.read f64Zero d.track.prof (128 * d.rd PROF_SEL_GROUP + i)).toNat

/-- Four bytes of a window as a word. -/
def byteWord (s : Store) (i : Nat) : Nat :=
  Store.read s i + Store.read s (i + 1) * 2 ^ 8 + Store.read s (i + 2) * 2 ^ 16 + Store.read s (i + 3) * 2 ^ 24

/-- The value of a word of a window. -/
def Dev.windowWord (d : Dev) (a : Nat) : Nat :=
  match ringWindow a with
  | some n => d.ringDataValue n (a % 0x800)
  | none =>
    if 0x300000 ≤ a then d.captureBufferValue ((a - 0x300000) / 16) (a % 16)
    else if a < 0x4000 then d.tableWord ((a - 0x3800) / 4)
    else if a < 0x5900 then d.allanWord a
    else if a < 0x6640 then d.missedTriggerValue ((a - 0x6600) / 16) (a % 16)
    else if a < 0x7000 then d.histogramValue ((a - 0x6800) / 4)
    else if a < 0x9000 then (if a % 8 = 0 then d.profileEntry ((a - 0x8C00) / 8) % 2 ^ 32 else Store.read d.snaps a)
    else if a < 0xB220 then byteWord d.logs.win (a - 0xB100)
    else byteWord d.logs.awin (a - 0xB300)

/-- Does a register or a window hold the word at an address? -/
def mapped (a : Nat) : Bool := (fieldsAt a).isSome || inWindow a

/-- The value that a read of a word returns. An unmapped word reads 0 (R286). -/
def Dev.wordValue (d : Dev) (a : Nat) : Nat :=
  match fieldsAt a with
  | some fs => if fromSnapshot fs a then Store.read d.snaps a else d.presentWord fs a
  | none => if inWindow a then d.windowWord a else 0

/-- Keep the higher words of a value in their snapshot. -/
def keepHigh (s : Store) (a v : Nat) : Nat → Store
  | 0 => s
  | n + 1 => Store.write (keepHigh s a v n) (a + 4 * (n + 1)) (v / 2 ^ (32 * (n + 1)) % 2 ^ 32)

/-- A field of `f.width` bits is wider than a word: its higher words. -/
def Fld.highWords (f : Fld) : Nat := (f.width + 31) / 32 - 1

/-- LOW_WORD_READ (R4): a read of the lowest word of a wide field takes the whole field into its snapshot.
DESIGN CHOICE: log entry 11. -/
def Dev.lowWordRead (a : Nat) (d : Dev) : Dev :=
  match fieldsAt a with
  | some fs =>
    if 0x6100 ≤ a ∧ a < 0x6300 ∧ 0x44 ≤ a % 0x80 then d
    else { d with snaps := fs.foldl (fun s f => if f.word = a then keepHigh s a (d.visible f) f.highWords else s) d.snaps }
  | none =>
    if 0x5800 ≤ a ∧ a < 0x5900 ∧ a % 16 = 0 then
      { d with snaps := keepHigh d.snaps a (d.allanShown ((a - 0x5800) / 16)).sum.toNat 1 }
    else if 0x8C00 ≤ a ∧ a < 0x9000 ∧ a % 8 = 0 then
      { d with snaps := keepHigh d.snaps a (d.profileEntry ((a - 0x8C00) / 8)) 1 }
    else d

/-- The most recent read access advanced over one more word of a ring. -/
def Dev.noteMoved (d : Dev) (n : Nat) : Dev :=
  { d with host := { d.host with moved := Store.write d.host.moved n (max 1 (Store.read d.host.moved n) + 1) } }

/-- A word of a ring's data window has been read (R90); how many words the access has advanced over is kept for UNREAD. -/
def Dev.windowRead (n offset : Nat) (d : Dev) : Dev :=
  let moves := decide (offset % 16 = 12) && (d.ring n).snapOk
  let d := d.ringDataRead n offset
  let d := if Store.read d.host.moved n = 0 then { d with host := { d.host with moved := Store.write d.host.moved n 1 } } else d
  d.when moves (fun d => d.noteMoved n)

/-- What the read of a word does when its last data bit has been clocked out (R287). -/
def Dev.wordRead (a : Nat) (d : Dev) : Dev :=
  match ringWindow a with
  | some n => d.windowRead n (a % 0x800)
  | none =>
    if 0x300000 ≤ a ∧ a < 0x400000 then d.captureBufferRead ((a - 0x300000) / 16) (a % 16)
    else if 0x6600 ≤ a ∧ a < 0x6640 then d.missedTriggerRead ((a - 0x6600) / 16) (a % 16)
    else if a = 0x7400 then d.legalResultRead
    else if 0x6100 ≤ a ∧ a < 0x6300 ∧ a % 0x80 = 0x40 then d.rseqRead ((a - 0x6100) / 0x80)
    else d.lowWordRead a

end Sys2Proof.Machine
end

