-- ==== Sys2Proof/Machine/HostPort.lean ====
section
/-! DEFINITION.
The host port (chapter 13): read and write accesses, their outcome codes, the commands of the register map, STATUS and UNREAD.
-/

namespace Sys2Proof.Machine

open Reg

/-- Are writes and commands served (R294): RUN or HOLD, FCK on FPLL, no entry into STANDBY under way? -/
def Dev.hostOpen (d : Dev) : Bool :=
  d.alive && (d.mode == 1 || d.mode == 2) && !d.power.entering && !d.is TB_STATUS_FCK_SRC

/-- Is the read of a word served (R24, R294)? DEDUCED: log entry 18. -/
def Dev.readServed (d : Dev) (a : Nat) : Bool :=
  d.alive && !d.bootingBit &&
    (!d.is TB_STATUS_FCK_SRC || decide (a < 0x1C) || (decide (0x800 ≤ a) && decide (a < 0xA00)) || a == 0xC000 ||
      (decide (0x117000 ≤ a) && decide (a < 0x118000)))

/-- Is a write word served (R24, R294, R337)? In STANDBY and its entry only the resume request is, in the safe state and on RCK only the
SOFT reset. DEDUCED: log entry 18. -/
def Dev.writeServed (d : Dev) (a v : Nat) : Bool :=
  d.hostOpen ||
    (d.alive && a == 0xC008 &&
      ((v % 256 == 0x4F && (d.mode == 5 || (d.is TB_STATUS_FCK_SRC && !d.bootingBit))) ||
       (v % 256 == 0x45 && (d.mode == 3 || d.mode == 4 || d.power.entering))))

/-- A read access begins: what an UNREAD can move back over is that of this access alone. -/
def Dev.beginRead (d : Dev) : Dev :=
  let rings := d.rings.map (fun (p : Nat × Ring) => (p.1, { p.2 with back := [], gapBack := false }))
  { d with rings := rings, host := { d.host with moved := [] } }

/-- Note whether the latest access is a read access (R298). -/
def Dev.setLatest (b : Bool) (d : Dev) : Dev := { d with host := { d.host with latest := b } }

/-- A read of one word with an effect of its own, as a command of the table. DESIGN CHOICE: log entry 11. -/
def Dev.oneRead (a : Nat) (f : Dev → Dev) (d : Dev) : Dev :=
  if d.readServed a then (f d.beginRead).setLatest true else d

/-- A command code written by host software, as a command of the table. DESIGN CHOICE: log entry 12. -/
def Dev.oneWrite (f : Dev → Dev) (d : Dev) : Dev := if d.hostOpen then f (d.setLatest false) else d

/-- Move a ring's read place back over `m` words: the lengths held, the words read of the oldest and those left to move back over. -/
def unreadWords : Nat → List Nat → Nat → List Nat → Option (List Nat × Nat × List Nat)
  | 0, ents, head, back => some (ents, head, back)
  | m + 1, ents, head + 1, back => unreadWords m ents head back
  | m + 1, ents, 0, b :: back => if b = 0 then none else unreadWords m (b :: ents) (b - 1) back
  | _ + 1, _, 0, [] => none

/-- Where an accepted UNREAD of a ring leads, if it is accepted (R298). -/
def Dev.unreadTo (d : Dev) (n : Nat) : Option (List Nat × Nat × List Nat) :=
  let m := Store.read d.host.moved n - 1
  let r := d.ring n
  let written := match r.lock with
    | some l => l.words
    | none => 0
  if d.host.latest && Store.read d.host.moved n != 0 && decide (d.rd (RING_FILL_WORDS n) + m + written ≤ d.ringCap n) then
    unreadWords m r.ents r.headRead r.back
  else none

/-- UNREAD (R298): HOST_CMD 0x5A. -/
def Dev.unread (n : Nat) (d : Dev) : Dev :=
  match d.unreadTo n with
  | none => d
  | some q =>
    let m := Store.read d.host.moved n - 1
    let r := d.ring n
    let gap := r.gapHost || r.gapBack
    let d := d.putRing n { r with ents := q.1, headRead := q.2.1, back := q.2.2, gapHost := gap, gapBack := false, snapOk := false }
    let cap := d.ringCap n
    let d := d.wr (RING_RD_PTR_INDEX n) ((d.rd (RING_RD_PTR_INDEX n) + cap - m % max cap 1) % cap)
    let d := d.setFill n (d.rd (RING_FILL_WORDS n) + m)
    { d with host := { d.host with moved := [], latest := false } }

/-- UNREAD as a command of the table. -/
def Dev.unreadNow (n : Nat) (d : Dev) : Dev := if d.hostOpen then (d.unread n).setLatest false else d

/-- The answer to a command code: its effect, or a rejection with an access code. DESIGN CHOICE: log entry 12. -/
def Dev.judge (d : Dev) (ok : Bool) (code : Nat) (f : Dev → Dev) : Dev × Nat := if ok then (f d, 0) else (d, code)

/-- HOST_CMD and NVM_PT_CMD (R298, R301). -/
def Dev.portCommand (d : Dev) (a v : Nat) : Dev × Nat :=
  let c := v % 256
  if a = 0x820 then
    if c = 0x5A then d.judge (decide (v / 256 % 32 < 24) && (d.unreadTo (v / 256 % 32)).isSome) 4 (Dev.unread (v / 256 % 32))
    else (d, 4)
  else if c < 0x31 ∨ 0x34 < c then (d, 4)
  else if d.is NVM_PT_STATUS_STATE then (d, 4)
  else
    let r := d.ptRefusal c
    (d.startPt c, if r = 0 then 0 else if r = 2 then 5 else 4)

/-- The commands of chapters 3 to 7. DEDUCED: log entry 19. -/
def Dev.measureCommand (d : Dev) (a v : Nat) : Dev × Nat :=
  let c := v % 256
  if a = 0x1044 then d.judge (c == 0xC1 && d.mayRestartCheck) 4 Dev.tbRestartCheck
  else if a < 0x3000 then d.judge (c == 0xA1) 4 (Dev.clearVoiceCounts ((a - 0x2000) / 256))
  else if a = 0x3008 then
    d.judge (c == 0x71 && decide (v / 256 % 32 < 20) && d.collects (v / 256 % 32)) 4 (Dev.tuneRestart (v / 256 % 32))
  else if a = 0x4008 then d.judge (c == 0x61 && d.testAllowed (v / 256 % 256)) 4 (Dev.wmSelfTest (v / 256 % 256))
  else if c = 0x81 then d.judge (decide (v / 256 % 32 < 24)) 4 (Dev.clearAllanCtx (v / 256 % 32))
  else if c = 0x82 then (d.clearAllanAll, 0)
  else if c = 0x83 then (d.clearRestCounts, 0)
  else (d, 4)

/-- The commands of chapter 8. -/
def Dev.captureCommand (d : Dev) (a v : Nat) : Dev × Nat :=
  let c := v % 256
  let n := (a - 0x6100) / 0x80
  if a = 0x6020 then
    if c = 0x93 then d.judge (decide (v / 256 % 64 < d.capSegs)) 4 (Dev.releaseSegment (v / 256 % 64))
    else if c = 0x94 then d.judge (d.rd CAP_STATUS_STATE == 3) 4 Dev.completeCapture
    else if c = 0x95 then (d.releaseAll, 0)
    else (d, 4)
  else if c = 0x91 then d.judge (d.rd CAP_STATUS_STATE != 0) 4 (Dev.commandTrigger n)
  else if c = 0x92 then (d.clearHistogram n, 0)
  else if c = 0x96 then (d.clearTotal n, 0)
  else if c = 0x97 then (d.clearMissCount n, 0)
  else (d, 4)

/-- The commands of chapters 9 to 11. DEDUCED: log entry 19. -/
def Dev.weighCommand (d : Dev) (a v : Nat) : Dev × Nat :=
  let c := v % 256
  if a = 0x7420 then d.judge (decide (0xB1 ≤ c) && decide (c ≤ 0xB4) && d.mayOperate) 4 (Dev.operate c)
  else if a = 0x8090 then
    if c = 0xD1 then (d.learnProfile, 0)
    else if c = 0xD3 then (d.clearProv, 0)
    else if c = 0xD4 then d.judge (d.is PIN_LEVEL_SEAL_OPEN) 5 Dev.emptyWeakMap
    else if c = 0xD5 then (d.reacquire, 0)
    else (d, 4)
  else if c = 0xE1 then (d.retrainPort (v / 256 % 2), 0)
  else if c = 0xE3 then d.judge d.mayCommand 4 (Dev.readmitDevice (v / 4096 % 16))
  else if c = 0xE5 then d.judge d.mayCommand 4 Dev.choirResetCmd
  else if c = 0xE7 then (d.clearChoirCounters, 0)
  else (d, 4)

/-- The access code of a calendar write (R307). DEDUCED: log entry 19. -/
def Dev.calCode (d : Dev) : Nat :=
  if d.calst.waiting.isSome then 4
  else
    let r := d.calReject d.calSet
    if r = 2 then 5 else if r = 3 then 4 else 0

/-- The commands of chapters 12 and 14. DEDUCED: log entry 19. -/
def Dev.systemCommand (d : Dev) (a v : Nat) : Dev × Nat :=
  let c := v % 256
  if a = 0xA00C then
    if c = 0xF1 then d.judge d.mayApply 4 (Dev.startApply false)
    else if c = 0xF2 then d.judge d.mayApply 4 (Dev.startApply true)
    else if c = 0xF3 then d.judge d.mayCancel 4 Dev.cancelApply
    else if c = 0xF7 then d.judge d.mayFuse (if d.fuses.keySet then 4 else 5) Dev.programKeyFuses
    else (d, 4)
  else if a = 0xB010 then (if c = 0xC8 then (d.setCalendar, d.calCode) else (d, 4))
  else if c = 0xC1 then d.judge (!d.is LOG_READ_BUSY) 4 Dev.loadRecord
  else if c = 0xC3 then d.judge (!d.is LOG_READ_BUSY) 4 Dev.loadAuditRecord
  else (d, 4)

/-- The commands of chapter 15. A SOFT reset follows the end of its access. DEDUCED: log entry 18. -/
def Dev.powerCommand (d : Dev) (a v : Nat) : Dev × Nat :=
  let c := v % 256
  if a = 0xC008 then
    if c = 0x41 then d.judge d.mayHold 4 Dev.hold
    else if c = 0x42 then d.judge d.mayRun 4 Dev.run
    else if c = 0x44 then d.judge d.mayStandby 4 Dev.standby
    else if c = 0x45 then d.judge d.mayResume 4 Dev.resume
    else (d, if c = 0x4F then 0 else 4)
  else if c = 0x21 then d.judge (d.mayReadmit (v / 256 % 256)) 4 (Dev.reAdmit (v / 256 % 256))
  else if c = 0x23 then (d.clearSramCorr, 0)
  else (d, 4)

/-- A write to the word of a command register (R6, R291): code 0 starts nothing. DESIGN CHOICE: log entry 12. -/
def Dev.command (d : Dev) (a v : Nat) : Dev × Nat :=
  if v % 256 = 0 then (d, 0)
  else if a < 0x1000 then d.portCommand a v
  else if a < 0x6000 then d.measureCommand a v
  else if a < 0x7000 then d.captureCommand a v
  else if a < 0xA000 then d.weighCommand a v
  else if a < 0xC000 then d.systemCommand a v
  else if a < 0x100000 then d.powerCommand a v
  else if v % 256 = 0x51 then (d.flush ((a - 0x100000) / 0x1000), 0)
  else if v % 256 = 0x52 then (d.clearLoss ((a - 0x100000) / 0x1000), 0)
  else (d, 4)

/-- What a write word has done: the device, its access code, and whether it attempts to change an IM L field. -/
structure Wrote where
  dev : Dev
  code : Nat
  legal : Bool

/-- One field of a write word (R6, R291). -/
def Wrote.field (a v : Nat) (x : Wrote) (f : Fld) : Wrote :=
  let w := f.ofWord a v
  let old := x.dev.rd f
  let changes := w != f.partAt a (x.dev.visible f)
  match f.acc with
  | .rw => { x with dev := x.dev.wr f (f.withPart a old w) }
  | .w1c => { x with dev := x.dev.wr f (old - (old &&& w)) }
  | .cmd => x
  | .ro => if changes then { x with code := max x.code 1 } else x
  | .im => if changes then { x with code := max x.code 2 } else x
  | .iml => if changes then { x with code := max x.code 3, legal := true } else x

/-- Does a word hold a command register? -/
def isCommand (fs : List Fld) : Bool := fs.any (fun f => f.acc == .cmd)

/-- A write word that is served (R286, R291, R301). -/
def Dev.applyWord (d : Dev) (a v : Nat) : Wrote :=
  if 0x900 ≤ a ∧ a < 0xA00 ∧ d.is NVM_PT_STATUS_STATE then { dev := d, code := 4, legal := false }
  else
    match fieldsAt a with
    | some fs =>
      if isCommand fs then { dev := (d.command a v).1, code := (d.command a v).2, legal := false }
      else fs.foldl (Wrote.field a v) { dev := d, code := 0, legal := false }
    | none =>
      { dev := d, code := if !inWindow a then 6 else if v = d.windowWord a then 0 else 1, legal := false }

/-- A write word, served or not (R294). -/
def Dev.writeWord (d : Dev) (a v : Nat) : Wrote :=
  if d.writeServed a v then d.applyWord a v else { dev := d, code := 11, legal := false }

/-- REGISTER_WRITE (R291): one write word to a register with no row of its own; a LEGAL_WRITE is raised as for an access. -/
def Dev.registerWrite (a v : Nat) (d : Dev) : Dev :=
  if !d.hostOpen || a % 4 != 0 then d
  else
    match fieldsAt a with
    | none => d
    | some fs =>
      if isCommand fs then d
      else
        let x := (d.setLatest false).applyWord a v
        x.dev.when x.legal (fun d => (d.inc HOST_COUNT_A_LEGAL_REJECTS).notify 10 0 a)

/-- An access under way: the device, the greatest access code with the address where it first arose, the first IM L word that a write
attempted to change, the bytes driven, and whether a SOFT reset follows. -/
structure Access where
  dev : Dev
  code : Nat
  addr : Nat
  legal : Option Nat
  out : List Nat
  soft : Bool

/-- An access at its start. -/
def Access.start (d : Dev) (a : Nat) : Access := { dev := d, code := 0, addr := a, legal := none, out := [], soft := false }

/-- A code arises at a word (R290). -/
def Access.note (x : Access) (code a : Nat) : Access := if x.code < code then { x with code := code, addr := a } else x

/-- An access at its start; one that the port does not serve has code 11, also without a word of its own (R294). -/
def Access.begin (d : Dev) (a : Nat) (served : Bool) : Access := if served then Access.start d a else (Access.start d a).note 11 a

/-- The address that follows in a burst (R286). -/
def nextAddr (a : Nat) : Nat :=
  if a = 0xFFFFFC then a else if (ringWindow a).isSome ∧ a % 0x1000 = 0xFFC then a - 0x7FC else a + 4

/-- Does the entry that a read of a ring's data window returns hold a word known uncorrectable (R334)? DEDUCED: log entry 15. -/
def Dev.badRingEntry (d : Dev) (n : Nat) : Bool :=
  let r := d.ring n
  let cap := d.ringCap n
  let first := d.rd (RING_RD_PTR_INDEX n) + cap - r.headRead % max cap 1
  (List.range (r.ents.headD 0)).any (fun i => Store.read d.sram.bad (d.ringWord n ((first + i) % max cap 1)) != 0)

/-- Does a read of a word return an entry that holds a word known uncorrectable? DEDUCED: log entry 15. -/
def Dev.badEntry (d : Dev) (a : Nat) : Bool :=
  match ringWindow a with
  | some n => (a % 16 == 0 || (d.ring n).snapOk) && d.badRingEntry n
  | none =>
    decide (0x300000 ≤ a) && decide (a < 0x400000) && Store.read d.sram.bad (captureSramWord ((a - 0x300000) / 16)) != 0

/-- A served word of a read (R286, R287, R290). DEDUCED: log entry 15. -/
def Access.readWord (x : Access) (a : Nat) : Access :=
  let x := if mapped a then x else x.note 6 a
  let x := if x.dev.badEntry a then x.note 14 (a - a % 16) else x
  { x with out := x.out ++ bytesLE 4 (x.dev.wordValue a), dev := x.dev.wordRead a }

/-- A word sent as 0xFF. DEDUCED: log entry 18. -/
def Access.filler (x : Access) : Access := { x with out := x.out ++ [0xFF, 0xFF, 0xFF, 0xFF] }

/-- The CRC after each group of 16 data bytes (R289): over the head of the access and every data byte so far. -/
def withCrc (head : List Nat) (data : List Nat) : List Nat :=
  ((List.range (data.length / 16)).flatMap (fun i =>
    let c := crc16 (head ++ data.take (16 * (i + 1)))
    (data.drop (16 * i)).take 16 ++ [c / 256, c % 256])) ++ data.drop (data.length / 16 * 16)

/-- The words of a read: from the word numbered `late` on none is ready in time (R287). -/
def Access.readWords (late : Option Nat) : Nat → Nat → Nat → Access → Access
  | 0, _, _, x => x
  | n + 1, i, a, x =>
    let isLate := match late with
      | some l => decide (l ≤ i)
      | none => false
    let x := if !x.dev.readServed a then (x.note 11 a).filler
      else if isLate then (x.note 10 a).filler
      else x.readWord a
    Access.readWords late n (i + 1) (nextAddr a) x

/-- The end of an access (R290, R292). DEDUCED: log entries 14 and 17 and 18. -/
def Access.close (x : Access) (read : Bool) : Dev :=
  let d := x.dev
  let d := d.wr HOST_STATUS_LAST_CODE x.code
  let d := d.when (x.code != 0) (fun d => d.wr HOST_ERR_ADDR_ADDR x.addr)
  let d := d.when (x.code != 0 && decide (x.code ≤ 13)) (fun d => d.inc HOST_COUNT_A_REJECTS)
  let d := d.when (x.code == 9) (fun d => d.inc HOST_COUNT_B_CRC_ERR)
  let d := d.when (x.code == 10) (fun d => d.inc HOST_COUNT_B_NOT_READY)
  let d := match x.legal with
    | some a => (d.inc HOST_COUNT_A_LEGAL_REJECTS).notify 10 0 a
    | none => d
  let d := { d.setLatest read with host := { (d.setLatest read).host with out := x.out } }
  d.when x.soft Dev.softReset

/-- The address bytes as they are sent. -/
def addrBytes (a : Nat) : List Nat := [a / 65536 % 256, a / 256 % 256, a % 256]

/-- What the words of the access find wrong in memory: pairs of an SRAM word's number with 1 for a corrected error or 2 for an
uncorrectable word, and of a tuning context's number with 3 for an entry of the table window whose parity is wrong (R109, R334).
DESIGN CHOICE: log entry 24. -/
def Dev.findUpsets (d : Dev) (l : List (Nat × Nat)) : Dev :=
  let d := d.meetUpsets (l.filter (fun p => p.2 == 1 || p.2 == 2))
  d.each (l.filter (fun p => p.2 == 3 && decide (p.1 < 20))) (fun d p => d.tableParity p.1)

/-- A read access of a command byte (R284 to R290, R294). DEDUCED: log entry 13. -/
def Dev.hostRead (cmd a words : Nat) (late : Option Nat) (upsets : List (Nat × Nat)) (d : Dev) : Dev :=
  if !d.alive then d
  else
    let d := d.beginRead
    if a % 4 ≠ 0 then
      let x := (Access.begin d a (d.readServed a)).note 7 a
      Access.close { x with out := List.replicate (4 * words) 0xFF } true
    else
      let d := if d.readServed a then d.findUpsets upsets else d
      let crc := d.is HOST_STATUS_CRC_ACTIVE
      let x := Access.readWords late words 0 a (Access.begin d a (d.readServed a))
      Access.close (if crc then { x with out := withCrc (cmd :: addrBytes a) x.out } else x) true

/-- One word of a write (R288). -/
def Access.writeWord (x : Access) (a v : Nat) : Access :=
  let w := x.dev.writeWord a v
  let served := x.dev.writeServed a v
  let soft := x.soft || (served && a == 0xC008 && v % 256 == 0x4F)
  let legal := if w.legal && x.legal.isNone then some a else x.legal
  Access.note { x with dev := w.dev, legal := legal, soft := soft } w.code a

/-- The words of a write without a trailer: bit `i` of `full` says that the request FIFO is full as word `i` arrives. -/
def Access.writeWords (full : Nat) : List Nat → Nat → Nat → Access → Access
  | b0 :: b1 :: b2 :: b3 :: rest, i, a, x =>
    let x := if full.testBit i then x.note 10 a else x.writeWord a (ofBytesLE [b0, b1, b2, b3])
    Access.writeWords full rest (i + 1) (nextAddr a) x
  | [], _, _, x => x
  | _, _, a, x => x.note 8 a

/-- Does a write hold a word that the port serves (R294)? -/
def Dev.servesAny (d : Dev) : List Nat → Nat → Bool
  | b0 :: b1 :: b2 :: b3 :: rest, a => d.writeServed a (ofBytesLE [b0, b1, b2, b3]) || Dev.servesAny d rest (nextAddr a)
  | _, _ => false

/-- A write access of a command byte (R284 to R292, R294). Of one that holds nothing the port serves, neither its length nor its CRC is judged.
DEDUCED: log entry 13. -/
def Dev.hostWrite (cmd a : Nat) (bytes : List Nat) (full : Nat) (d : Dev) : Dev :=
  if !d.alive then d
  else if !d.hostOpen && !d.servesAny bytes a then (Access.begin d a false).close false
  else
    let x := Access.start d a
    let n := bytes.length
    let x := if a % 4 ≠ 0 then x.note 7 a
      else if d.is HOST_STATUS_CRC_ACTIVE then
        let data := bytes.take (n - 2)
        if n % 4 ≠ 2 ∨ n < 6 ∨ 34 < n then x.note 12 a
        else if crc16 (cmd :: addrBytes a ++ data) ≠ ofBytesBE (bytes.drop (n - 2)) then x.note 9 a
        else Access.writeWords 0 data 0 a x
      else Access.writeWords full bytes 0 a x
    x.close false

/-- The STATUS byte (R293). DEDUCED: log entry 16. -/
def Dev.statusByte (d : Dev) : Nat :=
  d.rd HOST_STATUS_LAST_CODE + bit d.irq * 16 + d.rd HOST_STATUS_CRC_ACTIVE * 32 + d.rd TB_STATUS_FCK_SRC * 64 + bit d.bootingBit * 128

/-- STATUS (R293): available from boot step 1 on. DEDUCED: log entry 16. -/
def Dev.status (d : Dev) : Dev :=
  if d.alive then { d with host := { d.host with out := [d.statusByte], latest := false } } else d

/-- The command bytes of R285. -/
def commandBytes : List Nat := [0x03, 0x0B, 0x6B, 0xEB, 0x02, 0x32, 0x38, 0x05]

/-- UNKNOWN_COMMAND (R285): the access has no address, and what HOST_ERR_ADDR takes is open (log entry 5).
DEDUCED: log entry 14. -/
def Dev.unknownCommand (c : Nat) (d : Dev) : Dev :=
  if d.alive && !commandBytes.contains c then ((Access.start d.nextFree (d.openValue % 2 ^ 24)).note 13 (d.openValue % 2 ^ 24)).close false
  else d

end Sys2Proof.Machine
end

