-- ==== Sys2Proof/Machine/CmdAnalyser.lean ====
section
/-! DEFINITION.
The meanings of the commands of chapter 8.
-/

namespace Sys2Proof.Machine

/-- ANALYSER_STAMP (R158): An analyser instance processes a stamp once no earlier stamp of its other voice can arrive, forming
measurements. `upsets` lists the SRAM words in which reads find an error (1 corrected, 2 uncorrectable). -/
def execAnalyserStamp (analyser : Nat) (s : State) (upsets : List (Nat × Nat) := []) : Host.Outcome State Fault Refusal :=
  s.onDev (Instr.analyserStamp analyser upsets) (fun d => Dev.analyserStamp analyser (d.readState (29 + analyser) upsets))

/-- ANALYSER_CLOSEOUT (R164): At a boundary an instance's results are closed out, the result block is replaced and RSEQ increments.
`upsets` lists the SRAM words in which reads find an error. -/
def execAnalyserCloseout (analyser : Nat) (upsets : List (Nat × Nat)) (s : State) : Host.Outcome State Fault Refusal :=
  s.onDev (Instr.analyserCloseout analyser upsets) (Dev.analyserCloseout analyser upsets)

/-- RSEQ_READ (R164): A host read of RSEQ captures the whole analyser result block into a snapshot. -/
def execRseqRead (analyser : Nat) (s : State) : Host.Outcome State Fault Refusal :=
  s.onDev (Instr.rseqRead analyser) (Dev.oneRead (0x6140 + 0x80 * analyser) (Dev.rseqRead analyser))

/-- CAPTURE_TIMEOUT (R171): CAP_TIMEOUT ms after acceptance the capture completes with TRUNC. -/
def execCaptureTimeout (s : State) : Host.Outcome State Fault Refusal :=
  s.onDev Instr.captureTimeout Dev.captureTimeout

/-- REARM_ELAPSED (R168): CAP_REARM us after completion the unit goes to FILLING or ARMED. -/
def execRearmElapsed (s : State) : Host.Outcome State Fault Refusal :=
  s.onDev Instr.rearmElapsed Dev.rearmElapsed

/-- MISSED_TRIGGER_READ (R170): A host read of a missed-trigger window snapshots the entry and removes it at 12 modulo 16.
`upsets` lists the SRAM words in which reads find an error (1 corrected, 2 uncorrectable). -/
def execMissedTriggerRead (analyser : Nat) (offset : Nat) (s : State) (upsets : List (Nat × Nat) := []) : Host.Outcome State Fault Refusal :=
  s.onDev (Instr.missedTriggerRead analyser offset upsets) (Dev.oneRead (0x6600 + 0x10 * analyser + offset) (fun d => Dev.missedTriggerRead analyser offset (d.findUpsets upsets)))

/-- CAPTURE_BUFFER_READ (R172): A host read of a capture buffer entry captures it whole into a snapshot without advancing.
`upsets` lists the SRAM words in which reads find an error (1 corrected, 2 uncorrectable). -/
def execCaptureBufferRead (entry : Nat) (offset : Nat) (s : State) (upsets : List (Nat × Nat) := []) : Host.Outcome State Fault Refusal :=
  s.onDev (Instr.captureBufferRead entry offset upsets) (Dev.oneRead (0x300000 + 0x10 * entry + offset) (fun d => Dev.captureBufferRead entry offset (d.findUpsets upsets)))

/-- COMMAND_TRIGGER (R166): ANA[a].CMD 0x91 raises a trigger of the instance. -/
def execCommandTrigger (analyser : Nat) (s : State) : Host.Outcome State Fault Refusal :=
  s.onDev (Instr.commandTrigger analyser) (Dev.oneWrite (Dev.commandTrigger analyser))

/-- CLEAR_HISTOGRAM (R165): ANA[a].CMD 0x92 clears the histogram, HIST_UNDER and HIST_OVER. -/
def execClearHistogram (analyser : Nat) (s : State) : Host.Outcome State Fault Refusal :=
  s.onDev (Instr.clearHistogram analyser) (Dev.oneWrite (Dev.clearHistogram analyser))

/-- CLEAR_TOTAL (R162): ANA[a].CMD 0x96 clears TOTAL and TOTAL_SUSPECT. -/
def execClearTotal (analyser : Nat) (s : State) : Host.Outcome State Fault Refusal :=
  s.onDev (Instr.clearTotal analyser) (Dev.oneWrite (Dev.clearTotal analyser))

/-- CLEAR_MISS_COUNT (R170): ANA[a].CMD 0x97 clears MISS.COUNT. -/
def execClearMissCount (analyser : Nat) (s : State) : Host.Outcome State Fault Refusal :=
  s.onDev (Instr.clearMissCount analyser) (Dev.oneWrite (Dev.clearMissCount analyser))

/-- RELEASE_SEGMENT (R172): CAP_CMD 0x93 releases segment SEG. -/
def execReleaseSegment (segment : Nat) (s : State) : Host.Outcome State Fault Refusal :=
  s.onDev (Instr.releaseSegment segment) (Dev.oneWrite (Dev.releaseSegment segment))

/-- COMPLETE_CAPTURE (R171): CAP_CMD 0x94 completes the capture in POST with TRUNC. -/
def execCompleteCapture (s : State) : Host.Outcome State Fault Refusal :=
  s.onDev Instr.completeCapture (Dev.oneWrite Dev.completeCapture)

/-- RELEASE_ALL (R172): CAP_CMD 0x95 releases every segment. -/
def execReleaseAll (s : State) : Host.Outcome State Fault Refusal :=
  s.onDev Instr.releaseAll (Dev.oneWrite Dev.releaseAll)

end Sys2Proof.Machine
end

