-- ==== Sys2Proof/Machine/CmdChoir.lean ====
section
/-! DEFINITION.
The meanings of the commands of the choir, chapter 11.
-/

namespace Sys2Proof.Machine

/-- SYNC_SEND (R246): Every 2^18 FCK a SYNC frame preceded by K28.7 is launched on each UP port and stamped. `stampA` and
`stampB` are the launch stamps of the ports, as raw time; none where the sampler gives none. Bit p of `parity` says that port
p's stamp was converted with an entry whose parity is wrong. -/
def execSyncSend (stampA : Option Nat) (stampB : Option Nat) (s : State) (parity : Nat := 0) : Host.Outcome State Fault Refusal :=
  s.onDev (Instr.syncSend stampA stampB parity) (Dev.syncSend stampA stampB parity)

/-- TIME_SEND (R243): The cantor sends a TIME message every LEASE / 8. -/
def execTimeSend (s : State) : Host.Outcome State Fault Refusal :=
  s.onDev Instr.timeSend Dev.timeSend

/-- HEALTH_SEND (R243): A device sends a HEALTH message every LEASE / 4. -/
def execHealthSend (s : State) : Host.Outcome State Fault Refusal :=
  s.onDev Instr.healthSend Dev.healthSend

/-- CFGHASH_SEND (R243): A device sends a CFGHASH message every 1 s. -/
def execCfghashSend (s : State) : Host.Outcome State Fault Refusal :=
  s.onDev Instr.cfghashSend Dev.cfghashSend

/-- SYNC_RX (R247): A SYNC from a neighbour gives the four stamps from which theta and d are formed. `stamp` is the receive
stamp, as raw time. `parity` says that the stamp was converted with an entry whose parity is wrong. -/
def execSyncRx (port : Nat) (stamp : Option Nat) (s : State) (parity : Bool := false) : Host.Outcome State Fault Refusal :=
  s.onDev (Instr.syncRx port stamp parity) (Dev.syncRx port stamp parity)

/-- THETA_TIMEOUT (R249): No theta has been formed for 4 x 2^18 FCK and the member holds s unchanged. -/
def execThetaTimeout (s : State) : Host.Outcome State Fault Refusal :=
  s.onDev Instr.thetaTimeout Dev.thetaTimeout

/-- TIME_RX (R255): A delivered TIME renews the lease, resolves epochs and carries EPS and the calendar. The message processed is
the first of its kind that has been delivered. -/
def execTimeRx (s : State) : Host.Outcome State Fault Refusal :=
  s.onDev Instr.timeRx Dev.timeRx

/-- SUM_RX (R258): The cantor takes a member's SUM for its boundary, forming S once every device has offered. The message processed
is the first of its kind that has been delivered. -/
def execSumRx (s : State) : Host.Outcome State Fault Refusal :=
  s.onDev Instr.sumRx Dev.sumRx

/-- SUM_WINDOW_END (R258): SUM_WINDOW after the boundary the cantor decides S, possibly as a rest, and sends RESULT. -/
def execSumWindowEnd (s : State) : Host.Outcome State Fault Refusal :=
  s.onDev Instr.sumWindowEnd Dev.sumWindowEnd

/-- RESULT_RX (R259): A member applies the S of a delivered RESULT, checks its digest and applies any REALIGN. The message processed
is the first of its kind that has been delivered. -/
def execResultRx (s : State) : Host.Outcome State Fault Refusal :=
  s.onDev Instr.resultRx Dev.resultRx

/-- RESULT_TIMEOUT (R259): No RESULT by the boundary plus 2 x SUM_WINDOW makes the period a rest with reason 10. -/
def execResultTimeout (s : State) : Host.Outcome State Fault Refusal :=
  s.onDev Instr.resultTimeout Dev.resultTimeout

/-- HEALTH_RX (R248): A delivered HEALTH updates the sender's state, hop count and the parent choice. The message processed is the
first of its kind that has been delivered. -/
def execHealthRx (s : State) : Host.Outcome State Fault Refusal :=
  s.onDev Instr.healthRx Dev.healthRx

/-- CFGHASH_RX (R257): A delivered CFGHASH is compared with the own hashes and a mismatch sends the device OUT. The message
processed is the first of its kind that has been delivered. -/
def execCfghashRx (s : State) : Host.Outcome State Fault Refusal :=
  s.onDev Instr.cfghashRx Dev.cfghashRx

/-- LOG_RX (R314): A delivered LOG record is written to the own journal with REMOTE set. The message processed is the first of its
kind that has been delivered. -/
def execLogRx (s : State) : Host.Outcome State Fault Refusal :=
  s.onDev Instr.logRx Dev.logRx

/-- OP_RX (R261): The cantor receives a forwarded operator command and places it in a RESULT. The message processed is the first of
its kind that has been delivered. -/
def execOpRx (s : State) : Host.Outcome State Fault Refusal :=
  s.onDev Instr.opRx Dev.opRx

/-- SWITCH_RX (R282): A STAGED member receives SWITCH and commits, or a HASH mismatch cancels with code 15. The message processed is
the first of its kind that has been delivered. -/
def execSwitchRx (s : State) : Host.Outcome State Fault Refusal :=
  s.onDev Instr.switchRx Dev.switchRx

/-- SWITCH_ACK_RX (R282): The cantor records a member's SWITCH_ACK in SWITCH_ACK. The message processed is the first of its kind
that has been delivered. -/
def execSwitchAckRx (s : State) : Host.Outcome State Fault Refusal :=
  s.onDev Instr.switchAckRx Dev.switchAckRx

/-- RESET_RX (R262): A delivered CMD RESET schedules a CHOIR reset at its named boundary. The message processed is the first of its
kind that has been delivered. -/
def execResetRx (s : State) : Host.Outcome State Fault Refusal :=
  s.onDev Instr.resetRx Dev.resetRx

/-- RETIRE_RX (R262): A member receiving RETIRE enters OUT. The message processed is the first of its kind that has been delivered. -/
def execRetireRx (s : State) : Host.Outcome State Fault Refusal :=
  s.onDev Instr.retireRx Dev.retireRx

/-- READMIT_RX (R262): A target receiving READMIT leaves OUT on probation. The message processed is the first of its kind that has
been delivered. -/
def execReadmitRx (s : State) : Host.Outcome State Fault Refusal :=
  s.onDev Instr.readmitRx Dev.readmitRx

/-- REALIGN_REQ_RX (R260): The cantor receiving REALIGN_REQ sets REALIGN in its next RESULT. The message processed is the first of
its kind that has been delivered. -/
def execRealignReqRx (s : State) : Host.Outcome State Fault Refusal :=
  s.onDev Instr.realignReqRx Dev.realignReqRx

/-- CLAIM_TIME (R255): An eligible device reaches its claim time, takes a higher epoch, enters CANTOR and sends TIME with CLAIM. -/
def execClaimTime (s : State) : Host.Outcome State Fault Refusal :=
  s.onDev Instr.claimTime Dev.claimTime

/-- ALIVE_LAPSE (R254): No message from a device has been delivered within LEASE and it is no longer alive. -/
def execAliveLapse (address : Nat) (s : State) : Host.Outcome State Fault Refusal :=
  s.onDev (Instr.aliveLapse address) (Dev.aliveLapse address)

/-- READMIT_DEVICE (R262): CHOIR_CMD 0xE3 on the cantor sends READMIT for ADDR. -/
def execReadmitDevice (address : Nat) (s : State) : Host.Outcome State Fault Refusal :=
  s.onDev (Instr.readmitDevice address) (Dev.oneWrite (Dev.readmitDevice address))

/-- CHOIR_RESET_CMD (R262): CHOIR_CMD 0xE5 on the cantor sends RESET naming a boundary at least LEASE / 4 ahead. -/
def execChoirResetCmd (s : State) : Host.Outcome State Fault Refusal :=
  s.onDev Instr.choirResetCmd (Dev.oneWrite Dev.choirResetCmd)

/-- CLEAR_CHOIR_COUNTERS (R263): CHOIR_CMD 0xE7 clears the counters of the choir block. -/
def execClearChoirCounters (s : State) : Host.Outcome State Fault Refusal :=
  s.onDev Instr.clearChoirCounters (Dev.oneWrite Dev.clearChoirCounters)

end Sys2Proof.Machine
end

