-- ==== Sys2Proof/Machine/CmdConfiguration.lean ====
section
/-! DEFINITION.
The meanings of the commands of chapter 12.
-/

namespace Sys2Proof.Machine

/-- APPLY (R279): CFG_CMD 0xF1 starts validation of the inactive slot. -/
def execApply (s : State) : Host.Outcome State Fault Refusal :=
  s.onDev Instr.apply (Dev.oneWrite (Dev.startApply false))

/-- APPLY_LOAD (R279): CFG_CMD 0xF2 starts validation of the inactive slot, ending in a LOAD reset. -/
def execApplyLoad (s : State) : Host.Outcome State Fault Refusal :=
  s.onDev Instr.applyLoad (Dev.oneWrite (Dev.startApply true))

/-- CANCEL (R279): CFG_CMD 0xF3 in STAGED returns the apply state to IDLE. -/
def execCancel (s : State) : Host.Outcome State Fault Refusal :=
  s.onDev Instr.cancel (Dev.oneWrite Dev.cancelApply)

/-- PROGRAM_KEY_FUSES (R272): CFG_CMD 0xF7, once and with the seal open, programs KEY_HASH from FUSE_STAGE and sets KEY_SET. -/
def execProgramKeyFuses (s : State) : Host.Outcome State Fault Refusal :=
  s.onDev Instr.programKeyFuses (Dev.oneWrite Dev.programKeyFuses)

/-- VALIDATION_DONE (R273): Validation of an image completes, refusing it with a code or moving to STAGED or COMMITTING. `failed`
says that the NVM could not be read. -/
def execValidationDone (failed : Bool) (s : State) : Host.Outcome State Fault Refusal :=
  s.onDev (Instr.validationDone failed) (Dev.validationDone failed)

/-- COMMIT_COMPLETE (R279): The COMMITTING programs of audit record and marks complete past the commit point and the device is
ARMED. `step` is the program of COMMITTING that ends, and `failed` says that the NVM reports a failure. -/
def execCommitComplete (step : Nat) (s : State) (failed : Bool := false) : Host.Outcome State Fault Refusal :=
  s.onDev (Instr.commitComplete step failed) (Dev.commitComplete step failed)

/-- SWITCHING_BOUNDARY (R280): At the switching boundary every class I field takes its new value and atomic groups take effect. -/
def execSwitchingBoundary (s : State) : Host.Outcome State Fault Refusal :=
  s.onDev Instr.switchingBoundary Dev.switchingBoundary

/-- TRANSITION_END (R281): TRANS_REST periods have passed and every non-atomic group has settled, so the apply returns to IDLE. -/
def execTransitionEnd (s : State) : Host.Outcome State Fault Refusal :=
  s.onDev Instr.transitionEnd Dev.transitionEnd

end Sys2Proof.Machine
end

