-- ==== Sys2Proof/Machine/CmdHost.lean ====
section
/-! DEFINITION.
The meanings of the commands of the host port, chapters 13 and 17.
-/

namespace Sys2Proof.Machine

/-- LOW_WORD_READ (R4): A host read of the lowest word of a field wider than 32 bits captures the whole field into its snapshot. -/
def execLowWordRead (addr : Nat) (s : State) : Host.Outcome State Fault Refusal :=
  s.onDev (Instr.lowWordRead addr) (Dev.oneRead addr (Dev.lowWordRead addr))

/-- REGISTER_WRITE (R291): A host write word to a register with no row of its own applies its RW, W1C and CMD fields, ignores the
other fields and rejects attempted changes. `value` is the 32-bit word written. -/
def execRegisterWrite (addr : Nat) (value : Nat) (s : State) : Host.Outcome State Fault Refusal :=
  s.onDev (Instr.registerWrite addr value) (Dev.registerWrite addr value)

/-- RING_DATA_READ (R90): A host read of a ring data window snapshots the word at RD_PTR and, at 12 modulo 16, advances RD_PTR
and FILL. `upsets` lists the SRAM words in which reads find an error (1 corrected, 2 uncorrectable). -/
def execRingDataRead (ring : Nat) (offset : Nat) (s : State) (upsets : List (Nat × Nat) := []) : Host.Outcome State Fault Refusal :=
  s.onDev (Instr.ringDataRead ring offset upsets) (Dev.oneRead (0x100800 + 0x1000 * ring + offset) (fun d => Dev.windowRead ring offset (d.findUpsets upsets)))

/-- READ (R285): Host command 0x03 reads words on one line without turnaround. `late` is the number of the first word that is not
ready in time; `upsets` lists what the reads of memory find wrong. -/
def execRead (addr : Nat) (words : Nat) (late : Option Nat) (upsets : List (Nat × Nat)) (s : State) : Host.Outcome State Fault Refusal :=
  s.onDev (Instr.read addr words late upsets) (Dev.hostRead 0x03 addr words late upsets)

/-- FAST_READ (R285): Host command 0x0B reads words on one line after 8 turnaround cycles. `late` is the number of the first word
that is not ready in time; `upsets` lists what the reads of memory find wrong. -/
def execFastRead (addr : Nat) (words : Nat) (late : Option Nat) (upsets : List (Nat × Nat)) (s : State) : Host.Outcome State Fault Refusal :=
  s.onDev (Instr.fastRead addr words late upsets) (Dev.hostRead 0x0B addr words late upsets)

/-- QUAD_READ (R285): Host command 0x6B reads words with quad data after 8 turnaround cycles. `late` is the number of the first word
that is not ready in time; `upsets` lists what the reads of memory find wrong. -/
def execQuadRead (addr : Nat) (words : Nat) (late : Option Nat) (upsets : List (Nat × Nat)) (s : State) : Host.Outcome State Fault Refusal :=
  s.onDev (Instr.quadRead addr words late upsets) (Dev.hostRead 0x6B addr words late upsets)

/-- QIO_READ (R285): Host command 0xEB reads words with quad address and data after 8 turnaround cycles. `late` is the number of the
first word that is not ready in time; `upsets` lists what the reads of memory find wrong. -/
def execQioRead (addr : Nat) (words : Nat) (late : Option Nat) (upsets : List (Nat × Nat)) (s : State) : Host.Outcome State Fault Refusal :=
  s.onDev (Instr.qioRead addr words late upsets) (Dev.hostRead 0xEB addr words late upsets)

/-- WRITE (R285): Host command 0x02 writes words on one line. `bytes` follow the address; bit i of `full` says that the request FIFO
is full as word i arrives. -/
def execWrite (addr : Nat) (bytes : List Nat) (full : Nat) (s : State) : Host.Outcome State Fault Refusal :=
  s.onDev (Instr.write addr bytes full) (Dev.hostWrite 0x02 addr bytes full)

/-- QUAD_WRITE (R285): Host command 0x32 writes words with quad data. `bytes` follow the address; bit i of `full` says that the
request FIFO is full as word i arrives. -/
def execQuadWrite (addr : Nat) (bytes : List Nat) (full : Nat) (s : State) : Host.Outcome State Fault Refusal :=
  s.onDev (Instr.quadWrite addr bytes full) (Dev.hostWrite 0x32 addr bytes full)

/-- QIO_WRITE (R285): Host command 0x38 writes words with quad address and data. `bytes` follow the address; bit i of `full` says
that the request FIFO is full as word i arrives. -/
def execQioWrite (addr : Nat) (bytes : List Nat) (full : Nat) (s : State) : Host.Outcome State Fault Refusal :=
  s.onDev (Instr.qioWrite addr bytes full) (Dev.hostWrite 0x38 addr bytes full)

/-- STATUS (R293): Host command 0x05 returns the status byte repeatedly without crossing to FCK. -/
def execStatus (s : State) : Host.Outcome State Fault Refusal :=
  s.onDev Instr.status Dev.status

/-- UNKNOWN_COMMAND (R285): A command byte not in the table is ignored with access code 13. -/
def execUnknownCommand (code : Nat) (s : State) : Host.Outcome State Fault Refusal :=
  s.onDev (Instr.unknownCommand code) (Dev.unknownCommand code)

/-- UNREAD (R298): HOST_CMD 0x5A moves RD_PTR of the ring back by the words the last read access advanced. -/
def execUnread (ring : Nat) (s : State) : Host.Outcome State Fault Refusal :=
  s.onDev (Instr.unread ring) (Dev.unreadNow ring)

/-- PT_READ (R299): NVM_PT_CMD 0x31 reads LEN bytes from the NVM into NVM_PT_BUF. -/
def execPtRead (s : State) : Host.Outcome State Fault Refusal :=
  s.onDev Instr.ptRead (Dev.oneWrite Dev.ptRead)

/-- PT_PROGRAM (R299): NVM_PT_CMD 0x32 programs LEN bytes within one page, subject to the region rules. -/
def execPtProgram (s : State) : Host.Outcome State Fault Refusal :=
  s.onDev Instr.ptProgram (Dev.oneWrite Dev.ptProgram)

/-- PT_ERASE (R299): NVM_PT_CMD 0x33 erases a 4 KiB sector, subject to the region rules. -/
def execPtErase (s : State) : Host.Outcome State Fault Refusal :=
  s.onDev Instr.ptErase (Dev.oneWrite Dev.ptErase)

/-- SLOT_ERASE (R300): NVM_PT_CMD 0x34 erases the inactive slot, first sector first. -/
def execSlotErase (s : State) : Host.Outcome State Fault Refusal :=
  s.onDev Instr.slotErase (Dev.oneWrite Dev.slotErase)

/-- PT_DONE (R301): A pass-through operation completes and NVM_PT_STATUS records its result. `failed` says that the NVM reports a
failure. -/
def execPtDone (failed : Bool) (s : State) : Host.Outcome State Fault Refusal :=
  s.onDev (Instr.ptDone failed) (Dev.ptDone failed)

/-- PT_TIMEOUT (R301): A program, erase or slot erase exceeds its time limit, ends with RESULT 5 and records fault 0x0906. -/
def execPtTimeout (s : State) : Host.Outcome State Fault Refusal :=
  s.onDev Instr.ptTimeout Dev.ptTimeout

/-- EXTEST (R302): JTAG EXTEST takes effect and holds the functional logic in reset. -/
def execExtest (s : State) : Host.Outcome State Fault Refusal :=
  s.onDev Instr.extest Dev.extest

/-- IDCODE (R302): JTAG IDCODE selects the IDCODE register without effect on the device. -/
def execIdcode (s : State) : Host.Outcome State Fault Refusal :=
  s.onDev Instr.idcode Dev.idcode

/-- SAMPLE_PRELOAD (R302): JTAG SAMPLE/PRELOAD takes effect without effect on the device. -/
def execSamplePreload (s : State) : Host.Outcome State Fault Refusal :=
  s.onDev Instr.samplePreload Dev.samplePreload

/-- CLAMP (R302): JTAG CLAMP takes effect and holds the functional logic in reset. -/
def execClamp (s : State) : Host.Outcome State Fault Refusal :=
  s.onDev Instr.clamp Dev.clamp

/-- HIGHZ (R302): JTAG HIGHZ takes effect and holds the functional logic in reset. -/
def execHighz (s : State) : Host.Outcome State Fault Refusal :=
  s.onDev Instr.highz Dev.highz

/-- BYPASS (R302): JTAG BYPASS takes effect without effect on the device. -/
def execBypass (s : State) : Host.Outcome State Fault Refusal :=
  s.onDev Instr.bypass Dev.bypass

/-- PRIVATE_INSTRUCTION (R303): A private JTAG instruction loads BYPASS with the seal intact, or enters the safe state and clears
SRAM with the seal open. -/
def execPrivateInstruction (code : Nat) (s : State) : Host.Outcome State Fault Refusal :=
  s.onDev (Instr.privateInstruction code) (Dev.privateInstruction code)

/-- JTAG_INSTRUCTION_LEAVE (R302): The instruction register leaves EXTEST, CLAMP, HIGHZ or a private instruction and a PIN reset
follows. -/
def execJtagInstructionLeave (s : State) : Host.Outcome State Fault Refusal :=
  s.onDev Instr.jtagInstructionLeave Dev.jtagInstructionLeave

end Sys2Proof.Machine
end

