-- ==== Sys2Proof/Machine/CmdLink.lean ====
section
/-! DEFINITION.
The meanings of the commands of the link ports, chapter 11.
-/

namespace Sys2Proof.Machine

/-- LANE_SIGNAL_DETECT (R234): A lane receiver sees transitions and a training attempt begins. -/
def execLaneSignalDetect (port : Nat) (lane : Nat) (s : State) : Host.Outcome State Fault Refusal :=
  s.onDev (Instr.laneSignalDetect port lane) (Dev.laneSignalDetect port lane)

/-- LANE_ALIGN (R234): 32 consecutive K28.5 at one alignment move the lane from ALIGN to EXCHANGE. `codes` are the line codes.
-/
def execLaneAlign (port : Nat) (lane : Nat) (s : State) (codes : List Nat := []) : Host.Outcome State Fault Refusal :=
  s.onDev (Instr.laneAlign port lane codes) (Dev.laneAlign port lane codes)

/-- TRAINING_SET (R234): A received TS1 or TS2 is checked against the lane and advances EXCHANGE or CONFIRM. `codes` are the
four line codes of the set, `sent` is how many TS2 the lane has sent in CONFIRM, and `deskewed` says that lane 1 is deskewed. -/
def execTrainingSet (port : Nat) (lane : Nat) (codes : List Nat) (sent : Nat) (deskewed : Bool) (s : State) : Host.Outcome State Fault Refusal :=
  s.onDev (Instr.trainingSet port lane codes sent deskewed) (Dev.trainingSet port lane codes sent deskewed)

/-- TRAINING_TIMEOUT (R234): A training attempt ends after 4 ms and lanes not UP record fault 0x0801. -/
def execTrainingTimeout (port : Nat) (s : State) : Host.Outcome State Fault Refusal :=
  s.onDev (Instr.trainingTimeout port) (Dev.trainingTimeout port)

/-- TRAINING_RETRY (R235): 1 ms after a failed attempt the next training attempt starts. -/
def execTrainingRetry (port : Nat) (s : State) : Host.Outcome State Fault Refusal :=
  s.onDev (Instr.trainingRetry port) (Dev.trainingRetry port)

/-- LANE_SIGNAL_LOSS (R236): Loss of signal or of character alignment on a lane retrains the port. -/
def execLaneSignalLoss (port : Nat) (s : State) : Host.Outcome State Fault Refusal :=
  s.onDev (Instr.laneSignalLoss port) (Dev.laneSignalLoss port)

/-- CODE_VIOLATION_LIMIT (R236): 16 code or disparity violations within 2^16 words record fault 0x0803 and retrain the port.
`codes` are the line codes that the lane took, from a running disparity that is positive when `disparity` is true. -/
def execCodeViolationLimit (port : Nat) (lane : Nat) (disparity : Bool) (s : State) (codes : List Nat := []) : Host.Outcome State Fault Refusal :=
  s.onDev (Instr.codeViolationLimit port lane disparity codes) (Dev.codeViolationLimit port lane disparity codes)

/-- ONE_LANE_RETRAIN (R236): A port that has run on one lane for 1 s retrains once. -/
def execOneLaneRetrain (port : Nat) (s : State) : Host.Outcome State Fault Refusal :=
  s.onDev (Instr.oneLaneRetrain port) (Dev.oneLaneRetrain port)

/-- FRAME_RX (R237): A frame arrives on a port, is checked, acknowledged or NAKed, and deduplicated for delivery. `bytes` are LSEQ,
HOPS, the check byte and the characters up to the CRC; `aborted` says that the frame ends in K30.7. -/
def execFrameRx (port : Nat) (bytes : List Nat) (aborted : Bool) (s : State) : Host.Outcome State Fault Refusal :=
  s.onDev (Instr.frameRx port bytes aborted) (Dev.frameRx port bytes aborted)

/-- ACK (R238): A received ACK set releases the acknowledged frames from the replay buffer. -/
def execAck (port : Nat) (lseq : Nat) (s : State) : Host.Outcome State Fault Refusal :=
  s.onDev (Instr.ack port lseq) (Dev.ackRx port lseq)

/-- NAK (R238): A received NAK set acknowledges earlier frames and starts a replay from its LSEQ. `upsets` lists the SRAM words
in which reads find an error (1 corrected, 2 uncorrectable). -/
def execNak (port : Nat) (lseq : Nat) (s : State) (upsets : List (Nat × Nat) := []) : Host.Outcome State Fault Refusal :=
  s.onDev (Instr.nak port lseq upsets) (fun d => Dev.nakRx port lseq (d.readState (3 + port) upsets))

/-- ACK_TIMER (R238): 1 us passes with unacknowledged good frames and an ACK is sent. -/
def execAckTimer (port : Nat) (s : State) : Host.Outcome State Fault Refusal :=
  s.onDev (Instr.ackTimer port) (Dev.ackTimer port)

/-- REPLAY_TIMEOUT (R239): The oldest held frame is unacknowledged 4 us after it was sent and the held frames are resent.
`upsets` lists the SRAM words in which reads find an error (1 corrected, 2 uncorrectable). -/
def execReplayTimeout (port : Nat) (s : State) (upsets : List (Nat × Nat) := []) : Host.Outcome State Fault Refusal :=
  s.onDev (Instr.replayTimeout port upsets) (fun d => Dev.replayTimeout port (d.readState (3 + port) upsets))

/-- RETRAIN_PORT (R236): CHOIR_CMD 0xE1 retrains port PORT. -/
def execRetrainPort (port : Nat) (s : State) : Host.Outcome State Fault Refusal :=
  s.onDev (Instr.retrainPort port) (Dev.oneWrite (Dev.retrainPort port))

end Sys2Proof.Machine
end

