-- ==== Sys2Proof/Machine/CmdLog.lean ====
section
/-! DEFINITION.
The meanings of the commands of chapter 14.
-/

namespace Sys2Proof.Machine

/-- CALENDAR_SECOND (R306): Every 32,768 KCK the calendar advances one second and captures CAL_SECOND. -/
def execCalendarSecond (s : State) : Host.Outcome State Fault Refusal :=
  s.onDev Instr.calendarSecond Dev.calendarSecond

/-- SET_CALENDAR (R307): CAL_CMD 0xC8 checks CAL_SET and accepts or rejects the calendar write. -/
def execSetCalendar (s : State) : Host.Outcome State Fault Refusal :=
  s.onDev Instr.setCalendar (Dev.oneWrite Dev.setCalendar)

/-- CAL_WRITE_APPLY (R307): An accepted calendar write takes effect at the second KCK after it is seen, and a CAL_WRITE record is
written. -/
def execCalWriteApply (s : State) : Host.Outcome State Fault Refusal :=
  s.onDev Instr.calWriteApply Dev.calWriteApply

/-- KCK_STOP (R308): 8,192 RCK pass without a KCK edge, VALID becomes 0 and fault 0x0A02 is recorded. -/
def execKckStop (s : State) : Host.Outcome State Fault Refusal :=
  s.onDev Instr.kckStop Dev.kckStop

/-- LOG_RECORD_WRITE (R312): A queued journal record is programmed into the ACTIVE sector, opening the next sector when needed.
`outcome` is 0 done, 1 the program fails, 2 the sector to be opened is bad. -/
def execLogRecordWrite (outcome : Nat) (s : State) : Host.Outcome State Fault Refusal :=
  s.onDev (Instr.logRecordWrite outcome) (Dev.logRecordWrite outcome)

/-- COLLECTION (R315): The oldest journal sector is collected, its retained records copied and the sector erased. `outcome` is 0
done, 1 the program fails, 2 the sector to be opened is bad. -/
def execCollection (outcome : Nat) (s : State) : Host.Outcome State Fault Refusal :=
  s.onDev (Instr.collection outcome) (Dev.collection outcome)

/-- NVM_RETRY (R320): Every 100 ms during an NVM hold the failed log operation is retried. `outcome` is 0 done, 1 the program fails,
2 the sector to be opened is bad. -/
def execNvmRetry (outcome : Nat) (s : State) : Host.Outcome State Fault Refusal :=
  s.onDev (Instr.nvmRetry outcome) (Dev.nvmRetry outcome)

/-- TOTALISER_PHASE1 (R319): A totaliser entry has been programmed with COMMIT 0xFF and phase 2 follows. `outcome` is 0 done, 1 the
program fails, 2 the sector to be opened is bad. -/
def execTotaliserPhase1 (outcome : Nat) (s : State) : Host.Outcome State Fault Refusal :=
  s.onDev (Instr.totaliserPhase1 outcome) (Dev.totaliserPhase1 outcome)

/-- TOTALISER_PHASE2 (R319): COMMIT is programmed to 0x00 and TOTAL and the other values take effect. `outcome` is 0 done, 1 the
program fails, 2 the sector to be opened is bad. -/
def execTotaliserPhase2 (outcome : Nat) (s : State) : Host.Outcome State Fault Refusal :=
  s.onDev (Instr.totaliserPhase2 outcome) (Dev.totaliserPhase2 outcome)

/-- LOAD_RECORD (R322): LOG_CMD 0xC1 loads the record with the lowest RSEQ at or above LOG_CUR into LOG_WINDOW. -/
def execLoadRecord (s : State) : Host.Outcome State Fault Refusal :=
  s.onDev Instr.loadRecord (Dev.oneWrite Dev.loadRecord)

/-- LOAD_AUDIT_RECORD (R322): LOG_CMD 0xC3 loads audit record AUDIT_SEL into AUDIT_WINDOW. -/
def execLoadAuditRecord (s : State) : Host.Outcome State Fault Refusal :=
  s.onDev Instr.loadAuditRecord (Dev.oneWrite Dev.loadAuditRecord)

/-- LOG_LOAD_DONE (R322): A log or audit load completes and LOG_READ.RESULT is set. -/
def execLogLoadDone (failed : Bool) (s : State) : Host.Outcome State Fault Refusal :=
  s.onDev (Instr.logLoadDone failed) (Dev.logLoadDone failed)

end Sys2Proof.Machine
end

