-- ==== Sys2Proof/Machine/CmdMonitors.lean ====
section
/-! DEFINITION.
The meanings of the commands of chapter 6.
-/

namespace Sys2Proof.Machine

/-- EXCITER_TRIP (R118): The unclocked trip signal drives the exciter to SAFE, sets its hold and counts the assertion. -/
def execExciterTrip (exciter : Nat) (s : State) : Host.Outcome State Fault Refusal :=
  s.onDev (Instr.exciterTrip exciter) (Dev.exciterTrip exciter)

/-- CLASSIFIER_CONDITION (R120): The classifier sees a monitor's CLASS_COND level for two samples, records fault 0x0301 and makes
the LOSS_MASK periods rests with reason 4. `level` is 0 INSIDE, 1 BELOW, 2 ABOVE. -/
def execClassifierCondition (monitor : Nat) (level : Nat) (s : State) : Host.Outcome State Fault Refusal :=
  s.onDev (Instr.classifierCondition monitor level) (Dev.classifierCondition monitor level)

/-- OPEN_WIRE_CHECK (R121): At the FCK in which Q_x rises, the pulse is checked for BELOW and CHECK_FAIL is updated. `below` is the
mask of the monitors on which the classifier sees BELOW. -/
def execOpenWireCheck (exciter : Nat) (below : Nat) (s : State) : Host.Outcome State Fault Refusal :=
  s.onDev (Instr.openWireCheck exciter below) (Dev.openWireCheck exciter below)

/-- MONITOR_SETTLED (R124): The settling time of a monitor elapses and it goes to TESTING or READY. -/
def execMonitorSettled (monitor : Nat) (s : State) : Host.Outcome State Fault Refusal :=
  s.onDev (Instr.monitorSettled monitor) (Dev.monitorSettled monitor)

/-- SELF_TEST_STEP (R123): A self-test step has settled and sampled 16 FCK, and the test passes, moves on or fails to RETEST or
FAILED. `upper` and `lower` are the 16 samples of the two comparators. -/
def execSelfTestStep (monitor : Nat) (upper : Nat) (lower : Nat) (s : State) : Host.Outcome State Fault Refusal :=
  s.onDev (Instr.selfTestStep monitor upper lower) (Dev.selfTestStep monitor upper lower)

/-- WM_SELF_TEST (R125): WM_CMD 0x61 starts a self-test of every monitor in MASK. -/
def execWmSelfTest (mask : Nat) (s : State) : Host.Outcome State Fault Refusal :=
  s.onDev (Instr.wmSelfTest mask) (Dev.oneWrite (Dev.wmSelfTest mask))

/-- MONITOR_BOTH_HIGH (R124): The classifier sees 0b11 on a READY monitor for two samples, records fault 0x0304 and starts a test. -/
def execMonitorBothHigh (monitor : Nat) (s : State) : Host.Outcome State Fault Refusal :=
  s.onDev (Instr.monitorBothHigh monitor) (Dev.monitorBothHigh monitor)

/-- EXCITER_START (R126): The start instant S of an exciter schedule arrives and the schedule starts. -/
def execExciterStart (exciter : Nat) (s : State) : Host.Outcome State Fault Refusal :=
  s.onDev (Instr.exciterStart exciter) (Dev.exciterStart exciter)

/-- PULSE_START (R118): A scheduled pulse start clears the hold if the trip is deasserted and the output follows the schedule.
`trip` says whether the synchronised trip signal is asserted. -/
def execPulseStart (exciter : Nat) (trip : Bool) (s : State) : Host.Outcome State Fault Refusal :=
  s.onDev (Instr.pulseStart exciter trip) (Dev.pulseStart exciter trip)

/-- PULSE_END (R126): The active phase of a pulse ends and, after the last pulse, the schedule ends and the exciter goes IDLE. -/
def execPulseEnd (exciter : Nat) (s : State) : Host.Outcome State Fault Refusal :=
  s.onDev (Instr.pulseEnd exciter) (Dev.pulseEnd exciter)

/-- SWEEP_HALF_PERIOD (R127): A half-period H_j of a sweep cycle elapses and the output toggles or the sweep moves to its next step.
`trip` says whether the synchronised trip signal is asserted. -/
def execSweepHalfPeriod (exciter : Nat) (trip : Bool) (s : State) : Host.Outcome State Fault Refusal :=
  s.onDev (Instr.sweepHalfPeriod exciter trip) (Dev.sweepHalfPeriod exciter trip)

end Sys2Proof.Machine
end

