-- ==== Sys2Proof/Machine/CmdPeriods.lean ====
section
/-! DEFINITION.
The meanings of the commands of chapter 7.
-/

namespace Sys2Proof.Machine

/-- STAMP_ACCUMULATE (R137): The fit engine takes a stamp from the stamp stream ahead of the ring writer into the running sums
of its contexts. `upsets` lists the SRAM words in which reads find an error (1 corrected, 2 uncorrectable). -/
def execStampAccumulate (voice : Nat) (s : State) (upsets : List (Nat × Nat) := []) : Host.Outcome State Fault Refusal :=
  s.onDev (Instr.stampAccumulate voice upsets) (fun d => Dev.stampAccumulate voice (d.readState (5 + voice) upsets))

/-- PERIOD_BOUNDARY (R134): The coarse count reaches a timer boundary, BOUND markers are placed, PCOUNT advances and contexts move
their sums to closeout. -/
def execPeriodBoundary (timer : Nat) (s : State) : Host.Outcome State Fault Refusal :=
  s.onDev (Instr.periodBoundary timer) (Dev.periodBoundary timer)

/-- CLOSEOUT (R147): Once the markers have left the FIFOs, the closeout unit solves a context and writes its RING_16 entry. `parity`
is the mask of voices whose tuning table is read with a parity error, `upsets` lists the SRAM words in which reads find an error
(1 corrected, 2 uncorrectable), `chains` is the mask of the Allan chains that an uncorrectable word held. -/
def execCloseout (parity : Nat) (upsets : List (Nat × Nat)) (chains : Nat) (s : State) : Host.Outcome State Fault Refusal :=
  s.onDev (Instr.closeout parity upsets chains) (Dev.closeout parity upsets chains)

/-- CLOSEOUT_DEADLINE (R147): Deadline D is reached, unfinished contexts become rests with reason 1 and fault 0x0501 is recorded. -/
def execCloseoutDeadline (timer : Nat) (s : State) : Host.Outcome State Fault Refusal :=
  s.onDev (Instr.closeoutDeadline timer) (Dev.deadline timer)

/-- VOICE_SILENT (R146): No counted edge for SILENCE_MAX sets SILENT and records fault 0x0510. -/
def execVoiceSilent (voice : Nat) (s : State) : Host.Outcome State Fault Refusal :=
  s.onDev (Instr.voiceSilent voice) (Dev.voiceSilent voice)

/-- CLEAR_ALLAN_CTX (R144): FIT_CMD 0x81 clears the Allan accumulators of context CTX. -/
def execClearAllanCtx (context : Nat) (s : State) : Host.Outcome State Fault Refusal :=
  s.onDev (Instr.clearAllanCtx context) (Dev.oneWrite (Dev.clearAllanCtx context))

/-- CLEAR_ALLAN_ALL (R144): FIT_CMD 0x82 clears the Allan accumulators of every context. -/
def execClearAllanAll (s : State) : Host.Outcome State Fault Refusal :=
  s.onDev Instr.clearAllanAll (Dev.oneWrite Dev.clearAllanAll)

/-- CLEAR_REST_COUNTS (R148): FIT_CMD 0x83 clears every REST_COUNT. -/
def execClearRestCounts (s : State) : Host.Outcome State Fault Refusal :=
  s.onDev Instr.clearRestCounts (Dev.oneWrite Dev.clearRestCounts)

end Sys2Proof.Machine
end

