-- ==== Sys2Proof/Machine/CmdPower.lean ====
section
/-! DEFINITION.
The meanings of the commands of chapters 1, 2, 15 and 16.
-/

namespace Sys2Proof.Machine

/-- SCRUB (R17): The scrubber reads an SRAM word on an unused read cycle, corrects a single-bit error and writes it back when the
write port is idle. `outcome` is 1 for a corrected error and 2 for an uncorrectable word, `user` the reader whose state the word
holds. -/
def execScrub (bank : Nat) (row : Nat) (column : Nat) (outcome : Nat) (user : Nat) (s : State) : Host.Outcome State Fault Refusal :=
  s.onDev (Instr.scrub bank row column outcome user) (Dev.scrub bank row column outcome user)

/-- ROW_REPLACEMENT_DONE (R334): The copy of a failing SRAM row into a spare row completes and the spare row takes over. -/
def execRowReplacementDone (bank : Nat) (row : Nat) (s : State) : Host.Outcome State Fault Refusal :=
  s.onDev (Instr.rowReplacementDone bank row) (Dev.rowReplacementDone bank row)

/-- POWER_GOOD_RISE (R34): All five main rails have stayed above their thresholds for 4,000 RCK, power-good rises and a POR boot
begins. `straps` are the levels of ADDR_STRAP[0..3], `testEn` that of TEST_EN. -/
def execPowerGoodRise (straps : Nat) (testEn : Bool) (s : State) : Host.Outcome State Fault Refusal :=
  s.onDev (Instr.powerGoodRise straps testEn) (Dev.powerGoodRise straps testEn)

/-- POWER_GOOD_FALL (R37): A main rail falls below its threshold, power-good falls, MAIN_LOSS and LOST_RAIL are recorded and the
device enters BACKUP. Bit i of `rails` is the rail of LOST_RAIL code i + 1. -/
def execPowerGoodFall (rails : Nat) (s : State) : Host.Outcome State Fault Refusal :=
  s.onDev (Instr.powerGoodFall rails) (Dev.powerGoodFall rails)

/-- VBAT_LOW (R37): VBAT falls below its monitoring threshold while power-good is high and SUPPLY_EVENT.VBAT_LOW is set. -/
def execVbatLow (s : State) : Host.Outcome State Fault Refusal :=
  s.onDev Instr.vbatLow Dev.vbatLow

/-- BOOT_STEP_COMPLETE (R20): A boot step completes and the steps that depend on it start. `info` is what the step finds: step 1 the
class of VDDIO_V; step 5 the capacity (as a power of 2), the read instruction and its dummy cycles; step 7 whether an audit
program fails, and the mask of the slots that cannot be read. -/
def execBootStepComplete (number : Nat) (info : List Nat) (s : State) : Host.Outcome State Fault Refusal :=
  s.onDev (Instr.bootStepComplete number info) (Dev.bootStepComplete number info)

/-- FIRST_PERIOD (R21): After boot the device computes epsilon and starts its first period. -/
def execFirstPeriod (s : State) : Host.Outcome State Fault Refusal :=
  s.onDev Instr.firstPeriod Dev.firstPeriod

/-- PIN_RESET (R339): RESET_N low causes a PIN reset that boots from step 2. -/
def execPinReset (s : State) : Host.Outcome State Fault Refusal :=
  s.onDev Instr.pinReset Dev.pinReset

/-- SOFT_RESET (R339): POWER_CMD 0x4F causes a SOFT reset at the rise of HSPI_CS_N that ends the access. -/
def execSoftReset (s : State) : Host.Outcome State Fault Refusal :=
  s.onDev Instr.softReset Dev.softReset

/-- CHOIR_RESET (R262): At the boundary named by a delivered CMD RESET, every device performs a CHOIR reset. -/
def execChoirReset (s : State) : Host.Outcome State Fault Refusal :=
  s.onDev Instr.choirReset Dev.choirReset

/-- STRAP_CHANGE (R31): A strap level differs from the sampled address and STRAP_STATUS.CHANGED is set. `levels` are those of
ADDR_STRAP[0..3]. -/
def execStrapChange (levels : Nat) (s : State) : Host.Outcome State Fault Refusal :=
  s.onDev (Instr.strapChange levels) (Dev.strapChange levels)

/-- SEAL_CHANGE (R32): SEAL_N has held a new level for 2^22 FCK and the debounced seal state changes. `level` is the debounced
SEAL_OPEN. -/
def execSealChange (level : Bool) (s : State) : Host.Outcome State Fault Refusal :=
  s.onDev (Instr.sealChange level) (Dev.sealChange level)

/-- RE_ADMIT (R332): FAULT_CMD 0x21 re-admits a retired source on probation. `source` is the SRC of R329. -/
def execReAdmit (source : Nat) (s : State) : Host.Outcome State Fault Refusal :=
  s.onDev (Instr.reAdmit source) (Dev.oneWrite (Dev.reAdmit source))

/-- CLEAR_SRAM_CORR (R334): FAULT_CMD 0x23 clears SRAM_CORR. -/
def execClearSramCorr (s : State) : Host.Outcome State Fault Refusal :=
  s.onDev Instr.clearSramCorr (Dev.oneWrite Dev.clearSramCorr)

/-- RING_LOCK_TIMEOUT (R335): No word of a locked entry is offered for 64 FCK, so the lock is broken and the partial entry
discarded. -/
def execRingLockTimeout (ring : Nat) (s : State) : Host.Outcome State Fault Refusal :=
  s.onDev (Instr.ringLockTimeout ring) (Dev.lockTimeout ring)

/-- HOLD (R342): POWER_CMD 0x41 enters HOLD, stopping periods with rests of reason 12. -/
def execHold (s : State) : Host.Outcome State Fault Refusal :=
  s.onDev Instr.hold (Dev.oneWrite Dev.hold)

/-- RUN (R341): POWER_CMD 0x42 returns from HOLD to RUN. -/
def execRun (s : State) : Host.Outcome State Fault Refusal :=
  s.onDev Instr.run (Dev.oneWrite Dev.run)

/-- STANDBY (R343): POWER_CMD 0x44 starts STANDBY entry, waiting for operations in progress. -/
def execStandby (s : State) : Host.Outcome State Fault Refusal :=
  s.onDev Instr.standby (Dev.oneWrite Dev.standby)

/-- STANDBY_ENTRY_COMPLETE (R343): Operations in progress finish or 1 s passes, SCK is gated with C_0 stored and the clocks stop. -/
def execStandbyEntryComplete (s : State) : Host.Outcome State Fault Refusal :=
  s.onDev Instr.standbyEntryComplete Dev.standbyEntryComplete

/-- RESUME (R344): POWER_CMD 0x45 starts a resume from STANDBY. -/
def execResume (s : State) : Host.Outcome State Fault Refusal :=
  s.onDev Instr.resume Dev.resume

/-- WAKE (R341): A rising edge of WAKE in STANDBY starts a resume. -/
def execWake (s : State) : Host.Outcome State Fault Refusal :=
  s.onDev Instr.wake Dev.wake

/-- RESUME_STEP_COMPLETE (R344): A resume step completes and the coarse count is set, the dependent steps starting. `kck` is the KCK
count of step 4. -/
def execResumeStepComplete (number : Nat) (kck : Nat) (s : State) : Host.Outcome State Fault Refusal :=
  s.onDev (Instr.resumeStepComplete number kck) (Dev.resumeStepComplete number kck)

/-- DIE_TEMP_MEASURE (R368): Every 1 ms the junction temperature is measured into DIE_TEMP and TMAX. `temperature` is a signed
16-bit value in 1/16 °C. -/
def execDieTempMeasure (temperature : Nat) (s : State) : Host.Outcome State Fault Refusal :=
  s.onDev (Instr.dieTempMeasure temperature) (Dev.dieTempMeasure temperature)

/-- RESET_N_RISE (R20): RESET_N returns high after a PIN reset, or after power-good rose while it was low, and the boot proceeds
from its step. -/
def execResetNRise (s : State) : Host.Outcome State Fault Refusal :=
  s.onDev Instr.resetNRise Dev.resetNRise

/-- BACKUP_DOMAIN_LOSS (R7): VBAT is lost while the main supplies are absent, so every class B field returns to its reset value and
the calendar restarts invalid at 2000-01-01. -/
def execBackupDomainLoss (s : State) : Host.Outcome State Fault Refusal :=
  s.onDev Instr.backupDomainLoss Dev.backupDomainLoss

end Sys2Proof.Machine
end

