-- ==== Sys2Proof/Machine/CmdTimebase.lean ====
section
/-! DEFINITION.
The meanings of the commands of chapter 3.
-/

namespace Sys2Proof.Machine

/-- XTAL_FAIL (R64): No crystal cycle, or FPLL lock lost, for 2 RCK moves FCK to RCK, gates SCK and enters the safe state. `cause`
is 0 for the crystal and 1 for FPLL. -/
def execXtalFail (cause : Nat) (s : State) : Host.Outcome State Fault Refusal :=
  s.onDev (Instr.xtalFail cause) (Dev.xtalFail cause)

/-- REFERENCE_SWITCH (R58): A planned switch at a boundary or a forced switch closes the SCK gate and moves the SPLL PFD to the new
reference. `count` is the coarse count at which the gate closes. -/
def execReferenceSwitch (count : Nat) (s : State) : Host.Outcome State Fault Refusal :=
  s.onDev (Instr.referenceSwitch count) (Dev.referenceSwitch count)

/-- SPLL_LOCK_DETECT (R58): The SPLL phase error stays below 625 ps for 64 PFD cycles and lock detect is seen in FCK. -/
def execSpllLockDetect (s : State) : Host.Outcome State Fault Refusal :=
  s.onDev Instr.spllLockDetect Dev.spllLockDetect

/-- WINDOW_CHECK (R60): After 256 reference cycles the SPLL output count is checked, and the gate opens or the check repeats.
`count` is that of SPLL output / 8 over 256 reference cycles. -/
def execWindowCheck (count : Nat) (s : State) : Host.Outcome State Fault Refusal :=
  s.onDev (Instr.windowCheck count) (Dev.windowCheck count)

/-- SPLL_SWITCH_TIMEOUT (R61): Lock detect or the window check has not passed 2 ms after step 4 and fault 0x0410 or 0x0411 is
recorded. -/
def execSpllSwitchTimeout (s : State) : Host.Outcome State Fault Refusal :=
  s.onDev Instr.spllSwitchTimeout Dev.spllSwitchTimeout

/-- OVERSPEED (R60): The overspeed guard count over 1,024 FCK reaches 414, records fault 0x0412 and starts a forced switch. `count`
is the coarse count at which the gate closes. -/
def execOverspeed (count : Nat) (s : State) : Host.Outcome State Fault Refusal :=
  s.onDev (Instr.overspeed count) (Dev.overspeed count)

/-- OCXO_WINDOW (R50): A 1 s stability window ends, y_k and delta y_k are reported and the OCXO state moves. `periods` REF_IN
periods took `ticks` × 0.8 ns. -/
def execOcxoWindow (periods : Nat) (ticks : Nat) (s : State) : Host.Outcome State Fault Refusal :=
  s.onDev (Instr.ocxoWindow periods ticks) (Dev.ocxoWindow periods ticks)

/-- REF_IN_LOST (R52): No REF_IN edge arrives within 100 FCK, the OCXO leaves STABLE and a forced switch to the crystal starts. -/
def execRefInLost (s : State) : Host.Outcome State Fault Refusal :=
  s.onDev Instr.refInLost Dev.refInLost

/-- OCXO_RDY_CHANGE (R49): OCXO_RDY rises or falls and, with RDY_USE 1, gates the stability check or fails the reference. -/
def execOcxoRdyChange (level : Bool) (s : State) : Host.Outcome State Fault Refusal :=
  s.onDev (Instr.ocxoRdyChange level) (Dev.ocxoRdyChange level)

/-- WARMUP_LATE (R53): The OCXO has not reached STABLE within WARMUP_MAX seconds and fault 0x0405 is recorded. -/
def execWarmupLate (s : State) : Host.Outcome State Fault Refusal :=
  s.onDev Instr.warmupLate Dev.warmupLate

/-- TB_RESTART_CHECK (R51): TB_CMD 0xC1 restarts the stability check and returns the OCXO to WAIT. -/
def execTbRestartCheck (s : State) : Host.Outcome State Fault Refusal :=
  s.onDev Instr.tbRestartCheck (Dev.oneWrite Dev.tbRestartCheck)

/-- REF_IN_EDGES_PRESENT (R51): REF_IN edges appear while the OCXO is in WAIT, and with RDY_USE 0, or with OCXO_RDY already 1, the
stability check begins in CHECKING. -/
def execRefInEdgesPresent (s : State) : Host.Outcome State Fault Refusal :=
  s.onDev Instr.refInEdgesPresent Dev.refInEdgesPresent

end Sys2Proof.Machine
end

