-- ==== Sys2Proof/Machine/CmdTrack.lean ====
section
/-! DEFINITION.
The meanings of the commands of chapter 10.
-/

namespace Sys2Proof.Machine

/-- TRACK_STAMP (R210): The track channel takes a VOICE[15] or VOICE[14] stamp, updating the cell timing loop, frame marks and
head position. `upsets` lists the SRAM words in which reads find an error (1 corrected, 2 uncorrectable). -/
def execTrackStamp (voice : Nat) (s : State) (upsets : List (Nat × Nat) := []) : Host.Outcome State Fault Refusal :=
  s.onDev (Instr.trackStamp voice upsets) (fun d => Dev.trackStamp voice (d.readState 2 upsets))

/-- FRAME_DECODE (R213): A collected frame is decoded by detector and LDPC iterations until it is accepted or fails. `upsets`
lists the SRAM words in which reads find an error (1 corrected, 2 uncorrectable). -/
def execFrameDecode (s : State) (upsets : List (Nat × Nat) := []) : Host.Outcome State Fault Refusal :=
  s.onDev (Instr.frameDecode upsets) (fun d => Dev.frameDecode (d.readState 2 upsets))

/-- FRAME_LATE (R215): A frame not ended by its deadline D_f is dropped, counted and records fault 0x0702. -/
def execFrameLate (s : State) : Host.Outcome State Fault Refusal :=
  s.onDev Instr.frameLate Dev.frameLate

/-- SHOCK (R222): The classifier path sees WM[5] in SHOCK_COND and marks SHOCK on the zone in progress. -/
def execShock (s : State) : Host.Outcome State Fault Refusal :=
  s.onDev Instr.shock Dev.shock

/-- DROPOUT (R212): The classifier path sees WM[7] BELOW and the bits over that time are erased. WM[7] was BELOW from coarse count
`first` to `last`. -/
def execDropout (first : Nat) (last : Nat) (s : State) : Host.Outcome State Fault Refusal :=
  s.onDev (Instr.dropout first last) (Dev.dropout first last)

/-- LEARN_RUN_START (R226): A requested profile learning run begins at the next pass of the bridge point through 0. -/
def execLearnRunStart (s : State) : Host.Outcome State Fault Refusal :=
  s.onDev Instr.learnRunStart Dev.learnRunStart

/-- LEARN_PROFILE (R226): TRACK_CMD 0xD1 requests a profile learning run. -/
def execLearnProfile (s : State) : Host.Outcome State Fault Refusal :=
  s.onDev Instr.learnProfile (Dev.oneWrite Dev.learnProfile)

/-- CLEAR_PROV (R224): TRACK_CMD 0xD3 sets PROV and PROV_COUNT to 0 and logs the cleared values. -/
def execClearProv (s : State) : Host.Outcome State Fault Refusal :=
  s.onDev Instr.clearProv (Dev.oneWrite Dev.clearProv)

/-- EMPTY_WEAK_MAP (R225): TRACK_CMD 0xD4, with the seal open, empties the weak-segment map. -/
def execEmptyWeakMap (s : State) : Host.Outcome State Fault Refusal :=
  s.onDev Instr.emptyWeakMap (Dev.oneWrite Dev.emptyWeakMap)

/-- REACQUIRE (R218): TRACK_CMD 0xD5 sends the track channel to ACQUIRE. -/
def execReacquire (s : State) : Host.Outcome State Fault Refusal :=
  s.onDev Instr.reacquire (Dev.oneWrite Dev.reacquire)

end Sys2Proof.Machine
end

