-- ==== Sys2Proof/Machine/CmdTuning.lean ====
section
/-! DEFINITION.
The meanings of the commands of chapter 5.
-/

namespace Sys2Proof.Machine

/-- TUNING_HIT (R97): A tuning oscillator edge injected into a clear slot is decoded and added to the histogram bin of its fine
code. `slot` is the coarse count of the SCK slot, `runs` the thermometer code from 1 SCK before it to 1 SCK after it as runs of
equal bits. `busy` says that the comma window of a link sampler lies in the slot. -/
def execTuningHit (context : Nat) (slot : Nat) (runs : List (Bool × Nat)) (s : State) (busy : Bool := false) : Host.Outcome State Fault Refusal :=
  s.onDev (Instr.tuningHit context slot runs busy) (Dev.tuningHit context slot runs busy)

/-- TABLE_SWAP (R102): A passed candidate becomes the table in force at the owner's swap boundary and TUNE.SEQ increments. -/
def execTableSwap (context : Nat) (s : State) : Host.Outcome State Fault Refusal :=
  s.onDev (Instr.tableSwap context) (Dev.tableSwap context)

/-- TABLE_EXPIRED (R107): The age of a VALID table exceeds AGE_MAX, the context enters EXPIRED and fault 0x0205 is recorded. -/
def execTableExpired (context : Nat) (s : State) : Host.Outcome State Fault Refusal :=
  s.onDev (Instr.tableExpired context) (Dev.tableExpired context)

/-- BOOT_TUNING_LATE (R106): A context has not ended its boot collection 5 ms after SCK opened and fault 0x0207 is recorded. -/
def execBootTuningLate (context : Nat) (s : State) : Host.Outcome State Fault Refusal :=
  s.onDev (Instr.bootTuningLate context) (Dev.bootTuningLate context)

/-- COLLECTION_TIMEOUT (R106): A collection is still incomplete after 50 ms, fault 0x0208 is recorded and the owner is retired. -/
def execCollectionTimeout (context : Nat) (s : State) : Host.Outcome State Fault Refusal :=
  s.onDev (Instr.collectionTimeout context) (Dev.collectionTimeout context)

/-- TUNE_RESTART (R101): TUNE_CMD 0x71 discards the collection in progress in context CTX and starts a new one. -/
def execTuneRestart (context : Nat) (s : State) : Host.Outcome State Fault Refusal :=
  s.onDev (Instr.tuneRestart context) (Dev.oneWrite (Dev.tuneRestart context))

end Sys2Proof.Machine
end

