-- ==== Sys2Proof/Machine/CmdVoices.lean ====
section
/-! DEFINITION.
The meanings of the commands of chapter 4.
-/

namespace Sys2Proof.Machine

/-- VOICE_EDGE (R77): An edge on a voice is counted by the prescaler, decoded from the thermometer code and, under decimation,
stamped into the voice FIFO. `base` is the even coarse count at which the resolving window begins, `runs` the thermometer code
from 1 SCK before it to 1 SCK after it as runs of equal bits, `extra` what the prescaler counted in pairs the decoder drops. -/
def execVoiceEdge (voice : Nat) (base : Nat) (runs : List (Bool × Nat)) (extra : Nat) (s : State) : Host.Outcome State Fault Refusal :=
  s.onDev (Instr.voiceEdge voice base runs extra) (Dev.voiceEdge voice base runs extra)

/-- PENDING_MARKER (R83): A marker waiting in the pending queue enters the voice FIFO when a slot frees, in the order EPOCH, DECIM,
OVERRUN. -/
def execPendingMarker (voice : Nat) (s : State) : Host.Outcome State Fault Refusal :=
  s.onDev (Instr.pendingMarker voice) (Dev.pendingMarker voice)

/-- EPOCH_WRAP (R72): The coarse count wraps from 2^54 - 1 to 0, EPOCH_COUNT increments and EPOCH markers are written. -/
def execEpochWrap (s : State) : Host.Outcome State Fault Refusal :=
  s.onDev Instr.epochWrap Dev.epochWrap

/-- RING_WRITE (R84): The ring writer selects one waiting entry per FCK by extended time and writes it into its ring. -/
def execRingWrite (s : State) : Host.Outcome State Fault Refusal :=
  s.onDev Instr.ringWrite Dev.ringWrite

/-- FLUSH (R90): RING_CMD 0x51 sets RD_PTR to WR_PTR, FILL to 0 and FLUSHED to 1. -/
def execFlush (ring : Nat) (s : State) : Host.Outcome State Fault Refusal :=
  s.onDev (Instr.flush ring) (Dev.oneWrite (Dev.flush ring))

/-- CLEAR_LOSS_COUNT (R88): RING_CMD 0x52 sets LOSS_COUNT of the ring to 0. -/
def execClearLossCount (ring : Nat) (s : State) : Host.Outcome State Fault Refusal :=
  s.onDev (Instr.clearLossCount ring) (Dev.oneWrite (Dev.clearLoss ring))

/-- CLEAR_VOICE_COUNTS (R82): VOICE[n].CMD 0xA1 sets RUNT_COUNT and OVERRUN_COUNT to 0. -/
def execClearVoiceCounts (voice : Nat) (s : State) : Host.Outcome State Fault Refusal :=
  s.onDev (Instr.clearVoiceCounts voice) (Dev.oneWrite (Dev.clearVoiceCounts voice))

/-- VOICE_START (R86): A STARTING voice whose SCK is open, whose tuning table is valid and whose R29 check is satisfied becomes
ACTIVE with a START marker. -/
def execVoiceStart (voice : Nat) (s : State) : Host.Outcome State Fault Refusal :=
  s.onDev (Instr.voiceStart voice) (Dev.voiceBegins voice)

end Sys2Proof.Machine
end

