-- ==== Sys2Proof/Machine/CmdWeighing.lean ====
section
/-! DEFINITION.
The meanings of the commands of chapter 9.
-/

namespace Sys2Proof.Machine

/-- LOCAL_SUM (R180): After the last pair closeout, stages 1 to 4 form each cell mass and the local sum L, or its rest, and
offer it. `upsets` lists the SRAM words in which reads find an error (1 corrected, 2 uncorrectable). -/
def execLocalSum (s : State) (upsets : List (Nat × Nat) := []) : Host.Outcome State Fault Refusal :=
  s.onDev (Instr.localSum upsets) (fun d => Dev.localSum (d.readState 1 upsets))

/-- PIPELINE_COMMIT (R182): With S or its rest available, stages 6 to 13 run and LEGAL_RESULT is committed in one FCK. `upsets`
lists the SRAM words in which reads find an error (1 corrected, 2 uncorrectable). -/
def execPipelineCommit (s : State) (upsets : List (Nat × Nat) := []) : Host.Outcome State Fault Refusal :=
  s.onDev (Instr.pipelineCommit upsets) (fun d => Dev.pipelineCommit (d.readState 1 upsets))

/-- ZERO (R189): OP_CMD 0xB1 takes a ZERO command into pending, evaluated at its effective period. -/
def execZero (s : State) : Host.Outcome State Fault Refusal :=
  s.onDev Instr.zero (Dev.oneWrite (Dev.operate 0xB1))

/-- TARE (R192): OP_CMD 0xB2 takes a TARE command into pending, evaluated at its effective period. -/
def execTare (s : State) : Host.Outcome State Fault Refusal :=
  s.onDev Instr.tare (Dev.oneWrite (Dev.operate 0xB2))

/-- CLEAR_TARE (R192): OP_CMD 0xB3 takes a CLEAR_TARE command into pending, evaluated at its effective period. -/
def execClearTare (s : State) : Host.Outcome State Fault Refusal :=
  s.onDev Instr.clearTare (Dev.oneWrite (Dev.operate 0xB3))

/-- PRINT (R198): OP_CMD 0xB4 takes a PRINT command into pending, evaluated at its effective period. -/
def execPrint (s : State) : Host.Outcome State Fault Refusal :=
  s.onDev Instr.print (Dev.oneWrite (Dev.operate 0xB4))

/-- LEGAL_RESULT_READ (R195): A host read of LEGAL_RESULT.WEIGHT captures all four words into a snapshot. -/
def execLegalResultRead (s : State) : Host.Outcome State Fault Refusal :=
  s.onDev Instr.legalResultRead (Dev.oneRead 0x7400 Dev.legalResultRead)

/-- TOT_PULSE_END (R200): A TOT_PULSE high or low phase of WIDTH ms ends, TOT_BACKLOG decreases and the next pulse may start. -/
def execTotPulseEnd (s : State) : Host.Outcome State Fault Refusal :=
  s.onDev Instr.totPulseEnd Dev.totPulseEnd

end Sys2Proof.Machine
end

