-- ==== Sys2Proof/Machine/Dispatch.lean ====
section
/-! DEFINITION.
Every command and its meaning.
-/

namespace Sys2Proof.Machine

/-- The effect of a command on everything but the queue. -/
def exec (i : Instr) (s : State) : Host.Outcome State Fault Refusal :=
  match i with
  | .lowWordRead addr => Sys2Proof.Machine.execLowWordRead addr s
  | .registerWrite addr value => Sys2Proof.Machine.execRegisterWrite addr value s
  | .voiceEdge voice base runs extra => Sys2Proof.Machine.execVoiceEdge voice base runs extra s
  | .pendingMarker voice => Sys2Proof.Machine.execPendingMarker voice s
  | .epochWrap => Sys2Proof.Machine.execEpochWrap s
  | .stampAccumulate voice upsets => Sys2Proof.Machine.execStampAccumulate voice s upsets
  | .ringWrite => Sys2Proof.Machine.execRingWrite s
  | .ringDataRead ring offset upsets => Sys2Proof.Machine.execRingDataRead ring offset s upsets
  | .flush ring => Sys2Proof.Machine.execFlush ring s
  | .clearLossCount ring => Sys2Proof.Machine.execClearLossCount ring s
  | .clearVoiceCounts voice => Sys2Proof.Machine.execClearVoiceCounts voice s
  | .voiceStart voice => Sys2Proof.Machine.execVoiceStart voice s
  | .scrub bank row column outcome user => Sys2Proof.Machine.execScrub bank row column outcome user s
  | .rowReplacementDone bank row => Sys2Proof.Machine.execRowReplacementDone bank row s
  | .powerGoodRise straps testEn => Sys2Proof.Machine.execPowerGoodRise straps testEn s
  | .powerGoodFall rails => Sys2Proof.Machine.execPowerGoodFall rails s
  | .vbatLow => Sys2Proof.Machine.execVbatLow s
  | .bootStepComplete number info => Sys2Proof.Machine.execBootStepComplete number info s
  | .firstPeriod => Sys2Proof.Machine.execFirstPeriod s
  | .pinReset => Sys2Proof.Machine.execPinReset s
  | .softReset => Sys2Proof.Machine.execSoftReset s
  | .choirReset => Sys2Proof.Machine.execChoirReset s
  | .strapChange levels => Sys2Proof.Machine.execStrapChange levels s
  | .sealChange level => Sys2Proof.Machine.execSealChange level s
  | .xtalFail cause => Sys2Proof.Machine.execXtalFail cause s
  | .referenceSwitch count => Sys2Proof.Machine.execReferenceSwitch count s
  | .spllLockDetect => Sys2Proof.Machine.execSpllLockDetect s
  | .windowCheck count => Sys2Proof.Machine.execWindowCheck count s
  | .spllSwitchTimeout => Sys2Proof.Machine.execSpllSwitchTimeout s
  | .overspeed count => Sys2Proof.Machine.execOverspeed count s
  | .ocxoWindow periods ticks => Sys2Proof.Machine.execOcxoWindow periods ticks s
  | .refInLost => Sys2Proof.Machine.execRefInLost s
  | .ocxoRdyChange level => Sys2Proof.Machine.execOcxoRdyChange level s
  | .warmupLate => Sys2Proof.Machine.execWarmupLate s
  | .tbRestartCheck => Sys2Proof.Machine.execTbRestartCheck s
  | .tuningHit context slot runs busy => Sys2Proof.Machine.execTuningHit context slot runs s busy
  | .tableSwap context => Sys2Proof.Machine.execTableSwap context s
  | .tableExpired context => Sys2Proof.Machine.execTableExpired context s
  | .bootTuningLate context => Sys2Proof.Machine.execBootTuningLate context s
  | .collectionTimeout context => Sys2Proof.Machine.execCollectionTimeout context s
  | .tuneRestart context => Sys2Proof.Machine.execTuneRestart context s
  | .exciterTrip exciter => Sys2Proof.Machine.execExciterTrip exciter s
  | .classifierCondition monitor level => Sys2Proof.Machine.execClassifierCondition monitor level s
  | .openWireCheck exciter below => Sys2Proof.Machine.execOpenWireCheck exciter below s
  | .monitorSettled monitor => Sys2Proof.Machine.execMonitorSettled monitor s
  | .selfTestStep monitor upper lower => Sys2Proof.Machine.execSelfTestStep monitor upper lower s
  | .wmSelfTest mask => Sys2Proof.Machine.execWmSelfTest mask s
  | .monitorBothHigh monitor => Sys2Proof.Machine.execMonitorBothHigh monitor s
  | .exciterStart exciter => Sys2Proof.Machine.execExciterStart exciter s
  | .pulseStart exciter trip => Sys2Proof.Machine.execPulseStart exciter trip s
  | .pulseEnd exciter => Sys2Proof.Machine.execPulseEnd exciter s
  | .sweepHalfPeriod exciter trip => Sys2Proof.Machine.execSweepHalfPeriod exciter trip s
  | .periodBoundary timer => Sys2Proof.Machine.execPeriodBoundary timer s
  | .closeout parity upsets chains => Sys2Proof.Machine.execCloseout parity upsets chains s
  | .closeoutDeadline timer => Sys2Proof.Machine.execCloseoutDeadline timer s
  | .voiceSilent voice => Sys2Proof.Machine.execVoiceSilent voice s
  | .clearAllanCtx context => Sys2Proof.Machine.execClearAllanCtx context s
  | .clearAllanAll => Sys2Proof.Machine.execClearAllanAll s
  | .clearRestCounts => Sys2Proof.Machine.execClearRestCounts s
  | .analyserStamp analyser upsets => Sys2Proof.Machine.execAnalyserStamp analyser s upsets
  | .analyserCloseout analyser upsets => Sys2Proof.Machine.execAnalyserCloseout analyser upsets s
  | .rseqRead analyser => Sys2Proof.Machine.execRseqRead analyser s
  | .captureTimeout => Sys2Proof.Machine.execCaptureTimeout s
  | .rearmElapsed => Sys2Proof.Machine.execRearmElapsed s
  | .missedTriggerRead analyser offset upsets => Sys2Proof.Machine.execMissedTriggerRead analyser offset s upsets
  | .captureBufferRead entry offset upsets => Sys2Proof.Machine.execCaptureBufferRead entry offset s upsets
  | .commandTrigger analyser => Sys2Proof.Machine.execCommandTrigger analyser s
  | .clearHistogram analyser => Sys2Proof.Machine.execClearHistogram analyser s
  | .clearTotal analyser => Sys2Proof.Machine.execClearTotal analyser s
  | .clearMissCount analyser => Sys2Proof.Machine.execClearMissCount analyser s
  | .releaseSegment segment => Sys2Proof.Machine.execReleaseSegment segment s
  | .completeCapture => Sys2Proof.Machine.execCompleteCapture s
  | .releaseAll => Sys2Proof.Machine.execReleaseAll s
  | .localSum upsets => Sys2Proof.Machine.execLocalSum s upsets
  | .pipelineCommit upsets => Sys2Proof.Machine.execPipelineCommit s upsets
  | .zero => Sys2Proof.Machine.execZero s
  | .tare => Sys2Proof.Machine.execTare s
  | .clearTare => Sys2Proof.Machine.execClearTare s
  | .print => Sys2Proof.Machine.execPrint s
  | .legalResultRead => Sys2Proof.Machine.execLegalResultRead s
  | .totPulseEnd => Sys2Proof.Machine.execTotPulseEnd s
  | .trackStamp voice upsets => Sys2Proof.Machine.execTrackStamp voice s upsets
  | .frameDecode upsets => Sys2Proof.Machine.execFrameDecode s upsets
  | .frameLate => Sys2Proof.Machine.execFrameLate s
  | .shock => Sys2Proof.Machine.execShock s
  | .dropout first last => Sys2Proof.Machine.execDropout first last s
  | .learnRunStart => Sys2Proof.Machine.execLearnRunStart s
  | .learnProfile => Sys2Proof.Machine.execLearnProfile s
  | .clearProv => Sys2Proof.Machine.execClearProv s
  | .emptyWeakMap => Sys2Proof.Machine.execEmptyWeakMap s
  | .reacquire => Sys2Proof.Machine.execReacquire s
  | .laneSignalDetect port lane => Sys2Proof.Machine.execLaneSignalDetect port lane s
  | .laneAlign port lane codes => Sys2Proof.Machine.execLaneAlign port lane s codes
  | .trainingSet port lane codes sent deskewed => Sys2Proof.Machine.execTrainingSet port lane codes sent deskewed s
  | .trainingTimeout port => Sys2Proof.Machine.execTrainingTimeout port s
  | .trainingRetry port => Sys2Proof.Machine.execTrainingRetry port s
  | .laneSignalLoss port => Sys2Proof.Machine.execLaneSignalLoss port s
  | .codeViolationLimit port lane disparity codes => Sys2Proof.Machine.execCodeViolationLimit port lane disparity s codes
  | .oneLaneRetrain port => Sys2Proof.Machine.execOneLaneRetrain port s
  | .frameRx port bytes aborted => Sys2Proof.Machine.execFrameRx port bytes aborted s
  | .ack port lseq => Sys2Proof.Machine.execAck port lseq s
  | .nak port lseq upsets => Sys2Proof.Machine.execNak port lseq s upsets
  | .ackTimer port => Sys2Proof.Machine.execAckTimer port s
  | .replayTimeout port upsets => Sys2Proof.Machine.execReplayTimeout port s upsets
  | .syncSend stampA stampB parity => Sys2Proof.Machine.execSyncSend stampA stampB s parity
  | .timeSend => Sys2Proof.Machine.execTimeSend s
  | .healthSend => Sys2Proof.Machine.execHealthSend s
  | .cfghashSend => Sys2Proof.Machine.execCfghashSend s
  | .syncRx port stamp parity => Sys2Proof.Machine.execSyncRx port stamp s parity
  | .thetaTimeout => Sys2Proof.Machine.execThetaTimeout s
  | .timeRx => Sys2Proof.Machine.execTimeRx s
  | .sumRx => Sys2Proof.Machine.execSumRx s
  | .sumWindowEnd => Sys2Proof.Machine.execSumWindowEnd s
  | .resultRx => Sys2Proof.Machine.execResultRx s
  | .resultTimeout => Sys2Proof.Machine.execResultTimeout s
  | .healthRx => Sys2Proof.Machine.execHealthRx s
  | .cfghashRx => Sys2Proof.Machine.execCfghashRx s
  | .logRx => Sys2Proof.Machine.execLogRx s
  | .opRx => Sys2Proof.Machine.execOpRx s
  | .switchRx => Sys2Proof.Machine.execSwitchRx s
  | .switchAckRx => Sys2Proof.Machine.execSwitchAckRx s
  | .resetRx => Sys2Proof.Machine.execResetRx s
  | .retireRx => Sys2Proof.Machine.execRetireRx s
  | .readmitRx => Sys2Proof.Machine.execReadmitRx s
  | .realignReqRx => Sys2Proof.Machine.execRealignReqRx s
  | .claimTime => Sys2Proof.Machine.execClaimTime s
  | .aliveLapse address => Sys2Proof.Machine.execAliveLapse address s
  | .retrainPort port => Sys2Proof.Machine.execRetrainPort port s
  | .readmitDevice address => Sys2Proof.Machine.execReadmitDevice address s
  | .choirResetCmd => Sys2Proof.Machine.execChoirResetCmd s
  | .clearChoirCounters => Sys2Proof.Machine.execClearChoirCounters s
  | .apply => Sys2Proof.Machine.execApply s
  | .applyLoad => Sys2Proof.Machine.execApplyLoad s
  | .cancel => Sys2Proof.Machine.execCancel s
  | .programKeyFuses => Sys2Proof.Machine.execProgramKeyFuses s
  | .validationDone failed => Sys2Proof.Machine.execValidationDone failed s
  | .commitComplete step failed => Sys2Proof.Machine.execCommitComplete step s failed
  | .switchingBoundary => Sys2Proof.Machine.execSwitchingBoundary s
  | .transitionEnd => Sys2Proof.Machine.execTransitionEnd s
  | .read addr words late upsets => Sys2Proof.Machine.execRead addr words late upsets s
  | .fastRead addr words late upsets => Sys2Proof.Machine.execFastRead addr words late upsets s
  | .quadRead addr words late upsets => Sys2Proof.Machine.execQuadRead addr words late upsets s
  | .qioRead addr words late upsets => Sys2Proof.Machine.execQioRead addr words late upsets s
  | .write addr bytes full => Sys2Proof.Machine.execWrite addr bytes full s
  | .quadWrite addr bytes full => Sys2Proof.Machine.execQuadWrite addr bytes full s
  | .qioWrite addr bytes full => Sys2Proof.Machine.execQioWrite addr bytes full s
  | .status => Sys2Proof.Machine.execStatus s
  | .unknownCommand code => Sys2Proof.Machine.execUnknownCommand code s
  | .unread ring => Sys2Proof.Machine.execUnread ring s
  | .ptRead => Sys2Proof.Machine.execPtRead s
  | .ptProgram => Sys2Proof.Machine.execPtProgram s
  | .ptErase => Sys2Proof.Machine.execPtErase s
  | .slotErase => Sys2Proof.Machine.execSlotErase s
  | .ptDone failed => Sys2Proof.Machine.execPtDone failed s
  | .ptTimeout => Sys2Proof.Machine.execPtTimeout s
  | .extest => Sys2Proof.Machine.execExtest s
  | .idcode => Sys2Proof.Machine.execIdcode s
  | .samplePreload => Sys2Proof.Machine.execSamplePreload s
  | .clamp => Sys2Proof.Machine.execClamp s
  | .highz => Sys2Proof.Machine.execHighz s
  | .bypass => Sys2Proof.Machine.execBypass s
  | .privateInstruction code => Sys2Proof.Machine.execPrivateInstruction code s
  | .jtagInstructionLeave => Sys2Proof.Machine.execJtagInstructionLeave s
  | .calendarSecond => Sys2Proof.Machine.execCalendarSecond s
  | .setCalendar => Sys2Proof.Machine.execSetCalendar s
  | .calWriteApply => Sys2Proof.Machine.execCalWriteApply s
  | .kckStop => Sys2Proof.Machine.execKckStop s
  | .logRecordWrite outcome => Sys2Proof.Machine.execLogRecordWrite outcome s
  | .collection outcome => Sys2Proof.Machine.execCollection outcome s
  | .nvmRetry outcome => Sys2Proof.Machine.execNvmRetry outcome s
  | .totaliserPhase1 outcome => Sys2Proof.Machine.execTotaliserPhase1 outcome s
  | .totaliserPhase2 outcome => Sys2Proof.Machine.execTotaliserPhase2 outcome s
  | .loadRecord => Sys2Proof.Machine.execLoadRecord s
  | .loadAuditRecord => Sys2Proof.Machine.execLoadAuditRecord s
  | .logLoadDone failed => Sys2Proof.Machine.execLogLoadDone failed s
  | .reAdmit source => Sys2Proof.Machine.execReAdmit source s
  | .clearSramCorr => Sys2Proof.Machine.execClearSramCorr s
  | .ringLockTimeout ring => Sys2Proof.Machine.execRingLockTimeout ring s
  | .hold => Sys2Proof.Machine.execHold s
  | .run => Sys2Proof.Machine.execRun s
  | .standby => Sys2Proof.Machine.execStandby s
  | .standbyEntryComplete => Sys2Proof.Machine.execStandbyEntryComplete s
  | .resume => Sys2Proof.Machine.execResume s
  | .wake => Sys2Proof.Machine.execWake s
  | .resumeStepComplete number kck => Sys2Proof.Machine.execResumeStepComplete number kck s
  | .dieTempMeasure temperature => Sys2Proof.Machine.execDieTempMeasure temperature s
  | .resetNRise => Sys2Proof.Machine.execResetNRise s
  | .refInEdgesPresent => Sys2Proof.Machine.execRefInEdgesPresent s
  | .backupDomainLoss => Sys2Proof.Machine.execBackupDomainLoss s

end Sys2Proof.Machine
end

