-- ==== Sys2Proof/Machine/Step.lean ====
section
/-! DEFINITION.
One step: the command at the front of the queue, or one FCK of idling.
-/

namespace Sys2Proof.Machine

/-- One step. The command at the front of the queue runs with the queue's rest; on an empty queue one FCK passes (DESIGN CHOICE, log entry 2).
DESIGN CHOICE: log entry 56. -/
def step (s : State) : Host.Outcome State Fault Refusal :=
  match s.pending with
  | c :: rest => exec c { s with pending := rest }
  | [] => .next { s with dev := s.dev.tick }

/-- The state with the command that a word spells at the front of its queue. DESIGN CHOICE: log entry 7. -/
def State.withFetchWord (s : State) (nbits w : Nat) : State :=
  match decodeTableWord nbits w with
  | some c => { s with pending := c :: s.pending }
  | none => s

end Sys2Proof.Machine
end

