-- ==== Sys2Proof/Safety.lean ====
section
/-! DEFINITION.
The terms that claims use: the canonical form of what is held in tables, and what two devices have in common.
-/

namespace Sys2Proof.Machine

/-- Every table of the device is in canonical form: registers, read snapshots and NVM hold strictly rising keys and no entry that reads
as an unlisted one. -/
def Dev.canonical (d : Dev) : Bool := d.regs.wf && Store.wf d.snaps && Store.wf d.nvm

/-- Which parts of the device an effect may change, beside the class S fields and the units: the fields of reset classes F, N, B, P, H
and I (R7), the NVM, and the fuses (R272). -/
structure Allow where
  f : Bool
  n : Bool
  b : Bool
  p : Bool
  h : Bool
  i : Bool
  nvm : Bool
  fuse : Bool
deriving DecidableEq, Repr

/-- May the fields of a class change? Class S always may. -/
def Allow.cls (k : Allow) : Cls → Bool
  | .F => k.f
  | .N => k.n
  | .B => k.b
  | .P => k.p
  | .H => k.h
  | .S => true
  | .I => k.i

/-- Nothing but class S fields and units may change. -/
def Allow.least : Allow := { f := false, n := false, b := false, p := false, h := false, i := false, nvm := false, fuse := false }

/-- What an effect from `d` to `e` keeps when it may change no more than `k` says: the classes, NVM and fuses outside `k`, the canonical
forms, and the fuses once KEY_SET is 1. -/
structure Keeps (k : Allow) (d e : Dev) : Prop where
  cls : ∀ c, k.cls c = false → e.regs.table c = d.regs.table c
  nvm : k.nvm = false → e.nvm = d.nvm
  fuse : k.fuse = false → e.fuses = d.fuses
  regsWf : d.regs.wf = true → e.regs.wf = true
  snapsWf : Store.wf d.snaps = true → Store.wf e.snaps = true
  nvmWf : Store.wf d.nvm = true → Store.wf e.nvm = true
  keySet : d.fuses.keySet = true → e.fuses = d.fuses

/-- What a command may change beside class S fields and units. -/
def commandAllow : Instr → Allow
  | .lowWordRead _ | .pendingMarker _ | .epochWrap | .flush _ | .clearLossCount _ | .clearVoiceCounts _ | .voiceStart _
  | .referenceSwitch _ | .spllLockDetect | .tbRestartCheck | .tableSwap _ | .tuneRestart _ | .exciterTrip _ | .monitorSettled _
  | .wmSelfTest _ | .pulseStart _ _ | .pulseEnd _ | .sweepHalfPeriod _ _ | .clearAllanCtx _ | .clearAllanAll | .clearRestCounts
  | .rseqRead _ | .captureTimeout | .rearmElapsed | .clearHistogram _ | .clearTotal _ | .clearMissCount _ | .releaseSegment _
  | .completeCapture | .releaseAll | .zero | .tare | .clearTare | .print | .legalResultRead | .totPulseEnd | .shock | .dropout _ _
  | .learnRunStart | .learnProfile | .reacquire | .laneSignalDetect _ _ | .laneAlign _ _ _ | .trainingSet _ _ _ _ _ | .trainingRetry _
  | .laneSignalLoss _ | .oneLaneRetrain _ | .ack _ _ | .ackTimer _ | .timeSend | .healthSend | .cfghashSend | .thetaTimeout | .resultRx
  | .healthRx | .logRx | .opRx | .switchAckRx | .resetRx | .retireRx | .readmitRx | .realignReqRx | .aliveLapse _ | .retrainPort _
  | .readmitDevice _ | .choirResetCmd | .clearChoirCounters | .apply | .applyLoad | .cancel | .transitionEnd | .status | .unread _
  | .ptRead | .ptProgram | .ptErase | .slotErase | .loadRecord | .loadAuditRecord | .logLoadDone _ | .reAdmit _ | .clearSramCorr | .hold
  | .run | .standby | .resume | .wake | .resetNRise | .refInEdgesPresent =>
    Allow.least
  | .registerWrite _ _ =>
    { Allow.least with b := true, p := true, h := true }
  | .voiceEdge _ _ _ _ =>
    { Allow.least with b := true, h := true }
  | .ringWrite | .rowReplacementDone _ _ | .vbatLow | .firstPeriod | .sealChange _ | .spllSwitchTimeout | .overspeed _ | .ocxoWindow _ _
  | .refInLost | .ocxoRdyChange _ | .warmupLate | .tuningHit _ _ _ _ | .tableExpired _ | .bootTuningLate _ | .collectionTimeout _
  | .classifierCondition _ _ | .openWireCheck _ _ | .selfTestStep _ _ _ | .monitorBothHigh _ | .exciterStart _ | .closeoutDeadline _
  | .voiceSilent _ | .commandTrigger _ | .frameLate | .clearProv | .trainingTimeout _ | .codeViolationLimit _ _ _ _ | .frameRx _ _ _
  | .timeRx | .sumRx | .sumWindowEnd | .resultTimeout | .cfghashRx | .switchRx | .claimTime | .validationDone _ | .calendarSecond
  | .setCalendar | .calWriteApply | .kckStop | .ringLockTimeout _ | .backupDomainLoss | .syncSend _ _ _ =>
    { Allow.least with b := true }
  | .scrub _ _ _ _ _ | .xtalFail _ | .closeout _ _ _ | .analyserCloseout _ _ | .stampAccumulate _ _ | .ringDataRead _ _ _
  | .missedTriggerRead _ _ _ | .captureBufferRead _ _ _ | .analyserStamp _ _ | .localSum _ | .nak _ _ _ | .replayTimeout _ _
  | .pipelineCommit _ =>
    { Allow.least with b := true, p := true }
  | .powerGoodRise _ _ | .powerGoodFall _ | .pinReset | .softReset | .choirReset | .read _ _ _ _ | .fastRead _ _ _ _ | .quadRead _ _ _ _
  | .qioRead _ _ _ _ | .unknownCommand _ | .extest | .idcode | .samplePreload | .clamp | .highz | .bypass | .jtagInstructionLeave =>
    { Allow.least with b := true, p := true, h := true, i := true, nvm := true }
  | .bootStepComplete _ _ =>
    { Allow.least with n := true, b := true, i := true, nvm := true }
  | .strapChange _ | .dieTempMeasure _ =>
    { Allow.least with p := true }
  | .windowCheck _ | .resumeStepComplete _ _ | .syncRx _ _ _ =>
    { Allow.least with n := true, b := true, h := true, i := true }
  | .emptyWeakMap =>
    { Allow.least with n := true }
  | .programKeyFuses =>
    { Allow.least with fuse := true }
  | .commitComplete _ _ | .privateInstruction _ | .periodBoundary _ | .switchingBoundary =>
    { Allow.least with n := true, b := true, p := true, h := true, i := true, nvm := true }
  | .write _ _ _ | .quadWrite _ _ _ | .qioWrite _ _ _ =>
    { Allow.least with n := true, b := true, p := true, h := true, i := true, nvm := true, fuse := true }
  | .ptDone _ | .ptTimeout | .logRecordWrite _ | .collection _ | .totaliserPhase1 _ =>
    { Allow.least with b := true, nvm := true }
  | .nvmRetry _ | .totaliserPhase2 _ =>
    { Allow.least with n := true, b := true, nvm := true }
  | .standbyEntryComplete =>
    { Allow.least with nvm := true }
  | .trackStamp _ _ | .frameDecode _ =>
    { Allow.least with n := true, b := true, p := true }

/-- The parts of a device beside the register file. -/
inductive Part where
  | fuses
  | snaps
  | time
  | voices
  | rings
  | writer
  | tune
  | wms
  | excs
  | timers
  | fitV
  | fitP
  | allan
  | allanFrom
  | items
  | anas
  | anaItems
  | cap
  | faults
  | power
  | pins
  | sram
  | pipe
  | track
  | choir
  | logQueue
  | logLost
  | calst
  | img
  | host
  | nvm
  | logs
  | free
deriving DecidableEq, Repr

/-- Is a part the same in two devices? -/
def Part.Same (d e : Dev) : Part → Prop
  | .fuses => e.fuses = d.fuses
  | .snaps => e.snaps = d.snaps
  | .time => e.time = d.time
  | .voices => e.voices = d.voices
  | .rings => e.rings = d.rings
  | .writer => e.writer = d.writer
  | .tune => e.tune = d.tune
  | .wms => e.wms = d.wms
  | .excs => e.excs = d.excs
  | .timers => e.timers = d.timers
  | .fitV => e.fitV = d.fitV
  | .fitP => e.fitP = d.fitP
  | .allan => e.allan = d.allan
  | .allanFrom => e.allanFrom = d.allanFrom
  | .items => e.items = d.items
  | .anas => e.anas = d.anas
  | .anaItems => e.anaItems = d.anaItems
  | .cap => e.cap = d.cap
  | .faults => e.faults = d.faults
  | .power => e.power = d.power
  | .pins => e.pins = d.pins
  | .sram => e.sram = d.sram
  | .pipe => e.pipe = d.pipe
  | .track => e.track = d.track
  | .choir => e.choir = d.choir
  | .logQueue => e.logQueue = d.logQueue
  | .logLost => e.logLost = d.logLost
  | .calst => e.calst = d.calst
  | .img => e.img = d.img
  | .host => e.host = d.host
  | .nvm => e.nvm = d.nvm
  | .logs => e.logs = d.logs
  | .free => e.free = d.free

/-- The frame of an effect from `d` to `e`: no part but those listed has changed, and no register field but those listed. -/
structure Frame (us : List Part) (fs : List Fld) (d e : Dev) : Prop where
  parts : ∀ u, u ∉ us → u.Same d e
  regs : ∀ g : Fld, (∀ f ∈ fs, g.key ≠ f.key ∨ g.cls ≠ f.cls) → e.rd g = d.rd g

/-- The command completes: `exec` answers a next state with the same commands waiting, and the device then satisfies `P`. -/
def Does (c : Instr) (s : State) (P : Dev → Prop) : Prop := ∃ t, exec c s = .next t ∧ t.pending = s.pending ∧ P t.dev

/-- What raising a notification may touch (R296): the ring writer's queue and NSEQ. -/
def notifyParts : List Part := [.writer, .faults]

/-- What recording a fault may touch beside its source (R326): the notification, and the journal queue with its loss counts. -/
def faultParts : List Part := [.writer, .faults, .logQueue, .logLost]

/-- The register fields that recording a fault may change beside its source's (R326). -/
def faultFlds : List Fld := [Reg.FAULT_STATUS_COUNT, Reg.FAULT_STATUS_LAST_CODE, Reg.LOG_STATUS_LOG_QUEUE, Reg.LOSS_TOTAL]

/-- A transient fault does not retire the source: it is not retired, not in probation, and below STRIKE_CFG.RETIRE with one strike more
(R330, R331). -/
abbrev Dev.bears (d : Dev) (src : Nat) : Prop :=
  d.rd (Reg.STRIKE_RETIRED src) = 0 ∧ d.rd (Reg.STRIKE_PROBATION src) = 0 ∧
    d.rd (Reg.STRIKE_STRIKES src) + 1 < d.rd Reg.STRIKE_CFG_RETIRE

/-- The register fields that a transient fault of a source that bears it may change. -/
def strikeFlds (src : Nat) : List Fld := [Reg.STRIKE_STRIKES src, Reg.STRIKE_DECAY_COUNT src] ++ faultFlds

/-- The register fields that following the trip signals may change (R117 to R119). -/
def tripFlds : List Fld :=
  (List.range 8).map Reg.EXC_STATUS_STATE ++ (List.range 8).map Reg.EXC_STATUS_TRIP_LIVE ++ (List.range 8).map Reg.EXC_TRIP_COUNT_COUNT

/-- The FIFO levels of the voices. -/
def fifoFlds : List Fld := (List.range 16).map Reg.VOICE_STATUS_FIFO_LEVEL

/-- The register fields that show a committed result (R183, R184, R193 to R195, R199): LEGAL_RESULT but TARE and NET, the status of the
filters, and the setpoints. -/
def resultFlds : List Fld :=
  [Reg.LR_WEIGHT_WEIGHT, Reg.LR_STATUS_STABLE, Reg.LR_STATUS_CENTER_ZERO, Reg.LR_STATUS_OVERLOAD, Reg.LR_STATUS_UNDERLOAD,
   Reg.LR_STATUS_ERROR, Reg.LR_STATUS_ERR_CAUSE, Reg.LR_STATUS_RESTS, Reg.LR_STATUS_REST_REASON, Reg.LR_SEQ_SEQ, Reg.LR_SEQ_PSEQ,
   Reg.PIPE_STATUS_FED, Reg.PIPE_STATUS_READY, Reg.PIPE_STATUS_MOTION_FILL, Reg.PIPE_STATUS_PRINT_ARMED, Reg.PIPE_EVENT_ERROR_ENTRY] ++
  (List.range 4).map Reg.SP_STATE_ON ++ (List.range 4).map Reg.SP_STATE_FORCED

/-- The diagnostic values (R201). -/
def diagFlds : List Fld :=
  [Reg.DIAG_S_S, Reg.DIAG_F_F, Reg.DIAG_G_G, Reg.DIAG_Z_Z, Reg.DIAG_Z_INIT_Z_INIT, Reg.DIAG_T_T] ++ (List.range 8).map Reg.DIAG_V_V

/-- The register fields that sending a message may change on the ports that are UP (R238, R239). -/
def sendFlds : List Fld :=
  [Reg.LINK_FRAMES_TX_FRAMES_TX 0, Reg.LINK_FRAMES_TX_FRAMES_TX 1, Reg.LINK_STATE_REPLAY_FILL 0, Reg.LINK_STATE_REPLAY_FILL 1]

/-- The counters of the choir and of both ports that CHOIR_CMD 0xE7 clears (R248). -/
def choirCountFlds : List Fld :=
  [Reg.CHOIR_COUNTS_STALE_COUNT, Reg.CHOIR_COUNTS_SUM_AFTER] ++ [0, 1].flatMap (fun p =>
    [Reg.LINK_FRAMES_TX_FRAMES_TX p, Reg.LINK_FRAMES_RX_FRAMES_RX p, Reg.LINK_ERR_CRC_ERR p, Reg.LINK_ERR_NAK_RX p,
     Reg.LINK_RETRY_RETRIES p, Reg.LINK_RETRY_RETRAINS p, Reg.LINK_CODE_ERR_CODE_ERR_0 p, Reg.LINK_CODE_ERR_CODE_ERR_1 p,
     Reg.LINK_DROP_FWD_DROP p, Reg.LINK_DROP_DUP_COUNT p, Reg.LINK_BAD_BAD_TYPE p, Reg.LINK_BAD_SYNC_DISC p])

/-- A message has been originated between `d` and `e` (R241, R245): it has taken this device's next MSEQ, and its entry of RING_20 waits for
the ring writer. -/
def Dev.Sent (d e : Dev) (type dst : Nat) (bcast : Bool) (payload : List Nat) : Prop :=
  e.choir.mseq = (d.choir.mseq + 1) % 65536 ∧
    ∃ w ∈ e.writer.waiting, w.ring = 20 ∧ w.words = messageWords d.timeNow 2 (d.newMessage type dst bcast payload).2

/-- What a rejected access writes (R290). -/
def rejectFlds : List Fld := [Reg.HOST_STATUS_LAST_CODE, Reg.HOST_ERR_ADDR_ADDR, Reg.HOST_COUNT_A_REJECTS]

/-- An access has been rejected between `d` and `e` (R290): the access code, the address where it arose, and the count. -/
def Dev.Rejected (d e : Dev) (code a : Nat) : Prop :=
  e.rd Reg.HOST_STATUS_LAST_CODE = code ∧ e.rd Reg.HOST_ERR_ADDR_ADDR = a % 2 ^ 24 ∧
    e.rd Reg.HOST_COUNT_A_REJECTS = min (d.rd Reg.HOST_COUNT_A_REJECTS + 1) (2 ^ 16 - 1)

end Sys2Proof.Machine
end

