-- ==== Sys2Proof/Certificates/Slice0/Obligations.lean ====
section
/-! DEFINITION. The statements for the provers, in the order of OBLIGATIONS.json: the machine as a whole, then the commands family
by family; OBLIGATIONS.json says each in full. `Does c s P` says that `exec c s` answers a next state with the same queue whose
device satisfies `P`: the command completes. `Frame ps fs d e` says that `e` differs from `d` in the parts `ps` and the fields `fs`
at most (Sys2Proof/Safety.lean). -/

set_option maxRecDepth 4000

open Sys2Proof Sys2Proof.Machine Sys2Proof.Machine.Reg

/-- O1. A step runs the command at the front of the queue. A command whose operands are out of their ranges changes nothing (the model's
choice, log entry 10). -/
def Obligations.StepRunsTheFrontCommand : Prop :=
  (∀ (d : Dev) (c : Instr) (q : List Instr), step { dev := d, pending := c :: q } = exec c { dev := d, pending := q }) ∧
  (∀ (c : Instr) (s : State), ∃ t, exec c s = .next t ∧ t.pending = s.pending) ∧
  (∀ (c : Instr) (s : State), c.wf = false → exec c s = .next s)

/-- O2. With no command waiting one FCK passes. The model's choice of a clock tick (log entry 2). -/
def Obligations.IdleStepPassesOneFck : Prop :=
  ∀ s : State, s.pending = [] →
    (s.dev.power.good = false → step s = .next s) ∧
    (s.dev.power.good →
      ∃ t, step s = .next t ∧ t.pending = [] ∧ t.dev.time.fck = s.dev.time.fck + 1 ∧
        (s.dev.rd TB_STATUS_FCK_SRC ≠ 0 → t.dev.time = { s.dev.time with fck := s.dev.time.fck + 1 } ∧ Frame [.time] [] s.dev t.dev) ∧
        (s.dev.sckOpen → s.dev.time.fifths < 5 → s.dev.time.coarse + 4 < coarseMod →
          5 * t.dev.time.coarse + t.dev.time.fifths = 5 * s.dev.time.coarse + s.dev.time.fifths + 16 ∧ t.dev.time.fifths < 5 ∧
          Frame [.time] [] s.dev t.dev))

/-- O3. State.reset holds every register at its reset value. That NVM is erased and the fuses are blank is the model's choice (log entry 8).
-/
def Obligations.ResetLeavesResetValues : Prop :=
  State.reset.pending = [] ∧ (∀ f : Fld, State.reset.dev.rd f = f.reset) ∧ State.reset.dev.canonical = true ∧
    State.reset.dev.power = PowerSt.off ∧ State.reset.dev.nvm = [] ∧ State.reset.dev.fuses = { keySet := false, keyHash := 0 } ∧
    State.reset.dev.rings = [] ∧ State.reset.dev.logQueue = [] ∧ State.reset.dev.choir = ChoirSt.fresh ∧ State.reset.dev.pins = Pins.low

/-- O4. Every command stays within the state its rules let it change. -/
def Obligations.CommandsKeepWhatTheyMayNotChange : Prop :=
  ∀ (c : Instr) (s t : State), exec c s = .next t → Keeps (commandAllow c) s.dev t.dev

/-- O5. Every step keeps every store in canonical form. -/
def Obligations.StepKeepsCanonicalForm : Prop :=
  ∀ s t : State, s.dev.canonical → step s = .next t → t.dev.canonical = true

/-- O6. A programmed key fuse never changes, and only fuse programming changes the fuses. -/
def Obligations.KeyFusesAreForGood : Prop :=
  (∀ s t : State, s.dev.fuses.keySet → step s = .next t → t.dev.fuses = s.dev.fuses) ∧
  (∀ (c : Instr) (s t : State), exec c s = .next t → t.dev.fuses ≠ s.dev.fuses →
    c = .programKeyFuses ∨ (∃ a b f, c = .write a b f ∨ c = .quadWrite a b f ∨ c = .qioWrite a b f))

/-- O7. A selected edge raises EVCNT and EVTOTAL and is stamped when its prescaler allows. The operand form is log entry 9. -/
def Obligations.EdgeIsCountedAndStamped : Prop :=
  ∀ (s : State) (n base pos : Nat) (runs : List (Bool × Nat)) (r : Bool) (v : Voice),
    s.dev.alive → n < 16 → s.dev.counting n → base % 2 = 0 → base < coarseMod → runBits runs = 4096 →
    decodeWindow 2048 runs = [.edge pos r] → selected (s.dev.rd (VOICE_CTRL_EDGE n)) r → s.dev.voice n = v →
    (s.dev.inputShows n runs = false → Does (.voiceEdge n base runs 0) s fun d => Frame [] [] s.dev d) ∧
    (s.dev.inputShows n runs → s.dev.sckOpen → s.dev.pastBoundary n (s.dev.rd EPOCH_COUNT_COUNT * coarseMod + base) →
      Does (.voiceEdge n base runs 0) s fun d =>
        (d.voice n).later = v.later ++ [(s.dev.rd EPOCH_COUNT_COUNT * coarseMod + base, runs, 0)] ∧ (d.voice n).evcnt = v.evcnt ∧
        Frame [.voices, .time] [VOICE_STATUS_FIFO_LEVEL n] s.dev d) ∧
    (s.dev.inputShows n runs → s.dev.sckOpen → s.dev.pastBoundary n (s.dev.rd EPOCH_COUNT_COUNT * coarseMod + base) = false →
      s.dev.rd (VOICE_DECIM_CFG_KMIN n) ≤ s.dev.rd (VOICE_STATUS_K n) → s.dev.rd (VOICE_STATUS_K n) ≤ s.dev.rd (VOICE_DECIM_CFG_KMAX n) →
      v.pendEpoch = none → v.pendDecim = none → v.pendOverrun = none → v.riseDue = false → v.slots < 23 →
      v.tooClose ((s.dev.rd EPOCH_COUNT_COUNT * coarseMod + base + pos / 1024) * 1024 + pos % 1024) = false →
      Does (.voiceEdge n base runs 0) s fun d =>
        (d.voice n).evcnt = (v.evcnt + 1) % 2 ^ 32 ∧
        d.rd (VOICE_EVTOTAL_COUNT n) = (s.dev.rd (VOICE_EVTOTAL_COUNT n) + 1) % 2 ^ 64 ∧
        (d.voice n).fifo.map (fun e => (e.ext, e.fine, e.evcnt, e.edge)) = v.fifo.map (fun e => (e.ext, e.fine, e.evcnt, e.edge)) ++
          (if (v.evcnt + 1) % 2 ^ 32 % 2 ^ s.dev.rd (VOICE_STATUS_K n) = 0 then
            [(s.dev.rd EPOCH_COUNT_COUNT * coarseMod + base + pos / 1024, pos % 1024, (v.evcnt + 1) % 2 ^ 32, bit r)] else []) ∧
        Frame [.voices, .time] [VOICE_STATUS_FIFO_LEVEL n, VOICE_EVTOTAL_COUNT n, FIT_VOICE_STATUS_SILENT n] s.dev d) ∧
    (s.dev.inputShows n runs → s.dev.sckOpen = false →
      Does (.voiceEdge n base runs 0) s fun d =>
        d.voice n = { v with hidden := (v.hidden + 1) % 16 } ∧ Frame [.voices] [VOICE_STATUS_FIFO_LEVEL n] s.dev d)

/-- O8. Pending markers enter the FIFO in their order; an epoch wrap marks every running voice; a voice starts with its marker. -/
def Obligations.MarkersAndVoiceStart : Prop :=
  ((∀ (s : State) (n : Nat) (v : Voice), n < 16 → s.dev.voice n = v → v.slots < 32 →
    (∀ e, v.pendEpoch = some e →
      Does (.pendingMarker n) s fun d =>
        (d.voice n).pendEpoch = none ∧ (d.voice n).pendDecim = v.pendDecim ∧ (d.voice n).pendOverrun = v.pendOverrun ∧
        (d.voice n).fifo = v.fifo ++ [v.entry e.ext e.fine e.evcnt e.edge e.flags e.m e.k] ∧
        Frame [.voices] [VOICE_STATUS_FIFO_LEVEL n] s.dev d) ∧
    (∀ e, v.pendEpoch = none → v.pendDecim = some e →
      Does (.pendingMarker n) s fun d =>
        (d.voice n).pendDecim = none ∧ (d.voice n).pendOverrun = v.pendOverrun ∧
        (d.voice n).fifo = v.fifo ++ [v.entry e.ext e.fine e.evcnt e.edge e.flags e.m e.k] ∧
        Frame [.voices] [VOICE_STATUS_FIFO_LEVEL n] s.dev d) ∧
    (∀ e, v.pendEpoch = none → v.pendDecim = none → v.pendOverrun = some e →
      Does (.pendingMarker n) s fun d =>
        (d.voice n).pendOverrun = none ∧
        (d.voice n).fifo = v.fifo ++ [v.entry e.ext e.fine e.evcnt e.edge e.flags e.m e.k] ∧
        Frame [.voices] [VOICE_STATUS_FIFO_LEVEL n] s.dev d)) ∧
  (∀ s : State, s.dev.alive → s.dev.sckOpen → s.dev.rd EPOCH_COUNT_COUNT < 65535 →
    Does .epochWrap s fun d =>
      d.time.coarse = 0 ∧ d.rd EPOCH_COUNT_COUNT = s.dev.rd EPOCH_COUNT_COUNT + 1 ∧
      (∀ n v, n < 16 → s.dev.rd (VOICE_STATUS_STATE n) = 2 → s.dev.voice n = v → v.slots < 32 → v.pendEpoch = none →
        v.pendDecim = none → v.pendOverrun = none →
        (d.voice n).fifo = v.fifo ++ [v.entry ((s.dev.rd EPOCH_COUNT_COUNT + 1) * coarseMod) 0 v.evcnt 0 3 0 0]) ∧
      Frame [.voices, .time] (EPOCH_COUNT_COUNT :: (List.range 16).map VOICE_STATUS_FIFO_LEVEL) s.dev d)) ∧
  (∀ (s : State) (n : Nat) (v : Voice), s.dev.alive → n < 16 → s.dev.rd (VOICE_STATUS_STATE n) = 1 → s.dev.sckOpen →
    s.dev.rd (TUNE_STATUS_STATE n) = 1 → s.dev.viovOk n → s.dev.voice n = v →
    Does (.voiceStart n) s fun d =>
      d.rd (VOICE_STATUS_STATE n) = 2 ∧ (d.voice n).evcnt = 0 ∧
      (d.voice n).direct = v.direct ++ [v.entry s.dev.ext 0 0 0 0x201 0 0] ∧
      d.rd (VOICE_STATUS_K n) = s.dev.rd (VOICE_DECIM_CFG_KMIN n) % 32 ∧
      (n ≠ 14 ∨ s.dev.rd TRACK_CFG_EN = 0 →
        Frame [.voices] [VOICE_STATUS_FIFO_LEVEL n, VOICE_STATUS_STATE n, VOICE_STATUS_K n, TUNE_STATUS_MODE n] s.dev d))

/-- O9. The ring writer stores one entry; a broken lock discards its entry and is recorded. -/
def Obligations.RingWriterAndBrokenLock : Prop :=
  (∀ (s : State) (w : WEntry) (x : Nat) (rest : List WEntry), s.dev.alive → s.dev.mode ≠ 3 → s.dev.writer.waiting = w :: rest →
    w.words = [x] → w.ring < 24 → (∀ n < 16, (s.dev.voice n).fifo.length < 16) →
    s.dev.rd (RING_FILL_WORDS w.ring) < s.dev.ringCap w.ring → (s.dev.ring w.ring).gapNext = false →
    Does .ringWrite s fun d =>
      d.writer.waiting.take rest.length = rest ∧
      Store.read (d.ring w.ring).cells (s.dev.rd (RING_WR_PTR_INDEX w.ring) % s.dev.ringCap w.ring) = x ∧
      (d.ring w.ring).ents = (s.dev.ring w.ring).ents ++ [1] ∧
      d.rd (RING_WR_PTR_INDEX w.ring) = (s.dev.rd (RING_WR_PTR_INDEX w.ring) + 1) % s.dev.ringCap w.ring % 2 ^ 17 ∧
      d.rd (RING_FILL_WORDS w.ring) = (s.dev.rd (RING_FILL_WORDS w.ring) + 1) % 2 ^ 18 ∧
      Frame [.rings, .writer, .sram, .faults]
        [RING_WR_PTR_INDEX w.ring, RING_FILL_WORDS w.ring, RING_STATUS_FULL w.ring, RING_STATUS_ABOVE_WM w.ring] s.dev d) ∧
  (∀ (s : State) (n : Nat) (l : Lock), n < 24 → (s.dev.ring n).lock = some l → s.dev.rd (RING_LOSS_COUNT_COUNT n) < 2 ^ 32 - 1 →
    s.dev.rd RING_LOCK_BREAKS < 65535 → s.dev.bears srcDevice →
    Does (.ringLockTimeout n) s fun d =>
      (d.ring n).lock = none ∧ d.rd (RING_LOSS_COUNT_COUNT n) = s.dev.rd (RING_LOSS_COUNT_COUNT n) + 1 ∧
      d.rd RING_LOCK_BREAKS = s.dev.rd RING_LOCK_BREAKS + 1 ∧ d.rd RING_LOCK_RING = n ∧ d.rd RING_LOCK_OWNER = l.owner % 16 ∧
      d.rd FAULT_STATUS_LAST_CODE = 0x0B10 ∧
      Frame ([Part.rings] ++ faultParts)
        ([RING_LOSS_COUNT_COUNT n, RING_LOCK_BREAKS, RING_LOCK_RING, RING_LOCK_OWNER] ++ strikeFlds srcDevice) s.dev d)

/-- O10. FLUSH, CLEAR_LOSS_COUNT and CLEAR_VOICE_COUNTS do exactly their clearing. That the command stands for a host write of its code is
log entry 12. -/
def Obligations.RingAndVoiceCommands : Prop :=
  (∀ (s : State) (n : Nat), s.dev.hostOpen → n < 24 →
    Does (.flush n) s fun d =>
      d.rd (RING_RD_PTR_INDEX n) = s.dev.rd (RING_WR_PTR_INDEX n) % 2 ^ 17 ∧ d.rd (RING_FILL_WORDS n) = 0 ∧
      d.rd (RING_STATUS_FLUSHED n) = 1 ∧ (d.ring n).ents = [] ∧
      Frame [.rings, .host] [RING_RD_PTR_INDEX n, RING_FILL_WORDS n, RING_STATUS_FULL n, RING_STATUS_ABOVE_WM n, RING_STATUS_FLUSHED n] s.dev d) ∧
  (∀ (s : State) (n : Nat), s.dev.hostOpen → n < 24 →
    Does (.clearLossCount n) s fun d => d.rd (RING_LOSS_COUNT_COUNT n) = 0 ∧ Frame [.host] [RING_LOSS_COUNT_COUNT n] s.dev d) ∧
  (∀ (s : State) (n : Nat), s.dev.hostOpen → n < 16 →
    Does (.clearVoiceCounts n) s fun d =>
      d.rd (VOICE_RUNT_COUNT_COUNT n) = 0 ∧ d.rd (VOICE_OVERRUN_COUNT_COUNT n) = 0 ∧
      Frame [.host] [VOICE_RUNT_COUNT_COUNT n, VOICE_OVERRUN_COUNT_COUNT n] s.dev d)

/-- O11. Reads of RING_DATA, long registers, ANA_MISS and the capture buffer have their read effects. That these rows stand for one-word
reads is log entry 11, and that they name the errors they meet log entry 24. -/
def Obligations.ReadsHaveTheirEffect : Prop :=
  (∀ (s : State) (n off : Nat), n < 24 → off < 0x800 → s.dev.readServed (0x100800 + 0x1000 * n + off) →
    (off % 16 = 0 → s.dev.rd (RING_FILL_WORDS n) ≠ 0 →
      Does (.ringDataRead n off []) s fun d =>
        (d.ring n).snap = s.dev.headWord n ∧ (d.ring n).snapOk = true ∧ Frame [.rings, .host] [] s.dev d) ∧
    (off % 16 = 0 → s.dev.rd (RING_FILL_WORDS n) = 0 →
      Does (.ringDataRead n off []) s fun d =>
        (d.ring n).snap = 0 ∧ d.rd (RING_STATUS_UNDERRUN n) = 1 ∧ Frame [.rings, .host] [RING_STATUS_UNDERRUN n] s.dev d) ∧
    (off % 16 = 12 → (s.dev.ring n).snapOk →
      Does (.ringDataRead n off []) s fun d =>
        (d.ring n).snapOk = false ∧ d.rd (RING_RD_PTR_INDEX n) = (s.dev.rd (RING_RD_PTR_INDEX n) + 1) % s.dev.ringCap n % 2 ^ 17 ∧
        d.rd (RING_FILL_WORDS n) = (s.dev.rd (RING_FILL_WORDS n) - 1) % 2 ^ 18 ∧
        Frame [.rings, .host, .writer, .faults]
          [RING_RD_PTR_INDEX n, RING_FILL_WORDS n, RING_STATUS_FULL n, RING_STATUS_ABOVE_WM n] s.dev d)) ∧
  (∀ (s : State) (a : Nat) (f : Fld), a < 2 ^ 24 → a % 4 = 0 → s.dev.readServed a → fieldsAt a = some [f] → f.word = a →
    32 < f.width → f.width ≤ 64 → ¬ (0x6100 ≤ a ∧ a < 0x6300 ∧ 0x44 ≤ a % 0x80) →
    Does (.lowWordRead a) s fun d =>
      Store.read d.snaps (a + 4) = s.dev.beginRead.visible f / 2 ^ 32 % 2 ^ 32 ∧ Frame [.snaps, .rings, .host] [] s.dev d) ∧
  (∀ (s : State) (a off : Nat), a < 4 → off < 16 → off % 4 = 0 → s.dev.readServed (0x6600 + 0x10 * a + off) →
    (off = 0 → Does (.missedTriggerRead a off []) s fun d =>
      (d.ana a).missSnap = (s.dev.ana a).miss.headD 0 ∧ (d.ana a).miss = (s.dev.ana a).miss ∧ Frame [.anas, .rings, .host] [] s.dev d) ∧
    (off = 12 → (s.dev.ana a).missOk → Does (.missedTriggerRead a off []) s fun d =>
      (d.ana a).miss = (s.dev.ana a).miss.tail ∧ Frame [.anas, .rings, .host] [ANA_MISS_FILL a] s.dev d)) ∧
  (∀ (s : State) (i off : Nat), i < 65536 → off = 0 → s.dev.readServed (0x300000 + 0x10 * i + off) →
    Does (.captureBufferRead i off []) s fun d => d.cap.snap = Store.read s.dev.cap.buf i ∧ Frame [.cap, .rings, .host] [] s.dev d) ∧
  (∀ (s : State) (w n off a : Nat) (c : Instr), (c, a) ∈ [(Instr.ringDataRead n off [(w, 1)], 0x100800 + 0x1000 * n + off),
    (Instr.missedTriggerRead n off [(w, 1)], 0x6600 + 0x10 * n + off), (Instr.captureBufferRead n off [(w, 1)], 0x300000 + 0x10 * n + off)] →
    c.wf → s.dev.readServed a →
    Does c s fun d =>
      d.rd (SRAM_CORR (sramBank w)) = min (s.dev.rd (SRAM_CORR (sramBank w)) + 1) (2 ^ 16 - 1) ∧
      (Store.read s.dev.sram.corrRep (sramBank w) = 0 → d.rd FAULT_STATUS_LAST_CODE = 0x0B01))

/-- O12. A reference switch gates, relocks, measures its window and opens again. -/
def Obligations.ReferenceSwitchTakesItsSteps : Prop :=
  (∀ (s : State) (c : Nat), s.dev.clocked → s.dev.time.step = 3 → c < coarseMod →
    Does (.referenceSwitch c) s fun d =>
      d.rd TB_STATUS_SPLL_LOCK = 0 ∧ d.rd TB_STATUS_SOURCE = s.dev.time.target % 4 ∧
      d.time = { s.dev.time with step := 5, coarse := max s.dev.time.coarse c, gap := 0, fifths := 0 } ∧
      Frame [.time] [TB_STATUS_SPLL_LOCK, TB_STATUS_SOURCE] s.dev d) ∧
  (∀ s : State, s.dev.clocked → s.dev.time.step = 5 →
    Does .spllLockDetect s fun d =>
      d.rd TB_STATUS_SPLL_LOCK = 1 ∧ d.time = { s.dev.time with step := 7 } ∧ Frame [.time] [TB_STATUS_SPLL_LOCK] s.dev d) ∧
  (∀ (s : State) (c : Nat), s.dev.clocked → s.dev.time.step = 7 → s.dev.time.target ≠ 1 → 1018 < c → c < 1030 →
    s.dev.firstOpening = false → s.dev.time.coarse + s.dev.time.gap * 16 / 5 < coarseMod → (∀ t < 4, s.dev.rd (TIMER_STATUS_RUNNING t) = 0) →
    Does (.windowCheck c) s fun d =>
      d.rd TB_STATUS_GATED = 0 ∧ d.time.coarse = s.dev.time.coarse + s.dev.time.gap * 16 / 5 ∧ d.time.step = 0 ∧
      d.rd RELOCK_GAP_G = min s.dev.time.gap (2 ^ 24 - 1) ∧ d.rd TB_EVENT_RELOCK = 1 ∧
      Frame [.time, .voices, .tune] ([TB_STATUS_GATED, RELOCK_COUNT_COUNT, RELOCK_GAP_G, TB_EVENT_RELOCK, TB_STATUS_REFOUT_SRC,
        CHOIR_STATUS_HOLDOVER] ++ (List.range 16).map VOICE_STATUS_FIFO_LEVEL ++ (List.range 16).map VOICE_EVTOTAL_COUNT ++
        (List.range 20).map TUNE_STATUS_MODE ++ (List.range 20).map TUNE_HITS_COUNT) s.dev d) ∧
  (∀ (s : State) (c : Nat), s.dev.clocked → s.dev.time.step = 7 → s.dev.time.target ≠ 1 → c ≤ 1018 ∨ 1030 ≤ c →
    s.dev.time.repeated = false →
    Does (.windowCheck c) s fun d =>
      d.rd TB_STATUS_SPLL_LOCK = 0 ∧ d.time = { s.dev.time with step := 5, repeated := true } ∧ Frame [.time] [TB_STATUS_SPLL_LOCK] s.dev d)

/-- O13. A failed switch falls back to the crystal, and a failing crystal is the safe state. That GATED is set at once at an overspeed is
the model's choice (log entry 30). -/
def Obligations.FailedSwitchFallsBackOrIsSafe : Prop :=
  (∀ s : State, s.dev.clocked → s.dev.time.step = 5 → s.dev.time.target = 1 → s.dev.bears srcSpll →
    Does .spllSwitchTimeout s fun d =>
      d.rd TB_EVENT_SPLL_FAIL = 1 ∧ d.rd FAULT_STATUS_LAST_CODE = 0x0410 ∧ d.is TB_STATUS_GATED = true ∧
      d.time.step = 4 ∧ d.time.target = s.dev.crystalSource) ∧
  (∀ s : State, s.dev.clocked → s.dev.time.step = 7 → s.dev.time.target ≠ 1 →
    Does .spllSwitchTimeout s fun d =>
      d.rd TB_EVENT_SPLL_FAIL = 1 ∧ d.rd POWER_STATUS_STATE = 5 ∧ d.rd SAFE_STATUS_CAUSE = 1 ∧ d.rd SAFE_STATUS_CODE = 0x0411 ∧
      d.is TB_STATUS_GATED = true) ∧
  (∀ (s : State) (c : Nat), s.dev.clocked → 414 ≤ c → c < coarseMod → s.dev.sckOpen → s.dev.bears srcSpll → s.dev.time.step = 0 →
    Does (.overspeed c) s fun d =>
      d.rd TB_EVENT_OVERSPEED = 1 ∧ d.rd FAULT_STATUS_LAST_CODE = 0x0412 ∧ d.is TB_STATUS_GATED = true ∧ d.time.step = 3 ∧
      d.time.target = s.dev.rd TB_STATUS_SOURCE) ∧
  (∀ (s : State) (c : Nat), s.dev.alive → s.dev.rd TB_STATUS_FCK_SRC = 0 → s.dev.mode ≠ 5 → c < 2 →
    Does (.xtalFail c) s fun d =>
      d.rd TB_STATUS_FCK_SRC = 1 ∧ d.rd TB_EVENT_XTAL_FAIL = 1 ∧ d.rd TB_STATUS_SPLL_LOCK = 0 ∧ d.rd TB_STATUS_FPLL_LOCK = 0 ∧
      d.is TB_STATUS_GATED = true ∧ d.rd POWER_STATUS_STATE = 5 ∧ d.rd SAFE_STATUS_CAUSE = 2 ∧ d.rd SAFE_STATUS_CODE = 0x0420 + c ∧
      d.time.coarse = s.dev.coarse)

/-- O14. The OCXO check counts good windows and a lost reference is reported. -/
def Obligations.OcxoIsCheckedAndReported : Prop :=
  ((∀ (s : State) (m n : Nat) (p : F64), s.dev.clocked → s.dev.rd TB_STATUS_OCXO_STATE = 2 → s.dev.time.lastY = some p →
    f64Le (f64Abs (s.dev.windowOffset m n)) (f64OfRat 1 2000000) →
    f64Lt (f64Abs (f64Sub (s.dev.windowOffset m n) p)) (f64OfRat 1 200000000) →
    Does (.ocxoWindow m n) s fun d =>
      d.rd OCXO_OFFSET_VALUE = picoUnits (s.dev.windowOffset m n) % 2 ^ 32 ∧
      d.rd TB_STATUS_STAB_COUNT = min 30 (s.dev.rd TB_STATUS_STAB_COUNT + 1) ∧
      d.rd TB_STATUS_OCXO_STATE = (if 29 ≤ s.dev.rd TB_STATUS_STAB_COUNT then 3 else 2) ∧
      Frame [.time, .power] [OCXO_OFFSET_VALUE, OCXO_DRIFT_VALUE, TB_STATUS_STAB_COUNT, TB_STATUS_OCXO_STATE] s.dev d) ∧
  (∀ (s : State) (m n : Nat), s.dev.clocked → s.dev.rd TB_STATUS_OCXO_STATE = 2 →
    f64Le (f64Abs (s.dev.windowOffset m n)) (f64OfRat 1 2000000) = false →
    Does (.ocxoWindow m n) s fun d =>
      d.rd TB_STATUS_STAB_COUNT = 0 ∧ d.rd TB_STATUS_OCXO_STATE = 2 ∧
      Frame [.time] [OCXO_OFFSET_VALUE, OCXO_DRIFT_VALUE, TB_STATUS_STAB_COUNT] s.dev d) ∧
  (∀ s : State, s.dev.clocked → s.dev.rd TB_STATUS_OCXO_STATE = 1 → s.dev.rd TB_CFG_RDY_USE = 0 →
    Does .refInEdgesPresent s fun d =>
      d.rd TB_STATUS_OCXO_STATE = 2 ∧ d.rd TB_STATUS_STAB_COUNT = 0 ∧
      Frame [.time] [TB_STATUS_OCXO_STATE, TB_STATUS_STAB_COUNT] s.dev d) ∧
  (∀ s : State, s.dev.hostOpen → s.dev.rd TB_STATUS_OCXO_STATE = 3 →
    Does .tbRestartCheck s fun d =>
      d.rd TB_STATUS_OCXO_STATE = 1 ∧ d.rd TB_STATUS_STAB_COUNT = 0 ∧
      d.time.planned = decide (s.dev.crystalSource ≠ s.dev.rd TB_STATUS_SOURCE) ∧
      Frame [.time, .host] [TB_STATUS_OCXO_STATE, TB_STATUS_STAB_COUNT] s.dev d)) ∧
  ((∀ s : State, s.dev.clocked → s.dev.rd TB_STATUS_OCXO_STATE = 3 → s.dev.time.step = 0 → s.dev.rd TB_STATUS_SOURCE = 0 →
    s.dev.rd TB_STATUS_REFOUT_SRC ≠ 2 → s.dev.bears srcOcxo →
    Does .refInLost s fun d =>
      d.rd TB_EVENT_REF_LOSS = 1 ∧ d.rd FAULT_STATUS_LAST_CODE = 0x0401 ∧ d.rd TB_STATUS_OCXO_STATE = 1 ∧ d.rd TB_STATUS_STAB_COUNT = 0 ∧
      Frame ([Part.time] ++ faultParts) ([TB_EVENT_REF_LOSS, TB_STATUS_OCXO_STATE, TB_STATUS_STAB_COUNT] ++ strikeFlds srcOcxo) s.dev d) ∧
  (∀ s : State, s.dev.clocked → s.dev.rd TB_STATUS_OCXO_STATE = 3 → s.dev.time.step = 0 → s.dev.rd TB_STATUS_SOURCE = 0 →
    s.dev.rd PIN_LEVEL_OCXO_RDY = 1 → s.dev.rd TB_CFG_RDY_USE = 1 → s.dev.bears srcOcxo →
    Does (.ocxoRdyChange false) s fun d =>
      d.rd PIN_LEVEL_OCXO_RDY = 0 ∧ d.rd TB_EVENT_RDY_FELL = 1 ∧ d.rd FAULT_STATUS_LAST_CODE = 0x0404 ∧ d.rd TB_STATUS_OCXO_STATE = 1 ∧
      Frame ([Part.time] ++ faultParts)
        ([PIN_LEVEL_OCXO_RDY, TB_EVENT_RDY_FELL, TB_STATUS_OCXO_STATE, TB_STATUS_STAB_COUNT] ++ strikeFlds srcOcxo) s.dev d) ∧
  (∀ s : State,
    (s.dev.clocked = false ∨ s.dev.time.refEdges = false ∨ s.dev.rd TB_STATUS_OCXO_STATE ≠ 1 →
      Does (.ocxoRdyChange true) s fun d => d.rd PIN_LEVEL_OCXO_RDY = 1 ∧ Frame [] [PIN_LEVEL_OCXO_RDY] s.dev d) ∧
    (s.dev.clocked → s.dev.time.refEdges → s.dev.rd TB_STATUS_OCXO_STATE = 1 →
      Does (.ocxoRdyChange true) s fun d =>
        d.rd PIN_LEVEL_OCXO_RDY = 1 ∧ d.rd TB_STATUS_OCXO_STATE = 2 ∧ d.rd TB_STATUS_STAB_COUNT = 0 ∧
        Frame [.time] [PIN_LEVEL_OCXO_RDY, TB_STATUS_OCXO_STATE, TB_STATUS_STAB_COUNT] s.dev d)) ∧
  (∀ s : State, s.dev.clocked → s.dev.time.warmStarted → s.dev.time.warmRep = false → s.dev.rd TB_CFG_WARMUP_MAX ≠ 0 →
    s.dev.time.warmDone = false →
    Does .warmupLate s fun d =>
      d.rd TB_EVENT_WARMUP_LATE = 1 ∧ d.rd FAULT_STATUS_LAST_CODE = 0x0405 ∧ d.time = { s.dev.time with warmRep := true } ∧
      Frame ([Part.time] ++ faultParts) ([TB_EVENT_WARMUP_LATE] ++ faultFlds) s.dev d))

/-- O15. Tuning hits fill the histogram; a full collection that passes gives a candidate table. -/
def Obligations.TuningCollectsAndTests : Prop :=
  ((∀ (s : State) (c slot pos : Nat) (runs : List (Bool × Nat)) (r : Bool), s.dev.alive → c < 20 → slot < coarseMod →
    runBits runs = 3072 → s.dev.sckOpen → s.dev.rd (TUNE_STATUS_MODE c) ≠ 0 → s.dev.blocked c slot false = false →
    decodeWindow 1024 runs = [.edge pos r] → s.dev.rd (TUNE_HITS_COUNT c) + 1 < 2 ^ 20 →
    Does (.tuningHit c slot runs false) s fun d =>
      Store.read (d.tun c).hist (pos % 1024) = (Store.read (s.dev.tun c).hist (pos % 1024) + 1) % 2 ^ 21 ∧
      (∀ i, i ≠ pos % 1024 → Store.read (d.tun c).hist i = Store.read (s.dev.tun c).hist i) ∧
      d.rd (TUNE_HITS_COUNT c) = s.dev.rd (TUNE_HITS_COUNT c) + 1 ∧
      Frame [.time, .tune, .voices] [TUNE_HITS_COUNT c, VOICE_STATUS_FIFO_LEVEL c] s.dev d) ∧
  (∀ (s : State) (c slot : Nat) (runs : List (Bool × Nat)), s.dev.alive → c < 20 → slot < coarseMod →
    runBits runs = 3072 → s.dev.sckOpen → s.dev.rd (TUNE_STATUS_MODE c) ≠ 0 → s.dev.blocked c slot false = false →
    decodeWindow 1024 runs = [] → s.dev.rd (TUNE_DISCARD_COUNT c) < 65535 →
    Does (.tuningHit c slot runs false) s fun d =>
      d.rd (TUNE_DISCARD_COUNT c) = s.dev.rd (TUNE_DISCARD_COUNT c) + 1 ∧ d.tune = s.dev.tune ∧
      Frame [.time] [TUNE_DISCARD_COUNT c] s.dev d) ∧
  (∀ (s : State) (c slot : Nat) (runs : List (Bool × Nat)) (busy : Bool), c < 20 → slot < coarseMod → runBits runs = 3072 →
    s.dev.blocked c slot busy → Does (.tuningHit c slot runs busy) s fun d => Frame [] [] s.dev d)) ∧
  (∀ (s : State) (c slot pos : Nat) (runs : List (Bool × Nat)) (r : Bool) (h : Store), s.dev.alive → 16 ≤ c → c < 20 →
    slot < coarseMod → runBits runs = 3072 → s.dev.sckOpen → s.dev.rd (TUNE_STATUS_MODE c) ≠ 0 → s.dev.blocked c slot false = false →
    decodeWindow 1024 runs = [.edge pos r] → s.dev.rd (TUNE_HITS_COUNT c) + 1 = 2 ^ 20 → s.dev.rd (TUNE_STATUS_STATE c) = 0 →
    h = Store.write (s.dev.tun c).hist (pos % 1024) ((Store.read (s.dev.tun c).hist (pos % 1024) + 1) % 2 ^ 21) →
    emptyBins h ≤ 8 → widestBin h ≤ 4096 →
    Does (.tuningHit c slot runs false) s fun d =>
      d.rd (TUNE_STATUS_PENDING c) = 1 ∧ d.rd (TUNE_STATUS_MODE c) = 0 ∧ d.rd (TUNE_STATUS_EMPTY c) = emptyBins h ∧
      d.rd (TUNE_TEST_WIDEST c) = widestBin h ∧ (d.tun c).cand = tuneTable h 1024 0 0 ∧ (d.tun c).table = (s.dev.tun c).table ∧
      Frame [.time, .tune]
        [TUNE_HITS_COUNT c, TUNE_STATUS_PENDING c, TUNE_STATUS_MODE c, TUNE_STATUS_EMPTY c, TUNE_TEST_WIDEST c] s.dev d)

/-- O16. Tables swap, expire and time out; a restart begins a new collection. -/
def Obligations.TuningTablesAndTheirTimers : Prop :=
  (∀ (s : State) (c : Nat), s.dev.alive → c < 20 → s.dev.rd (TUNE_STATUS_PENDING c) = 1 → s.dev.ownerPeriods c = false →
    s.dev.sckOpen →
    Does (.tableSwap c) s fun d =>
      d.rd (TUNE_STATUS_STATE c) = 1 ∧ d.rd (TUNE_STATUS_PENDING c) = 0 ∧ (d.tun c).table = (s.dev.tun c).cand ∧
      d.rd (TUNE_SEQ_COUNT c) = (s.dev.rd (TUNE_SEQ_COUNT c) + 1) % 2 ^ 16 ∧
      d.rd (TUNE_SWAP_TIME_TIME c) = s.dev.coarse * 1024 % 2 ^ 64 ∧
      Frame [.tune] [TUNE_STATUS_STATE c, TUNE_STATUS_PENDING c, TUNE_SEQ_COUNT c, TUNE_SWAP_TIME_TIME c, TUNE_VALID_CTX, TUNE_HITS_COUNT c,
        TUNE_STATUS_MODE c] s.dev d) ∧
  (∀ (s : State) (c : Nat), s.dev.alive → c < 20 → s.dev.rd (TUNE_STATUS_STATE c) = 1 →
    Does (.tableExpired c) s fun d =>
      d.rd (TUNE_STATUS_STATE c) = 2 ∧ d.rd FAULT_STATUS_LAST_CODE = 0x0205 ∧ (d.tun c).table = (s.dev.tun c).table ∧
      Frame ([Part.tune, Part.voices, Part.anas] ++ faultParts) ([TUNE_STATUS_STATE c, TUNE_VALID_CTX, VOICE_STATUS_FIFO_LEVEL c] ++ faultFlds) s.dev d) ∧
  (∀ (s : State) (c : Nat), s.dev.alive → c < 20 → (s.dev.tun c).boot → (s.dev.tun c).lateRep = false →
    s.dev.rd (TUNE_STATUS_MODE c) ≠ 0 → s.dev.bears (tuneOwner c) →
    Does (.bootTuningLate c) s fun d =>
      d.rd FAULT_STATUS_LAST_CODE = 0x0207 ∧ d.tun c = { s.dev.tun c with lateRep := true } ∧
      Frame ([Part.tune] ++ faultParts) (strikeFlds (tuneOwner c)) s.dev d) ∧
  (∀ (s : State) (c : Nat), s.dev.alive → c < 16 → (s.dev.tun c).boot → s.dev.rd (TUNE_STATUS_MODE c) ≠ 0 →
    s.dev.rd (STRIKE_RETIRED c) = 0 → s.dev.rd (VOICE_STATUS_STATE c) = 1 →
    Does (.collectionTimeout c) s fun d =>
      d.rd FAULT_STATUS_LAST_CODE = 0x0208 ∧ d.rd (STRIKE_RETIRED c) = 1 ∧ d.rd (VOICE_STATUS_STATE c) = 3 ∧
      d.rd (TUNE_STATUS_MODE c) = 0) ∧
  (∀ (s : State) (c : Nat), s.dev.hostOpen → c < 20 → s.dev.collects c →
    Does (.tuneRestart c) s fun d =>
      (d.tun c).hist = [] ∧ d.rd (TUNE_HITS_COUNT c) = 0 ∧ d.rd (TUNE_STATUS_MODE c) = s.dev.tuneMode c ∧
      Frame [.tune, .host] [TUNE_HITS_COUNT c, TUNE_STATUS_MODE c] s.dev d)

/-- O17. A trip holds an exciter at its safe level until a pulse start finds no trip. -/
def Obligations.TripHoldsTheExciter : Prop :=
  (∀ (s : State) (x : Nat), x < 8 → s.dev.power.good → s.dev.matrixActive → s.dev.rd (EXC_TRIP_COUNT_COUNT x) < 65535 →
    s.dev.rd (EXC_STATUS_STATE x) = 1 ∨ s.dev.rd (EXC_STATUS_STATE x) = 2 →
    Does (.exciterTrip x) s fun d =>
      (d.exc x).hold = true ∧ d.rd (EXC_STATUS_STATE x) = 3 ∧ (d.exc x).out = s.dev.rd (EXC_CFG_SAFE x) ∧
      d.rd (EXC_TRIP_COUNT_COUNT x) = s.dev.rd (EXC_TRIP_COUNT_COUNT x) + 1 ∧
      Frame [.excs] [EXC_TRIP_COUNT_COUNT x, EXC_STATUS_TRIP_LIVE x, EXC_STATUS_STATE x] s.dev d) ∧
  (∀ (s : State) (x : Nat) (e : Exc), x < 8 → s.dev.alive → s.dev.mode = 1 → s.dev.exc x = e → e.running → e.high = false →
    e.afterHold = false → s.dev.rd (EXC_CFG_MODE x) = 1 → e.pulse = 0 → s.dev.rd (EXC_TRIP_SEL x) = 0 → s.dev.rd (EXC_STATUS_STATE x) = 3 →
    (Does (.pulseStart x false) s fun d =>
      (d.exc x).hold = false ∧ (d.exc x).high = true ∧ (d.exc x).pulse = 1 ∧ d.rd (EXC_STATUS_STATE x) = 2 ∧
      (d.exc x).out = s.dev.rd (EXC_CFG_ACTIVE x) ∧ Frame [.excs] [EXC_STATUS_TRIP_LIVE x, EXC_STATUS_STATE x] s.dev d) ∧
    (Does (.pulseStart x true) s fun d =>
      (d.exc x).hold = true ∧ (d.exc x).high = true ∧ (d.exc x).pulse = 1 ∧ d.rd (EXC_STATUS_STATE x) = 3 ∧
      (d.exc x).out = s.dev.rd (EXC_CFG_SAFE x) ∧ Frame [.excs] [EXC_STATUS_TRIP_LIVE x, EXC_STATUS_STATE x] s.dev d)) ∧
  (∀ (s : State) (x below : Nat) (e : Exc), x < 8 → below < 256 → s.dev.monitorsOn → s.dev.exc x = e → e.running → e.high →
    e.hold = false → e.failed = 0 → s.dev.rd (EXC_CFG_MODE x) < 3 → s.dev.rd (EXC_TRIP_BLANK x) < s.dev.rd (EXC_WIDTH_FCK x) →
    (∀ m, s.dev.rd (EXC_TRIP_SEL x) = 0 → (∀ j < 8, s.dev.rd (WM_CFG_QUAL_EN j) ≠ 0 → j = m) → s.dev.rd (WM_CFG_QUAL_EN m) = 1 →
      m < 8 → s.dev.rd (WM_CFG_QUAL_EXC m) = x → s.dev.rd (WM_STATUS_STATE m) = 4 → below.testBit m →
      s.dev.rd (WM_LOSS_MASK_VOICES m) = 0 → s.dev.rd (WM_COND_COUNT_COUNT m) < 65535 → s.dev.rd (EXC_STATUS_CHECK_FAIL x) < 2 →
      Does (.openWireCheck x below) s fun d =>
        (d.exc x).qual = true ∧ (d.exc x).failed = 2 ^ m ∧ d.rd (EXC_STATUS_CHECK_FAIL x) = s.dev.rd (EXC_STATUS_CHECK_FAIL x) + 1 ∧
        d.rd (WM_COND_COUNT_COUNT m) = s.dev.rd (WM_COND_COUNT_COUNT m) + 1 ∧
        Frame ([Part.excs, Part.wms] ++ faultParts)
          ([EXC_STATUS_TRIP_LIVE x, EXC_STATUS_CHECK_FAIL x, WM_COND_COUNT_COUNT m] ++ faultFlds) s.dev d) ∧
    ((∀ j < 8, s.dev.rd (WM_CFG_QUAL_EN j) = 0) → s.dev.rd (EXC_TRIP_SEL x) = 0 →
      Does (.openWireCheck x below) s fun d =>
        (d.exc x).qual = true ∧ (d.exc x).checking = true ∧ d.rd (EXC_STATUS_CHECK_FAIL x) = s.dev.rd (EXC_STATUS_CHECK_FAIL x) ∧
        Frame [.excs] [EXC_STATUS_TRIP_LIVE x] s.dev d))

/-- O18. An exciter's schedule starts, runs through its pulses or sweep steps and ends. -/
def Obligations.ExciterFollowsItsSchedule : Prop :=
  (∀ (s : State) (x : Nat) (e : Exc), x < 8 → s.dev.alive → s.dev.mode = 1 → s.dev.exc x = e → e.startDue →
    (s.dev.rd (EXC_STATUS_STATE x) = 1 → e.running = false →
      Does (.exciterStart x) s fun d =>
        (d.exc x).running = true ∧ (d.exc x).startDue = false ∧ (d.exc x).pulse = 0 ∧ d.rd (EXC_STATUS_STEP x) = 0 ∧
        d.rd (EXC_STATUS_STATE x) = 2 ∧ Frame [.excs] [EXC_STATUS_STEP x, EXC_STATUS_STATE x] s.dev d) ∧
    (s.dev.rd (EXC_STATUS_STATE x) = 2 → e.running → s.dev.rd (EXC_SKIP_COUNT_COUNT x) < 65535 → e.skipRep = none →
      Does (.exciterStart x) s fun d =>
        (d.exc x).running = true ∧ (d.exc x).pulse = e.pulse ∧ (d.exc x).high = e.high ∧ d.rd FAULT_STATUS_LAST_CODE = 0x0306 ∧
        d.rd (EXC_SKIP_COUNT_COUNT x) = s.dev.rd (EXC_SKIP_COUNT_COUNT x) + 1 ∧
        Frame ([Part.excs] ++ faultParts) ([EXC_SKIP_COUNT_COUNT x] ++ faultFlds) s.dev d)) ∧
  (∀ (s : State) (x : Nat) (e : Exc) (trip : Bool), x < 8 → s.dev.alive → s.dev.mode = 1 → s.dev.exc x = e → e.running →
    e.high → s.dev.rd (EXC_TRIP_SEL x) = 0 →
    (s.dev.rd (EXC_CFG_MODE x) = 1 ∨ s.dev.rd (EXC_CFG_MODE x) = 2 ∧ e.pulse = s.dev.rd (EXC_COUNT_PULSES x) →
      s.dev.rd (EXC_STATUS_STATE x) = 2 → e.hold = false → e.afterHold = false →
      Does (.pulseEnd x) s fun d =>
        (d.exc x).running = false ∧ (d.exc x).high = false ∧ d.rd (EXC_STATUS_STATE x) = 1 ∧
        (d.exc x).out = 1 - s.dev.rd (EXC_CFG_ACTIVE x) ∧
        d.rd (EXC_STATUS_CHECK_FAIL x) = (if e.checking = true ∧ e.failed = 0 then 0 else s.dev.rd (EXC_STATUS_CHECK_FAIL x)) ∧
        Frame [.excs] [EXC_STATUS_CHECK_FAIL x, EXC_STATUS_TRIP_LIVE x, EXC_STATUS_STATE x] s.dev d) ∧
    (s.dev.rd (EXC_CFG_MODE x) = 2 → e.pulse ≠ s.dev.rd (EXC_COUNT_PULSES x) →
      Does (.pulseEnd x) s fun d =>
        (d.exc x).running = true ∧ (d.exc x).high = false ∧ (d.exc x).pulse = e.pulse ∧
        Frame [.excs] [EXC_STATUS_CHECK_FAIL x, EXC_STATUS_TRIP_LIVE x] s.dev d) ∧
    (s.dev.rd (EXC_CFG_MODE x) = 3 → 0 < e.pulse →
      Does (.sweepHalfPeriod x trip) s fun d =>
        (d.exc x).running = true ∧ (d.exc x).high = false ∧ (d.exc x).cycle = e.cycle ∧
        Frame [.excs] [EXC_STATUS_CHECK_FAIL x, EXC_STATUS_TRIP_LIVE x] s.dev d)) ∧
  (∀ (s : State) (x : Nat) (e : Exc) (trip : Bool), x < 8 → s.dev.alive → s.dev.mode = 1 → s.dev.exc x = e → e.running →
    e.high = false → s.dev.rd (EXC_CFG_MODE x) = 3 → 0 < e.pulse →
    (e.cycle + 1 < s.dev.rd (EXC_SWEEP_CYCLES x) →
      Does (.sweepHalfPeriod x trip) s fun d =>
        (d.exc x).cycle = e.cycle + 1 ∧ (d.exc x).high = true ∧ d.rd (EXC_STATUS_STEP x) = s.dev.rd (EXC_STATUS_STEP x) ∧
        Frame [.excs] [EXC_STATUS_TRIP_LIVE x, EXC_STATUS_STATE x] s.dev d) ∧
    (s.dev.rd (EXC_SWEEP_CYCLES x) ≤ e.cycle + 1 → s.dev.rd (EXC_STATUS_STEP x) + 1 < s.dev.rd (EXC_SWEEP_STEPS x) →
      s.dev.rd (EXC_STATUS_STEP x) < 1023 →
      Does (.sweepHalfPeriod x trip) s fun d =>
        (d.exc x).cycle = 0 ∧ (d.exc x).high = true ∧ d.rd (EXC_STATUS_STEP x) = s.dev.rd (EXC_STATUS_STEP x) + 1 ∧
        Frame [.excs] [EXC_STATUS_STEP x, EXC_STATUS_TRIP_LIVE x, EXC_STATUS_STATE x] s.dev d) ∧
    (s.dev.rd (EXC_SWEEP_CYCLES x) ≤ e.cycle + 1 → s.dev.rd (EXC_SWEEP_STEPS x) ≤ s.dev.rd (EXC_STATUS_STEP x) + 1 →
      s.dev.rd (EXC_STATUS_STATE x) = 2 →
      Does (.sweepHalfPeriod x trip) s fun d =>
        (d.exc x).running = false ∧ (d.exc x).high = false ∧ d.rd (EXC_STATUS_STATE x) = 1 ∧
        Frame [.excs] [EXC_STATUS_STATE x] s.dev d))

/-- O19. Window monitors settle, run their self-test and classify conditions. -/
def Obligations.MonitorsAreTestedAndClassified : Prop :=
  (∀ (s : State) (m : Nat), m < 8 → s.dev.monitorsOn → s.dev.rd (WM_STATUS_STATE m) = 1 →
    Does (.monitorSettled m) s fun d =>
      d.rd (WM_STATUS_STATE m) = (if (s.dev.wm m).due = true then 2 else 4) ∧
      (d.wm m).step = (if (s.dev.wm m).due = true then 1 else 0) ∧ (d.wm m).due = false ∧
      Frame [.wms, .excs, .voices, .anas] ([WM_STATUS_STATE m] ++ tripFlds ++ fifoFlds) s.dev d) ∧
  (∀ (s : State) (m up lo : Nat), m < 8 → up < 65536 → lo < 65536 → s.dev.monitorsOn →
    s.dev.rd (WM_STATUS_STATE m) = 2 ∨ s.dev.rd (WM_STATUS_STATE m) = 3 →
    (firstBad up lo (stepExpect (s.dev.wm m).step).1 (stepExpect (s.dev.wm m).step).2 = none →
      ((s.dev.wm m).step < 4 →
        Does (.selfTestStep m up lo) s fun d => d.wm m = { s.dev.wm m with step := (s.dev.wm m).step + 1 } ∧ Frame [.wms] [] s.dev d) ∧
      (4 ≤ (s.dev.wm m).step →
        Does (.selfTestStep m up lo) s fun d =>
          d.rd (WM_STATUS_STATE m) = 4 ∧ (d.wm m).step = 0 ∧
          Frame [.wms, .excs] ([WM_STATUS_STATE m] ++ tripFlds) s.dev d)) ∧
    (∀ i, firstBad up lo (stepExpect (s.dev.wm m).step).1 (stepExpect (s.dev.wm m).step).2 = some i → (s.dev.wm m).step < 8 →
      (s.dev.rd (WM_STATUS_STATE m) = 2 → s.dev.bears (0x18 + m) →
        Does (.selfTestStep m up lo) s fun d =>
          d.rd (WM_STATUS_STATE m) = 3 ∧ (d.wm m).step = 1 ∧ d.rd (WM_STATUS_FAIL_STEP m) = (s.dev.wm m).step ∧
          d.rd (WM_STATUS_SEEN_UP m) = bit (up.testBit i) ∧ d.rd (WM_STATUS_SEEN_LO m) = bit (lo.testBit i) ∧
          d.rd FAULT_STATUS_LAST_CODE = 0x0304 ∧
          Frame ([Part.wms, Part.excs, Part.voices, Part.anas] ++ faultParts) ([WM_STATUS_STATE m, WM_STATUS_FAIL_STEP m, WM_STATUS_SEEN_UP m,
            WM_STATUS_SEEN_LO m] ++ tripFlds ++ fifoFlds ++ strikeFlds (0x18 + m)) s.dev d) ∧
      (s.dev.rd (WM_STATUS_STATE m) = 3 → s.dev.rd (STRIKE_RETIRED (0x18 + m)) = 0 →
        Does (.selfTestStep m up lo) s fun d =>
          d.rd (WM_STATUS_STATE m) = 5 ∧ d.rd (STRIKE_RETIRED (0x18 + m)) = 1 ∧ d.rd (WM_STATUS_FAIL_STEP m) = (s.dev.wm m).step ∧
          d.rd FAULT_STATUS_LAST_CODE = 0x0305))) ∧
  (∀ (s : State) (mask : Nat), mask < 256 → s.dev.hostOpen → s.dev.mode ≠ 3 → s.dev.testAllowed mask →
    Does (.wmSelfTest mask) s fun d =>
      (∀ m < 8, mask.testBit m → d.rd (WM_STATUS_STATE m) = 2 ∧ (d.wm m).step = 1 ∧ (d.wm m).before = (s.dev.wm m).level) ∧
      (∀ m < 8, mask.testBit m = false → d.rd (WM_STATUS_STATE m) = s.dev.rd (WM_STATUS_STATE m) ∧ d.wm m = s.dev.wm m) ∧
      Frame [.wms, .excs, .voices, .anas, .host] ((List.range 8).map WM_STATUS_STATE ++ tripFlds ++ fifoFlds) s.dev d) ∧
  (∀ (s : State) (m : Nat), m < 8 → s.dev.monitorsOn → s.dev.rd (WM_STATUS_STATE m) = 4 → s.dev.bears (0x18 + m) →
    Does (.monitorBothHigh m) s fun d =>
      d.rd (WM_STATUS_STATE m) = 2 ∧ d.rd (WM_STATUS_FAIL_STEP m) = 5 ∧ d.rd (WM_STATUS_SEEN_UP m) = 1 ∧ d.rd (WM_STATUS_SEEN_LO m) = 1 ∧
      (d.wm m).step = 1 ∧ d.rd FAULT_STATUS_LAST_CODE = 0x0304 ∧
      Frame ([Part.wms, Part.excs, Part.voices, Part.anas] ++ faultParts) ([WM_STATUS_STATE m, WM_STATUS_FAIL_STEP m, WM_STATUS_SEEN_UP m,
        WM_STATUS_SEEN_LO m] ++ tripFlds ++ fifoFlds ++ strikeFlds (0x18 + m)) s.dev d) ∧
  (∀ (s : State) (m n level : Nat), m < 8 → n < 16 → level = 1 ∨ level = 2 → s.dev.monitorsOn → s.dev.rd (WM_STATUS_STATE m) = 4 →
    s.dev.rd (WM_LOSS_MASK_VOICES m) = 2 ^ n → s.dev.rd (WM_CFG_CLASS_COND m) = 3 → s.dev.rd (WM_CFG_QUAL_EN m) = 0 →
    s.dev.rd (WM_COND_COUNT_COUNT m) < 65535 → s.dev.bears n → Store.read s.dev.faults.struck n = 0 →
    s.dev.rd (STRIKE_STRIKES n) < 15 → (s.dev.wm m).rep301 ≠ some (s.dev.rd (TIMER_PCOUNT_COUNT (s.dev.timerOf n))) →
    Does (.classifierCondition m level) s fun d =>
      (d.wm m).level = level ∧ d.rd (WM_COND_COUNT_COUNT m) = s.dev.rd (WM_COND_COUNT_COUNT m) + 1 ∧
      (d.voice n).causes = (s.dev.voice n).causes ||| 16 ∧ d.rd (STRIKE_STRIKES n) = s.dev.rd (STRIKE_STRIKES n) + 1 ∧
      d.rd FAULT_STATUS_LAST_CODE = 0x0301 ∧
      Frame ([Part.wms, Part.excs, Part.voices, Part.anas] ++ faultParts) ([WM_COND_COUNT_COUNT m] ++ tripFlds ++ fifoFlds ++ strikeFlds n) s.dev d)

/-- O20. A period boundary ends a period, begins the next and marks every voice of its timer. The marker for every voice FIFO is read from
R15 (log entry 25). -/
def Obligations.PeriodBoundaryEndsAndBegins : Prop :=
  ∀ (s : State) (t : Nat), t < 4 → s.dev.alive → s.dev.sckOpen → s.dev.rd (TIMER_STATUS_RUNNING t) = 1 →
    s.dev.time.planned = false → s.dev.rd APPLY_STATUS_STATE = 0 → s.dev.choir.resetAt = none →
    Does (.periodBoundary t) s fun d =>
      (d.timer t).prev = some (s.dev.timer t).next ∧
      (d.timer t).next = (s.dev.timer t).next + s.dev.rd (TIMER_LENGTH_US t) * 800 ∧
      (d.timer t).live = (decide (s.dev.mode = 1) && s.dev.power.firstOk) ∧
      d.rd (TIMER_PCOUNT_COUNT t) = (if (s.dev.timer t).prev = none then 0 else (s.dev.rd (TIMER_PCOUNT_COUNT t) + 1) % 2 ^ 32) ∧
      (∀ v < 16, s.dev.timerOf v = t → (d.voice v).counted = 0 ∧
        ∃ e ∈ (d.voice v).fifo, e.ext = (s.dev.timer t).next ∧ e.fine = 0 ∧ e.flags.testBit 0 = true ∧ e.flags.testBit 7 = true)

/-- O21. A stamp enters the period sums; a boundary marker hands them over. -/
def Obligations.StampsEnterTheSums : Prop :=
  (∀ (s : State) (v b raw n : Nat) (e : Entry) (rest : List Entry) (f : FitVoice), v < 16 → s.dev.alive →
    (s.dev.voice v).fitTap = e :: rest → s.dev.fitVoice v = f → e.flags.testBit 7 = false → e.flags.testBit 0 = false →
    e.flags.testBit 6 = false → f.base = some b → raw = (e.evcnt + 2 ^ 32 - f.n0) % 2 ^ 32 →
    n = f.lastN + (raw + 2 ^ 40 - f.lastN) % 2 ^ 32 →
    Does (.stampAccumulate v []) s fun d =>
      (d.voice v).fitTap = rest ∧ (d.fitVoice v).lastN = n ∧ (d.fitVoice v).base = some b ∧
      (d.fitVoice v).sums = f.sums.add n ((e.ext - b) * 65536 + e.m) ∧
      Frame [.voices, .fitV, .fitP] [VOICE_STATUS_FIFO_LEVEL v] s.dev d) ∧
  (∀ (s : State) (v : Nat) (e : Entry) (rest : List Entry) (f : FitVoice), v < 16 → s.dev.alive →
    (s.dev.voice v).fitTap = e :: rest → s.dev.fitVoice v = f → e.flags.testBit 7 →
    Does (.stampAccumulate v []) s fun d =>
      (d.voice v).fitTap = rest ∧ (d.fitVoice v).base = some e.ext ∧ (d.fitVoice v).n0 = e.evcnt ∧ (d.fitVoice v).lastN = 0 ∧
      (d.fitVoice v).sums = Sums.zero ∧
      (∀ i ∈ s.dev.items, i.ctx = v → i.stop = e.ext → { i with a := f.sums, ivl := f.ivl } ∈ d.items) ∧
      Frame [.voices, .fitV, .fitP, .items] [VOICE_STATUS_FIFO_LEVEL v] s.dev d)

/-- O22. A close-out writes its RING_16 entry; a late one rests; a silent voice is reported. -/
def Obligations.CloseoutWritesItsEntry : Prop :=
  (∀ (s : State) (i : Item) (rest : List Item), s.dev.alive → s.dev.mode ≠ 5 → s.dev.items = i :: rest →
    s.dev.gone i.va i.waitA → s.dev.gone i.vb i.waitB → i.tooFew = false →
    (i.ctx < 16 → i.causes = 0 →
      Does (.closeout 0 [] 0) s fun d =>
        d.items = rest ∧ (∃ w ∈ d.writer.waiting, w.ring = 16 ∧ w.words = i.voiceWords 0 (i.a.freq i.pa i.eps)) ∧
        Frame [.items, .writer, .allan, .fitV] [FIT_STATUS_QUEUE] s.dev d) ∧
    (16 ≤ i.ctx → i.ctx < 24 → i.causes = 0 →
      Does (.closeout 0 [] 0) s fun d =>
        d.items = rest ∧
        (∃ w ∈ d.writer.waiting, w.ring = 16 ∧
          w.words = i.pairWords 0 (pairRatio i.a i.b i.pa i.pb) (i.a.freq i.pa i.eps) (i.b.freq i.pb i.eps)) ∧
        Frame [.items, .writer, .allan, .fitP, .pipe] [FIT_STATUS_QUEUE] s.dev d) ∧
    (∀ r, i.ctx < 16 → firstReason i.causes = r → r ≠ 0 → i.causes.testBit 2 = false →
      s.dev.rd (FIT_VOICE_REST_COUNT_COUNT i.ctx) < 65535 →
      Does (.closeout 0 [] 0) s fun d =>
        d.items = rest ∧ d.rd (FIT_VOICE_REST_COUNT_COUNT i.ctx) = s.dev.rd (FIT_VOICE_REST_COUNT_COUNT i.ctx) + 1 ∧
        d.rd (FIT_VOICE_STATUS_REST_LAST i.ctx) = r ∧
        (∃ w ∈ d.writer.waiting, w.ring = 16 ∧ w.words = i.voiceWords r f64Zero) ∧
        Frame [.items, .writer, .allan, .fitV] [FIT_STATUS_QUEUE, FIT_VOICE_REST_COUNT_COUNT i.ctx, FIT_VOICE_STATUS_REST_LAST i.ctx] s.dev d)) ∧
  ((∀ (s : State) (t : Nat) (h : Item) (rest : List Item), t < 4 → s.dev.alive → s.dev.mode ≠ 5 → s.dev.items = h :: rest → h.timer = t →
    h.ctx < 16 → s.dev.anaItems = [] → (∀ i ∈ rest, i.timer = t → h.stop ≤ i.stop) → s.dev.bears srcDevice →
    Does (.closeoutDeadline t) s fun d =>
      d.items = rest.filter (fun i => !(i.timer == t && i.stop == h.stop)) ∧ d.rd FIT_EVENT_CLOSE_LATE = 1 ∧
      d.rd FAULT_STATUS_LAST_CODE = 0x0501 ∧
      ∃ w ∈ d.writer.waiting, w.ring = 16 ∧
        w.words = { h with causes := h.causes ||| 2 }.voiceWords (firstReason (h.causes ||| 2)) f64Zero) ∧
  (∀ (s : State) (v : Nat), v < 16 → s.dev.alive → s.dev.counting v → s.dev.rd (FIT_VOICE_SILENCE_MAX_VALUE v) ≠ 0 →
    s.dev.rd (FIT_VOICE_STATUS_SILENT v) = 0 → s.dev.bears v →
    Does (.voiceSilent v) s fun d =>
      d.rd (FIT_VOICE_STATUS_SILENT v) = 1 ∧ d.rd FIT_EVENT_SILENCE = 1 ∧ (d.voice v).causes = (s.dev.voice v).causes ||| 16 ∧
      d.rd FAULT_STATUS_LAST_CODE = 0x0510 ∧
      Frame ([Part.voices, Part.anas, Part.items, Part.anaItems] ++ faultParts)
        ([FIT_VOICE_STATUS_SILENT v, FIT_EVENT_SILENCE, VOICE_STATUS_FIFO_LEVEL v] ++ strikeFlds v) s.dev d))

/-- O23. The clear commands of the fit engine, the analysers and the track channel clear what they name. -/
def Obligations.ClearCommandsClear : Prop :=
  ((∀ (s : State) (c : Nat), c < 24 → s.dev.hostOpen →
    Does (.clearAllanCtx c) s fun d =>
      (∀ k < 16, Tab.read Allan.fresh d.allan (c * 16 + k) = Allan.fresh) ∧
      (∀ j, j < c * 16 ∨ c * 16 + 16 ≤ j → Tab.read Allan.fresh d.allan j = Tab.read Allan.fresh s.dev.allan j) ∧
      Store.read d.allanFrom c = s.dev.ext + 1 ∧ Frame [.allan, .allanFrom, .host] [] s.dev d) ∧
  (∀ s : State, s.dev.hostOpen →
    Does .clearAllanAll s fun d =>
      (∀ c < 24, ∀ k < 16, Tab.read Allan.fresh d.allan (c * 16 + k) = Allan.fresh) ∧
      (∀ c < 24, Store.read d.allanFrom c = s.dev.ext + 1) ∧ Frame [.allan, .allanFrom, .host] [] s.dev d) ∧
  (∀ s : State, s.dev.hostOpen →
    Does .clearRestCounts s fun d =>
      (∀ n < 16, d.rd (FIT_VOICE_REST_COUNT_COUNT n) = 0) ∧ (∀ p < 8, d.rd (FIT_PAIR_REST_COUNT_VALUE p) = 0) ∧
      Frame [.host] ((List.range 16).map FIT_VOICE_REST_COUNT_COUNT ++ (List.range 8).map FIT_PAIR_REST_COUNT_VALUE) s.dev d)) ∧
  (∀ (s : State) (a : Nat), a < 4 → s.dev.hostOpen →
    (Does (.clearHistogram a) s fun d =>
      (d.ana a).shown = [] ∧ (d.ana a).acc.hist = [] ∧ (d.ana a).total = (s.dev.ana a).total ∧ d.rd (ANA_HIST_UNDER_HIST_UNDER a) = 0 ∧
      d.rd (ANA_HIST_OVER_HIST_OVER a) = 0 ∧ Frame [.anas, .host] [ANA_HIST_UNDER_HIST_UNDER a, ANA_HIST_OVER_HIST_OVER a] s.dev d) ∧
    (Does (.clearTotal a) s fun d =>
      (d.ana a).total = 0 ∧ (d.ana a).shown = (s.dev.ana a).shown ∧ d.rd (ANA_RSTAT_TOTAL_SUSPECT a) = 0 ∧
      Frame [.anas, .host] [ANA_RSTAT_TOTAL_SUSPECT a] s.dev d) ∧
    (Does (.clearMissCount a) s fun d => d.rd (ANA_MISS_COUNT a) = 0 ∧ Frame [.host] [ANA_MISS_COUNT a] s.dev d)) ∧
  ((∀ s : State, s.dev.hostOpen → s.dev.logs.tot.length < 32 → s.dev.logQueue.length < 64 →
    Does .clearProv s fun d =>
      d.logs.tot = s.dev.logs.tot ++ [{ s.dev.totLatest with cause := 4, prov := 0, provCount := 0, delta := 0 }] ∧
      d.logQueue = s.dev.logQueue ++
        [LogRec.mk 4 (s.dev.rd CHOIR_CFG_ADDR) s.dev.calendar (bytesLE 8 s.dev.totLatest.prov ++ bytesLE 4 s.dev.totLatest.provCount)] ∧
      Frame [.logs, .logQueue, .host] [LOG_STATUS_LOG_QUEUE, LOG_STATUS_TOT_QUEUE] s.dev d) ∧
  (∀ s : State, s.dev.hostOpen → s.dev.rd PIN_LEVEL_SEAL_OPEN = 1 → s.dev.logQueue.length < 64 → s.dev.rd LOG_STATUS_NVM_HOLD = 0 →
    Does .emptyWeakMap s fun d =>
      (∀ w < 64, d.rd (WEAK_MAP_VALID w) = 0 ∧ d.rd (WEAK_MAP_SEG w) = 0) ∧ d.rd TRACK_STATUS_WEAK_FULL = 0 ∧
      d.logQueue.length = s.dev.logQueue.length + 1 ∧
      Frame [.track, .logQueue, .host] ([TRACK_STATUS_WEAK_FULL, LOG_STATUS_LOG_QUEUE] ++ (List.range 64).map WEAK_MAP_SEG ++
        (List.range 64).map WEAK_MAP_VALID) s.dev d))

/-- O24. An analyser measures its stamps and replaces its result block as a whole. -/
def Obligations.AnalyserMeasures : Prop :=
  ((∀ (s : State) (a ts : Nat) (x : Ana) (t : Taken) (rest : List Taken), a < 4 → s.dev.measuring → s.dev.ana a = x → x.tq = [] →
    x.qs = [] → x.qt = t :: rest → x.ahead = [] → x.arm = some ts → ts ≤ t.entry.tuned → t.entry.flags = 0 → t.entry.k = 0 →
    s.dev.rd (ANA_CFG_MODE a) = 1 → s.dev.anaTwo a → s.dev.noneEarlier (s.dev.rd (ANA_CFG_VOICE_S a)) t.entry →
    edgeSelected (s.dev.rd (ANA_CFG_EDGE_T a)) t.entry.edge → s.dev.rd (ANA_CFG_HIST_EN a) = 0 → s.dev.rd (ANA_TRIG_COND a) = 0 →
    Does (.analyserStamp a []) s fun d =>
      d.ana a = { x with qt := rest, arm := none, acc := { x.acc with ivl := x.acc.ivl.use (t.entry.tuned - ts) 0 } } ∧
      Frame [.anas] [] s.dev d) ∧
  (∀ (s : State) (a b : Nat) (x : Ana) (t : Taken) (rest : List Taken), a < 4 → s.dev.measuring → s.dev.ana a = x → x.tq = [] →
    x.qs = t :: rest → x.ahead = [] → x.begun = some b → t.entry.flags = 0 → t.entry.k = 0 →
    s.dev.rd (ANA_CFG_MODE a) = 3 → edgeSelected (s.dev.rd (ANA_CFG_EDGE_S a)) t.entry.edge →
    decide (t.entry.edge = 1) = s.dev.is (ANA_CFG_POL a) → s.dev.rd (ANA_CFG_HIST_EN a) = 0 → s.dev.rd (ANA_TRIG_COND a) = 0 →
    Does (.analyserStamp a []) s fun d =>
      d.ana a = { x with qs := rest, begun := none,
                         acc := { x.acc with width := t.entry.tuned - b, ivl := x.acc.ivl.use (t.entry.tuned - b) 0 } } ∧
      Frame [.anas] [] s.dev d)) ∧
  ((∀ (s : State) (a : Nat) (x : Ana) (h : AnaItem) (rest : List AnaItem), a < 4 → s.dev.measuring → s.dev.ana a = x →
    s.dev.anaItems = h :: rest → h.ana = a → h.mode = 1 ∨ h.mode = 3 → (∀ v ∈ h.vs, s.dev.cleared v h.stop = true) → x.qs = [] → x.qt = [] →
    x.ahead = [h.stop] → x.pend = [] → h.histEn = false →
    (h.causes = 0 → h.minMeas ≤ x.acc.ivl.count →
      Does (.analyserCloseout a []) s fun d =>
        d.rd (ANA_RSEQ_RSEQ a) = (s.dev.rd (ANA_RSEQ_RSEQ a) + 1) % 2 ^ 32 ∧ d.rd (ANA_RSTAT_REASON a) = 0 ∧
        d.rd (ANA_COUNT_COUNT a) = x.acc.ivl.count % 2 ^ 32 ∧ d.rd (ANA_UNPAIRED_UNPAIRED a) = x.acc.unpaired % 2 ^ 32 ∧
        d.rd (ANA_VALUE_VALUE a) = ((x.acc.ivl.values h.eps).getD 0 0).toNat ∧ d.rd (ANA_SD_SD a) = ((x.acc.ivl.values h.eps).getD 1 0).toNat ∧
        d.rd (ANA_MIN_MIN a) = ((x.acc.ivl.values h.eps).getD 2 0).toNat ∧ d.rd (ANA_MAX_MAX a) = ((x.acc.ivl.values h.eps).getD 3 0).toNat ∧
        d.anaItems.length = rest.length ∧
        Frame [.anas, .anaItems] [ANA_RSEQ_RSEQ a, ANA_RSTAT_REASON a, ANA_RSTAT_CAUSES a, ANA_RSTAT_DECIM a, ANA_START_START a,
          ANA_COUNT_COUNT a, ANA_UNPAIRED_UNPAIRED a, ANA_VALUE_VALUE a, ANA_SD_SD a, ANA_MIN_MIN a, ANA_MAX_MAX a] s.dev d) ∧
    (firstReason h.causes ≠ 0 → h.minMeas ≤ x.acc.ivl.count →
      Does (.analyserCloseout a []) s fun d =>
        d.rd (ANA_RSEQ_RSEQ a) = (s.dev.rd (ANA_RSEQ_RSEQ a) + 1) % 2 ^ 32 ∧ d.rd (ANA_RSTAT_REASON a) = firstReason h.causes ∧
        d.rd (ANA_RSTAT_CAUSES a) = h.causes % 2 ^ 16 ∧ d.rd (ANA_COUNT_COUNT a) = 0 ∧ d.rd (ANA_VALUE_VALUE a) = 0)) ∧
  (∀ (s : State) (a : Nat), a < 4 → s.dev.readServed (0x6140 + 0x80 * a) →
    Does (.rseqRead a) s fun d =>
      Store.read d.snaps (0x6150 + 0x80 * a) = s.dev.rd (ANA_COUNT_COUNT a) ∧
      Store.read d.snaps (0x6158 + 0x80 * a) = s.dev.rd (ANA_VALUE_VALUE a) % 2 ^ 32 ∧
      Store.read d.snaps (0x6174 + 0x80 * a) = s.dev.rd (ANA_MAX_MAX a) / 2 ^ 32 ∧ Frame [.snaps, .rings, .host] [] s.dev d))

/-- O25. A command trigger is accepted while collecting and counted as missed while capturing. -/
def Obligations.TriggerIsAcceptedOrMissed : Prop :=
  ∀ (s : State) (a : Nat), a < 4 → s.dev.hostOpen → (s.dev.rd CAP_CFG_TRIG_MASK).testBit a →
    (s.dev.rd CAP_STATUS_STATE = 1 ∨ s.dev.rd CAP_STATUS_STATE = 2 → s.dev.cap.line = [] →
      Does (.commandTrigger a) s fun d =>
        d.rd CAP_STATUS_STATE = 3 ∧
        (∃ t, d.cap.trig = some t ∧ t.src = a ∧ t.mask = 2 ^ a ∧ t.time = s.dev.timeNow ∧ t.post = 0 ∧
          t.pre = min (s.dev.rd CAP_PRE_VALUE) s.dev.cap.coll ∧ t.short = decide (s.dev.cap.coll < s.dev.rd CAP_PRE_VALUE)) ∧
        Frame [.cap, .host] [CAP_STATUS_STATE] s.dev d) ∧
    (∀ t, s.dev.rd CAP_STATUS_STATE = 3 → s.dev.cap.trig = some t → (s.dev.ana a).miss.length < 4 → s.dev.rd (ANA_MISS_COUNT a) < 65535 →
      Does (.commandTrigger a) s fun d =>
        d.cap = { s.dev.cap with missed := s.dev.cap.missed + 1 } ∧ d.rd (ANA_MISS_COUNT a) = s.dev.rd (ANA_MISS_COUNT a) + 1 ∧
        d.rd (ANA_MISS_FILL a) = (s.dev.ana a).miss.length + 1 ∧
        (d.ana a).miss = (s.dev.ana a).miss ++ [s.dev.timeNow % 2 ^ 64 + 2 ^ 64 + s.dev.rd CAP_STATUS_CSEQ * 2 ^ 96] ∧
        Frame [.cap, .anas, .host] [ANA_MISS_COUNT a, ANA_MISS_FILL a] s.dev d)

/-- O26. A capture completes into its index entry, rearms, and released segments are used again. -/
def Obligations.CaptureCompletesAndGoesOn : Prop :=
  (∀ (s : State) (t : Trig) (g : Nat), s.dev.rd CAP_STATUS_STATE = 3 → s.dev.cap.trig = some t → s.dev.nextSegment = some g →
    ∀ c, c = Instr.captureTimeout ∧ s.dev.alive = true ∧ s.dev.rd CAP_TIMEOUT_VALUE ≠ 0 ∨ c = Instr.completeCapture ∧ s.dev.hostOpen →
    Does c s fun d =>
      d.rd CAP_STATUS_CSEQ = (s.dev.rd CAP_STATUS_CSEQ + 1) % 2 ^ 16 ∧ d.rd CAP_STATUS_STATE = 4 ∧ d.rd CAP_STATUS_SEG = g % 64 ∧
      d.cap.used = s.dev.cap.used ||| 2 ^ g ∧ d.cap.trig = none ∧ d.cap.missed = 0 ∧
      (∃ w ∈ d.writer.waiting, w.ring = 22 ∧ w.words = indexWords t ((s.dev.rd CAP_STATUS_CSEQ + 1) % 2 ^ 16) (s.dev.rd CAP_STATUS_SEG)
        (min s.dev.cap.missed 0xFFFF) true false) ∧
      Frame [.cap, .writer, .faults, .host] [CAP_STATUS_CSEQ, CAP_STATUS_STATE, CAP_STATUS_SEG] s.dev d) ∧
  (∀ s : State, s.dev.alive → s.dev.rd CAP_STATUS_STATE = 4 → s.dev.cap.rearmed = false →
    Does .rearmElapsed s fun d =>
      d.rd CAP_STATUS_STATE = (if s.dev.rd CAP_PRE_VALUE ≤ s.dev.cap.coll + s.dev.cap.line.length then 2 else 1) ∧
      d.cap = { s.dev.cap with rearmed := true } ∧ Frame [.cap] [CAP_STATUS_STATE] s.dev d) ∧
  (∀ (s : State) (g : Nat), g < 64 → g < s.dev.capSegs → s.dev.hostOpen →
    (s.dev.rd CAP_STATUS_STATE ≠ 5 →
      Does (.releaseSegment g) s fun d => d.cap.used = clearBit s.dev.cap.used g ∧ Frame [.cap, .host] [] s.dev d) ∧
    (s.dev.rd CAP_STATUS_STATE = 5 → s.dev.cap.rearmed = false →
      Does (.releaseSegment g) s fun d =>
        d.rd CAP_STATUS_STATE = 4 ∧ Frame [.cap, .host] [CAP_STATUS_STATE, CAP_STATUS_SEG] s.dev d)) ∧
  (∀ s : State, s.dev.hostOpen → s.dev.rd CAP_STATUS_STATE ≠ 5 →
    Does .releaseAll s fun d =>
      d.cap = { s.dev.cap with used := 0 } ∧ Frame [.cap, .host] [] s.dev d)

/-- O27. The local sum adds the cells or rests; a resting period holds the weight up to REST_HOLD_MAX. -/
def Obligations.LocalSumAndRest : Prop :=
  (∀ (s : State) (j : PipeJob), s.dev.alive → s.dev.mode = 1 → s.dev.deviceCount ≤ 1 → s.dev.pipe.jobs = [j] → j.own = none →
    s.dev.jobReady j → s.dev.choir.ops = [] → j.stale = false →
    (∀ c ∈ s.dev.cells, (s.dev.cellResult j c).reason = 0 → s.dev.ratioBad c (s.dev.cellResult j c).ratio = false ∧
      (s.dev.cellValues c (s.dev.cellResult j c).ratio (s.dev.cellResult j c).fb).all f64IsFinite = true) →
    (∀ r, s.dev.cellCauses j ||| j.extra = r → r ≠ 0 →
      Does (.localSum []) s fun d =>
        (∃ k ∈ d.pipe.jobs, k.own = some (restSum r) ∧ k.sum = some (restSum r) ∧ k.pseq = j.pseq) ∧ d.pipe.jobs.length = 1 ∧ Frame [.pipe, .choir] [] s.dev d) ∧
    (∀ vs : List F64, s.dev.cellCauses j ||| j.extra = 0 →
      vs = s.dev.cells.map (fun c => (s.dev.cellValues c (s.dev.cellResult j c).ratio (s.dev.cellResult j c).fb).getD 6 f64Zero) →
      f64IsFinite (f64SumList vs) →
      Does (.localSum []) s fun d =>
        (∃ k ∈ d.pipe.jobs, k.sum = some { value := f64SumList vs, reason := 0, causes := 0 } ∧ k.vs = vs ∧ k.pseq = j.pseq) ∧ d.pipe.jobs.length = 1 ∧
        Frame [.pipe, .choir] [] s.dev d)) ∧
  (∀ (s : State) (j : PipeJob) (rest : List PipeJob) (v : SumVal), s.dev.alive → s.dev.mode = 1 → s.dev.pipe.jobs = j :: rest →
    j.sum = some v → v.reason ≠ 0 → v.reason < 16 → s.dev.cellRetired v = false → j.digest = none → j.realign = [] → j.cmd = 0 →
    j.arith = false → j.badRatio = false → j.stale = false → j.belt = 0 → s.dev.pipe.holdCause = false → s.dev.waiting = false →
    s.dev.rd LR_STATUS_RESTS < 255 →
    (s.dev.rd LR_STATUS_RESTS < s.dev.rd PIPE_CFG_REST_HOLD_MAX →
      Does (.pipelineCommit []) s fun d =>
        d.rd LR_STATUS_RESTS = s.dev.rd LR_STATUS_RESTS + 1 ∧ d.rd LR_STATUS_REST_REASON = v.reason ∧ d.rd LR_STATUS_STABLE = 0 ∧
        d.rd LR_STATUS_CENTER_ZERO = 0 ∧ d.rd LR_STATUS_ERROR = 0 ∧ d.rd LR_SEQ_SEQ = (s.dev.rd LR_SEQ_SEQ + 1) % 2 ^ 16 ∧
        d.rd LR_SEQ_PSEQ = j.pseq % 2 ^ 16 ∧ d.pipe.jobs = rest ∧ d.pipe.motion = [] ∧ d.pipe.ma = s.dev.pipe.ma ∧
        Frame [.pipe, .writer, .faults] ([LR_STATUS_RESTS, LR_STATUS_REST_REASON, LR_STATUS_STABLE, LR_STATUS_CENTER_ZERO, LR_STATUS_ERROR,
          LR_STATUS_ERR_CAUSE, LR_SEQ_SEQ, LR_SEQ_PSEQ, PIPE_STATUS_MOTION_FILL] ++ diagFlds) s.dev d) ∧
    (s.dev.rd LR_STATUS_RESTS = s.dev.rd PIPE_CFG_REST_HOLD_MAX → s.dev.pipe.restLatched = false →
      Does (.pipelineCommit []) s fun d =>
        d.rd LR_STATUS_RESTS = s.dev.rd LR_STATUS_RESTS + 1 ∧ d.rd LR_STATUS_ERROR = 1 ∧ d.rd LR_STATUS_ERR_CAUSE = 4 ∧
        d.rd LR_WEIGHT_WEIGHT = 0 ∧ d.rd FAULT_STATUS_LAST_CODE = 0x0603 ∧ d.pipe.ma = [] ∧ d.pipe.restLatched = true ∧
        Frame ([Part.pipe, Part.pins] ++ faultParts) (resultFlds ++ diagFlds ++ faultFlds) s.dev d))

/-- O28. A good period feeds the averager and, when ready, shows the rounded weight. -/
def Obligations.GoodPeriodIsCommitted : Prop :=
  ∀ (s : State) (j : PipeJob) (rest : List PipeJob) (v : SumVal), s.dev.alive → s.dev.mode = 1 → s.dev.pipe.jobs = j :: rest →
    j.sum = some v → v.reason = 0 → s.dev.cellRetired v = false → j.digest = none → j.realign = [] → j.cmd = 0 → j.arith = false →
    j.badRatio = false → j.stale = false → j.belt = 0 → f64IsFinite v.value →
    (s.dev.pipe.ma.length < s.dev.rd PIPE_CFG_N_MA → s.dev.rd PIPE_CFG_N_MA < 256 →
      Does (.pipelineCommit []) s fun d =>
        d.rd LR_WEIGHT_WEIGHT = 0 ∧ d.rd LR_STATUS_ERROR = 1 ∧ d.rd LR_STATUS_ERR_CAUSE = 1 ∧ d.pipe.ma = s.dev.pipe.ma ++ [v.value] ∧
        d.rd PIPE_STATUS_FED = s.dev.pipe.ma.length + 1 ∧ d.rd PIPE_STATUS_READY = 0 ∧
        d.rd LR_SEQ_SEQ = (s.dev.rd LR_SEQ_SEQ + 1) % 2 ^ 16 ∧ d.rd LR_SEQ_PSEQ = j.pseq % 2 ^ 16 ∧
        Frame [.pipe, .pins, .writer, .faults] (resultFlds ++ diagFlds) s.dev d) ∧
    (∀ (a g : F64) (w : Nat), s.dev.pipe.ma = [] → s.dev.rd PIPE_CFG_N_MA = 0 → s.dev.rd PIPE_CFG_IIR_EN = 0 → s.dev.pipe.motion = [] →
      s.dev.rd PIPE_MOTION_WIN = w → 2 ≤ w → w < 128 → s.dev.rd PIPE_STATUS_INIT_DONE = 1 → s.dev.rd PIPE_CFG_ZT_EN = 0 →
      s.dev.rd LR_STATUS_NET = 0 → s.dev.rd PIPE_CFG_RANGES = 1 → s.dev.rd LR_STATUS_RANGE = 1 →
      a = f64Div (f64SumList [v.value]) (f64OfInt 1) → f64IsFinite a → f64IsFinite (f64Abs (f64Sub a a)) →
      f64IsFinite (f64Mul (f64Div (f64OfInt (s.dev.rd PIPE_MOTION_K)) (f64OfInt 4)) (s.dev.interval 1)) →
      g = f64Sub a s.dev.pipe.z → s.dev.overloaded g = false → s.dev.underloaded g = false →
      Does (.pipelineCommit []) s fun d =>
        d.rd LR_WEIGHT_WEIGHT = ofSigned 32 (roundTo g (s.dev.interval 1) * (s.dev.rd (RANGE_MULT 0) : Nat)) ∧
        d.rd LR_STATUS_STABLE = 0 ∧ d.rd LR_STATUS_ERROR = 0 ∧ d.rd LR_STATUS_OVERLOAD = 0 ∧ d.rd LR_STATUS_UNDERLOAD = 0 ∧
        d.rd LR_STATUS_RESTS = 0 ∧ d.rd LR_STATUS_CENTER_ZERO = bit (f64Le (f64Abs g) (f64Mul (f64OfRat 1 4) (s.dev.interval 1))) ∧
        d.rd LR_SEQ_SEQ = (s.dev.rd LR_SEQ_SEQ + 1) % 2 ^ 16 ∧ d.rd LR_SEQ_PSEQ = j.pseq % 2 ^ 16 ∧
        d.pipe.ma = [v.value] ∧ d.pipe.motion = [a] ∧ d.pipe.z = s.dev.pipe.z ∧ d.pipe.t = s.dev.pipe.t ∧
        d.rdF DIAG_S_S = v.value ∧ d.rdF DIAG_F_F = a ∧ d.rdF DIAG_G_G = g ∧
        Frame [.pipe, .pins, .writer, .faults] (resultFlds ++ diagFlds) s.dev d)

/-- O29. An operator command is numbered and queued; a second one is refused with code 9. The period they take effect in and the pairing of
CODE with RESULT are the model's readings (log entries 38 and 39). -/
def Obligations.OperatorCommandsAreTaken : Prop :=
  ∀ (s : State) (c : Instr) (code : Nat), (c, code) ∈ [(Instr.zero, 0xB1), (Instr.tare, 0xB2), (Instr.clearTare, 0xB3), (Instr.print, 0xB4)] →
    s.dev.hostOpen → s.dev.mayOperate →
    (s.dev.rd OP_STATUS_PENDING = 0 → s.dev.deviceCount ≤ 1 →
      Does c s fun d =>
        d.rd OP_STATUS_SEQ = (s.dev.rd OP_STATUS_SEQ + 1) % 256 ∧ d.rd OP_STATUS_PENDING = 1 ∧ d.rd OP_STATUS_CODE = code ∧
        d.choir.ops = s.dev.choir.ops ++ [OpReq.mk s.dev.addr ((s.dev.rd OP_STATUS_SEQ + 1) % 256) code
          (s.dev.rd (TIMER_PCOUNT_COUNT s.dev.pipeTimer))] ∧
        Frame [.choir, .host] [OP_STATUS_SEQ, OP_STATUS_PENDING, OP_STATUS_CODE] s.dev d) ∧
    (s.dev.rd OP_STATUS_PENDING = 1 →
      Does c s fun d =>
        d.rd OP_STATUS_RESULT = 9 ∧ d.rd OP_STATUS_CODE = code ∧ d.choir = s.dev.choir ∧
        Frame [.host, .writer, .faults] [OP_STATUS_RESULT, OP_STATUS_CODE] s.dev d)

/-- O30. The legal result is read as one, and totaliser pulses alternate with pauses. -/
def Obligations.LegalReadAndTotalPulse : Prop :=
  (∀ s : State, s.dev.readServed 0x7400 →
    Does .legalResultRead s fun d =>
      Store.read d.snaps 0x7408 = s.dev.rd LR_TARE_TARE ∧ Store.read d.snaps 0x740C = s.dev.rd LR_SEQ_SEQ + s.dev.rd LR_SEQ_PSEQ * 65536 ∧
      Frame [.snaps, .rings, .host] [] s.dev d) ∧
  (∀ s : State, s.dev.alive → s.dev.pins.totPulse = 1 →
    Does .totPulseEnd s fun d =>
      d.pins.totPulse = 0 ∧ d.pins.totRest = true ∧ d.rd TOT_BACKLOG = (s.dev.rd TOT_BACKLOG - 1) % 2 ^ 16 ∧
      Frame [.pins] [TOT_BACKLOG] s.dev d) ∧
  (∀ s : State, s.dev.alive → s.dev.pins.totPulse = 0 → s.dev.pins.totRest →
    Does .totPulseEnd s fun d =>
      d.pins.totRest = false ∧
      d.pins.totPulse = (if s.dev.mode = 1 ∧ s.dev.rd TOT_CFG_SRC ≠ 0 ∧ 0 < s.dev.rd TOT_BACKLOG then 1 else 0) ∧ Frame [.pins] [] s.dev d)

/-- O31. The track channel takes the stamps of its two voices in their order. -/
def Obligations.TrackTakesItsStamps : Prop :=
  (∀ (s : State) (e : Entry) (rest : List Entry), s.dev.alive → s.dev.rd TRACK_CFG_EN = 1 → s.dev.trackState = 1 →
    s.dev.counting 14 → (s.dev.voice 14).trackTap = e :: rest → e.isStamp →
    Does (.trackStamp 14 []) s fun d =>
      (d.voice 14).trackTap = rest ∧
      d.track = { s.dev.track with tach := pruneTach s.dev.tachKeep (((match s.dev.track.tach with
        | [] => e.evcnt
        | p :: _ => p.1 + (e.evcnt + 2 ^ 32 - p.1 % 2 ^ 32) % 2 ^ 32), e.ext * 65536 + e.m) :: s.dev.track.tach) } ∧
      Frame [.voices, .track] [VOICE_STATUS_FIFO_LEVEL 14] s.dev d) ∧
  (∀ (s : State) (e : Entry) (rest : List Entry), s.dev.alive → s.dev.rd TRACK_CFG_EN = 1 → s.dev.trackState = 1 →
    s.dev.counting 14 → (s.dev.voice 15).trackTap = e :: rest → e.isStamp → s.dev.track.gate = none → s.dev.track.lastT = none →
    Does (.trackStamp 15 []) s fun d =>
      (d.voice 15).trackTap = rest ∧ d.track = { s.dev.track with lastT := some (s.dev.corrected15 e), recent := (s.dev.corrected15 e :: s.dev.track.recent).take 32 } ∧
      Frame [.voices, .track] [VOICE_STATUS_FIFO_LEVEL 15] s.dev d)

/-- O32. A frame in time is decoded or fails; a late frame is counted. What the detector gives for received bits is free (log entry 6). -/
def Obligations.FrameIsDecodedOrLate : Prop :=
  (∀ (s : State) (w : FrameWait) (rest : List FrameWait) (found : Option (List Bool × Nat)) (good : Bool), s.dev.alive →
    s.dev.rd TRACK_CFG_EN = 1 → s.dev.trackState = 1 → s.dev.track.queue = w :: rest → s.dev.ext * 65536 ≤ w.deadline →
    found = outerPasses (s.dev.rd TRACK_DETECT_SIGMA) w.cell (w.observed s.dev.track.drops) 6 1 [] →
    good = (match found with
      | none => false
      | some (bits, _) => codeField bits 40 8 == s.dev.rd TRACK_CFG_BELT_ID && decide (codeField bits 0 40 < s.dev.rd BELT_LEN) &&
          codeField bits 48 8 == s.dev.segOf (codeField bits 0 40) / 16) →
    s.dev.rd FRAME_OK < 2 ^ 32 - 1 → s.dev.rd FRAME_FAIL < 2 ^ 32 - 1 →
    Does (.frameDecode []) s fun d =>
      d.track.queue = rest ∧ d.rd FRAME_OK = s.dev.rd FRAME_OK + bit good ∧ d.rd FRAME_FAIL = s.dev.rd FRAME_FAIL + bit (!good) ∧
      (good = false → d.rd TRACK_STATUS_STATE = 1 ∧ d.rd FAULT_STATUS_LAST_CODE = (if found = none then 0x0701 else 0x0703) ∧
        Frame ([Part.track] ++ faultParts) ([FRAME_FAIL, FRAME_HEAVY] ++ faultFlds) s.dev d) ∧
      (good → s.dev.track.seen ≤ s.dev.ext * 65536 →
        f64Lt (f64OfInt ((652 * s.dev.cellLen : Nat) : Int)) (s.dev.travelled (s.dev.ext * 65536) (s.dev.nu w.frame.start)) = false →
        d.rd TRACK_STATUS_STATE = 2)) ∧
  (∀ (s : State) (w : FrameWait) (rest : List FrameWait), s.dev.alive → s.dev.track.queue = w :: rest →
    w.deadline ≤ s.dev.ext * 65536 → s.dev.rd FRAME_LATE < 2 ^ 32 - 1 → s.dev.rd FRAME_HEAVY < 2 ^ 32 - 1 →
    Does .frameLate s fun d =>
      d.track.queue = rest ∧ d.rd FRAME_LATE = s.dev.rd FRAME_LATE + 1 ∧ d.rd FRAME_HEAVY = s.dev.rd FRAME_HEAVY + 1 ∧
      d.rd FAULT_STATUS_LAST_CODE = 0x0702 ∧ Frame ([Part.track] ++ faultParts) ([FRAME_LATE, FRAME_HEAVY] ++ faultFlds) s.dev d)

/-- O33. Shock, dropout, learning and reacquisition act on the track channel. -/
def Obligations.TrackEventsAndCommands : Prop :=
  (∀ s : State, s.dev.alive → s.dev.rd TRACK_CFG_EN = 1 → s.dev.trackState ≠ 0 → s.dev.track.sigma.isSome →
    Does .shock s fun d =>
      d.track = { s.dev.track with causes := s.dev.track.causes ||| 2 } ∧ Frame [.track] [] s.dev d) ∧
  (∀ (s : State) (a b : Nat), a ≤ b → b < coarseMod → s.dev.alive → s.dev.rd TRACK_CFG_EN = 1 →
    Does (.dropout a b) s fun d =>
      d.track = { s.dev.track with drops := s.dev.track.drops ++
        [((s.dev.rd EPOCH_COUNT_COUNT * coarseMod + a) * 65536, (s.dev.rd EPOCH_COUNT_COUNT * coarseMod + b) * 65536)] } ∧
      Frame [.track] [] s.dev d) ∧
  (∀ s : State, s.dev.hostOpen → s.dev.rd TRACK_CFG_EN = 1 → s.dev.track.learn = 0 →
    Does .learnProfile s fun d => d.track = { s.dev.track with learn := 1 } ∧ Frame [.track, .host] [] s.dev d) ∧
  (∀ s : State, s.dev.alive → s.dev.rd TRACK_CFG_EN = 1 → s.dev.track.learn = 1 → s.dev.track.passed →
    Does .learnRunStart s fun d =>
      d.rd TRACK_STATUS_LEARNING = 1 ∧ d.track = { s.dev.track with learn := 2 } ∧ Frame [.track] [TRACK_STATUS_LEARNING] s.dev d) ∧
  (∀ s : State, s.dev.hostOpen → s.dev.rd TRACK_CFG_EN = 1 → s.dev.trackState ≠ 0 → s.dev.counting 14 →
    (s.dev.track.collect = none →
      Does .reacquire s fun d =>
        d.rd TRACK_STATUS_STATE = 1 ∧ d.track.anchor = none ∧ d.track.collect = none ∧ d.track.gate = none ∧ d.track.zone = none ∧
        Frame [.track, .host] [TRACK_STATUS_STATE, WM_THRESH_LIVE_LOWER 6, WM_THRESH_LIVE_UPPER 6, WM_THRESH_LIVE_HYST 6] s.dev d) ∧
    (s.dev.track.collect.isSome → s.dev.rd FRAME_FAIL < 2 ^ 32 - 1 →
      Does .reacquire s fun d =>
        d.rd TRACK_STATUS_STATE = 1 ∧ d.track.anchor = none ∧ d.track.collect = none ∧ d.track.gate = none ∧ d.track.zone = none ∧
        d.rd FRAME_FAIL = s.dev.rd FRAME_FAIL + 1 ∧ d.rd FAULT_STATUS_LAST_CODE = 0x0701 ∧
        Frame ([Part.track, Part.host] ++ faultParts) ([TRACK_STATUS_STATE, WM_THRESH_LIVE_LOWER 6, WM_THRESH_LIVE_UPPER 6,
          WM_THRESH_LIVE_HYST 6, FRAME_FAIL, FRAME_HEAVY] ++ faultFlds) s.dev d))

/-- O34. A port's lanes train through their states to UP, the attempt fails, or the port retrains. -/
def Obligations.LinkTrainsAndRetrains : Prop :=
  ((∀ (s : State) (p l : Nat), p < 2 → l < 2 → s.dev.trains p →
    ((s.dev.port p).pause = false → s.dev.rd (laneState p l) = 0 →
      Does (.laneSignalDetect p l) s fun d =>
        d.rd (laneState p l) = 1 ∧ (d.port p).signal l = true ∧ (d.port p).attempt = true ∧
        Frame [.choir] [laneState p l, LINK_STATE_STATE p, LINK_STATE_CLOCK_LANE p, LINK_STATE_REPLAY_FILL p] s.dev d) ∧
    (∀ codes, codes.all (fun c => decide (c < 1024)) → s.dev.rd (laneState p l) = 1 →
      (isIdleRun codes → Does (.laneAlign p l codes) s fun d =>
        d.rd (laneState p l) = 2 ∧ (d.port p).run l = 0 ∧ Frame [.choir] [laneState p l, LINK_STATE_REPLAY_FILL p] s.dev d) ∧
      (isIdleRun codes = false → Does (.laneAlign p l codes) s fun d => Frame [] [] s.dev d))) ∧
  (∀ (s : State) (p l sent : Nat) (codes : List Nat) (desk : Bool), p < 2 → l < 2 → codes.length = 4 →
    codes.all (fun c => decide (c < 1024)) → s.dev.trains p →
    (s.dev.rd (laneState p l) = 2 → s.dev.setAgrees l codes → (s.dev.port p).run l = 15 →
      Does (.trainingSet p l codes sent desk) s fun d =>
        d.rd (laneState p l) = 3 ∧ (d.port p).run l = 0 ∧ Frame [.choir] [laneState p l, LINK_STATE_REPLAY_FILL p] s.dev d) ∧
    (s.dev.rd (laneState p l) = 3 → s.dev.setAgrees l codes → isTs2 codes → 15 ≤ (s.dev.port p).run l →
      (s.dev.confirmed p l sent desk = false →
        Does (.trainingSet p l codes sent desk) s fun d =>
          d.rd (laneState p l) = 3 ∧ (d.port p).run l = (s.dev.port p).run l + 1 ∧ Frame [.choir] [LINK_STATE_REPLAY_FILL p] s.dev d) ∧
      (s.dev.confirmed p l sent desk → s.dev.rd (laneState p (1 - l)) = 0 →
        Does (.trainingSet p l codes sent desk) s fun d =>
          d.rd (laneState p l) = 4 ∧ d.rd (laneFails p l) = 0 ∧ d.rd (LINK_STATE_STATE p) = 1) ∧
      (s.dev.confirmed p l sent desk → s.dev.rd (laneState p (1 - l)) = 4 →
        s.dev.portUp p = false → (s.dev.port p).held = [] → (s.dev.port p).queue = [] →
        Does (.trainingSet p l codes sent desk) s fun d =>
          d.rd (laneState p l) = 4 ∧ d.rd (LINK_STATE_STATE p) = 2 ∧ (d.port p).attempt = false ∧
          Frame [.choir] [laneState p l, laneFails p l, LINK_STATE_STATE p, LINK_STATE_CLOCK_LANE p, LINK_STATE_REPLAY_FILL p,
            TUNE_STATUS_MODE (16 + 2 * p + l)] s.dev d)) ∧
    (s.dev.rd (laneState p l) = 2 ∨ s.dev.rd (laneState p l) = 3 → s.dev.setAgrees l codes = false →
      Does (.trainingSet p l codes sent desk) s fun d =>
        (d.port p).run l = 0 ∧ Frame [.choir] [LINK_STATE_REPLAY_FILL p] s.dev d)) ∧
  (∀ (s : State) (p : Nat), p < 2 → s.dev.linkAlive → (s.dev.port p).attempt → s.dev.portUp p = false →
    (s.dev.port p).sig0 → (s.dev.port p).sig1 = false → s.dev.rd (LINK_STATE_LANE_STATE_0 p) = 1 → s.dev.rd (LINK_STATE_LANE_STATE_1 p) = 0 →
    s.dev.bears (laneSource p 0) → s.dev.rd (STRIKE_RETIRED (laneSource p 1)) = 0 → s.dev.rd (LINK_STATE_FAILS_0 p) < 2 →
    Does (.trainingTimeout p) s fun d =>
      d.rd (LINK_STATE_FAILS_0 p) = s.dev.rd (LINK_STATE_FAILS_0 p) + 1 ∧ d.rd FAULT_STATUS_LAST_CODE = 0x0801 ∧
      d.rd (LINK_STATE_LANE_STATE_0 p) = 0 ∧ d.rd (LINK_STATE_STATE p) = 0 ∧ (d.port p).pause = true ∧ (d.port p).attempt = false ∧
      Frame ([Part.choir] ++ faultParts) ([LINK_STATE_FAILS_0 p, LINK_STATE_LANE_STATE_0 p, LINK_STATE_STATE p, LINK_STATE_CLOCK_LANE p,
        LINK_STATE_REPLAY_FILL p, TUNE_STATUS_MODE (16 + 2 * p), TUNE_STATUS_MODE (17 + 2 * p)] ++ strikeFlds (laneSource p 0)) s.dev d) ∧
  (∀ (s : State) (p : Nat), p < 2 →
    Does (.trainingRetry p) s fun d => d.port p = { s.dev.port p with pause := false } ∧ Frame [.choir] [LINK_STATE_REPLAY_FILL p] s.dev d)) ∧
  (∀ (s : State) (p : Nat) (fs : List Fld), p < 2 → s.dev.linkAlive → s.dev.rd (LINK_STATE_LANE_STATE_0 p) = 4 →
    s.dev.rd (LINK_RETRY_RETRAINS p) < 65535 →
    fs = [LINK_STATE_LANE_STATE_0 p, LINK_STATE_LANE_STATE_1 p, LINK_STATE_STATE p, LINK_STATE_CLOCK_LANE p, LINK_STATE_REPLAY_FILL p,
      LINK_RETRY_RETRAINS p, TUNE_STATUS_MODE (16 + 2 * p), TUNE_STATUS_MODE (17 + 2 * p)] →
    (s.dev.rd (LINK_STATE_LANE_STATE_1 p) = 4 →
      (Does (.laneSignalLoss p) s fun d =>
        d.rd (LINK_STATE_LANE_STATE_0 p) = 0 ∧ d.rd (LINK_STATE_LANE_STATE_1 p) = 0 ∧ d.rd (LINK_STATE_STATE p) = 0 ∧
        d.rd (LINK_RETRY_RETRAINS p) = s.dev.rd (LINK_RETRY_RETRAINS p) + 1 ∧ (d.port p).held = (s.dev.port p).held ∧
        Frame [.choir, .writer] fs s.dev d) ∧
      (s.dev.hostOpen → Does (.retrainPort p) s fun d =>
        d.rd (LINK_STATE_LANE_STATE_0 p) = 0 ∧ d.rd (LINK_STATE_LANE_STATE_1 p) = 0 ∧ d.rd (LINK_STATE_STATE p) = 0 ∧
        d.rd (LINK_RETRY_RETRAINS p) = s.dev.rd (LINK_RETRY_RETRAINS p) + 1 ∧ (d.port p).held = (s.dev.port p).held ∧
        Frame [.choir, .writer, .host] fs s.dev d) ∧
      (∀ l n rd codes, l < 2 → codes.length ≤ 65536 → codes.all (fun c => decide (c < 1024)) → n = violations rd codes → 16 ≤ n →
        s.dev.bears (laneSource p l) → Does (.codeViolationLimit p l rd codes) s fun d =>
        d.rd (LINK_STATE_LANE_STATE_0 p) = 0 ∧ d.rd (LINK_STATE_LANE_STATE_1 p) = 0 ∧ d.rd (LINK_STATE_STATE p) = 0 ∧
        d.rd (laneErrors p l) = min 0xFFFF (s.dev.rd (laneErrors p l) + n) ∧ d.rd FAULT_STATUS_LAST_CODE = 0x0803 ∧
        Frame ([Part.choir] ++ faultParts) (fs ++ [laneErrors p l] ++ strikeFlds (laneSource p l)) s.dev d) ∧
      (∀ l n rd codes, l < 2 → codes.length ≤ 65536 → codes.all (fun c => decide (c < 1024)) → n = violations rd codes → n < 16 →
        Does (.codeViolationLimit p l rd codes) s fun d =>
        d.rd (laneErrors p l) = min 0xFFFF (s.dev.rd (laneErrors p l) + n) ∧ Frame [] [laneErrors p l] s.dev d)) ∧
    (s.dev.rd (LINK_STATE_LANE_STATE_1 p) = 5 → s.dev.rd (LINK_STATE_STATE p) = 3 → (s.dev.port p).tried = false →
      Does (.oneLaneRetrain p) s fun d =>
        d.rd (LINK_STATE_LANE_STATE_0 p) = 0 ∧ d.rd (LINK_STATE_LANE_STATE_1 p) = 0 ∧ d.rd (LINK_STATE_STATE p) = 0 ∧
        (d.port p).tried = true ∧ Frame [.choir, .writer] fs s.dev d))

/-- O35. A good frame is delivered, a frame with a bad check is answered with NAK. -/
def Obligations.FramesAreTakenOrDiscarded : Prop :=
  ∀ (s : State) (p : Nat) (bytes : List Nat), p < 2 → s.dev.linkAlive → s.dev.portUp p → (∀ b ∈ bytes, b < 256) →
    3 ≤ bytes.length →
    (∀ m, m = parseMsg (bytes.drop 3) p → bytes.getD 0 0 = (s.dev.port p).rxSeq →
      bytes.getD 2 0 = (bytes.getD 0 0 ^^^ bytes.getD 1 0) ^^^ 0x5A → bodyGood (bytes.drop 3) → m.bcast = false → m.dst = s.dev.addr →
      m.src ≠ s.dev.addr → (s.dev.rd CHOIR_DEVICES_MASK).testBit m.src → m.type < 8 → m.fresh = false →
      (s.dev.peer m.src).duplicate m.mseq = false → s.dev.rd (LINK_FRAMES_RX_FRAMES_RX p) < 2 ^ 32 - 1 →
      Does (.frameRx p bytes false) s fun d =>
        d.choir.inbox = s.dev.choir.inbox ++ [m] ∧ (d.port p).rxSeq = ((s.dev.port p).rxSeq + 1) % 256 ∧ (d.port p).unacked = true ∧
        d.rd (LINK_FRAMES_RX_FRAMES_RX p) = s.dev.rd (LINK_FRAMES_RX_FRAMES_RX p) + 1 ∧
        d.rd CHOIR_ALIVE_ALIVE = (s.dev.rd CHOIR_ALIVE_ALIVE ||| 2 ^ m.src) % 2 ^ 16 ∧
        Frame [.choir, .writer] [LINK_FRAMES_RX_FRAMES_RX p, CHOIR_ALIVE_ALIVE, LINK_STATE_REPLAY_FILL p] s.dev d) ∧
    (bytes.getD 2 0 ≠ (bytes.getD 0 0 ^^^ bytes.getD 1 0) ^^^ 0x5A → s.dev.rd (LINK_ERR_CRC_ERR p) < 65535 →
      ∀ aborted, Does (.frameRx p bytes aborted) s fun d =>
        d.rd (LINK_ERR_CRC_ERR p) = s.dev.rd (LINK_ERR_CRC_ERR p) + 1 ∧ d.rd FAULT_STATUS_LAST_CODE = 0x0804 ∧
        d.port p = { s.dev.port p with setSent := some ((s.dev.port p).rxSeq, 1), unacked := false } ∧
        Frame ([Part.choir] ++ faultParts) ([LINK_ERR_CRC_ERR p, LINK_STATE_REPLAY_FILL p] ++ faultFlds) s.dev d)

/-- O36. ACK releases held frames, NAK and the timeout replay them, the fifth sending is the last. When the limit is judged is the model's
reading (log entry 44). -/
def Obligations.HeldFramesAreReleasedOrReplayed : Prop :=
  ∀ (s : State) (p : Nat) (x : PortSt), p < 2 → s.dev.linkAlive → s.dev.port p = x → x.queue = [] →
    (∀ k i, k < 256 → s.dev.heldIndex p k = some i →
      (Does (.ack p k) s fun d =>
        d.port p = { x with held := x.held.drop (i + 1) } ∧ Frame [.choir] [LINK_STATE_REPLAY_FILL p] s.dev d) ∧
      ((∀ h ∈ x.held, h.sends < 5) → s.dev.rd (LINK_ERR_NAK_RX p) < 65535 → s.dev.rd (LINK_RETRY_RETRIES p) < 65535 →
        Does (.nak p k []) s fun d =>
          d.port p = { x with held := (x.held.drop i).map (fun h => { h with sends := h.sends + 1 }) } ∧
          d.rd (LINK_ERR_NAK_RX p) = s.dev.rd (LINK_ERR_NAK_RX p) + 1 ∧ d.rd (LINK_RETRY_RETRIES p) = s.dev.rd (LINK_RETRY_RETRIES p) + 1 ∧
          Frame [.choir] [LINK_ERR_NAK_RX p, LINK_RETRY_RETRIES p, LINK_FRAMES_TX_FRAMES_TX p, LINK_STATE_REPLAY_FILL p] s.dev d)) ∧
    (x.unacked → Does (.ackTimer p) s fun d =>
      d.port p = { x with unacked := false, setSent := some ((x.rxSeq + 255) % 256, 0) } ∧ Frame [.choir] [LINK_STATE_REPLAY_FILL p] s.dev d) ∧
    (s.dev.portUp p → x.held ≠ [] → (∀ h ∈ x.held, h.sends < 5) → s.dev.rd (LINK_RETRY_RETRIES p) < 65535 →
      Does (.replayTimeout p []) s fun d =>
        d.port p = { x with held := x.held.map (fun h => { h with sends := h.sends + 1 }) } ∧
        d.rd (LINK_RETRY_RETRIES p) = s.dev.rd (LINK_RETRY_RETRIES p) + 1 ∧
        Frame [.choir] [LINK_RETRY_RETRIES p, LINK_FRAMES_TX_FRAMES_TX p, LINK_STATE_REPLAY_FILL p] s.dev d) ∧
    (s.dev.portUp p → (∃ h ∈ x.held, 5 ≤ h.sends) → s.dev.rd (LINK_STATE_LANE_STATE_0 p) = 4 → s.dev.rd (LINK_STATE_LANE_STATE_1 p) = 4 →
      s.dev.bears (laneSource p 0) → s.dev.bears (laneSource p 1) →
      Does (.replayTimeout p []) s fun d =>
        d.rd FAULT_STATUS_LAST_CODE = 0x0805 ∧ d.rd (LINK_STATE_STATE p) = 0 ∧ (d.port p).held = x.held)

/-- O37. The device sends TIME, HEALTH, CFGHASH and SYNC with their contents. -/
def Obligations.DeviceSendsItsMessages : Prop :=
  ∀ s : State, s.dev.choirAlive → s.dev.speaks →
    (s.dev.choirState = 4 →
      Does .timeSend s fun d =>
        s.dev.Sent d 1 0 true ([2 * s.dev.rd CHOIR_STATUS_HOLDOVER, (s.dev.rankOf s.dev.addr).getD 0] ++
          bytesLE 2 (s.dev.rd EPOCH_COUNT_COUNT) ++ bytesLE 4 (s.dev.rd (TIMER_PCOUNT_COUNT s.dev.pipeTimer)) ++
          bytesLE 8 ((s.dev.timer s.dev.pipeTimer).prev.getD 0 % coarseMod * 1024) ++ f64Bytes (s.dev.epsNow s.dev.ext) ++ bytesLE 8 s.dev.calendar ++
          bytesLE 8 (s.dev.rd CAL_SECOND_TIME) ++ copies 8 0) ∧ Frame [.choir, .writer] sendFlds s.dev d) ∧
    (Does .healthSend s fun d =>
      s.dev.Sent d 7 0 true ([s.dev.choirState, s.dev.rd CHOIR_STATUS_PARENT + s.dev.hopsToCantor % 64 * 4, s.dev.rd (LINK_STATE_STATE 0),
        s.dev.rd (LINK_STATE_STATE 1)] ++ bytesLE 4 (s.dev.rd (TIMER_PCOUNT_COUNT s.dev.pipeTimer)) ++
        bytesLE 2 (((List.range 16).map (fun n => if s.dev.rd (VOICE_STATUS_STATE n) = 3 then 2 ^ n else 0)).sum) ++ [0, 0] ++
        bytesLE 4 s.dev.thetaPs) ∧ Frame [.choir, .writer] sendFlds s.dev d) ∧
    (Does .cfghashSend s fun d =>
      s.dev.Sent d 5 0 true (bytesLE 4 (s.dev.rd CHECK_CODE) ++ bytesLE 4 (s.dev.rd CHOIR_HASH) ++ bytesLE 4 (s.dev.rd COMMON_HASH) ++
        [s.dev.rd TRACK_CFG_EN + 2 * bit ((List.range (s.dev.rd CHOIR_DEVICES_RANK_COUNT)).any
          (fun i => s.dev.rd CHOIR_RANK_RANK / 16 ^ i % 16 == s.dev.addr)), 0, 0, 0]) ∧ Frame [.choir, .writer] sendFlds s.dev d) ∧
    (∀ a b, (∀ t ∈ a, t < 2 ^ 64) → (∀ t ∈ b, t < 2 ^ 64) → s.dev.portUp 0 → s.dev.portUp 1 = false →
      Does (.syncSend a b 0) s fun d =>
        d.choir.mseq = (s.dev.choir.mseq + 1) % 65536 ∧ (d.port 0).sseq = ((s.dev.port 0).sseq + 1) % 256 ∧
        (d.port 0).launch.head? = some (s.dev.syncStamp 0 (((s.dev.port 0).sseq + 1) % 256) a) ∧ d.port 1 = s.dev.port 1 ∧
        Frame [.choir] [LINK_FRAMES_TX_FRAMES_TX 0, LINK_STATE_REPLAY_FILL 0] s.dev d)

/-- O38. A SYNC message steers the device by its measured offset. -/
def Obligations.SyncSteersTheDevice : Prop :=
  (∀ (s : State) (p : Nat) (stamp : Option Nat) (m : Msg) (rest : List Msg), p < 2 → (∀ t ∈ stamp, t < 2 ^ 64) →
    s.dev.choirAlive → s.dev.choir.inbox = m :: rest → m.type = 0 → m.port = p →
    (s.dev.exchange p m = none → s.dev.rd (LINK_BAD_SYNC_DISC p) < 65535 →
      Does (.syncRx p stamp false) s fun d =>
        d.choir.inbox = rest ∧ d.rd (LINK_BAD_SYNC_DISC p) = s.dev.rd (LINK_BAD_SYNC_DISC p) + 1 ∧ (d.port p).peer = some m.src ∧
        (d.port p).rx.head? = some (s.dev.syncStamp p (m.payload.getD 0 0) stamp) ∧ d.choir.theta = s.dev.choir.theta ∧
        Frame [.choir] [LINK_BAD_SYNC_DISC p, CHOIR_STATUS_PARENT, CHOIR_STATUS_HOPS, LINK_STATE_REPLAY_FILL p] s.dev d) ∧
    (∀ th de, s.dev.exchange p m = some (th, de) → s.dev.rd CHOIR_STATUS_PARENT = p + 1 → s.dev.choirState = 3 → within th 100 →
      within th 1000 →
      Does (.syncRx p stamp false) s fun d =>
        d.choir.inbox = rest ∧ d.rd CHOIR_THETA_VALUE = signedSat32 th ∧ d.choir.theta = some th ∧ d.choir.bad = 0 ∧
        d.rd CHOIR_STEER_S = (s.dev.steerBy th (s.dev.choir.theta.getD th)).rd CHOIR_STEER_S ∧ d.choirState = 3 ∧
        Frame [.choir] [CHOIR_THETA_VALUE, CHOIR_DELAY_VALUE, CHOIR_STEER_S, CHOIR_STATUS_PARENT, CHOIR_STATUS_HOPS,
          LINK_STATE_REPLAY_FILL p] s.dev d)) ∧
  (∀ s : State, s.dev.choirAlive →
    Does .thetaTimeout s fun d => d.choir = { s.dev.choir with run := 0, bad := 0 } ∧ Frame [.choir] [] s.dev d)

/-- O39. A device follows the cantor's TIME or claims the role. -/
def Obligations.CantorIsFollowedOrClaimed : Prop :=
  (∀ (s : State) (m : Msg) (rest : List Msg), s.dev.choirAlive → s.dev.choir.inbox = m :: rest → m.type = 1 →
    (s.dev.choirState = 0 → s.dev.acceptsTime m → s.dev.choir.time = none → m.cepoch < 65536 → m.src < 16 →
      (s.dev.peer m.src).hashed = false →
      Does .timeRx s fun d =>
        d.choir.inbox = rest ∧ d.rd CHOIR_STATUS_CEPOCH = m.cepoch ∧ d.rd CHOIR_STATUS_CANTOR = m.src ∧
        d.choir.time = some (TimeMsg.mk (intAt m.payload 2 2) (intAt m.payload 4 4) (intAt m.payload 8 8) (f64At m.payload 16)) ∧
        d.time = { s.dev.time with epsCantor := f64At m.payload 16 } ∧
        Frame [.choir, .time] [CHOIR_STATUS_CEPOCH, CHOIR_STATUS_CANTOR] s.dev d) ∧
    (s.dev.acceptsTime m = false → s.dev.stale m → s.dev.rd CHOIR_COUNTS_STALE_COUNT < 65535 →
      Does .timeRx s fun d =>
        d.choir = { s.dev.choir with inbox := rest } ∧ d.rd CHOIR_COUNTS_STALE_COUNT = s.dev.rd CHOIR_COUNTS_STALE_COUNT + 1 ∧
        Frame [.choir] [CHOIR_COUNTS_STALE_COUNT] s.dev d)) ∧
  (∀ (s : State) (e : Nat), s.dev.choirAlive → s.dev.choirState = 0 → 1 < s.dev.deviceCount → (s.dev.rankOf s.dev.addr).isSome →
    s.dev.rd APPLY_STATUS_STATE = 0 → s.dev.rd CHOIR_EVENT_ROLE = 0 →
    e = ((if after16 s.dev.choir.topEpoch (s.dev.rd CHOIR_STATUS_CEPOCH) = true then s.dev.choir.topEpoch
      else s.dev.rd CHOIR_STATUS_CEPOCH) + 1) % 65536 →
    Does .claimTime s fun d =>
      d.rd CHOIR_STATUS_STATE = 4 ∧ d.rd CHOIR_STATUS_CEPOCH = e ∧ d.rd CHOIR_STATUS_CANTOR = s.dev.addr % 16 ∧
      d.rd CHOIR_STATUS_HOLDOVER = 0 ∧ d.rd CHOIR_STATUS_HOPS = 0 ∧ d.is CHOIR_EVENT_ROLE = true ∧ d.rd FAULT_STATUS_LAST_CODE = 0x0820 ∧
      d.choir.mseq = (s.dev.choir.mseq + 1) % 65536 ∧
      Frame ([Part.time, Part.choir] ++ faultParts) ([CHOIR_STATUS_STATE, CHOIR_STATUS_CEPOCH, CHOIR_STATUS_CANTOR, CHOIR_STATUS_HOLDOVER,
        CHOIR_STATUS_HOPS, CHOIR_STATUS_PARENT, CHOIR_EVENT_ROLE, TB_STATUS_OCXO_STATE, TB_STATUS_STAB_COUNT] ++ sendFlds ++ faultFlds) s.dev d) ∧
  (∀ (s : State) (a : Nat), a < 16 → s.dev.choirAlive →
    Does (.aliveLapse a) s fun d =>
      d.rd CHOIR_ALIVE_ALIVE = clearBit (s.dev.rd CHOIR_ALIVE_ALIVE) a % 2 ^ 16 ∧ Frame [] [CHOIR_ALIVE_ALIVE] s.dev d)

/-- O40. HEALTH, CFGHASH and LOG messages of other devices are taken up. -/
def Obligations.ReportsOfOtherDevices : Prop :=
  ∀ (s : State) (m : Msg) (rest : List Msg), s.dev.choirAlive → s.dev.choir.inbox = m :: rest → m.src < 16 →
    (m.type = 7 →
      Does .healthRx s fun d =>
        d.choir.inbox = rest ∧ d.peer m.src = { s.dev.peer m.src with state := m.payload.getD 0 0, hops := m.payload.getD 1 0 / 4 } ∧
        d.rd CHOIR_ALIVE_JOINED = ((if m.payload.getD 0 0 = 3 then 2 ^ m.src else 0) + clearBit (s.dev.rd CHOIR_ALIVE_JOINED) m.src) % 2 ^ 16 ∧
        Frame [.choir] [CHOIR_ALIVE_JOINED] s.dev d) ∧
    (m.type = 5 → s.dev.choirState = 4 →
      (intAt m.payload 4 4 = s.dev.rd CHOIR_HASH → intAt m.payload 8 4 = s.dev.rd COMMON_HASH →
        Does .cfghashRx s fun d =>
          d.choir.inbox = rest ∧ (d.peer m.src).hashed = true ∧ (d.peer m.src).told = false ∧
          (d.peer m.src).choirHash = intAt m.payload 4 4 ∧ Frame [.choir] [] s.dev d) ∧
      (intAt m.payload 4 4 ≠ s.dev.rd CHOIR_HASH → (s.dev.peer m.src).told = false →
        Does .cfghashRx s fun d =>
          d.choir.inbox = rest ∧ (d.peer m.src).told = true ∧ d.is CHOIR_EVENT_CFG_MISMATCH = true ∧ d.rd FAULT_STATUS_LAST_CODE = 0x0840 ∧
          d.choirState = 4 ∧ Frame ([Part.choir] ++ faultParts) (choirEventFlds ++ faultFlds) s.dev d)) ∧
    (m.type = 4 → s.dev.logQueue.length < 64 → s.dev.rd LOG_STATUS_NVM_HOLD = 0 →
      Does .logRx s fun d =>
        d.choir.inbox = rest ∧
        d.logQueue = s.dev.logQueue ++ [LogRec.mk (m.payload.getD 2 0) (m.payload.getD 3 0 % 128 + 128) (intAt m.payload 8 8)
          (cut m.payload 16 (intAt m.payload 0 2 - 20))] ∧
        Frame [.choir, .logQueue] [LOG_STATUS_LOG_QUEUE] s.dev d)

/-- O41. Commands received over the choir take effect. -/
def Obligations.CommandsOfOtherDevices : Prop :=
  ∀ (s : State) (m : Msg) (rest : List Msg), s.dev.choirAlive → s.dev.choir.inbox = m :: rest → m.type = 6 → s.dev.stale m = false →
    (m.kind = 1 → s.dev.choirState = 4 →
      Does .opRx s fun d =>
        d.choir = { s.dev.choir with inbox := rest, ops := s.dev.choir.ops ++
          [OpReq.mk m.src (m.payload.getD 2 0) (m.payload.getD 1 0) (intAt m.payload 4 4)] } ∧ Frame [.choir] [] s.dev d) ∧
    (m.kind = 2 → m.cepoch = s.dev.rd CHOIR_STATUS_CEPOCH → s.dev.rd APPLY_STATUS_STATE = 2 → intAt m.payload 8 4 = s.dev.img.commonHash →
      s.dev.img.legal = false ∨ s.dev.img.shut = false ∧ s.dev.rd PIN_LEVEL_SEAL_OPEN ≠ 0 →
      Does .switchRx s fun d =>
        d.img = { s.dev.img with named := some (intAt m.payload 4 4) } ∧ d.rd SWITCH_PSEQ = intAt m.payload 4 4 % 2 ^ 32 ∧
        d.rd APPLY_STATUS_STATE = 3 ∧ Frame ([Part.choir, Part.img] ++ notifyParts) [SWITCH_PSEQ, APPLY_STATUS_STATE] s.dev d) ∧
    (∀ code, m.kind = 2 → m.cepoch = s.dev.rd CHOIR_STATUS_CEPOCH → s.dev.rd APPLY_STATUS_STATE = 2 →
      code = 15 ∧ intAt m.payload 8 4 ≠ s.dev.img.commonHash ∨ code = 14 ∧ intAt m.payload 8 4 = s.dev.img.commonHash ∧
        s.dev.img.legal = true ∧ (s.dev.img.shut = true ∨ s.dev.rd PIN_LEVEL_SEAL_OPEN = 0) →
      Does .switchRx s fun d =>
        d.rd APPLY_STATUS_RESULT = code ∧ d.rd APPLY_STATUS_STATE = 0 ∧ d.rd FAULT_STATUS_LAST_CODE = 0x0903 ∧ d.img = ImgSt.none ∧
        Frame ([Part.choir, Part.img] ++ faultParts) ([SWITCH_PSEQ, APPLY_STATUS_RESULT, APPLY_ERR_ADDR_ADDR, STAGED_GEN, CHECK_STAGED,
          APPLY_STATUS_STATE] ++ faultFlds) s.dev d) ∧
    (m.kind = 3 → s.dev.choirState = 4 →
      Does .switchAckRx s fun d =>
        d.rd SWITCH_ACK = (s.dev.rd SWITCH_ACK ||| 2 ^ m.src) % 2 ^ 16 ∧ Frame [.choir] [SWITCH_ACK] s.dev d) ∧
    (m.kind = 4 →
      Does .resetRx s fun d =>
        d.choir = { s.dev.choir with inbox := rest, resetAt := some (intAt m.payload 4 4) } ∧ Frame [.choir] [] s.dev d) ∧
    (m.kind = 5 → m.payload.getD 1 0 = s.dev.addr → s.dev.choirState = 2 →
      Does .retireRx s fun d =>
        d.choir = { s.dev.choir with inbox := rest, outWhy := 3 } ∧ d.rd CHOIR_STATUS_STATE = 5 ∧
        Frame [.choir] [CHOIR_STATUS_STATE] s.dev d) ∧
    (m.kind = 6 → m.payload.getD 1 0 = s.dev.addr → s.dev.choirState = 5 → s.dev.choir.outWhy = 3 →
      Does .readmitRx s fun d =>
        d.rd CHOIR_STATUS_STATE = 0 ∧ d.rd (STRIKE_RETIRED srcDevice) = 0 ∧ d.rd (STRIKE_PROBATION srcDevice) = 1 ∧
        d.rd (STRIKE_STRIKES srcDevice) = 0 ∧ d.rd (STRIKE_PROB_LEFT srcDevice) = s.dev.rd STRIKE_CFG_PROBATION % 2 ^ 8 ∧
        Frame [.choir] [CHOIR_STATUS_STATE, STRIKE_RETIRED srcDevice, STRIKE_PROBATION srcDevice, STRIKE_STRIKES srcDevice,
          STRIKE_DECAY_COUNT srcDevice, STRIKE_PROB_LEFT srcDevice] s.dev d) ∧
    (m.kind = 7 → s.dev.choirState = 4 →
      Does .realignReqRx s fun d =>
        d.choir = { s.dev.choir with inbox := rest, realignDue := true } ∧ Frame [.choir] [] s.dev d)

/-- O42. The cantor collects the local sums and decides the period at the end of the window. -/
def Obligations.ChoirSumIsDecided : Prop :=
  (∀ (s : State) (m : Msg) (rest : List Msg) (v : SumVal), s.dev.choirAlive → s.dev.choir.inbox = m :: rest → m.type = 3 →
    s.dev.choirState = 4 → s.dev.takesSum m.src →
    v = SumVal.mk (f64At m.payload 4) (m.payload.getD 12 0 % 16) (intAt m.payload 14 2) →
    (s.dev.choir.decided = none → s.dev.openSum = none →
      Does .sumRx s fun d =>
        (intAt m.payload 0 4, m.src, v) ∈ d.choir.offers ∧ d.choir.inbox = rest ∧ Frame [.choir] [] s.dev d) ∧
    (∀ q, s.dev.choir.decided = some q → from32 q (intAt m.payload 0 4) → s.dev.rd CHOIR_COUNTS_SUM_AFTER < 65535 →
      Does .sumRx s fun d =>
        d.choir = { s.dev.choir with inbox := rest } ∧ d.rd CHOIR_COUNTS_SUM_AFTER = s.dev.rd CHOIR_COUNTS_SUM_AFTER + 1 ∧
        Frame [.choir] [CHOIR_COUNTS_SUM_AFTER] s.dev d)) ∧
  (∀ (s : State) (j : PipeJob), s.dev.choirAlive → s.dev.choirState = 4 → 1 < s.dev.deviceCount → s.dev.pipe.jobs = [j] → j.sum = none →
    s.dev.choir.ops = [] → s.dev.choir.own = none →
    (s.dev.sumReasons j = (0, []) →
      Does .sumWindowEnd s fun d =>
        (∃ k ∈ d.pipe.jobs, k.pseq = j.pseq ∧ k.sum = some { value := s.dev.sumOffers j, reason := 0, causes := 0 }) ∧
        d.choir.decided = some j.pseq ∧ d.rd LATE_MASK_LATE = 0 ∧ Frame [.pipe, .choir, .writer] (LATE_MASK_LATE :: sendFlds) s.dev d) ∧
    (∀ r a, s.dev.sumReasons j = (r, [a]) → r ≠ 0 → a < 16 → s.dev.bears (0x30 + a) →
      Does .sumWindowEnd s fun d =>
        (∃ k ∈ d.pipe.jobs, k.pseq = j.pseq ∧ k.sum = some (restSum r)) ∧ d.choir.decided = some j.pseq ∧ d.rd LATE_MASK_LATE = 2 ^ a ∧
        d.rd FAULT_STATUS_LAST_CODE = 0x0830 ∧
        Frame ([Part.pipe, Part.choir] ++ faultParts) (LATE_MASK_LATE :: sendFlds ++ strikeFlds (0x30 + a)) s.dev d))

/-- O43. A joined device applies the cantor's RESULT, or notes that it is missing. -/
def Obligations.ResultIsAppliedOrMissed : Prop :=
  ∀ (s : State) (j : PipeJob), s.dev.choirAlive → s.dev.isCantor = false → s.dev.choirState = 3 → s.dev.pipe.jobs = [j] →
    j.sum = none → s.dev.choir.own = none →
    (∀ m rest, s.dev.choir.inbox = m :: rest → m.type = 2 → intAt m.payload 0 4 = j.pseq → m.cepoch = s.dev.rd CHOIR_STATUS_CEPOCH →
      s.dev.stale m = false → s.dev.choir.applied = none →
      Does .resultRx s fun d =>
        (∃ k ∈ d.pipe.jobs, k.pseq = j.pseq ∧ k.cmd = m.payload.getD 13 0 % 16 ∧
          k.sum = some (SumVal.mk (f64At m.payload 4) (m.payload.getD 12 0 % 16) (intAt m.payload 14 2))) ∧
        d.choir = { s.dev.choir with inbox := rest, applied := some j.pseq } ∧ Frame [.pipe, .choir] [] s.dev d) ∧
    (1 < s.dev.deviceCount → s.dev.bears srcDevice → s.dev.rd CHOIR_EVENT_RESULT_MISS = 0 →
      Does .resultTimeout s fun d =>
        (∃ k ∈ d.pipe.jobs, k.pseq = j.pseq ∧ k.sum = some (restSum (2 ^ 10))) ∧ d.choir = { s.dev.choir with applied := some j.pseq } ∧
        d.is CHOIR_EVENT_RESULT_MISS = true ∧ d.rd FAULT_STATUS_LAST_CODE = 0x0831 ∧
        Frame ([Part.pipe, Part.choir] ++ faultParts) (choirEventFlds ++ strikeFlds srcDevice) s.dev d)

/-- O44. The cantor readmits devices and resets the choir; the choir counters are cleared. -/
def Obligations.CantorCommands : Prop :=
  (∀ (s : State) (a : Nat), a < 16 → s.dev.hostOpen → s.dev.mayCommand → s.dev.speaks →
    s.dev.rd (STRIKE_RETIRED (0x30 + a)) = 1 →
    Does (.readmitDevice a) s fun d =>
      d.rd (STRIKE_RETIRED (0x30 + a)) = 0 ∧ d.rd (STRIKE_PROBATION (0x30 + a)) = 1 ∧ d.rd (STRIKE_STRIKES (0x30 + a)) = 0 ∧
      s.dev.Sent d 6 a false (cmdPayload 6 a 0 0 0) ∧
      Frame [.choir, .writer, .host] ([STRIKE_RETIRED (0x30 + a), STRIKE_PROBATION (0x30 + a), STRIKE_STRIKES (0x30 + a),
        STRIKE_DECAY_COUNT (0x30 + a), STRIKE_PROB_LEFT (0x30 + a)] ++ sendFlds) s.dev d) ∧
  (∀ s : State, s.dev.hostOpen → s.dev.mayCommand → s.dev.speaks →
    Does .choirResetCmd s fun d =>
      d.choir.resetAt = some s.dev.boundaryAhead ∧ s.dev.Sent d 6 0 true (cmdPayload 4 0 0 s.dev.boundaryAhead 0) ∧
      Frame [.choir, .writer, .host] sendFlds s.dev d) ∧
  (∀ s : State, s.dev.hostOpen →
    Does .clearChoirCounters s fun d => (∀ f ∈ choirCountFlds, d.rd f = 0) ∧ Frame [.host] choirCountFlds s.dev d)

/-- O45. APPLY and APPLY_LOAD begin validation, CANCEL abandons it, key fuses are programmed once allowed. Which slot is the target is the
model's reading (log entry 42). -/
def Obligations.ApplyIsStartedOrCancelled : Prop :=
  (∀ (s : State) (c : Instr) (load : Bool), (c, load) ∈ [(Instr.apply, false), (Instr.applyLoad, true)] → s.dev.hostOpen →
    s.dev.mayApply →
    Does c s fun d =>
      d.rd APPLY_STATUS_STATE = 1 ∧ d.rd APPLY_STATUS_RESULT = 0 ∧ d.rd APPLY_STATUS_LEGAL = 0 ∧ d.rd APPLY_ERR_ADDR_ADDR = 0xFFFFFFFF ∧
      d.img = { ImgSt.none with slot := s.dev.targetSlot, load := load } ∧
      Frame ([Part.img, Part.host] ++ notifyParts) [APPLY_STATUS_STATE, APPLY_STATUS_RESULT, APPLY_STATUS_LEGAL, APPLY_STATUS_CHOIR_WIDE,
        APPLY_ERR_ADDR_ADDR, STAGED_GEN] s.dev d) ∧
  (∀ s : State, s.dev.hostOpen → s.dev.mayCancel →
    Does .cancel s fun d =>
      d.rd APPLY_STATUS_STATE = 0 ∧ d.rd STAGED_GEN = 0 ∧ d.rd CHECK_STAGED = 0 ∧ d.img = ImgSt.none ∧
      Frame ([Part.img, Part.host] ++ notifyParts) [APPLY_STATUS_STATE, STAGED_GEN, CHECK_STAGED] s.dev d) ∧
  (∀ s : State, s.dev.hostOpen →
    (s.dev.mayFuse →
      Does .programKeyFuses s fun d => d.fuses = { keySet := true, keyHash := s.dev.rd FUSE_STAGE } ∧ Frame [.fuses, .host] [] s.dev d) ∧
    (s.dev.mayFuse = false → Does .programKeyFuses s fun d => Frame [.host] [] s.dev d))

/-- O46. Validation stages a good image and refuses a bad one with its code and address. -/
def Obligations.ValidationStagesOrRefuses : Prop :=
  (∀ (s : State) (v : Verdict), s.dev.nvmReady → s.dev.rd APPLY_STATUS_STATE = 1 →
    v = validate (s.dev.slotBytes s.dev.img.slot) (if s.dev.rd (slotFld s.dev.img.slot) = 5 then [] else [1]) s.dev.fuses.keySet
      s.dev.fuses.keyHash (if s.dev.is CFG_STATUS_CONFIGURED = true then some (s.dev.rd CHOIR_CFG_RATE) else none) →
    Does (.validationDone false) s fun d =>
      (v.code = 0 → s.dev.applyCode v = 0 →
        d.rd APPLY_STATUS_STATE = (if s.dev.isChoirWide v = true ∧ s.dev.isCantor = false then 2 else 3) ∧
        d.rd CHECK_STAGED = v.check % 2 ^ 32 ∧ d.rd STAGED_GEN = v.gen % 2 ^ 32 ∧ d.rd APPLY_STATUS_LEGAL = bit (s.dev.isLegal v) ∧
        d.img.table = v.table ∧ Frame ([Part.img] ++ notifyParts) [APPLY_STATUS_STATE, APPLY_STATUS_LEGAL, APPLY_STATUS_CHOIR_WIDE, STAGED_GEN,
          CHECK_STAGED] s.dev d) ∧
      (v.code = 0 → s.dev.applyCode v ≠ 0 → d.rd APPLY_STATUS_STATE = 0 ∧ d.rd APPLY_STATUS_RESULT = s.dev.applyCode v ∧ d.img = ImgSt.none) ∧
      (v.code ≠ 0 →
        d.rd APPLY_STATUS_STATE = 0 ∧ d.rd APPLY_STATUS_RESULT = v.code % 2 ^ 5 ∧ d.rd APPLY_ERR_ADDR_ADDR = v.addr % 2 ^ 32 ∧
        d.rd FAULT_STATUS_LAST_CODE = 0x0903 ∧ d.img = ImgSt.none ∧
        Frame ([Part.img] ++ faultParts) ([APPLY_STATUS_STATE, APPLY_STATUS_RESULT, APPLY_ERR_ADDR_ADDR, STAGED_GEN, CHECK_STAGED] ++
          faultFlds) s.dev d)) ∧
  (∀ s : State, s.dev.nvmReady → s.dev.rd APPLY_STATUS_STATE = 1 → s.dev.bears srcDevice →
    Does (.validationDone true) s fun d =>
      d.rd APPLY_STATUS_STATE = 0 ∧ d.rd APPLY_STATUS_RESULT = 13 ∧ d.rd FAULT_STATUS_LAST_CODE = 0x0903 ∧ d.img = ImgSt.none ∧
      Frame ([Part.img] ++ faultParts) ([APPLY_STATUS_STATE, APPLY_STATUS_RESULT, APPLY_ERR_ADDR_ADDR, STAGED_GEN, CHECK_STAGED] ++
        strikeFlds srcDevice) s.dev d)

/-- O47. A staged image is committed, taken up at the switching boundary and its transition ends. -/
def Obligations.ImageIsCommittedAndTakenUp : Prop :=
  (∀ (s : State) (g o : Nat), s.dev.nvmReady → s.dev.rd APPLY_STATUS_STATE = 3 → s.dev.rd CFG_STATUS_CONFIGURED = 1 →
    s.dev.img.legal = false → s.dev.img.slot = g → s.dev.rd CFG_STATUS_ACTIVE_SLOT = o →
    (s.dev.img.step = 0 →
      Does (.commitComplete 2 false) s fun d =>
        d.nvm = nvmProgram s.dev.nvm (markAddr g 0x84) markBytes ∧ d.rd APPLY_STATUS_STATE = 3 ∧ d.img = { s.dev.img with step := 2 } ∧
        Frame [.nvm, .img] [CFG_STATUS_SLOT_A, CFG_STATUS_SLOT_B] s.dev d) ∧
    (s.dev.img.step = 2 → s.dev.img.load = false → s.dev.rd APPLY_STATUS_CHOIR_WIDE = 0 →
      Does (.commitComplete 3 false) s fun d =>
        d.nvm = nvmProgram s.dev.nvm (markAddr o 0x88) markBytes ∧ d.rd APPLY_STATUS_STATE = 4 ∧
        Frame ([Part.nvm, Part.img] ++ notifyParts) [APPLY_STATUS_STATE, CFG_STATUS_SLOT_A, CFG_STATUS_SLOT_B] s.dev d) ∧
    (∀ n, n = 2 ∧ s.dev.img.step = 0 ∨ n = 3 ∧ s.dev.img.step = 2 → s.dev.bears srcDevice →
      Does (.commitComplete n true) s fun d =>
        d.rd APPLY_STATUS_STATE = 0 ∧ d.rd APPLY_STATUS_RESULT = 13 ∧ d.rd FAULT_STATUS_LAST_CODE = 0x0903 ∧ d.img = ImgSt.none ∧
        Frame ([Part.nvm, Part.img, Part.free] ++ faultParts) ([APPLY_STATUS_STATE, APPLY_STATUS_RESULT, APPLY_ERR_ADDR_ADDR, STAGED_GEN, CHECK_STAGED,
          CFG_STATUS_SLOT_A, CFG_STATUS_SLOT_B] ++ strikeFlds srcDevice) s.dev d)) ∧
  (∀ s : State, s.dev.alive → s.dev.sckOpen → s.dev.rd (TIMER_STATUS_RUNNING s.dev.pipeTimer) = 1 →
    s.dev.rd APPLY_STATUS_STATE = 4 → s.dev.mode = 1 → s.dev.img.named = none → s.dev.choir.resetAt = none →
    Does .switchingBoundary s fun d =>
      d.regs.table .I = (s.dev.takeTable s.dev.img.table).regs.table .I ∧ d.rd STAGED_GEN = 0 ∧ d.rd CHECK_STAGED = 0 ∧
      (d.rd APPLY_STATUS_STATE = 0 ∨ d.rd APPLY_STATUS_STATE = 5)) ∧
  (∀ s : State, s.dev.alive → s.dev.rd APPLY_STATUS_STATE = 5 → s.dev.rd APPLY_STATUS_TRANS_LEFT = 0 → s.dev.img.refGroup = false →
    s.dev.img.pins = 0 →
    Does .transitionEnd s fun d =>
      d.rd APPLY_STATUS_STATE = 0 ∧ d.rd STAGED_GEN = 0 ∧ d.rd CHECK_STAGED = 0 ∧ d.img = ImgSt.none ∧
      Frame ([Part.img] ++ notifyParts) [APPLY_STATUS_STATE, STAGED_GEN, CHECK_STAGED] s.dev d)

/-- O48. An image with a refused TUNE_CFG, LOG_CFG or STRIKE_CFG setting fails validation. -/
def Obligations.RefusedSettingsFailValidation : Prop :=
  ∀ (b states : List Nat) (key : Bool) (hash : Nat) (rate : Option Nat) (t : Store), t = imageTable b (imageWords b) →
    (fieldRead t TUNE_CFG_AGE_MAX = 0 ∨ fieldRead t TUNE_CFG_SHIFT_MAX = 0 → (validate b states key hash rate).code ≠ 0) ∧
    (fieldRead t LOG_CFG_FAULT_LEVEL = 3 → (validate b states key hash rate).code ≠ 0) ∧
    (fieldRead t STRIKE_CFG_RETIRE = 0 ∨ fieldRead t STRIKE_CFG_DECAY = 0 ∨ fieldRead t STRIKE_CFG_PROBATION = 0 →
      (validate b states key hash rate).code ≠ 0)

/-- O49. A host read answers the word, or filler and a code. The filler of a read that is not served is the model's choice (log entry 18).
-/
def Obligations.HostReadsAnswer : Prop :=
  (∀ (s : State) (c : Instr) (a n : Nat), c ∈ [Instr.read a n none [], Instr.fastRead a n none [], Instr.quadRead a n none [],
    Instr.qioRead a n none []] → a < 2 ^ 24 → s.dev.alive → s.dev.rd HOST_STATUS_CRC_ACTIVE = 0 →
    (n = 1 → a % 4 = 0 → s.dev.readServed a → mapped a → s.dev.beginRead.badEntry a = false →
      Does c s fun d =>
        d.host.out = bytesLE 4 (s.dev.beginRead.wordValue a) ∧ d.rd HOST_STATUS_LAST_CODE = 0 ∧ d.host.latest = true ∧
        (a < 0x6000 → Frame [.rings, .snaps, .host] [HOST_STATUS_LAST_CODE] s.dev d)) ∧
    (n = 1 → a % 4 = 0 → s.dev.readServed a → mapped a = false →
      Does c s fun d =>
        d.host.out = [0, 0, 0, 0] ∧ s.dev.Rejected d 6 a ∧
        Frame [.rings, .snaps, .host] rejectFlds s.dev d) ∧
    (n = 1 → a % 4 = 0 → s.dev.readServed a = false →
      Does c s fun d =>
        d.host.out = List.replicate 4 0xFF ∧ s.dev.Rejected d 11 a ∧
        Frame [.rings, .host] rejectFlds s.dev d) ∧
    (a % 4 ≠ 0 →
      Does c s fun d =>
        d.host.out = List.replicate (4 * n) 0xFF ∧ s.dev.Rejected d (if s.dev.readServed a = true then 7 else 11) a ∧
        Frame [.rings, .host] rejectFlds s.dev d)) ∧
  (∀ (s : State) (c : Instr) (a : Nat), c ∈ [Instr.read a 1 (some 0) [], Instr.fastRead a 1 (some 0) [], Instr.quadRead a 1 (some 0) [],
    Instr.qioRead a 1 (some 0) []] → a < 2 ^ 24 → s.dev.rd HOST_STATUS_CRC_ACTIVE = 0 → a % 4 = 0 → s.dev.readServed a →
    Does c s fun d =>
      d.host.out = List.replicate 4 0xFF ∧ s.dev.Rejected d 10 a ∧
      d.rd HOST_COUNT_B_NOT_READY = min (s.dev.rd HOST_COUNT_B_NOT_READY + 1) (2 ^ 16 - 1) ∧
      Frame [.rings, .host] (rejectFlds ++ [HOST_COUNT_B_NOT_READY]) s.dev d) ∧
  (∀ s : State, s.dev.alive →
    Does .status s fun d => d.host.out = [s.dev.statusByte] ∧ Frame [.host] [] s.dev d) ∧
  (∀ (s : State) (code : Nat), s.dev.alive → code < 256 → code ∉ commandBytes →
    Does (.unknownCommand code) s fun d =>
      d.rd HOST_STATUS_LAST_CODE = 13 ∧ d.rd HOST_COUNT_A_REJECTS = min (s.dev.rd HOST_COUNT_A_REJECTS + 1) (2 ^ 16 - 1) ∧ d.host.out = [] ∧
      Frame [.host, .free] rejectFlds s.dev d)

/-- O50. A host write sets a writable field and is refused with its code otherwise. -/
def Obligations.HostWritesAreJudged : Prop :=
  (∀ (s : State) (c : Instr) (a v : Nat) (f : Fld), c ∈ [Instr.write a (bytesLE 4 v) 0, Instr.quadWrite a (bytesLE 4 v) 0,
    Instr.qioWrite a (bytesLE 4 v) 0] → a % 4 = 0 → a < 2 ^ 24 → v < 2 ^ 32 → s.dev.hostOpen → s.dev.rd HOST_STATUS_CRC_ACTIVE = 0 →
    a / 0x100 ≠ 9 → fieldsAt a = some [f] → f.word = a → f.key % 32 + f.width ≤ 32 →
    f.key ≠ HOST_STATUS_LAST_CODE.key →
    (f.acc = .rw →
      Does c s fun d =>
        d.rd f = f.ofWord a v ∧ d.rd HOST_STATUS_LAST_CODE = 0 ∧ d.host.latest = false ∧
        Frame [.host] [f, HOST_STATUS_LAST_CODE] s.dev d) ∧
    (f.acc = .ro → f.ofWord a v ≠ f.partAt a (s.dev.visible f) →
      Does c s fun d =>
        s.dev.Rejected d 1 a ∧ Frame [.host] rejectFlds s.dev d) ∧
    (f.acc = .im → f.ofWord a v ≠ f.partAt a (s.dev.visible f) →
      Does c s fun d =>
        s.dev.Rejected d 2 a ∧ Frame [.host] rejectFlds s.dev d) ∧
    (f.acc = .iml → f.ofWord a v ≠ f.partAt a (s.dev.visible f) →
      Does c s fun d =>
        s.dev.Rejected d 3 a ∧
        d.rd HOST_COUNT_A_LEGAL_REJECTS = min (s.dev.rd HOST_COUNT_A_LEGAL_REJECTS + 1) (2 ^ 16 - 1) ∧
        Frame ([Part.host] ++ notifyParts) (rejectFlds ++ [HOST_COUNT_A_LEGAL_REJECTS]) s.dev d)) ∧
  (∀ (s : State) (a v : Nat) (f : Fld), a % 4 = 0 → a < 2 ^ 24 → v < 2 ^ 32 → s.dev.hostOpen → a / 0x100 ≠ 9 → fieldsAt a = some [f] →
    f.word = a → f.key % 32 + f.width ≤ 32 →
    (f.acc = .rw → Does (.registerWrite a v) s fun d => d.rd f = f.ofWord a v ∧ Frame [.host] [f] s.dev d) ∧
    (f.acc = .iml → f.ofWord a v ≠ f.partAt a (s.dev.visible f) →
      Does (.registerWrite a v) s fun d =>
        d.rd HOST_COUNT_A_LEGAL_REJECTS = min (s.dev.rd HOST_COUNT_A_LEGAL_REJECTS + 1) (2 ^ 16 - 1) ∧
        Frame ([Part.host] ++ notifyParts) [HOST_COUNT_A_LEGAL_REJECTS] s.dev d)) ∧
  (∀ (s : State) (n : Nat) (q : List Nat × Nat × List Nat), n < 24 → s.dev.hostOpen →
    (s.dev.unreadTo n = some q →
      Does (.unread n) s fun d =>
        d.rd (RING_FILL_WORDS n) = (s.dev.rd (RING_FILL_WORDS n) + (Store.read s.dev.host.moved n - 1)) % 2 ^ 18 ∧
        (d.ring n).ents = q.1 ∧ (d.ring n).headRead = q.2.1 ∧ d.host.moved = [] ∧ d.host.latest = false ∧
        Frame ([Part.rings, Part.host] ++ notifyParts) [RING_RD_PTR_INDEX n, RING_FILL_WORDS n, RING_STATUS_ABOVE_WM n, RING_STATUS_FULL n]
          s.dev d) ∧
    (s.dev.unreadTo n = none → Does (.unread n) s fun d => Frame [.host] [] s.dev d))

/-- O51. NVM pass-through starts, ends and fails as its registers say. -/
def Obligations.PassThroughOperatesTheNvm : Prop :=
  (∀ (s : State) (c : Instr) (code : Nat), (c, code) ∈ [(Instr.ptRead, 0x31), (Instr.ptProgram, 0x32), (Instr.ptErase, 0x33),
    (Instr.slotErase, 0x34)] → s.dev.hostOpen → s.dev.rd NVM_PT_STATUS_STATE = 0 →
    (s.dev.ptRefusal code = 0 →
      Does c s fun d =>
        d.rd NVM_PT_STATUS_STATE = 1 ∧ d.host.ptCode = code ∧ d.host.ptLen = s.dev.rd NVM_PT_LEN ∧
        (code ≠ 0x34 → d.host.ptAddr = s.dev.rd NVM_PT_ADDR) ∧ Frame [.host] [NVM_PT_STATUS_STATE] s.dev d) ∧
    (s.dev.ptRefusal code ≠ 0 →
      Does c s fun d => d.rd NVM_PT_STATUS_RESULT = s.dev.ptRefusal code ∧ Frame [.host] [NVM_PT_STATUS_RESULT] s.dev d)) ∧
  (∀ (s : State) (a : Nat), s.dev.ptRuns → s.dev.host.ptAddr = a →
    (s.dev.host.ptCode = 0x31 →
      Does (.ptDone false) s fun d =>
        d.rd NVM_PT_STATUS_STATE = 0 ∧ d.rd NVM_PT_STATUS_RESULT = 0 ∧
        d.rd NVM_PT_STATUS_OPS = (s.dev.rd NVM_PT_STATUS_OPS + 1) % 2 ^ 16 ∧
        Frame [] ([NVM_PT_STATUS_STATE, NVM_PT_STATUS_RESULT, NVM_PT_STATUS_OPS, CFG_STATUS_SLOT_A, CFG_STATUS_SLOT_B] ++
          (List.range 64).map NVM_PT_BUF_DATA) s.dev d) ∧
    (s.dev.host.ptCode = 0x32 →
      Does (.ptDone false) s fun d =>
        d.nvm = nvmProgram s.dev.nvm a s.dev.ptBytes ∧ d.rd NVM_PT_STATUS_STATE = 0 ∧ d.rd NVM_PT_STATUS_RESULT = 0 ∧
        Frame [.nvm] [NVM_PT_STATUS_STATE, NVM_PT_STATUS_RESULT, NVM_PT_STATUS_OPS, CFG_STATUS_SLOT_A, CFG_STATUS_SLOT_B] s.dev d) ∧
    (s.dev.host.ptCode = 0x33 →
      Does (.ptDone false) s fun d =>
        d.nvm = nvmErase s.dev.nvm a ∧ d.rd NVM_PT_STATUS_STATE = 0 ∧ d.rd NVM_PT_STATUS_RESULT = 0 ∧
        Frame [.nvm] [NVM_PT_STATUS_STATE, NVM_PT_STATUS_RESULT, NVM_PT_STATUS_OPS, CFG_STATUS_SLOT_A, CFG_STATUS_SLOT_B] s.dev d)) ∧
  (∀ (s : State) (c : Instr), c ∈ [Instr.ptDone true, Instr.ptTimeout] → s.dev.ptRuns → s.dev.host.ptCode = 0x32 →
    s.dev.bears srcDevice →
    Does c s fun d =>
      d.rd NVM_PT_STATUS_STATE = 0 ∧ d.rd NVM_PT_STATUS_RESULT = 5 ∧ d.rd FAULT_STATUS_LAST_CODE = 0x0906 ∧
      Frame ([Part.nvm, Part.free] ++ faultParts) ([NVM_PT_STATUS_STATE, NVM_PT_STATUS_RESULT, CFG_STATUS_SLOT_A, CFG_STATUS_SLOT_B] ++
        strikeFlds srcDevice) s.dev d)

/-- O52. TAP instructions hold, pass or clear the device. -/
def Obligations.TapInstructionsActOnTheDevice : Prop :=
  (∀ (s : State) (c : Instr) (k : Nat), (c, k) ∈ [(Instr.extest, 0), (Instr.clamp, 3), (Instr.highz, 4)] → s.dev.power.good →
    Does c s fun d =>
      d.alive = false ∧ d.power.jtagHeld = true ∧ d.host.tap = k ∧ (d.host.tapLog = s.dev.host.tapLog ++ [k]) ∧ d.rings = [] ∧
      (s.dev.rd NVM_PT_STATUS_STATE = 0 → d.nvm = s.dev.nvm) ∧ d.fuses = s.dev.fuses) ∧
  (∀ (s : State) (c : Instr) (k : Nat), (c, k) ∈ [(Instr.idcode, 1), (Instr.samplePreload, 2), (Instr.bypass, 31)] →
    s.dev.power.good → s.dev.host.tap ∈ [1, 2, 31] →
    Does c s fun d => d.host.tap = k ∧ Frame [.host] [] s.dev d) ∧
  (∀ s : State, s.dev.power.good → s.dev.power.testHeld = false → s.dev.host.tap ∉ [1, 2, 31] →
    Does .jtagInstructionLeave s fun d =>
      d.host.tap = 31 ∧ d.power.jtagHeld = false ∧ d.rd JTAG_STATUS_JTAG_RESET = 1 ∧ d.rd RESET_CAUSE_PIN = 1 ∧ d.rd RESET_CAUSE_LAST = 2 ∧
      (5 ≤ s.dev.host.tap → d.rd JTAG_STATUS_PRIVATE_USED = 1)) ∧
  (∀ (s : State) (k : Nat), tapPrivate k → k < 32 → s.dev.power.good → s.dev.host.tap ∈ [1, 2, 31] →
    (s.dev.rd PIN_LEVEL_SEAL_OPEN = 0 →
      Does (.privateInstruction k) s fun d =>
        d.host.tap = 31 ∧ d.rd JTAG_STATUS_REFUSED = min (s.dev.rd JTAG_STATUS_REFUSED + 1) 255 ∧ Frame [.host] [JTAG_STATUS_REFUSED] s.dev d) ∧
    (s.dev.rd PIN_LEVEL_SEAL_OPEN = 1 → s.dev.alive → s.dev.mode ≠ 5 →
      Does (.privateInstruction k) s fun d =>
        d.host.tap = k ∧ d.mode = 5 ∧ d.rd SAFE_STATUS_CAUSE = 4 ∧ d.fitV = [] ∧ d.allan = [] ∧ d.cap.buf = [] ∧ d.sram.bad = [] ∧
        (∀ w < 64, d.rd (WEAK_MAP_SEG w) = 0) ∧ d.fuses = s.dev.fuses))

/-- O53. The calendar counts seconds, stops at its last second and is set at a second. -/
def Obligations.CalendarCountsAndIsSet : Prop :=
  (∀ s : State, s.dev.power.backup → s.dev.alive → s.dev.epsKnown = false →
    (s.dev.cal ≠ calLast →
      Does .calendarSecond s fun d =>
        d.rd CAL_NOW_CAL = calNext s.dev.cal % 2 ^ 60 ∧ d.rd CAL_SECOND_TIME = s.dev.timeNow % 2 ^ 64 ∧
        Frame [.calst, .logQueue, .logLost] [CAL_NOW_CAL, CAL_SECOND_TIME, LOG_STATUS_LOG_QUEUE, LOSS_TOTAL] s.dev d) ∧
    (s.dev.cal = calLast → s.dev.rd CAL_STATUS_END = 0 →
      Does .calendarSecond s fun d =>
        d.rd CAL_STATUS_END = 1 ∧ d.rd FAULT_STATUS_LAST_CODE = 0x0A04 ∧ Frame ([Part.calst] ++ faultParts) ([CAL_STATUS_END] ++ faultFlds) s.dev d) ∧
    (s.dev.cal = calLast → s.dev.rd CAL_STATUS_END = 1 → Does .calendarSecond s fun d => Frame [.calst] [] s.dev d) ∧
    Does .kckStop s fun d =>
      d.rd CAL_STATUS_VALID = 0 ∧ d.rd CAL_STATUS_KCK_STOP = 1 ∧ d.rd FAULT_STATUS_LAST_CODE = 0x0A02 ∧
      Frame ([Part.calst] ++ faultParts) ([CAL_STATUS_VALID, CAL_STATUS_KCK_STOP] ++ faultFlds) s.dev d) ∧
  (∀ (s : State) (c r : Nat), s.dev.hostOpen → s.dev.calst.waiting = none → s.dev.calSet = c → s.dev.calReject c = r →
    (r = 0 →
      Does .setCalendar s fun d => d.calst = { s.dev.calst with waiting := some (c, 0) } ∧ Frame [.calst, .host] [] s.dev d) ∧
    (r ≠ 0 →
      Does .setCalendar s fun d =>
        d.rd CAL_STATUS_REJECT = 1 ∧ d.rd CAL_STATUS_REJ_REASON = r ∧ d.rd FAULT_STATUS_LAST_CODE = 0x0A03 ∧
        Frame ([Part.host] ++ faultParts) ([CAL_STATUS_REJECT, CAL_STATUS_REJ_REASON] ++ faultFlds) s.dev d)) ∧
  (∀ s : State, s.dev.hostOpen → s.dev.calst.waiting ≠ none → Does .setCalendar s fun d => Frame [.host] [] s.dev d) ∧
  (∀ (s : State) (c : Nat), s.dev.alive → s.dev.calst.waiting = some (c, 0) → s.dev.followsCantor = false → s.dev.epsKnown = false →
    Does .calWriteApply s fun d =>
      d.rd CAL_NOW_CAL = c % 2 ^ 60 ∧ d.rd CAL_STATUS_VALID = 1 ∧ d.rd CAL_STATUS_END = 0 ∧ d.rd CAL_SECOND_TIME = s.dev.timeNow % 2 ^ 64 ∧
      d.calst.waiting = none ∧ (s.dev.logQueue.length < 64 →
        ∃ r ∈ d.logQueue, r.kind = 2 ∧ r.payload = bytesLE 8 s.dev.calendar ++ bytesLE 8 (c % 2 ^ 60 + 2 ^ 63) ++ [0]) ∧
      Frame [.calst, .logQueue, .logLost] [CAL_NOW_CAL, CAL_STATUS_VALID, CAL_STATUS_END, CAL_SECOND_TIME, LOG_STATUS_LOG_QUEUE, LOSS_TOTAL]
        s.dev d)

/-- O54. Log records are written, retried and collected in their steps. -/
def Obligations.RecordsAreWrittenAndRetried : Prop :=
  (∀ (s : State) (n a : Nat) (r : LogRec) (q : List LogRec) (b : List Nat), s.dev.nvmReady → s.dev.rd LOG_STATUS_MOUNTED = 1 →
    s.dev.logQueue = r :: q → s.dev.journalFull = false → b = recordBytes r.kind r.origin s.dev.nextRseq r.cal r.payload →
    s.dev.fits b.length → s.dev.logs.active = some n → a = s.dev.sectorAddr n + s.dev.logs.pos → r.kind ≠ 11 →
    (s.dev.rd LOG_STATUS_NVM_HOLD = 0 →
      Does (.logRecordWrite 0) s fun d =>
        d.nvm = nvmProgram s.dev.nvm a b ∧ d.logQueue = q ∧ d.rd LOG_NEWEST_NEWEST = s.dev.nextRseq % 2 ^ 32 ∧
        d.logs = { s.dev.logs with pos := s.dev.logs.pos + b.length } ∧
        Frame [.nvm, .logQueue, .logs, .time] [LOG_NEWEST_NEWEST, LOG_OLDEST_OLDEST, LOG_SECTORS_FREE, LOG_SECTORS_JOURNAL,
          LOG_STATUS_LOG_QUEUE] s.dev d) ∧
    (s.dev.rd LOG_STATUS_NVM_HOLD = 0 → s.dev.bears srcDevice →
      Does (.logRecordWrite 1) s fun d =>
        d.rd LOG_STATUS_NVM_HOLD = 1 ∧ d.rd FAULT_STATUS_LAST_CODE = 0x0906 ∧ d.rd LOG_NEWEST_NEWEST = s.dev.rd LOG_NEWEST_NEWEST ∧
        d.logs = { s.dev.logs with pos := s.dev.logs.pos + b.length, retry := 1 } ∧
        Frame ([Part.nvm, Part.logs, Part.free] ++ faultParts) ([LOG_STATUS_NVM_HOLD] ++ strikeFlds srcDevice) s.dev d) ∧
    (s.dev.rd LOG_STATUS_NVM_HOLD = 1 → s.dev.logs.retry = 1 → s.dev.logLost = 0 →
      Does (.nvmRetry 0) s fun d =>
        d.nvm = nvmProgram s.dev.nvm a b ∧ d.logQueue = q ∧ d.rd LOG_STATUS_NVM_HOLD = 0 ∧ d.logs.retry = 0 ∧
        Frame [.nvm, .logQueue, .logs, .time] [LOG_NEWEST_NEWEST, LOG_OLDEST_OLDEST, LOG_SECTORS_FREE, LOG_SECTORS_JOURNAL,
          LOG_STATUS_LOG_QUEUE, LOG_STATUS_NVM_HOLD] s.dev d)) ∧
  (∀ (s : State) (c : Collect) (n : Nat), s.dev.logReady → s.dev.logs.coll = some c → c.dst = some n →
    (c.step = 2 →
      Does (.collection 0) s fun d =>
        d.nvm = nvmProgram s.dev.nvm (s.dev.sectorAddr n + 32) ((s.dev.retainedIn c.src).flatMap Rec.bytes) ∧
        d.logs = { s.dev.logs with coll := some { c with step := 3 } } ∧ Frame [.nvm, .logs] [] s.dev d) ∧
    (c.step = 3 →
      Does (.collection 0) s fun d =>
        d.nvm = nvmProgram s.dev.nvm (s.dev.sectorAddr n + 5) [0xCF] ∧ d.logs = { s.dev.logs with coll := some { c with step := 4 } } ∧
        Frame [.nvm, .logs] [] s.dev d) ∧
    (c.step = 4 →
      Does (.collection 0) s fun d =>
        d.nvm = nvmProgram s.dev.nvm (s.dev.sectorAddr c.src + 5) [0xF7] ∧ d.logs = { s.dev.logs with coll := some { c with step := 5 } } ∧
        Frame [.nvm, .logs] [] s.dev d) ∧
    (c.step = 5 →
      Does (.collection 0) s fun d =>
        d.nvm = nvmErase s.dev.nvm (s.dev.sectorAddr c.src) ∧ d.logs = { s.dev.logs with coll := some { c with step := 6 } } ∧
        Frame [.nvm, .logs] [] s.dev d))

/-- O55. A totaliser entry is written in two phases. That slots follow the 32-byte header directly is the model's reading (log entry 20). -/
def Obligations.TotaliserTakesTwoPhases : Prop :=
  (∀ (s : State) (e : TotEntry) (q : List TotEntry), s.dev.logReady → s.dev.logs.tot = e :: q →
    (s.dev.logs.phase1 = false → s.dev.logs.totNext % 63 ≠ 0 →
      Does (.totaliserPhase1 0) s fun d =>
        d.nvm = nvmProgram s.dev.nvm (s.dev.totSlot s.dev.logs.totNext) (e.toBytes (s.dev.logs.tseq + 1) s.dev.calendar) ∧
        d.logs = { s.dev.logs with
                     phase1 := true, totAddr := s.dev.totSlot s.dev.logs.totNext, totNext := (s.dev.logs.totNext + 1) % 504,
                     tseq := s.dev.logs.tseq + 1 } ∧
        Frame [.nvm, .logs] [] s.dev d) ∧
    (s.dev.logs.phase1 → e.cause = 6 ∨ s.dev.rd TOT_CFG_SRC = 0 →
      Does (.totaliserPhase2 0) s fun d =>
        d.nvm = nvmProgram s.dev.nvm (s.dev.logs.totAddr + 5) [0] ∧ d.logs = { s.dev.logs with phase1 := false, tot := q } ∧
        d.rd TOTAL = e.total % 2 ^ 64 ∧ d.rd RES_RAW = e.res % 2 ^ 64 ∧ d.rd PROV = e.prov % 2 ^ 64 ∧
        d.rd PROV_COUNT = e.provCount % 2 ^ 32 ∧ d.rd PRINT_COUNT = e.printCount % 2 ^ 32 ∧ d.rd REV = e.rev % 2 ^ 32 ∧
        Frame [.nvm, .logs] [TOTAL, RES_RAW, PROV, PROV_COUNT, PRINT_COUNT, REV, LOG_STATUS_TOT_QUEUE] s.dev d) ∧
    (s.dev.logs.phase1 → s.dev.bears srcDevice →
      Does (.totaliserPhase2 1) s fun d =>
        d.rd LOG_STATUS_NVM_HOLD = 1 ∧ d.logs = { s.dev.logs with retry := 3 } ∧ d.rd FAULT_STATUS_LAST_CODE = 0x0906 ∧
        Frame ([Part.nvm, Part.logs, Part.free] ++ faultParts) ([LOG_STATUS_NVM_HOLD] ++ strikeFlds srcDevice) s.dev d))

/-- O56. Log reading is open in every seal state and never changes the log. -/
def Obligations.LogReadingIsOpen : Prop :=
  (∀ (s : State) (c : Instr) (k : Nat), (c, k) ∈ [(Instr.loadRecord, 1), (Instr.loadAuditRecord, 2)] → s.dev.hostOpen →
    (s.dev.rd LOG_READ_BUSY = 0 →
      Does c s fun d =>
        d.rd LOG_READ_BUSY = 1 ∧ d.logs = { s.dev.logs with load := k } ∧ Frame [.logs, .host] [LOG_READ_BUSY] s.dev d) ∧
    (s.dev.rd LOG_READ_BUSY ≠ 0 → Does c s fun d => Frame [.host] [] s.dev d)) ∧
  (∀ (s : State) (v : Nat), v ∈ [0xC1, 0xC3] → s.dev.hostOpen → s.dev.rd HOST_STATUS_CRC_ACTIVE = 0 →
    (s.dev.rd LOG_READ_BUSY = 0 →
      Does (.write LOG_CMD_CODE.word (bytesLE 4 v) 0) s fun d =>
        d.rd LOG_READ_BUSY = 1 ∧ d.rd HOST_STATUS_LAST_CODE = 0 ∧ d.logs = { s.dev.logs with load := if v = 0xC1 then 1 else 2 } ∧
        Frame [.logs, .host] [LOG_READ_BUSY, HOST_STATUS_LAST_CODE] s.dev d) ∧
    (s.dev.rd LOG_READ_BUSY ≠ 0 →
      Does (.write LOG_CMD_CODE.word (bytesLE 4 v) 0) s fun d =>
        s.dev.Rejected d 4 LOG_CMD_CODE.word ∧
        Frame [.host] rejectFlds s.dev d)) ∧
  (∀ (s : State) (cur : Nat), s.dev.alive → s.dev.mode ≠ 3 → s.dev.rd TB_STATUS_FCK_SRC = 0 → s.dev.rd LOG_READ_BUSY ≠ 0 → s.dev.logs.load = 1 → s.dev.rd LOG_CUR_CUR = cur →
    (s.dev.rd LOG_STATUS_MOUNTED ≠ 0 → (∃ r ∈ s.dev.records, cur ≤ r.rseq) →
      Does (.logLoadDone false) s fun d =>
        (∃ r ∈ s.dev.records, cur ≤ r.rseq ∧ (∀ x ∈ s.dev.records, cur ≤ x.rseq → r.rseq ≤ x.rseq) ∧
          d.logs = { s.dev.logs with win := Store.writeList [] 0 r.bytes } ∧ d.rd LOG_CUR_CUR = (r.rseq + 1) % 2 ^ 32 ∧
          d.rd LOG_READ_LEN = r.bytes.length % 2 ^ 9) ∧
        d.rd LOG_READ_BUSY = 0 ∧ d.rd LOG_READ_RESULT = 0 ∧
        Frame [.logs] [LOG_READ_BUSY, LOG_READ_RESULT, LOG_READ_LEN, LOG_CUR_CUR] s.dev d) ∧
    (s.dev.rd LOG_STATUS_MOUNTED = 0 ∨ (∀ r ∈ s.dev.records, r.rseq < cur) →
      Does (.logLoadDone false) s fun d =>
        d.rd LOG_READ_BUSY = 0 ∧ d.rd LOG_READ_RESULT = 1 ∧ d.logs = { s.dev.logs with win := d.logs.win } ∧
        Frame [.logs] [LOG_READ_BUSY, LOG_READ_RESULT, LOG_READ_LEN] s.dev d)) ∧
  (∀ (s : State) (i : Nat), s.dev.alive → s.dev.mode ≠ 3 → s.dev.rd TB_STATUS_FCK_SRC = 0 → s.dev.rd LOG_READ_BUSY ≠ 0 → s.dev.logs.load = 2 → s.dev.rd AUDIT_SEL_INDEX = i →
    (s.dev.rd LOG_STATUS_MOUNTED ≠ 0 → i < s.dev.rd AUDIT_USED →
      Does (.logLoadDone false) s fun d =>
        d.rd LOG_READ_BUSY = 0 ∧ d.rd LOG_READ_RESULT = 0 ∧ d.rd LOG_READ_LEN = 32 ∧
        d.logs = { s.dev.logs with awin := Store.writeList [] 0 (s.dev.nvmBytes (s.dev.auditAddr i) 32) } ∧
        Frame [.logs] [LOG_READ_BUSY, LOG_READ_RESULT, LOG_READ_LEN] s.dev d) ∧
    (s.dev.rd LOG_STATUS_MOUNTED = 0 ∨ s.dev.rd AUDIT_USED ≤ i →
      Does (.logLoadDone false) s fun d =>
        d.rd LOG_READ_BUSY = 0 ∧ d.rd LOG_READ_RESULT = 1 ∧ d.logs = { s.dev.logs with awin := d.logs.awin } ∧
        Frame [.logs] [LOG_READ_BUSY, LOG_READ_RESULT, LOG_READ_LEN] s.dev d)) ∧
  (∀ s : State, s.dev.alive → s.dev.mode ≠ 3 → s.dev.rd TB_STATUS_FCK_SRC = 0 → s.dev.rd LOG_READ_BUSY ≠ 0 →
    Does (.logLoadDone true) s fun d =>
      d.rd LOG_READ_BUSY = 0 ∧ d.rd LOG_READ_RESULT = 2 ∧ d.logs = { s.dev.logs with win := d.logs.win, awin := d.logs.awin } ∧
      Frame [.logs] [LOG_READ_BUSY, LOG_READ_RESULT, LOG_READ_LEN] s.dev d)

/-- O57. Power-good, backup loss and the resets leave what their classes keep. -/
def Obligations.PowerComesAndGoes : Prop :=
  (∀ (s : State) (straps : Nat) (test : Bool), straps < 16 → s.dev.power.good = false →
    Does (.powerGoodRise straps test) s fun d =>
      d.power = { PowerSt.off with good := true, testHeld := test, resetLow := s.dev.power.resetLow, backup := true } ∧
      d.mode = 0 ∧ d.rd RESET_CAUSE_POR = 1 ∧ d.rd RESET_CAUSE_LAST = 1 ∧ d.rd STRAP_STATUS_ADDR = straps ∧
      d.rd PIN_LEVEL_STRAP_LIVE = straps ∧ d.rd SUPPLY_STATUS_BKP_SRC = 0 ∧ d.fuses = s.dev.fuses ∧ d.regs.table .N = s.dev.regs.table .N ∧
      d.rings = [] ∧ d.time = Timing.fresh ∧ d.calst = { s.dev.calst with waiting := none, lost := (s.dev.calst.lost || !s.dev.power.backup) }) ∧
  (∀ (s : State) (rails : Nat), 0 < rails → rails < 32 → s.dev.power.good → s.dev.rd NVM_PT_STATUS_STATE = 0 →
    Does (.powerGoodFall rails) s fun d =>
      d.power = { PowerSt.off with backup := true, resetLow := s.dev.power.resetLow } ∧ d.rd SUPPLY_EVENT_MAIN_LOSS = 1 ∧
      (∀ r, 1 ≤ r → r ≤ 5 → rails % 2 ^ (r - 1) = 0 → rails % 2 ^ r ≠ 0 → d.rd SUPPLY_EVENT_LOST_RAIL = r) ∧
      d.rd SUPPLY_STATUS_BKP_SRC = 1 ∧ d.nvm = s.dev.nvm ∧ d.fuses = s.dev.fuses ∧ d.rd CAL_NOW_CAL = s.dev.rd CAL_NOW_CAL) ∧
  (∀ s : State, s.dev.power.good →
    Does .vbatLow s fun d =>
      d.rd SUPPLY_EVENT_VBAT_LOW = 1 ∧ d.rd SUPPLY_STATUS_VBAT_OK = 0 ∧ Frame [] [SUPPLY_EVENT_VBAT_LOW, SUPPLY_STATUS_VBAT_OK] s.dev d) ∧
  (∀ s : State, s.dev.power.good = false →
    Does .backupDomainLoss s fun d =>
      d.regs.table .B = [] ∧ d.power.backup = false ∧ d.calst.lost = true ∧ d.rd CAL_STATUS_VALID = 0 ∧
      d.cal = calMake 2000 1 1 0 0 0 ∧ (∀ c : Cls, c ≠ .B → d.regs.table c = s.dev.regs.table c)) ∧
  (∀ (s : State) (c : Instr) (kind : Nat), (c, kind) ∈ [(Instr.pinReset, 2), (Instr.softReset, 3), (Instr.choirReset, 5)] →
    s.dev.alive → s.dev.rd NVM_PT_STATUS_STATE = 0 → (kind = 5 → s.dev.resetDue = true ∧ s.dev.rd TB_STATUS_FCK_SRC = 0) →
    Does c s fun d =>
      d.mode = 0 ∧ d.rd (causeFld kind) = 1 ∧ d.rd RESET_CAUSE_LAST = kind ∧ d.power.resetLow = decide (kind = 2) ∧ d.power.steps = 2 ∧
      d.regs.table .F = s.dev.regs.table .F ∧ d.regs.table .N = s.dev.regs.table .N ∧
      (kind ≠ 2 → d.regs.table .P = s.dev.regs.table .P ∧ d.regs.table .H = s.dev.regs.table .H) ∧
      (kind = 2 → d.rd JTAG_STATUS_JTAG_RESET = 0 ∧ d.regs.table .H = []) ∧
      d.rd CAL_NOW_CAL = s.dev.rd CAL_NOW_CAL ∧ d.rd STRAP_STATUS_ADDR = s.dev.rd STRAP_STATUS_ADDR ∧ d.sram.rowMap = s.dev.sram.rowMap ∧
      d.nvm = s.dev.nvm ∧ d.fuses = s.dev.fuses ∧ d.rings = [] ∧ d.fitV = [] ∧ d.tune = [] ∧ d.time = Timing.fresh ∧ d.choir = ChoirSt.fresh) ∧
  (∀ s : State, Does .resetNRise s fun d => d.power = { s.dev.power with resetLow := false } ∧ Frame [.power] [] s.dev d)

/-- O58. Boot and resume complete step by step in their order. -/
def Obligations.BootAndResumeTakeTheirSteps : Prop :=
  (∀ (s : State) (n : Nat), n ∈ [2, 4, 6] → s.dev.mayComplete n →
    Does (.bootStepComplete n []) s fun d =>
      d.power = { s.dev.power with steps := s.dev.power.steps ||| 2 ^ n } ∧ Frame [.power] [] s.dev d) ∧
  (∀ s : State, s.dev.mayComplete 3 →
    Does (.bootStepComplete 3 []) s fun d =>
      d.rd TB_STATUS_FPLL_LOCK = 1 ∧ d.power = { s.dev.power with steps := s.dev.power.steps ||| 2 ^ 3 } ∧
      Frame [.power] [TB_STATUS_FPLL_LOCK] s.dev d) ∧
  (∀ s : State, s.dev.mayComplete 10 → s.dev.booted 9 → s.dev.booted 11 → s.dev.mode = 0 →
    Does (.bootStepComplete 10 []) s fun d => d.mode = 1 ∧ d.booted 10 = true) ∧
  (∀ (s : State) (n : Nat) (info : List Nat), 1 ≤ n → n ≤ 12 → Instr.wf (.bootStepComplete n info) →
    (s.dev.booted n = true ∨ ∃ m ∈ bootNeeds n, s.dev.booted m = false) →
    Does (.bootStepComplete n info) s fun d => Frame [] [] s.dev d) ∧
  (∀ s : State, s.dev.alive → s.dev.mode = 1 → s.dev.booted 13 = false → (∀ n ∈ [7, 9, 10, 11], s.dev.booted n = true) →
    s.dev.rd CFG_STATUS_CONFIGURED = 1 →
    Does .firstPeriod s fun d => d.booted 13 = true ∧ d.power.firstOk = (s.dev.rd TB_CFG_MODE != 1 || s.dev.rd TB_STATUS_OCXO_STATE == 3)) ∧
  (∀ (s : State) (n k : Nat), k < 2 ^ 40 → s.dev.mayResumeStep n →
    (n ∈ [1, 5, 6, 7] →
      Does (.resumeStepComplete n k) s fun d =>
        d.power = { s.dev.power with resume := s.dev.power.resume ||| 2 ^ n } ∧ Frame [.power] [] s.dev d) ∧
    (n = 2 →
      Does (.resumeStepComplete n k) s fun d =>
        d.rd TB_STATUS_FPLL_LOCK = 1 ∧ d.rd TB_STATUS_FCK_SRC = 0 ∧ Frame [.power] [TB_STATUS_FPLL_LOCK, TB_STATUS_FCK_SRC] s.dev d) ∧
    (n = 8 → s.dev.rd CFG_STATUS_CONFIGURED = 0 → s.dev.rd POWER_STATUS_PREV = 2 → s.dev.needsOcxo = false →
      Does (.resumeStepComplete n k) s fun d =>
        d.mode = 2 ∧ d.rd RESET_CAUSE_RESUME = 1 ∧ d.rd POWER_STATUS_RESUMES = min (s.dev.rd POWER_STATUS_RESUMES + 1) (2 ^ 16 - 1)))

/-- O59. HOLD, RUN, STANDBY, RESUME and WAKE change the power state. TIMER.STATUS.HOLD from entry to return is the model's reading (log
entry 59). -/
def Obligations.PowerStatesChangeByCommand : Prop :=
  (∀ s : State, s.dev.hostOpen → s.dev.mode = 1 →
    Does .hold s fun d =>
      d.mode = 2 ∧ d.rd LR_STATUS_ERROR = 1 ∧ d.rd LR_STATUS_ERR_CAUSE = 7 ∧
      (∀ t < 4, d.rd (TIMER_STATUS_HOLD t) = s.dev.rd (TIMER_STATUS_RUNNING t) % 2) ∧ d.rd CAP_STATUS_STATE = 0 ∧ d.pipe.holdCause = true) ∧
  (∀ s : State, s.dev.hostOpen → s.dev.mode = 2 →
    Does .run s fun d => d.mode = 1 ∧ ∀ t < 4, d.rd (TIMER_STATUS_HOLD t) = 0) ∧
  (∀ s : State, s.dev.hostOpen → s.dev.mode = 2 → s.dev.rd APPLY_STATUS_STATE ≠ 2 →
    Does .standby s fun d =>
      d.mode = 2 ∧ d.rd POWER_STATUS_PREV = 2 ∧ d.power = { s.dev.power with entering := true, wakeDue := false } ∧
      Frame [.power, .host] [POWER_STATUS_PREV] s.dev d) ∧
  (∀ s : State, s.dev.alive → s.dev.power.entering → s.dev.power.wakeDue = false →
    Does .standbyEntryComplete s fun d =>
      d.mode = 3 ∧ d.power = { s.dev.power with entering := false, c0 := s.dev.coarse } ∧ d.rd TB_STATUS_SPLL_LOCK = 0 ∧
      d.rd TB_STATUS_FPLL_LOCK = 0 ∧ d.rd TB_STATUS_FCK_SRC = 1 ∧ d.is TB_STATUS_GATED = true ∧ d.rd TB_STATUS_REFOUT_SRC = 0 ∧
      d.pins.totPulse = 0 ∧ d.rd (LINK_STATE_STATE 0) = 0 ∧ d.rd (LINK_STATE_STATE 1) = 0) ∧
  (∀ s : State, s.dev.alive → s.dev.mode = 3 →
    (Does .resume s fun d =>
      d.mode = 4 ∧ d.power = { s.dev.power with resume := 0, wakeDue := false } ∧ Frame [.power] [POWER_STATUS_STATE] s.dev d) ∧
    (Does .wake s fun d =>
      d.mode = 4 ∧ d.rd PIN_LEVEL_WAKE = 1 ∧ d.power = { s.dev.power with resume := 0, wakeDue := false } ∧
      Frame [.power] [POWER_STATUS_STATE, PIN_LEVEL_WAKE] s.dev d)) ∧
  (∀ s : State, s.dev.alive → s.dev.mode = 2 → s.dev.power.entering →
    Does .resume s fun d => d.power = { s.dev.power with wakeDue := true } ∧ Frame [.power] [] s.dev d)

/-- O60. Straps, seal, die temperature, SRAM scrubbing and readmission are followed. That a block's command names the errors that its
reads meet is the model's choice (log entry 24). -/
def Obligations.PinsSramAndSourcesAreFollowed : Prop :=
  (∀ (s : State) (l : Nat), l < 16 → s.dev.power.good →
    Does (.strapChange l) s fun d =>
      d.rd PIN_LEVEL_STRAP_LIVE = l ∧ (l ≠ s.dev.rd STRAP_STATUS_ADDR → d.rd STRAP_STATUS_CHANGED = 1) ∧
      d.rd STRAP_STATUS_ADDR = s.dev.rd STRAP_STATUS_ADDR ∧
      Frame [] [PIN_LEVEL_STRAP_LIVE, STRAP_STATUS_CHANGED] s.dev d) ∧
  (∀ (s : State) (l : Bool), s.dev.alive → s.dev.mode ≠ 3 → s.dev.rd PIN_LEVEL_SEAL_OPEN = bit (!l) → s.dev.rd APPLY_STATUS_STATE = 0 →
    Does (.sealChange l) s fun d =>
      d.rd PIN_LEVEL_SEAL_OPEN = bit l ∧ d.rd PIN_LEVEL_SEAL_RAW = bit l ∧
      (s.dev.logQueue.length < 64 → ∃ r ∈ d.logQueue, r.kind = 9 ∧ r.payload = [bit l]) ∧
      Frame (notifyParts ++ [.logQueue, .logLost]) [PIN_LEVEL_SEAL_OPEN, PIN_LEVEL_SEAL_RAW, LOG_STATUS_LOG_QUEUE, LOSS_TOTAL] s.dev d) ∧
  (∀ (s : State) (t : Nat), t < 2 ^ 16 → s.dev.alive → s.dev.mode ≠ 3 →
    Does (.dieTempMeasure t) s fun d =>
      d.rd DIE_TEMP_TEMP = t ∧
      (toSigned 16 (s.dev.rd DIE_TEMP_TMAX) < toSigned 16 t → d.rd DIE_TEMP_TMAX = t) ∧
      (toSigned 16 t ≤ toSigned 16 (s.dev.rd DIE_TEMP_TMAX) → d.rd DIE_TEMP_TMAX = s.dev.rd DIE_TEMP_TMAX) ∧
      Frame [] [DIE_TEMP_TEMP, DIE_TEMP_TMAX] s.dev d) ∧
  (∀ (s : State) (b r c : Nat), b < 8 → r < 512 → c < 64 → s.dev.alive → s.dev.mode ≠ 3 → s.dev.copyingIn b = false →
    (Does (.scrub b r c 0 0) s fun d => Frame [.sram] [] s.dev d) ∧
    (Store.read s.dev.sram.prevPass (b * 512 + r) = 0 →
      Does (.scrub b r c 1 0) s fun d =>
        d.rd (SRAM_CORR b) = min (s.dev.rd (SRAM_CORR b) + 1) (2 ^ 16 - 1) ∧
        (Store.read s.dev.sram.corrRep b = 0 → d.rd FAULT_STATUS_LAST_CODE = 0x0B01) ∧
        Frame ([Part.sram] ++ faultParts) ([SRAM_CORR b] ++ faultFlds) s.dev d) ∧
    (Store.read s.dev.sram.bad ((b * 512 + r) * 64 + c) ≠ 0 → Does (.scrub b r c 2 0) s fun d => Frame [.sram] [] s.dev d)) ∧
  (∀ (s : State) (b r : Nat), b < 8 → r < 512 → s.dev.alive → Store.read s.dev.sram.copying (b * 512 + r) ≠ 0 →
    Does (.rowReplacementDone b r) s fun d =>
      Store.read d.sram.rowMap (b * 512 + r) = Store.read s.dev.sram.copying (b * 512 + r) ∧ d.rd FAULT_STATUS_LAST_CODE = 0x0B03 ∧
      Frame ([Part.sram] ++ faultParts) faultFlds s.dev d) ∧
  (∀ s : State, s.dev.hostOpen →
    (Does .clearSramCorr s fun d =>
      (∀ b < 8, d.rd (SRAM_CORR b) = 0) ∧ Frame [.host] ((List.range 8).map SRAM_CORR) s.dev d) ∧
    (∀ n, s.dev.mayReadmit n → 0x18 ≤ n → n < 0x20 → s.dev.rd (WM_CFG_EN (n - 0x18)) = 0 →
      (∀ m < 8, s.dev.rd (WM_STATUS_STATE m) ≠ 4) →
      Does (.reAdmit n) s fun d =>
        d.rd (STRIKE_RETIRED n) = 0 ∧ d.rd (STRIKE_PROBATION n) = 1 ∧ d.rd (STRIKE_STRIKES n) = 0 ∧
        d.rd (STRIKE_PROB_LEFT n) = s.dev.rd STRIKE_CFG_PROBATION % 2 ^ 8 ∧
        Frame [.host, .wms] [WM_STATUS_STATE (n - 0x18), STRIKE_STRIKES n, STRIKE_DECAY_COUNT n, STRIKE_RETIRED n, STRIKE_PROBATION n, STRIKE_PROB_LEFT n]
          s.dev d) ∧
    (∀ n m, s.dev.mayReadmit n → m < 8 → n ≠ 0x18 + m → s.dev.rd (WM_STATUS_STATE m) = 4 →
      Does (.reAdmit n) s fun d => d.rd (WM_STATUS_STATE m) = 2 ∧ (d.wm m).step = 1 ∧ d.rd (STRIKE_RETIRED n) = 0) ∧
    (∀ n, n < 256 → s.dev.mayReadmit n = false → Does (.reAdmit n) s fun d => Frame [.host] [] s.dev d)) ∧
  (∀ (s : State) (n m r : Nat) (u : List (Nat × Nat)) (c e : Instr), (c, e, r) ∈ [(Instr.stampAccumulate n u, Instr.stampAccumulate n [], 5 + n),
    (.analyserStamp n u, .analyserStamp n [], 29 + n), (.localSum u, .localSum [], 1), (.pipelineCommit u, .pipelineCommit [], 1),
    (.trackStamp n u, .trackStamp n [], 2), (.frameDecode u, .frameDecode [], 2), (.nak n m u, .nak n m [], 3 + n),
    (.replayTimeout n u, .replayTimeout n [], 3 + n)] → c.wf → exec c s = exec e { s with dev := s.dev.readState r u })
end

