-- ==== Sys2Proof/Laws/Store.lean ====
section
/-! SUPPORT.
Laws of sparse tables and of the register file: a read after a write, and the canonical form.
-/

namespace Sys2Proof.Machine

set_option Elab.async false

theorem Store.read_insert_same (s : Store) (q x : Nat) : Store.read (Store.insert s q x) q = x := by
  induction s with
  | nil => simp [Store.insert, Store.read]
  | cons p r ih =>
    obtain ⟨k, v⟩ := p
    simp only [Store.insert]
    split
    · simp [Store.read]
    · split
      · simp [Store.read]
      · rename_i h; simp [Store.read, h, ih]

theorem Store.read_insert_other (s : Store) {q q' : Nat} (x : Nat) (h : q' ≠ q) :
    Store.read (Store.insert s q x) q' = Store.read s q' := by
  induction s with
  | nil => simp [Store.insert, Store.read, h]
  | cons p r ih =>
    obtain ⟨k, v⟩ := p
    simp only [Store.insert]
    split
    · simp [Store.read, h]
    · split
      · rename_i hk; subst hk; simp [Store.read, h]
      · simp [Store.read, ih]

theorem Store.read_erase_same (s : Store) (q : Nat) : Store.read (Store.erase s q) q = 0 := by
  induction s with
  | nil => rfl
  | cons p r ih =>
    obtain ⟨k, v⟩ := p
    simp only [Store.erase] at ih ⊢
    by_cases hk : k = q
    · simp [hk, ih]
    · have hq : ¬ q = k := fun e => hk e.symm
      simp [hk, Store.read, hq, ih]

theorem Store.read_erase_other (s : Store) {q q' : Nat} (h : q' ≠ q) : Store.read (Store.erase s q) q' = Store.read s q' := by
  induction s with
  | nil => rfl
  | cons p r ih =>
    obtain ⟨k, v⟩ := p
    simp only [Store.erase] at ih ⊢
    by_cases hk : k = q
    · subst hk; simp [Store.read, h, ih]
    · simp [hk, Store.read, ih]

/-- A read after a write to the same key gives the value written. -/
@[simp] theorem Store.read_write_same (s : Store) (q x : Nat) : Store.read (Store.write s q x) q = x := by
  unfold Store.write
  split
  · rename_i h; rw [Store.read_erase_same, h]
  · exact Store.read_insert_same s q x

/-- A write leaves every other key alone. -/
theorem Store.read_write_other (s : Store) {q q' : Nat} (x : Nat) (h : q' ≠ q) :
    Store.read (Store.write s q x) q' = Store.read s q' := by
  unfold Store.write
  split
  · exact Store.read_erase_other s h
  · exact Store.read_insert_other s x h

/-- The canonical form as sorted keys without a 0. -/
theorem Store.wf_iff (s : Store) : Store.wf s = true ↔ s.Pairwise (fun a b => a.1 < b.1) ∧ ∀ p ∈ s, p.2 ≠ 0 := by
  induction s with
  | nil => simp [Store.wf]
  | cons p r ih =>
    obtain ⟨k, v⟩ := p
    cases r with
    | nil => simp [Store.wf]
    | cons p' r' =>
      obtain ⟨k', v'⟩ := p'
      simp only [Store.wf, Bool.and_eq_true, decide_eq_true_eq, bne_iff_ne, ih, List.pairwise_cons, List.mem_cons,
        forall_eq_or_imp]
      constructor
      · rintro ⟨⟨hv, hk⟩, ⟨h1, h2⟩, h3, h4⟩
        exact ⟨⟨⟨hk, fun a ha => hk.trans (h1 a ha)⟩, h1, h2⟩, hv, h3, h4⟩
      · rintro ⟨⟨⟨hk, _⟩, h1, h2⟩, hv, h3, h4⟩
        exact ⟨⟨hv, hk⟩, ⟨h1, h2⟩, h3, h4⟩

theorem Store.mem_insert {s : Store} {q x : Nat} {p : Nat × Nat} (h : p ∈ Store.insert s q x) : p = (q, x) ∨ p ∈ s := by
  induction s with
  | nil => simpa [Store.insert] using h
  | cons a r ih =>
    obtain ⟨k, v⟩ := a
    simp only [Store.insert] at h
    split at h
    · simpa using h
    · split at h
      · rcases List.mem_cons.1 h with h | h
        · exact .inl h
        · exact .inr (List.mem_cons_of_mem _ h)
      · rcases List.mem_cons.1 h with h | h
        · exact .inr (by rw [h]; exact List.mem_cons_self)
        · exact (ih h).imp id (List.mem_cons_of_mem _)

theorem Store.wf_insert {s : Store} {q x : Nat} (hx : x ≠ 0) (h : Store.wf s = true) : Store.wf (Store.insert s q x) = true := by
  rw [Store.wf_iff] at h ⊢
  refine ⟨?_, fun p hp => ?_⟩
  · obtain ⟨h, -⟩ := h
    induction s with
    | nil => simp [Store.insert]
    | cons a r ih =>
      obtain ⟨k, v⟩ := a
      obtain ⟨h1, h2⟩ := List.pairwise_cons.1 h
      simp only [Store.insert]
      split
      · rename_i hq
        refine List.pairwise_cons.2 ⟨fun p hp => ?_, h⟩
        rcases List.mem_cons.1 hp with rfl | hp
        · exact hq
        · exact hq.trans (h1 p hp)
      · split
        · rename_i hq; subst hq; exact List.pairwise_cons.2 ⟨h1, h2⟩
        · refine List.pairwise_cons.2 ⟨fun p hp => ?_, ih h2⟩
          rcases Store.mem_insert hp with rfl | hp
          · show k < q
            omega
          · exact h1 p hp
  · rcases Store.mem_insert hp with rfl | hp
    · exact hx
    · exact h.2 p hp

theorem Store.wf_filter {s : Store} (f : Nat × Nat → Bool) (h : Store.wf s = true) : Store.wf (s.filter f) = true := by
  rw [Store.wf_iff] at h ⊢
  exact ⟨h.1.filter f, fun p hp => h.2 p (List.mem_filter.1 hp).1⟩

/-- A write keeps the canonical form. -/
theorem Store.wf_write {s : Store} (q x : Nat) (h : Store.wf s = true) : Store.wf (Store.write s q x) = true := by
  unfold Store.write
  split
  · exact Store.wf_filter _ h
  · rename_i hx; exact Store.wf_insert hx h

/-- Consecutive writes keep the canonical form. -/
theorem Store.wf_writeList {s : Store} (q : Nat) (l : List Nat) (h : Store.wf s = true) : Store.wf (Store.writeList s q l) = true := by
  induction l generalizing s q with
  | nil => exact h
  | cons x r ih => exact ih (q + 1) (Store.wf_write q x h)

/-- Removing a range keeps the canonical form. -/
theorem Store.wf_clearRange {s : Store} (lo hi : Nat) (h : Store.wf s = true) : Store.wf (Store.clearRange s lo hi) = true :=
  Store.wf_filter _ h

/-- A table written entry by entry is in canonical form. -/
theorem Store.wf_canon (s : Store) : Store.wf (Store.canon s) = true := by
  induction s with
  | nil => rfl
  | cons p r ih => exact Store.wf_write _ _ ih

@[simp] theorem RegFile.table_setTable_same (r : RegFile) (c : Cls) (t : Store) : (r.setTable c t).table c = t := by cases c <;> rfl

theorem RegFile.table_setTable_other (r : RegFile) {c c' : Cls} (t : Store) (h : c' ≠ c) : (r.setTable c t).table c' = r.table c' := by
  cases c <;> cases c' <;> first | rfl | exact absurd rfl h

/-- Every table of a register file in canonical form is canonical. -/
theorem RegFile.wf_iff (r : RegFile) : r.wf = true ↔ ∀ c, Store.wf (r.table c) = true := by
  constructor
  · intro h c
    simp only [RegFile.wf, Bool.and_eq_true] at h
    cases c <;> simp [RegFile.table, h]
  · intro h
    simp only [RegFile.wf, Bool.and_eq_true]
    exact ⟨⟨⟨⟨⟨⟨h .F, h .N⟩, h .B⟩, h .P⟩, h .H⟩, h .S⟩, h .I⟩

theorem RegFile.wf_setTable {r : RegFile} {c : Cls} {t : Store} (h : r.wf = true) (ht : Store.wf t = true) : (r.setTable c t).wf = true := by
  rw [RegFile.wf_iff] at h ⊢
  intro c'
  by_cases hc : c' = c
  · subst hc; simpa using ht
  · rw [RegFile.table_setTable_other _ _ hc]; exact h c'

/-- A field write keeps every table in canonical form. -/
theorem RegFile.wf_set {r : RegFile} (f : Fld) (v : Nat) (h : r.wf = true) : (r.set f v).wf = true :=
  RegFile.wf_setTable h (Store.wf_write _ _ ((RegFile.wf_iff r).1 h f.cls))

/-- A field write leaves the tables of the other classes alone. -/
theorem RegFile.table_set_other (r : RegFile) {f : Fld} (v : Nat) {c : Cls} (h : c ≠ f.cls) : (r.set f v).table c = r.table c :=
  RegFile.table_setTable_other r _ h

/-- A field reads what was written to it, cut to its width. -/
@[simp] theorem RegFile.get_set_same (r : RegFile) (f : Fld) (v : Nat) : (r.set f v).get f = v % 2 ^ f.width := by
  simp [RegFile.get, RegFile.set, fieldRead, fieldWrite]

/-- A field write leaves every field of another key or class alone. -/
theorem RegFile.get_set_other (r : RegFile) {f g : Fld} (v : Nat) (h : g.key ≠ f.key ∨ g.cls ≠ f.cls) : (r.set f v).get g = r.get g := by
  by_cases hc : g.cls = f.cls
  · have hk : g.key ≠ f.key := h.resolve_right (fun n => n hc)
    simp [RegFile.get, RegFile.set, fieldRead, fieldWrite, hc, Store.read_write_other _ _ hk]
  · simp [RegFile.get, RegFile.table_set_other r v hc]

/-- The unit of a number just replaced. -/
@[simp] theorem Tab.read_write_same {α : Type} (d : α) (t : Tab α) (q : Nat) (x : α) : Tab.read d (Tab.write t q x) q = x := by
  induction t with
  | nil => simp [Tab.write, Tab.read]
  | cons p r ih =>
    obtain ⟨k, v⟩ := p
    simp only [Tab.write]
    split
    · simp [Tab.read]
    · split
      · simp [Tab.read]
      · rename_i h; simp [Tab.read, h, ih]

/-- Replacing a unit leaves the others alone. -/
theorem Tab.read_write_other {α : Type} (d : α) (t : Tab α) {q q' : Nat} (x : α) (h : q' ≠ q) :
    Tab.read d (Tab.write t q x) q' = Tab.read d t q' := by
  induction t with
  | nil => simp [Tab.write, Tab.read, h]
  | cons p r ih =>
    obtain ⟨k, v⟩ := p
    simp only [Tab.write]
    split
    · simp [Tab.read, h]
    · split
      · rename_i hk; subst hk; simp [Tab.read, h]
      · simp [Tab.read, ih]

end Sys2Proof.Machine
end

