-- ==== Sys2Proof/Laws/State.lean ====
section
/-! SUPPORT.
What every named update of the device leaves alone, field by field, and what it makes a read answer.
-/

namespace Sys2Proof.Machine

set_option Elab.async false

/-- A register field reads what was written to it, cut to its width. -/
@[simp] theorem Dev.rd_wr_same (d : Dev) (f : Fld) (v : Nat) : (d.wr f v).rd f = v % 2 ^ f.width := RegFile.get_set_same d.regs f v

/-- A write leaves every register field of another key or class alone. -/
theorem Dev.rd_wr_other (d : Dev) {f g : Fld} (v : Nat) (h : g.key ≠ f.key ∨ g.cls ≠ f.cls) : (d.wr f v).rd g = d.rd g :=
  RegFile.get_set_other d.regs v h

theorem Dev.is_wr_other (d : Dev) {f g : Fld} (v : Nat) (h : g.key ≠ f.key ∨ g.cls ≠ f.cls) : (d.wr f v).is g = d.is g := by
  simp [Dev.is, Dev.rd_wr_other d v h]

/-- A read looks at nothing but the register file. -/
theorem Dev.rd_congr {d e : Dev} (f : Fld) (h : d.regs = e.regs) : d.rd f = e.rd f := by simp [Dev.rd, h]

@[simp] theorem Dev.wr_fuses (d : Dev) (f : Fld) (v : Nat) : (d.wr f v).fuses = d.fuses := rfl
@[simp] theorem Dev.wr_snaps (d : Dev) (f : Fld) (v : Nat) : (d.wr f v).snaps = d.snaps := rfl
@[simp] theorem Dev.wr_time (d : Dev) (f : Fld) (v : Nat) : (d.wr f v).time = d.time := rfl
@[simp] theorem Dev.wr_voices (d : Dev) (f : Fld) (v : Nat) : (d.wr f v).voices = d.voices := rfl
@[simp] theorem Dev.wr_rings (d : Dev) (f : Fld) (v : Nat) : (d.wr f v).rings = d.rings := rfl
@[simp] theorem Dev.wr_writer (d : Dev) (f : Fld) (v : Nat) : (d.wr f v).writer = d.writer := rfl
@[simp] theorem Dev.wr_tune (d : Dev) (f : Fld) (v : Nat) : (d.wr f v).tune = d.tune := rfl
@[simp] theorem Dev.wr_wms (d : Dev) (f : Fld) (v : Nat) : (d.wr f v).wms = d.wms := rfl
@[simp] theorem Dev.wr_excs (d : Dev) (f : Fld) (v : Nat) : (d.wr f v).excs = d.excs := rfl
@[simp] theorem Dev.wr_timers (d : Dev) (f : Fld) (v : Nat) : (d.wr f v).timers = d.timers := rfl
@[simp] theorem Dev.wr_fitV (d : Dev) (f : Fld) (v : Nat) : (d.wr f v).fitV = d.fitV := rfl
@[simp] theorem Dev.wr_fitP (d : Dev) (f : Fld) (v : Nat) : (d.wr f v).fitP = d.fitP := rfl
@[simp] theorem Dev.wr_allan (d : Dev) (f : Fld) (v : Nat) : (d.wr f v).allan = d.allan := rfl
@[simp] theorem Dev.wr_allanFrom (d : Dev) (f : Fld) (v : Nat) : (d.wr f v).allanFrom = d.allanFrom := rfl
@[simp] theorem Dev.wr_items (d : Dev) (f : Fld) (v : Nat) : (d.wr f v).items = d.items := rfl
@[simp] theorem Dev.wr_anas (d : Dev) (f : Fld) (v : Nat) : (d.wr f v).anas = d.anas := rfl
@[simp] theorem Dev.wr_anaItems (d : Dev) (f : Fld) (v : Nat) : (d.wr f v).anaItems = d.anaItems := rfl
@[simp] theorem Dev.wr_cap (d : Dev) (f : Fld) (v : Nat) : (d.wr f v).cap = d.cap := rfl
@[simp] theorem Dev.wr_faults (d : Dev) (f : Fld) (v : Nat) : (d.wr f v).faults = d.faults := rfl
@[simp] theorem Dev.wr_power (d : Dev) (f : Fld) (v : Nat) : (d.wr f v).power = d.power := rfl
@[simp] theorem Dev.wr_pins (d : Dev) (f : Fld) (v : Nat) : (d.wr f v).pins = d.pins := rfl
@[simp] theorem Dev.wr_sram (d : Dev) (f : Fld) (v : Nat) : (d.wr f v).sram = d.sram := rfl
@[simp] theorem Dev.wr_pipe (d : Dev) (f : Fld) (v : Nat) : (d.wr f v).pipe = d.pipe := rfl
@[simp] theorem Dev.wr_track (d : Dev) (f : Fld) (v : Nat) : (d.wr f v).track = d.track := rfl
@[simp] theorem Dev.wr_choir (d : Dev) (f : Fld) (v : Nat) : (d.wr f v).choir = d.choir := rfl
@[simp] theorem Dev.wr_logQueue (d : Dev) (f : Fld) (v : Nat) : (d.wr f v).logQueue = d.logQueue := rfl
@[simp] theorem Dev.wr_logLost (d : Dev) (f : Fld) (v : Nat) : (d.wr f v).logLost = d.logLost := rfl
@[simp] theorem Dev.wr_calst (d : Dev) (f : Fld) (v : Nat) : (d.wr f v).calst = d.calst := rfl
@[simp] theorem Dev.wr_img (d : Dev) (f : Fld) (v : Nat) : (d.wr f v).img = d.img := rfl
@[simp] theorem Dev.wr_host (d : Dev) (f : Fld) (v : Nat) : (d.wr f v).host = d.host := rfl
@[simp] theorem Dev.wr_nvm (d : Dev) (f : Fld) (v : Nat) : (d.wr f v).nvm = d.nvm := rfl
@[simp] theorem Dev.wr_logs (d : Dev) (f : Fld) (v : Nat) : (d.wr f v).logs = d.logs := rfl
@[simp] theorem Dev.wr_free (d : Dev) (f : Fld) (v : Nat) : (d.wr f v).free = d.free := rfl

@[simp] theorem Dev.inc_fuses (d : Dev) (f : Fld) : (d.inc f).fuses = d.fuses := rfl
@[simp] theorem Dev.inc_snaps (d : Dev) (f : Fld) : (d.inc f).snaps = d.snaps := rfl
@[simp] theorem Dev.inc_time (d : Dev) (f : Fld) : (d.inc f).time = d.time := rfl
@[simp] theorem Dev.inc_voices (d : Dev) (f : Fld) : (d.inc f).voices = d.voices := rfl
@[simp] theorem Dev.inc_rings (d : Dev) (f : Fld) : (d.inc f).rings = d.rings := rfl
@[simp] theorem Dev.inc_writer (d : Dev) (f : Fld) : (d.inc f).writer = d.writer := rfl
@[simp] theorem Dev.inc_tune (d : Dev) (f : Fld) : (d.inc f).tune = d.tune := rfl
@[simp] theorem Dev.inc_wms (d : Dev) (f : Fld) : (d.inc f).wms = d.wms := rfl
@[simp] theorem Dev.inc_excs (d : Dev) (f : Fld) : (d.inc f).excs = d.excs := rfl
@[simp] theorem Dev.inc_timers (d : Dev) (f : Fld) : (d.inc f).timers = d.timers := rfl
@[simp] theorem Dev.inc_fitV (d : Dev) (f : Fld) : (d.inc f).fitV = d.fitV := rfl
@[simp] theorem Dev.inc_fitP (d : Dev) (f : Fld) : (d.inc f).fitP = d.fitP := rfl
@[simp] theorem Dev.inc_allan (d : Dev) (f : Fld) : (d.inc f).allan = d.allan := rfl
@[simp] theorem Dev.inc_allanFrom (d : Dev) (f : Fld) : (d.inc f).allanFrom = d.allanFrom := rfl
@[simp] theorem Dev.inc_items (d : Dev) (f : Fld) : (d.inc f).items = d.items := rfl
@[simp] theorem Dev.inc_anas (d : Dev) (f : Fld) : (d.inc f).anas = d.anas := rfl
@[simp] theorem Dev.inc_anaItems (d : Dev) (f : Fld) : (d.inc f).anaItems = d.anaItems := rfl
@[simp] theorem Dev.inc_cap (d : Dev) (f : Fld) : (d.inc f).cap = d.cap := rfl
@[simp] theorem Dev.inc_faults (d : Dev) (f : Fld) : (d.inc f).faults = d.faults := rfl
@[simp] theorem Dev.inc_power (d : Dev) (f : Fld) : (d.inc f).power = d.power := rfl
@[simp] theorem Dev.inc_pins (d : Dev) (f : Fld) : (d.inc f).pins = d.pins := rfl
@[simp] theorem Dev.inc_sram (d : Dev) (f : Fld) : (d.inc f).sram = d.sram := rfl
@[simp] theorem Dev.inc_pipe (d : Dev) (f : Fld) : (d.inc f).pipe = d.pipe := rfl
@[simp] theorem Dev.inc_track (d : Dev) (f : Fld) : (d.inc f).track = d.track := rfl
@[simp] theorem Dev.inc_choir (d : Dev) (f : Fld) : (d.inc f).choir = d.choir := rfl
@[simp] theorem Dev.inc_logQueue (d : Dev) (f : Fld) : (d.inc f).logQueue = d.logQueue := rfl
@[simp] theorem Dev.inc_logLost (d : Dev) (f : Fld) : (d.inc f).logLost = d.logLost := rfl
@[simp] theorem Dev.inc_calst (d : Dev) (f : Fld) : (d.inc f).calst = d.calst := rfl
@[simp] theorem Dev.inc_img (d : Dev) (f : Fld) : (d.inc f).img = d.img := rfl
@[simp] theorem Dev.inc_host (d : Dev) (f : Fld) : (d.inc f).host = d.host := rfl
@[simp] theorem Dev.inc_nvm (d : Dev) (f : Fld) : (d.inc f).nvm = d.nvm := rfl
@[simp] theorem Dev.inc_logs (d : Dev) (f : Fld) : (d.inc f).logs = d.logs := rfl
@[simp] theorem Dev.inc_free (d : Dev) (f : Fld) : (d.inc f).free = d.free := rfl

@[simp] theorem Dev.step1_fuses (d : Dev) (f : Fld) : (d.step1 f).fuses = d.fuses := rfl
@[simp] theorem Dev.step1_snaps (d : Dev) (f : Fld) : (d.step1 f).snaps = d.snaps := rfl
@[simp] theorem Dev.step1_time (d : Dev) (f : Fld) : (d.step1 f).time = d.time := rfl
@[simp] theorem Dev.step1_voices (d : Dev) (f : Fld) : (d.step1 f).voices = d.voices := rfl
@[simp] theorem Dev.step1_rings (d : Dev) (f : Fld) : (d.step1 f).rings = d.rings := rfl
@[simp] theorem Dev.step1_writer (d : Dev) (f : Fld) : (d.step1 f).writer = d.writer := rfl
@[simp] theorem Dev.step1_tune (d : Dev) (f : Fld) : (d.step1 f).tune = d.tune := rfl
@[simp] theorem Dev.step1_wms (d : Dev) (f : Fld) : (d.step1 f).wms = d.wms := rfl
@[simp] theorem Dev.step1_excs (d : Dev) (f : Fld) : (d.step1 f).excs = d.excs := rfl
@[simp] theorem Dev.step1_timers (d : Dev) (f : Fld) : (d.step1 f).timers = d.timers := rfl
@[simp] theorem Dev.step1_fitV (d : Dev) (f : Fld) : (d.step1 f).fitV = d.fitV := rfl
@[simp] theorem Dev.step1_fitP (d : Dev) (f : Fld) : (d.step1 f).fitP = d.fitP := rfl
@[simp] theorem Dev.step1_allan (d : Dev) (f : Fld) : (d.step1 f).allan = d.allan := rfl
@[simp] theorem Dev.step1_allanFrom (d : Dev) (f : Fld) : (d.step1 f).allanFrom = d.allanFrom := rfl
@[simp] theorem Dev.step1_items (d : Dev) (f : Fld) : (d.step1 f).items = d.items := rfl
@[simp] theorem Dev.step1_anas (d : Dev) (f : Fld) : (d.step1 f).anas = d.anas := rfl
@[simp] theorem Dev.step1_anaItems (d : Dev) (f : Fld) : (d.step1 f).anaItems = d.anaItems := rfl
@[simp] theorem Dev.step1_cap (d : Dev) (f : Fld) : (d.step1 f).cap = d.cap := rfl
@[simp] theorem Dev.step1_faults (d : Dev) (f : Fld) : (d.step1 f).faults = d.faults := rfl
@[simp] theorem Dev.step1_power (d : Dev) (f : Fld) : (d.step1 f).power = d.power := rfl
@[simp] theorem Dev.step1_pins (d : Dev) (f : Fld) : (d.step1 f).pins = d.pins := rfl
@[simp] theorem Dev.step1_sram (d : Dev) (f : Fld) : (d.step1 f).sram = d.sram := rfl
@[simp] theorem Dev.step1_pipe (d : Dev) (f : Fld) : (d.step1 f).pipe = d.pipe := rfl
@[simp] theorem Dev.step1_track (d : Dev) (f : Fld) : (d.step1 f).track = d.track := rfl
@[simp] theorem Dev.step1_choir (d : Dev) (f : Fld) : (d.step1 f).choir = d.choir := rfl
@[simp] theorem Dev.step1_logQueue (d : Dev) (f : Fld) : (d.step1 f).logQueue = d.logQueue := rfl
@[simp] theorem Dev.step1_logLost (d : Dev) (f : Fld) : (d.step1 f).logLost = d.logLost := rfl
@[simp] theorem Dev.step1_calst (d : Dev) (f : Fld) : (d.step1 f).calst = d.calst := rfl
@[simp] theorem Dev.step1_img (d : Dev) (f : Fld) : (d.step1 f).img = d.img := rfl
@[simp] theorem Dev.step1_host (d : Dev) (f : Fld) : (d.step1 f).host = d.host := rfl
@[simp] theorem Dev.step1_nvm (d : Dev) (f : Fld) : (d.step1 f).nvm = d.nvm := rfl
@[simp] theorem Dev.step1_logs (d : Dev) (f : Fld) : (d.step1 f).logs = d.logs := rfl
@[simp] theorem Dev.step1_free (d : Dev) (f : Fld) : (d.step1 f).free = d.free := rfl

@[simp] theorem Dev.nextFree_regs (d : Dev) : d.nextFree.regs = d.regs := rfl
@[simp] theorem Dev.nextFree_fuses (d : Dev) : d.nextFree.fuses = d.fuses := rfl
@[simp] theorem Dev.nextFree_snaps (d : Dev) : d.nextFree.snaps = d.snaps := rfl
@[simp] theorem Dev.nextFree_time (d : Dev) : d.nextFree.time = d.time := rfl
@[simp] theorem Dev.nextFree_voices (d : Dev) : d.nextFree.voices = d.voices := rfl
@[simp] theorem Dev.nextFree_rings (d : Dev) : d.nextFree.rings = d.rings := rfl
@[simp] theorem Dev.nextFree_writer (d : Dev) : d.nextFree.writer = d.writer := rfl
@[simp] theorem Dev.nextFree_tune (d : Dev) : d.nextFree.tune = d.tune := rfl
@[simp] theorem Dev.nextFree_wms (d : Dev) : d.nextFree.wms = d.wms := rfl
@[simp] theorem Dev.nextFree_excs (d : Dev) : d.nextFree.excs = d.excs := rfl
@[simp] theorem Dev.nextFree_timers (d : Dev) : d.nextFree.timers = d.timers := rfl
@[simp] theorem Dev.nextFree_fitV (d : Dev) : d.nextFree.fitV = d.fitV := rfl
@[simp] theorem Dev.nextFree_fitP (d : Dev) : d.nextFree.fitP = d.fitP := rfl
@[simp] theorem Dev.nextFree_allan (d : Dev) : d.nextFree.allan = d.allan := rfl
@[simp] theorem Dev.nextFree_allanFrom (d : Dev) : d.nextFree.allanFrom = d.allanFrom := rfl
@[simp] theorem Dev.nextFree_items (d : Dev) : d.nextFree.items = d.items := rfl
@[simp] theorem Dev.nextFree_anas (d : Dev) : d.nextFree.anas = d.anas := rfl
@[simp] theorem Dev.nextFree_anaItems (d : Dev) : d.nextFree.anaItems = d.anaItems := rfl
@[simp] theorem Dev.nextFree_cap (d : Dev) : d.nextFree.cap = d.cap := rfl
@[simp] theorem Dev.nextFree_faults (d : Dev) : d.nextFree.faults = d.faults := rfl
@[simp] theorem Dev.nextFree_power (d : Dev) : d.nextFree.power = d.power := rfl
@[simp] theorem Dev.nextFree_pins (d : Dev) : d.nextFree.pins = d.pins := rfl
@[simp] theorem Dev.nextFree_sram (d : Dev) : d.nextFree.sram = d.sram := rfl
@[simp] theorem Dev.nextFree_pipe (d : Dev) : d.nextFree.pipe = d.pipe := rfl
@[simp] theorem Dev.nextFree_track (d : Dev) : d.nextFree.track = d.track := rfl
@[simp] theorem Dev.nextFree_choir (d : Dev) : d.nextFree.choir = d.choir := rfl
@[simp] theorem Dev.nextFree_logQueue (d : Dev) : d.nextFree.logQueue = d.logQueue := rfl
@[simp] theorem Dev.nextFree_logLost (d : Dev) : d.nextFree.logLost = d.logLost := rfl
@[simp] theorem Dev.nextFree_calst (d : Dev) : d.nextFree.calst = d.calst := rfl
@[simp] theorem Dev.nextFree_img (d : Dev) : d.nextFree.img = d.img := rfl
@[simp] theorem Dev.nextFree_host (d : Dev) : d.nextFree.host = d.host := rfl
@[simp] theorem Dev.nextFree_nvm (d : Dev) : d.nextFree.nvm = d.nvm := rfl
@[simp] theorem Dev.nextFree_logs (d : Dev) : d.nextFree.logs = d.logs := rfl
@[simp] theorem Dev.nextFree_rd (d : Dev) (g : Fld) : d.nextFree.rd g = d.rd g := rfl
@[simp] theorem Dev.nextFree_is (d : Dev) (g : Fld) : d.nextFree.is g = d.is g := rfl

@[simp] theorem Dev.putVoice_fuses (d : Dev) (n : Nat) (v : Voice) : (d.putVoice n v).fuses = d.fuses := rfl
@[simp] theorem Dev.putVoice_snaps (d : Dev) (n : Nat) (v : Voice) : (d.putVoice n v).snaps = d.snaps := rfl
@[simp] theorem Dev.putVoice_time (d : Dev) (n : Nat) (v : Voice) : (d.putVoice n v).time = d.time := rfl
@[simp] theorem Dev.putVoice_rings (d : Dev) (n : Nat) (v : Voice) : (d.putVoice n v).rings = d.rings := rfl
@[simp] theorem Dev.putVoice_writer (d : Dev) (n : Nat) (v : Voice) : (d.putVoice n v).writer = d.writer := rfl
@[simp] theorem Dev.putVoice_tune (d : Dev) (n : Nat) (v : Voice) : (d.putVoice n v).tune = d.tune := rfl
@[simp] theorem Dev.putVoice_wms (d : Dev) (n : Nat) (v : Voice) : (d.putVoice n v).wms = d.wms := rfl
@[simp] theorem Dev.putVoice_excs (d : Dev) (n : Nat) (v : Voice) : (d.putVoice n v).excs = d.excs := rfl
@[simp] theorem Dev.putVoice_timers (d : Dev) (n : Nat) (v : Voice) : (d.putVoice n v).timers = d.timers := rfl
@[simp] theorem Dev.putVoice_fitV (d : Dev) (n : Nat) (v : Voice) : (d.putVoice n v).fitV = d.fitV := rfl
@[simp] theorem Dev.putVoice_fitP (d : Dev) (n : Nat) (v : Voice) : (d.putVoice n v).fitP = d.fitP := rfl
@[simp] theorem Dev.putVoice_allan (d : Dev) (n : Nat) (v : Voice) : (d.putVoice n v).allan = d.allan := rfl
@[simp] theorem Dev.putVoice_allanFrom (d : Dev) (n : Nat) (v : Voice) : (d.putVoice n v).allanFrom = d.allanFrom := rfl
@[simp] theorem Dev.putVoice_items (d : Dev) (n : Nat) (v : Voice) : (d.putVoice n v).items = d.items := rfl
@[simp] theorem Dev.putVoice_anas (d : Dev) (n : Nat) (v : Voice) : (d.putVoice n v).anas = d.anas := rfl
@[simp] theorem Dev.putVoice_anaItems (d : Dev) (n : Nat) (v : Voice) : (d.putVoice n v).anaItems = d.anaItems := rfl
@[simp] theorem Dev.putVoice_cap (d : Dev) (n : Nat) (v : Voice) : (d.putVoice n v).cap = d.cap := rfl
@[simp] theorem Dev.putVoice_faults (d : Dev) (n : Nat) (v : Voice) : (d.putVoice n v).faults = d.faults := rfl
@[simp] theorem Dev.putVoice_power (d : Dev) (n : Nat) (v : Voice) : (d.putVoice n v).power = d.power := rfl
@[simp] theorem Dev.putVoice_pins (d : Dev) (n : Nat) (v : Voice) : (d.putVoice n v).pins = d.pins := rfl
@[simp] theorem Dev.putVoice_sram (d : Dev) (n : Nat) (v : Voice) : (d.putVoice n v).sram = d.sram := rfl
@[simp] theorem Dev.putVoice_pipe (d : Dev) (n : Nat) (v : Voice) : (d.putVoice n v).pipe = d.pipe := rfl
@[simp] theorem Dev.putVoice_track (d : Dev) (n : Nat) (v : Voice) : (d.putVoice n v).track = d.track := rfl
@[simp] theorem Dev.putVoice_choir (d : Dev) (n : Nat) (v : Voice) : (d.putVoice n v).choir = d.choir := rfl
@[simp] theorem Dev.putVoice_logQueue (d : Dev) (n : Nat) (v : Voice) : (d.putVoice n v).logQueue = d.logQueue := rfl
@[simp] theorem Dev.putVoice_logLost (d : Dev) (n : Nat) (v : Voice) : (d.putVoice n v).logLost = d.logLost := rfl
@[simp] theorem Dev.putVoice_calst (d : Dev) (n : Nat) (v : Voice) : (d.putVoice n v).calst = d.calst := rfl
@[simp] theorem Dev.putVoice_img (d : Dev) (n : Nat) (v : Voice) : (d.putVoice n v).img = d.img := rfl
@[simp] theorem Dev.putVoice_host (d : Dev) (n : Nat) (v : Voice) : (d.putVoice n v).host = d.host := rfl
@[simp] theorem Dev.putVoice_nvm (d : Dev) (n : Nat) (v : Voice) : (d.putVoice n v).nvm = d.nvm := rfl
@[simp] theorem Dev.putVoice_logs (d : Dev) (n : Nat) (v : Voice) : (d.putVoice n v).logs = d.logs := rfl
@[simp] theorem Dev.putVoice_free (d : Dev) (n : Nat) (v : Voice) : (d.putVoice n v).free = d.free := rfl

@[simp] theorem Dev.putRing_regs (d : Dev) (n : Nat) (r : Ring) : (d.putRing n r).regs = d.regs := rfl
@[simp] theorem Dev.putRing_fuses (d : Dev) (n : Nat) (r : Ring) : (d.putRing n r).fuses = d.fuses := rfl
@[simp] theorem Dev.putRing_snaps (d : Dev) (n : Nat) (r : Ring) : (d.putRing n r).snaps = d.snaps := rfl
@[simp] theorem Dev.putRing_time (d : Dev) (n : Nat) (r : Ring) : (d.putRing n r).time = d.time := rfl
@[simp] theorem Dev.putRing_voices (d : Dev) (n : Nat) (r : Ring) : (d.putRing n r).voices = d.voices := rfl
@[simp] theorem Dev.putRing_writer (d : Dev) (n : Nat) (r : Ring) : (d.putRing n r).writer = d.writer := rfl
@[simp] theorem Dev.putRing_tune (d : Dev) (n : Nat) (r : Ring) : (d.putRing n r).tune = d.tune := rfl
@[simp] theorem Dev.putRing_wms (d : Dev) (n : Nat) (r : Ring) : (d.putRing n r).wms = d.wms := rfl
@[simp] theorem Dev.putRing_excs (d : Dev) (n : Nat) (r : Ring) : (d.putRing n r).excs = d.excs := rfl
@[simp] theorem Dev.putRing_timers (d : Dev) (n : Nat) (r : Ring) : (d.putRing n r).timers = d.timers := rfl
@[simp] theorem Dev.putRing_fitV (d : Dev) (n : Nat) (r : Ring) : (d.putRing n r).fitV = d.fitV := rfl
@[simp] theorem Dev.putRing_fitP (d : Dev) (n : Nat) (r : Ring) : (d.putRing n r).fitP = d.fitP := rfl
@[simp] theorem Dev.putRing_allan (d : Dev) (n : Nat) (r : Ring) : (d.putRing n r).allan = d.allan := rfl
@[simp] theorem Dev.putRing_allanFrom (d : Dev) (n : Nat) (r : Ring) : (d.putRing n r).allanFrom = d.allanFrom := rfl
@[simp] theorem Dev.putRing_items (d : Dev) (n : Nat) (r : Ring) : (d.putRing n r).items = d.items := rfl
@[simp] theorem Dev.putRing_anas (d : Dev) (n : Nat) (r : Ring) : (d.putRing n r).anas = d.anas := rfl
@[simp] theorem Dev.putRing_anaItems (d : Dev) (n : Nat) (r : Ring) : (d.putRing n r).anaItems = d.anaItems := rfl
@[simp] theorem Dev.putRing_cap (d : Dev) (n : Nat) (r : Ring) : (d.putRing n r).cap = d.cap := rfl
@[simp] theorem Dev.putRing_faults (d : Dev) (n : Nat) (r : Ring) : (d.putRing n r).faults = d.faults := rfl
@[simp] theorem Dev.putRing_power (d : Dev) (n : Nat) (r : Ring) : (d.putRing n r).power = d.power := rfl
@[simp] theorem Dev.putRing_pins (d : Dev) (n : Nat) (r : Ring) : (d.putRing n r).pins = d.pins := rfl
@[simp] theorem Dev.putRing_sram (d : Dev) (n : Nat) (r : Ring) : (d.putRing n r).sram = d.sram := rfl
@[simp] theorem Dev.putRing_pipe (d : Dev) (n : Nat) (r : Ring) : (d.putRing n r).pipe = d.pipe := rfl
@[simp] theorem Dev.putRing_track (d : Dev) (n : Nat) (r : Ring) : (d.putRing n r).track = d.track := rfl
@[simp] theorem Dev.putRing_choir (d : Dev) (n : Nat) (r : Ring) : (d.putRing n r).choir = d.choir := rfl
@[simp] theorem Dev.putRing_logQueue (d : Dev) (n : Nat) (r : Ring) : (d.putRing n r).logQueue = d.logQueue := rfl
@[simp] theorem Dev.putRing_logLost (d : Dev) (n : Nat) (r : Ring) : (d.putRing n r).logLost = d.logLost := rfl
@[simp] theorem Dev.putRing_calst (d : Dev) (n : Nat) (r : Ring) : (d.putRing n r).calst = d.calst := rfl
@[simp] theorem Dev.putRing_img (d : Dev) (n : Nat) (r : Ring) : (d.putRing n r).img = d.img := rfl
@[simp] theorem Dev.putRing_host (d : Dev) (n : Nat) (r : Ring) : (d.putRing n r).host = d.host := rfl
@[simp] theorem Dev.putRing_nvm (d : Dev) (n : Nat) (r : Ring) : (d.putRing n r).nvm = d.nvm := rfl
@[simp] theorem Dev.putRing_logs (d : Dev) (n : Nat) (r : Ring) : (d.putRing n r).logs = d.logs := rfl
@[simp] theorem Dev.putRing_free (d : Dev) (n : Nat) (r : Ring) : (d.putRing n r).free = d.free := rfl
@[simp] theorem Dev.putRing_rd (d : Dev) (n : Nat) (r : Ring) (g : Fld) : (d.putRing n r).rd g = d.rd g := rfl
@[simp] theorem Dev.putRing_is (d : Dev) (n : Nat) (r : Ring) (g : Fld) : (d.putRing n r).is g = d.is g := rfl

@[simp] theorem Dev.putTun_regs (d : Dev) (c : Nat) (t : Tune) : (d.putTun c t).regs = d.regs := rfl
@[simp] theorem Dev.putTun_fuses (d : Dev) (c : Nat) (t : Tune) : (d.putTun c t).fuses = d.fuses := rfl
@[simp] theorem Dev.putTun_snaps (d : Dev) (c : Nat) (t : Tune) : (d.putTun c t).snaps = d.snaps := rfl
@[simp] theorem Dev.putTun_time (d : Dev) (c : Nat) (t : Tune) : (d.putTun c t).time = d.time := rfl
@[simp] theorem Dev.putTun_voices (d : Dev) (c : Nat) (t : Tune) : (d.putTun c t).voices = d.voices := rfl
@[simp] theorem Dev.putTun_rings (d : Dev) (c : Nat) (t : Tune) : (d.putTun c t).rings = d.rings := rfl
@[simp] theorem Dev.putTun_writer (d : Dev) (c : Nat) (t : Tune) : (d.putTun c t).writer = d.writer := rfl
@[simp] theorem Dev.putTun_wms (d : Dev) (c : Nat) (t : Tune) : (d.putTun c t).wms = d.wms := rfl
@[simp] theorem Dev.putTun_excs (d : Dev) (c : Nat) (t : Tune) : (d.putTun c t).excs = d.excs := rfl
@[simp] theorem Dev.putTun_timers (d : Dev) (c : Nat) (t : Tune) : (d.putTun c t).timers = d.timers := rfl
@[simp] theorem Dev.putTun_fitV (d : Dev) (c : Nat) (t : Tune) : (d.putTun c t).fitV = d.fitV := rfl
@[simp] theorem Dev.putTun_fitP (d : Dev) (c : Nat) (t : Tune) : (d.putTun c t).fitP = d.fitP := rfl
@[simp] theorem Dev.putTun_allan (d : Dev) (c : Nat) (t : Tune) : (d.putTun c t).allan = d.allan := rfl
@[simp] theorem Dev.putTun_allanFrom (d : Dev) (c : Nat) (t : Tune) : (d.putTun c t).allanFrom = d.allanFrom := rfl
@[simp] theorem Dev.putTun_items (d : Dev) (c : Nat) (t : Tune) : (d.putTun c t).items = d.items := rfl
@[simp] theorem Dev.putTun_anas (d : Dev) (c : Nat) (t : Tune) : (d.putTun c t).anas = d.anas := rfl
@[simp] theorem Dev.putTun_anaItems (d : Dev) (c : Nat) (t : Tune) : (d.putTun c t).anaItems = d.anaItems := rfl
@[simp] theorem Dev.putTun_cap (d : Dev) (c : Nat) (t : Tune) : (d.putTun c t).cap = d.cap := rfl
@[simp] theorem Dev.putTun_faults (d : Dev) (c : Nat) (t : Tune) : (d.putTun c t).faults = d.faults := rfl
@[simp] theorem Dev.putTun_power (d : Dev) (c : Nat) (t : Tune) : (d.putTun c t).power = d.power := rfl
@[simp] theorem Dev.putTun_pins (d : Dev) (c : Nat) (t : Tune) : (d.putTun c t).pins = d.pins := rfl
@[simp] theorem Dev.putTun_sram (d : Dev) (c : Nat) (t : Tune) : (d.putTun c t).sram = d.sram := rfl
@[simp] theorem Dev.putTun_pipe (d : Dev) (c : Nat) (t : Tune) : (d.putTun c t).pipe = d.pipe := rfl
@[simp] theorem Dev.putTun_track (d : Dev) (c : Nat) (t : Tune) : (d.putTun c t).track = d.track := rfl
@[simp] theorem Dev.putTun_choir (d : Dev) (c : Nat) (t : Tune) : (d.putTun c t).choir = d.choir := rfl
@[simp] theorem Dev.putTun_logQueue (d : Dev) (c : Nat) (t : Tune) : (d.putTun c t).logQueue = d.logQueue := rfl
@[simp] theorem Dev.putTun_logLost (d : Dev) (c : Nat) (t : Tune) : (d.putTun c t).logLost = d.logLost := rfl
@[simp] theorem Dev.putTun_calst (d : Dev) (c : Nat) (t : Tune) : (d.putTun c t).calst = d.calst := rfl
@[simp] theorem Dev.putTun_img (d : Dev) (c : Nat) (t : Tune) : (d.putTun c t).img = d.img := rfl
@[simp] theorem Dev.putTun_host (d : Dev) (c : Nat) (t : Tune) : (d.putTun c t).host = d.host := rfl
@[simp] theorem Dev.putTun_nvm (d : Dev) (c : Nat) (t : Tune) : (d.putTun c t).nvm = d.nvm := rfl
@[simp] theorem Dev.putTun_logs (d : Dev) (c : Nat) (t : Tune) : (d.putTun c t).logs = d.logs := rfl
@[simp] theorem Dev.putTun_free (d : Dev) (c : Nat) (t : Tune) : (d.putTun c t).free = d.free := rfl
@[simp] theorem Dev.putTun_rd (d : Dev) (c : Nat) (t : Tune) (g : Fld) : (d.putTun c t).rd g = d.rd g := rfl
@[simp] theorem Dev.putTun_is (d : Dev) (c : Nat) (t : Tune) (g : Fld) : (d.putTun c t).is g = d.is g := rfl

@[simp] theorem Dev.putWm_regs (d : Dev) (m : Nat) (w : Wm) : (d.putWm m w).regs = d.regs := rfl
@[simp] theorem Dev.putWm_fuses (d : Dev) (m : Nat) (w : Wm) : (d.putWm m w).fuses = d.fuses := rfl
@[simp] theorem Dev.putWm_snaps (d : Dev) (m : Nat) (w : Wm) : (d.putWm m w).snaps = d.snaps := rfl
@[simp] theorem Dev.putWm_time (d : Dev) (m : Nat) (w : Wm) : (d.putWm m w).time = d.time := rfl
@[simp] theorem Dev.putWm_voices (d : Dev) (m : Nat) (w : Wm) : (d.putWm m w).voices = d.voices := rfl
@[simp] theorem Dev.putWm_rings (d : Dev) (m : Nat) (w : Wm) : (d.putWm m w).rings = d.rings := rfl
@[simp] theorem Dev.putWm_writer (d : Dev) (m : Nat) (w : Wm) : (d.putWm m w).writer = d.writer := rfl
@[simp] theorem Dev.putWm_tune (d : Dev) (m : Nat) (w : Wm) : (d.putWm m w).tune = d.tune := rfl
@[simp] theorem Dev.putWm_excs (d : Dev) (m : Nat) (w : Wm) : (d.putWm m w).excs = d.excs := rfl
@[simp] theorem Dev.putWm_timers (d : Dev) (m : Nat) (w : Wm) : (d.putWm m w).timers = d.timers := rfl
@[simp] theorem Dev.putWm_fitV (d : Dev) (m : Nat) (w : Wm) : (d.putWm m w).fitV = d.fitV := rfl
@[simp] theorem Dev.putWm_fitP (d : Dev) (m : Nat) (w : Wm) : (d.putWm m w).fitP = d.fitP := rfl
@[simp] theorem Dev.putWm_allan (d : Dev) (m : Nat) (w : Wm) : (d.putWm m w).allan = d.allan := rfl
@[simp] theorem Dev.putWm_allanFrom (d : Dev) (m : Nat) (w : Wm) : (d.putWm m w).allanFrom = d.allanFrom := rfl
@[simp] theorem Dev.putWm_items (d : Dev) (m : Nat) (w : Wm) : (d.putWm m w).items = d.items := rfl
@[simp] theorem Dev.putWm_anas (d : Dev) (m : Nat) (w : Wm) : (d.putWm m w).anas = d.anas := rfl
@[simp] theorem Dev.putWm_anaItems (d : Dev) (m : Nat) (w : Wm) : (d.putWm m w).anaItems = d.anaItems := rfl
@[simp] theorem Dev.putWm_cap (d : Dev) (m : Nat) (w : Wm) : (d.putWm m w).cap = d.cap := rfl
@[simp] theorem Dev.putWm_faults (d : Dev) (m : Nat) (w : Wm) : (d.putWm m w).faults = d.faults := rfl
@[simp] theorem Dev.putWm_power (d : Dev) (m : Nat) (w : Wm) : (d.putWm m w).power = d.power := rfl
@[simp] theorem Dev.putWm_pins (d : Dev) (m : Nat) (w : Wm) : (d.putWm m w).pins = d.pins := rfl
@[simp] theorem Dev.putWm_sram (d : Dev) (m : Nat) (w : Wm) : (d.putWm m w).sram = d.sram := rfl
@[simp] theorem Dev.putWm_pipe (d : Dev) (m : Nat) (w : Wm) : (d.putWm m w).pipe = d.pipe := rfl
@[simp] theorem Dev.putWm_track (d : Dev) (m : Nat) (w : Wm) : (d.putWm m w).track = d.track := rfl
@[simp] theorem Dev.putWm_choir (d : Dev) (m : Nat) (w : Wm) : (d.putWm m w).choir = d.choir := rfl
@[simp] theorem Dev.putWm_logQueue (d : Dev) (m : Nat) (w : Wm) : (d.putWm m w).logQueue = d.logQueue := rfl
@[simp] theorem Dev.putWm_logLost (d : Dev) (m : Nat) (w : Wm) : (d.putWm m w).logLost = d.logLost := rfl
@[simp] theorem Dev.putWm_calst (d : Dev) (m : Nat) (w : Wm) : (d.putWm m w).calst = d.calst := rfl
@[simp] theorem Dev.putWm_img (d : Dev) (m : Nat) (w : Wm) : (d.putWm m w).img = d.img := rfl
@[simp] theorem Dev.putWm_host (d : Dev) (m : Nat) (w : Wm) : (d.putWm m w).host = d.host := rfl
@[simp] theorem Dev.putWm_nvm (d : Dev) (m : Nat) (w : Wm) : (d.putWm m w).nvm = d.nvm := rfl
@[simp] theorem Dev.putWm_logs (d : Dev) (m : Nat) (w : Wm) : (d.putWm m w).logs = d.logs := rfl
@[simp] theorem Dev.putWm_free (d : Dev) (m : Nat) (w : Wm) : (d.putWm m w).free = d.free := rfl
@[simp] theorem Dev.putWm_rd (d : Dev) (m : Nat) (w : Wm) (g : Fld) : (d.putWm m w).rd g = d.rd g := rfl
@[simp] theorem Dev.putWm_is (d : Dev) (m : Nat) (w : Wm) (g : Fld) : (d.putWm m w).is g = d.is g := rfl

@[simp] theorem Dev.putExc_regs (d : Dev) (x : Nat) (e : Exc) : (d.putExc x e).regs = d.regs := rfl
@[simp] theorem Dev.putExc_fuses (d : Dev) (x : Nat) (e : Exc) : (d.putExc x e).fuses = d.fuses := rfl
@[simp] theorem Dev.putExc_snaps (d : Dev) (x : Nat) (e : Exc) : (d.putExc x e).snaps = d.snaps := rfl
@[simp] theorem Dev.putExc_time (d : Dev) (x : Nat) (e : Exc) : (d.putExc x e).time = d.time := rfl
@[simp] theorem Dev.putExc_voices (d : Dev) (x : Nat) (e : Exc) : (d.putExc x e).voices = d.voices := rfl
@[simp] theorem Dev.putExc_rings (d : Dev) (x : Nat) (e : Exc) : (d.putExc x e).rings = d.rings := rfl
@[simp] theorem Dev.putExc_writer (d : Dev) (x : Nat) (e : Exc) : (d.putExc x e).writer = d.writer := rfl
@[simp] theorem Dev.putExc_tune (d : Dev) (x : Nat) (e : Exc) : (d.putExc x e).tune = d.tune := rfl
@[simp] theorem Dev.putExc_wms (d : Dev) (x : Nat) (e : Exc) : (d.putExc x e).wms = d.wms := rfl
@[simp] theorem Dev.putExc_timers (d : Dev) (x : Nat) (e : Exc) : (d.putExc x e).timers = d.timers := rfl
@[simp] theorem Dev.putExc_fitV (d : Dev) (x : Nat) (e : Exc) : (d.putExc x e).fitV = d.fitV := rfl
@[simp] theorem Dev.putExc_fitP (d : Dev) (x : Nat) (e : Exc) : (d.putExc x e).fitP = d.fitP := rfl
@[simp] theorem Dev.putExc_allan (d : Dev) (x : Nat) (e : Exc) : (d.putExc x e).allan = d.allan := rfl
@[simp] theorem Dev.putExc_allanFrom (d : Dev) (x : Nat) (e : Exc) : (d.putExc x e).allanFrom = d.allanFrom := rfl
@[simp] theorem Dev.putExc_items (d : Dev) (x : Nat) (e : Exc) : (d.putExc x e).items = d.items := rfl
@[simp] theorem Dev.putExc_anas (d : Dev) (x : Nat) (e : Exc) : (d.putExc x e).anas = d.anas := rfl
@[simp] theorem Dev.putExc_anaItems (d : Dev) (x : Nat) (e : Exc) : (d.putExc x e).anaItems = d.anaItems := rfl
@[simp] theorem Dev.putExc_cap (d : Dev) (x : Nat) (e : Exc) : (d.putExc x e).cap = d.cap := rfl
@[simp] theorem Dev.putExc_faults (d : Dev) (x : Nat) (e : Exc) : (d.putExc x e).faults = d.faults := rfl
@[simp] theorem Dev.putExc_power (d : Dev) (x : Nat) (e : Exc) : (d.putExc x e).power = d.power := rfl
@[simp] theorem Dev.putExc_pins (d : Dev) (x : Nat) (e : Exc) : (d.putExc x e).pins = d.pins := rfl
@[simp] theorem Dev.putExc_sram (d : Dev) (x : Nat) (e : Exc) : (d.putExc x e).sram = d.sram := rfl
@[simp] theorem Dev.putExc_pipe (d : Dev) (x : Nat) (e : Exc) : (d.putExc x e).pipe = d.pipe := rfl
@[simp] theorem Dev.putExc_track (d : Dev) (x : Nat) (e : Exc) : (d.putExc x e).track = d.track := rfl
@[simp] theorem Dev.putExc_choir (d : Dev) (x : Nat) (e : Exc) : (d.putExc x e).choir = d.choir := rfl
@[simp] theorem Dev.putExc_logQueue (d : Dev) (x : Nat) (e : Exc) : (d.putExc x e).logQueue = d.logQueue := rfl
@[simp] theorem Dev.putExc_logLost (d : Dev) (x : Nat) (e : Exc) : (d.putExc x e).logLost = d.logLost := rfl
@[simp] theorem Dev.putExc_calst (d : Dev) (x : Nat) (e : Exc) : (d.putExc x e).calst = d.calst := rfl
@[simp] theorem Dev.putExc_img (d : Dev) (x : Nat) (e : Exc) : (d.putExc x e).img = d.img := rfl
@[simp] theorem Dev.putExc_host (d : Dev) (x : Nat) (e : Exc) : (d.putExc x e).host = d.host := rfl
@[simp] theorem Dev.putExc_nvm (d : Dev) (x : Nat) (e : Exc) : (d.putExc x e).nvm = d.nvm := rfl
@[simp] theorem Dev.putExc_logs (d : Dev) (x : Nat) (e : Exc) : (d.putExc x e).logs = d.logs := rfl
@[simp] theorem Dev.putExc_free (d : Dev) (x : Nat) (e : Exc) : (d.putExc x e).free = d.free := rfl
@[simp] theorem Dev.putExc_rd (d : Dev) (x : Nat) (e : Exc) (g : Fld) : (d.putExc x e).rd g = d.rd g := rfl
@[simp] theorem Dev.putExc_is (d : Dev) (x : Nat) (e : Exc) (g : Fld) : (d.putExc x e).is g = d.is g := rfl

@[simp] theorem Dev.putTimer_regs (d : Dev) (t : Nat) (x : Timer) : (d.putTimer t x).regs = d.regs := rfl
@[simp] theorem Dev.putTimer_fuses (d : Dev) (t : Nat) (x : Timer) : (d.putTimer t x).fuses = d.fuses := rfl
@[simp] theorem Dev.putTimer_snaps (d : Dev) (t : Nat) (x : Timer) : (d.putTimer t x).snaps = d.snaps := rfl
@[simp] theorem Dev.putTimer_time (d : Dev) (t : Nat) (x : Timer) : (d.putTimer t x).time = d.time := rfl
@[simp] theorem Dev.putTimer_voices (d : Dev) (t : Nat) (x : Timer) : (d.putTimer t x).voices = d.voices := rfl
@[simp] theorem Dev.putTimer_rings (d : Dev) (t : Nat) (x : Timer) : (d.putTimer t x).rings = d.rings := rfl
@[simp] theorem Dev.putTimer_writer (d : Dev) (t : Nat) (x : Timer) : (d.putTimer t x).writer = d.writer := rfl
@[simp] theorem Dev.putTimer_tune (d : Dev) (t : Nat) (x : Timer) : (d.putTimer t x).tune = d.tune := rfl
@[simp] theorem Dev.putTimer_wms (d : Dev) (t : Nat) (x : Timer) : (d.putTimer t x).wms = d.wms := rfl
@[simp] theorem Dev.putTimer_excs (d : Dev) (t : Nat) (x : Timer) : (d.putTimer t x).excs = d.excs := rfl
@[simp] theorem Dev.putTimer_fitV (d : Dev) (t : Nat) (x : Timer) : (d.putTimer t x).fitV = d.fitV := rfl
@[simp] theorem Dev.putTimer_fitP (d : Dev) (t : Nat) (x : Timer) : (d.putTimer t x).fitP = d.fitP := rfl
@[simp] theorem Dev.putTimer_allan (d : Dev) (t : Nat) (x : Timer) : (d.putTimer t x).allan = d.allan := rfl
@[simp] theorem Dev.putTimer_allanFrom (d : Dev) (t : Nat) (x : Timer) : (d.putTimer t x).allanFrom = d.allanFrom := rfl
@[simp] theorem Dev.putTimer_items (d : Dev) (t : Nat) (x : Timer) : (d.putTimer t x).items = d.items := rfl
@[simp] theorem Dev.putTimer_anas (d : Dev) (t : Nat) (x : Timer) : (d.putTimer t x).anas = d.anas := rfl
@[simp] theorem Dev.putTimer_anaItems (d : Dev) (t : Nat) (x : Timer) : (d.putTimer t x).anaItems = d.anaItems := rfl
@[simp] theorem Dev.putTimer_cap (d : Dev) (t : Nat) (x : Timer) : (d.putTimer t x).cap = d.cap := rfl
@[simp] theorem Dev.putTimer_faults (d : Dev) (t : Nat) (x : Timer) : (d.putTimer t x).faults = d.faults := rfl
@[simp] theorem Dev.putTimer_power (d : Dev) (t : Nat) (x : Timer) : (d.putTimer t x).power = d.power := rfl
@[simp] theorem Dev.putTimer_pins (d : Dev) (t : Nat) (x : Timer) : (d.putTimer t x).pins = d.pins := rfl
@[simp] theorem Dev.putTimer_sram (d : Dev) (t : Nat) (x : Timer) : (d.putTimer t x).sram = d.sram := rfl
@[simp] theorem Dev.putTimer_pipe (d : Dev) (t : Nat) (x : Timer) : (d.putTimer t x).pipe = d.pipe := rfl
@[simp] theorem Dev.putTimer_track (d : Dev) (t : Nat) (x : Timer) : (d.putTimer t x).track = d.track := rfl
@[simp] theorem Dev.putTimer_choir (d : Dev) (t : Nat) (x : Timer) : (d.putTimer t x).choir = d.choir := rfl
@[simp] theorem Dev.putTimer_logQueue (d : Dev) (t : Nat) (x : Timer) : (d.putTimer t x).logQueue = d.logQueue := rfl
@[simp] theorem Dev.putTimer_logLost (d : Dev) (t : Nat) (x : Timer) : (d.putTimer t x).logLost = d.logLost := rfl
@[simp] theorem Dev.putTimer_calst (d : Dev) (t : Nat) (x : Timer) : (d.putTimer t x).calst = d.calst := rfl
@[simp] theorem Dev.putTimer_img (d : Dev) (t : Nat) (x : Timer) : (d.putTimer t x).img = d.img := rfl
@[simp] theorem Dev.putTimer_host (d : Dev) (t : Nat) (x : Timer) : (d.putTimer t x).host = d.host := rfl
@[simp] theorem Dev.putTimer_nvm (d : Dev) (t : Nat) (x : Timer) : (d.putTimer t x).nvm = d.nvm := rfl
@[simp] theorem Dev.putTimer_logs (d : Dev) (t : Nat) (x : Timer) : (d.putTimer t x).logs = d.logs := rfl
@[simp] theorem Dev.putTimer_free (d : Dev) (t : Nat) (x : Timer) : (d.putTimer t x).free = d.free := rfl
@[simp] theorem Dev.putTimer_rd (d : Dev) (t : Nat) (x : Timer) (g : Fld) : (d.putTimer t x).rd g = d.rd g := rfl
@[simp] theorem Dev.putTimer_is (d : Dev) (t : Nat) (x : Timer) (g : Fld) : (d.putTimer t x).is g = d.is g := rfl

@[simp] theorem Dev.putAna_regs (d : Dev) (a : Nat) (x : Ana) : (d.putAna a x).regs = d.regs := rfl
@[simp] theorem Dev.putAna_fuses (d : Dev) (a : Nat) (x : Ana) : (d.putAna a x).fuses = d.fuses := rfl
@[simp] theorem Dev.putAna_snaps (d : Dev) (a : Nat) (x : Ana) : (d.putAna a x).snaps = d.snaps := rfl
@[simp] theorem Dev.putAna_time (d : Dev) (a : Nat) (x : Ana) : (d.putAna a x).time = d.time := rfl
@[simp] theorem Dev.putAna_voices (d : Dev) (a : Nat) (x : Ana) : (d.putAna a x).voices = d.voices := rfl
@[simp] theorem Dev.putAna_rings (d : Dev) (a : Nat) (x : Ana) : (d.putAna a x).rings = d.rings := rfl
@[simp] theorem Dev.putAna_writer (d : Dev) (a : Nat) (x : Ana) : (d.putAna a x).writer = d.writer := rfl
@[simp] theorem Dev.putAna_tune (d : Dev) (a : Nat) (x : Ana) : (d.putAna a x).tune = d.tune := rfl
@[simp] theorem Dev.putAna_wms (d : Dev) (a : Nat) (x : Ana) : (d.putAna a x).wms = d.wms := rfl
@[simp] theorem Dev.putAna_excs (d : Dev) (a : Nat) (x : Ana) : (d.putAna a x).excs = d.excs := rfl
@[simp] theorem Dev.putAna_timers (d : Dev) (a : Nat) (x : Ana) : (d.putAna a x).timers = d.timers := rfl
@[simp] theorem Dev.putAna_fitV (d : Dev) (a : Nat) (x : Ana) : (d.putAna a x).fitV = d.fitV := rfl
@[simp] theorem Dev.putAna_fitP (d : Dev) (a : Nat) (x : Ana) : (d.putAna a x).fitP = d.fitP := rfl
@[simp] theorem Dev.putAna_allan (d : Dev) (a : Nat) (x : Ana) : (d.putAna a x).allan = d.allan := rfl
@[simp] theorem Dev.putAna_allanFrom (d : Dev) (a : Nat) (x : Ana) : (d.putAna a x).allanFrom = d.allanFrom := rfl
@[simp] theorem Dev.putAna_items (d : Dev) (a : Nat) (x : Ana) : (d.putAna a x).items = d.items := rfl
@[simp] theorem Dev.putAna_anaItems (d : Dev) (a : Nat) (x : Ana) : (d.putAna a x).anaItems = d.anaItems := rfl
@[simp] theorem Dev.putAna_cap (d : Dev) (a : Nat) (x : Ana) : (d.putAna a x).cap = d.cap := rfl
@[simp] theorem Dev.putAna_faults (d : Dev) (a : Nat) (x : Ana) : (d.putAna a x).faults = d.faults := rfl
@[simp] theorem Dev.putAna_power (d : Dev) (a : Nat) (x : Ana) : (d.putAna a x).power = d.power := rfl
@[simp] theorem Dev.putAna_pins (d : Dev) (a : Nat) (x : Ana) : (d.putAna a x).pins = d.pins := rfl
@[simp] theorem Dev.putAna_sram (d : Dev) (a : Nat) (x : Ana) : (d.putAna a x).sram = d.sram := rfl
@[simp] theorem Dev.putAna_pipe (d : Dev) (a : Nat) (x : Ana) : (d.putAna a x).pipe = d.pipe := rfl
@[simp] theorem Dev.putAna_track (d : Dev) (a : Nat) (x : Ana) : (d.putAna a x).track = d.track := rfl
@[simp] theorem Dev.putAna_choir (d : Dev) (a : Nat) (x : Ana) : (d.putAna a x).choir = d.choir := rfl
@[simp] theorem Dev.putAna_logQueue (d : Dev) (a : Nat) (x : Ana) : (d.putAna a x).logQueue = d.logQueue := rfl
@[simp] theorem Dev.putAna_logLost (d : Dev) (a : Nat) (x : Ana) : (d.putAna a x).logLost = d.logLost := rfl
@[simp] theorem Dev.putAna_calst (d : Dev) (a : Nat) (x : Ana) : (d.putAna a x).calst = d.calst := rfl
@[simp] theorem Dev.putAna_img (d : Dev) (a : Nat) (x : Ana) : (d.putAna a x).img = d.img := rfl
@[simp] theorem Dev.putAna_host (d : Dev) (a : Nat) (x : Ana) : (d.putAna a x).host = d.host := rfl
@[simp] theorem Dev.putAna_nvm (d : Dev) (a : Nat) (x : Ana) : (d.putAna a x).nvm = d.nvm := rfl
@[simp] theorem Dev.putAna_logs (d : Dev) (a : Nat) (x : Ana) : (d.putAna a x).logs = d.logs := rfl
@[simp] theorem Dev.putAna_free (d : Dev) (a : Nat) (x : Ana) : (d.putAna a x).free = d.free := rfl
@[simp] theorem Dev.putAna_rd (d : Dev) (a : Nat) (x : Ana) (g : Fld) : (d.putAna a x).rd g = d.rd g := rfl
@[simp] theorem Dev.putAna_is (d : Dev) (a : Nat) (x : Ana) (g : Fld) : (d.putAna a x).is g = d.is g := rfl

@[simp] theorem Dev.putCap_regs (d : Dev) (c : Cap) : (d.putCap c).regs = d.regs := rfl
@[simp] theorem Dev.putCap_fuses (d : Dev) (c : Cap) : (d.putCap c).fuses = d.fuses := rfl
@[simp] theorem Dev.putCap_snaps (d : Dev) (c : Cap) : (d.putCap c).snaps = d.snaps := rfl
@[simp] theorem Dev.putCap_time (d : Dev) (c : Cap) : (d.putCap c).time = d.time := rfl
@[simp] theorem Dev.putCap_voices (d : Dev) (c : Cap) : (d.putCap c).voices = d.voices := rfl
@[simp] theorem Dev.putCap_rings (d : Dev) (c : Cap) : (d.putCap c).rings = d.rings := rfl
@[simp] theorem Dev.putCap_writer (d : Dev) (c : Cap) : (d.putCap c).writer = d.writer := rfl
@[simp] theorem Dev.putCap_tune (d : Dev) (c : Cap) : (d.putCap c).tune = d.tune := rfl
@[simp] theorem Dev.putCap_wms (d : Dev) (c : Cap) : (d.putCap c).wms = d.wms := rfl
@[simp] theorem Dev.putCap_excs (d : Dev) (c : Cap) : (d.putCap c).excs = d.excs := rfl
@[simp] theorem Dev.putCap_timers (d : Dev) (c : Cap) : (d.putCap c).timers = d.timers := rfl
@[simp] theorem Dev.putCap_fitV (d : Dev) (c : Cap) : (d.putCap c).fitV = d.fitV := rfl
@[simp] theorem Dev.putCap_fitP (d : Dev) (c : Cap) : (d.putCap c).fitP = d.fitP := rfl
@[simp] theorem Dev.putCap_allan (d : Dev) (c : Cap) : (d.putCap c).allan = d.allan := rfl
@[simp] theorem Dev.putCap_allanFrom (d : Dev) (c : Cap) : (d.putCap c).allanFrom = d.allanFrom := rfl
@[simp] theorem Dev.putCap_items (d : Dev) (c : Cap) : (d.putCap c).items = d.items := rfl
@[simp] theorem Dev.putCap_anas (d : Dev) (c : Cap) : (d.putCap c).anas = d.anas := rfl
@[simp] theorem Dev.putCap_anaItems (d : Dev) (c : Cap) : (d.putCap c).anaItems = d.anaItems := rfl
@[simp] theorem Dev.putCap_faults (d : Dev) (c : Cap) : (d.putCap c).faults = d.faults := rfl
@[simp] theorem Dev.putCap_power (d : Dev) (c : Cap) : (d.putCap c).power = d.power := rfl
@[simp] theorem Dev.putCap_pins (d : Dev) (c : Cap) : (d.putCap c).pins = d.pins := rfl
@[simp] theorem Dev.putCap_sram (d : Dev) (c : Cap) : (d.putCap c).sram = d.sram := rfl
@[simp] theorem Dev.putCap_pipe (d : Dev) (c : Cap) : (d.putCap c).pipe = d.pipe := rfl
@[simp] theorem Dev.putCap_track (d : Dev) (c : Cap) : (d.putCap c).track = d.track := rfl
@[simp] theorem Dev.putCap_choir (d : Dev) (c : Cap) : (d.putCap c).choir = d.choir := rfl
@[simp] theorem Dev.putCap_logQueue (d : Dev) (c : Cap) : (d.putCap c).logQueue = d.logQueue := rfl
@[simp] theorem Dev.putCap_logLost (d : Dev) (c : Cap) : (d.putCap c).logLost = d.logLost := rfl
@[simp] theorem Dev.putCap_calst (d : Dev) (c : Cap) : (d.putCap c).calst = d.calst := rfl
@[simp] theorem Dev.putCap_img (d : Dev) (c : Cap) : (d.putCap c).img = d.img := rfl
@[simp] theorem Dev.putCap_host (d : Dev) (c : Cap) : (d.putCap c).host = d.host := rfl
@[simp] theorem Dev.putCap_nvm (d : Dev) (c : Cap) : (d.putCap c).nvm = d.nvm := rfl
@[simp] theorem Dev.putCap_logs (d : Dev) (c : Cap) : (d.putCap c).logs = d.logs := rfl
@[simp] theorem Dev.putCap_free (d : Dev) (c : Cap) : (d.putCap c).free = d.free := rfl
@[simp] theorem Dev.putCap_rd (d : Dev) (c : Cap) (g : Fld) : (d.putCap c).rd g = d.rd g := rfl
@[simp] theorem Dev.putCap_is (d : Dev) (c : Cap) (g : Fld) : (d.putCap c).is g = d.is g := rfl

@[simp] theorem Dev.putFitVoice_regs (d : Dev) (n : Nat) (v : FitVoice) : (d.putFitVoice n v).regs = d.regs := rfl
@[simp] theorem Dev.putFitVoice_fuses (d : Dev) (n : Nat) (v : FitVoice) : (d.putFitVoice n v).fuses = d.fuses := rfl
@[simp] theorem Dev.putFitVoice_snaps (d : Dev) (n : Nat) (v : FitVoice) : (d.putFitVoice n v).snaps = d.snaps := rfl
@[simp] theorem Dev.putFitVoice_time (d : Dev) (n : Nat) (v : FitVoice) : (d.putFitVoice n v).time = d.time := rfl
@[simp] theorem Dev.putFitVoice_voices (d : Dev) (n : Nat) (v : FitVoice) : (d.putFitVoice n v).voices = d.voices := rfl
@[simp] theorem Dev.putFitVoice_rings (d : Dev) (n : Nat) (v : FitVoice) : (d.putFitVoice n v).rings = d.rings := rfl
@[simp] theorem Dev.putFitVoice_writer (d : Dev) (n : Nat) (v : FitVoice) : (d.putFitVoice n v).writer = d.writer := rfl
@[simp] theorem Dev.putFitVoice_tune (d : Dev) (n : Nat) (v : FitVoice) : (d.putFitVoice n v).tune = d.tune := rfl
@[simp] theorem Dev.putFitVoice_wms (d : Dev) (n : Nat) (v : FitVoice) : (d.putFitVoice n v).wms = d.wms := rfl
@[simp] theorem Dev.putFitVoice_excs (d : Dev) (n : Nat) (v : FitVoice) : (d.putFitVoice n v).excs = d.excs := rfl
@[simp] theorem Dev.putFitVoice_timers (d : Dev) (n : Nat) (v : FitVoice) : (d.putFitVoice n v).timers = d.timers := rfl
@[simp] theorem Dev.putFitVoice_fitP (d : Dev) (n : Nat) (v : FitVoice) : (d.putFitVoice n v).fitP = d.fitP := rfl
@[simp] theorem Dev.putFitVoice_allan (d : Dev) (n : Nat) (v : FitVoice) : (d.putFitVoice n v).allan = d.allan := rfl
@[simp] theorem Dev.putFitVoice_allanFrom (d : Dev) (n : Nat) (v : FitVoice) : (d.putFitVoice n v).allanFrom = d.allanFrom := rfl
@[simp] theorem Dev.putFitVoice_items (d : Dev) (n : Nat) (v : FitVoice) : (d.putFitVoice n v).items = d.items := rfl
@[simp] theorem Dev.putFitVoice_anas (d : Dev) (n : Nat) (v : FitVoice) : (d.putFitVoice n v).anas = d.anas := rfl
@[simp] theorem Dev.putFitVoice_anaItems (d : Dev) (n : Nat) (v : FitVoice) : (d.putFitVoice n v).anaItems = d.anaItems := rfl
@[simp] theorem Dev.putFitVoice_cap (d : Dev) (n : Nat) (v : FitVoice) : (d.putFitVoice n v).cap = d.cap := rfl
@[simp] theorem Dev.putFitVoice_faults (d : Dev) (n : Nat) (v : FitVoice) : (d.putFitVoice n v).faults = d.faults := rfl
@[simp] theorem Dev.putFitVoice_power (d : Dev) (n : Nat) (v : FitVoice) : (d.putFitVoice n v).power = d.power := rfl
@[simp] theorem Dev.putFitVoice_pins (d : Dev) (n : Nat) (v : FitVoice) : (d.putFitVoice n v).pins = d.pins := rfl
@[simp] theorem Dev.putFitVoice_sram (d : Dev) (n : Nat) (v : FitVoice) : (d.putFitVoice n v).sram = d.sram := rfl
@[simp] theorem Dev.putFitVoice_pipe (d : Dev) (n : Nat) (v : FitVoice) : (d.putFitVoice n v).pipe = d.pipe := rfl
@[simp] theorem Dev.putFitVoice_track (d : Dev) (n : Nat) (v : FitVoice) : (d.putFitVoice n v).track = d.track := rfl
@[simp] theorem Dev.putFitVoice_choir (d : Dev) (n : Nat) (v : FitVoice) : (d.putFitVoice n v).choir = d.choir := rfl
@[simp] theorem Dev.putFitVoice_logQueue (d : Dev) (n : Nat) (v : FitVoice) : (d.putFitVoice n v).logQueue = d.logQueue := rfl
@[simp] theorem Dev.putFitVoice_logLost (d : Dev) (n : Nat) (v : FitVoice) : (d.putFitVoice n v).logLost = d.logLost := rfl
@[simp] theorem Dev.putFitVoice_calst (d : Dev) (n : Nat) (v : FitVoice) : (d.putFitVoice n v).calst = d.calst := rfl
@[simp] theorem Dev.putFitVoice_img (d : Dev) (n : Nat) (v : FitVoice) : (d.putFitVoice n v).img = d.img := rfl
@[simp] theorem Dev.putFitVoice_host (d : Dev) (n : Nat) (v : FitVoice) : (d.putFitVoice n v).host = d.host := rfl
@[simp] theorem Dev.putFitVoice_nvm (d : Dev) (n : Nat) (v : FitVoice) : (d.putFitVoice n v).nvm = d.nvm := rfl
@[simp] theorem Dev.putFitVoice_logs (d : Dev) (n : Nat) (v : FitVoice) : (d.putFitVoice n v).logs = d.logs := rfl
@[simp] theorem Dev.putFitVoice_free (d : Dev) (n : Nat) (v : FitVoice) : (d.putFitVoice n v).free = d.free := rfl
@[simp] theorem Dev.putFitVoice_rd (d : Dev) (n : Nat) (v : FitVoice) (g : Fld) : (d.putFitVoice n v).rd g = d.rd g := rfl
@[simp] theorem Dev.putFitVoice_is (d : Dev) (n : Nat) (v : FitVoice) (g : Fld) : (d.putFitVoice n v).is g = d.is g := rfl

@[simp] theorem Dev.putFitPair_regs (d : Dev) (p : Nat) (v : FitPair) : (d.putFitPair p v).regs = d.regs := rfl
@[simp] theorem Dev.putFitPair_fuses (d : Dev) (p : Nat) (v : FitPair) : (d.putFitPair p v).fuses = d.fuses := rfl
@[simp] theorem Dev.putFitPair_snaps (d : Dev) (p : Nat) (v : FitPair) : (d.putFitPair p v).snaps = d.snaps := rfl
@[simp] theorem Dev.putFitPair_time (d : Dev) (p : Nat) (v : FitPair) : (d.putFitPair p v).time = d.time := rfl
@[simp] theorem Dev.putFitPair_voices (d : Dev) (p : Nat) (v : FitPair) : (d.putFitPair p v).voices = d.voices := rfl
@[simp] theorem Dev.putFitPair_rings (d : Dev) (p : Nat) (v : FitPair) : (d.putFitPair p v).rings = d.rings := rfl
@[simp] theorem Dev.putFitPair_writer (d : Dev) (p : Nat) (v : FitPair) : (d.putFitPair p v).writer = d.writer := rfl
@[simp] theorem Dev.putFitPair_tune (d : Dev) (p : Nat) (v : FitPair) : (d.putFitPair p v).tune = d.tune := rfl
@[simp] theorem Dev.putFitPair_wms (d : Dev) (p : Nat) (v : FitPair) : (d.putFitPair p v).wms = d.wms := rfl
@[simp] theorem Dev.putFitPair_excs (d : Dev) (p : Nat) (v : FitPair) : (d.putFitPair p v).excs = d.excs := rfl
@[simp] theorem Dev.putFitPair_timers (d : Dev) (p : Nat) (v : FitPair) : (d.putFitPair p v).timers = d.timers := rfl
@[simp] theorem Dev.putFitPair_fitV (d : Dev) (p : Nat) (v : FitPair) : (d.putFitPair p v).fitV = d.fitV := rfl
@[simp] theorem Dev.putFitPair_allan (d : Dev) (p : Nat) (v : FitPair) : (d.putFitPair p v).allan = d.allan := rfl
@[simp] theorem Dev.putFitPair_allanFrom (d : Dev) (p : Nat) (v : FitPair) : (d.putFitPair p v).allanFrom = d.allanFrom := rfl
@[simp] theorem Dev.putFitPair_items (d : Dev) (p : Nat) (v : FitPair) : (d.putFitPair p v).items = d.items := rfl
@[simp] theorem Dev.putFitPair_anas (d : Dev) (p : Nat) (v : FitPair) : (d.putFitPair p v).anas = d.anas := rfl
@[simp] theorem Dev.putFitPair_anaItems (d : Dev) (p : Nat) (v : FitPair) : (d.putFitPair p v).anaItems = d.anaItems := rfl
@[simp] theorem Dev.putFitPair_cap (d : Dev) (p : Nat) (v : FitPair) : (d.putFitPair p v).cap = d.cap := rfl
@[simp] theorem Dev.putFitPair_faults (d : Dev) (p : Nat) (v : FitPair) : (d.putFitPair p v).faults = d.faults := rfl
@[simp] theorem Dev.putFitPair_power (d : Dev) (p : Nat) (v : FitPair) : (d.putFitPair p v).power = d.power := rfl
@[simp] theorem Dev.putFitPair_pins (d : Dev) (p : Nat) (v : FitPair) : (d.putFitPair p v).pins = d.pins := rfl
@[simp] theorem Dev.putFitPair_sram (d : Dev) (p : Nat) (v : FitPair) : (d.putFitPair p v).sram = d.sram := rfl
@[simp] theorem Dev.putFitPair_pipe (d : Dev) (p : Nat) (v : FitPair) : (d.putFitPair p v).pipe = d.pipe := rfl
@[simp] theorem Dev.putFitPair_track (d : Dev) (p : Nat) (v : FitPair) : (d.putFitPair p v).track = d.track := rfl
@[simp] theorem Dev.putFitPair_choir (d : Dev) (p : Nat) (v : FitPair) : (d.putFitPair p v).choir = d.choir := rfl
@[simp] theorem Dev.putFitPair_logQueue (d : Dev) (p : Nat) (v : FitPair) : (d.putFitPair p v).logQueue = d.logQueue := rfl
@[simp] theorem Dev.putFitPair_logLost (d : Dev) (p : Nat) (v : FitPair) : (d.putFitPair p v).logLost = d.logLost := rfl
@[simp] theorem Dev.putFitPair_calst (d : Dev) (p : Nat) (v : FitPair) : (d.putFitPair p v).calst = d.calst := rfl
@[simp] theorem Dev.putFitPair_img (d : Dev) (p : Nat) (v : FitPair) : (d.putFitPair p v).img = d.img := rfl
@[simp] theorem Dev.putFitPair_host (d : Dev) (p : Nat) (v : FitPair) : (d.putFitPair p v).host = d.host := rfl
@[simp] theorem Dev.putFitPair_nvm (d : Dev) (p : Nat) (v : FitPair) : (d.putFitPair p v).nvm = d.nvm := rfl
@[simp] theorem Dev.putFitPair_logs (d : Dev) (p : Nat) (v : FitPair) : (d.putFitPair p v).logs = d.logs := rfl
@[simp] theorem Dev.putFitPair_free (d : Dev) (p : Nat) (v : FitPair) : (d.putFitPair p v).free = d.free := rfl
@[simp] theorem Dev.putFitPair_rd (d : Dev) (p : Nat) (v : FitPair) (g : Fld) : (d.putFitPair p v).rd g = d.rd g := rfl
@[simp] theorem Dev.putFitPair_is (d : Dev) (p : Nat) (v : FitPair) (g : Fld) : (d.putFitPair p v).is g = d.is g := rfl

@[simp] theorem Dev.putItems_fuses (d : Dev) (l : List Item) : (d.putItems l).fuses = d.fuses := rfl
@[simp] theorem Dev.putItems_snaps (d : Dev) (l : List Item) : (d.putItems l).snaps = d.snaps := rfl
@[simp] theorem Dev.putItems_time (d : Dev) (l : List Item) : (d.putItems l).time = d.time := rfl
@[simp] theorem Dev.putItems_voices (d : Dev) (l : List Item) : (d.putItems l).voices = d.voices := rfl
@[simp] theorem Dev.putItems_rings (d : Dev) (l : List Item) : (d.putItems l).rings = d.rings := rfl
@[simp] theorem Dev.putItems_writer (d : Dev) (l : List Item) : (d.putItems l).writer = d.writer := rfl
@[simp] theorem Dev.putItems_tune (d : Dev) (l : List Item) : (d.putItems l).tune = d.tune := rfl
@[simp] theorem Dev.putItems_wms (d : Dev) (l : List Item) : (d.putItems l).wms = d.wms := rfl
@[simp] theorem Dev.putItems_excs (d : Dev) (l : List Item) : (d.putItems l).excs = d.excs := rfl
@[simp] theorem Dev.putItems_timers (d : Dev) (l : List Item) : (d.putItems l).timers = d.timers := rfl
@[simp] theorem Dev.putItems_fitV (d : Dev) (l : List Item) : (d.putItems l).fitV = d.fitV := rfl
@[simp] theorem Dev.putItems_fitP (d : Dev) (l : List Item) : (d.putItems l).fitP = d.fitP := rfl
@[simp] theorem Dev.putItems_allan (d : Dev) (l : List Item) : (d.putItems l).allan = d.allan := rfl
@[simp] theorem Dev.putItems_allanFrom (d : Dev) (l : List Item) : (d.putItems l).allanFrom = d.allanFrom := rfl
@[simp] theorem Dev.putItems_anas (d : Dev) (l : List Item) : (d.putItems l).anas = d.anas := rfl
@[simp] theorem Dev.putItems_anaItems (d : Dev) (l : List Item) : (d.putItems l).anaItems = d.anaItems := rfl
@[simp] theorem Dev.putItems_cap (d : Dev) (l : List Item) : (d.putItems l).cap = d.cap := rfl
@[simp] theorem Dev.putItems_faults (d : Dev) (l : List Item) : (d.putItems l).faults = d.faults := rfl
@[simp] theorem Dev.putItems_power (d : Dev) (l : List Item) : (d.putItems l).power = d.power := rfl
@[simp] theorem Dev.putItems_pins (d : Dev) (l : List Item) : (d.putItems l).pins = d.pins := rfl
@[simp] theorem Dev.putItems_sram (d : Dev) (l : List Item) : (d.putItems l).sram = d.sram := rfl
@[simp] theorem Dev.putItems_pipe (d : Dev) (l : List Item) : (d.putItems l).pipe = d.pipe := rfl
@[simp] theorem Dev.putItems_track (d : Dev) (l : List Item) : (d.putItems l).track = d.track := rfl
@[simp] theorem Dev.putItems_choir (d : Dev) (l : List Item) : (d.putItems l).choir = d.choir := rfl
@[simp] theorem Dev.putItems_logQueue (d : Dev) (l : List Item) : (d.putItems l).logQueue = d.logQueue := rfl
@[simp] theorem Dev.putItems_logLost (d : Dev) (l : List Item) : (d.putItems l).logLost = d.logLost := rfl
@[simp] theorem Dev.putItems_calst (d : Dev) (l : List Item) : (d.putItems l).calst = d.calst := rfl
@[simp] theorem Dev.putItems_img (d : Dev) (l : List Item) : (d.putItems l).img = d.img := rfl
@[simp] theorem Dev.putItems_host (d : Dev) (l : List Item) : (d.putItems l).host = d.host := rfl
@[simp] theorem Dev.putItems_nvm (d : Dev) (l : List Item) : (d.putItems l).nvm = d.nvm := rfl
@[simp] theorem Dev.putItems_logs (d : Dev) (l : List Item) : (d.putItems l).logs = d.logs := rfl
@[simp] theorem Dev.putItems_free (d : Dev) (l : List Item) : (d.putItems l).free = d.free := rfl

@[simp] theorem Dev.putLog_fuses (d : Dev) (q : List LogRec) : (d.putLog q).fuses = d.fuses := rfl
@[simp] theorem Dev.putLog_snaps (d : Dev) (q : List LogRec) : (d.putLog q).snaps = d.snaps := rfl
@[simp] theorem Dev.putLog_time (d : Dev) (q : List LogRec) : (d.putLog q).time = d.time := rfl
@[simp] theorem Dev.putLog_voices (d : Dev) (q : List LogRec) : (d.putLog q).voices = d.voices := rfl
@[simp] theorem Dev.putLog_rings (d : Dev) (q : List LogRec) : (d.putLog q).rings = d.rings := rfl
@[simp] theorem Dev.putLog_writer (d : Dev) (q : List LogRec) : (d.putLog q).writer = d.writer := rfl
@[simp] theorem Dev.putLog_tune (d : Dev) (q : List LogRec) : (d.putLog q).tune = d.tune := rfl
@[simp] theorem Dev.putLog_wms (d : Dev) (q : List LogRec) : (d.putLog q).wms = d.wms := rfl
@[simp] theorem Dev.putLog_excs (d : Dev) (q : List LogRec) : (d.putLog q).excs = d.excs := rfl
@[simp] theorem Dev.putLog_timers (d : Dev) (q : List LogRec) : (d.putLog q).timers = d.timers := rfl
@[simp] theorem Dev.putLog_fitV (d : Dev) (q : List LogRec) : (d.putLog q).fitV = d.fitV := rfl
@[simp] theorem Dev.putLog_fitP (d : Dev) (q : List LogRec) : (d.putLog q).fitP = d.fitP := rfl
@[simp] theorem Dev.putLog_allan (d : Dev) (q : List LogRec) : (d.putLog q).allan = d.allan := rfl
@[simp] theorem Dev.putLog_allanFrom (d : Dev) (q : List LogRec) : (d.putLog q).allanFrom = d.allanFrom := rfl
@[simp] theorem Dev.putLog_items (d : Dev) (q : List LogRec) : (d.putLog q).items = d.items := rfl
@[simp] theorem Dev.putLog_anas (d : Dev) (q : List LogRec) : (d.putLog q).anas = d.anas := rfl
@[simp] theorem Dev.putLog_anaItems (d : Dev) (q : List LogRec) : (d.putLog q).anaItems = d.anaItems := rfl
@[simp] theorem Dev.putLog_cap (d : Dev) (q : List LogRec) : (d.putLog q).cap = d.cap := rfl
@[simp] theorem Dev.putLog_faults (d : Dev) (q : List LogRec) : (d.putLog q).faults = d.faults := rfl
@[simp] theorem Dev.putLog_power (d : Dev) (q : List LogRec) : (d.putLog q).power = d.power := rfl
@[simp] theorem Dev.putLog_pins (d : Dev) (q : List LogRec) : (d.putLog q).pins = d.pins := rfl
@[simp] theorem Dev.putLog_sram (d : Dev) (q : List LogRec) : (d.putLog q).sram = d.sram := rfl
@[simp] theorem Dev.putLog_pipe (d : Dev) (q : List LogRec) : (d.putLog q).pipe = d.pipe := rfl
@[simp] theorem Dev.putLog_track (d : Dev) (q : List LogRec) : (d.putLog q).track = d.track := rfl
@[simp] theorem Dev.putLog_choir (d : Dev) (q : List LogRec) : (d.putLog q).choir = d.choir := rfl
@[simp] theorem Dev.putLog_logLost (d : Dev) (q : List LogRec) : (d.putLog q).logLost = d.logLost := rfl
@[simp] theorem Dev.putLog_calst (d : Dev) (q : List LogRec) : (d.putLog q).calst = d.calst := rfl
@[simp] theorem Dev.putLog_img (d : Dev) (q : List LogRec) : (d.putLog q).img = d.img := rfl
@[simp] theorem Dev.putLog_host (d : Dev) (q : List LogRec) : (d.putLog q).host = d.host := rfl
@[simp] theorem Dev.putLog_nvm (d : Dev) (q : List LogRec) : (d.putLog q).nvm = d.nvm := rfl
@[simp] theorem Dev.putLog_logs (d : Dev) (q : List LogRec) : (d.putLog q).logs = d.logs := rfl
@[simp] theorem Dev.putLog_free (d : Dev) (q : List LogRec) : (d.putLog q).free = d.free := rfl

@[simp] theorem Dev.putLogs_regs (d : Dev) (l : LogSt) : (d.putLogs l).regs = d.regs := rfl
@[simp] theorem Dev.putLogs_fuses (d : Dev) (l : LogSt) : (d.putLogs l).fuses = d.fuses := rfl
@[simp] theorem Dev.putLogs_snaps (d : Dev) (l : LogSt) : (d.putLogs l).snaps = d.snaps := rfl
@[simp] theorem Dev.putLogs_time (d : Dev) (l : LogSt) : (d.putLogs l).time = d.time := rfl
@[simp] theorem Dev.putLogs_voices (d : Dev) (l : LogSt) : (d.putLogs l).voices = d.voices := rfl
@[simp] theorem Dev.putLogs_rings (d : Dev) (l : LogSt) : (d.putLogs l).rings = d.rings := rfl
@[simp] theorem Dev.putLogs_writer (d : Dev) (l : LogSt) : (d.putLogs l).writer = d.writer := rfl
@[simp] theorem Dev.putLogs_tune (d : Dev) (l : LogSt) : (d.putLogs l).tune = d.tune := rfl
@[simp] theorem Dev.putLogs_wms (d : Dev) (l : LogSt) : (d.putLogs l).wms = d.wms := rfl
@[simp] theorem Dev.putLogs_excs (d : Dev) (l : LogSt) : (d.putLogs l).excs = d.excs := rfl
@[simp] theorem Dev.putLogs_timers (d : Dev) (l : LogSt) : (d.putLogs l).timers = d.timers := rfl
@[simp] theorem Dev.putLogs_fitV (d : Dev) (l : LogSt) : (d.putLogs l).fitV = d.fitV := rfl
@[simp] theorem Dev.putLogs_fitP (d : Dev) (l : LogSt) : (d.putLogs l).fitP = d.fitP := rfl
@[simp] theorem Dev.putLogs_allan (d : Dev) (l : LogSt) : (d.putLogs l).allan = d.allan := rfl
@[simp] theorem Dev.putLogs_allanFrom (d : Dev) (l : LogSt) : (d.putLogs l).allanFrom = d.allanFrom := rfl
@[simp] theorem Dev.putLogs_items (d : Dev) (l : LogSt) : (d.putLogs l).items = d.items := rfl
@[simp] theorem Dev.putLogs_anas (d : Dev) (l : LogSt) : (d.putLogs l).anas = d.anas := rfl
@[simp] theorem Dev.putLogs_anaItems (d : Dev) (l : LogSt) : (d.putLogs l).anaItems = d.anaItems := rfl
@[simp] theorem Dev.putLogs_cap (d : Dev) (l : LogSt) : (d.putLogs l).cap = d.cap := rfl
@[simp] theorem Dev.putLogs_faults (d : Dev) (l : LogSt) : (d.putLogs l).faults = d.faults := rfl
@[simp] theorem Dev.putLogs_power (d : Dev) (l : LogSt) : (d.putLogs l).power = d.power := rfl
@[simp] theorem Dev.putLogs_pins (d : Dev) (l : LogSt) : (d.putLogs l).pins = d.pins := rfl
@[simp] theorem Dev.putLogs_sram (d : Dev) (l : LogSt) : (d.putLogs l).sram = d.sram := rfl
@[simp] theorem Dev.putLogs_pipe (d : Dev) (l : LogSt) : (d.putLogs l).pipe = d.pipe := rfl
@[simp] theorem Dev.putLogs_track (d : Dev) (l : LogSt) : (d.putLogs l).track = d.track := rfl
@[simp] theorem Dev.putLogs_choir (d : Dev) (l : LogSt) : (d.putLogs l).choir = d.choir := rfl
@[simp] theorem Dev.putLogs_logQueue (d : Dev) (l : LogSt) : (d.putLogs l).logQueue = d.logQueue := rfl
@[simp] theorem Dev.putLogs_logLost (d : Dev) (l : LogSt) : (d.putLogs l).logLost = d.logLost := rfl
@[simp] theorem Dev.putLogs_calst (d : Dev) (l : LogSt) : (d.putLogs l).calst = d.calst := rfl
@[simp] theorem Dev.putLogs_img (d : Dev) (l : LogSt) : (d.putLogs l).img = d.img := rfl
@[simp] theorem Dev.putLogs_host (d : Dev) (l : LogSt) : (d.putLogs l).host = d.host := rfl
@[simp] theorem Dev.putLogs_nvm (d : Dev) (l : LogSt) : (d.putLogs l).nvm = d.nvm := rfl
@[simp] theorem Dev.putLogs_free (d : Dev) (l : LogSt) : (d.putLogs l).free = d.free := rfl
@[simp] theorem Dev.putLogs_rd (d : Dev) (l : LogSt) (g : Fld) : (d.putLogs l).rd g = d.rd g := rfl
@[simp] theorem Dev.putLogs_is (d : Dev) (l : LogSt) (g : Fld) : (d.putLogs l).is g = d.is g := rfl

@[simp] theorem Dev.putChoir_regs (d : Dev) (c : ChoirSt) : (d.putChoir c).regs = d.regs := rfl
@[simp] theorem Dev.putChoir_fuses (d : Dev) (c : ChoirSt) : (d.putChoir c).fuses = d.fuses := rfl
@[simp] theorem Dev.putChoir_snaps (d : Dev) (c : ChoirSt) : (d.putChoir c).snaps = d.snaps := rfl
@[simp] theorem Dev.putChoir_time (d : Dev) (c : ChoirSt) : (d.putChoir c).time = d.time := rfl
@[simp] theorem Dev.putChoir_voices (d : Dev) (c : ChoirSt) : (d.putChoir c).voices = d.voices := rfl
@[simp] theorem Dev.putChoir_rings (d : Dev) (c : ChoirSt) : (d.putChoir c).rings = d.rings := rfl
@[simp] theorem Dev.putChoir_writer (d : Dev) (c : ChoirSt) : (d.putChoir c).writer = d.writer := rfl
@[simp] theorem Dev.putChoir_tune (d : Dev) (c : ChoirSt) : (d.putChoir c).tune = d.tune := rfl
@[simp] theorem Dev.putChoir_wms (d : Dev) (c : ChoirSt) : (d.putChoir c).wms = d.wms := rfl
@[simp] theorem Dev.putChoir_excs (d : Dev) (c : ChoirSt) : (d.putChoir c).excs = d.excs := rfl
@[simp] theorem Dev.putChoir_timers (d : Dev) (c : ChoirSt) : (d.putChoir c).timers = d.timers := rfl
@[simp] theorem Dev.putChoir_fitV (d : Dev) (c : ChoirSt) : (d.putChoir c).fitV = d.fitV := rfl
@[simp] theorem Dev.putChoir_fitP (d : Dev) (c : ChoirSt) : (d.putChoir c).fitP = d.fitP := rfl
@[simp] theorem Dev.putChoir_allan (d : Dev) (c : ChoirSt) : (d.putChoir c).allan = d.allan := rfl
@[simp] theorem Dev.putChoir_allanFrom (d : Dev) (c : ChoirSt) : (d.putChoir c).allanFrom = d.allanFrom := rfl
@[simp] theorem Dev.putChoir_items (d : Dev) (c : ChoirSt) : (d.putChoir c).items = d.items := rfl
@[simp] theorem Dev.putChoir_anas (d : Dev) (c : ChoirSt) : (d.putChoir c).anas = d.anas := rfl
@[simp] theorem Dev.putChoir_anaItems (d : Dev) (c : ChoirSt) : (d.putChoir c).anaItems = d.anaItems := rfl
@[simp] theorem Dev.putChoir_cap (d : Dev) (c : ChoirSt) : (d.putChoir c).cap = d.cap := rfl
@[simp] theorem Dev.putChoir_faults (d : Dev) (c : ChoirSt) : (d.putChoir c).faults = d.faults := rfl
@[simp] theorem Dev.putChoir_power (d : Dev) (c : ChoirSt) : (d.putChoir c).power = d.power := rfl
@[simp] theorem Dev.putChoir_pins (d : Dev) (c : ChoirSt) : (d.putChoir c).pins = d.pins := rfl
@[simp] theorem Dev.putChoir_sram (d : Dev) (c : ChoirSt) : (d.putChoir c).sram = d.sram := rfl
@[simp] theorem Dev.putChoir_pipe (d : Dev) (c : ChoirSt) : (d.putChoir c).pipe = d.pipe := rfl
@[simp] theorem Dev.putChoir_track (d : Dev) (c : ChoirSt) : (d.putChoir c).track = d.track := rfl
@[simp] theorem Dev.putChoir_logQueue (d : Dev) (c : ChoirSt) : (d.putChoir c).logQueue = d.logQueue := rfl
@[simp] theorem Dev.putChoir_logLost (d : Dev) (c : ChoirSt) : (d.putChoir c).logLost = d.logLost := rfl
@[simp] theorem Dev.putChoir_calst (d : Dev) (c : ChoirSt) : (d.putChoir c).calst = d.calst := rfl
@[simp] theorem Dev.putChoir_img (d : Dev) (c : ChoirSt) : (d.putChoir c).img = d.img := rfl
@[simp] theorem Dev.putChoir_host (d : Dev) (c : ChoirSt) : (d.putChoir c).host = d.host := rfl
@[simp] theorem Dev.putChoir_nvm (d : Dev) (c : ChoirSt) : (d.putChoir c).nvm = d.nvm := rfl
@[simp] theorem Dev.putChoir_logs (d : Dev) (c : ChoirSt) : (d.putChoir c).logs = d.logs := rfl
@[simp] theorem Dev.putChoir_free (d : Dev) (c : ChoirSt) : (d.putChoir c).free = d.free := rfl
@[simp] theorem Dev.putChoir_rd (d : Dev) (c : ChoirSt) (g : Fld) : (d.putChoir c).rd g = d.rd g := rfl
@[simp] theorem Dev.putChoir_is (d : Dev) (c : ChoirSt) (g : Fld) : (d.putChoir c).is g = d.is g := rfl

@[simp] theorem Dev.putPipe_regs (d : Dev) (p : Pipe) : (d.putPipe p).regs = d.regs := rfl
@[simp] theorem Dev.putPipe_fuses (d : Dev) (p : Pipe) : (d.putPipe p).fuses = d.fuses := rfl
@[simp] theorem Dev.putPipe_snaps (d : Dev) (p : Pipe) : (d.putPipe p).snaps = d.snaps := rfl
@[simp] theorem Dev.putPipe_time (d : Dev) (p : Pipe) : (d.putPipe p).time = d.time := rfl
@[simp] theorem Dev.putPipe_voices (d : Dev) (p : Pipe) : (d.putPipe p).voices = d.voices := rfl
@[simp] theorem Dev.putPipe_rings (d : Dev) (p : Pipe) : (d.putPipe p).rings = d.rings := rfl
@[simp] theorem Dev.putPipe_writer (d : Dev) (p : Pipe) : (d.putPipe p).writer = d.writer := rfl
@[simp] theorem Dev.putPipe_tune (d : Dev) (p : Pipe) : (d.putPipe p).tune = d.tune := rfl
@[simp] theorem Dev.putPipe_wms (d : Dev) (p : Pipe) : (d.putPipe p).wms = d.wms := rfl
@[simp] theorem Dev.putPipe_excs (d : Dev) (p : Pipe) : (d.putPipe p).excs = d.excs := rfl
@[simp] theorem Dev.putPipe_timers (d : Dev) (p : Pipe) : (d.putPipe p).timers = d.timers := rfl
@[simp] theorem Dev.putPipe_fitV (d : Dev) (p : Pipe) : (d.putPipe p).fitV = d.fitV := rfl
@[simp] theorem Dev.putPipe_fitP (d : Dev) (p : Pipe) : (d.putPipe p).fitP = d.fitP := rfl
@[simp] theorem Dev.putPipe_allan (d : Dev) (p : Pipe) : (d.putPipe p).allan = d.allan := rfl
@[simp] theorem Dev.putPipe_allanFrom (d : Dev) (p : Pipe) : (d.putPipe p).allanFrom = d.allanFrom := rfl
@[simp] theorem Dev.putPipe_items (d : Dev) (p : Pipe) : (d.putPipe p).items = d.items := rfl
@[simp] theorem Dev.putPipe_anas (d : Dev) (p : Pipe) : (d.putPipe p).anas = d.anas := rfl
@[simp] theorem Dev.putPipe_anaItems (d : Dev) (p : Pipe) : (d.putPipe p).anaItems = d.anaItems := rfl
@[simp] theorem Dev.putPipe_cap (d : Dev) (p : Pipe) : (d.putPipe p).cap = d.cap := rfl
@[simp] theorem Dev.putPipe_faults (d : Dev) (p : Pipe) : (d.putPipe p).faults = d.faults := rfl
@[simp] theorem Dev.putPipe_power (d : Dev) (p : Pipe) : (d.putPipe p).power = d.power := rfl
@[simp] theorem Dev.putPipe_pins (d : Dev) (p : Pipe) : (d.putPipe p).pins = d.pins := rfl
@[simp] theorem Dev.putPipe_sram (d : Dev) (p : Pipe) : (d.putPipe p).sram = d.sram := rfl
@[simp] theorem Dev.putPipe_track (d : Dev) (p : Pipe) : (d.putPipe p).track = d.track := rfl
@[simp] theorem Dev.putPipe_choir (d : Dev) (p : Pipe) : (d.putPipe p).choir = d.choir := rfl
@[simp] theorem Dev.putPipe_logQueue (d : Dev) (p : Pipe) : (d.putPipe p).logQueue = d.logQueue := rfl
@[simp] theorem Dev.putPipe_logLost (d : Dev) (p : Pipe) : (d.putPipe p).logLost = d.logLost := rfl
@[simp] theorem Dev.putPipe_calst (d : Dev) (p : Pipe) : (d.putPipe p).calst = d.calst := rfl
@[simp] theorem Dev.putPipe_img (d : Dev) (p : Pipe) : (d.putPipe p).img = d.img := rfl
@[simp] theorem Dev.putPipe_host (d : Dev) (p : Pipe) : (d.putPipe p).host = d.host := rfl
@[simp] theorem Dev.putPipe_nvm (d : Dev) (p : Pipe) : (d.putPipe p).nvm = d.nvm := rfl
@[simp] theorem Dev.putPipe_logs (d : Dev) (p : Pipe) : (d.putPipe p).logs = d.logs := rfl
@[simp] theorem Dev.putPipe_free (d : Dev) (p : Pipe) : (d.putPipe p).free = d.free := rfl
@[simp] theorem Dev.putPipe_rd (d : Dev) (p : Pipe) (g : Fld) : (d.putPipe p).rd g = d.rd g := rfl
@[simp] theorem Dev.putPipe_is (d : Dev) (p : Pipe) (g : Fld) : (d.putPipe p).is g = d.is g := rfl

@[simp] theorem Dev.putTrack_regs (d : Dev) (t : TrackSt) : (d.putTrack t).regs = d.regs := rfl
@[simp] theorem Dev.putTrack_fuses (d : Dev) (t : TrackSt) : (d.putTrack t).fuses = d.fuses := rfl
@[simp] theorem Dev.putTrack_snaps (d : Dev) (t : TrackSt) : (d.putTrack t).snaps = d.snaps := rfl
@[simp] theorem Dev.putTrack_time (d : Dev) (t : TrackSt) : (d.putTrack t).time = d.time := rfl
@[simp] theorem Dev.putTrack_voices (d : Dev) (t : TrackSt) : (d.putTrack t).voices = d.voices := rfl
@[simp] theorem Dev.putTrack_rings (d : Dev) (t : TrackSt) : (d.putTrack t).rings = d.rings := rfl
@[simp] theorem Dev.putTrack_writer (d : Dev) (t : TrackSt) : (d.putTrack t).writer = d.writer := rfl
@[simp] theorem Dev.putTrack_tune (d : Dev) (t : TrackSt) : (d.putTrack t).tune = d.tune := rfl
@[simp] theorem Dev.putTrack_wms (d : Dev) (t : TrackSt) : (d.putTrack t).wms = d.wms := rfl
@[simp] theorem Dev.putTrack_excs (d : Dev) (t : TrackSt) : (d.putTrack t).excs = d.excs := rfl
@[simp] theorem Dev.putTrack_timers (d : Dev) (t : TrackSt) : (d.putTrack t).timers = d.timers := rfl
@[simp] theorem Dev.putTrack_fitV (d : Dev) (t : TrackSt) : (d.putTrack t).fitV = d.fitV := rfl
@[simp] theorem Dev.putTrack_fitP (d : Dev) (t : TrackSt) : (d.putTrack t).fitP = d.fitP := rfl
@[simp] theorem Dev.putTrack_allan (d : Dev) (t : TrackSt) : (d.putTrack t).allan = d.allan := rfl
@[simp] theorem Dev.putTrack_allanFrom (d : Dev) (t : TrackSt) : (d.putTrack t).allanFrom = d.allanFrom := rfl
@[simp] theorem Dev.putTrack_items (d : Dev) (t : TrackSt) : (d.putTrack t).items = d.items := rfl
@[simp] theorem Dev.putTrack_anas (d : Dev) (t : TrackSt) : (d.putTrack t).anas = d.anas := rfl
@[simp] theorem Dev.putTrack_anaItems (d : Dev) (t : TrackSt) : (d.putTrack t).anaItems = d.anaItems := rfl
@[simp] theorem Dev.putTrack_cap (d : Dev) (t : TrackSt) : (d.putTrack t).cap = d.cap := rfl
@[simp] theorem Dev.putTrack_faults (d : Dev) (t : TrackSt) : (d.putTrack t).faults = d.faults := rfl
@[simp] theorem Dev.putTrack_power (d : Dev) (t : TrackSt) : (d.putTrack t).power = d.power := rfl
@[simp] theorem Dev.putTrack_pins (d : Dev) (t : TrackSt) : (d.putTrack t).pins = d.pins := rfl
@[simp] theorem Dev.putTrack_sram (d : Dev) (t : TrackSt) : (d.putTrack t).sram = d.sram := rfl
@[simp] theorem Dev.putTrack_pipe (d : Dev) (t : TrackSt) : (d.putTrack t).pipe = d.pipe := rfl
@[simp] theorem Dev.putTrack_choir (d : Dev) (t : TrackSt) : (d.putTrack t).choir = d.choir := rfl
@[simp] theorem Dev.putTrack_logQueue (d : Dev) (t : TrackSt) : (d.putTrack t).logQueue = d.logQueue := rfl
@[simp] theorem Dev.putTrack_logLost (d : Dev) (t : TrackSt) : (d.putTrack t).logLost = d.logLost := rfl
@[simp] theorem Dev.putTrack_calst (d : Dev) (t : TrackSt) : (d.putTrack t).calst = d.calst := rfl
@[simp] theorem Dev.putTrack_img (d : Dev) (t : TrackSt) : (d.putTrack t).img = d.img := rfl
@[simp] theorem Dev.putTrack_host (d : Dev) (t : TrackSt) : (d.putTrack t).host = d.host := rfl
@[simp] theorem Dev.putTrack_nvm (d : Dev) (t : TrackSt) : (d.putTrack t).nvm = d.nvm := rfl
@[simp] theorem Dev.putTrack_logs (d : Dev) (t : TrackSt) : (d.putTrack t).logs = d.logs := rfl
@[simp] theorem Dev.putTrack_free (d : Dev) (t : TrackSt) : (d.putTrack t).free = d.free := rfl
@[simp] theorem Dev.putTrack_rd (d : Dev) (t : TrackSt) (g : Fld) : (d.putTrack t).rd g = d.rd g := rfl
@[simp] theorem Dev.putTrack_is (d : Dev) (t : TrackSt) (g : Fld) : (d.putTrack t).is g = d.is g := rfl

@[simp] theorem Dev.raiseEpoch_regs (d : Dev) (p : Nat) : (d.raiseEpoch p).regs = d.regs := rfl
@[simp] theorem Dev.raiseEpoch_fuses (d : Dev) (p : Nat) : (d.raiseEpoch p).fuses = d.fuses := rfl
@[simp] theorem Dev.raiseEpoch_snaps (d : Dev) (p : Nat) : (d.raiseEpoch p).snaps = d.snaps := rfl
@[simp] theorem Dev.raiseEpoch_time (d : Dev) (p : Nat) : (d.raiseEpoch p).time = d.time := rfl
@[simp] theorem Dev.raiseEpoch_voices (d : Dev) (p : Nat) : (d.raiseEpoch p).voices = d.voices := rfl
@[simp] theorem Dev.raiseEpoch_rings (d : Dev) (p : Nat) : (d.raiseEpoch p).rings = d.rings := rfl
@[simp] theorem Dev.raiseEpoch_tune (d : Dev) (p : Nat) : (d.raiseEpoch p).tune = d.tune := rfl
@[simp] theorem Dev.raiseEpoch_wms (d : Dev) (p : Nat) : (d.raiseEpoch p).wms = d.wms := rfl
@[simp] theorem Dev.raiseEpoch_excs (d : Dev) (p : Nat) : (d.raiseEpoch p).excs = d.excs := rfl
@[simp] theorem Dev.raiseEpoch_timers (d : Dev) (p : Nat) : (d.raiseEpoch p).timers = d.timers := rfl
@[simp] theorem Dev.raiseEpoch_fitV (d : Dev) (p : Nat) : (d.raiseEpoch p).fitV = d.fitV := rfl
@[simp] theorem Dev.raiseEpoch_fitP (d : Dev) (p : Nat) : (d.raiseEpoch p).fitP = d.fitP := rfl
@[simp] theorem Dev.raiseEpoch_allan (d : Dev) (p : Nat) : (d.raiseEpoch p).allan = d.allan := rfl
@[simp] theorem Dev.raiseEpoch_allanFrom (d : Dev) (p : Nat) : (d.raiseEpoch p).allanFrom = d.allanFrom := rfl
@[simp] theorem Dev.raiseEpoch_items (d : Dev) (p : Nat) : (d.raiseEpoch p).items = d.items := rfl
@[simp] theorem Dev.raiseEpoch_anas (d : Dev) (p : Nat) : (d.raiseEpoch p).anas = d.anas := rfl
@[simp] theorem Dev.raiseEpoch_anaItems (d : Dev) (p : Nat) : (d.raiseEpoch p).anaItems = d.anaItems := rfl
@[simp] theorem Dev.raiseEpoch_cap (d : Dev) (p : Nat) : (d.raiseEpoch p).cap = d.cap := rfl
@[simp] theorem Dev.raiseEpoch_faults (d : Dev) (p : Nat) : (d.raiseEpoch p).faults = d.faults := rfl
@[simp] theorem Dev.raiseEpoch_power (d : Dev) (p : Nat) : (d.raiseEpoch p).power = d.power := rfl
@[simp] theorem Dev.raiseEpoch_pins (d : Dev) (p : Nat) : (d.raiseEpoch p).pins = d.pins := rfl
@[simp] theorem Dev.raiseEpoch_sram (d : Dev) (p : Nat) : (d.raiseEpoch p).sram = d.sram := rfl
@[simp] theorem Dev.raiseEpoch_pipe (d : Dev) (p : Nat) : (d.raiseEpoch p).pipe = d.pipe := rfl
@[simp] theorem Dev.raiseEpoch_track (d : Dev) (p : Nat) : (d.raiseEpoch p).track = d.track := rfl
@[simp] theorem Dev.raiseEpoch_choir (d : Dev) (p : Nat) : (d.raiseEpoch p).choir = d.choir := rfl
@[simp] theorem Dev.raiseEpoch_logQueue (d : Dev) (p : Nat) : (d.raiseEpoch p).logQueue = d.logQueue := rfl
@[simp] theorem Dev.raiseEpoch_logLost (d : Dev) (p : Nat) : (d.raiseEpoch p).logLost = d.logLost := rfl
@[simp] theorem Dev.raiseEpoch_calst (d : Dev) (p : Nat) : (d.raiseEpoch p).calst = d.calst := rfl
@[simp] theorem Dev.raiseEpoch_img (d : Dev) (p : Nat) : (d.raiseEpoch p).img = d.img := rfl
@[simp] theorem Dev.raiseEpoch_host (d : Dev) (p : Nat) : (d.raiseEpoch p).host = d.host := rfl
@[simp] theorem Dev.raiseEpoch_nvm (d : Dev) (p : Nat) : (d.raiseEpoch p).nvm = d.nvm := rfl
@[simp] theorem Dev.raiseEpoch_logs (d : Dev) (p : Nat) : (d.raiseEpoch p).logs = d.logs := rfl
@[simp] theorem Dev.raiseEpoch_free (d : Dev) (p : Nat) : (d.raiseEpoch p).free = d.free := rfl
@[simp] theorem Dev.raiseEpoch_rd (d : Dev) (p : Nat) (g : Fld) : (d.raiseEpoch p).rd g = d.rd g := rfl
@[simp] theorem Dev.raiseEpoch_is (d : Dev) (p : Nat) (g : Fld) : (d.raiseEpoch p).is g = d.is g := rfl

@[simp] theorem Dev.voice_putVoice_same (d : Dev) (n : Nat) (x : Voice) : (d.putVoice n x).voice n = x := Tab.read_write_same _ _ _ _
theorem Dev.voice_putVoice_other (d : Dev) (x : Voice) {n m : Nat} (h : m ≠ n) : (d.putVoice n x).voice m = d.voice m := Tab.read_write_other _ _ _ h
@[simp] theorem Dev.ring_putRing_same (d : Dev) (n : Nat) (x : Ring) : (d.putRing n x).ring n = x := Tab.read_write_same _ _ _ _
theorem Dev.ring_putRing_other (d : Dev) (x : Ring) {n m : Nat} (h : m ≠ n) : (d.putRing n x).ring m = d.ring m := Tab.read_write_other _ _ _ h
@[simp] theorem Dev.tun_putTun_same (d : Dev) (n : Nat) (x : Tune) : (d.putTun n x).tun n = x := Tab.read_write_same _ _ _ _
theorem Dev.tun_putTun_other (d : Dev) (x : Tune) {n m : Nat} (h : m ≠ n) : (d.putTun n x).tun m = d.tun m := Tab.read_write_other _ _ _ h
@[simp] theorem Dev.wm_putWm_same (d : Dev) (n : Nat) (x : Wm) : (d.putWm n x).wm n = x := Tab.read_write_same _ _ _ _
theorem Dev.wm_putWm_other (d : Dev) (x : Wm) {n m : Nat} (h : m ≠ n) : (d.putWm n x).wm m = d.wm m := Tab.read_write_other _ _ _ h
@[simp] theorem Dev.exc_putExc_same (d : Dev) (n : Nat) (x : Exc) : (d.putExc n x).exc n = x := Tab.read_write_same _ _ _ _
theorem Dev.exc_putExc_other (d : Dev) (x : Exc) {n m : Nat} (h : m ≠ n) : (d.putExc n x).exc m = d.exc m := Tab.read_write_other _ _ _ h
@[simp] theorem Dev.timer_putTimer_same (d : Dev) (n : Nat) (x : Timer) : (d.putTimer n x).timer n = x := Tab.read_write_same _ _ _ _
theorem Dev.timer_putTimer_other (d : Dev) (x : Timer) {n m : Nat} (h : m ≠ n) : (d.putTimer n x).timer m = d.timer m := Tab.read_write_other _ _ _ h
@[simp] theorem Dev.ana_putAna_same (d : Dev) (n : Nat) (x : Ana) : (d.putAna n x).ana n = x := Tab.read_write_same _ _ _ _
theorem Dev.ana_putAna_other (d : Dev) (x : Ana) {n m : Nat} (h : m ≠ n) : (d.putAna n x).ana m = d.ana m := Tab.read_write_other _ _ _ h
@[simp] theorem Dev.fitVoice_putFitVoice_same (d : Dev) (n : Nat) (x : FitVoice) : (d.putFitVoice n x).fitVoice n = x := Tab.read_write_same _ _ _ _
theorem Dev.fitVoice_putFitVoice_other (d : Dev) (x : FitVoice) {n m : Nat} (h : m ≠ n) : (d.putFitVoice n x).fitVoice m = d.fitVoice m := Tab.read_write_other _ _ _ h
@[simp] theorem Dev.fitPair_putFitPair_same (d : Dev) (n : Nat) (x : FitPair) : (d.putFitPair n x).fitPair n = x := Tab.read_write_same _ _ _ _
theorem Dev.fitPair_putFitPair_other (d : Dev) (x : FitPair) {n m : Nat} (h : m ≠ n) : (d.putFitPair n x).fitPair m = d.fitPair m := Tab.read_write_other _ _ _ h

/-- What a sequence of updates keeps, each update keeps. -/
theorem Dev.each_keeps {α : Type} (P : Dev → Prop) (l : List α) (f : Dev → α → Dev) (h : ∀ d x, P d → P (f d x)) (d : Dev) (hd : P d) :
    P (d.each l f) := by
  induction l generalizing d with
  | nil => exact hd
  | cons x r ih => exact ih (f d x) (h d x hd)

/-- A sequence of updates over no element does nothing, and over one element is that update. -/
@[simp] theorem Dev.each_nil {α : Type} (d : Dev) (f : Dev → α → Dev) : d.each [] f = d := rfl
@[simp] theorem Dev.each_cons {α : Type} (d : Dev) (x : α) (l : List α) (f : Dev → α → Dev) : d.each (x :: l) f = (f d x).each l f := rfl

/-- An effect on the device answers a next state: the queue is untouched. -/
theorem State.onDev_wf (s : State) {i : Instr} (f : Dev → Dev) (h : i.wf = true) : s.onDev i f = .next { s with dev := f s.dev } := by
  simp [State.onDev, h]

/-- Operands that no command can carry have no effect. -/
theorem State.onDev_ill (s : State) {i : Instr} (f : Dev → Dev) (h : i.wf = false) : s.onDev i f = .next s := by
  simp [State.onDev, h]

end Sys2Proof.Machine
end

