-- ==== Sys2Proof/Laws/Frame.lean ====
section
/-! SUPPORT.
The relation Frame: how it passes through the named updates, and what the shared operations may change.
-/

namespace Sys2Proof.Machine

set_option Elab.async false

theorem Frame.refl (us : List Part) (fs : List Fld) (d : Dev) : Frame us fs d d := ⟨fun u _ => by cases u <;> rfl, fun _ _ => rfl⟩

theorem Part.Same.trans {a b c : Dev} {u : Part} (h : u.Same a b) (g : u.Same b c) : u.Same a c := by
  cases u <;> exact Eq.trans g h

theorem Frame.trans {us : List Part} {fs : List Fld} {a b c : Dev} (h : Frame us fs a b) (g : Frame us fs b c) : Frame us fs a c :=
  ⟨fun u hu => (h.parts u hu).trans (g.parts u hu), fun f hf => (g.regs f hf).trans (h.regs f hf)⟩

/-- A frame may be widened. -/
theorem Frame.mono {us vs : List Part} {fs gs : List Fld} {d e : Dev} (hu : us ⊆ vs) (hf : fs ⊆ gs) (h : Frame us fs d e) : Frame vs gs d e :=
  ⟨fun u x => h.parts u (fun y => x (hu y)), fun g x => h.regs g (fun f y => x f (hf y))⟩

variable {us : List Part} {fs : List Fld} {d0 d : Dev}

theorem Frame.wr {f : Fld} {v : Nat} (hf : f ∈ fs) (h : Frame us fs d0 d) : Frame us fs d0 (d.wr f v) :=
  ⟨h.parts, fun g hg => (Dev.rd_wr_other d v (hg f hf)).trans (h.regs g hg)⟩

theorem Frame.inc {f : Fld} (hf : f ∈ fs) (h : Frame us fs d0 d) : Frame us fs d0 (d.inc f) := h.wr hf

theorem Frame.step1 {f : Fld} (hf : f ∈ fs) (h : Frame us fs d0 d) : Frame us fs d0 (d.step1 f) := h.wr hf

theorem Frame.when {c : Bool} {f : Dev → Dev} (h : Frame us fs d0 d) (hf : ∀ d, Frame us fs d0 d → Frame us fs d0 (f d)) :
    Frame us fs d0 (d.when c f) := by
  unfold Dev.when
  split
  · exact hf d h
  · exact h

theorem Frame.each {α : Type} {l : List α} {f : Dev → α → Dev} (h : Frame us fs d0 d)
    (hf : ∀ d x, x ∈ l → Frame us fs d0 d → Frame us fs d0 (f d x)) : Frame us fs d0 (d.each l f) := by
  unfold Dev.each
  induction l generalizing d with
  | nil => exact h
  | cons x r ih => exact ih (hf d x List.mem_cons_self h) (fun d y hy => hf d y (List.mem_cons_of_mem _ hy))

/-- An update of parts alone. -/
theorem Frame.set {e : Dev} (h : Frame us fs d0 d) (hr : e.regs = d.regs) (hu : ∀ u, u ∉ us → u.Same d e) : Frame us fs d0 e :=
  ⟨fun u x => (h.parts u x).trans (hu u x), fun g hg => (Dev.rd_congr g hr).trans (h.regs g hg)⟩

theorem Frame.fuses {x : _} (hu : Part.fuses ∈ us) (h : Frame us fs d0 d) : Frame us fs d0 { d with fuses := x } :=
  h.set rfl (fun u hn => by cases u <;> first | rfl | exact absurd hu hn)

theorem Frame.snaps {x : _} (hu : Part.snaps ∈ us) (h : Frame us fs d0 d) : Frame us fs d0 { d with snaps := x } :=
  h.set rfl (fun u hn => by cases u <;> first | rfl | exact absurd hu hn)

theorem Frame.time {x : _} (hu : Part.time ∈ us) (h : Frame us fs d0 d) : Frame us fs d0 { d with time := x } :=
  h.set rfl (fun u hn => by cases u <;> first | rfl | exact absurd hu hn)

theorem Frame.voices {x : _} (hu : Part.voices ∈ us) (h : Frame us fs d0 d) : Frame us fs d0 { d with voices := x } :=
  h.set rfl (fun u hn => by cases u <;> first | rfl | exact absurd hu hn)

theorem Frame.rings {x : _} (hu : Part.rings ∈ us) (h : Frame us fs d0 d) : Frame us fs d0 { d with rings := x } :=
  h.set rfl (fun u hn => by cases u <;> first | rfl | exact absurd hu hn)

theorem Frame.writer {x : _} (hu : Part.writer ∈ us) (h : Frame us fs d0 d) : Frame us fs d0 { d with writer := x } :=
  h.set rfl (fun u hn => by cases u <;> first | rfl | exact absurd hu hn)

theorem Frame.tune {x : _} (hu : Part.tune ∈ us) (h : Frame us fs d0 d) : Frame us fs d0 { d with tune := x } :=
  h.set rfl (fun u hn => by cases u <;> first | rfl | exact absurd hu hn)

theorem Frame.wms {x : _} (hu : Part.wms ∈ us) (h : Frame us fs d0 d) : Frame us fs d0 { d with wms := x } :=
  h.set rfl (fun u hn => by cases u <;> first | rfl | exact absurd hu hn)

theorem Frame.excs {x : _} (hu : Part.excs ∈ us) (h : Frame us fs d0 d) : Frame us fs d0 { d with excs := x } :=
  h.set rfl (fun u hn => by cases u <;> first | rfl | exact absurd hu hn)

theorem Frame.timers {x : _} (hu : Part.timers ∈ us) (h : Frame us fs d0 d) : Frame us fs d0 { d with timers := x } :=
  h.set rfl (fun u hn => by cases u <;> first | rfl | exact absurd hu hn)

theorem Frame.fitV {x : _} (hu : Part.fitV ∈ us) (h : Frame us fs d0 d) : Frame us fs d0 { d with fitV := x } :=
  h.set rfl (fun u hn => by cases u <;> first | rfl | exact absurd hu hn)

theorem Frame.fitP {x : _} (hu : Part.fitP ∈ us) (h : Frame us fs d0 d) : Frame us fs d0 { d with fitP := x } :=
  h.set rfl (fun u hn => by cases u <;> first | rfl | exact absurd hu hn)

theorem Frame.allan {x : _} (hu : Part.allan ∈ us) (h : Frame us fs d0 d) : Frame us fs d0 { d with allan := x } :=
  h.set rfl (fun u hn => by cases u <;> first | rfl | exact absurd hu hn)

theorem Frame.allanFrom {x : _} (hu : Part.allanFrom ∈ us) (h : Frame us fs d0 d) : Frame us fs d0 { d with allanFrom := x } :=
  h.set rfl (fun u hn => by cases u <;> first | rfl | exact absurd hu hn)

theorem Frame.items {x : _} (hu : Part.items ∈ us) (h : Frame us fs d0 d) : Frame us fs d0 { d with items := x } :=
  h.set rfl (fun u hn => by cases u <;> first | rfl | exact absurd hu hn)

theorem Frame.anas {x : _} (hu : Part.anas ∈ us) (h : Frame us fs d0 d) : Frame us fs d0 { d with anas := x } :=
  h.set rfl (fun u hn => by cases u <;> first | rfl | exact absurd hu hn)

theorem Frame.anaItems {x : _} (hu : Part.anaItems ∈ us) (h : Frame us fs d0 d) : Frame us fs d0 { d with anaItems := x } :=
  h.set rfl (fun u hn => by cases u <;> first | rfl | exact absurd hu hn)

theorem Frame.cap {x : _} (hu : Part.cap ∈ us) (h : Frame us fs d0 d) : Frame us fs d0 { d with cap := x } :=
  h.set rfl (fun u hn => by cases u <;> first | rfl | exact absurd hu hn)

theorem Frame.faults {x : _} (hu : Part.faults ∈ us) (h : Frame us fs d0 d) : Frame us fs d0 { d with faults := x } :=
  h.set rfl (fun u hn => by cases u <;> first | rfl | exact absurd hu hn)

theorem Frame.power {x : _} (hu : Part.power ∈ us) (h : Frame us fs d0 d) : Frame us fs d0 { d with power := x } :=
  h.set rfl (fun u hn => by cases u <;> first | rfl | exact absurd hu hn)

theorem Frame.pins {x : _} (hu : Part.pins ∈ us) (h : Frame us fs d0 d) : Frame us fs d0 { d with pins := x } :=
  h.set rfl (fun u hn => by cases u <;> first | rfl | exact absurd hu hn)

theorem Frame.sram {x : _} (hu : Part.sram ∈ us) (h : Frame us fs d0 d) : Frame us fs d0 { d with sram := x } :=
  h.set rfl (fun u hn => by cases u <;> first | rfl | exact absurd hu hn)

theorem Frame.pipe {x : _} (hu : Part.pipe ∈ us) (h : Frame us fs d0 d) : Frame us fs d0 { d with pipe := x } :=
  h.set rfl (fun u hn => by cases u <;> first | rfl | exact absurd hu hn)

theorem Frame.track {x : _} (hu : Part.track ∈ us) (h : Frame us fs d0 d) : Frame us fs d0 { d with track := x } :=
  h.set rfl (fun u hn => by cases u <;> first | rfl | exact absurd hu hn)

theorem Frame.choir {x : _} (hu : Part.choir ∈ us) (h : Frame us fs d0 d) : Frame us fs d0 { d with choir := x } :=
  h.set rfl (fun u hn => by cases u <;> first | rfl | exact absurd hu hn)

theorem Frame.logQueue {x : _} (hu : Part.logQueue ∈ us) (h : Frame us fs d0 d) : Frame us fs d0 { d with logQueue := x } :=
  h.set rfl (fun u hn => by cases u <;> first | rfl | exact absurd hu hn)

theorem Frame.logLost {x : _} (hu : Part.logLost ∈ us) (h : Frame us fs d0 d) : Frame us fs d0 { d with logLost := x } :=
  h.set rfl (fun u hn => by cases u <;> first | rfl | exact absurd hu hn)

theorem Frame.calst {x : _} (hu : Part.calst ∈ us) (h : Frame us fs d0 d) : Frame us fs d0 { d with calst := x } :=
  h.set rfl (fun u hn => by cases u <;> first | rfl | exact absurd hu hn)

theorem Frame.img {x : _} (hu : Part.img ∈ us) (h : Frame us fs d0 d) : Frame us fs d0 { d with img := x } :=
  h.set rfl (fun u hn => by cases u <;> first | rfl | exact absurd hu hn)

theorem Frame.host {x : _} (hu : Part.host ∈ us) (h : Frame us fs d0 d) : Frame us fs d0 { d with host := x } :=
  h.set rfl (fun u hn => by cases u <;> first | rfl | exact absurd hu hn)

theorem Frame.nvm {x : _} (hu : Part.nvm ∈ us) (h : Frame us fs d0 d) : Frame us fs d0 { d with nvm := x } :=
  h.set rfl (fun u hn => by cases u <;> first | rfl | exact absurd hu hn)

theorem Frame.logs {x : _} (hu : Part.logs ∈ us) (h : Frame us fs d0 d) : Frame us fs d0 { d with logs := x } :=
  h.set rfl (fun u hn => by cases u <;> first | rfl | exact absurd hu hn)

theorem Frame.free {x : _} (hu : Part.free ∈ us) (h : Frame us fs d0 d) : Frame us fs d0 { d with free := x } :=
  h.set rfl (fun u hn => by cases u <;> first | rfl | exact absurd hu hn)

theorem Frame.putRing {n : Nat} {x : Ring} (hu : Part.rings ∈ us) (h : Frame us fs d0 d) : Frame us fs d0 (d.putRing n x) := h.rings hu

theorem Frame.putTun {n : Nat} {x : Tune} (hu : Part.tune ∈ us) (h : Frame us fs d0 d) : Frame us fs d0 (d.putTun n x) := h.tune hu

theorem Frame.putWm {n : Nat} {x : Wm} (hu : Part.wms ∈ us) (h : Frame us fs d0 d) : Frame us fs d0 (d.putWm n x) := h.wms hu

theorem Frame.putExc {n : Nat} {x : Exc} (hu : Part.excs ∈ us) (h : Frame us fs d0 d) : Frame us fs d0 (d.putExc n x) := h.excs hu

theorem Frame.putTimer {n : Nat} {x : Timer} (hu : Part.timers ∈ us) (h : Frame us fs d0 d) : Frame us fs d0 (d.putTimer n x) := h.timers hu

theorem Frame.putAna {n : Nat} {x : Ana} (hu : Part.anas ∈ us) (h : Frame us fs d0 d) : Frame us fs d0 (d.putAna n x) := h.anas hu

theorem Frame.putCap {x : Cap} (hu : Part.cap ∈ us) (h : Frame us fs d0 d) : Frame us fs d0 (d.putCap x) := h.cap hu

theorem Frame.putFitVoice {n : Nat} {x : FitVoice} (hu : Part.fitV ∈ us) (h : Frame us fs d0 d) : Frame us fs d0 (d.putFitVoice n x) := h.fitV hu

theorem Frame.putFitPair {n : Nat} {x : FitPair} (hu : Part.fitP ∈ us) (h : Frame us fs d0 d) : Frame us fs d0 (d.putFitPair n x) := h.fitP hu

theorem Frame.putLogs {x : LogSt} (hu : Part.logs ∈ us) (h : Frame us fs d0 d) : Frame us fs d0 (d.putLogs x) := h.logs hu

theorem Frame.putChoir {x : ChoirSt} (hu : Part.choir ∈ us) (h : Frame us fs d0 d) : Frame us fs d0 (d.putChoir x) := h.choir hu

theorem Frame.putPipe {x : Pipe} (hu : Part.pipe ∈ us) (h : Frame us fs d0 d) : Frame us fs d0 (d.putPipe x) := h.pipe hu

theorem Frame.putTrack {x : TrackSt} (hu : Part.track ∈ us) (h : Frame us fs d0 d) : Frame us fs d0 (d.putTrack x) := h.track hu

theorem Frame.nextFree  (hu : Part.free ∈ us) (h : Frame us fs d0 d) : Frame us fs d0 (d.nextFree) := h.free hu

theorem Frame.raiseEpoch {x : Nat} (hu : Part.writer ∈ us) (h : Frame us fs d0 d) : Frame us fs d0 (d.raiseEpoch x) := h.writer hu

theorem Frame.putVoice {n : Nat} {x : Voice} (hu : Part.voices ∈ us) (hf : Reg.VOICE_STATUS_FIFO_LEVEL n ∈ fs) (h : Frame us fs d0 d) :
    Frame us fs d0 (d.putVoice n x) := Frame.wr hf (h.voices hu)

theorem Frame.putLog {q : List LogRec} (hu : Part.logQueue ∈ us) (hf : Reg.LOG_STATUS_LOG_QUEUE ∈ fs) (h : Frame us fs d0 d) :
    Frame us fs d0 (d.putLog q) := Frame.wr hf (h.logQueue hu)

/-- An offer to the ring writer touches its queue alone. -/
theorem Frame.offer {r p : Nat} {w : List Nat} (hu : Part.writer ∈ us) (h : Frame us fs d0 d) : Frame us fs d0 (d.offer r p w) := by
  unfold Dev.offer
  split
  · exact h
  · exact h.writer hu

/-- A notification touches the ring writer's queue and NSEQ. -/
theorem Frame.notify {k s a : Nat} (hu : notifyParts ⊆ us) (h : Frame us fs d0 d) : Frame us fs d0 (d.notify k s a) := by
  unfold Dev.notify
  split
  · exact Frame.faults (hu (by decide)) (Frame.offer (hu (by decide)) h)
  · exact h

/-- Queueing a journal record touches the queue, the count of records lost, and the fields that show them. -/
theorem Frame.queueLog {r : LogRec} (hu : [Part.logQueue, Part.logLost] ⊆ us) (hf : [Reg.LOG_STATUS_LOG_QUEUE, Reg.LOSS_TOTAL] ⊆ fs)
    (h : Frame us fs d0 d) : Frame us fs d0 (d.queueLog r) := by
  unfold Dev.queueLog
  dsimp only
  split
  · exact Frame.putLog (hu (by simp)) (hf (by simp)) h
  · split
    · exact Frame.inc (hf (by simp)) (Frame.logLost (hu (by simp)) h)
    · exact Frame.putLog (hu (by simp)) (hf (by simp)) h

theorem Frame.log {k : Nat} {p : List Nat} (hu : [Part.logQueue, Part.logLost] ⊆ us) (hf : [Reg.LOG_STATUS_LOG_QUEUE, Reg.LOSS_TOTAL] ⊆ fs)
    (h : Frame us fs d0 d) : Frame us fs d0 (d.log k p) := h.queueLog hu hf

/-- A fault record touches no more than faultParts and faultFlds. -/
theorem Frame.writeFault {code cls src strikes retire prob arg : Nat} (hu : faultParts ⊆ us) (hf : faultFlds ⊆ fs) (h : Frame us fs d0 d) :
    Frame us fs d0 (d.writeFault code cls src strikes retire prob arg) := by
  have hn : notifyParts ⊆ us := fun u hx => hu (by revert u; decide)
  have hl : [Part.logQueue, Part.logLost] ⊆ us := fun u hx => hu (by revert u; decide)
  have hg : [Reg.LOG_STATUS_LOG_QUEUE, Reg.LOSS_TOTAL] ⊆ fs := fun f hx => hf (by simp [faultFlds] at hx ⊢; rcases hx with e | e <;> simp [e])
  unfold Dev.writeFault
  refine Frame.wr (hf (by simp [faultFlds])) (Frame.inc (hf (by simp [faultFlds])) (Frame.when ?_ (fun d hd => hd.log hl hg)))
  exact Frame.notify hn (Frame.faults (hn (by decide)) (Frame.offer (hn (by decide)) h))

/-- A fault that no source answers for, as every report-only one, touches no more than its record. -/
theorem Frame.fault_none {code cls : Nat} {arg : Option Nat} (hu : faultParts ⊆ us) (hf : faultFlds ⊆ fs) (h : Frame us fs d0 d) :
    Frame us fs d0 (d.fault code cls [] arg) := by
  have he : hasStrikes srcNone = false := rfl
  have h1 : d.addStrike srcNone cls = d := by simp [Dev.addStrike, he]
  have h2 : d.retires srcNone cls = false := by simp [Dev.retires, he]
  simp only [Dev.fault, Dev.faultOne, Dev.chargeFault, h1, h2]
  exact h.writeFault hu hf

/-- A reason marked on a voice touches the voices and the analyser instances. -/
theorem Frame.restVoice {n r : Nat} (hu : [Part.voices, Part.anas] ⊆ us) (hf : Reg.VOICE_STATUS_FIFO_LEVEL n ∈ fs) (h : Frame us fs d0 d) :
    Frame us fs d0 (d.restVoice n r) := by
  unfold Dev.restVoice
  refine Frame.each (Frame.putVoice (hu (by simp)) hf h) (fun d a _ hd => ?_)
  split
  · exact hd.putAna (hu (by simp))
  · exact hd

end Sys2Proof.Machine
end

