-- ==== Sys2Proof/Laws/Keeps.lean ====
section
/-! SUPPORT.
The relation Keeps: what the elementary updates keep, and how it passes through the forms that effects are built from.
-/

namespace Sys2Proof.Machine

set_option Elab.async false

/-- Keeps for an effect that answers a value beside the device. -/
abbrev Keeps1 {α : Type} (k : Allow) (d0 : Dev) (p : Dev × α) : Prop := Keeps k d0 p.1

theorem Keeps.refl (k : Allow) (d : Dev) : Keeps k d d :=
  ⟨fun _ _ => rfl, fun _ => rfl, fun _ => rfl, id, id, id, fun _ => rfl⟩

theorem Keeps.trans {k : Allow} {a b c : Dev} (h : Keeps k a b) (g : Keeps k b c) : Keeps k a c where
  cls x hx := (g.cls x hx).trans (h.cls x hx)
  nvm hx := (g.nvm hx).trans (h.nvm hx)
  fuse hx := (g.fuse hx).trans (h.fuse hx)
  regsWf hx := g.regsWf (h.regsWf hx)
  snapsWf hx := g.snapsWf (h.snapsWf hx)
  nvmWf hx := g.nvmWf (h.nvmWf hx)
  keySet hx := (g.keySet (by rw [h.keySet hx]; exact hx)).trans (h.keySet hx)

/-- An update of units only. -/
theorem Keeps.units {k : Allow} {d0 d : Dev} (h : Keeps k d0 d) {time : Timing} {voices : Tab Voice} {rings : Tab Ring} {writer : Writer}
    {tune : Tab Tune} {wms : Tab Wm} {excs : Tab Exc} {timers : Tab Timer} {fitV : Tab FitVoice} {fitP : Tab FitPair} {allan : Tab Allan}
    {allanFrom : Store} {items : List Item} {anas : Tab Ana} {anaItems : List AnaItem} {cap : Cap} {faults : FaultSt} {power : PowerSt}
    {pins : Pins} {sram : Sram} {pipe : Pipe} {track : TrackSt} {choir : ChoirSt} {logQueue : List LogRec} {logLost : Nat} {calst : CalSt}
    {img : ImgSt} {host : HostSt} {logs : LogSt} {free : Nat} :
    Keeps k d0 { d with time := time, voices := voices, rings := rings, writer := writer, tune := tune, wms := wms, excs := excs,
                        timers := timers, fitV := fitV, fitP := fitP, allan := allan, allanFrom := allanFrom, items := items,
                        anas := anas, anaItems := anaItems, cap := cap, faults := faults, power := power, pins := pins, sram := sram,
                        pipe := pipe, track := track, choir := choir, logQueue := logQueue, logLost := logLost, calst := calst,
                        img := img, host := host, logs := logs, free := free } :=
  ⟨h.cls, h.nvm, h.fuse, h.regsWf, h.snapsWf, h.nvmWf, h.keySet⟩

/-- An update of units and of the read snapshots. -/
theorem Keeps.snaps {k : Allow} {d0 d : Dev} (h : Keeps k d0 d) {m : Store} (hm : Store.wf d.snaps = true → Store.wf m = true) {host : HostSt}
    {anaItems : List AnaItem} {anas : Tab Ana} {pipe : Pipe} : Keeps k d0 { d with snaps := m, host := host, anaItems := anaItems, anas := anas, pipe := pipe } :=
  ⟨h.cls, h.nvm, h.fuse, h.regsWf, fun x => hm (h.snapsWf x), h.nvmWf, h.keySet⟩

/-- An update of the NVM. -/
theorem Keeps.setNvm {k : Allow} {d0 d : Dev} (hk : k.nvm = true) (h : Keeps k d0 d) {m : Store} (hm : Store.wf d.nvm = true → Store.wf m = true) :
    Keeps k d0 { d with nvm := m } :=
  ⟨h.cls, (fun x => by rw [hk] at x; exact absurd x (by decide)), h.fuse, h.regsWf, h.snapsWf, fun x => hm (h.nvmWf x), h.keySet⟩

/-- An update of the register file. -/
theorem Keeps.setRegs {k : Allow} {d0 d : Dev} (h : Keeps k d0 d) {r : RegFile} (hr : d.regs.wf = true → r.wf = true)
    (hc : ∀ c, k.cls c = false → r.table c = d.regs.table c) : Keeps k d0 { d with regs := r } :=
  ⟨fun c x => (hc c x).trans (h.cls c x), h.nvm, h.fuse, fun x => hr (h.regsWf x), h.snapsWf, h.nvmWf, h.keySet⟩

/-- An update of the fuses while KEY_SET is 0. -/
theorem Keeps.setFuses {k : Allow} {d0 d : Dev} (hk : k.fuse = true) (h : Keeps k d0 d) (ho : d.fuses.keySet = false) {x : Fuses} :
    Keeps k d0 { d with fuses := x } :=
  ⟨h.cls, h.nvm, (fun y => by rw [hk] at y; exact absurd y (by decide)), h.regsWf, h.snapsWf, h.nvmWf,
   fun y => absurd ((h.keySet y) ▸ ho) (by simp [y])⟩

/-- A field write. -/
theorem Keeps.wr {k : Allow} {d0 d : Dev} {f : Fld} {v : Nat} (hf : k.cls f.cls = true) (h : Keeps k d0 d) : Keeps k d0 (d.wr f v) :=
  h.setRegs (RegFile.wf_set f v) (fun c hc => RegFile.table_set_other _ v (fun e => by rw [e, hf] at hc; exact absurd hc (by decide)))

theorem Keeps.inc {k : Allow} {d0 d : Dev} {f : Fld} (hf : k.cls f.cls = true) (h : Keeps k d0 d) : Keeps k d0 (d.inc f) := h.wr hf

theorem Keeps.step1 {k : Allow} {d0 d : Dev} {f : Fld} (hf : k.cls f.cls = true) (h : Keeps k d0 d) : Keeps k d0 (d.step1 f) := h.wr hf

theorem Keeps.foldl {α : Type} {k : Allow} {d0 d : Dev} {l : List α} {f : Dev → α → Dev} (h : Keeps k d0 d)
    (hf : ∀ d x, x ∈ l → Keeps k d0 d → Keeps k d0 (f d x)) : Keeps k d0 (l.foldl f d) := by
  induction l generalizing d with
  | nil => exact h
  | cons x r ih => exact ih (hf d x List.mem_cons_self h) (fun d y hy => hf d y (List.mem_cons_of_mem _ hy))

theorem Keeps.each {α : Type} {k : Allow} {d0 d : Dev} {l : List α} {f : Dev → α → Dev} (h : Keeps k d0 d)
    (hf : ∀ d x, x ∈ l → Keeps k d0 d → Keeps k d0 (f d x)) : Keeps k d0 (d.each l f) := Keeps.foldl h hf

theorem Keeps.foldl1 {α β : Type} {k : Allow} {d0 : Dev} {a : Dev × β} {l : List α} {f : Dev × β → α → Dev × β} (h : Keeps1 k d0 a)
    (hf : ∀ a x, x ∈ l → Keeps1 k d0 a → Keeps1 k d0 (f a x)) : Keeps1 k d0 (l.foldl f a) := by
  induction l generalizing a with
  | nil => exact h
  | cons x r ih => exact ih (hf a x List.mem_cons_self h) (fun d y hy => hf d y (List.mem_cons_of_mem _ hy))

theorem Keeps.when {k : Allow} {d0 d : Dev} {c : Bool} {f : Dev → Dev} (h : Keeps k d0 d)
    (hf : ∀ d, Keeps k d0 d → Keeps k d0 (f d)) : Keeps k d0 (d.when c f) := by
  unfold Dev.when
  split
  · exact hf d h
  · exact h

/-- A class S field may always change. -/
theorem Allow.cls_S {k : Allow} {c : Cls} (h : c = .S) : k.cls c = true := by rw [h]; rfl

/-- A field of a list of class S fields. -/
theorem Allow.cls_mem {k : Allow} {l : List Fld} {f : Fld} (hm : f ∈ l) (hl : l.all (fun x => x.cls == .S) = true) : k.cls f.cls = true :=
  Allow.cls_S (by simpa using List.all_eq_true.mp hl f hm)

theorem Allow.cls_fst {α : Type} {k : Allow} {l : List (Fld × α)} {p : Fld × α} (hm : p ∈ l) (hl : l.all (fun x => x.1.cls == .S) = true) :
    k.cls p.1.cls = true :=
  Allow.cls_S (by simpa using List.all_eq_true.mp hl p hm)

theorem Allow.cls_snd {α : Type} {k : Allow} {l : List (α × Fld)} {p : α × Fld} (hm : p ∈ l) (hl : l.all (fun x => x.2.cls == .S) = true) :
    k.cls p.2.cls = true :=
  Allow.cls_S (by simpa using List.all_eq_true.mp hl p hm)

theorem laneState_cls (p l : Nat) : (laneState p l).cls = .S := by unfold laneState; split <;> rfl
theorem laneFails_cls (p l : Nat) : (laneFails p l).cls = .S := by unfold laneFails; split <;> rfl
theorem laneErrors_cls (p l : Nat) : (laneErrors p l).cls = .S := by unfold laneErrors; split <;> rfl
theorem slotFld_cls (s : Nat) : (slotFld s).cls = .S := by unfold slotFld; split <;> rfl

theorem causeFld_cls (n : Nat) : (causeFld n).cls = .B := by unfold causeFld; split <;> rfl

theorem Store.wf_foldl {α : Type} {f : Store → α → Store} (hf : ∀ s x, Store.wf s = true → Store.wf (f s x) = true) (l : List α) {s : Store}
    (h : Store.wf s = true) : Store.wf (l.foldl f s) = true := by
  induction l generalizing s with
  | nil => exact h
  | cons x r ih => exact ih (hf s x h)

theorem nvmProgram_wf {m : Store} (a : Nat) (l : List Nat) (h : Store.wf m = true) : Store.wf (nvmProgram m a l) = true :=
  Store.wf_foldl (fun _ _ hs => Store.wf_write _ _ hs) _ h

theorem nvmSpoil_wf {m : Store} (a : Nat) (l : List Nat) (f : Nat) (h : Store.wf m = true) : Store.wf (nvmSpoil m a l f) = true :=
  nvmProgram_wf _ _ h

theorem nvmErase_wf {m : Store} (a : Nat) (h : Store.wf m = true) : Store.wf (nvmErase m a) = true := Store.wf_clearRange _ _ h

theorem nvmHalfErase_wf {m : Store} (a f : Nat) (h : Store.wf m = true) : Store.wf (nvmHalfErase m a f) = true :=
  Store.wf_foldl (fun _ _ hs => Store.wf_write _ _ hs) _ h

theorem keepHigh_wf {s : Store} (a v n : Nat) (h : Store.wf s = true) : Store.wf (keepHigh s a v n) = true := by
  induction n with
  | zero => exact h
  | succ n ih => exact Store.wf_write _ _ ih

/-- Fields that a register write may change: their class is not that of the fuses, the NVM or the image. -/
def openFields (fs : List Fld) : Bool :=
  fs.all (fun f => (f.acc != .rw && f.acc != .w1c) || (f.cls == .S || f.cls == .B || f.cls == .P || f.cls == .H))

theorem regRows0_open : ∀ r ∈ regRows0, ∀ n m, openFields (r.fields n m) = true := by
  unfold regRows0
  repeat' first
    | exact fun _ _ => rfl
    | refine List.forall_mem_cons.2 ⟨?_, ?_⟩
    | exact List.forall_mem_nil _

theorem regRows1_open : ∀ r ∈ regRows1, ∀ n m, openFields (r.fields n m) = true := by
  unfold regRows1
  repeat' first
    | exact fun _ _ => rfl
    | refine List.forall_mem_cons.2 ⟨?_, ?_⟩
    | exact List.forall_mem_nil _

theorem regRows2_open : ∀ r ∈ regRows2, ∀ n m, openFields (r.fields n m) = true := by
  unfold regRows2
  repeat' first
    | exact fun _ _ => rfl
    | refine List.forall_mem_cons.2 ⟨?_, ?_⟩
    | exact List.forall_mem_nil _

theorem regRows3_open : ∀ r ∈ regRows3, ∀ n m, openFields (r.fields n m) = true := by
  unfold regRows3
  repeat' first
    | exact fun _ _ => rfl
    | refine List.forall_mem_cons.2 ⟨?_, ?_⟩
    | exact List.forall_mem_nil _

theorem regRows4_open : ∀ r ∈ regRows4, ∀ n m, openFields (r.fields n m) = true := by
  unfold regRows4
  repeat' first
    | exact fun _ _ => rfl
    | refine List.forall_mem_cons.2 ⟨?_, ?_⟩
    | exact List.forall_mem_nil _

theorem regRows5_open : ∀ r ∈ regRows5, ∀ n m, openFields (r.fields n m) = true := by
  unfold regRows5
  repeat' first
    | exact fun _ _ => rfl
    | refine List.forall_mem_cons.2 ⟨?_, ?_⟩
    | exact List.forall_mem_nil _

theorem regRows6_open : ∀ r ∈ regRows6, ∀ n m, openFields (r.fields n m) = true := by
  unfold regRows6
  repeat' first
    | exact fun _ _ => rfl
    | refine List.forall_mem_cons.2 ⟨?_, ?_⟩
    | exact List.forall_mem_nil _

theorem regRows7_open : ∀ r ∈ regRows7, ∀ n m, openFields (r.fields n m) = true := by
  unfold regRows7
  repeat' first
    | exact fun _ _ => rfl
    | refine List.forall_mem_cons.2 ⟨?_, ?_⟩
    | exact List.forall_mem_nil _

theorem regRows8_open : ∀ r ∈ regRows8, ∀ n m, openFields (r.fields n m) = true := by
  unfold regRows8
  repeat' first
    | exact fun _ _ => rfl
    | refine List.forall_mem_cons.2 ⟨?_, ?_⟩
    | exact List.forall_mem_nil _

theorem regRows9_open : ∀ r ∈ regRows9, ∀ n m, openFields (r.fields n m) = true := by
  unfold regRows9
  repeat' first
    | exact fun _ _ => rfl
    | refine List.forall_mem_cons.2 ⟨?_, ?_⟩
    | exact List.forall_mem_nil _

/-- The fields of a word that a write may change have class S, B, P or H. -/
theorem fieldsAt_open {a : Nat} {fs : List Fld} (h : fieldsAt a = some fs) : openFields fs = true := by
  unfold fieldsAt at h
  obtain ⟨r, hr, hp⟩ := List.exists_of_findSome?_eq_some h
  obtain ⟨p, -, rfl⟩ := Option.map_eq_some_iff.1 hp
  unfold regRows at hr
  simp only [List.mem_append] at hr
  rcases hr with ((((((((h|h)|h)|h)|h)|h)|h)|h)|h)|h
  · exact regRows0_open r h _ _
  · exact regRows1_open r h _ _
  · exact regRows2_open r h _ _
  · exact regRows3_open r h _ _
  · exact regRows4_open r h _ _
  · exact regRows5_open r h _ _
  · exact regRows6_open r h _ _
  · exact regRows7_open r h _ _
  · exact regRows8_open r h _ _
  · exact regRows9_open r h _ _

end Sys2Proof.Machine
end

