-- ==== Sys2Proof/Laws/Does.lean ====
section
/-! SUPPORT. From the effect of a command on the device to what exec answers. -/

namespace Sys2Proof.Machine

set_option Elab.async false

/-- Every command answers a next state and leaves the queue. -/
theorem State.onDev_completes (i : Instr) (s : State) (f : Dev → Dev) : ∃ t, s.onDev i f = .next t ∧ t.pending = s.pending :=
  ⟨_, rfl, rfl⟩

/-- What an effect keeps, its command keeps. -/
theorem State.onDev_keeps {i : Instr} {k : Allow} {f : Dev → Dev} {s t : State} (h : s.onDev i f = .next t)
    (hf : Keeps k s.dev (f s.dev)) : t.pending = s.pending ∧ Keeps k s.dev t.dev := by
  unfold State.onDev at h
  injection h with h
  subst h
  refine ⟨rfl, ?_⟩
  dsimp only
  split
  · exact hf
  · exact Keeps.refl _ _

/-- A well-formed command does what its effect does. -/
theorem Does.of_onDev {c : Instr} {s : State} {f : Dev → Dev} {P : Dev → Prop} (h : exec c s = s.onDev c f) (w : c.wf = true)
    (p : P (f s.dev)) : Does c s P := ⟨{ s with dev := f s.dev }, h.trans (State.onDev_wf s f w), rfl, p⟩

theorem Does.mono {c : Instr} {s : State} {P Q : Dev → Prop} (h : Does c s P) (g : ∀ d, P d → Q d) : Does c s Q :=
  let ⟨t, e, q, p⟩ := h
  ⟨t, e, q, g _ p⟩

/-- Two descriptions of what one command does hold together. -/
theorem Does.and {c : Instr} {s : State} {P Q : Dev → Prop} (h : Does c s P) (g : Does c s Q) : Does c s fun d => P d ∧ Q d := by
  obtain ⟨t, e, q, p⟩ := h
  obtain ⟨t', e', _, p'⟩ := g
  rw [e] at e'
  injection e' with e'
  subst e'
  exact ⟨t, e, q, p, p'⟩

/-- A block that meets no error in its state reads it and changes nothing. -/
@[simp] theorem Dev.readState_nil (user : Nat) (d : Dev) : d.readState user [] = d := by
  cases h : d.alive <;> simp [Dev.readState, Dev.meetUpsets, Dev.each, h]

end Sys2Proof.Machine
end

