-- ==== Sys2Proof/Laws/Effects1.lean ====
section
/-! SUPPORT.
What each effect of the device keeps, part 1 of 6: `f_keeps` says which classes of fields, the NVM or the fuses `f` may change (its
hypotheses on `k`), and that it keeps the canonical forms.
-/

set_option linter.unusedTactic false
set_option linter.unreachableTactic false
set_option linter.unusedVariables false
set_option maxRecDepth 4000

namespace Sys2Proof.Machine

set_option Elab.async false

theorem Dev.nextFree_keeps {k : Allow} {d0 : Dev} {d : Dev} (h : Keeps k d0 d) : Keeps k d0 (Dev.nextFree d) := by
  unfold Dev.nextFree
  repeat' first
    | with_reducible assumption
    | (extract_lets +onlyGivenNames x; first | (have hx : Keeps k d0 x := ?_; clear_value x; swap; subst x; swap) | (have hx : Keeps1 k d0 x := ?_; clear_value x; swap; subst x; swap) | subst x)
    | exact Allow.cls_S rfl
    | with_reducible exact Keeps.units (by assumption)
    | split

theorem Dev.putVoice_keeps {k : Allow} {d0 : Dev} {d : Dev} {n : Nat} {v : Voice} (h : Keeps k d0 d) : Keeps k d0 (Dev.putVoice d n v) := by
  unfold Dev.putVoice
  repeat' first
    | with_reducible assumption
    | (extract_lets +onlyGivenNames x; first | (have hx : Keeps k d0 x := ?_; clear_value x; swap; subst x; swap) | (have hx : Keeps1 k d0 x := ?_; clear_value x; swap; subst x; swap) | subst x)
    | exact Allow.cls_S rfl
    | with_reducible refine Keeps.wr ?_ ?_
    | with_reducible exact Keeps.units (by assumption)
    | split

theorem Dev.putRing_keeps {k : Allow} {d0 : Dev} {d : Dev} {n : Nat} {r : Ring} (h : Keeps k d0 d) : Keeps k d0 (Dev.putRing d n r) := by
  unfold Dev.putRing
  repeat' first
    | with_reducible assumption
    | (extract_lets +onlyGivenNames x; first | (have hx : Keeps k d0 x := ?_; clear_value x; swap; subst x; swap) | (have hx : Keeps1 k d0 x := ?_; clear_value x; swap; subst x; swap) | subst x)
    | exact Allow.cls_S rfl
    | with_reducible exact Keeps.units (by assumption)
    | split

theorem Dev.putTun_keeps {k : Allow} {d0 : Dev} {d : Dev} {c : Nat} {t : Tune} (h : Keeps k d0 d) : Keeps k d0 (Dev.putTun d c t) := by
  unfold Dev.putTun
  repeat' first
    | with_reducible assumption
    | (extract_lets +onlyGivenNames x; first | (have hx : Keeps k d0 x := ?_; clear_value x; swap; subst x; swap) | (have hx : Keeps1 k d0 x := ?_; clear_value x; swap; subst x; swap) | subst x)
    | exact Allow.cls_S rfl
    | with_reducible exact Keeps.units (by assumption)
    | split

theorem Dev.putWm_keeps {k : Allow} {d0 : Dev} {d : Dev} {m : Nat} {w : Wm} (h : Keeps k d0 d) : Keeps k d0 (Dev.putWm d m w) := by
  unfold Dev.putWm
  repeat' first
    | with_reducible assumption
    | (extract_lets +onlyGivenNames x; first | (have hx : Keeps k d0 x := ?_; clear_value x; swap; subst x; swap) | (have hx : Keeps1 k d0 x := ?_; clear_value x; swap; subst x; swap) | subst x)
    | exact Allow.cls_S rfl
    | with_reducible exact Keeps.units (by assumption)
    | split

theorem Dev.putExc_keeps {k : Allow} {d0 : Dev} {d : Dev} {x0 : Nat} {e : Exc} (h : Keeps k d0 d) : Keeps k d0 (Dev.putExc d x0 e) := by
  unfold Dev.putExc
  repeat' first
    | with_reducible assumption
    | (extract_lets +onlyGivenNames x; first | (have hx : Keeps k d0 x := ?_; clear_value x; swap; subst x; swap) | (have hx : Keeps1 k d0 x := ?_; clear_value x; swap; subst x; swap) | subst x)
    | exact Allow.cls_S rfl
    | with_reducible exact Keeps.units (by assumption)
    | split

theorem Dev.putTimer_keeps {k : Allow} {d0 : Dev} {d : Dev} {t : Nat} {x0 : Timer} (h : Keeps k d0 d) : Keeps k d0 (Dev.putTimer d t x0) := by
  unfold Dev.putTimer
  repeat' first
    | with_reducible assumption
    | (extract_lets +onlyGivenNames x; first | (have hx : Keeps k d0 x := ?_; clear_value x; swap; subst x; swap) | (have hx : Keeps1 k d0 x := ?_; clear_value x; swap; subst x; swap) | subst x)
    | exact Allow.cls_S rfl
    | with_reducible exact Keeps.units (by assumption)
    | split

theorem Dev.advance_keeps {k : Allow} {d0 : Dev} {d : Dev} {c : Nat} (h : Keeps k d0 d) : Keeps k d0 (Dev.advance d c) := by
  unfold Dev.advance
  repeat' first
    | with_reducible assumption
    | (extract_lets +onlyGivenNames x; first | (have hx : Keeps k d0 x := ?_; clear_value x; swap; subst x; swap) | (have hx : Keeps1 k d0 x := ?_; clear_value x; swap; subst x; swap) | subst x)
    | exact Allow.cls_S rfl
    | with_reducible exact Keeps.units (by assumption)
    | split

theorem Dev.followOcxo_keeps {k : Allow} {d0 : Dev} {d : Dev} (h : Keeps k d0 d) : Keeps k d0 (Dev.followOcxo d) := by
  unfold Dev.followOcxo
  repeat' first
    | with_reducible assumption
    | (extract_lets +onlyGivenNames x; first | (have hx : Keeps k d0 x := ?_; clear_value x; swap; subst x; swap) | (have hx : Keeps1 k d0 x := ?_; clear_value x; swap; subst x; swap) | subst x)
    | exact Allow.cls_S rfl
    | with_reducible refine Keeps.wr ?_ ?_
    | with_reducible exact Keeps.units (by assumption)
    | split

theorem Dev.offer_keeps {k : Allow} {d0 : Dev} {d : Dev} {ring : Nat} {producer : Nat} {words : List Nat} (h : Keeps k d0 d) : Keeps k d0 (Dev.offer d ring producer words) := by
  unfold Dev.offer
  repeat' first
    | with_reducible assumption
    | (extract_lets +onlyGivenNames x; first | (have hx : Keeps k d0 x := ?_; clear_value x; swap; subst x; swap) | (have hx : Keeps1 k d0 x := ?_; clear_value x; swap; subst x; swap) | subst x)
    | exact Allow.cls_S rfl
    | with_reducible exact Keeps.units (by assumption)
    | split

theorem Dev.raiseEpoch_keeps {k : Allow} {d0 : Dev} {d : Dev} {producer : Nat} (h : Keeps k d0 d) : Keeps k d0 (Dev.raiseEpoch d producer) := by
  unfold Dev.raiseEpoch
  repeat' first
    | with_reducible assumption
    | (extract_lets +onlyGivenNames x; first | (have hx : Keeps k d0 x := ?_; clear_value x; swap; subst x; swap) | (have hx : Keeps1 k d0 x := ?_; clear_value x; swap; subst x; swap) | subst x)
    | exact Allow.cls_S rfl
    | with_reducible exact Keeps.units (by assumption)
    | split

theorem Dev.notify_keeps {k : Allow} {d0 : Dev} {d : Dev} {kind : Nat} {sub : Nat} {arg : Nat} (h : Keeps k d0 d) : Keeps k d0 (Dev.notify d kind sub arg) := by
  unfold Dev.notify
  repeat' first
    | with_reducible assumption
    | (extract_lets +onlyGivenNames x; first | (have hx : Keeps k d0 x := ?_; clear_value x; swap; subst x; swap) | (have hx : Keeps1 k d0 x := ?_; clear_value x; swap; subst x; swap) | subst x)
    | exact Allow.cls_S rfl
    | with_reducible refine Dev.offer_keeps ?_
    | with_reducible exact Keeps.units (by assumption)
    | split

theorem Dev.putLog_keeps {k : Allow} {d0 : Dev} {d : Dev} {q : List LogRec} (h : Keeps k d0 d) : Keeps k d0 (Dev.putLog d q) := by
  unfold Dev.putLog
  repeat' first
    | with_reducible assumption
    | (extract_lets +onlyGivenNames x; first | (have hx : Keeps k d0 x := ?_; clear_value x; swap; subst x; swap) | (have hx : Keeps1 k d0 x := ?_; clear_value x; swap; subst x; swap) | subst x)
    | exact Allow.cls_S rfl
    | with_reducible refine Keeps.wr ?_ ?_
    | with_reducible exact Keeps.units (by assumption)
    | split

theorem Dev.queueLog_keeps {k : Allow} {d0 : Dev} {d : Dev} {r : LogRec} (h : Keeps k d0 d) : Keeps k d0 (Dev.queueLog d r) := by
  unfold Dev.queueLog
  repeat' first
    | with_reducible assumption
    | (extract_lets +onlyGivenNames x; first | (have hx : Keeps k d0 x := ?_; clear_value x; swap; subst x; swap) | (have hx : Keeps1 k d0 x := ?_; clear_value x; swap; subst x; swap) | subst x)
    | exact Allow.cls_S rfl
    | with_reducible refine Dev.putLog_keeps ?_
    | with_reducible refine Keeps.inc ?_ ?_
    | with_reducible exact Keeps.units (by assumption)
    | split

theorem Dev.log_keeps {k : Allow} {d0 : Dev} {d : Dev} {kind : Nat} {payload : List Nat} (h : Keeps k d0 d) : Keeps k d0 (Dev.log d kind payload) := by
  unfold Dev.log
  repeat' first
    | with_reducible assumption
    | (extract_lets +onlyGivenNames x; first | (have hx : Keeps k d0 x := ?_; clear_value x; swap; subst x; swap) | (have hx : Keeps1 k d0 x := ?_; clear_value x; swap; subst x; swap) | subst x)
    | exact Allow.cls_S rfl
    | with_reducible refine Dev.queueLog_keeps ?_
    | with_reducible exact Keeps.units (by assumption)
    | split

theorem Dev.choirEvent_keeps {k : Allow} {d0 : Dev} {d : Dev} {mask : Nat} (h : Keeps k d0 d) : Keeps k d0 (Dev.choirEvent d mask) := by
  unfold Dev.choirEvent
  repeat' first
    | with_reducible assumption
    | (extract_lets +onlyGivenNames x; first | (have hx : Keeps k d0 x := ?_; clear_value x; swap; subst x; swap) | (have hx : Keeps1 k d0 x := ?_; clear_value x; swap; subst x; swap) | subst x)
    | exact Allow.cls_S rfl
    | ((with_reducible first | refine Allow.cls_mem (by assumption) ?_ | refine Allow.cls_fst (by assumption) ?_ | refine Allow.cls_snd (by assumption) ?_); rfl)
    | with_reducible refine Dev.log_keeps ?_
    | with_reducible refine Dev.notify_keeps ?_
    | with_reducible refine Keeps.wr ?_ ?_
    | with_reducible refine Keeps.each ?_ (fun d x hm hd => ?_)
    | with_reducible exact Keeps.units (by assumption)
    | split

theorem Dev.putAna_keeps {k : Allow} {d0 : Dev} {d : Dev} {a : Nat} {x0 : Ana} (h : Keeps k d0 d) : Keeps k d0 (Dev.putAna d a x0) := by
  unfold Dev.putAna
  repeat' first
    | with_reducible assumption
    | (extract_lets +onlyGivenNames x; first | (have hx : Keeps k d0 x := ?_; clear_value x; swap; subst x; swap) | (have hx : Keeps1 k d0 x := ?_; clear_value x; swap; subst x; swap) | subst x)
    | exact Allow.cls_S rfl
    | with_reducible exact Keeps.units (by assumption)
    | split

theorem Dev.restVoice_keeps {k : Allow} {d0 : Dev} {d : Dev} {n : Nat} {reason : Nat} (h : Keeps k d0 d) : Keeps k d0 (Dev.restVoice d n reason) := by
  unfold Dev.restVoice
  repeat' first
    | with_reducible assumption
    | (extract_lets +onlyGivenNames x; first | (have hx : Keeps k d0 x := ?_; clear_value x; swap; subst x; swap) | (have hx : Keeps1 k d0 x := ?_; clear_value x; swap; subst x; swap) | subst x)
    | exact Allow.cls_S rfl
    | ((with_reducible first | refine Allow.cls_mem (by assumption) ?_ | refine Allow.cls_fst (by assumption) ?_ | refine Allow.cls_snd (by assumption) ?_); rfl)
    | with_reducible refine Dev.putAna_keeps ?_
    | with_reducible refine Dev.putVoice_keeps ?_
    | with_reducible refine Keeps.each ?_ (fun d x hm hd => ?_)
    | with_reducible exact Keeps.units (by assumption)
    | split

theorem Dev.restAll_keeps {k : Allow} {d0 : Dev} {d : Dev} {reason : Nat} (h : Keeps k d0 d) : Keeps k d0 (Dev.restAll d reason) := by
  unfold Dev.restAll
  repeat' first
    | with_reducible assumption
    | (extract_lets +onlyGivenNames x; first | (have hx : Keeps k d0 x := ?_; clear_value x; swap; subst x; swap) | (have hx : Keeps1 k d0 x := ?_; clear_value x; swap; subst x; swap) | subst x)
    | exact Allow.cls_S rfl
    | ((with_reducible first | refine Allow.cls_mem (by assumption) ?_ | refine Allow.cls_fst (by assumption) ?_ | refine Allow.cls_snd (by assumption) ?_); rfl)
    | with_reducible refine Dev.restVoice_keeps ?_
    | with_reducible refine Keeps.each ?_ (fun d x hm hd => ?_)
    | with_reducible exact Keeps.units (by assumption)
    | split

theorem Dev.spPin_keeps {k : Allow} {d0 : Dev} {d : Dev} {i : Nat} {level : Nat} (h : Keeps k d0 d) : Keeps k d0 (Dev.spPin d i level) := by
  unfold Dev.spPin
  repeat' first
    | with_reducible assumption
    | (extract_lets +onlyGivenNames x; first | (have hx : Keeps k d0 x := ?_; clear_value x; swap; subst x; swap) | (have hx : Keeps1 k d0 x := ?_; clear_value x; swap; subst x; swap) | subst x)
    | exact Allow.cls_S rfl
    | with_reducible exact Keeps.units (by assumption)
    | split

theorem Dev.spForce_keeps {k : Allow} {d0 : Dev} {d : Dev} {i : Nat} (h : Keeps k d0 d) : Keeps k d0 (Dev.spForce d i) := by
  unfold Dev.spForce
  repeat' first
    | with_reducible assumption
    | (extract_lets +onlyGivenNames x; first | (have hx : Keeps k d0 x := ?_; clear_value x; swap; subst x; swap) | (have hx : Keeps1 k d0 x := ?_; clear_value x; swap; subst x; swap) | subst x)
    | exact Allow.cls_S rfl
    | with_reducible refine Dev.spPin_keeps ?_
    | with_reducible refine Keeps.wr ?_ ?_
    | with_reducible exact Keeps.units (by assumption)
    | split

theorem Dev.spForceAll_keeps {k : Allow} {d0 : Dev} {d : Dev} (h : Keeps k d0 d) : Keeps k d0 (Dev.spForceAll d) := by
  unfold Dev.spForceAll
  repeat' first
    | with_reducible assumption
    | (extract_lets +onlyGivenNames x; first | (have hx : Keeps k d0 x := ?_; clear_value x; swap; subst x; swap) | (have hx : Keeps1 k d0 x := ?_; clear_value x; swap; subst x; swap) | subst x)
    | exact Allow.cls_S rfl
    | ((with_reducible first | refine Allow.cls_mem (by assumption) ?_ | refine Allow.cls_fst (by assumption) ?_ | refine Allow.cls_snd (by assumption) ?_); rfl)
    | with_reducible refine Dev.spForce_keeps ?_
    | with_reducible refine Keeps.each ?_ (fun d x hm hd => ?_)
    | with_reducible exact Keeps.units (by assumption)
    | split

theorem Dev.totLow_keeps {k : Allow} {d0 : Dev} {d : Dev} (h : Keeps k d0 d) : Keeps k d0 (Dev.totLow d) := by
  unfold Dev.totLow
  repeat' first
    | with_reducible assumption
    | (extract_lets +onlyGivenNames x; first | (have hx : Keeps k d0 x := ?_; clear_value x; swap; subst x; swap) | (have hx : Keeps1 k d0 x := ?_; clear_value x; swap; subst x; swap) | subst x)
    | exact Allow.cls_S rfl
    | with_reducible exact Keeps.units (by assumption)
    | split

theorem Dev.excSafe_keeps {k : Allow} {d0 : Dev} {d : Dev} {x0 : Nat} (h : Keeps k d0 d) : Keeps k d0 (Dev.excSafe d x0) := by
  unfold Dev.excSafe
  repeat' first
    | with_reducible assumption
    | (extract_lets +onlyGivenNames x; first | (have hx : Keeps k d0 x := ?_; clear_value x; swap; subst x; swap) | (have hx : Keeps1 k d0 x := ?_; clear_value x; swap; subst x; swap) | subst x)
    | exact Allow.cls_S rfl
    | with_reducible refine Dev.putExc_keeps ?_
    | with_reducible exact Keeps.units (by assumption)
    | split

theorem Dev.excSafeAll_keeps {k : Allow} {d0 : Dev} {d : Dev} (h : Keeps k d0 d) : Keeps k d0 (Dev.excSafeAll d) := by
  unfold Dev.excSafeAll
  repeat' first
    | with_reducible assumption
    | (extract_lets +onlyGivenNames x; first | (have hx : Keeps k d0 x := ?_; clear_value x; swap; subst x; swap) | (have hx : Keeps1 k d0 x := ?_; clear_value x; swap; subst x; swap) | subst x)
    | exact Allow.cls_S rfl
    | ((with_reducible first | refine Allow.cls_mem (by assumption) ?_ | refine Allow.cls_fst (by assumption) ?_ | refine Allow.cls_snd (by assumption) ?_); rfl)
    | with_reducible refine Dev.excSafe_keeps ?_
    | with_reducible refine Keeps.each ?_ (fun d x hm hd => ?_)
    | with_reducible exact Keeps.units (by assumption)
    | split

theorem Dev.restartFilters_keeps {k : Allow} {d0 : Dev} {d : Dev} (h : Keeps k d0 d) : Keeps k d0 (Dev.restartFilters d) := by
  unfold Dev.restartFilters
  repeat' first
    | with_reducible assumption
    | (extract_lets +onlyGivenNames x; first | (have hx : Keeps k d0 x := ?_; clear_value x; swap; subst x; swap) | (have hx : Keeps1 k d0 x := ?_; clear_value x; swap; subst x; swap) | subst x)
    | exact Allow.cls_S rfl
    | with_reducible refine Keeps.wr ?_ ?_
    | with_reducible exact Keeps.units (by assumption)
    | split

theorem Dev.showError_keeps {k : Allow} {d0 : Dev} {d : Dev} {cause : Nat} (h : Keeps k d0 d) : Keeps k d0 (Dev.showError d cause) := by
  unfold Dev.showError
  repeat' first
    | with_reducible assumption
    | (extract_lets +onlyGivenNames x; first | (have hx : Keeps k d0 x := ?_; clear_value x; swap; subst x; swap) | (have hx : Keeps1 k d0 x := ?_; clear_value x; swap; subst x; swap) | subst x)
    | exact Allow.cls_S rfl
    | with_reducible refine Keeps.wr ?_ ?_
    | with_reducible exact Keeps.units (by assumption)
    | split

theorem Dev.countCommit_keeps {k : Allow} {d0 : Dev} {d : Dev} {kind : Nat} (h : Keeps k d0 d) : Keeps k d0 (Dev.countCommit d kind) := by
  unfold Dev.countCommit
  repeat' first
    | with_reducible assumption
    | (extract_lets +onlyGivenNames x; first | (have hx : Keeps k d0 x := ?_; clear_value x; swap; subst x; swap) | (have hx : Keeps1 k d0 x := ?_; clear_value x; swap; subst x; swap) | subst x)
    | exact Allow.cls_S rfl
    | with_reducible refine Dev.notify_keeps ?_
    | with_reducible refine Keeps.step1 ?_ ?_
    | with_reducible exact Keeps.units (by assumption)
    | split

theorem Dev.commitError_keeps {k : Allow} {d0 : Dev} {d : Dev} {cause : Nat} (h : Keeps k d0 d) : Keeps k d0 (Dev.commitError d cause) := by
  unfold Dev.commitError
  repeat' first
    | with_reducible assumption
    | (extract_lets +onlyGivenNames x; first | (have hx : Keeps k d0 x := ?_; clear_value x; swap; subst x; swap) | (have hx : Keeps1 k d0 x := ?_; clear_value x; swap; subst x; swap) | subst x)
    | exact Allow.cls_S rfl
    | with_reducible refine Dev.countCommit_keeps ?_
    | with_reducible refine Dev.spForceAll_keeps ?_
    | with_reducible refine Dev.restartFilters_keeps ?_
    | with_reducible refine Dev.showError_keeps ?_
    | with_reducible exact Keeps.units (by assumption)
    | split

theorem Dev.putTrack_keeps {k : Allow} {d0 : Dev} {d : Dev} {t : TrackSt} (h : Keeps k d0 d) : Keeps k d0 (Dev.putTrack d t) := by
  unfold Dev.putTrack
  repeat' first
    | with_reducible assumption
    | (extract_lets +onlyGivenNames x; first | (have hx : Keeps k d0 x := ?_; clear_value x; swap; subst x; swap) | (have hx : Keeps1 k d0 x := ?_; clear_value x; swap; subst x; swap) | subst x)
    | exact Allow.cls_S rfl
    | with_reducible exact Keeps.units (by assumption)
    | split

theorem Dev.putLive_keeps {k : Allow} {d0 : Dev} {d : Dev} {lower : Nat} {upper : Nat} {hyst : Nat} (h : Keeps k d0 d) : Keeps k d0 (Dev.putLive d lower upper hyst) := by
  unfold Dev.putLive
  repeat' first
    | with_reducible assumption
    | (extract_lets +onlyGivenNames x; first | (have hx : Keeps k d0 x := ?_; clear_value x; swap; subst x; swap) | (have hx : Keeps1 k d0 x := ?_; clear_value x; swap; subst x; swap) | subst x)
    | exact Allow.cls_S rfl
    | with_reducible refine Keeps.wr ?_ ?_
    | with_reducible exact Keeps.units (by assumption)
    | split

theorem Dev.leaveZones_keeps {k : Allow} {d0 : Dev} {d : Dev} (h : Keeps k d0 d) : Keeps k d0 (Dev.leaveZones d) := by
  unfold Dev.leaveZones
  repeat' first
    | with_reducible assumption
    | (extract_lets +onlyGivenNames x; first | (have hx : Keeps k d0 x := ?_; clear_value x; swap; subst x; swap) | (have hx : Keeps1 k d0 x := ?_; clear_value x; swap; subst x; swap) | subst x)
    | exact Allow.cls_S rfl
    | with_reducible refine Dev.putTrack_keeps ?_
    | with_reducible refine Dev.putLive_keeps ?_
    | with_reducible exact Keeps.units (by assumption)
    | split

theorem Dev.countFrame_keeps {k : Allow} {d0 : Dev} {d : Dev} {segs : List Nat} {good : Bool} (h : Keeps k d0 d) : Keeps k d0 (Dev.countFrame d segs good) := by
  unfold Dev.countFrame
  repeat' first
    | with_reducible assumption
    | (extract_lets +onlyGivenNames x; first | (have hx : Keeps k d0 x := ?_; clear_value x; swap; subst x; swap) | (have hx : Keeps1 k d0 x := ?_; clear_value x; swap; subst x; swap) | subst x)
    | exact Allow.cls_S rfl
    | ((with_reducible first | refine Allow.cls_mem (by assumption) ?_ | refine Allow.cls_fst (by assumption) ?_ | refine Allow.cls_snd (by assumption) ?_); rfl)
    | with_reducible refine Dev.putTrack_keeps ?_
    | with_reducible refine Keeps.foldl ?_ (fun d x hm hd => ?_)
    | with_reducible refine Keeps.foldl1 ?_ (fun d x hm hd => ?_)
    | with_reducible exact Keeps.units (by assumption)
    | split

theorem Dev.heavyFrame_keeps {k : Allow} {d0 : Dev} {d : Dev} {segs : List Nat} (h : Keeps k d0 d) : Keeps k d0 (Dev.heavyFrame d segs) := by
  unfold Dev.heavyFrame
  repeat' first
    | with_reducible assumption
    | (extract_lets +onlyGivenNames x; first | (have hx : Keeps k d0 x := ?_; clear_value x; swap; subst x; swap) | (have hx : Keeps1 k d0 x := ?_; clear_value x; swap; subst x; swap) | subst x)
    | exact Allow.cls_S rfl
    | ((with_reducible first | refine Allow.cls_mem (by assumption) ?_ | refine Allow.cls_fst (by assumption) ?_ | refine Allow.cls_snd (by assumption) ?_); rfl)
    | with_reducible refine Dev.putTrack_keeps ?_
    | with_reducible refine Keeps.inc ?_ ?_
    | with_reducible refine Keeps.foldl ?_ (fun d x hm hd => ?_)
    | with_reducible refine Keeps.foldl1 ?_ (fun d x hm hd => ?_)
    | with_reducible exact Keeps.units (by assumption)
    | split

theorem Dev.markZone_keeps {k : Allow} {d0 : Dev} {d : Dev} {mask : Nat} (h : Keeps k d0 d) : Keeps k d0 (Dev.markZone d mask) := by
  unfold Dev.markZone
  repeat' first
    | with_reducible assumption
    | (extract_lets +onlyGivenNames x; first | (have hx : Keeps k d0 x := ?_; clear_value x; swap; subst x; swap) | (have hx : Keeps1 k d0 x := ?_; clear_value x; swap; subst x; swap) | subst x)
    | exact Allow.cls_S rfl
    | with_reducible refine Dev.putTrack_keeps ?_
    | with_reducible exact Keeps.units (by assumption)
    | split

theorem Dev.suspectTotals_keeps {k : Allow} {d0 : Dev} {d : Dev} (h : Keeps k d0 d) : Keeps k d0 (Dev.suspectTotals d) := by
  unfold Dev.suspectTotals
  repeat' first
    | with_reducible assumption
    | (extract_lets +onlyGivenNames x; first | (have hx : Keeps k d0 x := ?_; clear_value x; swap; subst x; swap) | (have hx : Keeps1 k d0 x := ?_; clear_value x; swap; subst x; swap) | subst x)
    | exact Allow.cls_S rfl
    | ((with_reducible first | refine Allow.cls_mem (by assumption) ?_ | refine Allow.cls_fst (by assumption) ?_ | refine Allow.cls_snd (by assumption) ?_); rfl)
    | with_reducible refine Keeps.wr ?_ ?_
    | with_reducible refine Keeps.each ?_ (fun d x hm hd => ?_)
    | with_reducible exact Keeps.units (by assumption)
    | split

theorem Dev.closeGate_keeps {k : Allow} {d0 : Dev} {d : Dev} {reason : Nat} (h : Keeps k d0 d) : Keeps k d0 (Dev.closeGate d reason) := by
  unfold Dev.closeGate
  repeat' first
    | with_reducible assumption
    | (extract_lets +onlyGivenNames x; first | (have hx : Keeps k d0 x := ?_; clear_value x; swap; subst x; swap) | (have hx : Keeps1 k d0 x := ?_; clear_value x; swap; subst x; swap) | subst x)
    | exact Allow.cls_S rfl
    | ((with_reducible first | refine Allow.cls_mem (by assumption) ?_ | refine Allow.cls_fst (by assumption) ?_ | refine Allow.cls_snd (by assumption) ?_); rfl)
    | with_reducible refine Dev.putTun_keeps ?_
    | with_reducible refine Dev.suspectTotals_keeps ?_
    | with_reducible refine Dev.restAll_keeps ?_
    | with_reducible refine Keeps.wr ?_ ?_
    | with_reducible refine Keeps.each ?_ (fun d x hm hd => ?_)
    | with_reducible exact Keeps.units (by assumption)
    | split

theorem Dev.stopTuning_keeps {k : Allow} {d0 : Dev} {d : Dev} {c : Nat} (h : Keeps k d0 d) : Keeps k d0 (Dev.stopTuning d c) := by
  unfold Dev.stopTuning
  repeat' first
    | with_reducible assumption
    | (extract_lets +onlyGivenNames x; first | (have hx : Keeps k d0 x := ?_; clear_value x; swap; subst x; swap) | (have hx : Keeps1 k d0 x := ?_; clear_value x; swap; subst x; swap) | subst x)
    | exact Allow.cls_S rfl
    | with_reducible refine Dev.putTun_keeps ?_
    | with_reducible refine Keeps.wr ?_ ?_
    | with_reducible exact Keeps.units (by assumption)
    | split

theorem Dev.writeFault_keeps {k : Allow} {d0 : Dev} {d : Dev} {code : Nat} {cls : Nat} {src : Nat} {strikes : Nat} {retire : Nat} {prob : Nat} {arg : Nat} (h : Keeps k d0 d) : Keeps k d0 (Dev.writeFault d code cls src strikes retire prob arg) := by
  unfold Dev.writeFault
  repeat' first
    | with_reducible assumption
    | (extract_lets +onlyGivenNames x; first | (have hx : Keeps k d0 x := ?_; clear_value x; swap; subst x; swap) | (have hx : Keeps1 k d0 x := ?_; clear_value x; swap; subst x; swap) | subst x)
    | exact Allow.cls_S rfl
    | with_reducible refine Dev.log_keeps ?_
    | with_reducible refine Dev.notify_keeps ?_
    | with_reducible refine Dev.offer_keeps ?_
    | with_reducible refine Keeps.wr ?_ ?_
    | with_reducible refine Keeps.inc ?_ ?_
    | with_reducible refine Keeps.when ?_ (fun d hd => ?_)
    | with_reducible exact Keeps.units (by assumption)
    | split

theorem Dev.report_keeps {k : Allow} {d0 : Dev} {d : Dev} {code : Nat} (h : Keeps k d0 d) : Keeps k d0 (Dev.report d code) := by
  unfold Dev.report
  repeat' first
    | with_reducible assumption
    | (extract_lets +onlyGivenNames x; first | (have hx : Keeps k d0 x := ?_; clear_value x; swap; subst x; swap) | (have hx : Keeps1 k d0 x := ?_; clear_value x; swap; subst x; swap) | subst x)
    | exact Allow.cls_S rfl
    | with_reducible refine Dev.writeFault_keeps ?_
    | with_reducible exact Keeps.units (by assumption)
    | split

theorem Dev.failFrame_keeps {k : Allow} {d0 : Dev} {d : Dev} {c : Collected} {code : Nat} (h : Keeps k d0 d) : Keeps k d0 (Dev.failFrame d c code) := by
  unfold Dev.failFrame
  repeat' first
    | with_reducible assumption
    | (extract_lets +onlyGivenNames x; first | (have hx : Keeps k d0 x := ?_; clear_value x; swap; subst x; swap) | (have hx : Keeps1 k d0 x := ?_; clear_value x; swap; subst x; swap) | subst x)
    | exact Allow.cls_S rfl
    | with_reducible refine Dev.report_keeps ?_
    | with_reducible refine Dev.countFrame_keeps ?_
    | with_reducible refine Dev.heavyFrame_keeps ?_
    | with_reducible refine Keeps.inc ?_ ?_
    | with_reducible exact Keeps.units (by assumption)
    | split

theorem Dev.cutFrame_keeps {k : Allow} {d0 : Dev} {d : Dev} (h : Keeps k d0 d) : Keeps k d0 (Dev.cutFrame d) := by
  unfold Dev.cutFrame
  repeat' first
    | with_reducible assumption
    | (extract_lets +onlyGivenNames x; first | (have hx : Keeps k d0 x := ?_; clear_value x; swap; subst x; swap) | (have hx : Keeps1 k d0 x := ?_; clear_value x; swap; subst x; swap) | subst x)
    | exact Allow.cls_S rfl
    | with_reducible refine Dev.failFrame_keeps ?_
    | with_reducible refine Dev.putTrack_keeps ?_
    | with_reducible exact Keeps.units (by assumption)
    | split

theorem Dev.failTrack_keeps {k : Allow} {d0 : Dev} {d : Dev} (h : Keeps k d0 d) : Keeps k d0 (Dev.failTrack d) := by
  unfold Dev.failTrack
  repeat' first
    | with_reducible assumption
    | (extract_lets +onlyGivenNames x; first | (have hx : Keeps k d0 x := ?_; clear_value x; swap; subst x; swap) | (have hx : Keeps1 k d0 x := ?_; clear_value x; swap; subst x; swap) | subst x)
    | exact Allow.cls_S rfl
    | with_reducible refine Dev.markZone_keeps ?_
    | with_reducible refine Dev.putTrack_keeps ?_
    | with_reducible refine Dev.leaveZones_keeps ?_
    | with_reducible refine Dev.cutFrame_keeps ?_
    | with_reducible refine Keeps.wr ?_ ?_
    | with_reducible exact Keeps.units (by assumption)
    | split

theorem Dev.retireVoice_keeps {k : Allow} {d0 : Dev} {d : Dev} {n : Nat} (h : Keeps k d0 d) : Keeps k d0 (Dev.retireVoice d n) := by
  unfold Dev.retireVoice
  repeat' first
    | with_reducible assumption
    | (extract_lets +onlyGivenNames x; first | (have hx : Keeps k d0 x := ?_; clear_value x; swap; subst x; swap) | (have hx : Keeps1 k d0 x := ?_; clear_value x; swap; subst x; swap) | subst x)
    | exact Allow.cls_S rfl
    | with_reducible refine Dev.failTrack_keeps ?_
    | with_reducible refine Dev.stopTuning_keeps ?_
    | with_reducible refine Dev.restVoice_keeps ?_
    | with_reducible refine Dev.putVoice_keeps ?_
    | with_reducible refine Keeps.wr ?_ ?_
    | with_reducible exact Keeps.units (by assumption)
    | split

theorem Dev.markRetired_keeps {k : Allow} {d0 : Dev} {d : Dev} {src : Nat} (h : Keeps k d0 d) : Keeps k d0 (Dev.markRetired d src) := by
  unfold Dev.markRetired
  repeat' first
    | with_reducible assumption
    | (extract_lets +onlyGivenNames x; first | (have hx : Keeps k d0 x := ?_; clear_value x; swap; subst x; swap) | (have hx : Keeps1 k d0 x := ?_; clear_value x; swap; subst x; swap) | subst x)
    | exact Allow.cls_S rfl
    | with_reducible refine Keeps.wr ?_ ?_
    | with_reducible exact Keeps.units (by assumption)
    | split

theorem Dev.retireVoiceSource_keeps {k : Allow} {d0 : Dev} {d : Dev} {n : Nat} (h : Keeps k d0 d) : Keeps k d0 (Dev.retireVoiceSource d n) := by
  unfold Dev.retireVoiceSource
  repeat' first
    | with_reducible assumption
    | (extract_lets +onlyGivenNames x; first | (have hx : Keeps k d0 x := ?_; clear_value x; swap; subst x; swap) | (have hx : Keeps1 k d0 x := ?_; clear_value x; swap; subst x; swap) | subst x)
    | exact Allow.cls_S rfl
    | with_reducible refine Dev.retireVoice_keeps ?_
    | with_reducible refine Dev.markRetired_keeps ?_
    | with_reducible exact Keeps.units (by assumption)
    | split

theorem Dev.failMonitor_keeps {k : Allow} {d0 : Dev} {d : Dev} {m : Nat} (h : Keeps k d0 d) : Keeps k d0 (Dev.failMonitor d m) := by
  unfold Dev.failMonitor
  repeat' first
    | with_reducible assumption
    | (extract_lets +onlyGivenNames x; first | (have hx : Keeps k d0 x := ?_; clear_value x; swap; subst x; swap) | (have hx : Keeps1 k d0 x := ?_; clear_value x; swap; subst x; swap) | subst x)
    | exact Allow.cls_S rfl
    | ((with_reducible first | refine Allow.cls_mem (by assumption) ?_ | refine Allow.cls_fst (by assumption) ?_ | refine Allow.cls_snd (by assumption) ?_); rfl)
    | with_reducible refine Dev.retireVoiceSource_keeps ?_
    | with_reducible refine Dev.putWm_keeps ?_
    | with_reducible refine Keeps.wr ?_ ?_
    | with_reducible refine Keeps.each ?_ (fun d x hm hd => ?_)
    | with_reducible exact Keeps.units (by assumption)
    | split

theorem Dev.showPort_keeps {k : Allow} {d0 : Dev} {d : Dev} {p : Nat} (h : Keeps k d0 d) : Keeps k d0 (Dev.showPort d p) := by
  unfold Dev.showPort
  repeat' first
    | with_reducible assumption
    | (extract_lets +onlyGivenNames x; first | (have hx : Keeps k d0 x := ?_; clear_value x; swap; subst x; swap) | (have hx : Keeps1 k d0 x := ?_; clear_value x; swap; subst x; swap) | subst x)
    | exact Allow.cls_S rfl
    | with_reducible refine Keeps.wr ?_ ?_
    | with_reducible exact Keeps.units (by assumption)
    | split

theorem Dev.retireLane_keeps {k : Allow} {d0 : Dev} {d : Dev} {p : Nat} {l : Nat} (h : Keeps k d0 d) : Keeps k d0 (Dev.retireLane d p l) := by
  unfold Dev.retireLane
  repeat' first
    | with_reducible assumption
    | (extract_lets +onlyGivenNames x; first | (have hx : Keeps k d0 x := ?_; clear_value x; swap; subst x; swap) | (have hx : Keeps1 k d0 x := ?_; clear_value x; swap; subst x; swap) | subst x)
    | exact Allow.cls_S rfl
    | ((with_reducible refine Allow.cls_S ?_); first | exact laneState_cls _ _ | exact laneFails_cls _ _ | exact laneErrors_cls _ _ | exact slotFld_cls _)
    | with_reducible refine Dev.stopTuning_keeps ?_
    | with_reducible refine Dev.showPort_keeps ?_
    | with_reducible refine Keeps.wr ?_ ?_
    | with_reducible exact Keeps.units (by assumption)
    | split

theorem Dev.leaveCantor_keeps {k : Allow} {d0 : Dev} {d : Dev} (h : Keeps k d0 d) : Keeps k d0 (Dev.leaveCantor d) := by
  unfold Dev.leaveCantor
  repeat' first
    | with_reducible assumption
    | (extract_lets +onlyGivenNames x; first | (have hx : Keeps k d0 x := ?_; clear_value x; swap; subst x; swap) | (have hx : Keeps1 k d0 x := ?_; clear_value x; swap; subst x; swap) | subst x)
    | exact Allow.cls_S rfl
    | with_reducible refine Dev.followOcxo_keeps ?_
    | with_reducible refine Keeps.wr ?_ ?_
    | with_reducible exact Keeps.units (by assumption)
    | split

theorem Dev.enterOut_keeps {k : Allow} {d0 : Dev} {d : Dev} (h : Keeps k d0 d) : Keeps k d0 (Dev.enterOut d) := by
  unfold Dev.enterOut
  repeat' first
    | with_reducible assumption
    | (extract_lets +onlyGivenNames x; first | (have hx : Keeps k d0 x := ?_; clear_value x; swap; subst x; swap) | (have hx : Keeps1 k d0 x := ?_; clear_value x; swap; subst x; swap) | subst x)
    | exact Allow.cls_S rfl
    | with_reducible refine Dev.choirEvent_keeps ?_
    | with_reducible refine Dev.leaveCantor_keeps ?_
    | with_reducible refine Keeps.wr ?_ ?_
    | with_reducible exact Keeps.units (by assumption)
    | split

theorem Dev.addStrike_keeps {k : Allow} {d0 : Dev} {d : Dev} {src : Nat} {cls : Nat} (h : Keeps k d0 d) : Keeps k d0 (Dev.addStrike d src cls) := by
  unfold Dev.addStrike
  repeat' first
    | with_reducible assumption
    | (extract_lets +onlyGivenNames x; first | (have hx : Keeps k d0 x := ?_; clear_value x; swap; subst x; swap) | (have hx : Keeps1 k d0 x := ?_; clear_value x; swap; subst x; swap) | subst x)
    | exact Allow.cls_S rfl
    | with_reducible refine Keeps.wr ?_ ?_
    | with_reducible refine Keeps.inc ?_ ?_
    | with_reducible exact Keeps.units (by assumption)
    | split

theorem Dev.chargeFault_keeps {k : Allow} {d0 : Dev} {d : Dev} {code : Nat} {cls : Nat} {src : Nat} {arg : Option Nat} (h : Keeps k d0 d) : Keeps1 k d0 (Dev.chargeFault d code cls src arg) := by
  unfold Dev.chargeFault
  repeat' first
    | with_reducible assumption
    | (extract_lets +onlyGivenNames x; first | (have hx : Keeps k d0 x := ?_; clear_value x; swap; subst x; swap) | (have hx : Keeps1 k d0 x := ?_; clear_value x; swap; subst x; swap) | subst x)
    | exact Allow.cls_S rfl
    | with_reducible refine Dev.markRetired_keeps ?_
    | with_reducible refine Dev.writeFault_keeps ?_
    | with_reducible refine Dev.addStrike_keeps ?_
    | with_reducible exact Keeps.units (by assumption)
    | split

theorem Dev.enterSafe_keeps {k : Allow} {d0 : Dev} (hB : k.b = true) {d : Dev} {cause : Nat} {code : Nat} (h : Keeps k d0 d) : Keeps k d0 (Dev.enterSafe d cause code) := by
  unfold Dev.enterSafe
  repeat' first
    | with_reducible assumption
    | (extract_lets +onlyGivenNames x; first | (have hx : Keeps k d0 x := ?_; clear_value x; swap; subst x; swap) | (have hx : Keeps1 k d0 x := ?_; clear_value x; swap; subst x; swap) | subst x)
    | exact Allow.cls_S rfl
    | exact hB
    | ((with_reducible first | refine Allow.cls_mem (by assumption) ?_ | refine Allow.cls_fst (by assumption) ?_ | refine Allow.cls_snd (by assumption) ?_); rfl)
    | with_reducible refine Dev.excSafeAll_keeps ?_
    | with_reducible refine Dev.totLow_keeps ?_
    | with_reducible refine Dev.commitError_keeps ?_
    | with_reducible refine Dev.putTimer_keeps ?_
    | with_reducible refine Dev.closeGate_keeps ?_
    | with_reducible refine Dev.writeFault_keeps ?_
    | with_reducible refine Keeps.wr ?_ ?_
    | with_reducible refine Keeps.each ?_ (fun d x hm hd => ?_)
    | with_reducible exact Keeps.units (by assumption)
    | split

theorem Dev.retireEffect_keeps {k : Allow} {d0 : Dev} (hB : k.b = true) {d : Dev} {src : Nat} {code : Nat} (h : Keeps k d0 d) : Keeps k d0 (Dev.retireEffect d src code) := by
  unfold Dev.retireEffect
  repeat' first
    | with_reducible assumption
    | (extract_lets +onlyGivenNames x; first | (have hx : Keeps k d0 x := ?_; clear_value x; swap; subst x; swap) | (have hx : Keeps1 k d0 x := ?_; clear_value x; swap; subst x; swap) | subst x)
    | exact Allow.cls_S rfl
    | exact hB
    | with_reducible refine Dev.enterSafe_keeps hB ?_
    | with_reducible refine Dev.enterOut_keeps ?_
    | with_reducible refine Dev.failMonitor_keeps ?_
    | with_reducible refine Dev.retireLane_keeps ?_
    | with_reducible refine Dev.retireVoice_keeps ?_
    | with_reducible refine Keeps.wr ?_ ?_
    | with_reducible exact Keeps.units (by assumption)
    | split

theorem Dev.faultOne_keeps {k : Allow} {d0 : Dev} (hB : k.b = true) {code : Nat} {cls : Nat} {arg : Option Nat} {d : Dev} {src : Nat} (h : Keeps k d0 d) : Keeps k d0 (Dev.faultOne code cls arg d src) := by
  unfold Dev.faultOne
  repeat' first
    | with_reducible assumption
    | (extract_lets +onlyGivenNames x; first | (have hx : Keeps k d0 x := ?_; clear_value x; swap; subst x; swap) | (have hx : Keeps1 k d0 x := ?_; clear_value x; swap; subst x; swap) | subst x)
    | exact Allow.cls_S rfl
    | exact hB
    | with_reducible refine Dev.retireEffect_keeps hB ?_
    | with_reducible refine Dev.chargeFault_keeps ?_
    | with_reducible exact Keeps.units (by assumption)
    | split

theorem Dev.fault_keeps {k : Allow} {d0 : Dev} (hB : k.b = true) {d : Dev} {code : Nat} {cls : Nat} {srcs : List Nat} {arg : Option Nat} (h : Keeps k d0 d) : Keeps k d0 (Dev.fault d code cls srcs arg) := by
  unfold Dev.fault
  repeat' first
    | with_reducible assumption
    | (extract_lets +onlyGivenNames x; first | (have hx : Keeps k d0 x := ?_; clear_value x; swap; subst x; swap) | (have hx : Keeps1 k d0 x := ?_; clear_value x; swap; subst x; swap) | subst x)
    | exact Allow.cls_S rfl
    | exact hB
    | ((with_reducible first | refine Allow.cls_mem (by assumption) ?_ | refine Allow.cls_fst (by assumption) ?_ | refine Allow.cls_snd (by assumption) ?_); rfl)
    | with_reducible refine Dev.faultOne_keeps hB ?_
    | with_reducible refine Keeps.each ?_ (fun d x hm hd => ?_)
    | with_reducible exact Keeps.units (by assumption)
    | split

theorem Dev.program_keeps {k : Allow} {d0 : Dev} (hNvm : k.nvm = true) {d : Dev} {a : Nat} {l : List Nat} (h : Keeps k d0 d) : Keeps k d0 (Dev.program d a l) :=
  Keeps.setNvm hNvm h (fun x => nvmProgram_wf _ _ x)

theorem Dev.spoil_keeps {k : Allow} {d0 : Dev} (hNvm : k.nvm = true) {d : Dev} {a : Nat} {l : List Nat} (h : Keeps k d0 d) : Keeps k d0 (Dev.spoil d a l) :=
  Dev.nextFree_keeps (Keeps.setNvm hNvm h (fun x => nvmSpoil_wf _ _ _ x))

theorem Dev.eraseSector_keeps {k : Allow} {d0 : Dev} (hNvm : k.nvm = true) {d : Dev} {a : Nat} (h : Keeps k d0 d) : Keeps k d0 (Dev.eraseSector d a) :=
  Keeps.setNvm hNvm h (fun x => nvmErase_wf _ x)

theorem Dev.halfErase_keeps {k : Allow} {d0 : Dev} (hNvm : k.nvm = true) {d : Dev} {a : Nat} (h : Keeps k d0 d) : Keeps k d0 (Dev.halfErase d a) :=
  Dev.nextFree_keeps (Keeps.setNvm hNvm h (fun x => nvmHalfErase_wf _ _ x))

theorem Dev.halfSlotErase_keeps {k : Allow} {d0 : Dev} (hNvm : k.nvm = true) {d : Dev} {a : Nat} (h : Keeps k d0 d) : Keeps k d0 (Dev.halfSlotErase d a) := by
  unfold Dev.halfSlotErase
  repeat' first
    | with_reducible assumption
    | (extract_lets +onlyGivenNames x; first | (have hx : Keeps k d0 x := ?_; clear_value x; swap; subst x; swap) | (have hx : Keeps1 k d0 x := ?_; clear_value x; swap; subst x; swap) | subst x)
    | exact Allow.cls_S rfl
    | ((with_reducible first | refine Allow.cls_mem (by assumption) ?_ | refine Allow.cls_fst (by assumption) ?_ | refine Allow.cls_snd (by assumption) ?_); rfl)
    | with_reducible refine Dev.halfErase_keeps hNvm ?_
    | with_reducible refine Dev.eraseSector_keeps hNvm ?_
    | with_reducible refine Dev.nextFree_keeps ?_
    | with_reducible refine Keeps.each ?_ (fun d x hm hd => ?_)
    | with_reducible exact Keeps.units (by assumption)
    | split

theorem Dev.spoilPt_keeps {k : Allow} {d0 : Dev} (hNvm : k.nvm = true) {d : Dev} (h : Keeps k d0 d) : Keeps k d0 (Dev.spoilPt d) := by
  unfold Dev.spoilPt
  repeat' first
    | with_reducible assumption
    | (extract_lets +onlyGivenNames x; first | (have hx : Keeps k d0 x := ?_; clear_value x; swap; subst x; swap) | (have hx : Keeps1 k d0 x := ?_; clear_value x; swap; subst x; swap) | subst x)
    | exact Allow.cls_S rfl
    | with_reducible refine Dev.halfSlotErase_keeps hNvm ?_
    | with_reducible refine Dev.halfErase_keeps hNvm ?_
    | with_reducible refine Dev.spoil_keeps hNvm ?_
    | with_reducible exact Keeps.units (by assumption)
    | split

theorem Dev.abandonPt_keeps {k : Allow} {d0 : Dev} (hNvm : k.nvm = true) {d : Dev} (h : Keeps k d0 d) : Keeps k d0 (Dev.abandonPt d) := by
  unfold Dev.abandonPt
  repeat' first
    | with_reducible assumption
    | (extract_lets +onlyGivenNames x; first | (have hx : Keeps k d0 x := ?_; clear_value x; swap; subst x; swap) | (have hx : Keeps1 k d0 x := ?_; clear_value x; swap; subst x; swap) | subst x)
    | exact Allow.cls_S rfl
    | with_reducible refine Dev.spoilPt_keeps hNvm ?_
    | with_reducible exact Keeps.units (by assumption)
    | split

theorem Dev.computeEps_keeps {k : Allow} {d0 : Dev} (hB : k.b = true) {d : Dev} (h : Keeps k d0 d) : Keeps k d0 (Dev.computeEps d) := by
  unfold Dev.computeEps
  repeat' first
    | with_reducible assumption
    | (extract_lets +onlyGivenNames x; first | (have hx : Keeps k d0 x := ?_; clear_value x; swap; subst x; swap) | (have hx : Keeps1 k d0 x := ?_; clear_value x; swap; subst x; swap) | subst x)
    | exact Allow.cls_S rfl
    | exact hB
    | with_reducible refine Dev.fault_keeps hB ?_
    | with_reducible refine Keeps.wr ?_ ?_
    | with_reducible exact Keeps.units (by assumption)
    | split

theorem Dev.logAge_keeps {k : Allow} {d0 : Dev} {d : Dev} (h : Keeps k d0 d) : Keeps k d0 (Dev.logAge d) := by
  unfold Dev.logAge
  repeat' first
    | with_reducible assumption
    | (extract_lets +onlyGivenNames x; first | (have hx : Keeps k d0 x := ?_; clear_value x; swap; subst x; swap) | (have hx : Keeps1 k d0 x := ?_; clear_value x; swap; subst x; swap) | subst x)
    | exact Allow.cls_S rfl
    | with_reducible refine Dev.log_keeps ?_
    | with_reducible exact Keeps.units (by assumption)
    | split

theorem Dev.calendarChanged_keeps {k : Allow} {d0 : Dev} (hB : k.b = true) {d : Dev} {old : Nat} {becameValid : Bool} (h : Keeps k d0 d) : Keeps k d0 (Dev.calendarChanged d old becameValid) := by
  unfold Dev.calendarChanged
  repeat' first
    | with_reducible assumption
    | (extract_lets +onlyGivenNames x; first | (have hx : Keeps k d0 x := ?_; clear_value x; swap; subst x; swap) | (have hx : Keeps1 k d0 x := ?_; clear_value x; swap; subst x; swap) | subst x)
    | exact Allow.cls_S rfl
    | exact hB
    | with_reducible refine Dev.logAge_keeps ?_
    | with_reducible refine Dev.computeEps_keeps hB ?_
    | with_reducible exact Keeps.units (by assumption)
    | split

theorem Dev.captureSecond_keeps {k : Allow} {d0 : Dev} {d : Dev} (h : Keeps k d0 d) : Keeps k d0 (Dev.captureSecond d) := by
  unfold Dev.captureSecond
  repeat' first
    | with_reducible assumption
    | (extract_lets +onlyGivenNames x; first | (have hx : Keeps k d0 x := ?_; clear_value x; swap; subst x; swap) | (have hx : Keeps1 k d0 x := ?_; clear_value x; swap; subst x; swap) | subst x)
    | exact Allow.cls_S rfl
    | with_reducible refine Keeps.wr ?_ ?_
    | with_reducible exact Keeps.units (by assumption)
    | split

theorem Dev.putCal_keeps {k : Allow} {d0 : Dev} (hB : k.b = true) {d : Dev} {c : Nat} (h : Keeps k d0 d) : Keeps k d0 (Dev.putCal d c) := by
  unfold Dev.putCal
  repeat' first
    | with_reducible assumption
    | (extract_lets +onlyGivenNames x; first | (have hx : Keeps k d0 x := ?_; clear_value x; swap; subst x; swap) | (have hx : Keeps1 k d0 x := ?_; clear_value x; swap; subst x; swap) | subst x)
    | exact Allow.cls_S rfl
    | exact hB
    | with_reducible refine Keeps.wr ?_ ?_
    | with_reducible exact Keeps.units (by assumption)
    | split

theorem Dev.calendarSecond_keeps {k : Allow} {d0 : Dev} (hB : k.b = true) {d : Dev} (h : Keeps k d0 d) : Keeps k d0 (Dev.calendarSecond d) := by
  unfold Dev.calendarSecond
  repeat' first
    | with_reducible assumption
    | (extract_lets +onlyGivenNames x; first | (have hx : Keeps k d0 x := ?_; clear_value x; swap; subst x; swap) | (have hx : Keeps1 k d0 x := ?_; clear_value x; swap; subst x; swap) | subst x)
    | exact Allow.cls_S rfl
    | exact hB
    | with_reducible refine Dev.calendarChanged_keeps hB ?_
    | with_reducible refine Dev.captureSecond_keeps ?_
    | with_reducible refine Dev.putCal_keeps hB ?_
    | with_reducible refine Dev.fault_keeps hB ?_
    | with_reducible refine Keeps.wr ?_ ?_
    | with_reducible exact Keeps.units (by assumption)
    | split

theorem Dev.rejectCal_keeps {k : Allow} {d0 : Dev} (hB : k.b = true) {d : Dev} {c : Nat} {reason : Nat} (h : Keeps k d0 d) : Keeps k d0 (Dev.rejectCal d c reason) := by
  unfold Dev.rejectCal
  repeat' first
    | with_reducible assumption
    | (extract_lets +onlyGivenNames x; first | (have hx : Keeps k d0 x := ?_; clear_value x; swap; subst x; swap) | (have hx : Keeps1 k d0 x := ?_; clear_value x; swap; subst x; swap) | subst x)
    | exact Allow.cls_S rfl
    | exact hB
    | with_reducible refine Dev.fault_keeps hB ?_
    | with_reducible refine Dev.log_keeps ?_
    | with_reducible refine Keeps.wr ?_ ?_
    | with_reducible exact Keeps.units (by assumption)
    | split

theorem Dev.setCalendar_keeps {k : Allow} {d0 : Dev} (hB : k.b = true) {d : Dev} (h : Keeps k d0 d) : Keeps k d0 (Dev.setCalendar d) := by
  unfold Dev.setCalendar
  repeat' first
    | with_reducible assumption
    | (extract_lets +onlyGivenNames x; first | (have hx : Keeps k d0 x := ?_; clear_value x; swap; subst x; swap) | (have hx : Keeps1 k d0 x := ?_; clear_value x; swap; subst x; swap) | subst x)
    | exact Allow.cls_S rfl
    | exact hB
    | with_reducible refine Dev.rejectCal_keeps hB ?_
    | with_reducible exact Keeps.units (by assumption)
    | split

theorem Dev.writeCal_keeps {k : Allow} {d0 : Dev} (hB : k.b = true) {d : Dev} {c : Nat} {source : Nat} (h : Keeps k d0 d) : Keeps k d0 (Dev.writeCal d c source) := by
  unfold Dev.writeCal
  repeat' first
    | with_reducible assumption
    | (extract_lets +onlyGivenNames x; first | (have hx : Keeps k d0 x := ?_; clear_value x; swap; subst x; swap) | (have hx : Keeps1 k d0 x := ?_; clear_value x; swap; subst x; swap) | subst x)
    | exact Allow.cls_S rfl
    | exact hB
    | with_reducible refine Dev.calendarChanged_keeps hB ?_
    | with_reducible refine Dev.log_keeps ?_
    | with_reducible refine Dev.captureSecond_keeps ?_
    | with_reducible refine Dev.putCal_keeps hB ?_
    | with_reducible refine Keeps.wr ?_ ?_
    | with_reducible exact Keeps.units (by assumption)
    | split

theorem Dev.calWriteApply_keeps {k : Allow} {d0 : Dev} (hB : k.b = true) {d : Dev} (h : Keeps k d0 d) : Keeps k d0 (Dev.calWriteApply d) := by
  unfold Dev.calWriteApply
  repeat' first
    | with_reducible assumption
    | (extract_lets +onlyGivenNames x; first | (have hx : Keeps k d0 x := ?_; clear_value x; swap; subst x; swap) | (have hx : Keeps1 k d0 x := ?_; clear_value x; swap; subst x; swap) | subst x)
    | exact Allow.cls_S rfl
    | exact hB
    | with_reducible refine Dev.writeCal_keeps hB ?_
    | with_reducible refine Dev.rejectCal_keeps hB ?_
    | with_reducible exact Keeps.units (by assumption)
    | split

theorem Dev.showKckStop_keeps {k : Allow} {d0 : Dev} (hB : k.b = true) {d : Dev} (h : Keeps k d0 d) : Keeps k d0 (Dev.showKckStop d) := by
  unfold Dev.showKckStop
  repeat' first
    | with_reducible assumption
    | (extract_lets +onlyGivenNames x; first | (have hx : Keeps k d0 x := ?_; clear_value x; swap; subst x; swap) | (have hx : Keeps1 k d0 x := ?_; clear_value x; swap; subst x; swap) | subst x)
    | exact Allow.cls_S rfl
    | exact hB
    | with_reducible refine Dev.computeEps_keeps hB ?_
    | with_reducible refine Dev.fault_keeps hB ?_
    | with_reducible refine Keeps.wr ?_ ?_
    | with_reducible exact Keeps.units (by assumption)
    | split

theorem Dev.kckStop_keeps {k : Allow} {d0 : Dev} (hB : k.b = true) {d : Dev} (h : Keeps k d0 d) : Keeps k d0 (Dev.kckStop d) := by
  unfold Dev.kckStop
  repeat' first
    | with_reducible assumption
    | (extract_lets +onlyGivenNames x; first | (have hx : Keeps k d0 x := ?_; clear_value x; swap; subst x; swap) | (have hx : Keeps1 k d0 x := ?_; clear_value x; swap; subst x; swap) | subst x)
    | exact Allow.cls_S rfl
    | exact hB
    | with_reducible refine Dev.showKckStop_keeps hB ?_
    | with_reducible refine Keeps.wr ?_ ?_
    | with_reducible exact Keeps.units (by assumption)
    | split

theorem Dev.loseBackup_keeps {k : Allow} {d0 : Dev} (hB : k.b = true) {d : Dev} (h : Keeps k d0 d) : Keeps k d0 (Dev.loseBackup d) := by
  have hr : Keeps k d0 { d with regs := d.regs.setTable .B [] } :=
    Keeps.setRegs h (fun w => RegFile.wf_setTable w rfl)
      (fun c hc => RegFile.table_setTable_other _ _ (fun e => by rw [e] at hc; exact absurd (hB.symm.trans hc) (by decide)))
  exact Keeps.units hr

theorem Dev.backupDomainLoss_keeps {k : Allow} {d0 : Dev} (hB : k.b = true) {d : Dev} (h : Keeps k d0 d) : Keeps k d0 (Dev.backupDomainLoss d) := by
  unfold Dev.backupDomainLoss
  repeat' first
    | with_reducible assumption
    | (extract_lets +onlyGivenNames x; first | (have hx : Keeps k d0 x := ?_; clear_value x; swap; subst x; swap) | (have hx : Keeps1 k d0 x := ?_; clear_value x; swap; subst x; swap) | subst x)
    | exact Allow.cls_S rfl
    | exact hB
    | with_reducible refine Dev.loseBackup_keeps hB ?_
    | with_reducible exact Keeps.units (by assumption)
    | split

theorem Dev.followCal_keeps {k : Allow} {d0 : Dev} {d : Dev} {c : Nat} {apart : Bool} (h : Keeps k d0 d) : Keeps k d0 (Dev.followCal d c apart) := by
  unfold Dev.followCal
  repeat' first
    | with_reducible assumption
    | (extract_lets +onlyGivenNames x; first | (have hx : Keeps k d0 x := ?_; clear_value x; swap; subst x; swap) | (have hx : Keeps1 k d0 x := ?_; clear_value x; swap; subst x; swap) | subst x)
    | exact Allow.cls_S rfl
    | with_reducible refine Keeps.wr ?_ ?_
    | with_reducible exact Keeps.units (by assumption)
    | split

theorem Dev.putLogs_keeps {k : Allow} {d0 : Dev} {d : Dev} {l : LogSt} (h : Keeps k d0 d) : Keeps k d0 (Dev.putLogs d l) := by
  unfold Dev.putLogs
  repeat' first
    | with_reducible assumption
    | (extract_lets +onlyGivenNames x; first | (have hx : Keeps k d0 x := ?_; clear_value x; swap; subst x; swap) | (have hx : Keeps1 k d0 x := ?_; clear_value x; swap; subst x; swap) | subst x)
    | exact Allow.cls_S rfl
    | with_reducible exact Keeps.units (by assumption)
    | split

theorem Dev.putTot_keeps {k : Allow} {d0 : Dev} {d : Dev} {q : List TotEntry} (h : Keeps k d0 d) : Keeps k d0 (Dev.putTot d q) := by
  unfold Dev.putTot
  repeat' first
    | with_reducible assumption
    | (extract_lets +onlyGivenNames x; first | (have hx : Keeps k d0 x := ?_; clear_value x; swap; subst x; swap) | (have hx : Keeps1 k d0 x := ?_; clear_value x; swap; subst x; swap) | subst x)
    | exact Allow.cls_S rfl
    | with_reducible refine Dev.putLogs_keeps ?_
    | with_reducible refine Keeps.wr ?_ ?_
    | with_reducible exact Keeps.units (by assumption)
    | split

theorem Dev.beginHold_keeps {k : Allow} {d0 : Dev} (hB : k.b = true) {d : Dev} {op : Nat} (h : Keeps k d0 d) : Keeps k d0 (Dev.beginHold d op) := by
  unfold Dev.beginHold
  repeat' first
    | with_reducible assumption
    | (extract_lets +onlyGivenNames x; first | (have hx : Keeps k d0 x := ?_; clear_value x; swap; subst x; swap) | (have hx : Keeps1 k d0 x := ?_; clear_value x; swap; subst x; swap) | subst x)
    | exact Allow.cls_S rfl
    | exact hB
    | with_reducible refine Dev.fault_keeps hB ?_
    | with_reducible refine Dev.putLogs_keeps ?_
    | with_reducible refine Keeps.wr ?_ ?_
    | with_reducible exact Keeps.units (by assumption)
    | split

theorem Dev.endHold_keeps {k : Allow} {d0 : Dev} (hB : k.b = true) {d : Dev} (h : Keeps k d0 d) : Keeps k d0 (Dev.endHold d) := by
  unfold Dev.endHold
  repeat' first
    | with_reducible assumption
    | (extract_lets +onlyGivenNames x; first | (have hx : Keeps k d0 x := ?_; clear_value x; swap; subst x; swap) | (have hx : Keeps1 k d0 x := ?_; clear_value x; swap; subst x; swap) | subst x)
    | exact Allow.cls_S rfl
    | exact hB
    | with_reducible refine Dev.fault_keeps hB ?_
    | with_reducible refine Dev.log_keeps ?_
    | with_reducible refine Dev.putLogs_keeps ?_
    | with_reducible refine Keeps.wr ?_ ?_
    | with_reducible exact Keeps.units (by assumption)
    | split

theorem Dev.refreshMap_keeps {k : Allow} {d0 : Dev} {d : Dev} (h : Keeps k d0 d) : Keeps k d0 (Dev.refreshMap d) := by
  unfold Dev.refreshMap
  repeat' first
    | with_reducible assumption
    | (extract_lets +onlyGivenNames x; first | (have hx : Keeps k d0 x := ?_; clear_value x; swap; subst x; swap) | (have hx : Keeps1 k d0 x := ?_; clear_value x; swap; subst x; swap) | subst x)
    | exact Allow.cls_S rfl
    | ((with_reducible first | refine Allow.cls_mem (by assumption) ?_ | refine Allow.cls_fst (by assumption) ?_ | refine Allow.cls_snd (by assumption) ?_); rfl)
    | with_reducible refine Keeps.wr ?_ ?_
    | with_reducible refine Keeps.foldl ?_ (fun d x hm hd => ?_)
    | with_reducible refine Keeps.foldl1 ?_ (fun d x hm hd => ?_)
    | with_reducible exact Keeps.units (by assumption)
    | split

theorem Dev.setSector_keeps {k : Allow} {d0 : Dev} (hNvm : k.nvm = true) {d : Dev} {n : Nat} {st : Nat} (h : Keeps k d0 d) : Keeps k d0 (Dev.setSector d n st) := by
  unfold Dev.setSector
  repeat' first
    | with_reducible assumption
    | (extract_lets +onlyGivenNames x; first | (have hx : Keeps k d0 x := ?_; clear_value x; swap; subst x; swap) | (have hx : Keeps1 k d0 x := ?_; clear_value x; swap; subst x; swap) | subst x)
    | exact Allow.cls_S rfl
    | with_reducible refine Dev.program_keeps hNvm ?_
    | with_reducible exact Keeps.units (by assumption)
    | split

theorem Dev.markBad_keeps {k : Allow} {d0 : Dev} (hB : k.b = true) (hNvm : k.nvm = true) {d : Dev} {n : Nat} (h : Keeps k d0 d) : Keeps k d0 (Dev.markBad d n) := by
  unfold Dev.markBad
  repeat' first
    | with_reducible assumption
    | (extract_lets +onlyGivenNames x; first | (have hx : Keeps k d0 x := ?_; clear_value x; swap; subst x; swap) | (have hx : Keeps1 k d0 x := ?_; clear_value x; swap; subst x; swap) | subst x)
    | exact Allow.cls_S rfl
    | exact hB
    | with_reducible refine Dev.fault_keeps hB ?_
    | with_reducible refine Dev.setSector_keeps hNvm ?_
    | with_reducible refine Keeps.wr ?_ ?_
    | with_reducible exact Keeps.units (by assumption)
    | split

theorem Dev.openSector_keeps {k : Allow} {d0 : Dev} (hNvm : k.nvm = true) {d : Dev} {n : Nat} {area : Nat} {st : Nat} {seq : Nat} {src : Nat} (h : Keeps k d0 d) : Keeps k d0 (Dev.openSector d n area st seq src) := by
  unfold Dev.openSector
  repeat' first
    | with_reducible assumption
    | (extract_lets +onlyGivenNames x; first | (have hx : Keeps k d0 x := ?_; clear_value x; swap; subst x; swap) | (have hx : Keeps1 k d0 x := ?_; clear_value x; swap; subst x; swap) | subst x)
    | exact Allow.cls_S rfl
    | with_reducible refine Dev.program_keeps hNvm ?_
    | with_reducible refine Dev.eraseSector_keeps hNvm ?_
    | with_reducible exact Keeps.units (by assumption)
    | split

theorem Dev.openJournal_keeps {k : Allow} {d0 : Dev} (hB : k.b = true) (hNvm : k.nvm = true) {d : Dev} {bad : Bool} (h : Keeps k d0 d) : Keeps k d0 (Dev.openJournal d bad) := by
  unfold Dev.openJournal
  repeat' first
    | with_reducible assumption
    | (extract_lets +onlyGivenNames x; first | (have hx : Keeps k d0 x := ?_; clear_value x; swap; subst x; swap) | (have hx : Keeps1 k d0 x := ?_; clear_value x; swap; subst x; swap) | subst x)
    | exact Allow.cls_S rfl
    | exact hB
    | ((with_reducible first | refine Allow.cls_mem (by assumption) ?_ | refine Allow.cls_fst (by assumption) ?_ | refine Allow.cls_snd (by assumption) ?_); rfl)
    | with_reducible refine Dev.openSector_keeps hNvm ?_
    | with_reducible refine Dev.markBad_keeps hB hNvm ?_
    | with_reducible refine Dev.putLogs_keeps ?_
    | with_reducible refine Dev.setSector_keeps hNvm ?_
    | with_reducible refine Keeps.foldl ?_ (fun d x hm hd => ?_)
    | with_reducible refine Keeps.foldl1 ?_ (fun d x hm hd => ?_)
    | with_reducible exact Keeps.units (by assumption)
    | split

theorem Dev.notedRecord_keeps {k : Allow} {d0 : Dev} {d : Dev} {r : LogRec} (h : Keeps k d0 d) : Keeps k d0 (Dev.notedRecord d r) := by
  unfold Dev.notedRecord
  repeat' first
    | with_reducible assumption
    | (extract_lets +onlyGivenNames x; first | (have hx : Keeps k d0 x := ?_; clear_value x; swap; subst x; swap) | (have hx : Keeps1 k d0 x := ?_; clear_value x; swap; subst x; swap) | subst x)
    | exact Allow.cls_S rfl
    | with_reducible exact Keeps.units (by assumption)
    | split

theorem Dev.writeRecord_keeps {k : Allow} {d0 : Dev} (hB : k.b = true) (hNvm : k.nvm = true) {d : Dev} {outcome : Nat} (h : Keeps k d0 d) : Keeps1 k d0 (Dev.writeRecord d outcome) := by
  unfold Dev.writeRecord
  repeat' first
    | with_reducible assumption
    | (extract_lets +onlyGivenNames x; first | (have hx : Keeps k d0 x := ?_; clear_value x; swap; subst x; swap) | (have hx : Keeps1 k d0 x := ?_; clear_value x; swap; subst x; swap) | subst x)
    | exact Allow.cls_S rfl
    | exact hB
    | with_reducible refine Dev.endHold_keeps hB ?_
    | with_reducible refine Dev.notedRecord_keeps ?_
    | with_reducible refine Dev.putLog_keeps ?_
    | with_reducible refine Dev.program_keeps hNvm ?_
    | with_reducible refine Dev.beginHold_keeps hB ?_
    | with_reducible refine Dev.spoil_keeps hNvm ?_
    | with_reducible refine Dev.openJournal_keeps hB hNvm ?_
    | with_reducible refine Dev.fault_keeps hB ?_
    | with_reducible refine Dev.putLogs_keeps ?_
    | with_reducible refine Keeps.wr ?_ ?_
    | with_reducible exact Keeps.units (by assumption)
    | split

theorem Dev.collectStep_keeps {k : Allow} {d0 : Dev} (hB : k.b = true) (hNvm : k.nvm = true) {d : Dev} {c : Collect} {outcome : Nat} (h : Keeps k d0 d) : Keeps k d0 (Dev.collectStep d c outcome) := by
  unfold Dev.collectStep
  dsimp only
  repeat' first
    | with_reducible assumption
    | with_reducible refine Dev.setSector_keeps hNvm ?_
    | with_reducible refine Dev.refreshMap_keeps ?_
    | with_reducible refine Dev.endHold_keeps hB ?_
    | with_reducible refine Dev.spoil_keeps hNvm ?_
    | with_reducible refine Dev.putLogs_keeps ?_
    | with_reducible refine Dev.openSector_keeps hNvm ?_
    | with_reducible refine Dev.beginHold_keeps hB ?_
    | with_reducible refine Dev.program_keeps hNvm ?_
    | with_reducible refine Dev.eraseSector_keeps hNvm ?_
    | with_reducible refine Dev.markBad_keeps hB hNvm ?_
    | split

theorem Dev.collectNext_keeps {k : Allow} {d0 : Dev} (hB : k.b = true) (hNvm : k.nvm = true) {d : Dev} {outcome : Nat} (h : Keeps k d0 d) : Keeps k d0 (Dev.collectNext d outcome) := by
  unfold Dev.collectNext
  repeat' first
    | with_reducible assumption
    | (extract_lets +onlyGivenNames x; first | (have hx : Keeps k d0 x := ?_; clear_value x; swap; subst x; swap) | (have hx : Keeps1 k d0 x := ?_; clear_value x; swap; subst x; swap) | subst x)
    | exact Allow.cls_S rfl
    | exact hB
    | with_reducible refine Dev.putLogs_keeps ?_
    | with_reducible refine Dev.collectStep_keeps hB hNvm ?_
    | with_reducible exact Keeps.units (by assumption)
    | split

theorem Dev.collection_keeps {k : Allow} {d0 : Dev} (hB : k.b = true) (hNvm : k.nvm = true) {outcome : Nat} {d : Dev} (h : Keeps k d0 d) : Keeps k d0 (Dev.collection outcome d) := by
  unfold Dev.collection
  repeat' first
    | with_reducible assumption
    | (extract_lets +onlyGivenNames x; first | (have hx : Keeps k d0 x := ?_; clear_value x; swap; subst x; swap) | (have hx : Keeps1 k d0 x := ?_; clear_value x; swap; subst x; swap) | subst x)
    | exact Allow.cls_S rfl
    | exact hB
    | with_reducible refine Dev.collectNext_keeps hB hNvm ?_
    | with_reducible exact Keeps.units (by assumption)
    | split

theorem Dev.queueTot_keeps {k : Allow} {d0 : Dev} (hB : k.b = true) {d : Dev} {e : TotEntry} (h : Keeps k d0 d) : Keeps k d0 (Dev.queueTot d e) := by
  unfold Dev.queueTot
  repeat' first
    | with_reducible assumption
    | (extract_lets +onlyGivenNames x; first | (have hx : Keeps k d0 x := ?_; clear_value x; swap; subst x; swap) | (have hx : Keeps1 k d0 x := ?_; clear_value x; swap; subst x; swap) | subst x)
    | exact Allow.cls_S rfl
    | exact hB
    | with_reducible refine Dev.enterSafe_keeps hB ?_
    | with_reducible refine Dev.fault_keeps hB ?_
    | with_reducible refine Dev.putTot_keeps ?_
    | with_reducible exact Keeps.units (by assumption)
    | split

theorem Dev.totPhase1_keeps {k : Allow} {d0 : Dev} (hB : k.b = true) (hNvm : k.nvm = true) {d : Dev} {outcome : Nat} (h : Keeps k d0 d) : Keeps k d0 (Dev.totPhase1 d outcome) := by
  unfold Dev.totPhase1
  repeat' first
    | with_reducible assumption
    | (extract_lets +onlyGivenNames x; first | (have hx : Keeps k d0 x := ?_; clear_value x; swap; subst x; swap) | (have hx : Keeps1 k d0 x := ?_; clear_value x; swap; subst x; swap) | subst x)
    | exact Allow.cls_S rfl
    | exact hB
    | with_reducible refine Dev.endHold_keeps hB ?_
    | with_reducible refine Dev.program_keeps hNvm ?_
    | with_reducible refine Dev.beginHold_keeps hB ?_
    | with_reducible refine Dev.spoil_keeps hNvm ?_
    | with_reducible refine Dev.openSector_keeps hNvm ?_
    | with_reducible refine Dev.eraseSector_keeps hNvm ?_
    | with_reducible refine Dev.putLogs_keeps ?_
    | with_reducible refine Dev.markBad_keeps hB hNvm ?_
    | with_reducible exact Keeps.units (by assumption)
    | split

theorem Dev.totStart_keeps {k : Allow} {d0 : Dev} {d : Dev} (h : Keeps k d0 d) : Keeps k d0 (Dev.totStart d) := by
  unfold Dev.totStart
  repeat' first
    | with_reducible assumption
    | (extract_lets +onlyGivenNames x; first | (have hx : Keeps k d0 x := ?_; clear_value x; swap; subst x; swap) | (have hx : Keeps1 k d0 x := ?_; clear_value x; swap; subst x; swap) | subst x)
    | exact Allow.cls_S rfl
    | with_reducible exact Keeps.units (by assumption)
    | split

theorem Dev.addPulses_keeps {k : Allow} {d0 : Dev} (hB : k.b = true) {d : Dev} {old : Nat} {new : Nat} (h : Keeps k d0 d) : Keeps k d0 (Dev.addPulses d old new) := by
  unfold Dev.addPulses
  repeat' first
    | with_reducible assumption
    | (extract_lets +onlyGivenNames x; first | (have hx : Keeps k d0 x := ?_; clear_value x; swap; subst x; swap) | (have hx : Keeps1 k d0 x := ?_; clear_value x; swap; subst x; swap) | subst x)
    | exact Allow.cls_S rfl
    | exact hB
    | with_reducible refine Dev.totStart_keeps ?_
    | with_reducible refine Dev.fault_keeps hB ?_
    | with_reducible refine Keeps.wr ?_ ?_
    | with_reducible exact Keeps.units (by assumption)
    | split

theorem Dev.takeTot_keeps {k : Allow} {d0 : Dev} (hN : k.n = true) (hB : k.b = true) {d : Dev} {e : TotEntry} (h : Keeps k d0 d) : Keeps k d0 (Dev.takeTot d e) := by
  unfold Dev.takeTot
  repeat' first
    | with_reducible assumption
    | (extract_lets +onlyGivenNames x; first | (have hx : Keeps k d0 x := ?_; clear_value x; swap; subst x; swap) | (have hx : Keeps1 k d0 x := ?_; clear_value x; swap; subst x; swap) | subst x)
    | exact Allow.cls_S rfl
    | exact hN
    | exact hB
    | with_reducible refine Dev.addPulses_keeps hB ?_
    | with_reducible refine Keeps.wr ?_ ?_
    | with_reducible exact Keeps.units (by assumption)
    | split

theorem Dev.totPhase2_keeps {k : Allow} {d0 : Dev} (hN : k.n = true) (hB : k.b = true) (hNvm : k.nvm = true) {d : Dev} {outcome : Nat} (h : Keeps k d0 d) : Keeps k d0 (Dev.totPhase2 d outcome) := by
  unfold Dev.totPhase2
  repeat' first
    | with_reducible assumption
    | (extract_lets +onlyGivenNames x; first | (have hx : Keeps k d0 x := ?_; clear_value x; swap; subst x; swap) | (have hx : Keeps1 k d0 x := ?_; clear_value x; swap; subst x; swap) | subst x)
    | exact Allow.cls_S rfl
    | exact hN
    | exact hB
    | with_reducible refine Dev.endHold_keeps hB ?_
    | with_reducible refine Dev.takeTot_keeps hN hB ?_
    | with_reducible refine Dev.putLogs_keeps ?_
    | with_reducible refine Dev.putTot_keeps ?_
    | with_reducible refine Dev.program_keeps hNvm ?_
    | with_reducible refine Dev.beginHold_keeps hB ?_
    | with_reducible refine Dev.spoil_keeps hNvm ?_
    | with_reducible exact Keeps.units (by assumption)
    | split

theorem Dev.totaliserPhase1_keeps {k : Allow} {d0 : Dev} (hB : k.b = true) (hNvm : k.nvm = true) {outcome : Nat} {d : Dev} (h : Keeps k d0 d) : Keeps k d0 (Dev.totaliserPhase1 outcome d) := by
  unfold Dev.totaliserPhase1
  repeat' first
    | with_reducible assumption
    | (extract_lets +onlyGivenNames x; first | (have hx : Keeps k d0 x := ?_; clear_value x; swap; subst x; swap) | (have hx : Keeps1 k d0 x := ?_; clear_value x; swap; subst x; swap) | subst x)
    | exact Allow.cls_S rfl
    | exact hB
    | with_reducible refine Dev.totPhase1_keeps hB hNvm ?_
    | with_reducible exact Keeps.units (by assumption)
    | split

theorem Dev.totaliserPhase2_keeps {k : Allow} {d0 : Dev} (hN : k.n = true) (hB : k.b = true) (hNvm : k.nvm = true) {outcome : Nat} {d : Dev} (h : Keeps k d0 d) : Keeps k d0 (Dev.totaliserPhase2 outcome d) := by
  unfold Dev.totaliserPhase2
  repeat' first
    | with_reducible assumption
    | (extract_lets +onlyGivenNames x; first | (have hx : Keeps k d0 x := ?_; clear_value x; swap; subst x; swap) | (have hx : Keeps1 k d0 x := ?_; clear_value x; swap; subst x; swap) | subst x)
    | exact Allow.cls_S rfl
    | exact hN
    | exact hB
    | with_reducible refine Dev.totPhase2_keeps hN hB hNvm ?_
    | with_reducible exact Keeps.units (by assumption)
    | split

theorem Dev.countAudit_keeps {k : Allow} {d0 : Dev} (hN : k.n = true) {d : Dev} (h : Keeps k d0 d) : Keeps k d0 (Dev.countAudit d) := by
  unfold Dev.countAudit
  repeat' first
    | with_reducible assumption
    | (extract_lets +onlyGivenNames x; first | (have hx : Keeps k d0 x := ?_; clear_value x; swap; subst x; swap) | (have hx : Keeps1 k d0 x := ?_; clear_value x; swap; subst x; swap) | subst x)
    | exact Allow.cls_S rfl
    | exact hN
    | with_reducible refine Keeps.wr ?_ ?_
    | with_reducible exact Keeps.units (by assumption)
    | split

theorem Dev.writeAudit_keeps {k : Allow} {d0 : Dev} (hN : k.n = true) (hNvm : k.nvm = true) {d : Dev} {kind : Nat} {state : Nat} {old : Nat} {new : Nat} {gen : Nat} {bad : Bool} (h : Keeps k d0 d) : Keeps k d0 (Dev.writeAudit d kind state old new gen bad) := by
  unfold Dev.writeAudit
  repeat' first
    | with_reducible assumption
    | (extract_lets +onlyGivenNames x; first | (have hx : Keeps k d0 x := ?_; clear_value x; swap; subst x; swap) | (have hx : Keeps1 k d0 x := ?_; clear_value x; swap; subst x; swap) | subst x)
    | exact Allow.cls_S rfl
    | exact hN
    | with_reducible refine Dev.countAudit_keeps hN ?_
    | with_reducible refine Dev.spoil_keeps hNvm ?_
    | with_reducible refine Dev.program_keeps hNvm ?_
    | with_reducible exact Keeps.units (by assumption)
    | split

theorem Dev.settleAudit_keeps {k : Allow} {d0 : Dev} (hN : k.n = true) (hNvm : k.nvm = true) {d : Dev} {confirm : Bool} (h : Keeps k d0 d) : Keeps k d0 (Dev.settleAudit d confirm) := by
  unfold Dev.settleAudit
  repeat' first
    | with_reducible assumption
    | (extract_lets +onlyGivenNames x; first | (have hx : Keeps k d0 x := ?_; clear_value x; swap; subst x; swap) | (have hx : Keeps1 k d0 x := ?_; clear_value x; swap; subst x; swap) | subst x)
    | exact Allow.cls_S rfl
    | exact hN
    | with_reducible refine Dev.countAudit_keeps hN ?_
    | with_reducible refine Dev.program_keeps hNvm ?_
    | with_reducible exact Keeps.units (by assumption)
    | split

theorem Dev.reportAuditFull_keeps {k : Allow} {d0 : Dev} (hB : k.b = true) {d : Dev} (h : Keeps k d0 d) : Keeps k d0 (Dev.reportAuditFull d) := by
  unfold Dev.reportAuditFull
  repeat' first
    | with_reducible assumption
    | (extract_lets +onlyGivenNames x; first | (have hx : Keeps k d0 x := ?_; clear_value x; swap; subst x; swap) | (have hx : Keeps1 k d0 x := ?_; clear_value x; swap; subst x; swap) | subst x)
    | exact Allow.cls_S rfl
    | exact hB
    | with_reducible refine Dev.fault_keeps hB ?_
    | with_reducible refine Dev.putLogs_keeps ?_
    | with_reducible exact Keeps.units (by assumption)
    | split

theorem Dev.resolved_keeps {k : Allow} {d0 : Dev} (hB : k.b = true) {d : Dev} (h : Keeps k d0 d) : Keeps k d0 (Dev.resolved d) := by
  unfold Dev.resolved
  repeat' first
    | with_reducible assumption
    | (extract_lets +onlyGivenNames x; first | (have hx : Keeps k d0 x := ?_; clear_value x; swap; subst x; swap) | (have hx : Keeps1 k d0 x := ?_; clear_value x; swap; subst x; swap) | subst x)
    | exact Allow.cls_S rfl
    | exact hB
    | with_reducible refine Dev.fault_keeps hB ?_
    | with_reducible refine Keeps.wr ?_ ?_
    | with_reducible exact Keeps.units (by assumption)
    | split

theorem Dev.closeTorn_keeps {k : Allow} {d0 : Dev} (hB : k.b = true) (hNvm : k.nvm = true) {d : Dev} {s : Sector} (h : Keeps k d0 d) : Keeps k d0 (Dev.closeTorn d s) := by
  unfold Dev.closeTorn
  repeat' first
    | with_reducible assumption
    | (extract_lets +onlyGivenNames x; first | (have hx : Keeps k d0 x := ?_; clear_value x; swap; subst x; swap) | (have hx : Keeps1 k d0 x := ?_; clear_value x; swap; subst x; swap) | subst x)
    | exact Allow.cls_S rfl
    | exact hB
    | with_reducible refine Dev.fault_keeps hB ?_
    | with_reducible refine Dev.resolved_keeps hB ?_
    | with_reducible refine Dev.setSector_keeps hNvm ?_
    | with_reducible exact Keeps.units (by assumption)
    | split

theorem Dev.dropSource_keeps {k : Allow} {d0 : Dev} (hB : k.b = true) (hNvm : k.nvm = true) {d : Dev} {s : Sector} (h : Keeps k d0 d) : Keeps k d0 (Dev.dropSource d s) := by
  unfold Dev.dropSource
  repeat' first
    | with_reducible assumption
    | (extract_lets +onlyGivenNames x; first | (have hx : Keeps k d0 x := ?_; clear_value x; swap; subst x; swap) | (have hx : Keeps1 k d0 x := ?_; clear_value x; swap; subst x; swap) | subst x)
    | exact Allow.cls_S rfl
    | exact hB
    | ((with_reducible first | refine Allow.cls_mem (by assumption) ?_ | refine Allow.cls_fst (by assumption) ?_ | refine Allow.cls_snd (by assumption) ?_); rfl)
    | with_reducible refine Dev.resolved_keeps hB ?_
    | with_reducible refine Dev.eraseSector_keeps hNvm ?_
    | with_reducible refine Dev.setSector_keeps hNvm ?_
    | with_reducible refine Keeps.each ?_ (fun d x hm hd => ?_)
    | with_reducible exact Keeps.units (by assumption)
    | split

theorem Dev.dropSector_keeps {k : Allow} {d0 : Dev} (hB : k.b = true) (hNvm : k.nvm = true) {d : Dev} {s : Sector} (h : Keeps k d0 d) : Keeps k d0 (Dev.dropSector d s) := by
  unfold Dev.dropSector
  repeat' first
    | with_reducible assumption
    | (extract_lets +onlyGivenNames x; first | (have hx : Keeps k d0 x := ?_; clear_value x; swap; subst x; swap) | (have hx : Keeps1 k d0 x := ?_; clear_value x; swap; subst x; swap) | subst x)
    | exact Allow.cls_S rfl
    | exact hB
    | with_reducible refine Dev.resolved_keeps hB ?_
    | with_reducible refine Dev.eraseSector_keeps hNvm ?_
    | with_reducible exact Keeps.units (by assumption)
    | split

theorem Dev.closeOlder_keeps {k : Allow} {d0 : Dev} (hB : k.b = true) (hNvm : k.nvm = true) {d : Dev} {s : Sector} (h : Keeps k d0 d) : Keeps k d0 (Dev.closeOlder d s) := by
  unfold Dev.closeOlder
  repeat' first
    | with_reducible assumption
    | (extract_lets +onlyGivenNames x; first | (have hx : Keeps k d0 x := ?_; clear_value x; swap; subst x; swap) | (have hx : Keeps1 k d0 x := ?_; clear_value x; swap; subst x; swap) | subst x)
    | exact Allow.cls_S rfl
    | exact hB
    | with_reducible refine Dev.resolved_keeps hB ?_
    | with_reducible refine Dev.setSector_keeps hNvm ?_
    | with_reducible exact Keeps.units (by assumption)
    | split

theorem Dev.resolveSectors_keeps {k : Allow} {d0 : Dev} (hB : k.b = true) (hNvm : k.nvm = true) {d : Dev} (h : Keeps k d0 d) : Keeps k d0 (Dev.resolveSectors d) := by
  unfold Dev.resolveSectors
  repeat' first
    | with_reducible assumption
    | (extract_lets +onlyGivenNames x; first | (have hx : Keeps k d0 x := ?_; clear_value x; swap; subst x; swap) | (have hx : Keeps1 k d0 x := ?_; clear_value x; swap; subst x; swap) | subst x)
    | exact Allow.cls_S rfl
    | exact hB
    | ((with_reducible first | refine Allow.cls_mem (by assumption) ?_ | refine Allow.cls_fst (by assumption) ?_ | refine Allow.cls_snd (by assumption) ?_); rfl)
    | with_reducible refine Dev.closeTorn_keeps hB hNvm ?_
    | with_reducible refine Dev.closeOlder_keeps hB hNvm ?_
    | with_reducible refine Dev.dropSource_keeps hB hNvm ?_
    | with_reducible refine Dev.dropSector_keeps hB hNvm ?_
    | with_reducible refine Keeps.each ?_ (fun d x hm hd => ?_)
    | with_reducible exact Keeps.units (by assumption)
    | split

theorem Dev.findActive_keeps {k : Allow} {d0 : Dev} {d : Dev} (h : Keeps k d0 d) : Keeps k d0 (Dev.findActive d) := by
  unfold Dev.findActive
  repeat' first
    | with_reducible assumption
    | (extract_lets +onlyGivenNames x; first | (have hx : Keeps k d0 x := ?_; clear_value x; swap; subst x; swap) | (have hx : Keeps1 k d0 x := ?_; clear_value x; swap; subst x; swap) | subst x)
    | exact Allow.cls_S rfl
    | with_reducible refine Dev.putLogs_keeps ?_
    | with_reducible exact Keeps.units (by assumption)
    | split

theorem Dev.restoreTotal_keeps {k : Allow} {d0 : Dev} (hN : k.n = true) (hB : k.b = true) (hNvm : k.nvm = true) {d : Dev} (h : Keeps k d0 d) : Keeps k d0 (Dev.restoreTotal d) := by
  unfold Dev.restoreTotal
  repeat' first
    | with_reducible assumption
    | (extract_lets +onlyGivenNames x; first | (have hx : Keeps k d0 x := ?_; clear_value x; swap; subst x; swap) | (have hx : Keeps1 k d0 x := ?_; clear_value x; swap; subst x; swap) | subst x)
    | exact Allow.cls_S rfl
    | exact hN
    | exact hB
    | ((with_reducible first | refine Allow.cls_mem (by assumption) ?_ | refine Allow.cls_fst (by assumption) ?_ | refine Allow.cls_snd (by assumption) ?_); rfl)
    | with_reducible refine Dev.log_keeps ?_
    | with_reducible refine Dev.program_keeps hNvm ?_
    | with_reducible refine Dev.fault_keeps hB ?_
    | with_reducible refine Dev.queueTot_keeps hB ?_
    | with_reducible refine Dev.takeTot_keeps hN hB ?_
    | with_reducible refine Dev.putLogs_keeps ?_
    | with_reducible refine Keeps.wr ?_ ?_
    | with_reducible refine Keeps.foldl ?_ (fun d x hm hd => ?_)
    | with_reducible refine Keeps.foldl1 ?_ (fun d x hm hd => ?_)
    | with_reducible exact Keeps.units (by assumption)
    | split

theorem Dev.voidTorn_keeps {k : Allow} {d0 : Dev} (hNvm : k.nvm = true) {d : Dev} (h : Keeps k d0 d) : Keeps k d0 (Dev.voidTorn d) := by
  unfold Dev.voidTorn
  repeat' first
    | with_reducible assumption
    | (extract_lets +onlyGivenNames x; first | (have hx : Keeps k d0 x := ?_; clear_value x; swap; subst x; swap) | (have hx : Keeps1 k d0 x := ?_; clear_value x; swap; subst x; swap) | subst x)
    | exact Allow.cls_S rfl
    | ((with_reducible first | refine Allow.cls_mem (by assumption) ?_ | refine Allow.cls_fst (by assumption) ?_ | refine Allow.cls_snd (by assumption) ?_); rfl)
    | with_reducible refine Dev.program_keeps hNvm ?_
    | with_reducible refine Keeps.each ?_ (fun d x hm hd => ?_)
    | with_reducible exact Keeps.units (by assumption)
    | split

theorem Dev.findAgeing_keeps {k : Allow} {d0 : Dev} {d : Dev} (h : Keeps k d0 d) : Keeps k d0 (Dev.findAgeing d) := by
  unfold Dev.findAgeing
  repeat' first
    | with_reducible assumption
    | (extract_lets +onlyGivenNames x; first | (have hx : Keeps k d0 x := ?_; clear_value x; swap; subst x; swap) | (have hx : Keeps1 k d0 x := ?_; clear_value x; swap; subst x; swap) | subst x)
    | exact Allow.cls_S rfl
    | with_reducible exact Keeps.units (by assumption)
    | split

theorem Dev.mount_keeps {k : Allow} {d0 : Dev} (hN : k.n = true) (hB : k.b = true) (hNvm : k.nvm = true) {d : Dev} (h : Keeps k d0 d) : Keeps k d0 (Dev.mount d) := by
  unfold Dev.mount
  repeat' first
    | with_reducible assumption
    | (extract_lets +onlyGivenNames x; first | (have hx : Keeps k d0 x := ?_; clear_value x; swap; subst x; swap) | (have hx : Keeps1 k d0 x := ?_; clear_value x; swap; subst x; swap) | subst x)
    | exact Allow.cls_S rfl
    | exact hN
    | exact hB
    | with_reducible refine Dev.refreshMap_keeps ?_
    | with_reducible refine Dev.putLogs_keeps ?_
    | with_reducible refine Dev.restoreTotal_keeps hN hB hNvm ?_
    | with_reducible refine Dev.countAudit_keeps hN ?_
    | with_reducible refine Dev.voidTorn_keeps hNvm ?_
    | with_reducible refine Dev.findAgeing_keeps ?_
    | with_reducible refine Dev.findActive_keeps ?_
    | with_reducible refine Dev.resolveSectors_keeps hB hNvm ?_
    | with_reducible refine Keeps.wr ?_ ?_
    | with_reducible exact Keeps.units (by assumption)
    | split

theorem Dev.beginLoad_keeps {k : Allow} {d0 : Dev} {kind : Nat} {d : Dev} (h : Keeps k d0 d) : Keeps k d0 (Dev.beginLoad kind d) := by
  unfold Dev.beginLoad
  repeat' first
    | with_reducible assumption
    | (extract_lets +onlyGivenNames x; first | (have hx : Keeps k d0 x := ?_; clear_value x; swap; subst x; swap) | (have hx : Keeps1 k d0 x := ?_; clear_value x; swap; subst x; swap) | subst x)
    | exact Allow.cls_S rfl
    | with_reducible refine Dev.putLogs_keeps ?_
    | with_reducible refine Keeps.wr ?_ ?_
    | with_reducible exact Keeps.units (by assumption)
    | split

theorem Dev.endLoad_keeps {k : Allow} {d0 : Dev} {d : Dev} {result : Nat} {len : Nat} (h : Keeps k d0 d) : Keeps k d0 (Dev.endLoad d result len) := by
  unfold Dev.endLoad
  repeat' first
    | with_reducible assumption
    | (extract_lets +onlyGivenNames x; first | (have hx : Keeps k d0 x := ?_; clear_value x; swap; subst x; swap) | (have hx : Keeps1 k d0 x := ?_; clear_value x; swap; subst x; swap) | subst x)
    | exact Allow.cls_S rfl
    | with_reducible refine Keeps.wr ?_ ?_
    | with_reducible exact Keeps.units (by assumption)
    | split

theorem Dev.logLoadDone_keeps {k : Allow} {d0 : Dev} {failed : Bool} {d : Dev} (h : Keeps k d0 d) : Keeps k d0 (Dev.logLoadDone failed d) := by
  unfold Dev.logLoadDone
  repeat' first
    | with_reducible assumption
    | (extract_lets +onlyGivenNames x; first | (have hx : Keeps k d0 x := ?_; clear_value x; swap; subst x; swap) | (have hx : Keeps1 k d0 x := ?_; clear_value x; swap; subst x; swap) | subst x)
    | exact Allow.cls_S rfl
    | with_reducible refine Dev.endLoad_keeps ?_
    | with_reducible refine Dev.putLogs_keeps ?_
    | with_reducible refine Keeps.wr ?_ ?_
    | with_reducible exact Keeps.units (by assumption)
    | split

theorem Dev.sramWritten_keeps {k : Allow} {d0 : Dev} {d : Dev} {w : Nat} (h : Keeps k d0 d) : Keeps k d0 (Dev.sramWritten d w) := by
  unfold Dev.sramWritten
  repeat' first
    | with_reducible assumption
    | (extract_lets +onlyGivenNames x; first | (have hx : Keeps k d0 x := ?_; clear_value x; swap; subst x; swap) | (have hx : Keeps1 k d0 x := ?_; clear_value x; swap; subst x; swap) | subst x)
    | exact Allow.cls_S rfl
    | with_reducible exact Keeps.units (by assumption)
    | split

theorem Dev.putFill_keeps {k : Allow} {d0 : Dev} {d : Dev} {n : Nat} {fill : Nat} (h : Keeps k d0 d) : Keeps k d0 (Dev.putFill d n fill) := by
  unfold Dev.putFill
  repeat' first
    | with_reducible assumption
    | (extract_lets +onlyGivenNames x; first | (have hx : Keeps k d0 x := ?_; clear_value x; swap; subst x; swap) | (have hx : Keeps1 k d0 x := ?_; clear_value x; swap; subst x; swap) | subst x)
    | exact Allow.cls_S rfl
    | with_reducible refine Keeps.wr ?_ ?_
    | with_reducible exact Keeps.units (by assumption)
    | split

theorem Dev.setFill_keeps {k : Allow} {d0 : Dev} {d : Dev} {n : Nat} {fill : Nat} (h : Keeps k d0 d) : Keeps k d0 (Dev.setFill d n fill) := by
  unfold Dev.setFill
  repeat' first
    | with_reducible assumption
    | (extract_lets +onlyGivenNames x; first | (have hx : Keeps k d0 x := ?_; clear_value x; swap; subst x; swap) | (have hx : Keeps1 k d0 x := ?_; clear_value x; swap; subst x; swap) | subst x)
    | exact Allow.cls_S rfl
    | with_reducible refine Dev.notify_keeps ?_
    | with_reducible refine Dev.putFill_keeps ?_
    | with_reducible refine Keeps.wr ?_ ?_
    | with_reducible refine Keeps.when ?_ (fun d hd => ?_)
    | with_reducible exact Keeps.units (by assumption)
    | split

theorem Dev.putWords_keeps {k : Allow} {d0 : Dev} {n cap : Nat} {l : List Nat} {i : Nat} {d : Dev} (h : Keeps k d0 d) :
    Keeps k d0 (Dev.putWords n cap l i d) := by
  induction l generalizing i d with
  | nil => exact h
  | cons w ws ih =>
    unfold Dev.putWords
    refine ih ?_
    repeat' first
      | with_reducible assumption
      | with_reducible refine Dev.putRing_keeps ?_
      | with_reducible refine Dev.sramWritten_keeps ?_

theorem Dev.addLoss_keeps {k : Allow} {d0 : Dev} {d : Dev} {n : Nat} {k0 : Nat} (h : Keeps k d0 d) : Keeps k d0 (Dev.addLoss d n k0) := by
  unfold Dev.addLoss
  repeat' first
    | with_reducible assumption
    | (extract_lets +onlyGivenNames x; first | (have hx : Keeps k d0 x := ?_; clear_value x; swap; subst x; swap) | (have hx : Keeps1 k d0 x := ?_; clear_value x; swap; subst x; swap) | subst x)
    | exact Allow.cls_S rfl
    | with_reducible refine Keeps.wr ?_ ?_
    | with_reducible exact Keeps.units (by assumption)
    | split

end Sys2Proof.Machine
end

