-- ==== Sys2Proof/Laws/Effects2.lean ====
section
/-! SUPPORT.
What each effect of the device keeps, part 2 of 6: `f_keeps` says which classes of fields, the NVM or the fuses `f` may change (its
hypotheses on `k`), and that it keeps the canonical forms.
-/

set_option linter.unusedTactic false
set_option linter.unreachableTactic false
set_option linter.unusedVariables false
set_option maxRecDepth 4000

namespace Sys2Proof.Machine

set_option Elab.async false

theorem Dev.dropEntry_keeps {k : Allow} {d0 : Dev} (hB : k.b = true) {d : Dev} {n : Nat} (h : Keeps k d0 d) : Keeps k d0 (Dev.dropEntry d n) := by
  unfold Dev.dropEntry
  repeat' first
    | with_reducible assumption
    | (extract_lets +onlyGivenNames x; first | (have hx : Keeps k d0 x := ?_; clear_value x; swap; subst x; swap) | (have hx : Keeps1 k d0 x := ?_; clear_value x; swap; subst x; swap) | subst x)
    | exact Allow.cls_S rfl
    | exact hB
    | with_reducible refine Dev.fault_keeps hB ?_
    | with_reducible refine Dev.putRing_keeps ?_
    | with_reducible refine Dev.addLoss_keeps ?_
    | with_reducible refine Keeps.wr ?_ ?_
    | with_reducible refine Keeps.when ?_ (fun d hd => ?_)
    | with_reducible exact Keeps.units (by assumption)
    | split

theorem Dev.makeRoom_keeps {k : Allow} {d0 : Dev} {d : Dev} {n : Nat} {need : Nat} (h : Keeps k d0 d) : Keeps k d0 (Dev.makeRoom d n need) := by
  unfold Dev.makeRoom
  repeat' first
    | with_reducible assumption
    | (extract_lets +onlyGivenNames x; first | (have hx : Keeps k d0 x := ?_; clear_value x; swap; subst x; swap) | (have hx : Keeps1 k d0 x := ?_; clear_value x; swap; subst x; swap) | subst x)
    | exact Allow.cls_S rfl
    | with_reducible refine Dev.addLoss_keeps ?_
    | with_reducible refine Dev.putFill_keeps ?_
    | with_reducible refine Dev.putRing_keeps ?_
    | with_reducible refine Keeps.wr ?_ ?_
    | with_reducible exact Keeps.units (by assumption)
    | split

theorem Dev.claimRoom_keeps {k : Allow} {d0 : Dev} (hB : k.b = true) {d : Dev} {n : Nat} {len : Nat} (h : Keeps k d0 d) : Keeps1 k d0 (Dev.claimRoom d n len) := by
  unfold Dev.claimRoom
  repeat' first
    | with_reducible assumption
    | (extract_lets +onlyGivenNames x; first | (have hx : Keeps k d0 x := ?_; clear_value x; swap; subst x; swap) | (have hx : Keeps1 k d0 x := ?_; clear_value x; swap; subst x; swap) | subst x)
    | exact Allow.cls_S rfl
    | exact hB
    | with_reducible refine Dev.makeRoom_keeps ?_
    | with_reducible refine Dev.dropEntry_keeps hB ?_
    | with_reducible exact Keeps.units (by assumption)
    | split

theorem Dev.sealEntry_keeps {k : Allow} {d0 : Dev} {d : Dev} {n : Nat} {len : Nat} (h : Keeps k d0 d) : Keeps k d0 (Dev.sealEntry d n len) := by
  unfold Dev.sealEntry
  repeat' first
    | with_reducible assumption
    | (extract_lets +onlyGivenNames x; first | (have hx : Keeps k d0 x := ?_; clear_value x; swap; subst x; swap) | (have hx : Keeps1 k d0 x := ?_; clear_value x; swap; subst x; swap) | subst x)
    | exact Allow.cls_S rfl
    | with_reducible refine Dev.setFill_keeps ?_
    | with_reducible refine Dev.putRing_keeps ?_
    | with_reducible refine Keeps.wr ?_ ?_
    | with_reducible exact Keeps.units (by assumption)
    | split

theorem Dev.writeEntry_keeps {k : Allow} {d0 : Dev} (hB : k.b = true) {d : Dev} {n : Nat} {w : Nat} (h : Keeps k d0 d) : Keeps k d0 (Dev.writeEntry d n w) := by
  unfold Dev.writeEntry
  repeat' first
    | with_reducible assumption
    | (extract_lets +onlyGivenNames x; first | (have hx : Keeps k d0 x := ?_; clear_value x; swap; subst x; swap) | (have hx : Keeps1 k d0 x := ?_; clear_value x; swap; subst x; swap) | subst x)
    | exact Allow.cls_S rfl
    | exact hB
    | with_reducible refine Dev.sealEntry_keeps ?_
    | with_reducible refine Dev.putWords_keeps ?_
    | with_reducible refine Dev.putRing_keeps ?_
    | with_reducible refine Dev.claimRoom_keeps hB ?_
    | with_reducible exact Keeps.units (by assumption)
    | split

theorem Dev.breakLock_keeps {k : Allow} {d0 : Dev} (hB : k.b = true) {d : Dev} {n : Nat} {owner : Nat} {code : Nat} {cls : Nat} {srcs : List Nat} (h : Keeps k d0 d) : Keeps k d0 (Dev.breakLock d n owner code cls srcs) := by
  unfold Dev.breakLock
  repeat' first
    | with_reducible assumption
    | (extract_lets +onlyGivenNames x; first | (have hx : Keeps k d0 x := ?_; clear_value x; swap; subst x; swap) | (have hx : Keeps1 k d0 x := ?_; clear_value x; swap; subst x; swap) | subst x)
    | exact Allow.cls_S rfl
    | exact hB
    | with_reducible refine Dev.fault_keeps hB ?_
    | with_reducible refine Dev.addLoss_keeps ?_
    | with_reducible refine Dev.putRing_keeps ?_
    | with_reducible refine Keeps.wr ?_ ?_
    | with_reducible refine Keeps.inc ?_ ?_
    | with_reducible exact Keeps.units (by assumption)
    | split

theorem Dev.writeWaiting_keeps {k : Allow} {d0 : Dev} (hB : k.b = true) {d : Dev} {e : WEntry} {rest : List WEntry} (h : Keeps k d0 d) : Keeps k d0 (Dev.writeWaiting d e rest) := by
  unfold Dev.writeWaiting
  repeat' first
    | with_reducible assumption
    | (extract_lets +onlyGivenNames x; first | (have hx : Keeps k d0 x := ?_; clear_value x; swap; subst x; swap) | (have hx : Keeps1 k d0 x := ?_; clear_value x; swap; subst x; swap) | subst x)
    | exact Allow.cls_S rfl
    | exact hB
    | with_reducible refine Dev.sealEntry_keeps ?_
    | with_reducible refine Dev.putRing_keeps ?_
    | with_reducible refine Dev.putWords_keeps ?_
    | with_reducible refine Dev.setFill_keeps ?_
    | with_reducible refine Dev.claimRoom_keeps hB ?_
    | with_reducible refine Dev.writeEntry_keeps hB ?_
    | with_reducible refine Dev.breakLock_keeps hB ?_
    | with_reducible exact Keeps.units (by assumption)
    | split

theorem Dev.flush_keeps {k : Allow} {d0 : Dev} {n : Nat} {d : Dev} (h : Keeps k d0 d) : Keeps k d0 (Dev.flush n d) := by
  unfold Dev.flush
  repeat' first
    | with_reducible assumption
    | (extract_lets +onlyGivenNames x; first | (have hx : Keeps k d0 x := ?_; clear_value x; swap; subst x; swap) | (have hx : Keeps1 k d0 x := ?_; clear_value x; swap; subst x; swap) | subst x)
    | exact Allow.cls_S rfl
    | with_reducible refine Dev.setFill_keeps ?_
    | with_reducible refine Dev.putRing_keeps ?_
    | with_reducible refine Keeps.wr ?_ ?_
    | with_reducible exact Keeps.units (by assumption)
    | split

theorem Dev.clearLoss_keeps {k : Allow} {d0 : Dev} {n : Nat} {d : Dev} (h : Keeps k d0 d) : Keeps k d0 (Dev.clearLoss n d) := by
  unfold Dev.clearLoss
  repeat' first
    | with_reducible assumption
    | (extract_lets +onlyGivenNames x; first | (have hx : Keeps k d0 x := ?_; clear_value x; swap; subst x; swap) | (have hx : Keeps1 k d0 x := ?_; clear_value x; swap; subst x; swap) | subst x)
    | exact Allow.cls_S rfl
    | with_reducible refine Keeps.wr ?_ ?_
    | with_reducible exact Keeps.units (by assumption)
    | split

theorem Dev.lockTimeout_keeps {k : Allow} {d0 : Dev} (hB : k.b = true) {n : Nat} {d : Dev} (h : Keeps k d0 d) : Keeps k d0 (Dev.lockTimeout n d) := by
  unfold Dev.lockTimeout
  repeat' first
    | with_reducible assumption
    | (extract_lets +onlyGivenNames x; first | (have hx : Keeps k d0 x := ?_; clear_value x; swap; subst x; swap) | (have hx : Keeps1 k d0 x := ?_; clear_value x; swap; subst x; swap) | subst x)
    | exact Allow.cls_S rfl
    | exact hB
    | with_reducible refine Dev.breakLock_keeps hB ?_
    | with_reducible refine Dev.raiseEpoch_keeps ?_
    | with_reducible exact Keeps.units (by assumption)
    | split

theorem Dev.emptyRing_keeps {k : Allow} {d0 : Dev} {n : Nat} {d : Dev} (h : Keeps k d0 d) : Keeps k d0 (Dev.emptyRing n d) := by
  unfold Dev.emptyRing
  repeat' first
    | with_reducible assumption
    | (extract_lets +onlyGivenNames x; first | (have hx : Keeps k d0 x := ?_; clear_value x; swap; subst x; swap) | (have hx : Keeps1 k d0 x := ?_; clear_value x; swap; subst x; swap) | subst x)
    | exact Allow.cls_S rfl
    | with_reducible refine Dev.setFill_keeps ?_
    | with_reducible refine Dev.putRing_keeps ?_
    | with_reducible refine Dev.addLoss_keeps ?_
    | with_reducible refine Keeps.wr ?_ ?_
    | with_reducible exact Keeps.units (by assumption)
    | split

theorem Dev.ringDataRead_keeps {k : Allow} {d0 : Dev} {n : Nat} {offset : Nat} {d : Dev} (h : Keeps k d0 d) : Keeps k d0 (Dev.ringDataRead n offset d) := by
  unfold Dev.ringDataRead
  repeat' first
    | with_reducible assumption
    | (extract_lets +onlyGivenNames x; first | (have hx : Keeps k d0 x := ?_; clear_value x; swap; subst x; swap) | (have hx : Keeps1 k d0 x := ?_; clear_value x; swap; subst x; swap) | subst x)
    | exact Allow.cls_S rfl
    | with_reducible refine Dev.setFill_keeps ?_
    | with_reducible refine Dev.putRing_keeps ?_
    | with_reducible refine Keeps.wr ?_ ?_
    | with_reducible exact Keeps.units (by assumption)
    | split

theorem Dev.pendingMarker_keeps {k : Allow} {d0 : Dev} {n : Nat} {d : Dev} (h : Keeps k d0 d) : Keeps k d0 (Dev.pendingMarker n d) := by
  unfold Dev.pendingMarker
  repeat' first
    | with_reducible assumption
    | (extract_lets +onlyGivenNames x; first | (have hx : Keeps k d0 x := ?_; clear_value x; swap; subst x; swap) | (have hx : Keeps1 k d0 x := ?_; clear_value x; swap; subst x; swap) | subst x)
    | exact Allow.cls_S rfl
    | with_reducible refine Dev.putVoice_keeps ?_
    | with_reducible exact Keeps.units (by assumption)
    | split

theorem Dev.tap_keeps {k : Allow} {d0 : Dev} {d : Dev} {n : Nat} {e : Entry} (h : Keeps k d0 d) : Keeps k d0 (Dev.tap d n e) := by
  unfold Dev.tap
  repeat' first
    | with_reducible assumption
    | (extract_lets +onlyGivenNames x; first | (have hx : Keeps k d0 x := ?_; clear_value x; swap; subst x; swap) | (have hx : Keeps1 k d0 x := ?_; clear_value x; swap; subst x; swap) | subst x)
    | exact Allow.cls_S rfl
    | with_reducible refine Dev.putVoice_keeps ?_
    | with_reducible exact Keeps.units (by assumption)
    | split

theorem Dev.riseCause_keeps {k : Allow} {d0 : Dev} (hB : k.b = true) {d : Dev} {n : Nat} (h : Keeps k d0 d) : Keeps k d0 (Dev.riseCause d n) := by
  unfold Dev.riseCause
  repeat' first
    | with_reducible assumption
    | (extract_lets +onlyGivenNames x; first | (have hx : Keeps k d0 x := ?_; clear_value x; swap; subst x; swap) | (have hx : Keeps1 k d0 x := ?_; clear_value x; swap; subst x; swap) | subst x)
    | exact Allow.cls_S rfl
    | exact hB
    | with_reducible refine Dev.fault_keeps hB ?_
    | with_reducible refine Dev.putVoice_keeps ?_
    | with_reducible refine Keeps.wr ?_ ?_
    | with_reducible exact Keeps.units (by assumption)
    | split

theorem Dev.clampK_keeps {k : Allow} {d0 : Dev} {d : Dev} {n : Nat} {ext : Nat} (h : Keeps k d0 d) : Keeps k d0 (Dev.clampK d n ext) := by
  unfold Dev.clampK
  repeat' first
    | with_reducible assumption
    | (extract_lets +onlyGivenNames x; first | (have hx : Keeps k d0 x := ?_; clear_value x; swap; subst x; swap) | (have hx : Keeps1 k d0 x := ?_; clear_value x; swap; subst x; swap) | subst x)
    | exact Allow.cls_S rfl
    | with_reducible refine Dev.putVoice_keeps ?_
    | with_reducible refine Keeps.wr ?_ ?_
    | with_reducible exact Keeps.units (by assumption)
    | split

theorem Dev.takeRise_keeps {k : Allow} {d0 : Dev} {d : Dev} {n : Nat} {ext : Nat} (h : Keeps k d0 d) : Keeps k d0 (Dev.takeRise d n ext) := by
  unfold Dev.takeRise
  repeat' first
    | with_reducible assumption
    | (extract_lets +onlyGivenNames x; first | (have hx : Keeps k d0 x := ?_; clear_value x; swap; subst x; swap) | (have hx : Keeps1 k d0 x := ?_; clear_value x; swap; subst x; swap) | subst x)
    | exact Allow.cls_S rfl
    | with_reducible refine Dev.putVoice_keeps ?_
    | with_reducible refine Dev.clampK_keeps ?_
    | with_reducible refine Keeps.wr ?_ ?_
    | with_reducible exact Keeps.units (by assumption)
    | split

theorem Dev.loseEdge_keeps {k : Allow} {d0 : Dev} (hB : k.b = true) {d : Dev} {n : Nat} {ext : Nat} {fine : Nat} (h : Keeps k d0 d) : Keeps k d0 (Dev.loseEdge d n ext fine) := by
  unfold Dev.loseEdge
  repeat' first
    | with_reducible assumption
    | (extract_lets +onlyGivenNames x; first | (have hx : Keeps k d0 x := ?_; clear_value x; swap; subst x; swap) | (have hx : Keeps1 k d0 x := ?_; clear_value x; swap; subst x; swap) | subst x)
    | exact Allow.cls_S rfl
    | exact hB
    | with_reducible refine Dev.fault_keeps hB ?_
    | with_reducible refine Dev.restVoice_keeps ?_
    | with_reducible refine Dev.putVoice_keeps ?_
    | with_reducible refine Keeps.wr ?_ ?_
    | with_reducible refine Keeps.inc ?_ ?_
    | with_reducible refine Keeps.when ?_ (fun d hd => ?_)
    | with_reducible exact Keeps.units (by assumption)
    | split

theorem Dev.stampEdge_keeps {k : Allow} {d0 : Dev} (hB : k.b = true) {d : Dev} {n : Nat} {ext : Nat} {fine : Nat} {rising : Bool} (h : Keeps k d0 d) : Keeps k d0 (Dev.stampEdge d n ext fine rising) := by
  unfold Dev.stampEdge
  repeat' first
    | with_reducible assumption
    | (extract_lets +onlyGivenNames x; first | (have hx : Keeps k d0 x := ?_; clear_value x; swap; subst x; swap) | (have hx : Keeps1 k d0 x := ?_; clear_value x; swap; subst x; swap) | subst x)
    | exact Allow.cls_S rfl
    | exact hB
    | with_reducible refine Dev.loseEdge_keeps hB ?_
    | with_reducible refine Dev.riseCause_keeps hB ?_
    | with_reducible refine Dev.tap_keeps ?_
    | with_reducible refine Dev.putVoice_keeps ?_
    | with_reducible refine Keeps.when ?_ (fun d hd => ?_)
    | with_reducible exact Keeps.units (by assumption)
    | split

theorem Dev.countEdge_keeps {k : Allow} {d0 : Dev} (hH : k.h = true) {d : Dev} {n : Nat} {ext : Nat} (h : Keeps k d0 d) : Keeps k d0 (Dev.countEdge d n ext) := by
  unfold Dev.countEdge
  repeat' first
    | with_reducible assumption
    | (extract_lets +onlyGivenNames x; first | (have hx : Keeps k d0 x := ?_; clear_value x; swap; subst x; swap) | (have hx : Keeps1 k d0 x := ?_; clear_value x; swap; subst x; swap) | subst x)
    | exact Allow.cls_S rfl
    | exact hH
    | with_reducible refine Dev.putVoice_keeps ?_
    | with_reducible refine Keeps.wr ?_ ?_
    | with_reducible refine Keeps.step1 ?_ ?_
    | with_reducible exact Keeps.units (by assumption)
    | split

theorem Dev.takeEdge_keeps {k : Allow} {d0 : Dev} (hB : k.b = true) (hH : k.h = true) {d : Dev} {n : Nat} {ext : Nat} {fine : Nat} {rising : Bool} {pair : Bool} (h : Keeps k d0 d) : Keeps1 k d0 (Dev.takeEdge d n ext fine rising pair) := by
  unfold Dev.takeEdge
  repeat' first
    | with_reducible assumption
    | (extract_lets +onlyGivenNames x; first | (have hx : Keeps k d0 x := ?_; clear_value x; swap; subst x; swap) | (have hx : Keeps1 k d0 x := ?_; clear_value x; swap; subst x; swap) | subst x)
    | exact Allow.cls_S rfl
    | exact hB
    | exact hH
    | with_reducible refine Dev.riseCause_keeps hB ?_
    | with_reducible refine Dev.stampEdge_keeps hB ?_
    | with_reducible refine Dev.takeRise_keeps ?_
    | with_reducible refine Dev.countEdge_keeps hH ?_
    | with_reducible exact Keeps.units (by assumption)
    | split

theorem Dev.dropPair_keeps {k : Allow} {d0 : Dev} (hB : k.b = true) {d : Dev} {n : Nat} (h : Keeps k d0 d) : Keeps k d0 (Dev.dropPair d n) := by
  unfold Dev.dropPair
  repeat' first
    | with_reducible assumption
    | (extract_lets +onlyGivenNames x; first | (have hx : Keeps k d0 x := ?_; clear_value x; swap; subst x; swap) | (have hx : Keeps1 k d0 x := ?_; clear_value x; swap; subst x; swap) | subst x)
    | exact Allow.cls_S rfl
    | exact hB
    | with_reducible refine Dev.fault_keeps hB ?_
    | with_reducible refine Dev.putVoice_keeps ?_
    | with_reducible refine Keeps.wr ?_ ?_
    | with_reducible refine Keeps.inc ?_ ?_
    | with_reducible refine Keeps.when ?_ (fun d hd => ?_)
    | with_reducible exact Keeps.units (by assumption)
    | split

theorem Dev.countExtra_keeps {k : Allow} {d0 : Dev} (hH : k.h = true) {d : Dev} {n : Nat} {ext : Nat} {extra : Nat} (h : Keeps k d0 d) : Keeps k d0 (Dev.countExtra d n ext extra) := by
  unfold Dev.countExtra
  repeat' first
    | with_reducible assumption
    | (extract_lets +onlyGivenNames x; first | (have hx : Keeps k d0 x := ?_; clear_value x; swap; subst x; swap) | (have hx : Keeps1 k d0 x := ?_; clear_value x; swap; subst x; swap) | subst x)
    | exact Allow.cls_S rfl
    | exact hH
    | with_reducible refine Dev.putVoice_keeps ?_
    | with_reducible refine Dev.takeRise_keeps ?_
    | with_reducible refine Dev.countEdge_keeps hH ?_
    | with_reducible refine Keeps.wr ?_ ?_
    | with_reducible exact Keeps.units (by assumption)
    | split

theorem Dev.takeFound_keeps {k : Allow} {d0 : Dev} (hB : k.b = true) (hH : k.h = true) {n start : Nat} {l : List Found} {extra : Nat} {paired : Bool} {d : Dev}
    (h : Keeps k d0 d) : Keeps k d0 (Dev.takeFound n start l extra paired d) := by
  induction l generalizing extra paired d with
  | nil => exact Dev.countExtra_keeps hH h
  | cons x rest ih =>
    cases x with
    | drop pos => exact ih (Dev.dropPair_keeps hB (Dev.countExtra_keeps hH h))
    | edge pos rising =>
      unfold Dev.takeFound
      split
      · exact ih (Dev.takeEdge_keeps hB hH h)
      · exact ih h
    | tail pos rising before =>
      unfold Dev.takeFound
      split
      · exact ih (Dev.takeEdge_keeps hB hH h)
      · exact ih h

theorem Dev.seeInput_keeps {k : Allow} {d0 : Dev} {d : Dev} {n : Nat} {base : Nat} {found : List Found} {runs : List (Bool × Nat)} (h : Keeps k d0 d) : Keeps k d0 (Dev.seeInput d n base found runs) := by
  unfold Dev.seeInput
  repeat' first
    | with_reducible assumption
    | (extract_lets +onlyGivenNames x; first | (have hx : Keeps k d0 x := ?_; clear_value x; swap; subst x; swap) | (have hx : Keeps1 k d0 x := ?_; clear_value x; swap; subst x; swap) | subst x)
    | exact Allow.cls_S rfl
    | with_reducible refine Dev.putVoice_keeps ?_
    | with_reducible exact Keeps.units (by assumption)
    | split

theorem Dev.takeLater_keeps {k : Allow} {d0 : Dev} (hB : k.b = true) (hH : k.h = true) {d : Dev} {n : Nat} (h : Keeps k d0 d) : Keeps k d0 (Dev.takeLater d n) := by
  unfold Dev.takeLater
  repeat' first
    | with_reducible assumption
    | (extract_lets +onlyGivenNames x; first | (have hx : Keeps k d0 x := ?_; clear_value x; swap; subst x; swap) | (have hx : Keeps1 k d0 x := ?_; clear_value x; swap; subst x; swap) | subst x)
    | exact Allow.cls_S rfl
    | exact hB
    | exact hH
    | ((with_reducible first | refine Allow.cls_mem (by assumption) ?_ | refine Allow.cls_fst (by assumption) ?_ | refine Allow.cls_snd (by assumption) ?_); rfl)
    | with_reducible refine Dev.takeFound_keeps hB hH ?_
    | with_reducible refine Dev.putVoice_keeps ?_
    | with_reducible refine Keeps.each ?_ (fun d x hm hd => ?_)
    | with_reducible exact Keeps.units (by assumption)
    | split

theorem Dev.voiceEdge_keeps {k : Allow} {d0 : Dev} (hB : k.b = true) (hH : k.h = true) {n : Nat} {base : Nat} {runs : List (Bool × Nat)} {extra : Nat} {d : Dev} (h : Keeps k d0 d) : Keeps k d0 (Dev.voiceEdge n base runs extra d) := by
  unfold Dev.voiceEdge
  repeat' first
    | with_reducible assumption
    | (extract_lets +onlyGivenNames x; first | (have hx : Keeps k d0 x := ?_; clear_value x; swap; subst x; swap) | (have hx : Keeps1 k d0 x := ?_; clear_value x; swap; subst x; swap) | subst x)
    | exact Allow.cls_S rfl
    | exact hB
    | exact hH
    | with_reducible refine Dev.takeFound_keeps hB hH ?_
    | with_reducible refine Dev.putVoice_keeps ?_
    | with_reducible refine Dev.seeInput_keeps ?_
    | with_reducible refine Dev.advance_keeps ?_
    | with_reducible exact Keeps.units (by assumption)
    | split

theorem Dev.epochMarkers_keeps {k : Allow} {d0 : Dev} {d : Dev} {ext : Nat} (h : Keeps k d0 d) : Keeps k d0 (Dev.epochMarkers d ext) := by
  unfold Dev.epochMarkers
  repeat' first
    | with_reducible assumption
    | (extract_lets +onlyGivenNames x; first | (have hx : Keeps k d0 x := ?_; clear_value x; swap; subst x; swap) | (have hx : Keeps1 k d0 x := ?_; clear_value x; swap; subst x; swap) | subst x)
    | exact Allow.cls_S rfl
    | ((with_reducible first | refine Allow.cls_mem (by assumption) ?_ | refine Allow.cls_fst (by assumption) ?_ | refine Allow.cls_snd (by assumption) ?_); rfl)
    | with_reducible refine Dev.putVoice_keeps ?_
    | with_reducible refine Keeps.each ?_ (fun d x hm hd => ?_)
    | with_reducible exact Keeps.units (by assumption)
    | split

theorem Dev.wrapEpoch_keeps {k : Allow} {d0 : Dev} {d : Dev} (h : Keeps k d0 d) : Keeps k d0 (Dev.wrapEpoch d) := by
  unfold Dev.wrapEpoch
  repeat' first
    | with_reducible assumption
    | (extract_lets +onlyGivenNames x; first | (have hx : Keeps k d0 x := ?_; clear_value x; swap; subst x; swap) | (have hx : Keeps1 k d0 x := ?_; clear_value x; swap; subst x; swap) | subst x)
    | exact Allow.cls_S rfl
    | with_reducible refine Dev.epochMarkers_keeps ?_
    | with_reducible refine Keeps.inc ?_ ?_
    | with_reducible exact Keeps.units (by assumption)
    | split

theorem Dev.epochWrap_keeps {k : Allow} {d0 : Dev} {d : Dev} (h : Keeps k d0 d) : Keeps k d0 (Dev.epochWrap d) := by
  unfold Dev.epochWrap
  repeat' first
    | with_reducible assumption
    | (extract_lets +onlyGivenNames x; first | (have hx : Keeps k d0 x := ?_; clear_value x; swap; subst x; swap) | (have hx : Keeps1 k d0 x := ?_; clear_value x; swap; subst x; swap) | subst x)
    | exact Allow.cls_S rfl
    | with_reducible refine Dev.wrapEpoch_keeps ?_
    | with_reducible exact Keeps.units (by assumption)
    | split

theorem Dev.clearVoiceCounts_keeps {k : Allow} {d0 : Dev} {n : Nat} {d : Dev} (h : Keeps k d0 d) : Keeps k d0 (Dev.clearVoiceCounts n d) := by
  unfold Dev.clearVoiceCounts
  repeat' first
    | with_reducible assumption
    | (extract_lets +onlyGivenNames x; first | (have hx : Keeps k d0 x := ?_; clear_value x; swap; subst x; swap) | (have hx : Keeps1 k d0 x := ?_; clear_value x; swap; subst x; swap) | subst x)
    | exact Allow.cls_S rfl
    | with_reducible refine Keeps.wr ?_ ?_
    | with_reducible exact Keeps.units (by assumption)
    | split

theorem Dev.startVoice_keeps {k : Allow} {d0 : Dev} {d : Dev} {n : Nat} {state : Nat} (h : Keeps k d0 d) : Keeps k d0 (Dev.startVoice d n state) := by
  unfold Dev.startVoice
  repeat' first
    | with_reducible assumption
    | (extract_lets +onlyGivenNames x; first | (have hx : Keeps k d0 x := ?_; clear_value x; swap; subst x; swap) | (have hx : Keeps1 k d0 x := ?_; clear_value x; swap; subst x; swap) | subst x)
    | exact Allow.cls_S rfl
    | with_reducible refine Dev.putVoice_keeps ?_
    | with_reducible refine Keeps.wr ?_ ?_
    | with_reducible exact Keeps.units (by assumption)
    | split

theorem Dev.voiceStart_keeps {k : Allow} {d0 : Dev} {n : Nat} {d : Dev} (h : Keeps k d0 d) : Keeps k d0 (Dev.voiceStart n d) := by
  unfold Dev.voiceStart
  repeat' first
    | with_reducible assumption
    | (extract_lets +onlyGivenNames x; first | (have hx : Keeps k d0 x := ?_; clear_value x; swap; subst x; swap) | (have hx : Keeps1 k d0 x := ?_; clear_value x; swap; subst x; swap) | subst x)
    | exact Allow.cls_S rfl
    | with_reducible refine Dev.startVoice_keeps ?_
    | with_reducible exact Keeps.units (by assumption)
    | split

theorem Dev.followOwner_keeps {k : Allow} {d0 : Dev} {d : Dev} {c : Nat} (h : Keeps k d0 d) : Keeps k d0 (Dev.followOwner d c) := by
  unfold Dev.followOwner
  repeat' first
    | with_reducible assumption
    | (extract_lets +onlyGivenNames x; first | (have hx : Keeps k d0 x := ?_; clear_value x; swap; subst x; swap) | (have hx : Keeps1 k d0 x := ?_; clear_value x; swap; subst x; swap) | subst x)
    | exact Allow.cls_S rfl
    | with_reducible refine Keeps.wr ?_ ?_
    | with_reducible exact Keeps.units (by assumption)
    | split

theorem Dev.beginTuning_keeps {k : Allow} {d0 : Dev} {d : Dev} {c : Nat} (h : Keeps k d0 d) : Keeps k d0 (Dev.beginTuning d c) := by
  unfold Dev.beginTuning
  repeat' first
    | with_reducible assumption
    | (extract_lets +onlyGivenNames x; first | (have hx : Keeps k d0 x := ?_; clear_value x; swap; subst x; swap) | (have hx : Keeps1 k d0 x := ?_; clear_value x; swap; subst x; swap) | subst x)
    | exact Allow.cls_S rfl
    | with_reducible refine Dev.putTun_keeps ?_
    | with_reducible refine Keeps.wr ?_ ?_
    | with_reducible exact Keeps.units (by assumption)
    | split

theorem Dev.setTune_keeps {k : Allow} {d0 : Dev} {d : Dev} {c : Nat} {st : Nat} (h : Keeps k d0 d) : Keeps k d0 (Dev.setTune d c st) := by
  unfold Dev.setTune
  repeat' first
    | with_reducible assumption
    | (extract_lets +onlyGivenNames x; first | (have hx : Keeps k d0 x := ?_; clear_value x; swap; subst x; swap) | (have hx : Keeps1 k d0 x := ?_; clear_value x; swap; subst x; swap) | subst x)
    | exact Allow.cls_S rfl
    | with_reducible refine Dev.restVoice_keeps ?_
    | with_reducible refine Keeps.wr ?_ ?_
    | with_reducible refine Keeps.when ?_ (fun d hd => ?_)
    | with_reducible exact Keeps.units (by assumption)
    | split

theorem Dev.rejectCandidate_keeps {k : Allow} {d0 : Dev} (hB : k.b = true) {d : Dev} {c : Nat} {code : Nat} (h : Keeps k d0 d) : Keeps k d0 (Dev.rejectCandidate d c code) := by
  unfold Dev.rejectCandidate
  repeat' first
    | with_reducible assumption
    | (extract_lets +onlyGivenNames x; first | (have hx : Keeps k d0 x := ?_; clear_value x; swap; subst x; swap) | (have hx : Keeps1 k d0 x := ?_; clear_value x; swap; subst x; swap) | subst x)
    | exact Allow.cls_S rfl
    | exact hB
    | with_reducible refine Dev.beginTuning_keeps ?_
    | with_reducible refine Dev.fault_keeps hB ?_
    | with_reducible refine Keeps.inc ?_ ?_
    | with_reducible exact Keeps.units (by assumption)
    | split

theorem Dev.testCandidate_keeps {k : Allow} {d0 : Dev} (hB : k.b = true) {d : Dev} {c : Nat} (h : Keeps k d0 d) : Keeps k d0 (Dev.testCandidate d c) := by
  unfold Dev.testCandidate
  repeat' first
    | with_reducible assumption
    | (extract_lets +onlyGivenNames x; first | (have hx : Keeps k d0 x := ?_; clear_value x; swap; subst x; swap) | (have hx : Keeps1 k d0 x := ?_; clear_value x; swap; subst x; swap) | subst x)
    | exact Allow.cls_S rfl
    | exact hB
    | with_reducible refine Dev.rejectCandidate_keeps hB ?_
    | with_reducible refine Dev.fault_keeps hB ?_
    | with_reducible refine Dev.stopTuning_keeps ?_
    | with_reducible refine Dev.setTune_keeps ?_
    | with_reducible refine Dev.putTun_keeps ?_
    | with_reducible refine Keeps.wr ?_ ?_
    | with_reducible refine Keeps.inc ?_ ?_
    | with_reducible exact Keeps.units (by assumption)
    | split

theorem Dev.logHit_keeps {k : Allow} {d0 : Dev} {d : Dev} {c : Nat} {ext : Nat} {fine : Nat} (h : Keeps k d0 d) : Keeps k d0 (Dev.logHit d c ext fine) := by
  unfold Dev.logHit
  repeat' first
    | with_reducible assumption
    | (extract_lets +onlyGivenNames x; first | (have hx : Keeps k d0 x := ?_; clear_value x; swap; subst x; swap) | (have hx : Keeps1 k d0 x := ?_; clear_value x; swap; subst x; swap) | subst x)
    | exact Allow.cls_S rfl
    | with_reducible refine Dev.putVoice_keeps ?_
    | with_reducible exact Keeps.units (by assumption)
    | split

theorem Dev.tuningHit_keeps {k : Allow} {d0 : Dev} (hB : k.b = true) {c : Nat} {slot : Nat} {runs : List (Bool × Nat)} {busy : Bool} {d : Dev} (h : Keeps k d0 d) : Keeps k d0 (Dev.tuningHit c slot runs busy d) := by
  unfold Dev.tuningHit
  repeat' first
    | with_reducible assumption
    | (extract_lets +onlyGivenNames x; first | (have hx : Keeps k d0 x := ?_; clear_value x; swap; subst x; swap) | (have hx : Keeps1 k d0 x := ?_; clear_value x; swap; subst x; swap) | subst x)
    | exact Allow.cls_S rfl
    | exact hB
    | with_reducible refine Dev.testCandidate_keeps hB ?_
    | with_reducible refine Dev.logHit_keeps ?_
    | with_reducible refine Dev.putTun_keeps ?_
    | with_reducible refine Dev.advance_keeps ?_
    | with_reducible refine Keeps.inc ?_ ?_
    | with_reducible refine Keeps.step1 ?_ ?_
    | with_reducible exact Keeps.units (by assumption)
    | split

theorem Dev.swapTable_keeps {k : Allow} {d0 : Dev} {d : Dev} {c : Nat} {coarse : Nat} (h : Keeps k d0 d) : Keeps k d0 (Dev.swapTable d c coarse) := by
  unfold Dev.swapTable
  repeat' first
    | with_reducible assumption
    | (extract_lets +onlyGivenNames x; first | (have hx : Keeps k d0 x := ?_; clear_value x; swap; subst x; swap) | (have hx : Keeps1 k d0 x := ?_; clear_value x; swap; subst x; swap) | subst x)
    | exact Allow.cls_S rfl
    | with_reducible refine Dev.beginTuning_keeps ?_
    | with_reducible refine Dev.setTune_keeps ?_
    | with_reducible refine Dev.putTun_keeps ?_
    | with_reducible refine Keeps.wr ?_ ?_
    | with_reducible refine Keeps.step1 ?_ ?_
    | with_reducible exact Keeps.units (by assumption)
    | split

theorem Dev.tableSwap_keeps {k : Allow} {d0 : Dev} {c : Nat} {d : Dev} (h : Keeps k d0 d) : Keeps k d0 (Dev.tableSwap c d) := by
  unfold Dev.tableSwap
  repeat' first
    | with_reducible assumption
    | (extract_lets +onlyGivenNames x; first | (have hx : Keeps k d0 x := ?_; clear_value x; swap; subst x; swap) | (have hx : Keeps1 k d0 x := ?_; clear_value x; swap; subst x; swap) | subst x)
    | exact Allow.cls_S rfl
    | with_reducible refine Dev.swapTable_keeps ?_
    | with_reducible exact Keeps.units (by assumption)
    | split

theorem Dev.tableExpired_keeps {k : Allow} {d0 : Dev} (hB : k.b = true) {c : Nat} {d : Dev} (h : Keeps k d0 d) : Keeps k d0 (Dev.tableExpired c d) := by
  unfold Dev.tableExpired
  repeat' first
    | with_reducible assumption
    | (extract_lets +onlyGivenNames x; first | (have hx : Keeps k d0 x := ?_; clear_value x; swap; subst x; swap) | (have hx : Keeps1 k d0 x := ?_; clear_value x; swap; subst x; swap) | subst x)
    | exact Allow.cls_S rfl
    | exact hB
    | with_reducible refine Dev.fault_keeps hB ?_
    | with_reducible refine Dev.setTune_keeps ?_
    | with_reducible refine Dev.putTun_keeps ?_
    | with_reducible exact Keeps.units (by assumption)
    | split

theorem Dev.bootTuningLate_keeps {k : Allow} {d0 : Dev} (hB : k.b = true) {c : Nat} {d : Dev} (h : Keeps k d0 d) : Keeps k d0 (Dev.bootTuningLate c d) := by
  unfold Dev.bootTuningLate
  repeat' first
    | with_reducible assumption
    | (extract_lets +onlyGivenNames x; first | (have hx : Keeps k d0 x := ?_; clear_value x; swap; subst x; swap) | (have hx : Keeps1 k d0 x := ?_; clear_value x; swap; subst x; swap) | subst x)
    | exact Allow.cls_S rfl
    | exact hB
    | with_reducible refine Dev.fault_keeps hB ?_
    | with_reducible refine Dev.putTun_keeps ?_
    | with_reducible exact Keeps.units (by assumption)
    | split

theorem Dev.collectionTimeout_keeps {k : Allow} {d0 : Dev} (hB : k.b = true) {c : Nat} {d : Dev} (h : Keeps k d0 d) : Keeps k d0 (Dev.collectionTimeout c d) := by
  unfold Dev.collectionTimeout
  repeat' first
    | with_reducible assumption
    | (extract_lets +onlyGivenNames x; first | (have hx : Keeps k d0 x := ?_; clear_value x; swap; subst x; swap) | (have hx : Keeps1 k d0 x := ?_; clear_value x; swap; subst x; swap) | subst x)
    | exact Allow.cls_S rfl
    | exact hB
    | with_reducible refine Dev.fault_keeps hB ?_
    | with_reducible refine Dev.putTun_keeps ?_
    | with_reducible exact Keeps.units (by assumption)
    | split

theorem Dev.tuneRestart_keeps {k : Allow} {d0 : Dev} {c : Nat} {d : Dev} (h : Keeps k d0 d) : Keeps k d0 (Dev.tuneRestart c d) := by
  unfold Dev.tuneRestart
  repeat' first
    | with_reducible assumption
    | (extract_lets +onlyGivenNames x; first | (have hx : Keeps k d0 x := ?_; clear_value x; swap; subst x; swap) | (have hx : Keeps1 k d0 x := ?_; clear_value x; swap; subst x; swap) | subst x)
    | exact Allow.cls_S rfl
    | with_reducible refine Dev.beginTuning_keeps ?_
    | with_reducible exact Keeps.units (by assumption)
    | split

theorem Dev.tableParity_keeps {k : Allow} {d0 : Dev} (hB : k.b = true) {d : Dev} {c : Nat} (h : Keeps k d0 d) : Keeps k d0 (Dev.tableParity d c) := by
  unfold Dev.tableParity
  repeat' first
    | with_reducible assumption
    | (extract_lets +onlyGivenNames x; first | (have hx : Keeps k d0 x := ?_; clear_value x; swap; subst x; swap) | (have hx : Keeps1 k d0 x := ?_; clear_value x; swap; subst x; swap) | subst x)
    | exact Allow.cls_S rfl
    | exact hB
    | with_reducible refine Dev.fault_keeps hB ?_
    | with_reducible refine Dev.beginTuning_keeps ?_
    | with_reducible refine Dev.setTune_keeps ?_
    | with_reducible refine Dev.putTun_keeps ?_
    | with_reducible exact Keeps.units (by assumption)
    | split

theorem Dev.bootTuning_keeps {k : Allow} {d0 : Dev} {d : Dev} (h : Keeps k d0 d) : Keeps k d0 (Dev.bootTuning d) := by
  unfold Dev.bootTuning
  repeat' first
    | with_reducible assumption
    | (extract_lets +onlyGivenNames x; first | (have hx : Keeps k d0 x := ?_; clear_value x; swap; subst x; swap) | (have hx : Keeps1 k d0 x := ?_; clear_value x; swap; subst x; swap) | subst x)
    | exact Allow.cls_S rfl
    | ((with_reducible first | refine Allow.cls_mem (by assumption) ?_ | refine Allow.cls_fst (by assumption) ?_ | refine Allow.cls_snd (by assumption) ?_); rfl)
    | with_reducible refine Dev.putTun_keeps ?_
    | with_reducible refine Dev.beginTuning_keeps ?_
    | with_reducible refine Keeps.each ?_ (fun d x hm hd => ?_)
    | with_reducible exact Keeps.units (by assumption)
    | split

theorem Dev.resumeTuning_keeps {k : Allow} {d0 : Dev} {d : Dev} (h : Keeps k d0 d) : Keeps k d0 (Dev.resumeTuning d) := by
  unfold Dev.resumeTuning
  repeat' first
    | with_reducible assumption
    | (extract_lets +onlyGivenNames x; first | (have hx : Keeps k d0 x := ?_; clear_value x; swap; subst x; swap) | (have hx : Keeps1 k d0 x := ?_; clear_value x; swap; subst x; swap) | subst x)
    | exact Allow.cls_S rfl
    | ((with_reducible first | refine Allow.cls_mem (by assumption) ?_ | refine Allow.cls_fst (by assumption) ?_ | refine Allow.cls_snd (by assumption) ?_); rfl)
    | with_reducible refine Dev.beginTuning_keeps ?_
    | with_reducible refine Keeps.each ?_ (fun d x hm hd => ?_)
    | with_reducible exact Keeps.units (by assumption)
    | split

theorem Dev.readmitTuning_keeps {k : Allow} {d0 : Dev} {d : Dev} {c : Nat} (h : Keeps k d0 d) : Keeps k d0 (Dev.readmitTuning d c) := by
  unfold Dev.readmitTuning
  repeat' first
    | with_reducible assumption
    | (extract_lets +onlyGivenNames x; first | (have hx : Keeps k d0 x := ?_; clear_value x; swap; subst x; swap) | (have hx : Keeps1 k d0 x := ?_; clear_value x; swap; subst x; swap) | subst x)
    | exact Allow.cls_S rfl
    | with_reducible refine Dev.beginTuning_keeps ?_
    | with_reducible refine Dev.setTune_keeps ?_
    | with_reducible exact Keeps.units (by assumption)
    | split

theorem Dev.driveExc_keeps {k : Allow} {d0 : Dev} {d : Dev} {x0 : Nat} (h : Keeps k d0 d) : Keeps k d0 (Dev.driveExc d x0) := by
  unfold Dev.driveExc
  repeat' first
    | with_reducible assumption
    | (extract_lets +onlyGivenNames x; first | (have hx : Keeps k d0 x := ?_; clear_value x; swap; subst x; swap) | (have hx : Keeps1 k d0 x := ?_; clear_value x; swap; subst x; swap) | subst x)
    | exact Allow.cls_S rfl
    | with_reducible refine Dev.putExc_keeps ?_
    | with_reducible exact Keeps.units (by assumption)
    | split

theorem Dev.holdExc_keeps {k : Allow} {d0 : Dev} {d : Dev} {x0 : Nat} (h : Keeps k d0 d) : Keeps k d0 (Dev.holdExc d x0) := by
  unfold Dev.holdExc
  repeat' first
    | with_reducible assumption
    | (extract_lets +onlyGivenNames x; first | (have hx : Keeps k d0 x := ?_; clear_value x; swap; subst x; swap) | (have hx : Keeps1 k d0 x := ?_; clear_value x; swap; subst x; swap) | subst x)
    | exact Allow.cls_S rfl
    | with_reducible refine Dev.driveExc_keeps ?_
    | with_reducible refine Dev.putExc_keeps ?_
    | with_reducible refine Keeps.wr ?_ ?_
    | with_reducible exact Keeps.units (by assumption)
    | split

theorem Dev.followTrip_keeps {k : Allow} {d0 : Dev} {d : Dev} {x0 : Nat} (h : Keeps k d0 d) : Keeps k d0 (Dev.followTrip d x0) := by
  unfold Dev.followTrip
  repeat' first
    | with_reducible assumption
    | (extract_lets +onlyGivenNames x; first | (have hx : Keeps k d0 x := ?_; clear_value x; swap; subst x; swap) | (have hx : Keeps1 k d0 x := ?_; clear_value x; swap; subst x; swap) | subst x)
    | exact Allow.cls_S rfl
    | with_reducible refine Dev.driveExc_keeps ?_
    | with_reducible refine Dev.holdExc_keeps ?_
    | with_reducible refine Keeps.wr ?_ ?_
    | with_reducible exact Keeps.units (by assumption)
    | split

theorem Dev.assertTrip_keeps {k : Allow} {d0 : Dev} {d : Dev} {x0 : Nat} (h : Keeps k d0 d) : Keeps k d0 (Dev.assertTrip d x0) := by
  unfold Dev.assertTrip
  repeat' first
    | with_reducible assumption
    | (extract_lets +onlyGivenNames x; first | (have hx : Keeps k d0 x := ?_; clear_value x; swap; subst x; swap) | (have hx : Keeps1 k d0 x := ?_; clear_value x; swap; subst x; swap) | subst x)
    | exact Allow.cls_S rfl
    | with_reducible refine Dev.followTrip_keeps ?_
    | with_reducible refine Keeps.inc ?_ ?_
    | with_reducible exact Keeps.units (by assumption)
    | split

theorem Dev.followTrips_keeps {k : Allow} {d0 : Dev} {d : Dev} (h : Keeps k d0 d) : Keeps k d0 (Dev.followTrips d) := by
  unfold Dev.followTrips
  repeat' first
    | with_reducible assumption
    | (extract_lets +onlyGivenNames x; first | (have hx : Keeps k d0 x := ?_; clear_value x; swap; subst x; swap) | (have hx : Keeps1 k d0 x := ?_; clear_value x; swap; subst x; swap) | subst x)
    | exact Allow.cls_S rfl
    | ((with_reducible first | refine Allow.cls_mem (by assumption) ?_ | refine Allow.cls_fst (by assumption) ?_ | refine Allow.cls_snd (by assumption) ?_); rfl)
    | with_reducible refine Dev.followTrip_keeps ?_
    | with_reducible refine Keeps.each ?_ (fun d x hm hd => ?_)
    | with_reducible exact Keeps.units (by assumption)
    | split

theorem Dev.forceTrips_keeps {k : Allow} {d0 : Dev} {d : Dev} {m : Nat} (h : Keeps k d0 d) : Keeps k d0 (Dev.forceTrips d m) := by
  unfold Dev.forceTrips
  repeat' first
    | with_reducible assumption
    | (extract_lets +onlyGivenNames x; first | (have hx : Keeps k d0 x := ?_; clear_value x; swap; subst x; swap) | (have hx : Keeps1 k d0 x := ?_; clear_value x; swap; subst x; swap) | subst x)
    | exact Allow.cls_S rfl
    | ((with_reducible first | refine Allow.cls_mem (by assumption) ?_ | refine Allow.cls_fst (by assumption) ?_ | refine Allow.cls_snd (by assumption) ?_); rfl)
    | with_reducible refine Dev.assertTrip_keeps ?_
    | with_reducible refine Keeps.each ?_ (fun d x hm hd => ?_)
    | with_reducible exact Keeps.units (by assumption)
    | split

theorem Dev.exciterTrip_keeps {k : Allow} {d0 : Dev} {x0 : Nat} {d : Dev} (h : Keeps k d0 d) : Keeps k d0 (Dev.exciterTrip x0 d) := by
  unfold Dev.exciterTrip
  repeat' first
    | with_reducible assumption
    | (extract_lets +onlyGivenNames x; first | (have hx : Keeps k d0 x := ?_; clear_value x; swap; subst x; swap) | (have hx : Keeps1 k d0 x := ?_; clear_value x; swap; subst x; swap) | subst x)
    | exact Allow.cls_S rfl
    | with_reducible refine Dev.holdExc_keeps ?_
    | with_reducible refine Keeps.wr ?_ ?_
    | with_reducible refine Keeps.inc ?_ ?_
    | with_reducible exact Keeps.units (by assumption)
    | split

theorem Dev.condition_keeps {k : Allow} {d0 : Dev} (hB : k.b = true) {d : Dev} {m : Nat} {code : Nat} (h : Keeps k d0 d) : Keeps k d0 (Dev.condition d m code) := by
  unfold Dev.condition
  repeat' first
    | with_reducible assumption
    | (extract_lets +onlyGivenNames x; first | (have hx : Keeps k d0 x := ?_; clear_value x; swap; subst x; swap) | (have hx : Keeps1 k d0 x := ?_; clear_value x; swap; subst x; swap) | subst x)
    | exact Allow.cls_S rfl
    | exact hB
    | ((with_reducible first | refine Allow.cls_mem (by assumption) ?_ | refine Allow.cls_fst (by assumption) ?_ | refine Allow.cls_snd (by assumption) ?_); rfl)
    | with_reducible refine Dev.fault_keeps hB ?_
    | with_reducible refine Dev.restVoice_keeps ?_
    | with_reducible refine Dev.putWm_keeps ?_
    | with_reducible refine Keeps.inc ?_ ?_
    | with_reducible refine Keeps.each ?_ (fun d x hm hd => ?_)
    | with_reducible exact Keeps.units (by assumption)
    | split

theorem Dev.failCheck_keeps {k : Allow} {d0 : Dev} (hB : k.b = true) {d : Dev} {x0 : Nat} {m : Nat} (h : Keeps k d0 d) : Keeps k d0 (Dev.failCheck d x0 m) := by
  unfold Dev.failCheck
  repeat' first
    | with_reducible assumption
    | (extract_lets +onlyGivenNames x; first | (have hx : Keeps k d0 x := ?_; clear_value x; swap; subst x; swap) | (have hx : Keeps1 k d0 x := ?_; clear_value x; swap; subst x; swap) | subst x)
    | exact Allow.cls_S rfl
    | exact hB
    | with_reducible refine Dev.driveExc_keeps ?_
    | with_reducible refine Dev.fault_keeps hB ?_
    | with_reducible refine Dev.condition_keeps hB ?_
    | with_reducible refine Dev.putExc_keeps ?_
    | with_reducible refine Keeps.wr ?_ ?_
    | with_reducible exact Keeps.units (by assumption)
    | split

theorem Dev.classifierCondition_keeps {k : Allow} {d0 : Dev} (hB : k.b = true) {m : Nat} {level : Nat} {d : Dev} (h : Keeps k d0 d) : Keeps k d0 (Dev.classifierCondition m level d) := by
  unfold Dev.classifierCondition
  repeat' first
    | with_reducible assumption
    | (extract_lets +onlyGivenNames x; first | (have hx : Keeps k d0 x := ?_; clear_value x; swap; subst x; swap) | (have hx : Keeps1 k d0 x := ?_; clear_value x; swap; subst x; swap) | subst x)
    | exact Allow.cls_S rfl
    | exact hB
    | with_reducible refine Dev.failCheck_keeps hB ?_
    | with_reducible refine Dev.condition_keeps hB ?_
    | with_reducible refine Dev.followTrips_keeps ?_
    | with_reducible refine Dev.putWm_keeps ?_
    | with_reducible exact Keeps.units (by assumption)
    | split

theorem Dev.openWireCheck_keeps {k : Allow} {d0 : Dev} (hB : k.b = true) {x0 : Nat} {below : Nat} {d : Dev} (h : Keeps k d0 d) : Keeps k d0 (Dev.openWireCheck x0 below d) := by
  unfold Dev.openWireCheck
  repeat' first
    | with_reducible assumption
    | (extract_lets +onlyGivenNames x; first | (have hx : Keeps k d0 x := ?_; clear_value x; swap; subst x; swap) | (have hx : Keeps1 k d0 x := ?_; clear_value x; swap; subst x; swap) | subst x)
    | exact Allow.cls_S rfl
    | exact hB
    | ((with_reducible first | refine Allow.cls_mem (by assumption) ?_ | refine Allow.cls_fst (by assumption) ?_ | refine Allow.cls_snd (by assumption) ?_); rfl)
    | with_reducible refine Dev.assertTrip_keeps ?_
    | with_reducible refine Dev.failCheck_keeps hB ?_
    | with_reducible refine Dev.putExc_keeps ?_
    | with_reducible refine Keeps.each ?_ (fun d x hm hd => ?_)
    | with_reducible exact Keeps.units (by assumption)
    | split

theorem Dev.endPhase_keeps {k : Allow} {d0 : Dev} {d : Dev} {x0 : Nat} (h : Keeps k d0 d) : Keeps k d0 (Dev.endPhase d x0) := by
  unfold Dev.endPhase
  repeat' first
    | with_reducible assumption
    | (extract_lets +onlyGivenNames x; first | (have hx : Keeps k d0 x := ?_; clear_value x; swap; subst x; swap) | (have hx : Keeps1 k d0 x := ?_; clear_value x; swap; subst x; swap) | subst x)
    | exact Allow.cls_S rfl
    | with_reducible refine Dev.followTrip_keeps ?_
    | with_reducible refine Dev.putExc_keeps ?_
    | with_reducible refine Keeps.wr ?_ ?_
    | with_reducible exact Keeps.units (by assumption)
    | split

theorem Dev.endSchedule_keeps {k : Allow} {d0 : Dev} {d : Dev} {x0 : Nat} (h : Keeps k d0 d) : Keeps k d0 (Dev.endSchedule d x0) := by
  unfold Dev.endSchedule
  repeat' first
    | with_reducible assumption
    | (extract_lets +onlyGivenNames x; first | (have hx : Keeps k d0 x := ?_; clear_value x; swap; subst x; swap) | (have hx : Keeps1 k d0 x := ?_; clear_value x; swap; subst x; swap) | subst x)
    | exact Allow.cls_S rfl
    | with_reducible refine Dev.driveExc_keeps ?_
    | with_reducible refine Dev.putExc_keeps ?_
    | with_reducible refine Keeps.wr ?_ ?_
    | with_reducible exact Keeps.units (by assumption)
    | split

theorem Dev.beginPulse_keeps {k : Allow} {d0 : Dev} {d : Dev} {x0 : Nat} {trip : Bool} (h : Keeps k d0 d) : Keeps k d0 (Dev.beginPulse d x0 trip) := by
  unfold Dev.beginPulse
  repeat' first
    | with_reducible assumption
    | (extract_lets +onlyGivenNames x; first | (have hx : Keeps k d0 x := ?_; clear_value x; swap; subst x; swap) | (have hx : Keeps1 k d0 x := ?_; clear_value x; swap; subst x; swap) | subst x)
    | exact Allow.cls_S rfl
    | with_reducible refine Dev.driveExc_keeps ?_
    | with_reducible refine Dev.holdExc_keeps ?_
    | with_reducible refine Dev.putExc_keeps ?_
    | with_reducible refine Keeps.wr ?_ ?_
    | with_reducible exact Keeps.units (by assumption)
    | split

theorem Dev.exciterStart_keeps {k : Allow} {d0 : Dev} (hB : k.b = true) {x0 : Nat} {d : Dev} (h : Keeps k d0 d) : Keeps k d0 (Dev.exciterStart x0 d) := by
  unfold Dev.exciterStart
  repeat' first
    | with_reducible assumption
    | (extract_lets +onlyGivenNames x; first | (have hx : Keeps k d0 x := ?_; clear_value x; swap; subst x; swap) | (have hx : Keeps1 k d0 x := ?_; clear_value x; swap; subst x; swap) | subst x)
    | exact Allow.cls_S rfl
    | exact hB
    | with_reducible refine Dev.driveExc_keeps ?_
    | with_reducible refine Dev.fault_keeps hB ?_
    | with_reducible refine Dev.putExc_keeps ?_
    | with_reducible refine Keeps.wr ?_ ?_
    | with_reducible refine Keeps.inc ?_ ?_
    | with_reducible exact Keeps.units (by assumption)
    | split

theorem Dev.pulseStart_keeps {k : Allow} {d0 : Dev} {x0 : Nat} {trip : Bool} {d : Dev} (h : Keeps k d0 d) : Keeps k d0 (Dev.pulseStart x0 trip d) := by
  unfold Dev.pulseStart
  repeat' first
    | with_reducible assumption
    | (extract_lets +onlyGivenNames x; first | (have hx : Keeps k d0 x := ?_; clear_value x; swap; subst x; swap) | (have hx : Keeps1 k d0 x := ?_; clear_value x; swap; subst x; swap) | subst x)
    | exact Allow.cls_S rfl
    | with_reducible refine Dev.beginPulse_keeps ?_
    | with_reducible exact Keeps.units (by assumption)
    | split

theorem Dev.pulseEnd_keeps {k : Allow} {d0 : Dev} {x0 : Nat} {d : Dev} (h : Keeps k d0 d) : Keeps k d0 (Dev.pulseEnd x0 d) := by
  unfold Dev.pulseEnd
  repeat' first
    | with_reducible assumption
    | (extract_lets +onlyGivenNames x; first | (have hx : Keeps k d0 x := ?_; clear_value x; swap; subst x; swap) | (have hx : Keeps1 k d0 x := ?_; clear_value x; swap; subst x; swap) | subst x)
    | exact Allow.cls_S rfl
    | with_reducible refine Dev.endSchedule_keeps ?_
    | with_reducible refine Dev.endPhase_keeps ?_
    | with_reducible exact Keeps.units (by assumption)
    | split

theorem Dev.sweepHalfPeriod_keeps {k : Allow} {d0 : Dev} {x0 : Nat} {trip : Bool} {d : Dev} (h : Keeps k d0 d) : Keeps k d0 (Dev.sweepHalfPeriod x0 trip d) := by
  unfold Dev.sweepHalfPeriod
  repeat' first
    | with_reducible assumption
    | (extract_lets +onlyGivenNames x; first | (have hx : Keeps k d0 x := ?_; clear_value x; swap; subst x; swap) | (have hx : Keeps1 k d0 x := ?_; clear_value x; swap; subst x; swap) | subst x)
    | exact Allow.cls_S rfl
    | with_reducible refine Dev.endSchedule_keeps ?_
    | with_reducible refine Dev.beginPulse_keeps ?_
    | with_reducible refine Dev.putExc_keeps ?_
    | with_reducible refine Dev.endPhase_keeps ?_
    | with_reducible refine Keeps.step1 ?_ ?_
    | with_reducible exact Keeps.units (by assumption)
    | split

theorem Dev.boundaryStarts_keeps {k : Allow} {d0 : Dev} {d : Dev} {n : Nat} {gated : Bool} (h : Keeps k d0 d) : Keeps k d0 (Dev.boundaryStarts d n gated) := by
  unfold Dev.boundaryStarts
  repeat' first
    | with_reducible assumption
    | (extract_lets +onlyGivenNames x; first | (have hx : Keeps k d0 x := ?_; clear_value x; swap; subst x; swap) | (have hx : Keeps1 k d0 x := ?_; clear_value x; swap; subst x; swap) | subst x)
    | exact Allow.cls_S rfl
    | ((with_reducible first | refine Allow.cls_mem (by assumption) ?_ | refine Allow.cls_fst (by assumption) ?_ | refine Allow.cls_snd (by assumption) ?_); rfl)
    | with_reducible refine Dev.putExc_keeps ?_
    | with_reducible refine Keeps.inc ?_ ?_
    | with_reducible refine Keeps.each ?_ (fun d x hm hd => ?_)
    | with_reducible exact Keeps.units (by assumption)
    | split

theorem Dev.beginTest_keeps {k : Allow} {d0 : Dev} {d : Dev} {m : Nat} {state : Nat} (h : Keeps k d0 d) : Keeps k d0 (Dev.beginTest d m state) := by
  unfold Dev.beginTest
  repeat' first
    | with_reducible assumption
    | (extract_lets +onlyGivenNames x; first | (have hx : Keeps k d0 x := ?_; clear_value x; swap; subst x; swap) | (have hx : Keeps1 k d0 x := ?_; clear_value x; swap; subst x; swap) | subst x)
    | exact Allow.cls_S rfl
    | ((with_reducible first | refine Allow.cls_mem (by assumption) ?_ | refine Allow.cls_fst (by assumption) ?_ | refine Allow.cls_snd (by assumption) ?_); rfl)
    | with_reducible refine Dev.forceTrips_keeps ?_
    | with_reducible refine Dev.restVoice_keeps ?_
    | with_reducible refine Dev.putWm_keeps ?_
    | with_reducible refine Keeps.wr ?_ ?_
    | with_reducible refine Keeps.each ?_ (fun d x hm hd => ?_)
    | with_reducible exact Keeps.units (by assumption)
    | split

theorem Dev.wmReady_keeps {k : Allow} {d0 : Dev} {d : Dev} {m : Nat} (h : Keeps k d0 d) : Keeps k d0 (Dev.wmReady d m) := by
  unfold Dev.wmReady
  repeat' first
    | with_reducible assumption
    | (extract_lets +onlyGivenNames x; first | (have hx : Keeps k d0 x := ?_; clear_value x; swap; subst x; swap) | (have hx : Keeps1 k d0 x := ?_; clear_value x; swap; subst x; swap) | subst x)
    | exact Allow.cls_S rfl
    | with_reducible refine Dev.followTrips_keeps ?_
    | with_reducible refine Dev.putWm_keeps ?_
    | with_reducible refine Keeps.wr ?_ ?_
    | with_reducible exact Keeps.units (by assumption)
    | split

theorem Dev.settleMonitor_keeps {k : Allow} {d0 : Dev} {d : Dev} {m : Nat} {due : Bool} (h : Keeps k d0 d) : Keeps k d0 (Dev.settleMonitor d m due) := by
  unfold Dev.settleMonitor
  repeat' first
    | with_reducible assumption
    | (extract_lets +onlyGivenNames x; first | (have hx : Keeps k d0 x := ?_; clear_value x; swap; subst x; swap) | (have hx : Keeps1 k d0 x := ?_; clear_value x; swap; subst x; swap) | subst x)
    | exact Allow.cls_S rfl
    | with_reducible refine Dev.followTrips_keeps ?_
    | with_reducible refine Dev.putWm_keeps ?_
    | with_reducible refine Keeps.wr ?_ ?_
    | with_reducible exact Keeps.units (by assumption)
    | split

theorem Dev.monitorSettled_keeps {k : Allow} {d0 : Dev} {m : Nat} {d : Dev} (h : Keeps k d0 d) : Keeps k d0 (Dev.monitorSettled m d) := by
  unfold Dev.monitorSettled
  repeat' first
    | with_reducible assumption
    | (extract_lets +onlyGivenNames x; first | (have hx : Keeps k d0 x := ?_; clear_value x; swap; subst x; swap) | (have hx : Keeps1 k d0 x := ?_; clear_value x; swap; subst x; swap) | subst x)
    | exact Allow.cls_S rfl
    | with_reducible refine Dev.wmReady_keeps ?_
    | with_reducible refine Dev.beginTest_keeps ?_
    | with_reducible exact Keeps.units (by assumption)
    | split

theorem Dev.selfTestStep_keeps {k : Allow} {d0 : Dev} (hB : k.b = true) {m : Nat} {upper : Nat} {lower : Nat} {d : Dev} (h : Keeps k d0 d) : Keeps k d0 (Dev.selfTestStep m upper lower d) := by
  unfold Dev.selfTestStep
  repeat' first
    | with_reducible assumption
    | (extract_lets +onlyGivenNames x; first | (have hx : Keeps k d0 x := ?_; clear_value x; swap; subst x; swap) | (have hx : Keeps1 k d0 x := ?_; clear_value x; swap; subst x; swap) | subst x)
    | exact Allow.cls_S rfl
    | exact hB
    | with_reducible refine Dev.followTrips_keeps ?_
    | with_reducible refine Dev.beginTest_keeps ?_
    | with_reducible refine Dev.fault_keeps hB ?_
    | with_reducible refine Dev.wmReady_keeps ?_
    | with_reducible refine Dev.putWm_keeps ?_
    | with_reducible refine Keeps.wr ?_ ?_
    | with_reducible exact Keeps.units (by assumption)
    | split

theorem Dev.testMonitors_keeps {k : Allow} {d0 : Dev} {d : Dev} (h : Keeps k d0 d) : Keeps k d0 (Dev.testMonitors d) := by
  unfold Dev.testMonitors
  repeat' first
    | with_reducible assumption
    | (extract_lets +onlyGivenNames x; first | (have hx : Keeps k d0 x := ?_; clear_value x; swap; subst x; swap) | (have hx : Keeps1 k d0 x := ?_; clear_value x; swap; subst x; swap) | subst x)
    | exact Allow.cls_S rfl
    | ((with_reducible first | refine Allow.cls_mem (by assumption) ?_ | refine Allow.cls_fst (by assumption) ?_ | refine Allow.cls_snd (by assumption) ?_); rfl)
    | with_reducible refine Dev.putWm_keeps ?_
    | with_reducible refine Dev.beginTest_keeps ?_
    | with_reducible refine Keeps.each ?_ (fun d x hm hd => ?_)
    | with_reducible exact Keeps.units (by assumption)
    | split

theorem Dev.wmSelfTest_keeps {k : Allow} {d0 : Dev} {mask : Nat} {d : Dev} (h : Keeps k d0 d) : Keeps k d0 (Dev.wmSelfTest mask d) := by
  unfold Dev.wmSelfTest
  repeat' first
    | with_reducible assumption
    | (extract_lets +onlyGivenNames x; first | (have hx : Keeps k d0 x := ?_; clear_value x; swap; subst x; swap) | (have hx : Keeps1 k d0 x := ?_; clear_value x; swap; subst x; swap) | subst x)
    | exact Allow.cls_S rfl
    | ((with_reducible first | refine Allow.cls_mem (by assumption) ?_ | refine Allow.cls_fst (by assumption) ?_ | refine Allow.cls_snd (by assumption) ?_); rfl)
    | with_reducible refine Dev.beginTest_keeps ?_
    | with_reducible refine Keeps.each ?_ (fun d x hm hd => ?_)
    | with_reducible exact Keeps.units (by assumption)
    | split

theorem Dev.monitorBothHigh_keeps {k : Allow} {d0 : Dev} (hB : k.b = true) {m : Nat} {d : Dev} (h : Keeps k d0 d) : Keeps k d0 (Dev.monitorBothHigh m d) := by
  unfold Dev.monitorBothHigh
  repeat' first
    | with_reducible assumption
    | (extract_lets +onlyGivenNames x; first | (have hx : Keeps k d0 x := ?_; clear_value x; swap; subst x; swap) | (have hx : Keeps1 k d0 x := ?_; clear_value x; swap; subst x; swap) | subst x)
    | exact Allow.cls_S rfl
    | exact hB
    | with_reducible refine Dev.followTrips_keeps ?_
    | with_reducible refine Dev.beginTest_keeps ?_
    | with_reducible refine Dev.fault_keeps hB ?_
    | with_reducible refine Keeps.wr ?_ ?_
    | with_reducible exact Keeps.units (by assumption)
    | split

theorem Dev.dropSchedule_keeps {k : Allow} {d0 : Dev} {d : Dev} {x0 : Nat} (h : Keeps k d0 d) : Keeps k d0 (Dev.dropSchedule d x0) := by
  unfold Dev.dropSchedule
  repeat' first
    | with_reducible assumption
    | (extract_lets +onlyGivenNames x; first | (have hx : Keeps k d0 x := ?_; clear_value x; swap; subst x; swap) | (have hx : Keeps1 k d0 x := ?_; clear_value x; swap; subst x; swap) | subst x)
    | exact Allow.cls_S rfl
    | with_reducible refine Dev.driveExc_keeps ?_
    | with_reducible refine Dev.putExc_keeps ?_
    | with_reducible refine Keeps.wr ?_ ?_
    | with_reducible exact Keeps.units (by assumption)
    | split

theorem Dev.abandonExc_keeps {k : Allow} {d0 : Dev} {d : Dev} {x0 : Nat} (h : Keeps k d0 d) : Keeps k d0 (Dev.abandonExc d x0) := by
  unfold Dev.abandonExc
  repeat' first
    | with_reducible assumption
    | (extract_lets +onlyGivenNames x; first | (have hx : Keeps k d0 x := ?_; clear_value x; swap; subst x; swap) | (have hx : Keeps1 k d0 x := ?_; clear_value x; swap; subst x; swap) | subst x)
    | exact Allow.cls_S rfl
    | with_reducible refine Dev.driveExc_keeps ?_
    | with_reducible refine Dev.putExc_keeps ?_
    | with_reducible refine Dev.dropSchedule_keeps ?_
    | with_reducible exact Keeps.units (by assumption)
    | split

theorem Dev.reviveExcs_keeps {k : Allow} {d0 : Dev} {d : Dev} (h : Keeps k d0 d) : Keeps k d0 (Dev.reviveExcs d) := by
  unfold Dev.reviveExcs
  repeat' first
    | with_reducible assumption
    | (extract_lets +onlyGivenNames x; first | (have hx : Keeps k d0 x := ?_; clear_value x; swap; subst x; swap) | (have hx : Keeps1 k d0 x := ?_; clear_value x; swap; subst x; swap) | subst x)
    | exact Allow.cls_S rfl
    | ((with_reducible first | refine Allow.cls_mem (by assumption) ?_ | refine Allow.cls_fst (by assumption) ?_ | refine Allow.cls_snd (by assumption) ?_); rfl)
    | with_reducible refine Dev.driveExc_keeps ?_
    | with_reducible refine Keeps.wr ?_ ?_
    | with_reducible refine Keeps.each ?_ (fun d x hm hd => ?_)
    | with_reducible exact Keeps.units (by assumption)
    | split

theorem Dev.replaceRow_keeps {k : Allow} {d0 : Dev} (hB : k.b = true) (hP : k.p = true) {d : Dev} {row : Nat} (h : Keeps k d0 d) : Keeps k d0 (Dev.replaceRow d row) := by
  unfold Dev.replaceRow
  repeat' first
    | with_reducible assumption
    | (extract_lets +onlyGivenNames x; first | (have hx : Keeps k d0 x := ?_; clear_value x; swap; subst x; swap) | (have hx : Keeps1 k d0 x := ?_; clear_value x; swap; subst x; swap) | subst x)
    | exact Allow.cls_S rfl
    | exact hB
    | exact hP
    | with_reducible refine Dev.fault_keeps hB ?_
    | with_reducible refine Keeps.wr ?_ ?_
    | with_reducible exact Keeps.units (by assumption)
    | split

theorem Dev.uncorrectable_keeps {k : Allow} {d0 : Dev} (hB : k.b = true) (hP : k.p = true) {d : Dev} {w : Nat} (h : Keeps k d0 d) : Keeps k d0 (Dev.uncorrectable d w) := by
  unfold Dev.uncorrectable
  repeat' first
    | with_reducible assumption
    | (extract_lets +onlyGivenNames x; first | (have hx : Keeps k d0 x := ?_; clear_value x; swap; subst x; swap) | (have hx : Keeps1 k d0 x := ?_; clear_value x; swap; subst x; swap) | subst x)
    | exact Allow.cls_S rfl
    | exact hB
    | exact hP
    | with_reducible refine Dev.replaceRow_keeps hB hP ?_
    | with_reducible refine Dev.fault_keeps hB ?_
    | with_reducible refine Keeps.inc ?_ ?_
    | with_reducible exact Keeps.units (by assumption)
    | split

theorem Dev.corrected_keeps {k : Allow} {d0 : Dev} (hB : k.b = true) {d : Dev} {w : Nat} (h : Keeps k d0 d) : Keeps k d0 (Dev.corrected d w) := by
  unfold Dev.corrected
  repeat' first
    | with_reducible assumption
    | (extract_lets +onlyGivenNames x; first | (have hx : Keeps k d0 x := ?_; clear_value x; swap; subst x; swap) | (have hx : Keeps1 k d0 x := ?_; clear_value x; swap; subst x; swap) | subst x)
    | exact Allow.cls_S rfl
    | exact hB
    | with_reducible refine Dev.fault_keeps hB ?_
    | with_reducible refine Keeps.inc ?_ ?_
    | with_reducible exact Keeps.units (by assumption)
    | split

theorem Dev.meetUpsets_keeps {k : Allow} {d0 : Dev} (hB : k.b = true) (hP : k.p = true) {d : Dev} {l : List (Nat × Nat)} (h : Keeps k d0 d) : Keeps k d0 (Dev.meetUpsets d l) := by
  unfold Dev.meetUpsets
  repeat' first
    | with_reducible assumption
    | (extract_lets +onlyGivenNames x; first | (have hx : Keeps k d0 x := ?_; clear_value x; swap; subst x; swap) | (have hx : Keeps1 k d0 x := ?_; clear_value x; swap; subst x; swap) | subst x)
    | exact Allow.cls_S rfl
    | exact hB
    | exact hP
    | ((with_reducible first | refine Allow.cls_mem (by assumption) ?_ | refine Allow.cls_fst (by assumption) ?_ | refine Allow.cls_snd (by assumption) ?_); rfl)
    | with_reducible refine Dev.uncorrectable_keeps hB hP ?_
    | with_reducible refine Dev.corrected_keeps hB ?_
    | with_reducible refine Keeps.each ?_ (fun d x hm hd => ?_)
    | with_reducible exact Keeps.units (by assumption)
    | split

theorem Dev.scrubCorrected_keeps {k : Allow} {d0 : Dev} (hB : k.b = true) (hP : k.p = true) {d : Dev} {w : Nat} (h : Keeps k d0 d) : Keeps k d0 (Dev.scrubCorrected d w) := by
  unfold Dev.scrubCorrected
  repeat' first
    | with_reducible assumption
    | (extract_lets +onlyGivenNames x; first | (have hx : Keeps k d0 x := ?_; clear_value x; swap; subst x; swap) | (have hx : Keeps1 k d0 x := ?_; clear_value x; swap; subst x; swap) | subst x)
    | exact Allow.cls_S rfl
    | exact hB
    | exact hP
    | with_reducible refine Dev.replaceRow_keeps hB hP ?_
    | with_reducible refine Dev.corrected_keeps hB ?_
    | with_reducible exact Keeps.units (by assumption)
    | split

theorem Dev.endPass_keeps {k : Allow} {d0 : Dev} {d : Dev} {bank : Nat} (h : Keeps k d0 d) : Keeps k d0 (Dev.endPass d bank) := by
  unfold Dev.endPass
  repeat' first
    | with_reducible assumption
    | (extract_lets +onlyGivenNames x; first | (have hx : Keeps k d0 x := ?_; clear_value x; swap; subst x; swap) | (have hx : Keeps1 k d0 x := ?_; clear_value x; swap; subst x; swap) | subst x)
    | exact Allow.cls_S rfl
    | ((with_reducible first | refine Allow.cls_mem (by assumption) ?_ | refine Allow.cls_fst (by assumption) ?_ | refine Allow.cls_snd (by assumption) ?_); rfl)
    | with_reducible refine Keeps.foldl ?_ (fun d x hm hd => ?_)
    | with_reducible refine Keeps.foldl1 ?_ (fun d x hm hd => ?_)
    | with_reducible exact Keeps.units (by assumption)
    | split

theorem Dev.rowReplacementDone_keeps {k : Allow} {d0 : Dev} (hB : k.b = true) {bank : Nat} {row : Nat} {d : Dev} (h : Keeps k d0 d) : Keeps k d0 (Dev.rowReplacementDone bank row d) := by
  unfold Dev.rowReplacementDone
  repeat' first
    | with_reducible assumption
    | (extract_lets +onlyGivenNames x; first | (have hx : Keeps k d0 x := ?_; clear_value x; swap; subst x; swap) | (have hx : Keeps1 k d0 x := ?_; clear_value x; swap; subst x; swap) | subst x)
    | exact Allow.cls_S rfl
    | exact hB
    | with_reducible refine Dev.fault_keeps hB ?_
    | with_reducible exact Keeps.units (by assumption)
    | split

theorem Dev.clearSramCorr_keeps {k : Allow} {d0 : Dev} {d : Dev} (h : Keeps k d0 d) : Keeps k d0 (Dev.clearSramCorr d) := by
  unfold Dev.clearSramCorr
  repeat' first
    | with_reducible assumption
    | (extract_lets +onlyGivenNames x; first | (have hx : Keeps k d0 x := ?_; clear_value x; swap; subst x; swap) | (have hx : Keeps1 k d0 x := ?_; clear_value x; swap; subst x; swap) | subst x)
    | exact Allow.cls_S rfl
    | ((with_reducible first | refine Allow.cls_mem (by assumption) ?_ | refine Allow.cls_fst (by assumption) ?_ | refine Allow.cls_snd (by assumption) ?_); rfl)
    | with_reducible refine Keeps.wr ?_ ?_
    | with_reducible refine Keeps.each ?_ (fun d x hm hd => ?_)
    | with_reducible exact Keeps.units (by assumption)
    | split

theorem Dev.putFitVoice_keeps {k : Allow} {d0 : Dev} {d : Dev} {n : Nat} {v : FitVoice} (h : Keeps k d0 d) : Keeps k d0 (Dev.putFitVoice d n v) := by
  unfold Dev.putFitVoice
  repeat' first
    | with_reducible assumption
    | (extract_lets +onlyGivenNames x; first | (have hx : Keeps k d0 x := ?_; clear_value x; swap; subst x; swap) | (have hx : Keeps1 k d0 x := ?_; clear_value x; swap; subst x; swap) | subst x)
    | exact Allow.cls_S rfl
    | with_reducible exact Keeps.units (by assumption)
    | split

theorem Dev.putFitPair_keeps {k : Allow} {d0 : Dev} {d : Dev} {p : Nat} {v : FitPair} (h : Keeps k d0 d) : Keeps k d0 (Dev.putFitPair d p v) := by
  unfold Dev.putFitPair
  repeat' first
    | with_reducible assumption
    | (extract_lets +onlyGivenNames x; first | (have hx : Keeps k d0 x := ?_; clear_value x; swap; subst x; swap) | (have hx : Keeps1 k d0 x := ?_; clear_value x; swap; subst x; swap) | subst x)
    | exact Allow.cls_S rfl
    | with_reducible exact Keeps.units (by assumption)
    | split

theorem Dev.takePairs_keeps {k : Allow} {d0 : Dev} {d : Dev} {v : Nat} {base : Nat} {ext : Nat} {n : Nat} {t : Nat} (h : Keeps k d0 d) : Keeps k d0 (Dev.takePairs d v base ext n t) := by
  unfold Dev.takePairs
  repeat' first
    | with_reducible assumption
    | (extract_lets +onlyGivenNames x; first | (have hx : Keeps k d0 x := ?_; clear_value x; swap; subst x; swap) | (have hx : Keeps1 k d0 x := ?_; clear_value x; swap; subst x; swap) | subst x)
    | exact Allow.cls_S rfl
    | ((with_reducible first | refine Allow.cls_mem (by assumption) ?_ | refine Allow.cls_fst (by assumption) ?_ | refine Allow.cls_snd (by assumption) ?_); rfl)
    | with_reducible refine Dev.putFitPair_keeps ?_
    | with_reducible refine Keeps.each ?_ (fun d x hm hd => ?_)
    | with_reducible exact Keeps.units (by assumption)
    | split

theorem Dev.moveSums_keeps {k : Allow} {d0 : Dev} {d : Dev} {v : Nat} {e : Entry} (h : Keeps k d0 d) : Keeps k d0 (Dev.moveSums d v e) := by
  unfold Dev.moveSums
  repeat' first
    | with_reducible assumption
    | (extract_lets +onlyGivenNames x; first | (have hx : Keeps k d0 x := ?_; clear_value x; swap; subst x; swap) | (have hx : Keeps1 k d0 x := ?_; clear_value x; swap; subst x; swap) | subst x)
    | exact Allow.cls_S rfl
    | ((with_reducible first | refine Allow.cls_mem (by assumption) ?_ | refine Allow.cls_fst (by assumption) ?_ | refine Allow.cls_snd (by assumption) ?_); rfl)
    | with_reducible refine Dev.putFitVoice_keeps ?_
    | with_reducible refine Dev.putFitPair_keeps ?_
    | with_reducible refine Keeps.each ?_ (fun d x hm hd => ?_)
    | with_reducible exact Keeps.units (by assumption)
    | split

theorem Dev.takeFit_keeps {k : Allow} {d0 : Dev} {d : Dev} {v : Nat} {e : Entry} (h : Keeps k d0 d) : Keeps k d0 (Dev.takeFit d v e) := by
  unfold Dev.takeFit
  repeat' first
    | with_reducible assumption
    | (extract_lets +onlyGivenNames x; first | (have hx : Keeps k d0 x := ?_; clear_value x; swap; subst x; swap) | (have hx : Keeps1 k d0 x := ?_; clear_value x; swap; subst x; swap) | subst x)
    | exact Allow.cls_S rfl
    | with_reducible refine Dev.takePairs_keeps ?_
    | with_reducible refine Dev.putFitVoice_keeps ?_
    | with_reducible refine Dev.moveSums_keeps ?_
    | with_reducible exact Keeps.units (by assumption)
    | split

theorem Dev.stampAccumulate_keeps {k : Allow} {d0 : Dev} {v : Nat} {d : Dev} (h : Keeps k d0 d) : Keeps k d0 (Dev.stampAccumulate v d) := by
  unfold Dev.stampAccumulate
  repeat' first
    | with_reducible assumption
    | (extract_lets +onlyGivenNames x; first | (have hx : Keeps k d0 x := ?_; clear_value x; swap; subst x; swap) | (have hx : Keeps1 k d0 x := ?_; clear_value x; swap; subst x; swap) | subst x)
    | exact Allow.cls_S rfl
    | with_reducible refine Dev.takeFit_keeps ?_
    | with_reducible refine Dev.putVoice_keeps ?_
    | with_reducible exact Keeps.units (by assumption)
    | split

theorem Dev.drainFit_keeps {k : Allow} {d0 : Dev} {d : Dev} {v : Nat} {id : Nat} (h : Keeps k d0 d) : Keeps k d0 (Dev.drainFit d v id) := by
  unfold Dev.drainFit
  repeat' first
    | with_reducible assumption
    | (extract_lets +onlyGivenNames x; first | (have hx : Keeps k d0 x := ?_; clear_value x; swap; subst x; swap) | (have hx : Keeps1 k d0 x := ?_; clear_value x; swap; subst x; swap) | subst x)
    | exact Allow.cls_S rfl
    | ((with_reducible first | refine Allow.cls_mem (by assumption) ?_ | refine Allow.cls_fst (by assumption) ?_ | refine Allow.cls_snd (by assumption) ?_); rfl)
    | with_reducible refine Dev.takeFit_keeps ?_
    | with_reducible refine Dev.putVoice_keeps ?_
    | with_reducible refine Keeps.each ?_ (fun d x hm hd => ?_)
    | with_reducible exact Keeps.units (by assumption)
    | split

theorem Dev.drainFits_keeps {k : Allow} {d0 : Dev} {d : Dev} (h : Keeps k d0 d) : Keeps k d0 (Dev.drainFits d) := by
  unfold Dev.drainFits
  repeat' first
    | with_reducible assumption
    | (extract_lets +onlyGivenNames x; first | (have hx : Keeps k d0 x := ?_; clear_value x; swap; subst x; swap) | (have hx : Keeps1 k d0 x := ?_; clear_value x; swap; subst x; swap) | subst x)
    | exact Allow.cls_S rfl
    | ((with_reducible first | refine Allow.cls_mem (by assumption) ?_ | refine Allow.cls_fst (by assumption) ?_ | refine Allow.cls_snd (by assumption) ?_); rfl)
    | with_reducible refine Dev.drainFit_keeps ?_
    | with_reducible refine Keeps.each ?_ (fun d x hm hd => ?_)
    | with_reducible exact Keeps.units (by assumption)
    | split

theorem Dev.putItems_keeps {k : Allow} {d0 : Dev} {d : Dev} {l : List Item} (h : Keeps k d0 d) : Keeps k d0 (Dev.putItems d l) := by
  unfold Dev.putItems
  repeat' first
    | with_reducible assumption
    | (extract_lets +onlyGivenNames x; first | (have hx : Keeps k d0 x := ?_; clear_value x; swap; subst x; swap) | (have hx : Keeps1 k d0 x := ?_; clear_value x; swap; subst x; swap) | subst x)
    | exact Allow.cls_S rfl
    | with_reducible refine Keeps.wr ?_ ?_
    | with_reducible exact Keeps.units (by assumption)
    | split

theorem Dev.allanEach_keeps {k : Allow} {d0 : Dev} {d : Dev} {ctx : Nat} {f : Nat → Allan → Allan} (h : Keeps k d0 d) : Keeps k d0 (Dev.allanEach d ctx f) := by
  unfold Dev.allanEach
  repeat' first
    | with_reducible assumption
    | (extract_lets +onlyGivenNames x; first | (have hx : Keeps k d0 x := ?_; clear_value x; swap; subst x; swap) | (have hx : Keeps1 k d0 x := ?_; clear_value x; swap; subst x; swap) | subst x)
    | exact Allow.cls_S rfl
    | ((with_reducible first | refine Allow.cls_mem (by assumption) ?_ | refine Allow.cls_fst (by assumption) ?_ | refine Allow.cls_snd (by assumption) ?_); rfl)
    | with_reducible refine Keeps.foldl ?_ (fun d x hm hd => ?_)
    | with_reducible refine Keeps.foldl1 ?_ (fun d x hm hd => ?_)
    | with_reducible exact Keeps.units (by assumption)
    | split

theorem Dev.clearAllanCtx_keeps {k : Allow} {d0 : Dev} {ctx : Nat} {d : Dev} (h : Keeps k d0 d) : Keeps k d0 (Dev.clearAllanCtx ctx d) := by
  unfold Dev.clearAllanCtx
  repeat' first
    | with_reducible assumption
    | (extract_lets +onlyGivenNames x; first | (have hx : Keeps k d0 x := ?_; clear_value x; swap; subst x; swap) | (have hx : Keeps1 k d0 x := ?_; clear_value x; swap; subst x; swap) | subst x)
    | exact Allow.cls_S rfl
    | with_reducible refine Dev.allanEach_keeps ?_
    | with_reducible exact Keeps.units (by assumption)
    | split

theorem Dev.clearAllanAll_keeps {k : Allow} {d0 : Dev} {d : Dev} (h : Keeps k d0 d) : Keeps k d0 (Dev.clearAllanAll d) := by
  unfold Dev.clearAllanAll
  repeat' first
    | with_reducible assumption
    | (extract_lets +onlyGivenNames x; first | (have hx : Keeps k d0 x := ?_; clear_value x; swap; subst x; swap) | (have hx : Keeps1 k d0 x := ?_; clear_value x; swap; subst x; swap) | subst x)
    | exact Allow.cls_S rfl
    | ((with_reducible first | refine Allow.cls_mem (by assumption) ?_ | refine Allow.cls_fst (by assumption) ?_ | refine Allow.cls_snd (by assumption) ?_); rfl)
    | with_reducible refine Dev.clearAllanCtx_keeps ?_
    | with_reducible refine Keeps.each ?_ (fun d x hm hd => ?_)
    | with_reducible exact Keeps.units (by assumption)
    | split

theorem Dev.clearRestCounts_keeps {k : Allow} {d0 : Dev} {d : Dev} (h : Keeps k d0 d) : Keeps k d0 (Dev.clearRestCounts d) := by
  unfold Dev.clearRestCounts
  repeat' first
    | with_reducible assumption
    | (extract_lets +onlyGivenNames x; first | (have hx : Keeps k d0 x := ?_; clear_value x; swap; subst x; swap) | (have hx : Keeps1 k d0 x := ?_; clear_value x; swap; subst x; swap) | subst x)
    | exact Allow.cls_S rfl
    | ((with_reducible first | refine Allow.cls_mem (by assumption) ?_ | refine Allow.cls_fst (by assumption) ?_ | refine Allow.cls_snd (by assumption) ?_); rfl)
    | with_reducible refine Keeps.wr ?_ ?_
    | with_reducible refine Keeps.each ?_ (fun d x hm hd => ?_)
    | with_reducible exact Keeps.units (by assumption)
    | split

theorem Dev.feedAllan_keeps {k : Allow} {d0 : Dev} {d : Dev} {i : Item} {reason : Nat} {value : F64} (h : Keeps k d0 d) : Keeps k d0 (Dev.feedAllan d i reason value) := by
  unfold Dev.feedAllan
  repeat' first
    | with_reducible assumption
    | (extract_lets +onlyGivenNames x; first | (have hx : Keeps k d0 x := ?_; clear_value x; swap; subst x; swap) | (have hx : Keeps1 k d0 x := ?_; clear_value x; swap; subst x; swap) | subst x)
    | exact Allow.cls_S rfl
    | with_reducible refine Dev.allanEach_keeps ?_
    | with_reducible exact Keeps.units (by assumption)
    | split

theorem Dev.reportFew_keeps {k : Allow} {d0 : Dev} (hB : k.b = true) {d : Dev} {i : Item} (h : Keeps k d0 d) : Keeps k d0 (Dev.reportFew d i) := by
  unfold Dev.reportFew
  repeat' first
    | with_reducible assumption
    | (extract_lets +onlyGivenNames x; first | (have hx : Keeps k d0 x := ?_; clear_value x; swap; subst x; swap) | (have hx : Keeps1 k d0 x := ?_; clear_value x; swap; subst x; swap) | subst x)
    | exact Allow.cls_S rfl
    | exact hB
    | with_reducible refine Dev.putFitPair_keeps ?_
    | with_reducible refine Dev.fault_keeps hB ?_
    | with_reducible refine Dev.putFitVoice_keeps ?_
    | with_reducible exact Keeps.units (by assumption)
    | split

theorem Dev.countRest_keeps {k : Allow} {d0 : Dev} {d : Dev} {ctx : Nat} {reason : Nat} (h : Keeps k d0 d) : Keeps k d0 (Dev.countRest d ctx reason) := by
  unfold Dev.countRest
  repeat' first
    | with_reducible assumption
    | (extract_lets +onlyGivenNames x; first | (have hx : Keeps k d0 x := ?_; clear_value x; swap; subst x; swap) | (have hx : Keeps1 k d0 x := ?_; clear_value x; swap; subst x; swap) | subst x)
    | exact Allow.cls_S rfl
    | with_reducible refine Keeps.wr ?_ ?_
    | with_reducible refine Keeps.inc ?_ ?_
    | with_reducible exact Keeps.units (by assumption)
    | split

theorem Dev.pairDone_keeps {k : Allow} {d0 : Dev} {d : Dev} {p : Nat} {t : Nat} {stop : Nat} {r : PairRes} (h : Keeps k d0 d) : Keeps k d0 (Dev.pairDone d p t stop r) := by
  unfold Dev.pairDone
  repeat' first
    | with_reducible assumption
    | (extract_lets +onlyGivenNames x; first | (have hx : Keeps k d0 x := ?_; clear_value x; swap; subst x; swap) | (have hx : Keeps1 k d0 x := ?_; clear_value x; swap; subst x; swap) | subst x)
    | exact Allow.cls_S rfl
    | with_reducible exact Keeps.units (by assumption)
    | split

theorem Dev.finishItem_keeps {k : Allow} {d0 : Dev} {d : Dev} {i : Item} (h : Keeps k d0 d) : Keeps k d0 (Dev.finishItem d i) := by
  unfold Dev.finishItem
  repeat' first
    | with_reducible assumption
    | (extract_lets +onlyGivenNames x; first | (have hx : Keeps k d0 x := ?_; clear_value x; swap; subst x; swap) | (have hx : Keeps1 k d0 x := ?_; clear_value x; swap; subst x; swap) | subst x)
    | exact Allow.cls_S rfl
    | with_reducible refine Dev.pairDone_keeps ?_
    | with_reducible refine Dev.feedAllan_keeps ?_
    | with_reducible refine Dev.offer_keeps ?_
    | with_reducible refine Dev.countRest_keeps ?_
    | with_reducible exact Keeps.units (by assumption)
    | split

theorem Dev.tellAnas_keeps {k : Allow} {d0 : Dev} {d : Dev} {v : Nat} {start : Nat} {stop : Nat} {bit_ : Nat} (h : Keeps k d0 d) : Keeps k d0 (Dev.tellAnas d v start stop bit_) := by
  unfold Dev.tellAnas
  repeat' first
    | with_reducible assumption
    | (extract_lets +onlyGivenNames x; first | (have hx : Keeps k d0 x := ?_; clear_value x; swap; subst x; swap) | (have hx : Keeps1 k d0 x := ?_; clear_value x; swap; subst x; swap) | subst x)
    | exact Allow.cls_S rfl
    | with_reducible exact Keeps.units (by assumption)
    | split

theorem Dev.closeout_keeps {k : Allow} {d0 : Dev} (hB : k.b = true) (hP : k.p = true) {parity : Nat} {upsets : List (Nat × Nat)} {chains : Nat} {d : Dev} (h : Keeps k d0 d) : Keeps k d0 (Dev.closeout parity upsets chains d) := by
  unfold Dev.closeout
  repeat' first
    | with_reducible assumption
    | (extract_lets +onlyGivenNames x; first | (have hx : Keeps k d0 x := ?_; clear_value x; swap; subst x; swap) | (have hx : Keeps1 k d0 x := ?_; clear_value x; swap; subst x; swap) | subst x)
    | exact Allow.cls_S rfl
    | exact hB
    | exact hP
    | ((with_reducible first | refine Allow.cls_mem (by assumption) ?_ | refine Allow.cls_fst (by assumption) ?_ | refine Allow.cls_snd (by assumption) ?_); rfl)
    | with_reducible refine Dev.reportFew_keeps hB ?_
    | with_reducible refine Dev.finishItem_keeps ?_
    | with_reducible refine Dev.raiseEpoch_keeps ?_
    | with_reducible refine Dev.tellAnas_keeps ?_
    | with_reducible refine Dev.allanEach_keeps ?_
    | with_reducible refine Dev.meetUpsets_keeps hB hP ?_
    | with_reducible refine Dev.tableParity_keeps hB ?_
    | with_reducible refine Dev.putItems_keeps ?_
    | with_reducible refine Keeps.each ?_ (fun d x hm hd => ?_)
    | with_reducible exact Keeps.units (by assumption)
    | split

theorem Dev.closeoutDeadline_keeps {k : Allow} {d0 : Dev} (hB : k.b = true) {t : Nat} {d : Dev} (h : Keeps k d0 d) : Keeps k d0 (Dev.closeoutDeadline t d) := by
  unfold Dev.closeoutDeadline
  repeat' first
    | with_reducible assumption
    | (extract_lets +onlyGivenNames x; first | (have hx : Keeps k d0 x := ?_; clear_value x; swap; subst x; swap) | (have hx : Keeps1 k d0 x := ?_; clear_value x; swap; subst x; swap) | subst x)
    | exact Allow.cls_S rfl
    | exact hB
    | ((with_reducible first | refine Allow.cls_mem (by assumption) ?_ | refine Allow.cls_fst (by assumption) ?_ | refine Allow.cls_snd (by assumption) ?_); rfl)
    | with_reducible refine Dev.reportFew_keeps hB ?_
    | with_reducible refine Dev.finishItem_keeps ?_
    | with_reducible refine Dev.fault_keeps hB ?_
    | with_reducible refine Dev.raiseEpoch_keeps ?_
    | with_reducible refine Dev.putItems_keeps ?_
    | with_reducible refine Keeps.wr ?_ ?_
    | with_reducible refine Keeps.each ?_ (fun d x hm hd => ?_)
    | with_reducible exact Keeps.units (by assumption)
    | split

theorem Dev.voiceSilent_keeps {k : Allow} {d0 : Dev} (hB : k.b = true) {v : Nat} {d : Dev} (h : Keeps k d0 d) : Keeps k d0 (Dev.voiceSilent v d) := by
  unfold Dev.voiceSilent
  repeat' first
    | with_reducible assumption
    | (extract_lets +onlyGivenNames x; first | (have hx : Keeps k d0 x := ?_; clear_value x; swap; subst x; swap) | (have hx : Keeps1 k d0 x := ?_; clear_value x; swap; subst x; swap) | subst x)
    | exact Allow.cls_S rfl
    | exact hB
    | with_reducible refine Dev.fault_keeps hB ?_
    | with_reducible refine Dev.restVoice_keeps ?_
    | with_reducible refine Keeps.wr ?_ ?_
    | with_reducible exact Keeps.units (by assumption)
    | split

theorem Dev.markBound_keeps {k : Allow} {d0 : Dev} {d : Dev} {v : Nat} {ext : Nat} (h : Keeps k d0 d) : Keeps k d0 (Dev.markBound d v ext) := by
  unfold Dev.markBound
  repeat' first
    | with_reducible assumption
    | (extract_lets +onlyGivenNames x; first | (have hx : Keeps k d0 x := ?_; clear_value x; swap; subst x; swap) | (have hx : Keeps1 k d0 x := ?_; clear_value x; swap; subst x; swap) | subst x)
    | exact Allow.cls_S rfl
    | with_reducible refine Dev.tap_keeps ?_
    | with_reducible refine Dev.putVoice_keeps ?_
    | with_reducible exact Keeps.units (by assumption)
    | split

theorem Dev.decimFall_keeps {k : Allow} {d0 : Dev} {d : Dev} {v : Nat} {tm : Timer} {ext : Nat} (h : Keeps k d0 d) : Keeps k d0 (Dev.decimFall d v tm ext) := by
  unfold Dev.decimFall
  repeat' first
    | with_reducible assumption
    | (extract_lets +onlyGivenNames x; first | (have hx : Keeps k d0 x := ?_; clear_value x; swap; subst x; swap) | (have hx : Keeps1 k d0 x := ?_; clear_value x; swap; subst x; swap) | subst x)
    | exact Allow.cls_S rfl
    | with_reducible refine Dev.putVoice_keeps ?_
    | with_reducible refine Keeps.wr ?_ ?_
    | with_reducible exact Keeps.units (by assumption)
    | split

theorem Dev.freshRecord_keeps {k : Allow} {d0 : Dev} {d : Dev} {v : Nat} {ext : Nat} {gated : Bool} (h : Keeps k d0 d) : Keeps k d0 (Dev.freshRecord d v ext gated) := by
  unfold Dev.freshRecord
  repeat' first
    | with_reducible assumption
    | (extract_lets +onlyGivenNames x; first | (have hx : Keeps k d0 x := ?_; clear_value x; swap; subst x; swap) | (have hx : Keeps1 k d0 x := ?_; clear_value x; swap; subst x; swap) | subst x)
    | exact Allow.cls_S rfl
    | with_reducible refine Dev.putVoice_keeps ?_
    | with_reducible refine Dev.putFitVoice_keeps ?_
    | with_reducible exact Keeps.units (by assumption)
    | split

theorem Dev.endProbation_keeps {k : Allow} {d0 : Dev} {d : Dev} {src : Nat} (h : Keeps k d0 d) : Keeps k d0 (Dev.endProbation d src) := by
  unfold Dev.endProbation
  repeat' first
    | with_reducible assumption
    | (extract_lets +onlyGivenNames x; first | (have hx : Keeps k d0 x := ?_; clear_value x; swap; subst x; swap) | (have hx : Keeps1 k d0 x := ?_; clear_value x; swap; subst x; swap) | subst x)
    | exact Allow.cls_S rfl
    | with_reducible refine Keeps.wr ?_ ?_
    | with_reducible exact Keeps.units (by assumption)
    | split

theorem Dev.decayStrike_keeps {k : Allow} {d0 : Dev} {d : Dev} {src : Nat} {whole : Bool} (h : Keeps k d0 d) : Keeps k d0 (Dev.decayStrike d src whole) := by
  unfold Dev.decayStrike
  repeat' first
    | with_reducible assumption
    | (extract_lets +onlyGivenNames x; first | (have hx : Keeps k d0 x := ?_; clear_value x; swap; subst x; swap) | (have hx : Keeps1 k d0 x := ?_; clear_value x; swap; subst x; swap) | subst x)
    | exact Allow.cls_S rfl
    | with_reducible refine Dev.endProbation_keeps ?_
    | with_reducible refine Keeps.wr ?_ ?_
    | with_reducible exact Keeps.units (by assumption)
    | split

end Sys2Proof.Machine
end

