-- ==== Sys2Proof/Laws/Effects3.lean ====
section
/-! SUPPORT.
What each effect of the device keeps, part 3 of 6: `f_keeps` says which classes of fields, the NVM or the fuses `f` may change (its
hypotheses on `k`), and that it keeps the canonical forms.
-/

set_option linter.unusedTactic false
set_option linter.unreachableTactic false
set_option linter.unusedVariables false
set_option maxRecDepth 4000

namespace Sys2Proof.Machine

set_option Elab.async false

theorem Dev.decayStrikes_keeps {k : Allow} {d0 : Dev} {d : Dev} {t : Nat} {tm : Timer} (h : Keeps k d0 d) : Keeps k d0 (Dev.decayStrikes d t tm) := by
  unfold Dev.decayStrikes
  repeat' first
    | with_reducible assumption
    | (extract_lets +onlyGivenNames x; first | (have hx : Keeps k d0 x := ?_; clear_value x; swap; subst x; swap) | (have hx : Keeps1 k d0 x := ?_; clear_value x; swap; subst x; swap) | subst x)
    | exact Allow.cls_S rfl
    | ((with_reducible first | refine Allow.cls_mem (by assumption) ?_ | refine Allow.cls_fst (by assumption) ?_ | refine Allow.cls_snd (by assumption) ?_); rfl)
    | with_reducible refine Dev.decayStrike_keeps ?_
    | with_reducible refine Keeps.each ?_ (fun d x hm hd => ?_)
    | with_reducible exact Keeps.units (by assumption)
    | split

theorem Dev.takeEps_keeps {k : Allow} {d0 : Dev} {d : Dev} {t : Nat} {b : Nat} (h : Keeps k d0 d) : Keeps k d0 (Dev.takeEps d t b) := by
  unfold Dev.takeEps
  repeat' first
    | with_reducible assumption
    | (extract_lets +onlyGivenNames x; first | (have hx : Keeps k d0 x := ?_; clear_value x; swap; subst x; swap) | (have hx : Keeps1 k d0 x := ?_; clear_value x; swap; subst x; swap) | subst x)
    | exact Allow.cls_S rfl
    | with_reducible refine Dev.putTimer_keeps ?_
    | with_reducible refine Keeps.wr ?_ ?_
    | with_reducible exact Keeps.units (by assumption)
    | split

theorem Dev.endContexts_keeps {k : Allow} {d0 : Dev} {d : Dev} {vs : List Nat} {t : Nat} {ext : Nat} (h : Keeps k d0 d) : Keeps k d0 (Dev.endContexts d vs t ext) := by
  unfold Dev.endContexts
  repeat' first
    | with_reducible assumption
    | (extract_lets +onlyGivenNames x; first | (have hx : Keeps k d0 x := ?_; clear_value x; swap; subst x; swap) | (have hx : Keeps1 k d0 x := ?_; clear_value x; swap; subst x; swap) | subst x)
    | exact Allow.cls_S rfl
    | ((with_reducible first | refine Allow.cls_mem (by assumption) ?_ | refine Allow.cls_fst (by assumption) ?_ | refine Allow.cls_snd (by assumption) ?_); rfl)
    | with_reducible refine Dev.putItems_keeps ?_
    | with_reducible refine Dev.restVoice_keeps ?_
    | with_reducible refine Dev.markBound_keeps ?_
    | with_reducible refine Keeps.each ?_ (fun d x hm hd => ?_)
    | with_reducible exact Keeps.units (by assumption)
    | split

theorem Dev.endPeriod_keeps {k : Allow} {d0 : Dev} {d : Dev} {t : Nat} {ext : Nat} (h : Keeps k d0 d) : Keeps k d0 (Dev.endPeriod d t ext) := by
  unfold Dev.endPeriod
  repeat' first
    | with_reducible assumption
    | (extract_lets +onlyGivenNames x; first | (have hx : Keeps k d0 x := ?_; clear_value x; swap; subst x; swap) | (have hx : Keeps1 k d0 x := ?_; clear_value x; swap; subst x; swap) | subst x)
    | exact Allow.cls_S rfl
    | with_reducible refine Dev.endContexts_keeps ?_
    | with_reducible refine Keeps.wr ?_ ?_
    | with_reducible refine Keeps.step1 ?_ ?_
    | with_reducible exact Keeps.units (by assumption)
    | split

theorem Dev.beginPeriod_keeps {k : Allow} {d0 : Dev} (hB : k.b = true) (hH : k.h = true) {d : Dev} {t : Nat} {ext : Nat} {gated : Bool} (h : Keeps k d0 d) : Keeps k d0 (Dev.beginPeriod d t ext gated) := by
  unfold Dev.beginPeriod
  repeat' first
    | with_reducible assumption
    | (extract_lets +onlyGivenNames x; first | (have hx : Keeps k d0 x := ?_; clear_value x; swap; subst x; swap) | (have hx : Keeps1 k d0 x := ?_; clear_value x; swap; subst x; swap) | subst x)
    | exact Allow.cls_S rfl
    | exact hB
    | exact hH
    | ((with_reducible first | refine Allow.cls_mem (by assumption) ?_ | refine Allow.cls_fst (by assumption) ?_ | refine Allow.cls_snd (by assumption) ?_); rfl)
    | with_reducible refine Dev.takeLater_keeps hB hH ?_
    | with_reducible refine Dev.takeEps_keeps ?_
    | with_reducible refine Dev.putTimer_keeps ?_
    | with_reducible refine Dev.putFitPair_keeps ?_
    | with_reducible refine Dev.freshRecord_keeps ?_
    | with_reducible refine Dev.boundaryStarts_keeps ?_
    | with_reducible refine Dev.decayStrikes_keeps ?_
    | with_reducible refine Dev.swapTable_keeps ?_
    | with_reducible refine Dev.decimFall_keeps ?_
    | with_reducible refine Keeps.each ?_ (fun d x hm hd => ?_)
    | with_reducible exact Keeps.units (by assumption)
    | split

theorem Dev.tachStamp_keeps {k : Allow} {d0 : Dev} {d : Dev} {e : Entry} (h : Keeps k d0 d) : Keeps k d0 (Dev.tachStamp d e) := by
  unfold Dev.tachStamp
  repeat' first
    | with_reducible assumption
    | (extract_lets +onlyGivenNames x; first | (have hx : Keeps k d0 x := ?_; clear_value x; swap; subst x; swap) | (have hx : Keeps1 k d0 x := ?_; clear_value x; swap; subst x; swap) | subst x)
    | exact Allow.cls_S rfl
    | with_reducible refine Dev.putTrack_keeps ?_
    | with_reducible exact Keeps.units (by assumption)
    | split

theorem Dev.drainTach_keeps {k : Allow} {d0 : Dev} {d : Dev} {ext : Nat} (h : Keeps k d0 d) : Keeps k d0 (Dev.drainTach d ext) := by
  unfold Dev.drainTach
  repeat' first
    | with_reducible assumption
    | (extract_lets +onlyGivenNames x; first | (have hx : Keeps k d0 x := ?_; clear_value x; swap; subst x; swap) | (have hx : Keeps1 k d0 x := ?_; clear_value x; swap; subst x; swap) | subst x)
    | exact Allow.cls_S rfl
    | ((with_reducible first | refine Allow.cls_mem (by assumption) ?_ | refine Allow.cls_fst (by assumption) ?_ | refine Allow.cls_snd (by assumption) ?_); rfl)
    | with_reducible refine Dev.tachStamp_keeps ?_
    | with_reducible refine Dev.putVoice_keeps ?_
    | with_reducible refine Keeps.each ?_ (fun d x hm hd => ?_)
    | with_reducible exact Keeps.units (by assumption)
    | split

theorem Dev.applyZone_keeps {k : Allow} {d0 : Dev} {d : Dev} {z : Nat} (h : Keeps k d0 d) : Keeps k d0 (Dev.applyZone d z) := by
  unfold Dev.applyZone
  repeat' first
    | with_reducible assumption
    | (extract_lets +onlyGivenNames x; first | (have hx : Keeps k d0 x := ?_; clear_value x; swap; subst x; swap) | (have hx : Keeps1 k d0 x := ?_; clear_value x; swap; subst x; swap) | subst x)
    | exact Allow.cls_S rfl
    | with_reducible refine Dev.putTrack_keeps ?_
    | with_reducible refine Dev.putLive_keeps ?_
    | with_reducible exact Keeps.units (by assumption)
    | split

theorem Dev.lateFrame_keeps {k : Allow} {d0 : Dev} (hB : k.b = true) {d : Dev} {c : Collected} (h : Keeps k d0 d) : Keeps k d0 (Dev.lateFrame d c) := by
  unfold Dev.lateFrame
  repeat' first
    | with_reducible assumption
    | (extract_lets +onlyGivenNames x; first | (have hx : Keeps k d0 x := ?_; clear_value x; swap; subst x; swap) | (have hx : Keeps1 k d0 x := ?_; clear_value x; swap; subst x; swap) | subst x)
    | exact Allow.cls_S rfl
    | exact hB
    | with_reducible refine Dev.fault_keeps hB ?_
    | with_reducible refine Dev.countFrame_keeps ?_
    | with_reducible refine Dev.heavyFrame_keeps ?_
    | with_reducible refine Keeps.inc ?_ ?_
    | with_reducible exact Keeps.units (by assumption)
    | split

theorem Dev.trackRecord_keeps {k : Allow} {d0 : Dev} {d : Dev} {kind : Nat} {seg : Nat} {inhibit : Nat} {mass : F64} {added : Nat} {ok : Nat} {bad : Nat} {at0 : Nat × Nat} (h : Keeps k d0 d) : Keeps k d0 (Dev.trackRecord d kind seg inhibit mass added ok bad at0) := by
  unfold Dev.trackRecord
  repeat' first
    | with_reducible assumption
    | (extract_lets +onlyGivenNames x; first | (have hx : Keeps k d0 x := ?_; clear_value x; swap; subst x; swap) | (have hx : Keeps1 k d0 x := ?_; clear_value x; swap; subst x; swap) | subst x)
    | exact Allow.cls_S rfl
    | with_reducible refine Dev.putTrack_keeps ?_
    | with_reducible refine Dev.notify_keeps ?_
    | with_reducible refine Dev.nextFree_keeps ?_
    | with_reducible refine Dev.offer_keeps ?_
    | with_reducible exact Keeps.units (by assumption)
    | split

theorem Dev.reallocate_keeps {k : Allow} {d0 : Dev} (hN : k.n = true) (hB : k.b = true) {d : Dev} {s : Nat} (h : Keeps k d0 d) : Keeps k d0 (Dev.reallocate d s) := by
  unfold Dev.reallocate
  repeat' first
    | with_reducible assumption
    | (extract_lets +onlyGivenNames x; first | (have hx : Keeps k d0 x := ?_; clear_value x; swap; subst x; swap) | (have hx : Keeps1 k d0 x := ?_; clear_value x; swap; subst x; swap) | subst x)
    | exact Allow.cls_S rfl
    | exact hN
    | exact hB
    | with_reducible refine Dev.trackRecord_keeps ?_
    | with_reducible refine Dev.log_keeps ?_
    | with_reducible refine Dev.fault_keeps hB ?_
    | with_reducible refine Dev.putTrack_keeps ?_
    | with_reducible refine Keeps.wr ?_ ?_
    | with_reducible exact Keeps.units (by assumption)
    | split

theorem Dev.endRevolution_keeps {k : Allow} {d0 : Dev} (hN : k.n = true) (hB : k.b = true) {d : Dev} (h : Keeps k d0 d) : Keeps k d0 (Dev.endRevolution d) := by
  unfold Dev.endRevolution
  repeat' first
    | with_reducible assumption
    | (extract_lets +onlyGivenNames x; first | (have hx : Keeps k d0 x := ?_; clear_value x; swap; subst x; swap) | (have hx : Keeps1 k d0 x := ?_; clear_value x; swap; subst x; swap) | subst x)
    | exact Allow.cls_S rfl
    | exact hN
    | exact hB
    | ((with_reducible first | refine Allow.cls_mem (by assumption) ?_ | refine Allow.cls_fst (by assumption) ?_ | refine Allow.cls_snd (by assumption) ?_); rfl)
    | with_reducible refine Dev.reallocate_keeps hN hB ?_
    | with_reducible refine Dev.putTrack_keeps ?_
    | with_reducible refine Keeps.each ?_ (fun d x hm hd => ?_)
    | with_reducible exact Keeps.units (by assumption)
    | split

theorem Dev.checkBridged_keeps {k : Allow} {d0 : Dev} (hB : k.b = true) {d : Dev} {t : Nat} (h : Keeps k d0 d) : Keeps k d0 (Dev.checkBridged d t) := by
  unfold Dev.checkBridged
  repeat' first
    | with_reducible assumption
    | (extract_lets +onlyGivenNames x; first | (have hx : Keeps k d0 x := ?_; clear_value x; swap; subst x; swap) | (have hx : Keeps1 k d0 x := ?_; clear_value x; swap; subst x; swap) | subst x)
    | exact Allow.cls_S rfl
    | exact hB
    | with_reducible refine Dev.fault_keeps hB ?_
    | with_reducible refine Dev.putTrack_keeps ?_
    | with_reducible refine Dev.markZone_keeps ?_
    | with_reducible refine Keeps.wr ?_ ?_
    | with_reducible exact Keeps.units (by assumption)
    | split

theorem Dev.passZero_keeps {k : Allow} {d0 : Dev} (hB : k.b = true) {d : Dev} (h : Keeps k d0 d) : Keeps k d0 (Dev.passZero d) := by
  unfold Dev.passZero
  repeat' first
    | with_reducible assumption
    | (extract_lets +onlyGivenNames x; first | (have hx : Keeps k d0 x := ?_; clear_value x; swap; subst x; swap) | (have hx : Keeps1 k d0 x := ?_; clear_value x; swap; subst x; swap) | subst x)
    | exact Allow.cls_S rfl
    | exact hB
    | with_reducible refine Dev.putTrack_keeps ?_
    | with_reducible refine Dev.queueTot_keeps hB ?_
    | with_reducible exact Keeps.units (by assumption)
    | split

theorem Dev.followHead_keeps {k : Allow} {d0 : Dev} (hN : k.n = true) (hB : k.b = true) {d : Dev} {t : Nat} (h : Keeps k d0 d) : Keeps k d0 (Dev.followHead d t) := by
  unfold Dev.followHead
  repeat' first
    | with_reducible assumption
    | (extract_lets +onlyGivenNames x; first | (have hx : Keeps k d0 x := ?_; clear_value x; swap; subst x; swap) | (have hx : Keeps1 k d0 x := ?_; clear_value x; swap; subst x; swap) | subst x)
    | exact Allow.cls_S rfl
    | exact hN
    | exact hB
    | with_reducible refine Dev.passZero_keeps hB ?_
    | with_reducible refine Dev.endRevolution_keeps hN hB ?_
    | with_reducible refine Dev.applyZone_keeps ?_
    | with_reducible refine Dev.checkBridged_keeps hB ?_
    | with_reducible refine Dev.putTrack_keeps ?_
    | with_reducible refine Keeps.wr ?_ ?_
    | with_reducible exact Keeps.units (by assumption)
    | split

theorem Dev.acquire_keeps {k : Allow} {d0 : Dev} {d : Dev} (h : Keeps k d0 d) : Keeps k d0 (Dev.acquire d) := by
  unfold Dev.acquire
  repeat' first
    | with_reducible assumption
    | (extract_lets +onlyGivenNames x; first | (have hx : Keeps k d0 x := ?_; clear_value x; swap; subst x; swap) | (have hx : Keeps1 k d0 x := ?_; clear_value x; swap; subst x; swap) | subst x)
    | exact Allow.cls_S rfl
    | with_reducible refine Dev.putTrack_keeps ?_
    | with_reducible refine Dev.leaveZones_keeps ?_
    | with_reducible refine Dev.cutFrame_keeps ?_
    | with_reducible refine Keeps.wr ?_ ?_
    | with_reducible exact Keeps.units (by assumption)
    | split

theorem Dev.followTach_keeps {k : Allow} {d0 : Dev} {d : Dev} (h : Keeps k d0 d) : Keeps k d0 (Dev.followTach d) := by
  unfold Dev.followTach
  repeat' first
    | with_reducible assumption
    | (extract_lets +onlyGivenNames x; first | (have hx : Keeps k d0 x := ?_; clear_value x; swap; subst x; swap) | (have hx : Keeps1 k d0 x := ?_; clear_value x; swap; subst x; swap) | subst x)
    | exact Allow.cls_S rfl
    | with_reducible refine Dev.acquire_keeps ?_
    | with_reducible refine Dev.putTrack_keeps ?_
    | with_reducible refine Dev.failTrack_keeps ?_
    | with_reducible exact Keeps.units (by assumption)
    | split

theorem Dev.startFrame_keeps {k : Allow} {d0 : Dev} {d : Dev} {t : Nat} {cells : Nat} {nomark : Bool} (h : Keeps k d0 d) : Keeps k d0 (Dev.startFrame d t cells nomark) := by
  unfold Dev.startFrame
  repeat' first
    | with_reducible assumption
    | (extract_lets +onlyGivenNames x; first | (have hx : Keeps k d0 x := ?_; clear_value x; swap; subst x; swap) | (have hx : Keeps1 k d0 x := ?_; clear_value x; swap; subst x; swap) | subst x)
    | exact Allow.cls_S rfl
    | with_reducible refine Dev.putTrack_keeps ?_
    | with_reducible refine Dev.cutFrame_keeps ?_
    | with_reducible exact Keeps.units (by assumption)
    | split

theorem Dev.endMark_keeps {k : Allow} {d0 : Dev} {d : Dev} {t : Nat} {cells : Nat} {nomark : Bool} (h : Keeps k d0 d) : Keeps k d0 (Dev.endMark d t cells nomark) := by
  unfold Dev.endMark
  repeat' first
    | with_reducible assumption
    | (extract_lets +onlyGivenNames x; first | (have hx : Keeps k d0 x := ?_; clear_value x; swap; subst x; swap) | (have hx : Keeps1 k d0 x := ?_; clear_value x; swap; subst x; swap) | subst x)
    | exact Allow.cls_S rfl
    | with_reducible refine Dev.startFrame_keeps ?_
    | with_reducible refine Dev.putTrack_keeps ?_
    | with_reducible refine Dev.cutFrame_keeps ?_
    | with_reducible exact Keeps.units (by assumption)
    | split

theorem Dev.offerFrame_keeps {k : Allow} {d0 : Dev} (hB : k.b = true) {d : Dev} {c : Collected} {t : Nat} (h : Keeps k d0 d) : Keeps k d0 (Dev.offerFrame d c t) := by
  unfold Dev.offerFrame
  repeat' first
    | with_reducible assumption
    | (extract_lets +onlyGivenNames x; first | (have hx : Keeps k d0 x := ?_; clear_value x; swap; subst x; swap) | (have hx : Keeps1 k d0 x := ?_; clear_value x; swap; subst x; swap) | subst x)
    | exact Allow.cls_S rfl
    | exact hB
    | with_reducible refine Dev.lateFrame_keeps hB ?_
    | with_reducible refine Dev.putTrack_keeps ?_
    | with_reducible exact Keeps.units (by assumption)
    | split

theorem Dev.trackLoop_keeps {k : Allow} {d0 : Dev} {d : Dev} {dt : Nat} {n : Nat} (h : Keeps k d0 d) : Keeps k d0 (Dev.trackLoop d dt n) := by
  unfold Dev.trackLoop
  repeat' first
    | with_reducible assumption
    | (extract_lets +onlyGivenNames x; first | (have hx : Keeps k d0 x := ?_; clear_value x; swap; subst x; swap) | (have hx : Keeps1 k d0 x := ?_; clear_value x; swap; subst x; swap) | subst x)
    | exact Allow.cls_S rfl
    | with_reducible refine Dev.putTrack_keeps ?_
    | with_reducible exact Keeps.units (by assumption)
    | split

theorem Dev.passCells_keeps {k : Allow} {d0 : Dev} (hB : k.b = true) {d : Dev} {t : Nat} {n : Nat} (h : Keeps k d0 d) : Keeps k d0 (Dev.passCells d t n) := by
  unfold Dev.passCells
  repeat' first
    | with_reducible assumption
    | (extract_lets +onlyGivenNames x; first | (have hx : Keeps k d0 x := ?_; clear_value x; swap; subst x; swap) | (have hx : Keeps1 k d0 x := ?_; clear_value x; swap; subst x; swap) | subst x)
    | exact Allow.cls_S rfl
    | exact hB
    | with_reducible refine Dev.offerFrame_keeps hB ?_
    | with_reducible refine Dev.putTrack_keeps ?_
    | with_reducible exact Keeps.units (by assumption)
    | split

theorem Dev.predictStart_keeps {k : Allow} {d0 : Dev} {d : Dev} {t : Nat} (h : Keeps k d0 d) : Keeps k d0 (Dev.predictStart d t) := by
  unfold Dev.predictStart
  repeat' first
    | with_reducible assumption
    | (extract_lets +onlyGivenNames x; first | (have hx : Keeps k d0 x := ?_; clear_value x; swap; subst x; swap) | (have hx : Keeps1 k d0 x := ?_; clear_value x; swap; subst x; swap) | subst x)
    | exact Allow.cls_S rfl
    | with_reducible refine Dev.putTrack_keeps ?_
    | with_reducible refine Dev.endMark_keeps ?_
    | with_reducible exact Keeps.units (by assumption)
    | split

theorem Dev.afterRegion_keeps {k : Allow} {d0 : Dev} {d : Dev} {t : Nat} (h : Keeps k d0 d) : Keeps k d0 (Dev.afterRegion d t) := by
  unfold Dev.afterRegion
  repeat' first
    | with_reducible assumption
    | (extract_lets +onlyGivenNames x; first | (have hx : Keeps k d0 x := ?_; clear_value x; swap; subst x; swap) | (have hx : Keeps1 k d0 x := ?_; clear_value x; swap; subst x; swap) | subst x)
    | exact Allow.cls_S rfl
    | with_reducible refine Dev.startFrame_keeps ?_
    | with_reducible refine Dev.putTrack_keeps ?_
    | with_reducible exact Keeps.units (by assumption)
    | split

theorem Dev.trackInterval_keeps {k : Allow} {d0 : Dev} (hB : k.b = true) {d : Dev} {t : Nat} {prev : Nat} (h : Keeps k d0 d) : Keeps k d0 (Dev.trackInterval d t prev) := by
  unfold Dev.trackInterval
  repeat' first
    | with_reducible assumption
    | (extract_lets +onlyGivenNames x; first | (have hx : Keeps k d0 x := ?_; clear_value x; swap; subst x; swap) | (have hx : Keeps1 k d0 x := ?_; clear_value x; swap; subst x; swap) | subst x)
    | exact Allow.cls_S rfl
    | exact hB
    | with_reducible refine Dev.predictStart_keeps ?_
    | with_reducible refine Dev.endMark_keeps ?_
    | with_reducible refine Dev.putTrack_keeps ?_
    | with_reducible refine Dev.passCells_keeps hB ?_
    | with_reducible refine Dev.trackLoop_keeps ?_
    | with_reducible exact Keeps.units (by assumption)
    | split

theorem Dev.keepRecent_keeps {k : Allow} {d0 : Dev} {d : Dev} {t : Nat} (h : Keeps k d0 d) : Keeps k d0 (Dev.keepRecent d t) := by
  unfold Dev.keepRecent
  repeat' first
    | with_reducible assumption
    | (extract_lets +onlyGivenNames x; first | (have hx : Keeps k d0 x := ?_; clear_value x; swap; subst x; swap) | (have hx : Keeps1 k d0 x := ?_; clear_value x; swap; subst x; swap) | subst x)
    | exact Allow.cls_S rfl
    | with_reducible refine Dev.putTrack_keeps ?_
    | with_reducible exact Keeps.units (by assumption)
    | split

theorem Dev.transition_keeps {k : Allow} {d0 : Dev} (hB : k.b = true) {d : Dev} {t : Nat} (h : Keeps k d0 d) : Keeps k d0 (Dev.transition d t) := by
  unfold Dev.transition
  repeat' first
    | with_reducible assumption
    | (extract_lets +onlyGivenNames x; first | (have hx : Keeps k d0 x := ?_; clear_value x; swap; subst x; swap) | (have hx : Keeps1 k d0 x := ?_; clear_value x; swap; subst x; swap) | subst x)
    | exact Allow.cls_S rfl
    | exact hB
    | with_reducible refine Dev.trackInterval_keeps hB ?_
    | with_reducible refine Dev.afterRegion_keeps ?_
    | with_reducible refine Dev.keepRecent_keeps ?_
    | with_reducible refine Dev.putTrack_keeps ?_
    | with_reducible exact Keeps.units (by assumption)
    | split

theorem Dev.headStamp_keeps {k : Allow} {d0 : Dev} (hB : k.b = true) {d : Dev} {e : Entry} (h : Keeps k d0 d) : Keeps k d0 (Dev.headStamp d e) := by
  unfold Dev.headStamp
  repeat' first
    | with_reducible assumption
    | (extract_lets +onlyGivenNames x; first | (have hx : Keeps k d0 x := ?_; clear_value x; swap; subst x; swap) | (have hx : Keeps1 k d0 x := ?_; clear_value x; swap; subst x; swap) | subst x)
    | exact Allow.cls_S rfl
    | exact hB
    | with_reducible refine Dev.transition_keeps hB ?_
    | with_reducible refine Dev.putTrack_keeps ?_
    | with_reducible refine Dev.trackLoop_keeps ?_
    | with_reducible exact Keeps.units (by assumption)
    | split

theorem Dev.trackStamp_keeps {k : Allow} {d0 : Dev} (hN : k.n = true) (hB : k.b = true) {v : Nat} {d : Dev} (h : Keeps k d0 d) : Keeps k d0 (Dev.trackStamp v d) := by
  unfold Dev.trackStamp
  repeat' first
    | with_reducible assumption
    | (extract_lets +onlyGivenNames x; first | (have hx : Keeps k d0 x := ?_; clear_value x; swap; subst x; swap) | (have hx : Keeps1 k d0 x := ?_; clear_value x; swap; subst x; swap) | subst x)
    | exact Allow.cls_S rfl
    | exact hN
    | exact hB
    | with_reducible refine Dev.headStamp_keeps hB ?_
    | with_reducible refine Dev.followHead_keeps hN hB ?_
    | with_reducible refine Dev.tachStamp_keeps ?_
    | with_reducible refine Dev.putVoice_keeps ?_
    | with_reducible refine Dev.followTach_keeps ?_
    | with_reducible exact Keeps.units (by assumption)
    | split

theorem Dev.dropout_keeps {k : Allow} {d0 : Dev} {first : Nat} {last : Nat} {d : Dev} (h : Keeps k d0 d) : Keeps k d0 (Dev.dropout first last d) := by
  unfold Dev.dropout
  repeat' first
    | with_reducible assumption
    | (extract_lets +onlyGivenNames x; first | (have hx : Keeps k d0 x := ?_; clear_value x; swap; subst x; swap) | (have hx : Keeps1 k d0 x := ?_; clear_value x; swap; subst x; swap) | subst x)
    | exact Allow.cls_S rfl
    | with_reducible refine Dev.putTrack_keeps ?_
    | with_reducible exact Keeps.units (by assumption)
    | split

theorem Dev.shock_keeps {k : Allow} {d0 : Dev} {d : Dev} (h : Keeps k d0 d) : Keeps k d0 (Dev.shock d) := by
  unfold Dev.shock
  repeat' first
    | with_reducible assumption
    | (extract_lets +onlyGivenNames x; first | (have hx : Keeps k d0 x := ?_; clear_value x; swap; subst x; swap) | (have hx : Keeps1 k d0 x := ?_; clear_value x; swap; subst x; swap) | subst x)
    | exact Allow.cls_S rfl
    | with_reducible refine Dev.markZone_keeps ?_
    | with_reducible exact Keeps.units (by assumption)
    | split

theorem Dev.pruneDrops_keeps {k : Allow} {d0 : Dev} {d : Dev} (h : Keeps k d0 d) : Keeps k d0 (Dev.pruneDrops d) := by
  unfold Dev.pruneDrops
  repeat' first
    | with_reducible assumption
    | (extract_lets +onlyGivenNames x; first | (have hx : Keeps k d0 x := ?_; clear_value x; swap; subst x; swap) | (have hx : Keeps1 k d0 x := ?_; clear_value x; swap; subst x; swap) | subst x)
    | exact Allow.cls_S rfl
    | ((with_reducible first | refine Allow.cls_mem (by assumption) ?_ | refine Allow.cls_fst (by assumption) ?_ | refine Allow.cls_snd (by assumption) ?_); rfl)
    | with_reducible refine Dev.putTrack_keeps ?_
    | with_reducible refine Keeps.foldl ?_ (fun d x hm hd => ?_)
    | with_reducible refine Keeps.foldl1 ?_ (fun d x hm hd => ?_)
    | with_reducible exact Keeps.units (by assumption)
    | split

theorem Dev.checkPosition_keeps {k : Allow} {d0 : Dev} (hB : k.b = true) {d : Dev} {pos : Nat} {t : Nat} (h : Keeps k d0 d) : Keeps k d0 (Dev.checkPosition d pos t) := by
  unfold Dev.checkPosition
  repeat' first
    | with_reducible assumption
    | (extract_lets +onlyGivenNames x; first | (have hx : Keeps k d0 x := ?_; clear_value x; swap; subst x; swap) | (have hx : Keeps1 k d0 x := ?_; clear_value x; swap; subst x; swap) | subst x)
    | exact Allow.cls_S rfl
    | exact hB
    | with_reducible refine Dev.fault_keeps hB ?_
    | with_reducible refine Dev.markZone_keeps ?_
    | with_reducible refine Keeps.wr ?_ ?_
    | with_reducible exact Keeps.units (by assumption)
    | split

theorem Dev.anchorFrame_keeps {k : Allow} {d0 : Dev} (hN : k.n = true) (hB : k.b = true) {d : Dev} {pos : Nat} {t : Nat} (h : Keeps k d0 d) : Keeps k d0 (Dev.anchorFrame d pos t) := by
  unfold Dev.anchorFrame
  repeat' first
    | with_reducible assumption
    | (extract_lets +onlyGivenNames x; first | (have hx : Keeps k d0 x := ?_; clear_value x; swap; subst x; swap) | (have hx : Keeps1 k d0 x := ?_; clear_value x; swap; subst x; swap) | subst x)
    | exact Allow.cls_S rfl
    | exact hN
    | exact hB
    | with_reducible refine Dev.followHead_keeps hN hB ?_
    | with_reducible refine Dev.putTrack_keeps ?_
    | with_reducible refine Dev.checkPosition_keeps hB ?_
    | with_reducible refine Dev.checkBridged_keeps hB ?_
    | with_reducible refine Keeps.wr ?_ ?_
    | with_reducible exact Keeps.units (by assumption)
    | split

theorem Dev.acceptFrame_keeps {k : Allow} {d0 : Dev} (hN : k.n = true) (hB : k.b = true) {d : Dev} {c : Collected} {pos : Nat} {pass : Nat} {erased : Nat} (h : Keeps k d0 d) : Keeps k d0 (Dev.acceptFrame d c pos pass erased) := by
  unfold Dev.acceptFrame
  repeat' first
    | with_reducible assumption
    | (extract_lets +onlyGivenNames x; first | (have hx : Keeps k d0 x := ?_; clear_value x; swap; subst x; swap) | (have hx : Keeps1 k d0 x := ?_; clear_value x; swap; subst x; swap) | subst x)
    | exact Allow.cls_S rfl
    | exact hN
    | exact hB
    | with_reducible refine Dev.anchorFrame_keeps hN hB ?_
    | with_reducible refine Dev.heavyFrame_keeps ?_
    | with_reducible refine Dev.countFrame_keeps ?_
    | with_reducible refine Keeps.inc ?_ ?_
    | with_reducible exact Keeps.units (by assumption)
    | split

theorem Dev.judgeFrame_keeps {k : Allow} {d0 : Dev} (hN : k.n = true) (hB : k.b = true) {d : Dev} {c : Collected} {erased : Nat} {found : Option (List Bool × Nat)} (h : Keeps k d0 d) : Keeps k d0 (Dev.judgeFrame d c erased found) := by
  unfold Dev.judgeFrame
  repeat' first
    | with_reducible assumption
    | (extract_lets +onlyGivenNames x; first | (have hx : Keeps k d0 x := ?_; clear_value x; swap; subst x; swap) | (have hx : Keeps1 k d0 x := ?_; clear_value x; swap; subst x; swap) | subst x)
    | exact Allow.cls_S rfl
    | exact hN
    | exact hB
    | with_reducible refine Dev.acceptFrame_keeps hN hB ?_
    | with_reducible refine Dev.failFrame_keeps ?_
    | with_reducible exact Keeps.units (by assumption)
    | split

theorem Dev.frameDecode_keeps {k : Allow} {d0 : Dev} (hN : k.n = true) (hB : k.b = true) {d : Dev} (h : Keeps k d0 d) : Keeps k d0 (Dev.frameDecode d) := by
  unfold Dev.frameDecode
  repeat' first
    | with_reducible assumption
    | (extract_lets +onlyGivenNames x; first | (have hx : Keeps k d0 x := ?_; clear_value x; swap; subst x; swap) | (have hx : Keeps1 k d0 x := ?_; clear_value x; swap; subst x; swap) | subst x)
    | exact Allow.cls_S rfl
    | exact hN
    | exact hB
    | with_reducible refine Dev.judgeFrame_keeps hN hB ?_
    | with_reducible refine Dev.pruneDrops_keeps ?_
    | with_reducible refine Dev.lateFrame_keeps hB ?_
    | with_reducible refine Dev.putTrack_keeps ?_
    | with_reducible exact Keeps.units (by assumption)
    | split

theorem Dev.frameLate_keeps {k : Allow} {d0 : Dev} (hB : k.b = true) {d : Dev} (h : Keeps k d0 d) : Keeps k d0 (Dev.frameLate d) := by
  unfold Dev.frameLate
  repeat' first
    | with_reducible assumption
    | (extract_lets +onlyGivenNames x; first | (have hx : Keeps k d0 x := ?_; clear_value x; swap; subst x; swap) | (have hx : Keeps1 k d0 x := ?_; clear_value x; swap; subst x; swap) | subst x)
    | exact Allow.cls_S rfl
    | exact hB
    | with_reducible refine Dev.pruneDrops_keeps ?_
    | with_reducible refine Dev.lateFrame_keeps hB ?_
    | with_reducible refine Dev.putTrack_keeps ?_
    | with_reducible exact Keeps.units (by assumption)
    | split

theorem Dev.closeSegment_keeps {k : Allow} {d0 : Dev} {d : Dev} {s : Nat} {at0 : Nat × Nat} (h : Keeps k d0 d) : Keeps k d0 (Dev.closeSegment d s at0) := by
  unfold Dev.closeSegment
  repeat' first
    | with_reducible assumption
    | (extract_lets +onlyGivenNames x; first | (have hx : Keeps k d0 x := ?_; clear_value x; swap; subst x; swap) | (have hx : Keeps1 k d0 x := ?_; clear_value x; swap; subst x; swap) | subst x)
    | exact Allow.cls_S rfl
    | with_reducible refine Dev.trackRecord_keeps ?_
    | with_reducible refine Dev.putTrack_keeps ?_
    | with_reducible exact Keeps.units (by assumption)
    | split

theorem Dev.commitMass_keeps {k : Allow} {d0 : Dev} (hB : k.b = true) {d : Dev} {m : F64} (h : Keeps k d0 d) : Keeps1 k d0 (Dev.commitMass d m) := by
  unfold Dev.commitMass
  repeat' first
    | with_reducible assumption
    | (extract_lets +onlyGivenNames x; first | (have hx : Keeps k d0 x := ?_; clear_value x; swap; subst x; swap) | (have hx : Keeps1 k d0 x := ?_; clear_value x; swap; subst x; swap) | subst x)
    | exact Allow.cls_S rfl
    | exact hB
    | with_reducible refine Dev.queueTot_keeps hB ?_
    | with_reducible exact Keeps.units (by assumption)
    | split

theorem Dev.addProv_keeps {k : Allow} {d0 : Dev} (hB : k.b = true) {d : Dev} {m : F64} (h : Keeps k d0 d) : Keeps k d0 (Dev.addProv d m) := by
  unfold Dev.addProv
  repeat' first
    | with_reducible assumption
    | (extract_lets +onlyGivenNames x; first | (have hx : Keeps k d0 x := ?_; clear_value x; swap; subst x; swap) | (have hx : Keeps1 k d0 x := ?_; clear_value x; swap; subst x; swap) | subst x)
    | exact Allow.cls_S rfl
    | exact hB
    | with_reducible refine Dev.queueTot_keeps hB ?_
    | with_reducible exact Keeps.units (by assumption)
    | split

theorem Dev.closeZone_keeps {k : Allow} {d0 : Dev} (hB : k.b = true) {d : Dev} {z : Nat} {at0 : Nat × Nat} (h : Keeps k d0 d) : Keeps k d0 (Dev.closeZone d z at0) := by
  unfold Dev.closeZone
  repeat' first
    | with_reducible assumption
    | (extract_lets +onlyGivenNames x; first | (have hx : Keeps k d0 x := ?_; clear_value x; swap; subst x; swap) | (have hx : Keeps1 k d0 x := ?_; clear_value x; swap; subst x; swap) | subst x)
    | exact Allow.cls_S rfl
    | exact hB
    | with_reducible refine Dev.fault_keeps hB ?_
    | with_reducible refine Dev.addProv_keeps hB ?_
    | with_reducible refine Dev.trackRecord_keeps ?_
    | with_reducible refine Dev.commitMass_keeps hB ?_
    | with_reducible refine Dev.putTrack_keeps ?_
    | with_reducible refine Keeps.wr ?_ ?_
    | with_reducible exact Keeps.units (by assumption)
    | split

theorem Dev.logProfile_keeps {k : Allow} {d0 : Dev} {d : Dev} (h : Keeps k d0 d) : Keeps k d0 (Dev.logProfile d) := by
  unfold Dev.logProfile
  repeat' first
    | with_reducible assumption
    | (extract_lets +onlyGivenNames x; first | (have hx : Keeps k d0 x := ?_; clear_value x; swap; subst x; swap) | (have hx : Keeps1 k d0 x := ?_; clear_value x; swap; subst x; swap) | subst x)
    | exact Allow.cls_S rfl
    | ((with_reducible first | refine Allow.cls_mem (by assumption) ?_ | refine Allow.cls_fst (by assumption) ?_ | refine Allow.cls_snd (by assumption) ?_); rfl)
    | with_reducible refine Dev.log_keeps ?_
    | with_reducible refine Keeps.each ?_ (fun d x hm hd => ?_)
    | with_reducible exact Keeps.units (by assumption)
    | split

theorem Dev.endLearning_keeps {k : Allow} {d0 : Dev} (hB : k.b = true) {d : Dev} (h : Keeps k d0 d) : Keeps k d0 (Dev.endLearning d) := by
  unfold Dev.endLearning
  repeat' first
    | with_reducible assumption
    | (extract_lets +onlyGivenNames x; first | (have hx : Keeps k d0 x := ?_; clear_value x; swap; subst x; swap) | (have hx : Keeps1 k d0 x := ?_; clear_value x; swap; subst x; swap) | subst x)
    | exact Allow.cls_S rfl
    | exact hB
    | with_reducible refine Dev.fault_keeps hB ?_
    | with_reducible refine Dev.logProfile_keeps ?_
    | with_reducible refine Dev.putTrack_keeps ?_
    | with_reducible refine Keeps.wr ?_ ?_
    | with_reducible exact Keeps.units (by assumption)
    | split

theorem Dev.learnTurn_keeps {k : Allow} {d0 : Dev} (hB : k.b = true) {d : Dev} (h : Keeps k d0 d) : Keeps k d0 (Dev.learnTurn d) := by
  unfold Dev.learnTurn
  repeat' first
    | with_reducible assumption
    | (extract_lets +onlyGivenNames x; first | (have hx : Keeps k d0 x := ?_; clear_value x; swap; subst x; swap) | (have hx : Keeps1 k d0 x := ?_; clear_value x; swap; subst x; swap) | subst x)
    | exact Allow.cls_S rfl
    | exact hB
    | with_reducible refine Dev.putTrack_keeps ?_
    | with_reducible refine Dev.endLearning_keeps hB ?_
    | with_reducible exact Keeps.units (by assumption)
    | split

theorem Dev.leaveSegment_keeps {k : Allow} {d0 : Dev} (hB : k.b = true) {d : Dev} {at0 : Nat × Nat} (h : Keeps k d0 d) : Keeps k d0 (Dev.leaveSegment d at0) := by
  unfold Dev.leaveSegment
  repeat' first
    | with_reducible assumption
    | (extract_lets +onlyGivenNames x; first | (have hx : Keeps k d0 x := ?_; clear_value x; swap; subst x; swap) | (have hx : Keeps1 k d0 x := ?_; clear_value x; swap; subst x; swap) | subst x)
    | exact Allow.cls_S rfl
    | exact hB
    | with_reducible refine Dev.putTrack_keeps ?_
    | with_reducible refine Dev.learnTurn_keeps hB ?_
    | with_reducible refine Dev.closeZone_keeps hB ?_
    | with_reducible refine Dev.closeSegment_keeps ?_
    | with_reducible exact Keeps.units (by assumption)
    | split

theorem Dev.leaveSegments_keeps {k : Allow} {d0 : Dev} (hB : k.b = true) {at0 : Nat × Nat} {n : Nat} {d : Dev} (h : Keeps k d0 d) :
    Keeps k d0 (Dev.leaveSegments at0 n d) := by
  induction n generalizing d with
  | zero => exact h
  | succ n ih => exact ih (Dev.leaveSegment_keeps hB h)

theorem Dev.advanceSigma_keeps {k : Allow} {d0 : Dev} (hB : k.b = true) {d : Dev} {s : Nat} {at0 : Nat × Nat} (h : Keeps k d0 d) : Keeps k d0 (Dev.advanceSigma d s at0) := by
  unfold Dev.advanceSigma
  repeat' first
    | with_reducible assumption
    | (extract_lets +onlyGivenNames x; first | (have hx : Keeps k d0 x := ?_; clear_value x; swap; subst x; swap) | (have hx : Keeps1 k d0 x := ?_; clear_value x; swap; subst x; swap) | subst x)
    | exact Allow.cls_S rfl
    | exact hB
    | with_reducible refine Dev.leaveSegments_keeps hB ?_
    | with_reducible refine Dev.putTrack_keeps ?_
    | with_reducible refine Keeps.wr ?_ ?_
    | with_reducible exact Keeps.units (by assumption)
    | split

theorem Dev.takeSpeed_keeps {k : Allow} {d0 : Dev} (hB : k.b = true) {d : Dev} {v : F64} (h : Keeps k d0 d) : Keeps k d0 (Dev.takeSpeed d v) := by
  unfold Dev.takeSpeed
  repeat' first
    | with_reducible assumption
    | (extract_lets +onlyGivenNames x; first | (have hx : Keeps k d0 x := ?_; clear_value x; swap; subst x; swap) | (have hx : Keeps1 k d0 x := ?_; clear_value x; swap; subst x; swap) | subst x)
    | exact Allow.cls_S rfl
    | exact hB
    | with_reducible refine Dev.fault_keeps hB ?_
    | with_reducible refine Dev.markZone_keeps ?_
    | with_reducible refine Dev.cutFrame_keeps ?_
    | with_reducible refine Dev.putTrack_keeps ?_
    | with_reducible refine Keeps.wr ?_ ?_
    | with_reducible exact Keeps.units (by assumption)
    | split

theorem Dev.attribute_keeps {k : Allow} {d0 : Dev} {d : Dev} {s : Nat} {g : F64} {ds : F64} (h : Keeps k d0 d) : Keeps k d0 (Dev.attribute d s g ds) := by
  unfold Dev.attribute
  repeat' first
    | with_reducible assumption
    | (extract_lets +onlyGivenNames x; first | (have hx : Keeps k d0 x := ?_; clear_value x; swap; subst x; swap) | (have hx : Keeps1 k d0 x := ?_; clear_value x; swap; subst x; swap) | subst x)
    | exact Allow.cls_S rfl
    | with_reducible refine Dev.putTrack_keeps ?_
    | with_reducible exact Keeps.units (by assumption)
    | split

theorem Dev.unassigned_keeps {k : Allow} {d0 : Dev} (hB : k.b = true) {d : Dev} {g : F64} {ds : F64} {at0 : Nat × Nat} (h : Keeps k d0 d) : Keeps k d0 (Dev.unassigned d g ds at0) := by
  unfold Dev.unassigned
  repeat' first
    | with_reducible assumption
    | (extract_lets +onlyGivenNames x; first | (have hx : Keeps k d0 x := ?_; clear_value x; swap; subst x; swap) | (have hx : Keeps1 k d0 x := ?_; clear_value x; swap; subst x; swap) | subst x)
    | exact Allow.cls_S rfl
    | exact hB
    | with_reducible refine Dev.trackRecord_keeps ?_
    | with_reducible refine Dev.addProv_keeps hB ?_
    | with_reducible refine Dev.nextFree_keeps ?_
    | with_reducible exact Keeps.units (by assumption)
    | split

theorem Dev.placeMass_keeps {k : Allow} {d0 : Dev} {d : Dev} {g : Option F64} {ds : F64} (h : Keeps k d0 d) : Keeps k d0 (Dev.placeMass d g ds) := by
  unfold Dev.placeMass
  repeat' first
    | with_reducible assumption
    | (extract_lets +onlyGivenNames x; first | (have hx : Keeps k d0 x := ?_; clear_value x; swap; subst x; swap) | (have hx : Keeps1 k d0 x := ?_; clear_value x; swap; subst x; swap) | subst x)
    | exact Allow.cls_S rfl
    | with_reducible refine Dev.markZone_keeps ?_
    | with_reducible refine Dev.putTrack_keeps ?_
    | with_reducible refine Dev.attribute_keeps ?_
    | with_reducible exact Keeps.units (by assumption)
    | split

theorem Dev.beltBoundary_keeps {k : Allow} {d0 : Dev} (hN : k.n = true) (hB : k.b = true) {d : Dev} {start : Nat} {stop : Nat} (h : Keeps k d0 d) : Keeps1 k d0 (Dev.beltBoundary d start stop) := by
  unfold Dev.beltBoundary
  repeat' first
    | with_reducible assumption
    | (extract_lets +onlyGivenNames x; first | (have hx : Keeps k d0 x := ?_; clear_value x; swap; subst x; swap) | (have hx : Keeps1 k d0 x := ?_; clear_value x; swap; subst x; swap) | subst x)
    | exact Allow.cls_S rfl
    | exact hN
    | exact hB
    | with_reducible refine Dev.followHead_keeps hN hB ?_
    | with_reducible refine Dev.takeSpeed_keeps hB ?_
    | with_reducible refine Dev.nextFree_keeps ?_
    | with_reducible refine Dev.followTach_keeps ?_
    | with_reducible refine Dev.drainTach_keeps ?_
    | with_reducible exact Keeps.units (by assumption)
    | split

theorem Dev.placedPeriod_keeps {k : Allow} {d0 : Dev} (hB : k.b = true) {d : Dev} {seg : Nat} {at0 : Nat × Nat} {g : Option F64} {ds : F64} {speed : F64} (h : Keeps k d0 d) : Keeps k d0 (Dev.placedPeriod d seg at0 g ds speed) := by
  unfold Dev.placedPeriod
  repeat' first
    | with_reducible assumption
    | (extract_lets +onlyGivenNames x; first | (have hx : Keeps k d0 x := ?_; clear_value x; swap; subst x; swap) | (have hx : Keeps1 k d0 x := ?_; clear_value x; swap; subst x; swap) | subst x)
    | exact Allow.cls_S rfl
    | exact hB
    | with_reducible refine Dev.placeMass_keeps ?_
    | with_reducible refine Dev.markZone_keeps ?_
    | with_reducible refine Dev.advanceSigma_keeps hB ?_
    | with_reducible exact Keeps.units (by assumption)
    | split

theorem Dev.trackPeriod_keeps {k : Allow} {d0 : Dev} (hB : k.b = true) {d : Dev} {j : PipeJob} {g : Option F64} (h : Keeps k d0 d) : Keeps k d0 (Dev.trackPeriod d j g) := by
  unfold Dev.trackPeriod
  repeat' first
    | with_reducible assumption
    | (extract_lets +onlyGivenNames x; first | (have hx : Keeps k d0 x := ?_; clear_value x; swap; subst x; swap) | (have hx : Keeps1 k d0 x := ?_; clear_value x; swap; subst x; swap) | subst x)
    | exact Allow.cls_S rfl
    | exact hB
    | with_reducible refine Dev.unassigned_keeps hB ?_
    | with_reducible refine Dev.placedPeriod_keeps hB ?_
    | with_reducible refine Dev.markZone_keeps ?_
    | with_reducible exact Keeps.units (by assumption)
    | split

theorem Dev.learnProfile_keeps {k : Allow} {d0 : Dev} {d : Dev} (h : Keeps k d0 d) : Keeps k d0 (Dev.learnProfile d) := by
  unfold Dev.learnProfile
  repeat' first
    | with_reducible assumption
    | (extract_lets +onlyGivenNames x; first | (have hx : Keeps k d0 x := ?_; clear_value x; swap; subst x; swap) | (have hx : Keeps1 k d0 x := ?_; clear_value x; swap; subst x; swap) | subst x)
    | exact Allow.cls_S rfl
    | with_reducible refine Dev.putTrack_keeps ?_
    | with_reducible exact Keeps.units (by assumption)
    | split

theorem Dev.learnRunStart_keeps {k : Allow} {d0 : Dev} {d : Dev} (h : Keeps k d0 d) : Keeps k d0 (Dev.learnRunStart d) := by
  unfold Dev.learnRunStart
  repeat' first
    | with_reducible assumption
    | (extract_lets +onlyGivenNames x; first | (have hx : Keeps k d0 x := ?_; clear_value x; swap; subst x; swap) | (have hx : Keeps1 k d0 x := ?_; clear_value x; swap; subst x; swap) | subst x)
    | exact Allow.cls_S rfl
    | with_reducible refine Dev.putTrack_keeps ?_
    | with_reducible refine Keeps.wr ?_ ?_
    | with_reducible exact Keeps.units (by assumption)
    | split

theorem Dev.clearProv_keeps {k : Allow} {d0 : Dev} (hB : k.b = true) {d : Dev} (h : Keeps k d0 d) : Keeps k d0 (Dev.clearProv d) := by
  unfold Dev.clearProv
  repeat' first
    | with_reducible assumption
    | (extract_lets +onlyGivenNames x; first | (have hx : Keeps k d0 x := ?_; clear_value x; swap; subst x; swap) | (have hx : Keeps1 k d0 x := ?_; clear_value x; swap; subst x; swap) | subst x)
    | exact Allow.cls_S rfl
    | exact hB
    | with_reducible refine Dev.queueTot_keeps hB ?_
    | with_reducible refine Dev.log_keeps ?_
    | with_reducible exact Keeps.units (by assumption)
    | split

theorem Dev.emptyWeakMap_keeps {k : Allow} {d0 : Dev} (hN : k.n = true) {d : Dev} (h : Keeps k d0 d) : Keeps k d0 (Dev.emptyWeakMap d) := by
  unfold Dev.emptyWeakMap
  repeat' first
    | with_reducible assumption
    | (extract_lets +onlyGivenNames x; first | (have hx : Keeps k d0 x := ?_; clear_value x; swap; subst x; swap) | (have hx : Keeps1 k d0 x := ?_; clear_value x; swap; subst x; swap) | subst x)
    | exact Allow.cls_S rfl
    | exact hN
    | ((with_reducible first | refine Allow.cls_mem (by assumption) ?_ | refine Allow.cls_fst (by assumption) ?_ | refine Allow.cls_snd (by assumption) ?_); rfl)
    | with_reducible refine Dev.log_keeps ?_
    | with_reducible refine Dev.putTrack_keeps ?_
    | with_reducible refine Keeps.wr ?_ ?_
    | with_reducible refine Keeps.each ?_ (fun d x hm hd => ?_)
    | with_reducible exact Keeps.units (by assumption)
    | split

theorem Dev.reacquire_keeps {k : Allow} {d0 : Dev} {d : Dev} (h : Keeps k d0 d) : Keeps k d0 (Dev.reacquire d) := by
  unfold Dev.reacquire
  repeat' first
    | with_reducible assumption
    | (extract_lets +onlyGivenNames x; first | (have hx : Keeps k d0 x := ?_; clear_value x; swap; subst x; swap) | (have hx : Keeps1 k d0 x := ?_; clear_value x; swap; subst x; swap) | subst x)
    | exact Allow.cls_S rfl
    | with_reducible refine Dev.followTach_keeps ?_
    | with_reducible refine Dev.acquire_keeps ?_
    | with_reducible exact Keeps.units (by assumption)
    | split

theorem Dev.startTrack_keeps {k : Allow} {d0 : Dev} {d : Dev} (h : Keeps k d0 d) : Keeps k d0 (Dev.startTrack d) := by
  unfold Dev.startTrack
  repeat' first
    | with_reducible assumption
    | (extract_lets +onlyGivenNames x; first | (have hx : Keeps k d0 x := ?_; clear_value x; swap; subst x; swap) | (have hx : Keeps1 k d0 x := ?_; clear_value x; swap; subst x; swap) | subst x)
    | exact Allow.cls_S rfl
    | ((with_reducible first | refine Allow.cls_mem (by assumption) ?_ | refine Allow.cls_fst (by assumption) ?_ | refine Allow.cls_snd (by assumption) ?_); rfl)
    | with_reducible refine Dev.followTach_keeps ?_
    | with_reducible refine Dev.putTrack_keeps ?_
    | with_reducible refine Dev.acquire_keeps ?_
    | with_reducible refine Dev.markZone_keeps ?_
    | with_reducible refine Dev.failFrame_keeps ?_
    | with_reducible refine Dev.raiseEpoch_keeps ?_
    | with_reducible refine Keeps.wr ?_ ?_
    | with_reducible refine Keeps.each ?_ (fun d x hm hd => ?_)
    | with_reducible exact Keeps.units (by assumption)
    | split

theorem Dev.restoreTrack_keeps {k : Allow} {d0 : Dev} (hN : k.n = true) {d : Dev} (h : Keeps k d0 d) : Keeps k d0 (Dev.restoreTrack d) := by
  unfold Dev.restoreTrack
  repeat' first
    | with_reducible assumption
    | (extract_lets +onlyGivenNames x; first | (have hx : Keeps k d0 x := ?_; clear_value x; swap; subst x; swap) | (have hx : Keeps1 k d0 x := ?_; clear_value x; swap; subst x; swap) | subst x)
    | exact Allow.cls_S rfl
    | exact hN
    | ((with_reducible first | refine Allow.cls_mem (by assumption) ?_ | refine Allow.cls_fst (by assumption) ?_ | refine Allow.cls_snd (by assumption) ?_); rfl)
    | with_reducible refine Dev.putTrack_keeps ?_
    | with_reducible refine Keeps.wr ?_ ?_
    | with_reducible refine Keeps.each ?_ (fun d x hm hd => ?_)
    | with_reducible refine Keeps.foldl ?_ (fun d x hm hd => ?_)
    | with_reducible refine Keeps.foldl1 ?_ (fun d x hm hd => ?_)
    | with_reducible exact Keeps.units (by assumption)
    | split

theorem Dev.voiceBegins_keeps {k : Allow} {d0 : Dev} {n : Nat} {d : Dev} (h : Keeps k d0 d) : Keeps k d0 (Dev.voiceBegins n d) := by
  unfold Dev.voiceBegins
  repeat' first
    | with_reducible assumption
    | (extract_lets +onlyGivenNames x; first | (have hx : Keeps k d0 x := ?_; clear_value x; swap; subst x; swap) | (have hx : Keeps1 k d0 x := ?_; clear_value x; swap; subst x; swap) | subst x)
    | exact Allow.cls_S rfl
    | with_reducible refine Dev.followTach_keeps ?_
    | with_reducible refine Dev.voiceStart_keeps ?_
    | with_reducible exact Keeps.units (by assumption)
    | split

theorem Dev.putPort_keeps {k : Allow} {d0 : Dev} {d : Dev} {p : Nat} {x0 : PortSt} (h : Keeps k d0 d) : Keeps k d0 (Dev.putPort d p x0) := by
  unfold Dev.putPort
  repeat' first
    | with_reducible assumption
    | (extract_lets +onlyGivenNames x; first | (have hx : Keeps k d0 x := ?_; clear_value x; swap; subst x; swap) | (have hx : Keeps1 k d0 x := ?_; clear_value x; swap; subst x; swap) | subst x)
    | exact Allow.cls_S rfl
    | with_reducible refine Keeps.wr ?_ ?_
    | with_reducible exact Keeps.units (by assumption)
    | split

theorem Dev.putChoir_keeps {k : Allow} {d0 : Dev} {d : Dev} {c : ChoirSt} (h : Keeps k d0 d) : Keeps k d0 (Dev.putChoir d c) := by
  unfold Dev.putChoir
  repeat' first
    | with_reducible assumption
    | (extract_lets +onlyGivenNames x; first | (have hx : Keeps k d0 x := ?_; clear_value x; swap; subst x; swap) | (have hx : Keeps1 k d0 x := ?_; clear_value x; swap; subst x; swap) | subst x)
    | exact Allow.cls_S rfl
    | with_reducible exact Keeps.units (by assumption)
    | split

theorem Dev.startTx_keeps {k : Allow} {d0 : Dev} {d : Dev} {p : Nat} {hops : Nat} {body : List Nat} (h : Keeps k d0 d) : Keeps k d0 (Dev.startTx d p hops body) := by
  unfold Dev.startTx
  repeat' first
    | with_reducible assumption
    | (extract_lets +onlyGivenNames x; first | (have hx : Keeps k d0 x := ?_; clear_value x; swap; subst x; swap) | (have hx : Keeps1 k d0 x := ?_; clear_value x; swap; subst x; swap) | subst x)
    | exact Allow.cls_S rfl
    | with_reducible refine Dev.putPort_keeps ?_
    | with_reducible refine Keeps.inc ?_ ?_
    | with_reducible exact Keeps.units (by assumption)
    | split

theorem Dev.flushPort_keeps {k : Allow} {d0 : Dev} {p : Nat} {l : List (Nat × List Nat)} {d : Dev} (h : Keeps k d0 d) :
    Keeps k d0 (Dev.flushPort p l d) := by
  induction l generalizing d with
  | nil => exact h
  | cons w ws ih =>
    unfold Dev.flushPort
    split
    · refine ih ?_
      repeat' first
        | with_reducible assumption
        | with_reducible refine Dev.putPort_keeps ?_
        | with_reducible refine Dev.startTx_keeps ?_
    · exact h

theorem Dev.queueTx_keeps {k : Allow} {d0 : Dev} {d : Dev} {p : Nat} {hops : Nat} {body : List Nat} (h : Keeps k d0 d) : Keeps k d0 (Dev.queueTx d p hops body) := by
  unfold Dev.queueTx
  repeat' first
    | with_reducible assumption
    | (extract_lets +onlyGivenNames x; first | (have hx : Keeps k d0 x := ?_; clear_value x; swap; subst x; swap) | (have hx : Keeps1 k d0 x := ?_; clear_value x; swap; subst x; swap) | subst x)
    | exact Allow.cls_S rfl
    | with_reducible refine Dev.putPort_keeps ?_
    | with_reducible refine Dev.flushPort_keeps ?_
    | with_reducible exact Keeps.units (by assumption)
    | split

theorem Dev.newMessage_keeps {k : Allow} {d0 : Dev} {d : Dev} {type : Nat} {dst : Nat} {bcast : Bool} {payload : List Nat} (h : Keeps k d0 d) : Keeps1 k d0 (Dev.newMessage d type dst bcast payload) := by
  unfold Dev.newMessage
  repeat' first
    | with_reducible assumption
    | (extract_lets +onlyGivenNames x; first | (have hx : Keeps k d0 x := ?_; clear_value x; swap; subst x; swap) | (have hx : Keeps1 k d0 x := ?_; clear_value x; swap; subst x; swap) | subst x)
    | exact Allow.cls_S rfl
    | with_reducible refine Dev.putChoir_keeps ?_
    | with_reducible exact Keeps.units (by assumption)
    | split

theorem Dev.send_keeps {k : Allow} {d0 : Dev} {d : Dev} {type : Nat} {dst : Nat} {bcast : Bool} {payload : List Nat} (h : Keeps k d0 d) : Keeps k d0 (Dev.send d type dst bcast payload) := by
  unfold Dev.send
  repeat' first
    | with_reducible assumption
    | (extract_lets +onlyGivenNames x; first | (have hx : Keeps k d0 x := ?_; clear_value x; swap; subst x; swap) | (have hx : Keeps1 k d0 x := ?_; clear_value x; swap; subst x; swap) | subst x)
    | exact Allow.cls_S rfl
    | ((with_reducible first | refine Allow.cls_mem (by assumption) ?_ | refine Allow.cls_fst (by assumption) ?_ | refine Allow.cls_snd (by assumption) ?_); rfl)
    | with_reducible refine Dev.queueTx_keeps ?_
    | with_reducible refine Dev.offer_keeps ?_
    | with_reducible refine Dev.newMessage_keeps ?_
    | with_reducible refine Keeps.each ?_ (fun d x hm hd => ?_)
    | with_reducible exact Keeps.units (by assumption)
    | split

theorem Dev.sendCmd_keeps {k : Allow} {d0 : Dev} {d : Dev} {dst : Nat} {kind : Nat} {arg : Nat} {opseq : Nat} {pseq : Nat} {hash : Nat} (h : Keeps k d0 d) : Keeps k d0 (Dev.sendCmd d dst kind arg opseq pseq hash) := by
  unfold Dev.sendCmd
  repeat' first
    | with_reducible assumption
    | (extract_lets +onlyGivenNames x; first | (have hx : Keeps k d0 x := ?_; clear_value x; swap; subst x; swap) | (have hx : Keeps1 k d0 x := ?_; clear_value x; swap; subst x; swap) | subst x)
    | exact Allow.cls_S rfl
    | with_reducible refine Dev.send_keeps ?_
    | with_reducible exact Keeps.units (by assumption)
    | split

theorem Dev.sendCmdAll_keeps {k : Allow} {d0 : Dev} {d : Dev} {kind : Nat} {arg : Nat} {pseq : Nat} {hash : Nat} (h : Keeps k d0 d) : Keeps k d0 (Dev.sendCmdAll d kind arg pseq hash) := by
  unfold Dev.sendCmdAll
  repeat' first
    | with_reducible assumption
    | (extract_lets +onlyGivenNames x; first | (have hx : Keeps k d0 x := ?_; clear_value x; swap; subst x; swap) | (have hx : Keeps1 k d0 x := ?_; clear_value x; swap; subst x; swap) | subst x)
    | exact Allow.cls_S rfl
    | with_reducible refine Dev.send_keeps ?_
    | with_reducible exact Keeps.units (by assumption)
    | split

theorem Dev.retrain_keeps {k : Allow} {d0 : Dev} {d : Dev} {p : Nat} (h : Keeps k d0 d) : Keeps k d0 (Dev.retrain d p) := by
  unfold Dev.retrain
  repeat' first
    | with_reducible assumption
    | (extract_lets +onlyGivenNames x; first | (have hx : Keeps k d0 x := ?_; clear_value x; swap; subst x; swap) | (have hx : Keeps1 k d0 x := ?_; clear_value x; swap; subst x; swap) | subst x)
    | exact Allow.cls_S rfl
    | ((with_reducible first | refine Allow.cls_mem (by assumption) ?_ | refine Allow.cls_fst (by assumption) ?_ | refine Allow.cls_snd (by assumption) ?_); rfl)
    | ((with_reducible refine Allow.cls_S ?_); first | exact laneState_cls _ _ | exact laneFails_cls _ _ | exact laneErrors_cls _ _ | exact slotFld_cls _)
    | with_reducible refine Dev.raiseEpoch_keeps ?_
    | with_reducible refine Dev.showPort_keeps ?_
    | with_reducible refine Dev.putPort_keeps ?_
    | with_reducible refine Keeps.wr ?_ ?_
    | with_reducible refine Keeps.inc ?_ ?_
    | with_reducible refine Keeps.each ?_ (fun d x hm hd => ?_)
    | with_reducible exact Keeps.units (by assumption)
    | split

theorem Dev.putPipe_keeps {k : Allow} {d0 : Dev} {d : Dev} {p : Pipe} (h : Keeps k d0 d) : Keeps k d0 (Dev.putPipe d p) := by
  unfold Dev.putPipe
  repeat' first
    | with_reducible assumption
    | (extract_lets +onlyGivenNames x; first | (have hx : Keeps k d0 x := ?_; clear_value x; swap; subst x; swap) | (have hx : Keeps1 k d0 x := ?_; clear_value x; swap; subst x; swap) | subst x)
    | exact Allow.cls_S rfl
    | with_reducible exact Keeps.units (by assumption)
    | split

theorem Dev.wrF_keeps {k : Allow} {d0 : Dev} {d : Dev} {f : Fld} {x : F64} (hf : k.cls f.cls = true) (h : Keeps k d0 d) :
    Keeps k d0 (Dev.wrF d f x) := Keeps.wr hf h

theorem Dev.sumFaults_keeps {k : Allow} {d0 : Dev} (hB : k.b = true) {d : Dev} {j : PipeJob} (h : Keeps k d0 d) : Keeps k d0 (Dev.sumFaults d j) := by
  unfold Dev.sumFaults
  repeat' first
    | with_reducible assumption
    | (extract_lets +onlyGivenNames x; first | (have hx : Keeps k d0 x := ?_; clear_value x; swap; subst x; swap) | (have hx : Keeps1 k d0 x := ?_; clear_value x; swap; subst x; swap) | subst x)
    | exact Allow.cls_S rfl
    | exact hB
    | ((with_reducible first | refine Allow.cls_mem (by assumption) ?_ | refine Allow.cls_fst (by assumption) ?_ | refine Allow.cls_snd (by assumption) ?_); rfl)
    | with_reducible refine Dev.fault_keeps hB ?_
    | with_reducible refine Keeps.each ?_ (fun d x hm hd => ?_)
    | with_reducible exact Keeps.units (by assumption)
    | split

theorem Dev.openJob_keeps {k : Allow} {d0 : Dev} {d : Dev} {start : Nat} {stop : Nat} {pseq : Nat} {res : Tab PairRes} {extra : Nat} {stale : Bool} {b : BeltEnd} (h : Keeps k d0 d) : Keeps k d0 (Dev.openJob d start stop pseq res extra stale b) := by
  unfold Dev.openJob
  repeat' first
    | with_reducible assumption
    | (extract_lets +onlyGivenNames x; first | (have hx : Keeps k d0 x := ?_; clear_value x; swap; subst x; swap) | (have hx : Keeps1 k d0 x := ?_; clear_value x; swap; subst x; swap) | subst x)
    | exact Allow.cls_S rfl
    | with_reducible refine Dev.nextFree_keeps ?_
    | with_reducible refine Dev.putPipe_keeps ?_
    | with_reducible exact Keeps.units (by assumption)
    | split

theorem Dev.feed_keeps {k : Allow} {d0 : Dev} {d : Dev} {s : F64} (h : Keeps k d0 d) : Keeps k d0 (Dev.feed d s) := by
  unfold Dev.feed
  repeat' first
    | with_reducible assumption
    | (extract_lets +onlyGivenNames x; first | (have hx : Keeps k d0 x := ?_; clear_value x; swap; subst x; swap) | (have hx : Keeps1 k d0 x := ?_; clear_value x; swap; subst x; swap) | subst x)
    | exact Allow.cls_S rfl
    | with_reducible refine Dev.putPipe_keeps ?_
    | with_reducible refine Keeps.wr ?_ ?_
    | with_reducible exact Keeps.units (by assumption)
    | split

theorem Dev.filter_keeps {k : Allow} {d0 : Dev} {d : Dev} (h : Keeps k d0 d) : Keeps1 k d0 (Dev.filter d) := by
  unfold Dev.filter
  repeat' first
    | with_reducible assumption
    | (extract_lets +onlyGivenNames x; first | (have hx : Keeps k d0 x := ?_; clear_value x; swap; subst x; swap) | (have hx : Keeps1 k d0 x := ?_; clear_value x; swap; subst x; swap) | subst x)
    | exact Allow.cls_S rfl
    | with_reducible refine Dev.putPipe_keeps ?_
    | with_reducible exact Keeps.units (by assumption)
    | split

theorem Dev.detectMotion_keeps {k : Allow} {d0 : Dev} {d : Dev} {f : F64} (h : Keeps k d0 d) : Keeps1 k d0 (Dev.detectMotion d f) := by
  unfold Dev.detectMotion
  repeat' first
    | with_reducible assumption
    | (extract_lets +onlyGivenNames x; first | (have hx : Keeps k d0 x := ?_; clear_value x; swap; subst x; swap) | (have hx : Keeps1 k d0 x := ?_; clear_value x; swap; subst x; swap) | subst x)
    | exact Allow.cls_S rfl
    | with_reducible refine Dev.putPipe_keeps ?_
    | with_reducible refine Keeps.wr ?_ ?_
    | with_reducible exact Keeps.units (by assumption)
    | split

theorem Dev.tryInitZero_keeps {k : Allow} {d0 : Dev} (hB : k.b = true) {d : Dev} {f : F64} {stable : Bool} (h : Keeps k d0 d) : Keeps k d0 (Dev.tryInitZero d f stable) := by
  unfold Dev.tryInitZero
  repeat' first
    | with_reducible assumption
    | (extract_lets +onlyGivenNames x; first | (have hx : Keeps k d0 x := ?_; clear_value x; swap; subst x; swap) | (have hx : Keeps1 k d0 x := ?_; clear_value x; swap; subst x; swap) | subst x)
    | exact Allow.cls_S rfl
    | exact hB
    | with_reducible refine Dev.fault_keeps hB ?_
    | with_reducible refine Dev.putPipe_keeps ?_
    | with_reducible refine Keeps.wr ?_ ?_
    | with_reducible exact Keeps.units (by assumption)
    | split

theorem Dev.reportCmd_keeps {k : Allow} {d0 : Dev} {d : Dev} {j : PipeJob} {code : Nat} (h : Keeps k d0 d) : Keeps k d0 (Dev.reportCmd d j code) := by
  unfold Dev.reportCmd
  repeat' first
    | with_reducible assumption
    | (extract_lets +onlyGivenNames x; first | (have hx : Keeps k d0 x := ?_; clear_value x; swap; subst x; swap) | (have hx : Keeps1 k d0 x := ?_; clear_value x; swap; subst x; swap) | subst x)
    | exact Allow.cls_S rfl
    | with_reducible refine Dev.notify_keeps ?_
    | with_reducible refine Dev.putChoir_keeps ?_
    | with_reducible refine Keeps.wr ?_ ?_
    | with_reducible exact Keeps.units (by assumption)
    | split

theorem Dev.setpoint_keeps {k : Allow} {d0 : Dev} {d : Dev} {i : Nat} {g : Int} {w : Int} {forced : Bool} {stable : Bool} (h : Keeps k d0 d) : Keeps k d0 (Dev.setpoint d i g w forced stable) := by
  unfold Dev.setpoint
  repeat' first
    | with_reducible assumption
    | (extract_lets +onlyGivenNames x; first | (have hx : Keeps k d0 x := ?_; clear_value x; swap; subst x; swap) | (have hx : Keeps1 k d0 x := ?_; clear_value x; swap; subst x; swap) | subst x)
    | exact Allow.cls_S rfl
    | with_reducible refine Dev.spPin_keeps ?_
    | with_reducible refine Dev.spForce_keeps ?_
    | with_reducible refine Keeps.wr ?_ ?_
    | with_reducible exact Keeps.units (by assumption)
    | split

theorem Dev.clearTareNow_keeps {k : Allow} {d0 : Dev} {d : Dev} (h : Keeps k d0 d) : Keeps k d0 (Dev.clearTareNow d) := by
  unfold Dev.clearTareNow
  repeat' first
    | with_reducible assumption
    | (extract_lets +onlyGivenNames x; first | (have hx : Keeps k d0 x := ?_; clear_value x; swap; subst x; swap) | (have hx : Keeps1 k d0 x := ?_; clear_value x; swap; subst x; swap) | subst x)
    | exact Allow.cls_S rfl
    | with_reducible refine Dev.putPipe_keeps ?_
    | with_reducible refine Keeps.wr ?_ ?_
    | with_reducible exact Keeps.units (by assumption)
    | split

theorem Dev.clearMotion_keeps {k : Allow} {d0 : Dev} {d : Dev} (h : Keeps k d0 d) : Keeps k d0 (Dev.clearMotion d) := by
  unfold Dev.clearMotion
  repeat' first
    | with_reducible assumption
    | (extract_lets +onlyGivenNames x; first | (have hx : Keeps k d0 x := ?_; clear_value x; swap; subst x; swap) | (have hx : Keeps1 k d0 x := ?_; clear_value x; swap; subst x; swap) | subst x)
    | exact Allow.cls_S rfl
    | with_reducible refine Dev.putPipe_keeps ?_
    | with_reducible refine Keeps.wr ?_ ?_
    | with_reducible exact Keeps.units (by assumption)
    | split

theorem Dev.showDiag_keeps {k : Allow} {d0 : Dev} {d : Dev} {s : F64} {f : F64} {g : F64} {vs : List F64} (h : Keeps k d0 d) : Keeps k d0 (Dev.showDiag d s f g vs) := by
  unfold Dev.showDiag
  repeat' first
    | with_reducible assumption
    | (extract_lets +onlyGivenNames x; first | (have hx : Keeps k d0 x := ?_; clear_value x; swap; subst x; swap) | (have hx : Keeps1 k d0 x := ?_; clear_value x; swap; subst x; swap) | subst x)
    | exact Allow.cls_S rfl
    | ((with_reducible first | refine Allow.cls_mem (by assumption) ?_ | refine Allow.cls_fst (by assumption) ?_ | refine Allow.cls_snd (by assumption) ?_); rfl)
    | with_reducible refine Dev.wrF_keeps ?_ ?_
    | with_reducible refine Keeps.wr ?_ ?_
    | with_reducible refine Keeps.each ?_ (fun d x hm hd => ?_)
    | with_reducible exact Keeps.units (by assumption)
    | split

theorem Dev.commitBad_keeps {k : Allow} {d0 : Dev} {d : Dev} {j : PipeJob} {cause : Nat} {reason : Nat} {rest : Bool} (h : Keeps k d0 d) : Keeps k d0 (Dev.commitBad d j cause reason rest) := by
  unfold Dev.commitBad
  repeat' first
    | with_reducible assumption
    | (extract_lets +onlyGivenNames x; first | (have hx : Keeps k d0 x := ?_; clear_value x; swap; subst x; swap) | (have hx : Keeps1 k d0 x := ?_; clear_value x; swap; subst x; swap) | subst x)
    | exact Allow.cls_S rfl
    | with_reducible refine Dev.offer_keeps ?_
    | with_reducible refine Dev.reportCmd_keeps ?_
    | with_reducible refine Dev.countCommit_keeps ?_
    | with_reducible refine Dev.spForceAll_keeps ?_
    | with_reducible refine Dev.showError_keeps ?_
    | with_reducible refine Dev.clearMotion_keeps ?_
    | with_reducible refine Dev.wrF_keeps ?_ ?_
    | with_reducible refine Dev.clearTareNow_keeps ?_
    | with_reducible refine Keeps.wr ?_ ?_
    | with_reducible exact Keeps.units (by assumption)
    | split

theorem Dev.commitRest_keeps {k : Allow} {d0 : Dev} (hB : k.b = true) {d : Dev} {j : PipeJob} {reason : Nat} (h : Keeps k d0 d) : Keeps k d0 (Dev.commitRest d j reason) := by
  unfold Dev.commitRest
  repeat' first
    | with_reducible assumption
    | (extract_lets +onlyGivenNames x; first | (have hx : Keeps k d0 x := ?_; clear_value x; swap; subst x; swap) | (have hx : Keeps1 k d0 x := ?_; clear_value x; swap; subst x; swap) | subst x)
    | exact Allow.cls_S rfl
    | exact hB
    | with_reducible refine Dev.offer_keeps ?_
    | with_reducible refine Dev.reportCmd_keeps ?_
    | with_reducible refine Dev.countCommit_keeps ?_
    | with_reducible refine Dev.spForceAll_keeps ?_
    | with_reducible refine Dev.fault_keeps hB ?_
    | with_reducible refine Dev.showError_keeps ?_
    | with_reducible refine Dev.restartFilters_keeps ?_
    | with_reducible refine Dev.putPipe_keeps ?_
    | with_reducible refine Dev.clearMotion_keeps ?_
    | with_reducible refine Keeps.wr ?_ ?_
    | with_reducible refine Keeps.inc ?_ ?_
    | with_reducible exact Keeps.units (by assumption)
    | split

theorem Dev.setZero_keeps {k : Allow} {d0 : Dev} {d : Dev} {f : F64} (h : Keeps k d0 d) : Keeps k d0 (Dev.setZero d f) := by
  unfold Dev.setZero
  repeat' first
    | with_reducible assumption
    | (extract_lets +onlyGivenNames x; first | (have hx : Keeps k d0 x := ?_; clear_value x; swap; subst x; swap) | (have hx : Keeps1 k d0 x := ?_; clear_value x; swap; subst x; swap) | subst x)
    | exact Allow.cls_S rfl
    | with_reducible refine Dev.putPipe_keeps ?_
    | with_reducible refine Keeps.wr ?_ ?_
    | with_reducible exact Keeps.units (by assumption)
    | split

theorem Dev.setTare_keeps {k : Allow} {d0 : Dev} {d : Dev} {g : F64} {r : Nat} (h : Keeps k d0 d) : Keeps k d0 (Dev.setTare d g r) := by
  unfold Dev.setTare
  repeat' first
    | with_reducible assumption
    | (extract_lets +onlyGivenNames x; first | (have hx : Keeps k d0 x := ?_; clear_value x; swap; subst x; swap) | (have hx : Keeps1 k d0 x := ?_; clear_value x; swap; subst x; swap) | subst x)
    | exact Allow.cls_S rfl
    | with_reducible refine Dev.putPipe_keeps ?_
    | with_reducible refine Keeps.wr ?_ ?_
    | with_reducible exact Keeps.units (by assumption)
    | split

theorem Dev.takeRange_keeps {k : Allow} {d0 : Dev} {d : Dev} {r : Nat} (h : Keeps k d0 d) : Keeps k d0 (Dev.takeRange d r) := by
  unfold Dev.takeRange
  repeat' first
    | with_reducible assumption
    | (extract_lets +onlyGivenNames x; first | (have hx : Keeps k d0 x := ?_; clear_value x; swap; subst x; swap) | (have hx : Keeps1 k d0 x := ?_; clear_value x; swap; subst x; swap) | subst x)
    | exact Allow.cls_S rfl
    | with_reducible refine Keeps.wr ?_ ?_
    | with_reducible exact Keeps.units (by assumption)
    | split

theorem Dev.trackZero_keeps {k : Allow} {d0 : Dev} (hB : k.b = true) {d : Dev} {g : F64} (h : Keeps k d0 d) : Keeps1 k d0 (Dev.trackZero d g) := by
  unfold Dev.trackZero
  repeat' first
    | with_reducible assumption
    | (extract_lets +onlyGivenNames x; first | (have hx : Keeps k d0 x := ?_; clear_value x; swap; subst x; swap) | (have hx : Keeps1 k d0 x := ?_; clear_value x; swap; subst x; swap) | subst x)
    | exact Allow.cls_S rfl
    | exact hB
    | with_reducible refine Dev.fault_keeps hB ?_
    | with_reducible refine Dev.putPipe_keeps ?_
    | with_reducible refine Keeps.wr ?_ ?_
    | with_reducible exact Keeps.units (by assumption)
    | split

theorem Dev.rearmPrint_keeps {k : Allow} {d0 : Dev} {d : Dev} {weight : Nat} (h : Keeps k d0 d) : Keeps k d0 (Dev.rearmPrint d weight) := by
  unfold Dev.rearmPrint
  repeat' first
    | with_reducible assumption
    | (extract_lets +onlyGivenNames x; first | (have hx : Keeps k d0 x := ?_; clear_value x; swap; subst x; swap) | (have hx : Keeps1 k d0 x := ?_; clear_value x; swap; subst x; swap) | subst x)
    | exact Allow.cls_S rfl
    | with_reducible refine Keeps.wr ?_ ?_
    | with_reducible exact Keeps.units (by assumption)
    | split

theorem Dev.acceptPrint_keeps {k : Allow} {d0 : Dev} (hB : k.b = true) {d : Dev} {j : PipeJob} {weight : Nat} (h : Keeps k d0 d) : Keeps k d0 (Dev.acceptPrint d j weight) := by
  unfold Dev.acceptPrint
  repeat' first
    | with_reducible assumption
    | (extract_lets +onlyGivenNames x; first | (have hx : Keeps k d0 x := ?_; clear_value x; swap; subst x; swap) | (have hx : Keeps1 k d0 x := ?_; clear_value x; swap; subst x; swap) | subst x)
    | exact Allow.cls_S rfl
    | exact hB
    | with_reducible refine Dev.queueTot_keeps hB ?_
    | with_reducible refine Dev.offer_keeps ?_
    | with_reducible refine Dev.putPipe_keeps ?_
    | with_reducible refine Keeps.wr ?_ ?_
    | with_reducible exact Keeps.units (by assumption)
    | split

theorem Dev.showResult_keeps {k : Allow} {d0 : Dev} {d : Dev} {x0 : Shown} {stable : Bool} (h : Keeps k d0 d) : Keeps k d0 (Dev.showResult d x0 stable) := by
  unfold Dev.showResult
  repeat' first
    | with_reducible assumption
    | (extract_lets +onlyGivenNames x; first | (have hx : Keeps k d0 x := ?_; clear_value x; swap; subst x; swap) | (have hx : Keeps1 k d0 x := ?_; clear_value x; swap; subst x; swap) | subst x)
    | exact Allow.cls_S rfl
    | with_reducible refine Keeps.wr ?_ ?_
    | with_reducible exact Keeps.units (by assumption)
    | split

theorem Dev.doZero_keeps {k : Allow} {d0 : Dev} {d : Dev} {j : PipeJob} {f : F64} {stable : Bool} (h : Keeps k d0 d) : Keeps1 k d0 (Dev.doZero d j f stable) := by
  unfold Dev.doZero
  repeat' first
    | with_reducible assumption
    | (extract_lets +onlyGivenNames x; first | (have hx : Keeps k d0 x := ?_; clear_value x; swap; subst x; swap) | (have hx : Keeps1 k d0 x := ?_; clear_value x; swap; subst x; swap) | subst x)
    | exact Allow.cls_S rfl
    | with_reducible refine Dev.setZero_keeps ?_
    | with_reducible exact Keeps.units (by assumption)
    | split

theorem Dev.doTare_keeps {k : Allow} {d0 : Dev} {d : Dev} {j : PipeJob} {g : F64} {r : Nat} {stable : Bool} (h : Keeps k d0 d) : Keeps1 k d0 (Dev.doTare d j g r stable) := by
  unfold Dev.doTare
  repeat' first
    | with_reducible assumption
    | (extract_lets +onlyGivenNames x; first | (have hx : Keeps k d0 x := ?_; clear_value x; swap; subst x; swap) | (have hx : Keeps1 k d0 x := ?_; clear_value x; swap; subst x; swap) | subst x)
    | exact Allow.cls_S rfl
    | with_reducible refine Dev.clearTareNow_keeps ?_
    | with_reducible refine Dev.setTare_keeps ?_
    | with_reducible exact Keeps.units (by assumption)
    | split

theorem Dev.commitGood_keeps {k : Allow} {d0 : Dev} (hB : k.b = true) {d : Dev} {j : PipeJob} {s : F64} {f : F64} {stable : Bool} (h : Keeps k d0 d) : Keeps1 k d0 (Dev.commitGood d j s f stable) := by
  unfold Dev.commitGood
  repeat' first
    | with_reducible assumption
    | (extract_lets +onlyGivenNames x; first | (have hx : Keeps k d0 x := ?_; clear_value x; swap; subst x; swap) | (have hx : Keeps1 k d0 x := ?_; clear_value x; swap; subst x; swap) | subst x)
    | exact Allow.cls_S rfl
    | exact hB
    | ((with_reducible first | refine Allow.cls_mem (by assumption) ?_ | refine Allow.cls_fst (by assumption) ?_ | refine Allow.cls_snd (by assumption) ?_); rfl)
    | with_reducible refine Dev.acceptPrint_keeps hB ?_
    | with_reducible refine Dev.offer_keeps ?_
    | with_reducible refine Dev.reportCmd_keeps ?_
    | with_reducible refine Dev.countCommit_keeps ?_
    | with_reducible refine Dev.setpoint_keeps ?_
    | with_reducible refine Dev.trackZero_keeps hB ?_
    | with_reducible refine Dev.rearmPrint_keeps ?_
    | with_reducible refine Dev.showDiag_keeps ?_
    | with_reducible refine Dev.showResult_keeps ?_
    | with_reducible refine Dev.doTare_keeps ?_
    | with_reducible refine Dev.takeRange_keeps ?_
    | with_reducible refine Dev.doZero_keeps ?_
    | with_reducible refine Keeps.wr ?_ ?_
    | with_reducible refine Keeps.each ?_ (fun d x hm hd => ?_)
    | with_reducible exact Keeps.units (by assumption)
    | split

theorem Dev.noteRetired_keeps {k : Allow} {d0 : Dev} (hB : k.b = true) {d : Dev} {on : Bool} (h : Keeps k d0 d) : Keeps k d0 (Dev.noteRetired d on) := by
  unfold Dev.noteRetired
  repeat' first
    | with_reducible assumption
    | (extract_lets +onlyGivenNames x; first | (have hx : Keeps k d0 x := ?_; clear_value x; swap; subst x; swap) | (have hx : Keeps1 k d0 x := ?_; clear_value x; swap; subst x; swap) | subst x)
    | exact Allow.cls_S rfl
    | exact hB
    | with_reducible refine Dev.fault_keeps hB ?_
    | with_reducible refine Dev.putPipe_keeps ?_
    | with_reducible exact Keeps.units (by assumption)
    | split

theorem Dev.commitSevere_keeps {k : Allow} {d0 : Dev} {d : Dev} {j : PipeJob} {cause : Nat} {reason : Nat} {rest : Bool} (h : Keeps k d0 d) : Keeps k d0 (Dev.commitSevere d j cause reason rest) := by
  unfold Dev.commitSevere
  repeat' first
    | with_reducible assumption
    | (extract_lets +onlyGivenNames x; first | (have hx : Keeps k d0 x := ?_; clear_value x; swap; subst x; swap) | (have hx : Keeps1 k d0 x := ?_; clear_value x; swap; subst x; swap) | subst x)
    | exact Allow.cls_S rfl
    | with_reducible refine Dev.commitBad_keeps ?_
    | with_reducible refine Dev.restartFilters_keeps ?_
    | with_reducible refine Dev.putPipe_keeps ?_
    | with_reducible exact Keeps.units (by assumption)
    | split

theorem Dev.commitArith_keeps {k : Allow} {d0 : Dev} (hB : k.b = true) {d : Dev} {j : PipeJob} (h : Keeps k d0 d) : Keeps k d0 (Dev.commitArith d j) := by
  unfold Dev.commitArith
  repeat' first
    | with_reducible assumption
    | (extract_lets +onlyGivenNames x; first | (have hx : Keeps k d0 x := ?_; clear_value x; swap; subst x; swap) | (have hx : Keeps1 k d0 x := ?_; clear_value x; swap; subst x; swap) | subst x)
    | exact Allow.cls_S rfl
    | exact hB
    | with_reducible refine Dev.commitSevere_keeps ?_
    | with_reducible refine Dev.fault_keeps hB ?_
    | with_reducible exact Keeps.units (by assumption)
    | split

theorem Dev.commitSum_keeps {k : Allow} {d0 : Dev} (hB : k.b = true) {d : Dev} {j : PipeJob} {s : F64} (h : Keeps k d0 d) : Keeps1 k d0 (Dev.commitSum d j s) := by
  unfold Dev.commitSum
  repeat' first
    | with_reducible assumption
    | (extract_lets +onlyGivenNames x; first | (have hx : Keeps k d0 x := ?_; clear_value x; swap; subst x; swap) | (have hx : Keeps1 k d0 x := ?_; clear_value x; swap; subst x; swap) | subst x)
    | exact Allow.cls_S rfl
    | exact hB
    | with_reducible refine Dev.commitGood_keeps hB ?_
    | with_reducible refine Dev.tryInitZero_keeps hB ?_
    | with_reducible refine Dev.detectMotion_keeps ?_
    | with_reducible refine Dev.commitArith_keeps hB ?_
    | with_reducible refine Dev.showDiag_keeps ?_
    | with_reducible refine Dev.filter_keeps ?_
    | with_reducible refine Dev.commitBad_keeps ?_
    | with_reducible refine Dev.feed_keeps ?_
    | with_reducible refine Dev.putPipe_keeps ?_
    | with_reducible exact Keeps.units (by assumption)
    | split

theorem Dev.infiniteSum_keeps {k : Allow} {d0 : Dev} (hB : k.b = true) {d : Dev} {j : PipeJob} {s : SumVal} (h : Keeps k d0 d) : Keeps k d0 (Dev.infiniteSum d j s) := by
  unfold Dev.infiniteSum
  repeat' first
    | with_reducible assumption
    | (extract_lets +onlyGivenNames x; first | (have hx : Keeps k d0 x := ?_; clear_value x; swap; subst x; swap) | (have hx : Keeps1 k d0 x := ?_; clear_value x; swap; subst x; swap) | subst x)
    | exact Allow.cls_S rfl
    | exact hB
    | with_reducible refine Dev.fault_keeps hB ?_
    | with_reducible exact Keeps.units (by assumption)
    | split

theorem Dev.commitJob_keeps {k : Allow} {d0 : Dev} (hB : k.b = true) {d : Dev} {j : PipeJob} {s : SumVal} (h : Keeps k d0 d) : Keeps1 k d0 (Dev.commitJob d j s) := by
  unfold Dev.commitJob
  repeat' first
    | with_reducible assumption
    | (extract_lets +onlyGivenNames x; first | (have hx : Keeps k d0 x := ?_; clear_value x; swap; subst x; swap) | (have hx : Keeps1 k d0 x := ?_; clear_value x; swap; subst x; swap) | subst x)
    | exact Allow.cls_S rfl
    | exact hB
    | with_reducible refine Dev.commitRest_keeps hB ?_
    | with_reducible refine Dev.commitSum_keeps hB ?_
    | with_reducible refine Dev.commitBad_keeps ?_
    | with_reducible refine Dev.commitSevere_keeps ?_
    | with_reducible refine Dev.putPipe_keeps ?_
    | with_reducible refine Dev.showDiag_keeps ?_
    | with_reducible refine Dev.infiniteSum_keeps hB ?_
    | with_reducible refine Dev.noteRetired_keeps hB ?_
    | with_reducible exact Keeps.units (by assumption)
    | split

theorem Dev.takeRealign_keeps {k : Allow} {d0 : Dev} {d : Dev} {b : List Nat} (h : Keeps k d0 d) : Keeps k d0 (Dev.takeRealign d b) := by
  unfold Dev.takeRealign
  repeat' first
    | with_reducible assumption
    | (extract_lets +onlyGivenNames x; first | (have hx : Keeps k d0 x := ?_; clear_value x; swap; subst x; swap) | (have hx : Keeps1 k d0 x := ?_; clear_value x; swap; subst x; swap) | subst x)
    | exact Allow.cls_S rfl
    | with_reducible refine Dev.restartFilters_keeps ?_
    | with_reducible refine Dev.putChoir_keeps ?_
    | with_reducible refine Dev.putPipe_keeps ?_
    | with_reducible refine Keeps.wr ?_ ?_
    | with_reducible exact Keeps.units (by assumption)
    | split

theorem Dev.compareDigest_keeps {k : Allow} {d0 : Dev} (hB : k.b = true) {d : Dev} {j : PipeJob} {s : SumVal} (h : Keeps k d0 d) : Keeps1 k d0 (Dev.compareDigest d j s) := by
  unfold Dev.compareDigest
  repeat' first
    | with_reducible assumption
    | (extract_lets +onlyGivenNames x; first | (have hx : Keeps k d0 x := ?_; clear_value x; swap; subst x; swap) | (have hx : Keeps1 k d0 x := ?_; clear_value x; swap; subst x; swap) | subst x)
    | exact Allow.cls_S rfl
    | exact hB
    | with_reducible refine Dev.sendCmd_keeps ?_
    | with_reducible refine Dev.fault_keeps hB ?_
    | with_reducible refine Dev.putChoir_keeps ?_
    | with_reducible refine Dev.choirEvent_keeps ?_
    | with_reducible refine Dev.takeRealign_keeps ?_
    | with_reducible exact Keeps.units (by assumption)
    | split

theorem Dev.pipelineCommit_keeps {k : Allow} {d0 : Dev} (hB : k.b = true) {d : Dev} (h : Keeps k d0 d) : Keeps k d0 (Dev.pipelineCommit d) := by
  unfold Dev.pipelineCommit
  repeat' first
    | with_reducible assumption
    | (extract_lets +onlyGivenNames x; first | (have hx : Keeps k d0 x := ?_; clear_value x; swap; subst x; swap) | (have hx : Keeps1 k d0 x := ?_; clear_value x; swap; subst x; swap) | subst x)
    | exact Allow.cls_S rfl
    | exact hB
    | with_reducible refine Dev.trackPeriod_keeps hB ?_
    | with_reducible refine Dev.commitJob_keeps hB ?_
    | with_reducible refine Dev.compareDigest_keeps hB ?_
    | with_reducible refine Dev.putPipe_keeps ?_
    | with_reducible exact Keeps.units (by assumption)
    | split

theorem Dev.startPipeline_keeps {k : Allow} {d0 : Dev} {d : Dev} (h : Keeps k d0 d) : Keeps k d0 (Dev.startPipeline d) := by
  unfold Dev.startPipeline
  repeat' first
    | with_reducible assumption
    | (extract_lets +onlyGivenNames x; first | (have hx : Keeps k d0 x := ?_; clear_value x; swap; subst x; swap) | (have hx : Keeps1 k d0 x := ?_; clear_value x; swap; subst x; swap) | subst x)
    | exact Allow.cls_S rfl
    | with_reducible refine Dev.spForceAll_keeps ?_
    | with_reducible refine Dev.showError_keeps ?_
    | with_reducible refine Dev.restartFilters_keeps ?_
    | with_reducible refine Dev.putPipe_keeps ?_
    | with_reducible refine Dev.raiseEpoch_keeps ?_
    | with_reducible refine Keeps.wr ?_ ?_
    | with_reducible exact Keeps.units (by assumption)
    | split

theorem Dev.legalResultRead_keeps {k : Allow} {d0 : Dev} {d : Dev} (h : Keeps k d0 d) : Keeps k d0 (Dev.legalResultRead d) :=
  Keeps.snaps h (fun hs => Store.wf_foldl (fun _ _ g => Store.wf_write _ _ g) _ hs)

theorem Dev.totPulseEnd_keeps {k : Allow} {d0 : Dev} {d : Dev} (h : Keeps k d0 d) : Keeps k d0 (Dev.totPulseEnd d) := by
  unfold Dev.totPulseEnd
  repeat' first
    | with_reducible assumption
    | (extract_lets +onlyGivenNames x; first | (have hx : Keeps k d0 x := ?_; clear_value x; swap; subst x; swap) | (have hx : Keeps1 k d0 x := ?_; clear_value x; swap; subst x; swap) | subst x)
    | exact Allow.cls_S rfl
    | with_reducible refine Dev.totStart_keeps ?_
    | with_reducible refine Keeps.wr ?_ ?_
    | with_reducible exact Keeps.units (by assumption)
    | split

theorem Dev.putCap_keeps {k : Allow} {d0 : Dev} {d : Dev} {c : Cap} (h : Keeps k d0 d) : Keeps k d0 (Dev.putCap d c) := by
  unfold Dev.putCap
  repeat' first
    | with_reducible assumption
    | (extract_lets +onlyGivenNames x; first | (have hx : Keeps k d0 x := ?_; clear_value x; swap; subst x; swap) | (have hx : Keeps1 k d0 x := ?_; clear_value x; swap; subst x; swap) | subst x)
    | exact Allow.cls_S rfl
    | with_reducible exact Keeps.units (by assumption)
    | split

theorem Dev.capState_keeps {k : Allow} {d0 : Dev} {d : Dev} {s : Nat} (h : Keeps k d0 d) : Keeps k d0 (Dev.capState d s) := by
  unfold Dev.capState
  repeat' first
    | with_reducible assumption
    | (extract_lets +onlyGivenNames x; first | (have hx : Keeps k d0 x := ?_; clear_value x; swap; subst x; swap) | (have hx : Keeps1 k d0 x := ?_; clear_value x; swap; subst x; swap) | subst x)
    | exact Allow.cls_S rfl
    | with_reducible refine Keeps.wr ?_ ?_
    | with_reducible exact Keeps.units (by assumption)
    | split

theorem Dev.fillOrArm_keeps {k : Allow} {d0 : Dev} {d : Dev} (h : Keeps k d0 d) : Keeps k d0 (Dev.fillOrArm d) := by
  unfold Dev.fillOrArm
  repeat' first
    | with_reducible assumption
    | (extract_lets +onlyGivenNames x; first | (have hx : Keeps k d0 x := ?_; clear_value x; swap; subst x; swap) | (have hx : Keeps1 k d0 x := ?_; clear_value x; swap; subst x; swap) | subst x)
    | exact Allow.cls_S rfl
    | with_reducible refine Dev.capState_keeps ?_
    | with_reducible exact Keeps.units (by assumption)
    | split

theorem Dev.takeSegment_keeps {k : Allow} {d0 : Dev} {d : Dev} (h : Keeps k d0 d) : Keeps k d0 (Dev.takeSegment d) := by
  unfold Dev.takeSegment
  repeat' first
    | with_reducible assumption
    | (extract_lets +onlyGivenNames x; first | (have hx : Keeps k d0 x := ?_; clear_value x; swap; subst x; swap) | (have hx : Keeps1 k d0 x := ?_; clear_value x; swap; subst x; swap) | subst x)
    | exact Allow.cls_S rfl
    | with_reducible refine Dev.fillOrArm_keeps ?_
    | with_reducible refine Dev.capState_keeps ?_
    | with_reducible refine Dev.putCap_keeps ?_
    | with_reducible refine Keeps.wr ?_ ?_
    | with_reducible exact Keeps.units (by assumption)
    | split

theorem Dev.writeCaptured_keeps {k : Allow} {d0 : Dev} {d : Dev} {w : Nat} (h : Keeps k d0 d) : Keeps k d0 (Dev.writeCaptured d w) := by
  unfold Dev.writeCaptured
  repeat' first
    | with_reducible assumption
    | (extract_lets +onlyGivenNames x; first | (have hx : Keeps k d0 x := ?_; clear_value x; swap; subst x; swap) | (have hx : Keeps1 k d0 x := ?_; clear_value x; swap; subst x; swap) | subst x)
    | exact Allow.cls_S rfl
    | with_reducible refine Dev.sramWritten_keeps ?_
    | with_reducible refine Dev.putCap_keeps ?_
    | with_reducible exact Keeps.units (by assumption)
    | split

theorem Dev.indexCapture_keeps {k : Allow} {d0 : Dev} {d : Dev} {trunc : Bool} {aborted : Bool} (h : Keeps k d0 d) : Keeps k d0 (Dev.indexCapture d trunc aborted) := by
  unfold Dev.indexCapture
  repeat' first
    | with_reducible assumption
    | (extract_lets +onlyGivenNames x; first | (have hx : Keeps k d0 x := ?_; clear_value x; swap; subst x; swap) | (have hx : Keeps1 k d0 x := ?_; clear_value x; swap; subst x; swap) | subst x)
    | exact Allow.cls_S rfl
    | with_reducible refine Dev.putCap_keeps ?_
    | with_reducible refine Dev.notify_keeps ?_
    | with_reducible refine Dev.offer_keeps ?_
    | with_reducible refine Keeps.step1 ?_ ?_
    | with_reducible exact Keeps.units (by assumption)
    | split

theorem Dev.finishCapture_keeps {k : Allow} {d0 : Dev} {d : Dev} {trunc : Bool} (h : Keeps k d0 d) : Keeps k d0 (Dev.finishCapture d trunc) := by
  unfold Dev.finishCapture
  repeat' first
    | with_reducible assumption
    | (extract_lets +onlyGivenNames x; first | (have hx : Keeps k d0 x := ?_; clear_value x; swap; subst x; swap) | (have hx : Keeps1 k d0 x := ?_; clear_value x; swap; subst x; swap) | subst x)
    | exact Allow.cls_S rfl
    | with_reducible refine Dev.takeSegment_keeps ?_
    | with_reducible refine Dev.indexCapture_keeps ?_
    | with_reducible exact Keeps.units (by assumption)
    | split

end Sys2Proof.Machine
end

