-- ==== Sys2Proof/Laws/Effects4.lean ====
section
/-! SUPPORT.
What each effect of the device keeps, part 4 of 6: `f_keeps` says which classes of fields, the NVM or the fuses `f` may change (its
hypotheses on `k`), and that it keeps the canonical forms.
-/

set_option linter.unusedTactic false
set_option linter.unreachableTactic false
set_option linter.unusedVariables false
set_option maxRecDepth 4000

namespace Sys2Proof.Machine

set_option Elab.async false

theorem Dev.feedPost_keeps {k : Allow} {d0 : Dev} {d : Dev} {l : List (Nat × Nat)} (h : Keeps k d0 d) : Keeps k d0 (Dev.feedPost d l) := by
  induction l generalizing d with
  | nil => exact h
  | cons w ws ih =>
    unfold Dev.feedPost
    split
    · exact Dev.putCap_keeps h
    · dsimp only
      split
      · split
        all_goals
        repeat' first
          | with_reducible assumption
          | with_reducible refine Dev.putCap_keeps ?_
          | with_reducible refine Dev.writeCaptured_keeps ?_
          | with_reducible refine Dev.finishCapture_keeps ?_
      · refine ih ?_
        repeat' first
          | with_reducible assumption
          | with_reducible refine Dev.putCap_keeps ?_
          | with_reducible refine Dev.writeCaptured_keeps ?_
          | with_reducible refine Dev.finishCapture_keeps ?_

theorem Dev.runLine_keeps {k : Allow} {d0 : Dev} {d : Dev} (h : Keeps k d0 d) : Keeps k d0 (Dev.runLine d) := by
  unfold Dev.runLine
  repeat' first
    | with_reducible assumption
    | (extract_lets +onlyGivenNames x; first | (have hx : Keeps k d0 x := ?_; clear_value x; swap; subst x; swap) | (have hx : Keeps1 k d0 x := ?_; clear_value x; swap; subst x; swap) | subst x)
    | exact Allow.cls_S rfl
    | with_reducible refine Dev.writeCaptured_keeps ?_
    | with_reducible refine Dev.putCap_keeps ?_
    | with_reducible exact Keeps.units (by assumption)
    | split

theorem Dev.capture_keeps {k : Allow} {d0 : Dev} {d : Dev} {voice : Nat} {take : Nat} {word : Nat} (h : Keeps k d0 d) : Keeps k d0 (Dev.capture d voice take word) := by
  unfold Dev.capture
  repeat' first
    | with_reducible assumption
    | (extract_lets +onlyGivenNames x; first | (have hx : Keeps k d0 x := ?_; clear_value x; swap; subst x; swap) | (have hx : Keeps1 k d0 x := ?_; clear_value x; swap; subst x; swap) | subst x)
    | exact Allow.cls_S rfl
    | with_reducible refine Dev.fillOrArm_keeps ?_
    | with_reducible refine Dev.runLine_keeps ?_
    | with_reducible refine Dev.putCap_keeps ?_
    | with_reducible refine Dev.feedPost_keeps ?_
    | with_reducible exact Keeps.units (by assumption)
    | split

theorem Dev.missTrigger_keeps {k : Allow} {d0 : Dev} (hB : k.b = true) {d : Dev} {a : Nat} {cause : Nat} {cond : Nat} {time : Nat} (h : Keeps k d0 d) : Keeps k d0 (Dev.missTrigger d a cause cond time) := by
  unfold Dev.missTrigger
  repeat' first
    | with_reducible assumption
    | (extract_lets +onlyGivenNames x; first | (have hx : Keeps k d0 x := ?_; clear_value x; swap; subst x; swap) | (have hx : Keeps1 k d0 x := ?_; clear_value x; swap; subst x; swap) | subst x)
    | exact Allow.cls_S rfl
    | exact hB
    | with_reducible refine Dev.fault_keeps hB ?_
    | with_reducible refine Dev.putAna_keeps ?_
    | with_reducible refine Dev.putCap_keeps ?_
    | with_reducible refine Keeps.wr ?_ ?_
    | with_reducible refine Keeps.inc ?_ ?_
    | with_reducible exact Keeps.units (by assumption)
    | split

theorem Dev.acceptTrigger_keeps {k : Allow} {d0 : Dev} {d : Dev} {a : Nat} {take : Option Nat} {time : Nat} (h : Keeps k d0 d) : Keeps k d0 (Dev.acceptTrigger d a take time) := by
  unfold Dev.acceptTrigger
  repeat' first
    | with_reducible assumption
    | (extract_lets +onlyGivenNames x; first | (have hx : Keeps k d0 x := ?_; clear_value x; swap; subst x; swap) | (have hx : Keeps1 k d0 x := ?_; clear_value x; swap; subst x; swap) | subst x)
    | exact Allow.cls_S rfl
    | ((with_reducible first | refine Allow.cls_mem (by assumption) ?_ | refine Allow.cls_fst (by assumption) ?_ | refine Allow.cls_snd (by assumption) ?_); rfl)
    | with_reducible refine Dev.feedPost_keeps ?_
    | with_reducible refine Dev.capState_keeps ?_
    | with_reducible refine Dev.writeCaptured_keeps ?_
    | with_reducible refine Dev.putCap_keeps ?_
    | with_reducible refine Dev.filter_keeps ?_
    | with_reducible refine Keeps.each ?_ (fun d x hm hd => ?_)
    | with_reducible exact Keeps.units (by assumption)
    | split

theorem Dev.trigger_keeps {k : Allow} {d0 : Dev} (hB : k.b = true) {d : Dev} {a : Nat} {cond : Nat} {take : Option Nat} {time : Nat} (h : Keeps k d0 d) : Keeps k d0 (Dev.trigger d a cond take time) := by
  unfold Dev.trigger
  repeat' first
    | with_reducible assumption
    | (extract_lets +onlyGivenNames x; first | (have hx : Keeps k d0 x := ?_; clear_value x; swap; subst x; swap) | (have hx : Keeps1 k d0 x := ?_; clear_value x; swap; subst x; swap) | subst x)
    | exact Allow.cls_S rfl
    | exact hB
    | with_reducible refine Dev.missTrigger_keeps hB ?_
    | with_reducible refine Dev.putCap_keeps ?_
    | with_reducible refine Dev.acceptTrigger_keeps ?_
    | with_reducible exact Keeps.units (by assumption)
    | split

theorem Dev.commandTrigger_keeps {k : Allow} {d0 : Dev} (hB : k.b = true) {a : Nat} {d : Dev} (h : Keeps k d0 d) : Keeps k d0 (Dev.commandTrigger a d) := by
  unfold Dev.commandTrigger
  repeat' first
    | with_reducible assumption
    | (extract_lets +onlyGivenNames x; first | (have hx : Keeps k d0 x := ?_; clear_value x; swap; subst x; swap) | (have hx : Keeps1 k d0 x := ?_; clear_value x; swap; subst x; swap) | subst x)
    | exact Allow.cls_S rfl
    | exact hB
    | with_reducible refine Dev.trigger_keeps hB ?_
    | with_reducible exact Keeps.units (by assumption)
    | split

theorem Dev.captureTimeout_keeps {k : Allow} {d0 : Dev} {d : Dev} (h : Keeps k d0 d) : Keeps k d0 (Dev.captureTimeout d) := by
  unfold Dev.captureTimeout
  repeat' first
    | with_reducible assumption
    | (extract_lets +onlyGivenNames x; first | (have hx : Keeps k d0 x := ?_; clear_value x; swap; subst x; swap) | (have hx : Keeps1 k d0 x := ?_; clear_value x; swap; subst x; swap) | subst x)
    | exact Allow.cls_S rfl
    | with_reducible refine Dev.finishCapture_keeps ?_
    | with_reducible exact Keeps.units (by assumption)
    | split

theorem Dev.completeCapture_keeps {k : Allow} {d0 : Dev} {d : Dev} (h : Keeps k d0 d) : Keeps k d0 (Dev.completeCapture d) := by
  unfold Dev.completeCapture
  repeat' first
    | with_reducible assumption
    | (extract_lets +onlyGivenNames x; first | (have hx : Keeps k d0 x := ?_; clear_value x; swap; subst x; swap) | (have hx : Keeps1 k d0 x := ?_; clear_value x; swap; subst x; swap) | subst x)
    | exact Allow.cls_S rfl
    | with_reducible refine Dev.finishCapture_keeps ?_
    | with_reducible exact Keeps.units (by assumption)
    | split

theorem Dev.rearmElapsed_keeps {k : Allow} {d0 : Dev} {d : Dev} (h : Keeps k d0 d) : Keeps k d0 (Dev.rearmElapsed d) := by
  unfold Dev.rearmElapsed
  repeat' first
    | with_reducible assumption
    | (extract_lets +onlyGivenNames x; first | (have hx : Keeps k d0 x := ?_; clear_value x; swap; subst x; swap) | (have hx : Keeps1 k d0 x := ?_; clear_value x; swap; subst x; swap) | subst x)
    | exact Allow.cls_S rfl
    | with_reducible refine Dev.fillOrArm_keeps ?_
    | with_reducible refine Dev.putCap_keeps ?_
    | with_reducible exact Keeps.units (by assumption)
    | split

theorem Dev.afterRelease_keeps {k : Allow} {d0 : Dev} {d : Dev} (h : Keeps k d0 d) : Keeps k d0 (Dev.afterRelease d) := by
  unfold Dev.afterRelease
  repeat' first
    | with_reducible assumption
    | (extract_lets +onlyGivenNames x; first | (have hx : Keeps k d0 x := ?_; clear_value x; swap; subst x; swap) | (have hx : Keeps1 k d0 x := ?_; clear_value x; swap; subst x; swap) | subst x)
    | exact Allow.cls_S rfl
    | with_reducible refine Dev.takeSegment_keeps ?_
    | with_reducible exact Keeps.units (by assumption)
    | split

theorem Dev.releaseSegment_keeps {k : Allow} {d0 : Dev} {s : Nat} {d : Dev} (h : Keeps k d0 d) : Keeps k d0 (Dev.releaseSegment s d) := by
  unfold Dev.releaseSegment
  repeat' first
    | with_reducible assumption
    | (extract_lets +onlyGivenNames x; first | (have hx : Keeps k d0 x := ?_; clear_value x; swap; subst x; swap) | (have hx : Keeps1 k d0 x := ?_; clear_value x; swap; subst x; swap) | subst x)
    | exact Allow.cls_S rfl
    | with_reducible refine Dev.afterRelease_keeps ?_
    | with_reducible refine Dev.putCap_keeps ?_
    | with_reducible exact Keeps.units (by assumption)
    | split

theorem Dev.releaseAll_keeps {k : Allow} {d0 : Dev} {d : Dev} (h : Keeps k d0 d) : Keeps k d0 (Dev.releaseAll d) := by
  unfold Dev.releaseAll
  repeat' first
    | with_reducible assumption
    | (extract_lets +onlyGivenNames x; first | (have hx : Keeps k d0 x := ?_; clear_value x; swap; subst x; swap) | (have hx : Keeps1 k d0 x := ?_; clear_value x; swap; subst x; swap) | subst x)
    | exact Allow.cls_S rfl
    | with_reducible refine Dev.afterRelease_keeps ?_
    | with_reducible refine Dev.putCap_keeps ?_
    | with_reducible exact Keeps.units (by assumption)
    | split

theorem Dev.disableCapture_keeps {k : Allow} {d0 : Dev} {d : Dev} (h : Keeps k d0 d) : Keeps k d0 (Dev.disableCapture d) := by
  unfold Dev.disableCapture
  repeat' first
    | with_reducible assumption
    | (extract_lets +onlyGivenNames x; first | (have hx : Keeps k d0 x := ?_; clear_value x; swap; subst x; swap) | (have hx : Keeps1 k d0 x := ?_; clear_value x; swap; subst x; swap) | subst x)
    | exact Allow.cls_S rfl
    | with_reducible refine Dev.capState_keeps ?_
    | with_reducible refine Dev.putCap_keeps ?_
    | with_reducible refine Dev.indexCapture_keeps ?_
    | with_reducible exact Keeps.units (by assumption)
    | split

theorem Dev.enableCapture_keeps {k : Allow} {d0 : Dev} {d : Dev} (h : Keeps k d0 d) : Keeps k d0 (Dev.enableCapture d) := by
  unfold Dev.enableCapture
  repeat' first
    | with_reducible assumption
    | (extract_lets +onlyGivenNames x; first | (have hx : Keeps k d0 x := ?_; clear_value x; swap; subst x; swap) | (have hx : Keeps1 k d0 x := ?_; clear_value x; swap; subst x; swap) | subst x)
    | exact Allow.cls_S rfl
    | with_reducible refine Dev.takeSegment_keeps ?_
    | with_reducible refine Dev.capState_keeps ?_
    | with_reducible exact Keeps.units (by assumption)
    | split

theorem Dev.flushCapture_keeps {k : Allow} {d0 : Dev} {d : Dev} (h : Keeps k d0 d) : Keeps k d0 (Dev.flushCapture d) := by
  unfold Dev.flushCapture
  repeat' first
    | with_reducible assumption
    | (extract_lets +onlyGivenNames x; first | (have hx : Keeps k d0 x := ?_; clear_value x; swap; subst x; swap) | (have hx : Keeps1 k d0 x := ?_; clear_value x; swap; subst x; swap) | subst x)
    | exact Allow.cls_S rfl
    | with_reducible refine Dev.takeSegment_keeps ?_
    | with_reducible refine Dev.putCap_keeps ?_
    | with_reducible refine Keeps.wr ?_ ?_
    | with_reducible exact Keeps.units (by assumption)
    | split

theorem Dev.captureBufferRead_keeps {k : Allow} {d0 : Dev} {i : Nat} {offset : Nat} {d : Dev} (h : Keeps k d0 d) : Keeps k d0 (Dev.captureBufferRead i offset d) := by
  unfold Dev.captureBufferRead
  repeat' first
    | with_reducible assumption
    | (extract_lets +onlyGivenNames x; first | (have hx : Keeps k d0 x := ?_; clear_value x; swap; subst x; swap) | (have hx : Keeps1 k d0 x := ?_; clear_value x; swap; subst x; swap) | subst x)
    | exact Allow.cls_S rfl
    | with_reducible refine Dev.putCap_keeps ?_
    | with_reducible exact Keeps.units (by assumption)
    | split

theorem Dev.missedTriggerRead_keeps {k : Allow} {d0 : Dev} {a : Nat} {offset : Nat} {d : Dev} (h : Keeps k d0 d) : Keeps k d0 (Dev.missedTriggerRead a offset d) := by
  unfold Dev.missedTriggerRead
  repeat' first
    | with_reducible assumption
    | (extract_lets +onlyGivenNames x; first | (have hx : Keeps k d0 x := ?_; clear_value x; swap; subst x; swap) | (have hx : Keeps1 k d0 x := ?_; clear_value x; swap; subst x; swap) | subst x)
    | exact Allow.cls_S rfl
    | with_reducible refine Dev.putAna_keeps ?_
    | with_reducible refine Keeps.wr ?_ ?_
    | with_reducible exact Keeps.units (by assumption)
    | split

theorem Dev.clearMissCount_keeps {k : Allow} {d0 : Dev} {a : Nat} {d : Dev} (h : Keeps k d0 d) : Keeps k d0 (Dev.clearMissCount a d) := by
  unfold Dev.clearMissCount
  repeat' first
    | with_reducible assumption
    | (extract_lets +onlyGivenNames x; first | (have hx : Keeps k d0 x := ?_; clear_value x; swap; subst x; swap) | (have hx : Keeps1 k d0 x := ?_; clear_value x; swap; subst x; swap) | subst x)
    | exact Allow.cls_S rfl
    | with_reducible refine Keeps.wr ?_ ?_
    | with_reducible exact Keeps.units (by assumption)
    | split

theorem Dev.feedAnas_keeps {k : Allow} {d0 : Dev} {d : Dev} {voice : Nat} {take : Nat} {e : Entry} {direct : Bool} (h : Keeps k d0 d) : Keeps k d0 (Dev.feedAnas d voice take e direct) := by
  unfold Dev.feedAnas
  repeat' first
    | with_reducible assumption
    | (extract_lets +onlyGivenNames x; first | (have hx : Keeps k d0 x := ?_; clear_value x; swap; subst x; swap) | (have hx : Keeps1 k d0 x := ?_; clear_value x; swap; subst x; swap) | subst x)
    | exact Allow.cls_S rfl
    | ((with_reducible first | refine Allow.cls_mem (by assumption) ?_ | refine Allow.cls_fst (by assumption) ?_ | refine Allow.cls_snd (by assumption) ?_); rfl)
    | with_reducible refine Dev.putAna_keeps ?_
    | with_reducible refine Keeps.each ?_ (fun d x hm hd => ?_)
    | with_reducible exact Keeps.units (by assumption)
    | split

theorem Dev.histogram_keeps {k : Allow} {d0 : Dev} {d : Dev} {a : Nat} {u : Nat} (h : Keeps k d0 d) : Keeps k d0 (Dev.histogram d a u) := by
  unfold Dev.histogram
  repeat' first
    | with_reducible assumption
    | (extract_lets +onlyGivenNames x; first | (have hx : Keeps k d0 x := ?_; clear_value x; swap; subst x; swap) | (have hx : Keeps1 k d0 x := ?_; clear_value x; swap; subst x; swap) | subst x)
    | exact Allow.cls_S rfl
    | with_reducible refine Dev.putAna_keeps ?_
    | with_reducible refine Keeps.inc ?_ ?_
    | with_reducible exact Keeps.units (by assumption)
    | split

theorem Dev.measure_keeps {k : Allow} {d0 : Dev} (hB : k.b = true) {d : Dev} {a : Nat} {u : Nat} {t : Taken} (h : Keeps k d0 d) : Keeps k d0 (Dev.measure d a u t) := by
  unfold Dev.measure
  repeat' first
    | with_reducible assumption
    | (extract_lets +onlyGivenNames x; first | (have hx : Keeps k d0 x := ?_; clear_value x; swap; subst x; swap) | (have hx : Keeps1 k d0 x := ?_; clear_value x; swap; subst x; swap) | subst x)
    | exact Allow.cls_S rfl
    | exact hB
    | with_reducible refine Dev.trigger_keeps hB ?_
    | with_reducible refine Dev.histogram_keeps ?_
    | with_reducible refine Dev.putAna_keeps ?_
    | with_reducible exact Keeps.units (by assumption)
    | split

theorem Dev.stopStamp_keeps {k : Allow} {d0 : Dev} (hB : k.b = true) {d : Dev} {a : Nat} {t : Taken} (h : Keeps k d0 d) : Keeps k d0 (Dev.stopStamp d a t) := by
  unfold Dev.stopStamp
  repeat' first
    | with_reducible assumption
    | (extract_lets +onlyGivenNames x; first | (have hx : Keeps k d0 x := ?_; clear_value x; swap; subst x; swap) | (have hx : Keeps1 k d0 x := ?_; clear_value x; swap; subst x; swap) | subst x)
    | exact Allow.cls_S rfl
    | exact hB
    | with_reducible refine Dev.measure_keeps hB ?_
    | with_reducible refine Dev.putAna_keeps ?_
    | with_reducible exact Keeps.units (by assumption)
    | split

theorem Dev.intervalStamp_keeps {k : Allow} {d0 : Dev} (hB : k.b = true) {d : Dev} {a : Nat} {t : Taken} {start : Bool} {stop : Bool} (h : Keeps k d0 d) : Keeps k d0 (Dev.intervalStamp d a t start stop) := by
  unfold Dev.intervalStamp
  repeat' first
    | with_reducible assumption
    | (extract_lets +onlyGivenNames x; first | (have hx : Keeps k d0 x := ?_; clear_value x; swap; subst x; swap) | (have hx : Keeps1 k d0 x := ?_; clear_value x; swap; subst x; swap) | subst x)
    | exact Allow.cls_S rfl
    | exact hB
    | with_reducible refine Dev.putAna_keeps ?_
    | with_reducible refine Dev.stopStamp_keeps hB ?_
    | with_reducible exact Keeps.units (by assumption)
    | split

theorem Dev.pulseStamp_keeps {k : Allow} {d0 : Dev} (hB : k.b = true) {d : Dev} {a : Nat} {t : Taken} (h : Keeps k d0 d) : Keeps k d0 (Dev.pulseStamp d a t) := by
  unfold Dev.pulseStamp
  repeat' first
    | with_reducible assumption
    | (extract_lets +onlyGivenNames x; first | (have hx : Keeps k d0 x := ?_; clear_value x; swap; subst x; swap) | (have hx : Keeps1 k d0 x := ?_; clear_value x; swap; subst x; swap) | subst x)
    | exact Allow.cls_S rfl
    | exact hB
    | with_reducible refine Dev.measure_keeps hB ?_
    | with_reducible refine Dev.putAna_keeps ?_
    | with_reducible exact Keeps.units (by assumption)
    | split

theorem Dev.anaRoll_keeps {k : Allow} {d0 : Dev} {d : Dev} {a : Nat} {stop : Nat} (h : Keeps k d0 d) : Keeps k d0 (Dev.anaRoll d a stop) := by
  unfold Dev.anaRoll
  repeat' first
    | with_reducible assumption
    | (extract_lets +onlyGivenNames x; first | (have hx : Keeps k d0 x := ?_; clear_value x; swap; subst x; swap) | (have hx : Keeps1 k d0 x := ?_; clear_value x; swap; subst x; swap) | subst x)
    | exact Allow.cls_S rfl
    | with_reducible refine Dev.putAna_keeps ?_
    | with_reducible exact Keeps.units (by assumption)
    | split

theorem Dev.anaRollTo_keeps {k : Allow} {d0 : Dev} {d : Dev} {a ext n : Nat} (h : Keeps k d0 d) : Keeps k d0 (Dev.anaRollTo d a ext n) := by
  induction n generalizing d with
  | zero => exact h
  | succ n ih =>
    unfold Dev.anaRollTo
    split
    · split
      · exact ih (Dev.anaRoll_keeps h)
      · exact h
    · exact h

theorem Dev.takeCount_keeps {k : Allow} {d0 : Dev} {d : Dev} {a : Nat} {stop : Nat} {evcnt : Nat} (h : Keeps k d0 d) : Keeps k d0 (Dev.takeCount d a stop evcnt) := by
  unfold Dev.takeCount
  repeat' first
    | with_reducible assumption
    | (extract_lets +onlyGivenNames x; first | (have hx : Keeps k d0 x := ?_; clear_value x; swap; subst x; swap) | (have hx : Keeps1 k d0 x := ?_; clear_value x; swap; subst x; swap) | subst x)
    | exact Allow.cls_S rfl
    | with_reducible refine Dev.putAna_keeps ?_
    | with_reducible exact Keeps.units (by assumption)
    | split

theorem Dev.anaProcess_keeps {k : Allow} {d0 : Dev} (hB : k.b = true) {d : Dev} {a : Nat} {t : Taken} {role : Nat} (h : Keeps k d0 d) : Keeps k d0 (Dev.anaProcess d a t role) := by
  unfold Dev.anaProcess
  repeat' first
    | with_reducible assumption
    | (extract_lets +onlyGivenNames x; first | (have hx : Keeps k d0 x := ?_; clear_value x; swap; subst x; swap) | (have hx : Keeps1 k d0 x := ?_; clear_value x; swap; subst x; swap) | subst x)
    | exact Allow.cls_S rfl
    | exact hB
    | with_reducible refine Dev.pulseStamp_keeps hB ?_
    | with_reducible refine Dev.intervalStamp_keeps hB ?_
    | with_reducible refine Dev.takeCount_keeps ?_
    | with_reducible refine Dev.anaRollTo_keeps ?_
    | with_reducible refine Dev.putAna_keeps ?_
    | with_reducible exact Keeps.units (by assumption)
    | split

theorem Dev.anaTrigger_keeps {k : Allow} {d0 : Dev} (hB : k.b = true) {d : Dev} {a : Nat} (h : Keeps k d0 d) : Keeps k d0 (Dev.anaTrigger d a) := by
  unfold Dev.anaTrigger
  repeat' first
    | with_reducible assumption
    | (extract_lets +onlyGivenNames x; first | (have hx : Keeps k d0 x := ?_; clear_value x; swap; subst x; swap) | (have hx : Keeps1 k d0 x := ?_; clear_value x; swap; subst x; swap) | subst x)
    | exact Allow.cls_S rfl
    | exact hB
    | with_reducible refine Dev.trigger_keeps hB ?_
    | with_reducible refine Dev.putAna_keeps ?_
    | with_reducible exact Keeps.units (by assumption)
    | split

theorem Dev.analyserStamp_keeps {k : Allow} {d0 : Dev} (hB : k.b = true) {a : Nat} {d : Dev} (h : Keeps k d0 d) : Keeps k d0 (Dev.analyserStamp a d) := by
  unfold Dev.analyserStamp
  repeat' first
    | with_reducible assumption
    | (extract_lets +onlyGivenNames x; first | (have hx : Keeps k d0 x := ?_; clear_value x; swap; subst x; swap) | (have hx : Keeps1 k d0 x := ?_; clear_value x; swap; subst x; swap) | subst x)
    | exact Allow.cls_S rfl
    | exact hB
    | with_reducible refine Dev.anaProcess_keeps hB ?_
    | with_reducible refine Dev.anaTrigger_keeps hB ?_
    | with_reducible exact Keeps.units (by assumption)
    | split

theorem Dev.anaDrain_keeps {k : Allow} {d0 : Dev} (hB : k.b = true) {d : Dev} {a stop n : Nat} (h : Keeps k d0 d) : Keeps k d0 (Dev.anaDrain d a stop n) := by
  induction n generalizing d with
  | zero => exact h
  | succ n ih =>
    unfold Dev.anaDrain
    split
    · split
      · exact ih (Dev.anaProcess_keeps hB h)
      · exact h
    · exact h

theorem Dev.preFeed_keeps {k : Allow} {d0 : Dev} {d : Dev} {a : Nat} (h : Keeps k d0 d) : Keeps k d0 (Dev.preFeed d a) := by
  unfold Dev.preFeed
  repeat' first
    | with_reducible assumption
    | (extract_lets +onlyGivenNames x; first | (have hx : Keeps k d0 x := ?_; clear_value x; swap; subst x; swap) | (have hx : Keeps1 k d0 x := ?_; clear_value x; swap; subst x; swap) | subst x)
    | exact Allow.cls_S rfl
    | with_reducible refine Dev.putAna_keeps ?_
    | with_reducible exact Keeps.units (by assumption)
    | split

theorem Dev.anaReach_keeps {k : Allow} {d0 : Dev} (hB : k.b = true) {d : Dev} {a : Nat} {stop : Nat} (h : Keeps k d0 d) : Keeps k d0 (Dev.anaReach d a stop) := by
  unfold Dev.anaReach
  repeat' first
    | with_reducible assumption
    | (extract_lets +onlyGivenNames x; first | (have hx : Keeps k d0 x := ?_; clear_value x; swap; subst x; swap) | (have hx : Keeps1 k d0 x := ?_; clear_value x; swap; subst x; swap) | subst x)
    | exact Allow.cls_S rfl
    | exact hB
    | with_reducible refine Dev.anaRollTo_keeps ?_
    | with_reducible refine Dev.anaDrain_keeps hB ?_
    | with_reducible exact Keeps.units (by assumption)
    | split

theorem Dev.putResult_keeps {k : Allow} {d0 : Dev} {d : Dev} {a : Nat} {i : AnaItem} {reason : Nat} {causes : Nat} (h : Keeps k d0 d) : Keeps k d0 (Dev.putResult d a i reason causes) := by
  unfold Dev.putResult
  repeat' first
    | with_reducible assumption
    | (extract_lets +onlyGivenNames x; first | (have hx : Keeps k d0 x := ?_; clear_value x; swap; subst x; swap) | (have hx : Keeps1 k d0 x := ?_; clear_value x; swap; subst x; swap) | subst x)
    | exact Allow.cls_S rfl
    | with_reducible refine Keeps.wr ?_ ?_
    | with_reducible refine Keeps.step1 ?_ ?_
    | with_reducible exact Keeps.units (by assumption)
    | split

theorem Dev.closeHistogram_keeps {k : Allow} {d0 : Dev} {d : Dev} {a : Nat} {i : AnaItem} {reason : Nat} (h : Keeps k d0 d) : Keeps k d0 (Dev.closeHistogram d a i reason) := by
  unfold Dev.closeHistogram
  repeat' first
    | with_reducible assumption
    | (extract_lets +onlyGivenNames x; first | (have hx : Keeps k d0 x := ?_; clear_value x; swap; subst x; swap) | (have hx : Keeps1 k d0 x := ?_; clear_value x; swap; subst x; swap) | subst x)
    | exact Allow.cls_S rfl
    | with_reducible refine Dev.putAna_keeps ?_
    | with_reducible refine Keeps.wr ?_ ?_
    | with_reducible refine Keeps.step1 ?_ ?_
    | with_reducible exact Keeps.units (by assumption)
    | split

theorem Dev.finishAna_keeps {k : Allow} {d0 : Dev} {d : Dev} {i : AnaItem} {causes : Nat} (h : Keeps k d0 d) : Keeps k d0 (Dev.finishAna d i causes) := by
  unfold Dev.finishAna
  repeat' first
    | with_reducible assumption
    | (extract_lets +onlyGivenNames x; first | (have hx : Keeps k d0 x := ?_; clear_value x; swap; subst x; swap) | (have hx : Keeps1 k d0 x := ?_; clear_value x; swap; subst x; swap) | subst x)
    | exact Allow.cls_S rfl
    | with_reducible refine Dev.closeHistogram_keeps ?_
    | with_reducible refine Dev.putResult_keeps ?_
    | with_reducible exact Keeps.units (by assumption)
    | split

theorem Dev.analyserCloseout_keeps {k : Allow} {d0 : Dev} (hB : k.b = true) (hP : k.p = true) {a : Nat} {upsets : List (Nat × Nat)} {d : Dev} (h : Keeps k d0 d) : Keeps k d0 (Dev.analyserCloseout a upsets d) := by
  unfold Dev.analyserCloseout
  repeat' first
    | with_reducible assumption
    | (extract_lets +onlyGivenNames x; first | (have hx : Keeps k d0 x := ?_; clear_value x; swap; subst x; swap) | (have hx : Keeps1 k d0 x := ?_; clear_value x; swap; subst x; swap) | subst x)
    | exact Allow.cls_S rfl
    | exact hB
    | exact hP
    | with_reducible refine Dev.finishAna_keeps ?_
    | with_reducible refine Dev.meetUpsets_keeps hB hP ?_
    | with_reducible refine Dev.anaReach_keeps hB ?_
    | with_reducible exact Keeps.units (by assumption)
    | split

theorem Dev.anaDeadline_keeps {k : Allow} {d0 : Dev} (hB : k.b = true) {d : Dev} {t : Nat} {stop : Nat} (h : Keeps k d0 d) : Keeps k d0 (Dev.anaDeadline d t stop) := by
  unfold Dev.anaDeadline
  repeat' first
    | with_reducible assumption
    | (extract_lets +onlyGivenNames x; first | (have hx : Keeps k d0 x := ?_; clear_value x; swap; subst x; swap) | (have hx : Keeps1 k d0 x := ?_; clear_value x; swap; subst x; swap) | subst x)
    | exact Allow.cls_S rfl
    | exact hB
    | ((with_reducible first | refine Allow.cls_mem (by assumption) ?_ | refine Allow.cls_fst (by assumption) ?_ | refine Allow.cls_snd (by assumption) ?_); rfl)
    | with_reducible refine Dev.finishAna_keeps ?_
    | with_reducible refine Dev.fault_keeps hB ?_
    | with_reducible refine Dev.anaReach_keeps hB ?_
    | with_reducible refine Dev.preFeed_keeps ?_
    | with_reducible refine Dev.filter_keeps ?_
    | with_reducible refine Keeps.each ?_ (fun d x hm hd => ?_)
    | with_reducible exact Keeps.units (by assumption)
    | split

theorem Dev.deadline_keeps {k : Allow} {d0 : Dev} (hB : k.b = true) {t : Nat} {d : Dev} (h : Keeps k d0 d) : Keeps k d0 (Dev.deadline t d) := by
  unfold Dev.deadline
  repeat' first
    | with_reducible assumption
    | (extract_lets +onlyGivenNames x; first | (have hx : Keeps k d0 x := ?_; clear_value x; swap; subst x; swap) | (have hx : Keeps1 k d0 x := ?_; clear_value x; swap; subst x; swap) | subst x)
    | exact Allow.cls_S rfl
    | exact hB
    | ((with_reducible first | refine Allow.cls_mem (by assumption) ?_ | refine Allow.cls_fst (by assumption) ?_ | refine Allow.cls_snd (by assumption) ?_); rfl)
    | with_reducible refine Dev.anaDeadline_keeps hB ?_
    | with_reducible refine Dev.closeoutDeadline_keeps hB ?_
    | with_reducible refine Dev.filter_keeps ?_
    | with_reducible refine Keeps.foldl ?_ (fun d x hm hd => ?_)
    | with_reducible refine Keeps.foldl1 ?_ (fun d x hm hd => ?_)
    | with_reducible exact Keeps.units (by assumption)
    | split

theorem Dev.anaEndOne_keeps {k : Allow} {d0 : Dev} {d : Dev} {a : Nat} {t : Nat} {stop : Nat} {tm : Timer} (h : Keeps k d0 d) : Keeps k d0 (Dev.anaEndOne d a t stop tm) := by
  unfold Dev.anaEndOne
  repeat' first
    | with_reducible assumption
    | (extract_lets +onlyGivenNames x; first | (have hx : Keeps k d0 x := ?_; clear_value x; swap; subst x; swap) | (have hx : Keeps1 k d0 x := ?_; clear_value x; swap; subst x; swap) | subst x)
    | exact Allow.cls_S rfl
    | with_reducible refine Dev.putAna_keeps ?_
    | with_reducible refine Dev.nextFree_keeps ?_
    | with_reducible exact Keeps.units (by assumption)
    | split

theorem Dev.anaEndPeriod_keeps {k : Allow} {d0 : Dev} {d : Dev} {t : Nat} {stop : Nat} {tm : Timer} (h : Keeps k d0 d) : Keeps k d0 (Dev.anaEndPeriod d t stop tm) := by
  unfold Dev.anaEndPeriod
  repeat' first
    | with_reducible assumption
    | (extract_lets +onlyGivenNames x; first | (have hx : Keeps k d0 x := ?_; clear_value x; swap; subst x; swap) | (have hx : Keeps1 k d0 x := ?_; clear_value x; swap; subst x; swap) | subst x)
    | exact Allow.cls_S rfl
    | ((with_reducible first | refine Allow.cls_mem (by assumption) ?_ | refine Allow.cls_fst (by assumption) ?_ | refine Allow.cls_snd (by assumption) ?_); rfl)
    | with_reducible refine Dev.anaEndOne_keeps ?_
    | with_reducible refine Keeps.each ?_ (fun d x hm hd => ?_)
    | with_reducible exact Keeps.units (by assumption)
    | split

theorem Dev.anaBeginPeriod_keeps {k : Allow} {d0 : Dev} {d : Dev} {t : Nat} {gated : Bool} (h : Keeps k d0 d) : Keeps k d0 (Dev.anaBeginPeriod d t gated) := by
  unfold Dev.anaBeginPeriod
  repeat' first
    | with_reducible assumption
    | (extract_lets +onlyGivenNames x; first | (have hx : Keeps k d0 x := ?_; clear_value x; swap; subst x; swap) | (have hx : Keeps1 k d0 x := ?_; clear_value x; swap; subst x; swap) | subst x)
    | exact Allow.cls_S rfl
    | ((with_reducible first | refine Allow.cls_mem (by assumption) ?_ | refine Allow.cls_fst (by assumption) ?_ | refine Allow.cls_snd (by assumption) ?_); rfl)
    | with_reducible refine Dev.putAna_keeps ?_
    | with_reducible refine Keeps.each ?_ (fun d x hm hd => ?_)
    | with_reducible exact Keeps.units (by assumption)
    | split

theorem Dev.takeBoundary_keeps {k : Allow} {d0 : Dev} (hB : k.b = true) (hH : k.h = true) {d : Dev} {t : Nat} {ext : Nat} {gated : Bool} (h : Keeps k d0 d) : Keeps k d0 (Dev.takeBoundary d t ext gated) := by
  unfold Dev.takeBoundary
  repeat' first
    | with_reducible assumption
    | (extract_lets +onlyGivenNames x; first | (have hx : Keeps k d0 x := ?_; clear_value x; swap; subst x; swap) | (have hx : Keeps1 k d0 x := ?_; clear_value x; swap; subst x; swap) | subst x)
    | exact Allow.cls_S rfl
    | exact hB
    | exact hH
    | with_reducible refine Dev.anaBeginPeriod_keeps ?_
    | with_reducible refine Dev.beginPeriod_keeps hB hH ?_
    | with_reducible refine Dev.anaEndPeriod_keeps ?_
    | with_reducible refine Dev.endPeriod_keeps ?_
    | with_reducible exact Keeps.units (by assumption)
    | split

theorem Dev.rseqRead_keeps {k : Allow} {d0 : Dev} {a : Nat} {d : Dev} (h : Keeps k d0 d) : Keeps k d0 (Dev.rseqRead a d) :=
  Keeps.snaps h (fun hs => Store.wf_foldl (fun _ _ g => Store.wf_write _ _ g) _ hs)

theorem Dev.clearHistogram_keeps {k : Allow} {d0 : Dev} {a : Nat} {d : Dev} (h : Keeps k d0 d) : Keeps k d0 (Dev.clearHistogram a d) := by
  unfold Dev.clearHistogram
  repeat' first
    | with_reducible assumption
    | (extract_lets +onlyGivenNames x; first | (have hx : Keeps k d0 x := ?_; clear_value x; swap; subst x; swap) | (have hx : Keeps1 k d0 x := ?_; clear_value x; swap; subst x; swap) | subst x)
    | exact Allow.cls_S rfl
    | with_reducible refine Dev.putAna_keeps ?_
    | with_reducible refine Keeps.wr ?_ ?_
    | with_reducible exact Keeps.units (by assumption)
    | split

theorem Dev.clearTotal_keeps {k : Allow} {d0 : Dev} {a : Nat} {d : Dev} (h : Keeps k d0 d) : Keeps k d0 (Dev.clearTotal a d) := by
  unfold Dev.clearTotal
  repeat' first
    | with_reducible assumption
    | (extract_lets +onlyGivenNames x; first | (have hx : Keeps k d0 x := ?_; clear_value x; swap; subst x; swap) | (have hx : Keeps1 k d0 x := ?_; clear_value x; swap; subst x; swap) | subst x)
    | exact Allow.cls_S rfl
    | with_reducible refine Dev.putAna_keeps ?_
    | with_reducible refine Keeps.wr ?_ ?_
    | with_reducible exact Keeps.units (by assumption)
    | split

theorem Dev.showRefOut_keeps {k : Allow} {d0 : Dev} {d : Dev} (h : Keeps k d0 d) : Keeps k d0 (Dev.showRefOut d) := by
  unfold Dev.showRefOut
  repeat' first
    | with_reducible assumption
    | (extract_lets +onlyGivenNames x; first | (have hx : Keeps k d0 x := ?_; clear_value x; swap; subst x; swap) | (have hx : Keeps1 k d0 x := ?_; clear_value x; swap; subst x; swap) | subst x)
    | exact Allow.cls_S rfl
    | with_reducible refine Keeps.wr ?_ ?_
    | with_reducible exact Keeps.units (by assumption)
    | split

theorem Dev.imageRefOut_keeps {k : Allow} {d0 : Dev} {d : Dev} (h : Keeps k d0 d) : Keeps k d0 (Dev.imageRefOut d) := by
  unfold Dev.imageRefOut
  repeat' first
    | with_reducible assumption
    | (extract_lets +onlyGivenNames x; first | (have hx : Keeps k d0 x := ?_; clear_value x; swap; subst x; swap) | (have hx : Keeps1 k d0 x := ?_; clear_value x; swap; subst x; swap) | subst x)
    | exact Allow.cls_S rfl
    | with_reducible refine Dev.showRefOut_keeps ?_
    | with_reducible exact Keeps.units (by assumption)
    | split

theorem Dev.decideSwitch_keeps {k : Allow} {d0 : Dev} {d : Dev} {target : Nat} {cfg : Bool} (h : Keeps k d0 d) : Keeps k d0 (Dev.decideSwitch d target cfg) := by
  unfold Dev.decideSwitch
  repeat' first
    | with_reducible assumption
    | (extract_lets +onlyGivenNames x; first | (have hx : Keeps k d0 x := ?_; clear_value x; swap; subst x; swap) | (have hx : Keeps1 k d0 x := ?_; clear_value x; swap; subst x; swap) | subst x)
    | exact Allow.cls_S rfl
    | with_reducible refine Dev.closeGate_keeps ?_
    | with_reducible exact Keeps.units (by assumption)
    | split

theorem Dev.forceSwitch_keeps {k : Allow} {d0 : Dev} {d : Dev} {target : Nat} (h : Keeps k d0 d) : Keeps k d0 (Dev.forceSwitch d target) := by
  unfold Dev.forceSwitch
  repeat' first
    | with_reducible assumption
    | (extract_lets +onlyGivenNames x; first | (have hx : Keeps k d0 x := ?_; clear_value x; swap; subst x; swap) | (have hx : Keeps1 k d0 x := ?_; clear_value x; swap; subst x; swap) | subst x)
    | exact Allow.cls_S rfl
    | with_reducible refine Dev.decideSwitch_keeps ?_
    | with_reducible exact Keeps.units (by assumption)
    | split

theorem Dev.planSwitch_keeps {k : Allow} {d0 : Dev} {d : Dev} (h : Keeps k d0 d) : Keeps k d0 (Dev.planSwitch d) := by
  unfold Dev.planSwitch
  repeat' first
    | with_reducible assumption
    | (extract_lets +onlyGivenNames x; first | (have hx : Keeps k d0 x := ?_; clear_value x; swap; subst x; swap) | (have hx : Keeps1 k d0 x := ?_; clear_value x; swap; subst x; swap) | subst x)
    | exact Allow.cls_S rfl
    | with_reducible exact Keeps.units (by assumption)
    | split

theorem Dev.ocxoWait_keeps {k : Allow} {d0 : Dev} {d : Dev} (h : Keeps k d0 d) : Keeps k d0 (Dev.ocxoWait d) := by
  unfold Dev.ocxoWait
  repeat' first
    | with_reducible assumption
    | (extract_lets +onlyGivenNames x; first | (have hx : Keeps k d0 x := ?_; clear_value x; swap; subst x; swap) | (have hx : Keeps1 k d0 x := ?_; clear_value x; swap; subst x; swap) | subst x)
    | exact Allow.cls_S rfl
    | with_reducible refine Keeps.wr ?_ ?_
    | with_reducible exact Keeps.units (by assumption)
    | split

theorem Dev.failOcxo_keeps {k : Allow} {d0 : Dev} (hB : k.b = true) {d : Dev} {codes : List Nat} (h : Keeps k d0 d) : Keeps k d0 (Dev.failOcxo d codes) := by
  unfold Dev.failOcxo
  repeat' first
    | with_reducible assumption
    | (extract_lets +onlyGivenNames x; first | (have hx : Keeps k d0 x := ?_; clear_value x; swap; subst x; swap) | (have hx : Keeps1 k d0 x := ?_; clear_value x; swap; subst x; swap) | subst x)
    | exact Allow.cls_S rfl
    | exact hB
    | ((with_reducible first | refine Allow.cls_mem (by assumption) ?_ | refine Allow.cls_fst (by assumption) ?_ | refine Allow.cls_snd (by assumption) ?_); rfl)
    | with_reducible refine Dev.forceSwitch_keeps ?_
    | with_reducible refine Dev.ocxoWait_keeps ?_
    | with_reducible refine Dev.fault_keeps hB ?_
    | with_reducible refine Keeps.wr ?_ ?_
    | with_reducible refine Keeps.each ?_ (fun d x hm hd => ?_)
    | with_reducible exact Keeps.units (by assumption)
    | split

theorem Dev.beginCheck_keeps {k : Allow} {d0 : Dev} {d : Dev} (h : Keeps k d0 d) : Keeps k d0 (Dev.beginCheck d) := by
  unfold Dev.beginCheck
  repeat' first
    | with_reducible assumption
    | (extract_lets +onlyGivenNames x; first | (have hx : Keeps k d0 x := ?_; clear_value x; swap; subst x; swap) | (have hx : Keeps1 k d0 x := ?_; clear_value x; swap; subst x; swap) | subst x)
    | exact Allow.cls_S rfl
    | with_reducible refine Keeps.wr ?_ ?_
    | with_reducible exact Keeps.units (by assumption)
    | split

theorem Dev.refInEdgesPresent_keeps {k : Allow} {d0 : Dev} {d : Dev} (h : Keeps k d0 d) : Keeps k d0 (Dev.refInEdgesPresent d) := by
  unfold Dev.refInEdgesPresent
  repeat' first
    | with_reducible assumption
    | (extract_lets +onlyGivenNames x; first | (have hx : Keeps k d0 x := ?_; clear_value x; swap; subst x; swap) | (have hx : Keeps1 k d0 x := ?_; clear_value x; swap; subst x; swap) | subst x)
    | exact Allow.cls_S rfl
    | with_reducible refine Dev.beginCheck_keeps ?_
    | with_reducible exact Keeps.units (by assumption)
    | split

theorem Dev.ocxoRdyChange_keeps {k : Allow} {d0 : Dev} (hB : k.b = true) {level : Bool} {d : Dev} (h : Keeps k d0 d) : Keeps k d0 (Dev.ocxoRdyChange level d) := by
  unfold Dev.ocxoRdyChange
  repeat' first
    | with_reducible assumption
    | (extract_lets +onlyGivenNames x; first | (have hx : Keeps k d0 x := ?_; clear_value x; swap; subst x; swap) | (have hx : Keeps1 k d0 x := ?_; clear_value x; swap; subst x; swap) | subst x)
    | exact Allow.cls_S rfl
    | exact hB
    | with_reducible refine Dev.beginCheck_keeps ?_
    | with_reducible refine Dev.failOcxo_keeps hB ?_
    | with_reducible refine Keeps.wr ?_ ?_
    | with_reducible exact Keeps.units (by assumption)
    | split

theorem Dev.refInLost_keeps {k : Allow} {d0 : Dev} (hB : k.b = true) {d : Dev} (h : Keeps k d0 d) : Keeps k d0 (Dev.refInLost d) := by
  unfold Dev.refInLost
  repeat' first
    | with_reducible assumption
    | (extract_lets +onlyGivenNames x; first | (have hx : Keeps k d0 x := ?_; clear_value x; swap; subst x; swap) | (have hx : Keeps1 k d0 x := ?_; clear_value x; swap; subst x; swap) | subst x)
    | exact Allow.cls_S rfl
    | exact hB
    | with_reducible refine Dev.failOcxo_keeps hB ?_
    | with_reducible refine Keeps.wr ?_ ?_
    | with_reducible exact Keeps.units (by assumption)
    | split

theorem Dev.ocxoWindow_keeps {k : Allow} {d0 : Dev} (hB : k.b = true) {m : Nat} {dticks : Nat} {d : Dev} (h : Keeps k d0 d) : Keeps k d0 (Dev.ocxoWindow m dticks d) := by
  unfold Dev.ocxoWindow
  repeat' first
    | with_reducible assumption
    | (extract_lets +onlyGivenNames x; first | (have hx : Keeps k d0 x := ?_; clear_value x; swap; subst x; swap) | (have hx : Keeps1 k d0 x := ?_; clear_value x; swap; subst x; swap) | subst x)
    | exact Allow.cls_S rfl
    | exact hB
    | with_reducible refine Dev.planSwitch_keeps ?_
    | with_reducible refine Dev.failOcxo_keeps hB ?_
    | with_reducible refine Keeps.wr ?_ ?_
    | with_reducible exact Keeps.units (by assumption)
    | split

theorem Dev.warmupLate_keeps {k : Allow} {d0 : Dev} (hB : k.b = true) {d : Dev} (h : Keeps k d0 d) : Keeps k d0 (Dev.warmupLate d) := by
  unfold Dev.warmupLate
  repeat' first
    | with_reducible assumption
    | (extract_lets +onlyGivenNames x; first | (have hx : Keeps k d0 x := ?_; clear_value x; swap; subst x; swap) | (have hx : Keeps1 k d0 x := ?_; clear_value x; swap; subst x; swap) | subst x)
    | exact Allow.cls_S rfl
    | exact hB
    | with_reducible refine Dev.fault_keeps hB ?_
    | with_reducible refine Keeps.wr ?_ ?_
    | with_reducible exact Keeps.units (by assumption)
    | split

theorem Dev.tbRestartCheck_keeps {k : Allow} {d0 : Dev} {d : Dev} (h : Keeps k d0 d) : Keeps k d0 (Dev.tbRestartCheck d) := by
  unfold Dev.tbRestartCheck
  repeat' first
    | with_reducible assumption
    | (extract_lets +onlyGivenNames x; first | (have hx : Keeps k d0 x := ?_; clear_value x; swap; subst x; swap) | (have hx : Keeps1 k d0 x := ?_; clear_value x; swap; subst x; swap) | subst x)
    | exact Allow.cls_S rfl
    | with_reducible refine Dev.planSwitch_keeps ?_
    | with_reducible refine Dev.ocxoWait_keeps ?_
    | with_reducible exact Keeps.units (by assumption)
    | split

theorem Dev.referenceSwitch_keeps {k : Allow} {d0 : Dev} {count : Nat} {d : Dev} (h : Keeps k d0 d) : Keeps k d0 (Dev.referenceSwitch count d) := by
  unfold Dev.referenceSwitch
  repeat' first
    | with_reducible assumption
    | (extract_lets +onlyGivenNames x; first | (have hx : Keeps k d0 x := ?_; clear_value x; swap; subst x; swap) | (have hx : Keeps1 k d0 x := ?_; clear_value x; swap; subst x; swap) | subst x)
    | exact Allow.cls_S rfl
    | with_reducible refine Keeps.wr ?_ ?_
    | with_reducible refine Keeps.when ?_ (fun d hd => ?_)
    | with_reducible exact Keeps.units (by assumption)
    | split

theorem Dev.spllLockDetect_keeps {k : Allow} {d0 : Dev} {d : Dev} (h : Keeps k d0 d) : Keeps k d0 (Dev.spllLockDetect d) := by
  unfold Dev.spllLockDetect
  repeat' first
    | with_reducible assumption
    | (extract_lets +onlyGivenNames x; first | (have hx : Keeps k d0 x := ?_; clear_value x; swap; subst x; swap) | (have hx : Keeps1 k d0 x := ?_; clear_value x; swap; subst x; swap) | subst x)
    | exact Allow.cls_S rfl
    | with_reducible refine Keeps.wr ?_ ?_
    | with_reducible exact Keeps.units (by assumption)
    | split

theorem Dev.spllFail_keeps {k : Allow} {d0 : Dev} (hB : k.b = true) {d : Dev} {code : Nat} (h : Keeps k d0 d) : Keeps k d0 (Dev.spllFail d code) := by
  unfold Dev.spllFail
  repeat' first
    | with_reducible assumption
    | (extract_lets +onlyGivenNames x; first | (have hx : Keeps k d0 x := ?_; clear_value x; swap; subst x; swap) | (have hx : Keeps1 k d0 x := ?_; clear_value x; swap; subst x; swap) | subst x)
    | exact Allow.cls_S rfl
    | exact hB
    | with_reducible refine Dev.enterSafe_keeps hB ?_
    | with_reducible refine Dev.decideSwitch_keeps ?_
    | with_reducible refine Dev.fault_keeps hB ?_
    | with_reducible refine Keeps.wr ?_ ?_
    | with_reducible exact Keeps.units (by assumption)
    | split

theorem Dev.spllSwitchTimeout_keeps {k : Allow} {d0 : Dev} (hB : k.b = true) {d : Dev} (h : Keeps k d0 d) : Keeps k d0 (Dev.spllSwitchTimeout d) := by
  unfold Dev.spllSwitchTimeout
  repeat' first
    | with_reducible assumption
    | (extract_lets +onlyGivenNames x; first | (have hx : Keeps k d0 x := ?_; clear_value x; swap; subst x; swap) | (have hx : Keeps1 k d0 x := ?_; clear_value x; swap; subst x; swap) | subst x)
    | exact Allow.cls_S rfl
    | exact hB
    | with_reducible refine Dev.spllFail_keeps hB ?_
    | with_reducible exact Keeps.units (by assumption)
    | split

theorem Dev.overspeed_keeps {k : Allow} {d0 : Dev} (hB : k.b = true) {count : Nat} {d : Dev} (h : Keeps k d0 d) : Keeps k d0 (Dev.overspeed count d) := by
  unfold Dev.overspeed
  repeat' first
    | with_reducible assumption
    | (extract_lets +onlyGivenNames x; first | (have hx : Keeps k d0 x := ?_; clear_value x; swap; subst x; swap) | (have hx : Keeps1 k d0 x := ?_; clear_value x; swap; subst x; swap) | subst x)
    | exact Allow.cls_S rfl
    | exact hB
    | with_reducible refine Dev.forceSwitch_keeps ?_
    | with_reducible refine Dev.fault_keeps hB ?_
    | with_reducible refine Keeps.wr ?_ ?_
    | with_reducible exact Keeps.units (by assumption)
    | split

theorem Dev.showLevels_keeps {k : Allow} {d0 : Dev} {d : Dev} {o : Dev} (h : Keeps k d0 d) : Keeps k d0 (Dev.showLevels d o) := by
  unfold Dev.showLevels
  repeat' first
    | with_reducible assumption
    | (extract_lets +onlyGivenNames x; first | (have hx : Keeps k d0 x := ?_; clear_value x; swap; subst x; swap) | (have hx : Keeps1 k d0 x := ?_; clear_value x; swap; subst x; swap) | subst x)
    | exact Allow.cls_S rfl
    | ((with_reducible first | refine Allow.cls_mem (by assumption) ?_ | refine Allow.cls_fst (by assumption) ?_ | refine Allow.cls_snd (by assumption) ?_); rfl)
    | with_reducible refine Keeps.wr ?_ ?_
    | with_reducible refine Keeps.each ?_ (fun d x hm hd => ?_)
    | with_reducible exact Keeps.units (by assumption)
    | split

theorem Dev.afterReset_keeps {k : Allow} {d0 : Dev} (hP : k.p = true) (hH : k.h = true) (hI : k.i = true) {d : Dev} {kind : Nat} (h : Keeps k d0 d) : Keeps k d0 (Dev.afterReset d kind) := by
  have hr : Keeps k d0 { d with regs := d.regs.afterReset kind, snaps := [] } := by
    refine Keeps.snaps (Keeps.setRegs h (fun w => ?_) (fun c hc => ?_)) (fun _ => rfl)
    · rw [RegFile.wf_iff] at w ⊢
      intro c
      have := w c
      cases c <;> simp only [RegFile.table] at this ⊢ <;> first | exact this | rfl | (split <;> first | rfl | exact this)
    · cases c <;> simp only [Allow.cls, hP, hH, hI, Bool.true_eq_false] at hc <;> rfl
  exact Keeps.units hr

theorem Dev.reset_keeps {k : Allow} {d0 : Dev} (hB : k.b = true) (hP : k.p = true) (hH : k.h = true) (hI : k.i = true) (hNvm : k.nvm = true) {d : Dev} {kind : Nat} (h : Keeps k d0 d) : Keeps k d0 (Dev.reset d kind) := by
  unfold Dev.reset
  repeat' first
    | with_reducible assumption
    | (extract_lets +onlyGivenNames x; first | (have hx : Keeps k d0 x := ?_; clear_value x; swap; subst x; swap) | (have hx : Keeps1 k d0 x := ?_; clear_value x; swap; subst x; swap) | subst x)
    | exact Allow.cls_S rfl
    | exact hB
    | exact hP
    | exact hH
    | exact hI
    | exact (congrArg k.cls (causeFld_cls _)).trans hB
    | with_reducible refine Dev.showLevels_keeps ?_
    | with_reducible refine Dev.afterReset_keeps hP hH hI ?_
    | with_reducible refine Dev.abandonPt_keeps hNvm ?_
    | with_reducible refine Keeps.wr ?_ ?_
    | with_reducible exact Keeps.units (by assumption)
    | split

theorem Dev.choirReset_keeps {k : Allow} {d0 : Dev} (hB : k.b = true) (hP : k.p = true) (hH : k.h = true) (hI : k.i = true) (hNvm : k.nvm = true) {d : Dev} (h : Keeps k d0 d) : Keeps k d0 (Dev.choirReset d) := by
  unfold Dev.choirReset
  repeat' first
    | with_reducible assumption
    | (extract_lets +onlyGivenNames x; first | (have hx : Keeps k d0 x := ?_; clear_value x; swap; subst x; swap) | (have hx : Keeps1 k d0 x := ?_; clear_value x; swap; subst x; swap) | subst x)
    | exact Allow.cls_S rfl
    | exact hB
    | exact hP
    | exact hH
    | exact hI
    | with_reducible refine Dev.reset_keeps hB hP hH hI hNvm ?_
    | with_reducible exact Keeps.units (by assumption)
    | split

theorem Dev.softReset_keeps {k : Allow} {d0 : Dev} (hB : k.b = true) (hP : k.p = true) (hH : k.h = true) (hI : k.i = true) (hNvm : k.nvm = true) {d : Dev} (h : Keeps k d0 d) : Keeps k d0 (Dev.softReset d) := by
  unfold Dev.softReset
  repeat' first
    | with_reducible assumption
    | (extract_lets +onlyGivenNames x; first | (have hx : Keeps k d0 x := ?_; clear_value x; swap; subst x; swap) | (have hx : Keeps1 k d0 x := ?_; clear_value x; swap; subst x; swap) | subst x)
    | exact Allow.cls_S rfl
    | exact hB
    | exact hP
    | exact hH
    | exact hI
    | with_reducible refine Dev.reset_keeps hB hP hH hI hNvm ?_
    | with_reducible exact Keeps.units (by assumption)
    | split

theorem Dev.pinReset_keeps {k : Allow} {d0 : Dev} (hB : k.b = true) (hP : k.p = true) (hH : k.h = true) (hI : k.i = true) (hNvm : k.nvm = true) {d : Dev} (h : Keeps k d0 d) : Keeps k d0 (Dev.pinReset d) := by
  unfold Dev.pinReset
  repeat' first
    | with_reducible assumption
    | (extract_lets +onlyGivenNames x; first | (have hx : Keeps k d0 x := ?_; clear_value x; swap; subst x; swap) | (have hx : Keeps1 k d0 x := ?_; clear_value x; swap; subst x; swap) | subst x)
    | exact Allow.cls_S rfl
    | exact hB
    | exact hP
    | exact hH
    | exact hI
    | with_reducible refine Dev.reset_keeps hB hP hH hI hNvm ?_
    | with_reducible refine Keeps.wr ?_ ?_
    | with_reducible exact Keeps.units (by assumption)
    | split

theorem Dev.resetNRise_keeps {k : Allow} {d0 : Dev} {d : Dev} (h : Keeps k d0 d) : Keeps k d0 (Dev.resetNRise d) := by
  unfold Dev.resetNRise
  repeat' first
    | with_reducible assumption
    | (extract_lets +onlyGivenNames x; first | (have hx : Keeps k d0 x := ?_; clear_value x; swap; subst x; swap) | (have hx : Keeps1 k d0 x := ?_; clear_value x; swap; subst x; swap) | subst x)
    | exact Allow.cls_S rfl
    | with_reducible exact Keeps.units (by assumption)
    | split

theorem Dev.applyState_keeps {k : Allow} {d0 : Dev} {d : Dev} {st : Nat} (h : Keeps k d0 d) : Keeps k d0 (Dev.applyState d st) := by
  unfold Dev.applyState
  repeat' first
    | with_reducible assumption
    | (extract_lets +onlyGivenNames x; first | (have hx : Keeps k d0 x := ?_; clear_value x; swap; subst x; swap) | (have hx : Keeps1 k d0 x := ?_; clear_value x; swap; subst x; swap) | subst x)
    | exact Allow.cls_S rfl
    | with_reducible refine Dev.notify_keeps ?_
    | with_reducible refine Keeps.wr ?_ ?_
    | with_reducible exact Keeps.units (by assumption)
    | split

theorem Dev.endApply_keeps {k : Allow} {d0 : Dev} {d : Dev} (h : Keeps k d0 d) : Keeps k d0 (Dev.endApply d) := by
  unfold Dev.endApply
  repeat' first
    | with_reducible assumption
    | (extract_lets +onlyGivenNames x; first | (have hx : Keeps k d0 x := ?_; clear_value x; swap; subst x; swap) | (have hx : Keeps1 k d0 x := ?_; clear_value x; swap; subst x; swap) | subst x)
    | exact Allow.cls_S rfl
    | with_reducible refine Dev.applyState_keeps ?_
    | with_reducible refine Keeps.wr ?_ ?_
    | with_reducible exact Keeps.units (by assumption)
    | split

theorem Dev.refuseApply_keeps {k : Allow} {d0 : Dev} (hB : k.b = true) {d : Dev} {code : Nat} {addr : Nat} (h : Keeps k d0 d) : Keeps k d0 (Dev.refuseApply d code addr) := by
  unfold Dev.refuseApply
  repeat' first
    | with_reducible assumption
    | (extract_lets +onlyGivenNames x; first | (have hx : Keeps k d0 x := ?_; clear_value x; swap; subst x; swap) | (have hx : Keeps1 k d0 x := ?_; clear_value x; swap; subst x; swap) | subst x)
    | exact Allow.cls_S rfl
    | exact hB
    | with_reducible refine Dev.endApply_keeps ?_
    | with_reducible refine Dev.fault_keeps hB ?_
    | with_reducible refine Keeps.wr ?_ ?_
    | with_reducible exact Keeps.units (by assumption)
    | split

theorem Dev.showSlots_keeps {k : Allow} {d0 : Dev} {d : Dev} (h : Keeps k d0 d) : Keeps k d0 (Dev.showSlots d) := by
  unfold Dev.showSlots
  repeat' first
    | with_reducible assumption
    | (extract_lets +onlyGivenNames x; first | (have hx : Keeps k d0 x := ?_; clear_value x; swap; subst x; swap) | (have hx : Keeps1 k d0 x := ?_; clear_value x; swap; subst x; swap) | subst x)
    | exact Allow.cls_S rfl
    | ((with_reducible first | refine Allow.cls_mem (by assumption) ?_ | refine Allow.cls_fst (by assumption) ?_ | refine Allow.cls_snd (by assumption) ?_); rfl)
    | with_reducible refine Keeps.wr ?_ ?_
    | with_reducible refine Keeps.each ?_ (fun d x hm hd => ?_)
    | with_reducible exact Keeps.units (by assumption)
    | split

theorem Dev.checkViov_keeps {k : Allow} {d0 : Dev} (hB : k.b = true) {d : Dev} (h : Keeps k d0 d) : Keeps k d0 (Dev.checkViov d) := by
  unfold Dev.checkViov
  repeat' first
    | with_reducible assumption
    | (extract_lets +onlyGivenNames x; first | (have hx : Keeps k d0 x := ?_; clear_value x; swap; subst x; swap) | (have hx : Keeps1 k d0 x := ?_; clear_value x; swap; subst x; swap) | subst x)
    | exact Allow.cls_S rfl
    | exact hB
    | with_reducible refine Dev.fault_keeps hB ?_
    | with_reducible refine Dev.filter_keeps ?_
    | with_reducible exact Keeps.units (by assumption)
    | split

theorem Dev.disableVoice_keeps {k : Allow} {d0 : Dev} {d : Dev} {n : Nat} (h : Keeps k d0 d) : Keeps k d0 (Dev.disableVoice d n) := by
  unfold Dev.disableVoice
  repeat' first
    | with_reducible assumption
    | (extract_lets +onlyGivenNames x; first | (have hx : Keeps k d0 x := ?_; clear_value x; swap; subst x; swap) | (have hx : Keeps1 k d0 x := ?_; clear_value x; swap; subst x; swap) | subst x)
    | exact Allow.cls_S rfl
    | with_reducible refine Dev.stopTuning_keeps ?_
    | with_reducible refine Dev.putVoice_keeps ?_
    | with_reducible refine Keeps.wr ?_ ?_
    | with_reducible exact Keeps.units (by assumption)
    | split

theorem Dev.restartVoice_keeps {k : Allow} {d0 : Dev} {d : Dev} {n : Nat} {ext : Nat} (h : Keeps k d0 d) : Keeps k d0 (Dev.restartVoice d n ext) := by
  unfold Dev.restartVoice
  repeat' first
    | with_reducible assumption
    | (extract_lets +onlyGivenNames x; first | (have hx : Keeps k d0 x := ?_; clear_value x; swap; subst x; swap) | (have hx : Keeps1 k d0 x := ?_; clear_value x; swap; subst x; swap) | subst x)
    | exact Allow.cls_S rfl
    | with_reducible refine Dev.followOwner_keeps ?_
    | with_reducible refine Dev.beginTuning_keeps ?_
    | with_reducible refine Dev.putVoice_keeps ?_
    | with_reducible refine Keeps.wr ?_ ?_
    | with_reducible exact Keeps.units (by assumption)
    | split

theorem Dev.applyVoices_keeps {k : Allow} {d0 : Dev} {d : Dev} {o : Dev} {ext : Nat} (h : Keeps k d0 d) : Keeps k d0 (Dev.applyVoices d o ext) := by
  unfold Dev.applyVoices
  repeat' first
    | with_reducible assumption
    | (extract_lets +onlyGivenNames x; first | (have hx : Keeps k d0 x := ?_; clear_value x; swap; subst x; swap) | (have hx : Keeps1 k d0 x := ?_; clear_value x; swap; subst x; swap) | subst x)
    | exact Allow.cls_S rfl
    | ((with_reducible first | refine Allow.cls_mem (by assumption) ?_ | refine Allow.cls_fst (by assumption) ?_ | refine Allow.cls_snd (by assumption) ?_); rfl)
    | with_reducible refine Dev.disableVoice_keeps ?_
    | with_reducible refine Dev.restartVoice_keeps ?_
    | with_reducible refine Dev.clampK_keeps ?_
    | with_reducible refine Keeps.each ?_ (fun d x hm hd => ?_)
    | with_reducible exact Keeps.units (by assumption)
    | split

theorem Dev.applyRings_keeps {k : Allow} {d0 : Dev} {d : Dev} {o : Dev} (h : Keeps k d0 d) : Keeps k d0 (Dev.applyRings d o) := by
  unfold Dev.applyRings
  repeat' first
    | with_reducible assumption
    | (extract_lets +onlyGivenNames x; first | (have hx : Keeps k d0 x := ?_; clear_value x; swap; subst x; swap) | (have hx : Keeps1 k d0 x := ?_; clear_value x; swap; subst x; swap) | subst x)
    | exact Allow.cls_S rfl
    | ((with_reducible first | refine Allow.cls_mem (by assumption) ?_ | refine Allow.cls_fst (by assumption) ?_ | refine Allow.cls_snd (by assumption) ?_); rfl)
    | with_reducible refine Dev.setFill_keeps ?_
    | with_reducible refine Dev.emptyRing_keeps ?_
    | with_reducible refine Keeps.each ?_ (fun d x hm hd => ?_)
    | with_reducible exact Keeps.units (by assumption)
    | split

theorem Dev.showThresholds_keeps {k : Allow} {d0 : Dev} {d : Dev} (h : Keeps k d0 d) : Keeps k d0 (Dev.showThresholds d) := by
  unfold Dev.showThresholds
  repeat' first
    | with_reducible assumption
    | (extract_lets +onlyGivenNames x; first | (have hx : Keeps k d0 x := ?_; clear_value x; swap; subst x; swap) | (have hx : Keeps1 k d0 x := ?_; clear_value x; swap; subst x; swap) | subst x)
    | exact Allow.cls_S rfl
    | ((with_reducible first | refine Allow.cls_mem (by assumption) ?_ | refine Allow.cls_fst (by assumption) ?_ | refine Allow.cls_snd (by assumption) ?_); rfl)
    | with_reducible refine Keeps.wr ?_ ?_
    | with_reducible refine Keeps.each ?_ (fun d x hm hd => ?_)
    | with_reducible exact Keeps.units (by assumption)
    | split

theorem Dev.monitorOff_keeps {k : Allow} {d0 : Dev} {d : Dev} {m : Nat} (h : Keeps k d0 d) : Keeps k d0 (Dev.monitorOff d m) := by
  unfold Dev.monitorOff
  repeat' first
    | with_reducible assumption
    | (extract_lets +onlyGivenNames x; first | (have hx : Keeps k d0 x := ?_; clear_value x; swap; subst x; swap) | (have hx : Keeps1 k d0 x := ?_; clear_value x; swap; subst x; swap) | subst x)
    | exact Allow.cls_S rfl
    | with_reducible refine Dev.putWm_keeps ?_
    | with_reducible refine Keeps.wr ?_ ?_
    | with_reducible exact Keeps.units (by assumption)
    | split

theorem Dev.applyMonitors_keeps {k : Allow} {d0 : Dev} {d : Dev} {o : Dev} (h : Keeps k d0 d) : Keeps k d0 (Dev.applyMonitors d o) := by
  unfold Dev.applyMonitors
  repeat' first
    | with_reducible assumption
    | (extract_lets +onlyGivenNames x; first | (have hx : Keeps k d0 x := ?_; clear_value x; swap; subst x; swap) | (have hx : Keeps1 k d0 x := ?_; clear_value x; swap; subst x; swap) | subst x)
    | exact Allow.cls_S rfl
    | ((with_reducible first | refine Allow.cls_mem (by assumption) ?_ | refine Allow.cls_fst (by assumption) ?_ | refine Allow.cls_snd (by assumption) ?_); rfl)
    | with_reducible refine Dev.restVoice_keeps ?_
    | with_reducible refine Dev.settleMonitor_keeps ?_
    | with_reducible refine Dev.monitorOff_keeps ?_
    | with_reducible refine Dev.showThresholds_keeps ?_
    | with_reducible refine Keeps.each ?_ (fun d x hm hd => ?_)
    | with_reducible exact Keeps.units (by assumption)
    | split

theorem Dev.wakeExc_keeps {k : Allow} {d0 : Dev} {d : Dev} {x0 : Nat} (h : Keeps k d0 d) : Keeps k d0 (Dev.wakeExc d x0) := by
  unfold Dev.wakeExc
  repeat' first
    | with_reducible assumption
    | (extract_lets +onlyGivenNames x; first | (have hx : Keeps k d0 x := ?_; clear_value x; swap; subst x; swap) | (have hx : Keeps1 k d0 x := ?_; clear_value x; swap; subst x; swap) | subst x)
    | exact Allow.cls_S rfl
    | with_reducible refine Dev.putExc_keeps ?_
    | with_reducible refine Keeps.wr ?_ ?_
    | with_reducible exact Keeps.units (by assumption)
    | split

theorem Dev.applyExcs_keeps {k : Allow} {d0 : Dev} {d : Dev} {o : Dev} (h : Keeps k d0 d) : Keeps k d0 (Dev.applyExcs d o) := by
  unfold Dev.applyExcs
  repeat' first
    | with_reducible assumption
    | (extract_lets +onlyGivenNames x; first | (have hx : Keeps k d0 x := ?_; clear_value x; swap; subst x; swap) | (have hx : Keeps1 k d0 x := ?_; clear_value x; swap; subst x; swap) | subst x)
    | exact Allow.cls_S rfl
    | ((with_reducible first | refine Allow.cls_mem (by assumption) ?_ | refine Allow.cls_fst (by assumption) ?_ | refine Allow.cls_snd (by assumption) ?_); rfl)
    | with_reducible refine Dev.driveExc_keeps ?_
    | with_reducible refine Dev.assertTrip_keeps ?_
    | with_reducible refine Dev.wakeExc_keeps ?_
    | with_reducible refine Dev.dropSchedule_keeps ?_
    | with_reducible refine Keeps.wr ?_ ?_
    | with_reducible refine Keeps.each ?_ (fun d x hm hd => ?_)
    | with_reducible exact Keeps.units (by assumption)
    | split

theorem Dev.applyCapture_keeps {k : Allow} {d0 : Dev} {d : Dev} {o : Dev} (h : Keeps k d0 d) : Keeps k d0 (Dev.applyCapture d o) := by
  unfold Dev.applyCapture
  repeat' first
    | with_reducible assumption
    | (extract_lets +onlyGivenNames x; first | (have hx : Keeps k d0 x := ?_; clear_value x; swap; subst x; swap) | (have hx : Keeps1 k d0 x := ?_; clear_value x; swap; subst x; swap) | subst x)
    | exact Allow.cls_S rfl
    | with_reducible refine Dev.enableCapture_keeps ?_
    | with_reducible refine Dev.flushCapture_keeps ?_
    | with_reducible refine Dev.takeSegment_keeps ?_
    | with_reducible refine Dev.indexCapture_keeps ?_
    | with_reducible refine Dev.disableCapture_keeps ?_
    | with_reducible exact Keeps.units (by assumption)
    | split

theorem Dev.applyAnas_keeps {k : Allow} {d0 : Dev} {d : Dev} {o : Dev} {ext : Nat} (h : Keeps k d0 d) : Keeps k d0 (Dev.applyAnas d o ext) := by
  unfold Dev.applyAnas
  repeat' first
    | with_reducible assumption
    | (extract_lets +onlyGivenNames x; first | (have hx : Keeps k d0 x := ?_; clear_value x; swap; subst x; swap) | (have hx : Keeps1 k d0 x := ?_; clear_value x; swap; subst x; swap) | subst x)
    | exact Allow.cls_S rfl
    | ((with_reducible first | refine Allow.cls_mem (by assumption) ?_ | refine Allow.cls_fst (by assumption) ?_ | refine Allow.cls_snd (by assumption) ?_); rfl)
    | with_reducible refine Dev.putAna_keeps ?_
    | with_reducible refine Keeps.each ?_ (fun d x hm hd => ?_)
    | with_reducible exact Keeps.units (by assumption)
    | split

theorem Dev.takeTable_keeps {k : Allow} {d0 : Dev} (hI : k.i = true) {d : Dev} {t : Store} (h : Keeps k d0 d) : Keeps k d0 (Dev.takeTable d t) :=
  Keeps.setRegs h (fun w => RegFile.wf_setTable w (Store.wf_canon t))
    (fun c hc => RegFile.table_setTable_other _ _ (fun e => by rw [e] at hc; exact absurd (hI.symm.trans hc) (by decide)))

theorem Dev.showActive_keeps {k : Allow} {d0 : Dev} {d : Dev} {m : ImgSt} (h : Keeps k d0 d) : Keeps k d0 (Dev.showActive d m) := by
  unfold Dev.showActive
  repeat' first
    | with_reducible assumption
    | (extract_lets +onlyGivenNames x; first | (have hx : Keeps k d0 x := ?_; clear_value x; swap; subst x; swap) | (have hx : Keeps1 k d0 x := ?_; clear_value x; swap; subst x; swap) | subst x)
    | exact Allow.cls_S rfl
    | with_reducible refine Keeps.wr ?_ ?_
    | with_reducible exact Keeps.units (by assumption)
    | split

theorem Dev.sendCfgHash_keeps {k : Allow} {d0 : Dev} {d : Dev} (h : Keeps k d0 d) : Keeps k d0 (Dev.sendCfgHash d) := by
  unfold Dev.sendCfgHash
  repeat' first
    | with_reducible assumption
    | (extract_lets +onlyGivenNames x; first | (have hx : Keeps k d0 x := ?_; clear_value x; swap; subst x; swap) | (have hx : Keeps1 k d0 x := ?_; clear_value x; swap; subst x; swap) | subst x)
    | exact Allow.cls_S rfl
    | with_reducible refine Dev.send_keeps ?_
    | with_reducible exact Keeps.units (by assumption)
    | split

theorem Dev.portsDown_keeps {k : Allow} {d0 : Dev} {d : Dev} (h : Keeps k d0 d) : Keeps k d0 (Dev.portsDown d) := by
  unfold Dev.portsDown
  repeat' first
    | with_reducible assumption
    | (extract_lets +onlyGivenNames x; first | (have hx : Keeps k d0 x := ?_; clear_value x; swap; subst x; swap) | (have hx : Keeps1 k d0 x := ?_; clear_value x; swap; subst x; swap) | subst x)
    | exact Allow.cls_S rfl
    | ((with_reducible first | refine Allow.cls_mem (by assumption) ?_ | refine Allow.cls_fst (by assumption) ?_ | refine Allow.cls_snd (by assumption) ?_); rfl)
    | ((with_reducible refine Allow.cls_S ?_); first | exact laneState_cls _ _ | exact laneFails_cls _ _ | exact laneErrors_cls _ _ | exact slotFld_cls _)
    | with_reducible refine Dev.showPort_keeps ?_
    | with_reducible refine Dev.putPort_keeps ?_
    | with_reducible refine Keeps.wr ?_ ?_
    | with_reducible refine Keeps.each ?_ (fun d x hm hd => ?_)
    | with_reducible exact Keeps.units (by assumption)
    | split

theorem Dev.choirOfOne_keeps {k : Allow} {d0 : Dev} {d : Dev} (h : Keeps k d0 d) : Keeps k d0 (Dev.choirOfOne d) := by
  unfold Dev.choirOfOne
  repeat' first
    | with_reducible assumption
    | (extract_lets +onlyGivenNames x; first | (have hx : Keeps k d0 x := ?_; clear_value x; swap; subst x; swap) | (have hx : Keeps1 k d0 x := ?_; clear_value x; swap; subst x; swap) | subst x)
    | exact Allow.cls_S rfl
    | with_reducible refine Dev.putChoir_keeps ?_
    | with_reducible refine Dev.portsDown_keeps ?_
    | with_reducible refine Keeps.wr ?_ ?_
    | with_reducible exact Keeps.units (by assumption)
    | split

theorem Dev.applyRole_keeps {k : Allow} {d0 : Dev} {d : Dev} {o : Dev} (h : Keeps k d0 d) : Keeps k d0 (Dev.applyRole d o) := by
  unfold Dev.applyRole
  repeat' first
    | with_reducible assumption
    | (extract_lets +onlyGivenNames x; first | (have hx : Keeps k d0 x := ?_; clear_value x; swap; subst x; swap) | (have hx : Keeps1 k d0 x := ?_; clear_value x; swap; subst x; swap) | subst x)
    | exact Allow.cls_S rfl
    | with_reducible refine Dev.followOcxo_keeps ?_
    | with_reducible refine Dev.choirOfOne_keeps ?_
    | with_reducible refine Dev.putChoir_keeps ?_
    | with_reducible refine Keeps.wr ?_ ?_
    | with_reducible exact Keeps.units (by assumption)
    | split

theorem Dev.applyChoir_keeps {k : Allow} {d0 : Dev} {d : Dev} (h : Keeps k d0 d) : Keeps k d0 (Dev.applyChoir d) := by
  unfold Dev.applyChoir
  repeat' first
    | with_reducible assumption
    | (extract_lets +onlyGivenNames x; first | (have hx : Keeps k d0 x := ?_; clear_value x; swap; subst x; swap) | (have hx : Keeps1 k d0 x := ?_; clear_value x; swap; subst x; swap) | subst x)
    | exact Allow.cls_S rfl
    | ((with_reducible first | refine Allow.cls_mem (by assumption) ?_ | refine Allow.cls_fst (by assumption) ?_ | refine Allow.cls_snd (by assumption) ?_); rfl)
    | with_reducible refine Dev.sendCfgHash_keeps ?_
    | with_reducible refine Dev.followOwner_keeps ?_
    | with_reducible refine Dev.putChoir_keeps ?_
    | with_reducible refine Dev.retrain_keeps ?_
    | with_reducible refine Keeps.each ?_ (fun d x hm hd => ?_)
    | with_reducible exact Keeps.units (by assumption)
    | split

theorem Dev.applySetpoint_keeps {k : Allow} {d0 : Dev} {d : Dev} {i : Nat} (h : Keeps k d0 d) : Keeps k d0 (Dev.applySetpoint d i) := by
  unfold Dev.applySetpoint
  repeat' first
    | with_reducible assumption
    | (extract_lets +onlyGivenNames x; first | (have hx : Keeps k d0 x := ?_; clear_value x; swap; subst x; swap) | (have hx : Keeps1 k d0 x := ?_; clear_value x; swap; subst x; swap) | subst x)
    | exact Allow.cls_S rfl
    | with_reducible refine Dev.spPin_keeps ?_
    | with_reducible refine Dev.spForce_keeps ?_
    | with_reducible exact Keeps.units (by assumption)
    | split

theorem Dev.applyWeighing_keeps {k : Allow} {d0 : Dev} {d : Dev} {o : Dev} (h : Keeps k d0 d) : Keeps k d0 (Dev.applyWeighing d o) := by
  unfold Dev.applyWeighing
  repeat' first
    | with_reducible assumption
    | (extract_lets +onlyGivenNames x; first | (have hx : Keeps k d0 x := ?_; clear_value x; swap; subst x; swap) | (have hx : Keeps1 k d0 x := ?_; clear_value x; swap; subst x; swap) | subst x)
    | exact Allow.cls_S rfl
    | ((with_reducible first | refine Allow.cls_mem (by assumption) ?_ | refine Allow.cls_fst (by assumption) ?_ | refine Allow.cls_snd (by assumption) ?_); rfl)
    | with_reducible refine Dev.followTach_keeps ?_
    | with_reducible refine Dev.startTrack_keeps ?_
    | with_reducible refine Dev.totStart_keeps ?_
    | with_reducible refine Dev.totLow_keeps ?_
    | with_reducible refine Dev.applySetpoint_keeps ?_
    | with_reducible refine Dev.startPipeline_keeps ?_
    | with_reducible refine Keeps.wr ?_ ?_
    | with_reducible refine Keeps.each ?_ (fun d x hm hd => ?_)
    | with_reducible exact Keeps.units (by assumption)
    | split

theorem Dev.restTimer_keeps {k : Allow} {d0 : Dev} {d : Dev} {t : Nat} {reason : Nat} (h : Keeps k d0 d) : Keeps k d0 (Dev.restTimer d t reason) := by
  unfold Dev.restTimer
  repeat' first
    | with_reducible assumption
    | (extract_lets +onlyGivenNames x; first | (have hx : Keeps k d0 x := ?_; clear_value x; swap; subst x; swap) | (have hx : Keeps1 k d0 x := ?_; clear_value x; swap; subst x; swap) | subst x)
    | exact Allow.cls_S rfl
    | ((with_reducible first | refine Allow.cls_mem (by assumption) ?_ | refine Allow.cls_fst (by assumption) ?_ | refine Allow.cls_snd (by assumption) ?_); rfl)
    | with_reducible refine Dev.putAna_keeps ?_
    | with_reducible refine Dev.putVoice_keeps ?_
    | with_reducible refine Keeps.each ?_ (fun d x hm hd => ?_)
    | with_reducible exact Keeps.units (by assumption)
    | split

theorem Dev.anaCatchUp_keeps {k : Allow} {d0 : Dev} (hB : k.b = true) {d : Dev} {ext : Nat} (h : Keeps k d0 d) : Keeps k d0 (Dev.anaCatchUp d ext) := by
  unfold Dev.anaCatchUp
  repeat' first
    | with_reducible assumption
    | (extract_lets +onlyGivenNames x; first | (have hx : Keeps k d0 x := ?_; clear_value x; swap; subst x; swap) | (have hx : Keeps1 k d0 x := ?_; clear_value x; swap; subst x; swap) | subst x)
    | exact Allow.cls_S rfl
    | exact hB
    | ((with_reducible first | refine Allow.cls_mem (by assumption) ?_ | refine Allow.cls_fst (by assumption) ?_ | refine Allow.cls_snd (by assumption) ?_); rfl)
    | with_reducible refine Dev.anaReach_keeps hB ?_
    | with_reducible refine Dev.preFeed_keeps ?_
    | with_reducible refine Dev.anaTrigger_keeps hB ?_
    | with_reducible refine Keeps.each ?_ (fun d x hm hd => ?_)
    | with_reducible exact Keeps.units (by assumption)
    | split

theorem Dev.endPeriods_keeps {k : Allow} {d0 : Dev} (hB : k.b = true) {d : Dev} {new : Dev} {ends : List Nat} {ext : Nat} (h : Keeps k d0 d) : Keeps k d0 (Dev.endPeriods d new ends ext) := by
  unfold Dev.endPeriods
  repeat' first
    | with_reducible assumption
    | (extract_lets +onlyGivenNames x; first | (have hx : Keeps k d0 x := ?_; clear_value x; swap; subst x; swap) | (have hx : Keeps1 k d0 x := ?_; clear_value x; swap; subst x; swap) | subst x)
    | exact Allow.cls_S rfl
    | exact hB
    | ((with_reducible first | refine Allow.cls_mem (by assumption) ?_ | refine Allow.cls_fst (by assumption) ?_ | refine Allow.cls_snd (by assumption) ?_); rfl)
    | with_reducible refine Dev.anaEndOne_keeps ?_
    | with_reducible refine Dev.endContexts_keeps ?_
    | with_reducible refine Dev.filter_keeps ?_
    | with_reducible refine Dev.anaEndPeriod_keeps ?_
    | with_reducible refine Dev.endPeriod_keeps ?_
    | with_reducible refine Dev.restTimer_keeps ?_
    | with_reducible refine Dev.anaCatchUp_keeps hB ?_
    | with_reducible refine Dev.drainFits_keeps ?_
    | with_reducible refine Keeps.each ?_ (fun d x hm hd => ?_)
    | with_reducible exact Keeps.units (by assumption)
    | split

theorem Dev.startTimer_keeps {k : Allow} {d0 : Dev} {d : Dev} {t : Nat} (h : Keeps k d0 d) : Keeps k d0 (Dev.startTimer d t) := by
  unfold Dev.startTimer
  repeat' first
    | with_reducible assumption
    | (extract_lets +onlyGivenNames x; first | (have hx : Keeps k d0 x := ?_; clear_value x; swap; subst x; swap) | (have hx : Keeps1 k d0 x := ?_; clear_value x; swap; subst x; swap) | subst x)
    | exact Allow.cls_S rfl
    | with_reducible refine Dev.putTimer_keeps ?_
    | with_reducible refine Keeps.wr ?_ ?_
    | with_reducible exact Keeps.units (by assumption)
    | split

theorem Dev.joinTimers_keeps {k : Allow} {d0 : Dev} (hB : k.b = true) (hH : k.h = true) {d : Dev} {o : Dev} {ends : List Nat} {ext : Nat} {gated : Bool} (h : Keeps k d0 d) : Keeps k d0 (Dev.joinTimers d o ends ext gated) := by
  unfold Dev.joinTimers
  repeat' first
    | with_reducible assumption
    | (extract_lets +onlyGivenNames x; first | (have hx : Keeps k d0 x := ?_; clear_value x; swap; subst x; swap) | (have hx : Keeps1 k d0 x := ?_; clear_value x; swap; subst x; swap) | subst x)
    | exact Allow.cls_S rfl
    | exact hB
    | exact hH
    | ((with_reducible first | refine Allow.cls_mem (by assumption) ?_ | refine Allow.cls_fst (by assumption) ?_ | refine Allow.cls_snd (by assumption) ?_); rfl)
    | with_reducible refine Dev.putAna_keeps ?_
    | with_reducible refine Dev.takeLater_keeps hB hH ?_
    | with_reducible refine Dev.restVoice_keeps ?_
    | with_reducible refine Dev.freshRecord_keeps ?_
    | with_reducible refine Dev.filter_keeps ?_
    | with_reducible refine Keeps.each ?_ (fun d x hm hd => ?_)
    | with_reducible exact Keeps.units (by assumption)
    | split

theorem Dev.applyTimers_keeps {k : Allow} {d0 : Dev} (hB : k.b = true) (hH : k.h = true) {d : Dev} {o : Dev} {ends : List Nat} {ext : Nat} {gated : Bool} (h : Keeps k d0 d) : Keeps k d0 (Dev.applyTimers d o ends ext gated) := by
  unfold Dev.applyTimers
  repeat' first
    | with_reducible assumption
    | (extract_lets +onlyGivenNames x; first | (have hx : Keeps k d0 x := ?_; clear_value x; swap; subst x; swap) | (have hx : Keeps1 k d0 x := ?_; clear_value x; swap; subst x; swap) | subst x)
    | exact Allow.cls_S rfl
    | exact hB
    | exact hH
    | ((with_reducible first | refine Allow.cls_mem (by assumption) ?_ | refine Allow.cls_fst (by assumption) ?_ | refine Allow.cls_snd (by assumption) ?_); rfl)
    | with_reducible refine Dev.restTimer_keeps ?_
    | with_reducible refine Dev.startTimer_keeps ?_
    | with_reducible refine Dev.putTimer_keeps ?_
    | with_reducible refine Dev.restVoice_keeps ?_
    | with_reducible refine Dev.joinTimers_keeps hB hH ?_
    | with_reducible refine Dev.anaBeginPeriod_keeps ?_
    | with_reducible refine Dev.beginPeriod_keeps hB hH ?_
    | with_reducible refine Keeps.wr ?_ ?_
    | with_reducible refine Keeps.each ?_ (fun d x hm hd => ?_)
    | with_reducible exact Keeps.units (by assumption)
    | split

theorem Dev.markGroups_keeps {k : Allow} {d0 : Dev} {d : Dev} {o : Dev} (h : Keeps k d0 d) : Keeps k d0 (Dev.markGroups d o) := by
  unfold Dev.markGroups
  repeat' first
    | with_reducible assumption
    | (extract_lets +onlyGivenNames x; first | (have hx : Keeps k d0 x := ?_; clear_value x; swap; subst x; swap) | (have hx : Keeps1 k d0 x := ?_; clear_value x; swap; subst x; swap) | subst x)
    | exact Allow.cls_S rfl
    | with_reducible exact Keeps.units (by assumption)
    | split

theorem Dev.switchImage_keeps {k : Allow} {d0 : Dev} (hB : k.b = true) (hH : k.h = true) (hI : k.i = true) {d : Dev} {t0 : Nat} {ext : Nat} {gated : Bool} (h : Keeps k d0 d) : Keeps k d0 (Dev.switchImage d t0 ext gated) := by
  unfold Dev.switchImage
  repeat' first
    | with_reducible assumption
    | (extract_lets +onlyGivenNames x; first | (have hx : Keeps k d0 x := ?_; clear_value x; swap; subst x; swap) | (have hx : Keeps1 k d0 x := ?_; clear_value x; swap; subst x; swap) | subst x)
    | exact Allow.cls_S rfl
    | exact hB
    | exact hH
    | exact hI
    | ((with_reducible first | refine Allow.cls_mem (by assumption) ?_ | refine Allow.cls_fst (by assumption) ?_ | refine Allow.cls_snd (by assumption) ?_); rfl)
    | with_reducible refine Dev.endApply_keeps ?_
    | with_reducible refine Dev.planSwitch_keeps ?_
    | with_reducible refine Dev.decideSwitch_keeps ?_
    | with_reducible refine Dev.imageRefOut_keeps ?_
    | with_reducible refine Dev.fault_keeps hB ?_
    | with_reducible refine Dev.applyTimers_keeps hB hH ?_
    | with_reducible refine Dev.applyState_keeps ?_
    | with_reducible refine Dev.applyChoir_keeps ?_
    | with_reducible refine Dev.applyWeighing_keeps ?_
    | with_reducible refine Dev.computeEps_keeps hB ?_
    | with_reducible refine Dev.applyCapture_keeps ?_
    | with_reducible refine Dev.applyAnas_keeps ?_
    | with_reducible refine Dev.applyExcs_keeps ?_
    | with_reducible refine Dev.applyMonitors_keeps ?_
    | with_reducible refine Dev.applyRings_keeps ?_
    | with_reducible refine Dev.raiseEpoch_keeps ?_
    | with_reducible refine Dev.checkViov_keeps hB ?_
    | with_reducible refine Dev.applyVoices_keeps ?_
    | with_reducible refine Dev.markGroups_keeps ?_
    | with_reducible refine Dev.applyRole_keeps ?_
    | with_reducible refine Dev.showActive_keeps ?_
    | with_reducible refine Dev.endPeriods_keeps hB ?_
    | with_reducible refine Dev.takeTable_keeps hI ?_
    | with_reducible refine Keeps.wr ?_ ?_
    | with_reducible refine Keeps.each ?_ (fun d x hm hd => ?_)
    | with_reducible exact Keeps.units (by assumption)
    | split

theorem Dev.transitionEnd_keeps {k : Allow} {d0 : Dev} {d : Dev} (h : Keeps k d0 d) : Keeps k d0 (Dev.transitionEnd d) := by
  unfold Dev.transitionEnd
  repeat' first
    | with_reducible assumption
    | (extract_lets +onlyGivenNames x; first | (have hx : Keeps k d0 x := ?_; clear_value x; swap; subst x; swap) | (have hx : Keeps1 k d0 x := ?_; clear_value x; swap; subst x; swap) | subst x)
    | exact Allow.cls_S rfl
    | with_reducible refine Dev.endApply_keeps ?_
    | with_reducible exact Keeps.units (by assumption)
    | split

theorem Dev.startApply_keeps {k : Allow} {d0 : Dev} {load : Bool} {d : Dev} (h : Keeps k d0 d) : Keeps k d0 (Dev.startApply load d) := by
  unfold Dev.startApply
  repeat' first
    | with_reducible assumption
    | (extract_lets +onlyGivenNames x; first | (have hx : Keeps k d0 x := ?_; clear_value x; swap; subst x; swap) | (have hx : Keeps1 k d0 x := ?_; clear_value x; swap; subst x; swap) | subst x)
    | exact Allow.cls_S rfl
    | with_reducible refine Dev.applyState_keeps ?_
    | with_reducible refine Keeps.wr ?_ ?_
    | with_reducible exact Keeps.units (by assumption)
    | split

theorem Dev.cancelApply_keeps {k : Allow} {d0 : Dev} {d : Dev} (h : Keeps k d0 d) : Keeps k d0 (Dev.cancelApply d) := by
  unfold Dev.cancelApply
  repeat' first
    | with_reducible assumption
    | (extract_lets +onlyGivenNames x; first | (have hx : Keeps k d0 x := ?_; clear_value x; swap; subst x; swap) | (have hx : Keeps1 k d0 x := ?_; clear_value x; swap; subst x; swap) | subst x)
    | exact Allow.cls_S rfl
    | with_reducible refine Dev.endApply_keeps ?_
    | with_reducible exact Keeps.units (by assumption)
    | split

theorem Dev.programKeyFuses_keeps {k : Allow} {d0 : Dev} (hFuse : k.fuse = true) {d : Dev} (h : Keeps k d0 d) : Keeps k d0 (Dev.programKeyFuses d) := by
  unfold Dev.programKeyFuses
  split
  · next hm =>
    refine Keeps.setFuses hFuse h ?_
    unfold Dev.mayFuse at hm
    cases hk : d.fuses.keySet
    · rfl
    · simp [hk] at hm
  · exact h

theorem Dev.noteImage_keeps {k : Allow} {d0 : Dev} {d : Dev} {v : Verdict} {b : List Nat} (h : Keeps k d0 d) : Keeps k d0 (Dev.noteImage d v b) := by
  unfold Dev.noteImage
  repeat' first
    | with_reducible assumption
    | (extract_lets +onlyGivenNames x; first | (have hx : Keeps k d0 x := ?_; clear_value x; swap; subst x; swap) | (have hx : Keeps1 k d0 x := ?_; clear_value x; swap; subst x; swap) | subst x)
    | exact Allow.cls_S rfl
    | with_reducible refine Keeps.wr ?_ ?_
    | with_reducible exact Keeps.units (by assumption)
    | split

theorem Dev.validationDone_keeps {k : Allow} {d0 : Dev} (hB : k.b = true) {failed : Bool} {d : Dev} (h : Keeps k d0 d) : Keeps k d0 (Dev.validationDone failed d) := by
  unfold Dev.validationDone
  repeat' first
    | with_reducible assumption
    | (extract_lets +onlyGivenNames x; first | (have hx : Keeps k d0 x := ?_; clear_value x; swap; subst x; swap) | (have hx : Keeps1 k d0 x := ?_; clear_value x; swap; subst x; swap) | subst x)
    | exact Allow.cls_S rfl
    | exact hB
    | ((with_reducible refine Allow.cls_S ?_); first | exact laneState_cls _ _ | exact laneFails_cls _ _ | exact laneErrors_cls _ _ | exact slotFld_cls _)
    | with_reducible refine Dev.applyState_keeps ?_
    | with_reducible refine Dev.noteImage_keeps ?_
    | with_reducible refine Dev.reportAuditFull_keeps hB ?_
    | with_reducible refine Dev.refuseApply_keeps hB ?_
    | with_reducible refine Dev.fault_keeps hB ?_
    | with_reducible exact Keeps.units (by assumption)
    | split

theorem Dev.arm_keeps {k : Allow} {d0 : Dev} {d : Dev} (h : Keeps k d0 d) : Keeps k d0 (Dev.arm d) := by
  unfold Dev.arm
  repeat' first
    | with_reducible assumption
    | (extract_lets +onlyGivenNames x; first | (have hx : Keeps k d0 x := ?_; clear_value x; swap; subst x; swap) | (have hx : Keeps1 k d0 x := ?_; clear_value x; swap; subst x; swap) | subst x)
    | exact Allow.cls_S rfl
    | with_reducible refine Dev.sendCmd_keeps ?_
    | with_reducible refine Dev.sendCmdAll_keeps ?_
    | with_reducible refine Dev.applyState_keeps ?_
    | with_reducible refine Keeps.wr ?_ ?_
    | with_reducible exact Keeps.units (by assumption)
    | split

theorem Dev.failCommit_keeps {k : Allow} {d0 : Dev} (hB : k.b = true) {d : Dev} (h : Keeps k d0 d) : Keeps k d0 (Dev.failCommit d) := by
  unfold Dev.failCommit
  repeat' first
    | with_reducible assumption
    | (extract_lets +onlyGivenNames x; first | (have hx : Keeps k d0 x := ?_; clear_value x; swap; subst x; swap) | (have hx : Keeps1 k d0 x := ?_; clear_value x; swap; subst x; swap) | subst x)
    | exact Allow.cls_S rfl
    | exact hB
    | with_reducible refine Dev.refuseApply_keeps hB ?_
    | with_reducible refine Dev.fault_keeps hB ?_
    | with_reducible refine Dev.showSlots_keeps ?_
    | with_reducible exact Keeps.units (by assumption)
    | split

theorem Dev.commitProgram_keeps {k : Allow} {d0 : Dev} (hN : k.n = true) (hNvm : k.nvm = true) {d : Dev} {n : Nat} (h : Keeps k d0 d) : Keeps k d0 (Dev.commitProgram d n) := by
  unfold Dev.commitProgram
  repeat' first
    | with_reducible assumption
    | (extract_lets +onlyGivenNames x; first | (have hx : Keeps k d0 x := ?_; clear_value x; swap; subst x; swap) | (have hx : Keeps1 k d0 x := ?_; clear_value x; swap; subst x; swap) | subst x)
    | exact Allow.cls_S rfl
    | exact hN
    | with_reducible refine Dev.settleAudit_keeps hN hNvm ?_
    | with_reducible refine Dev.program_keeps hNvm ?_
    | with_reducible refine Dev.writeAudit_keeps hN hNvm ?_
    | with_reducible exact Keeps.units (by assumption)
    | split

theorem Dev.commitFails_keeps {k : Allow} {d0 : Dev} (hN : k.n = true) (hB : k.b = true) (hNvm : k.nvm = true) {d : Dev} {n : Nat} (h : Keeps k d0 d) : Keeps k d0 (Dev.commitFails d n) := by
  unfold Dev.commitFails
  repeat' first
    | with_reducible assumption
    | (extract_lets +onlyGivenNames x; first | (have hx : Keeps k d0 x := ?_; clear_value x; swap; subst x; swap) | (have hx : Keeps1 k d0 x := ?_; clear_value x; swap; subst x; swap) | subst x)
    | exact Allow.cls_S rfl
    | exact hN
    | exact hB
    | with_reducible refine Dev.fault_keeps hB ?_
    | with_reducible refine Dev.countAudit_keeps hN ?_
    | with_reducible refine Dev.spoil_keeps hNvm ?_
    | with_reducible refine Dev.failCommit_keeps hB ?_
    | with_reducible refine Dev.writeAudit_keeps hN hNvm ?_
    | with_reducible exact Keeps.units (by assumption)
    | split

end Sys2Proof.Machine
end

