-- ==== Sys2Proof/Laws/Effects5.lean ====
section
/-! SUPPORT.
What each effect of the device keeps, part 5 of 6: `f_keeps` says which classes of fields, the NVM or the fuses `f` may change (its
hypotheses on `k`), and that it keeps the canonical forms.
-/

set_option linter.unusedTactic false
set_option linter.unreachableTactic false
set_option linter.unusedVariables false
set_option maxRecDepth 4000

namespace Sys2Proof.Machine

set_option Elab.async false

theorem Dev.afterCommit_keeps {k : Allow} {d0 : Dev} (hB : k.b = true) (hP : k.p = true) (hH : k.h = true) (hI : k.i = true) (hNvm : k.nvm = true) {d : Dev} (h : Keeps k d0 d) : Keeps k d0 (Dev.afterCommit d) := by
  unfold Dev.afterCommit
  repeat' first
    | with_reducible assumption
    | (extract_lets +onlyGivenNames x; first | (have hx : Keeps k d0 x := ?_; clear_value x; swap; subst x; swap) | (have hx : Keeps1 k d0 x := ?_; clear_value x; swap; subst x; swap) | subst x)
    | exact Allow.cls_S rfl
    | exact hB
    | exact hP
    | exact hH
    | exact hI
    | with_reducible refine Dev.arm_keeps ?_
    | with_reducible refine Dev.reset_keeps hB hP hH hI hNvm ?_
    | with_reducible refine Dev.showSlots_keeps ?_
    | with_reducible exact Keeps.units (by assumption)
    | split

theorem Dev.commitComplete_keeps {k : Allow} {d0 : Dev} (hN : k.n = true) (hB : k.b = true) (hP : k.p = true) (hH : k.h = true) (hI : k.i = true) (hNvm : k.nvm = true) {n : Nat} {failed : Bool} {d : Dev} (h : Keeps k d0 d) : Keeps k d0 (Dev.commitComplete n failed d) := by
  unfold Dev.commitComplete
  repeat' first
    | with_reducible assumption
    | (extract_lets +onlyGivenNames x; first | (have hx : Keeps k d0 x := ?_; clear_value x; swap; subst x; swap) | (have hx : Keeps1 k d0 x := ?_; clear_value x; swap; subst x; swap) | subst x)
    | exact Allow.cls_S rfl
    | exact hN
    | exact hB
    | exact hP
    | exact hH
    | exact hI
    | with_reducible refine Dev.afterCommit_keeps hB hP hH hI hNvm ?_
    | with_reducible refine Dev.showSlots_keeps ?_
    | with_reducible refine Dev.commitProgram_keeps hN hNvm ?_
    | with_reducible refine Dev.commitFails_keeps hN hB hNvm ?_
    | with_reducible exact Keeps.units (by assumption)
    | split

theorem Dev.sealClosed_keeps {k : Allow} {d0 : Dev} (hB : k.b = true) {d : Dev} (h : Keeps k d0 d) : Keeps k d0 (Dev.sealClosed d) := by
  unfold Dev.sealClosed
  repeat' first
    | with_reducible assumption
    | (extract_lets +onlyGivenNames x; first | (have hx : Keeps k d0 x := ?_; clear_value x; swap; subst x; swap) | (have hx : Keeps1 k d0 x := ?_; clear_value x; swap; subst x; swap) | subst x)
    | exact Allow.cls_S rfl
    | exact hB
    | with_reducible refine Dev.refuseApply_keeps hB ?_
    | with_reducible exact Keeps.units (by assumption)
    | split

theorem Dev.commitStaged_keeps {k : Allow} {d0 : Dev} (hB : k.b = true) {d : Dev} (h : Keeps k d0 d) : Keeps k d0 (Dev.commitStaged d) := by
  unfold Dev.commitStaged
  repeat' first
    | with_reducible assumption
    | (extract_lets +onlyGivenNames x; first | (have hx : Keeps k d0 x := ?_; clear_value x; swap; subst x; swap) | (have hx : Keeps1 k d0 x := ?_; clear_value x; swap; subst x; swap) | subst x)
    | exact Allow.cls_S rfl
    | exact hB
    | with_reducible refine Dev.applyState_keeps ?_
    | with_reducible refine Dev.refuseApply_keeps hB ?_
    | with_reducible exact Keeps.units (by assumption)
    | split

theorem Dev.boundaryTaken_keeps {k : Allow} {d0 : Dev} (hN : k.n = true) (hB : k.b = true) (hH : k.h = true) (hI : k.i = true) {d : Dev} {t : Nat} {ext : Nat} {gated : Bool} (h : Keeps k d0 d) : Keeps k d0 (Dev.boundaryTaken d t ext gated) := by
  unfold Dev.boundaryTaken
  repeat' first
    | with_reducible assumption
    | (extract_lets +onlyGivenNames x; first | (have hx : Keeps k d0 x := ?_; clear_value x; swap; subst x; swap) | (have hx : Keeps1 k d0 x := ?_; clear_value x; swap; subst x; swap) | subst x)
    | exact Allow.cls_S rfl
    | exact hN
    | exact hB
    | exact hH
    | exact hI
    | with_reducible refine Dev.openJob_keeps ?_
    | with_reducible refine Dev.takeBoundary_keeps hB hH ?_
    | with_reducible refine Dev.switchImage_keeps hB hH hI ?_
    | with_reducible refine Dev.beltBoundary_keeps hN hB ?_
    | with_reducible refine Keeps.wr ?_ ?_
    | with_reducible exact Keeps.units (by assumption)
    | split

theorem Dev.switchingBoundary_keeps {k : Allow} {d0 : Dev} (hN : k.n = true) (hB : k.b = true) (hP : k.p = true) (hH : k.h = true) (hI : k.i = true) (hNvm : k.nvm = true) {d : Dev} (h : Keeps k d0 d) : Keeps k d0 (Dev.switchingBoundary d) := by
  unfold Dev.switchingBoundary
  repeat' first
    | with_reducible assumption
    | (extract_lets +onlyGivenNames x; first | (have hx : Keeps k d0 x := ?_; clear_value x; swap; subst x; swap) | (have hx : Keeps1 k d0 x := ?_; clear_value x; swap; subst x; swap) | subst x)
    | exact Allow.cls_S rfl
    | exact hN
    | exact hB
    | exact hP
    | exact hH
    | exact hI
    | with_reducible refine Dev.choirReset_keeps hB hP hH hI hNvm ?_
    | with_reducible refine Dev.boundaryTaken_keeps hN hB hH hI ?_
    | with_reducible refine Dev.advance_keeps ?_
    | with_reducible refine Dev.wrapEpoch_keeps ?_
    | with_reducible exact Keeps.units (by assumption)
    | split

theorem Dev.catchUp_keeps {k : Allow} {d0 : Dev} (hN : k.n = true) (hB : k.b = true) (hH : k.h = true) (hI : k.i = true) {stop n : Nat} {d : Dev} (h : Keeps k d0 d) : Keeps k d0 (Dev.catchUp stop n d) := by
  induction n generalizing d with
  | zero => exact h
  | succ n ih =>
    unfold Dev.catchUp
    split
    · exact ih (Dev.boundaryTaken_keeps hN hB hH hI h)
    · exact h

theorem Dev.passBoundaries_keeps {k : Allow} {d0 : Dev} (hN : k.n = true) (hB : k.b = true) (hH : k.h = true) (hI : k.i = true) {d : Dev} {stop : Nat} (h : Keeps k d0 d) : Keeps k d0 (Dev.passBoundaries d stop) := by
  unfold Dev.passBoundaries
  repeat' first
    | with_reducible assumption
    | (extract_lets +onlyGivenNames x; first | (have hx : Keeps k d0 x := ?_; clear_value x; swap; subst x; swap) | (have hx : Keeps1 k d0 x := ?_; clear_value x; swap; subst x; swap) | subst x)
    | exact Allow.cls_S rfl
    | exact hN
    | exact hB
    | exact hH
    | exact hI
    | with_reducible refine Dev.catchUp_keeps hN hB hH hI ?_
    | with_reducible exact Keeps.units (by assumption)
    | split

theorem Dev.carryPrescaler_keeps {k : Allow} {d0 : Dev} (hH : k.h = true) {d : Dev} (h : Keeps k d0 d) : Keeps k d0 (Dev.carryPrescaler d) := by
  unfold Dev.carryPrescaler
  repeat' first
    | with_reducible assumption
    | (extract_lets +onlyGivenNames x; first | (have hx : Keeps k d0 x := ?_; clear_value x; swap; subst x; swap) | (have hx : Keeps1 k d0 x := ?_; clear_value x; swap; subst x; swap) | subst x)
    | exact Allow.cls_S rfl
    | exact hH
    | ((with_reducible first | refine Allow.cls_mem (by assumption) ?_ | refine Allow.cls_fst (by assumption) ?_ | refine Allow.cls_snd (by assumption) ?_); rfl)
    | with_reducible refine Dev.putVoice_keeps ?_
    | with_reducible refine Keeps.wr ?_ ?_
    | with_reducible refine Keeps.each ?_ (fun d x hm hd => ?_)
    | with_reducible exact Keeps.units (by assumption)
    | split

theorem Dev.syncMarkers_keeps {k : Allow} {d0 : Dev} {d : Dev} (h : Keeps k d0 d) : Keeps k d0 (Dev.syncMarkers d) := by
  unfold Dev.syncMarkers
  repeat' first
    | with_reducible assumption
    | (extract_lets +onlyGivenNames x; first | (have hx : Keeps k d0 x := ?_; clear_value x; swap; subst x; swap) | (have hx : Keeps1 k d0 x := ?_; clear_value x; swap; subst x; swap) | subst x)
    | exact Allow.cls_S rfl
    | ((with_reducible first | refine Allow.cls_mem (by assumption) ?_ | refine Allow.cls_fst (by assumption) ?_ | refine Allow.cls_snd (by assumption) ?_); rfl)
    | with_reducible refine Dev.putVoice_keeps ?_
    | with_reducible refine Keeps.each ?_ (fun d x hm hd => ?_)
    | with_reducible exact Keeps.units (by assumption)
    | split

theorem Dev.reopen_keeps {k : Allow} {d0 : Dev} (hN : k.n = true) (hB : k.b = true) (hH : k.h = true) (hI : k.i = true) {d : Dev} {forward : Nat} (h : Keeps k d0 d) : Keeps k d0 (Dev.reopen d forward) := by
  unfold Dev.reopen
  repeat' first
    | with_reducible assumption
    | (extract_lets +onlyGivenNames x; first | (have hx : Keeps k d0 x := ?_; clear_value x; swap; subst x; swap) | (have hx : Keeps1 k d0 x := ?_; clear_value x; swap; subst x; swap) | subst x)
    | exact Allow.cls_S rfl
    | exact hN
    | exact hB
    | exact hH
    | exact hI
    | with_reducible refine Dev.syncMarkers_keeps ?_
    | with_reducible refine Dev.epochMarkers_keeps ?_
    | with_reducible refine Dev.passBoundaries_keeps hN hB hH hI ?_
    | with_reducible refine Dev.carryPrescaler_keeps hH ?_
    | with_reducible refine Keeps.wr ?_ ?_
    | with_reducible exact Keeps.units (by assumption)
    | split

theorem Dev.leaveHoldover_keeps {k : Allow} {d0 : Dev} {d : Dev} (h : Keeps k d0 d) : Keeps k d0 (Dev.leaveHoldover d) := by
  unfold Dev.leaveHoldover
  repeat' first
    | with_reducible assumption
    | (extract_lets +onlyGivenNames x; first | (have hx : Keeps k d0 x := ?_; clear_value x; swap; subst x; swap) | (have hx : Keeps1 k d0 x := ?_; clear_value x; swap; subst x; swap) | subst x)
    | exact Allow.cls_S rfl
    | with_reducible refine Keeps.wr ?_ ?_
    | with_reducible exact Keeps.units (by assumption)
    | split

theorem Dev.openGate_keeps {k : Allow} {d0 : Dev} (hN : k.n = true) (hB : k.b = true) (hH : k.h = true) (hI : k.i = true) {d : Dev} (h : Keeps k d0 d) : Keeps k d0 (Dev.openGate d) := by
  unfold Dev.openGate
  repeat' first
    | with_reducible assumption
    | (extract_lets +onlyGivenNames x; first | (have hx : Keeps k d0 x := ?_; clear_value x; swap; subst x; swap) | (have hx : Keeps1 k d0 x := ?_; clear_value x; swap; subst x; swap) | subst x)
    | exact Allow.cls_S rfl
    | exact hN
    | exact hB
    | exact hH
    | exact hI
    | with_reducible refine Dev.showRefOut_keeps ?_
    | with_reducible refine Dev.resumeTuning_keeps ?_
    | with_reducible refine Dev.leaveHoldover_keeps ?_
    | with_reducible refine Dev.reopen_keeps hN hB hH hI ?_
    | with_reducible refine Keeps.wr ?_ ?_
    | with_reducible refine Keeps.inc ?_ ?_
    | with_reducible exact Keeps.units (by assumption)
    | split

theorem Dev.windowCheck_keeps {k : Allow} {d0 : Dev} (hN : k.n = true) (hB : k.b = true) (hH : k.h = true) (hI : k.i = true) {count : Nat} {d : Dev} (h : Keeps k d0 d) : Keeps k d0 (Dev.windowCheck count d) := by
  unfold Dev.windowCheck
  repeat' first
    | with_reducible assumption
    | (extract_lets +onlyGivenNames x; first | (have hx : Keeps k d0 x := ?_; clear_value x; swap; subst x; swap) | (have hx : Keeps1 k d0 x := ?_; clear_value x; swap; subst x; swap) | subst x)
    | exact Allow.cls_S rfl
    | exact hN
    | exact hB
    | exact hH
    | exact hI
    | with_reducible refine Dev.spllFail_keeps hB ?_
    | with_reducible refine Dev.openGate_keeps hN hB hH hI ?_
    | with_reducible refine Keeps.wr ?_ ?_
    | with_reducible exact Keeps.units (by assumption)
    | split

theorem Dev.startPlanned_keeps {k : Allow} {d0 : Dev} {d : Dev} (h : Keeps k d0 d) : Keeps k d0 (Dev.startPlanned d) := by
  unfold Dev.startPlanned
  repeat' first
    | with_reducible assumption
    | (extract_lets +onlyGivenNames x; first | (have hx : Keeps k d0 x := ?_; clear_value x; swap; subst x; swap) | (have hx : Keeps1 k d0 x := ?_; clear_value x; swap; subst x; swap) | subst x)
    | exact Allow.cls_S rfl
    | with_reducible refine Dev.decideSwitch_keeps ?_
    | with_reducible exact Keeps.units (by assumption)
    | split

theorem Dev.reach_keeps {k : Allow} {d0 : Dev} {d : Dev} {ext : Nat} (h : Keeps k d0 d) : Keeps k d0 (Dev.reach d ext) := by
  unfold Dev.reach
  repeat' first
    | with_reducible assumption
    | (extract_lets +onlyGivenNames x; first | (have hx : Keeps k d0 x := ?_; clear_value x; swap; subst x; swap) | (have hx : Keeps1 k d0 x := ?_; clear_value x; swap; subst x; swap) | subst x)
    | exact Allow.cls_S rfl
    | with_reducible refine Dev.advance_keeps ?_
    | with_reducible refine Dev.wrapEpoch_keeps ?_
    | with_reducible exact Keeps.units (by assumption)
    | split

theorem Dev.periodBoundary_keeps {k : Allow} {d0 : Dev} (hN : k.n = true) (hB : k.b = true) (hP : k.p = true) (hH : k.h = true) (hI : k.i = true) (hNvm : k.nvm = true) {t : Nat} {d : Dev} (h : Keeps k d0 d) : Keeps k d0 (Dev.periodBoundary t d) := by
  unfold Dev.periodBoundary
  repeat' first
    | with_reducible assumption
    | (extract_lets +onlyGivenNames x; first | (have hx : Keeps k d0 x := ?_; clear_value x; swap; subst x; swap) | (have hx : Keeps1 k d0 x := ?_; clear_value x; swap; subst x; swap) | subst x)
    | exact Allow.cls_S rfl
    | exact hN
    | exact hB
    | exact hP
    | exact hH
    | exact hI
    | with_reducible refine Dev.choirReset_keeps hB hP hH hI hNvm ?_
    | with_reducible refine Dev.startPlanned_keeps ?_
    | with_reducible refine Dev.boundaryTaken_keeps hN hB hH hI ?_
    | with_reducible refine Dev.reach_keeps ?_
    | with_reducible exact Keeps.units (by assumption)
    | split

theorem Dev.startTimers_keeps {k : Allow} {d0 : Dev} {d : Dev} (h : Keeps k d0 d) : Keeps k d0 (Dev.startTimers d) := by
  unfold Dev.startTimers
  repeat' first
    | with_reducible assumption
    | (extract_lets +onlyGivenNames x; first | (have hx : Keeps k d0 x := ?_; clear_value x; swap; subst x; swap) | (have hx : Keeps1 k d0 x := ?_; clear_value x; swap; subst x; swap) | subst x)
    | exact Allow.cls_S rfl
    | ((with_reducible first | refine Allow.cls_mem (by assumption) ?_ | refine Allow.cls_fst (by assumption) ?_ | refine Allow.cls_snd (by assumption) ?_); rfl)
    | with_reducible refine Dev.startTimer_keeps ?_
    | with_reducible refine Keeps.each ?_ (fun d x hm hd => ?_)
    | with_reducible exact Keeps.units (by assumption)
    | split

theorem Dev.xtalFail_keeps {k : Allow} {d0 : Dev} (hB : k.b = true) (hP : k.p = true) {cause : Nat} {d : Dev} (h : Keeps k d0 d) : Keeps k d0 (Dev.xtalFail cause d) := by
  unfold Dev.xtalFail
  repeat' first
    | with_reducible assumption
    | (extract_lets +onlyGivenNames x; first | (have hx : Keeps k d0 x := ?_; clear_value x; swap; subst x; swap) | (have hx : Keeps1 k d0 x := ?_; clear_value x; swap; subst x; swap) | subst x)
    | exact Allow.cls_S rfl
    | exact hB
    | exact hP
    | with_reducible refine Dev.portsDown_keeps ?_
    | with_reducible refine Dev.enterSafe_keeps hB ?_
    | with_reducible refine Dev.fault_keeps hB ?_
    | with_reducible refine Dev.closeGate_keeps ?_
    | with_reducible refine Keeps.wr ?_ ?_
    | with_reducible exact Keeps.units (by assumption)
    | split

theorem Dev.runSck_keeps {k : Allow} {d0 : Dev} {d : Dev} {n : Nat} (h : Keeps k d0 d) : Keeps k d0 (Dev.runSck d n) := by
  unfold Dev.runSck
  repeat' first
    | with_reducible assumption
    | (extract_lets +onlyGivenNames x; first | (have hx : Keeps k d0 x := ?_; clear_value x; swap; subst x; swap) | (have hx : Keeps1 k d0 x := ?_; clear_value x; swap; subst x; swap) | subst x)
    | exact Allow.cls_S rfl
    | with_reducible refine Dev.wrapEpoch_keeps ?_
    | with_reducible exact Keeps.units (by assumption)
    | split

theorem Dev.tick_keeps {k : Allow} {d0 : Dev} {d : Dev} (h : Keeps k d0 d) : Keeps k d0 (Dev.tick d) := by
  unfold Dev.tick
  repeat' first
    | with_reducible assumption
    | (extract_lets +onlyGivenNames x; first | (have hx : Keeps k d0 x := ?_; clear_value x; swap; subst x; swap) | (have hx : Keeps1 k d0 x := ?_; clear_value x; swap; subst x; swap) | subst x)
    | exact Allow.cls_S rfl
    | with_reducible refine Dev.runSck_keeps ?_
    | with_reducible exact Keeps.units (by assumption)
    | split

theorem Dev.laneSignalDetect_keeps {k : Allow} {d0 : Dev} {p : Nat} {l : Nat} {d : Dev} (h : Keeps k d0 d) : Keeps k d0 (Dev.laneSignalDetect p l d) := by
  unfold Dev.laneSignalDetect
  repeat' first
    | with_reducible assumption
    | (extract_lets +onlyGivenNames x; first | (have hx : Keeps k d0 x := ?_; clear_value x; swap; subst x; swap) | (have hx : Keeps1 k d0 x := ?_; clear_value x; swap; subst x; swap) | subst x)
    | exact Allow.cls_S rfl
    | ((with_reducible refine Allow.cls_S ?_); first | exact laneState_cls _ _ | exact laneFails_cls _ _ | exact laneErrors_cls _ _ | exact slotFld_cls _)
    | with_reducible refine Dev.showPort_keeps ?_
    | with_reducible refine Dev.putPort_keeps ?_
    | with_reducible refine Keeps.wr ?_ ?_
    | with_reducible exact Keeps.units (by assumption)
    | split

theorem Dev.laneAlign_keeps {k : Allow} {d0 : Dev} {p : Nat} {l : Nat} {codes : List Nat} {d : Dev} (h : Keeps k d0 d) : Keeps k d0 (Dev.laneAlign p l codes d) := by
  unfold Dev.laneAlign
  repeat' first
    | with_reducible assumption
    | (extract_lets +onlyGivenNames x; first | (have hx : Keeps k d0 x := ?_; clear_value x; swap; subst x; swap) | (have hx : Keeps1 k d0 x := ?_; clear_value x; swap; subst x; swap) | subst x)
    | exact Allow.cls_S rfl
    | ((with_reducible refine Allow.cls_S ?_); first | exact laneState_cls _ _ | exact laneFails_cls _ _ | exact laneErrors_cls _ _ | exact slotFld_cls _)
    | with_reducible refine Dev.putPort_keeps ?_
    | with_reducible refine Keeps.wr ?_ ?_
    | with_reducible exact Keeps.units (by assumption)
    | split

theorem Dev.replayFrom_keeps {k : Allow} {d0 : Dev} {d : Dev} {p : Nat} {i : Nat} (h : Keeps k d0 d) : Keeps k d0 (Dev.replayFrom d p i) := by
  unfold Dev.replayFrom
  repeat' first
    | with_reducible assumption
    | (extract_lets +onlyGivenNames x; first | (have hx : Keeps k d0 x := ?_; clear_value x; swap; subst x; swap) | (have hx : Keeps1 k d0 x := ?_; clear_value x; swap; subst x; swap) | subst x)
    | exact Allow.cls_S rfl
    | with_reducible refine Dev.putPort_keeps ?_
    | with_reducible refine Keeps.wr ?_ ?_
    | with_reducible refine Keeps.inc ?_ ?_
    | with_reducible exact Keeps.units (by assumption)
    | split

theorem Dev.portCame_keeps {k : Allow} {d0 : Dev} {d : Dev} {p : Nat} (h : Keeps k d0 d) : Keeps k d0 (Dev.portCame d p) := by
  unfold Dev.portCame
  repeat' first
    | with_reducible assumption
    | (extract_lets +onlyGivenNames x; first | (have hx : Keeps k d0 x := ?_; clear_value x; swap; subst x; swap) | (have hx : Keeps1 k d0 x := ?_; clear_value x; swap; subst x; swap) | subst x)
    | exact Allow.cls_S rfl
    | with_reducible refine Dev.flushPort_keeps ?_
    | with_reducible refine Dev.replayFrom_keeps ?_
    | with_reducible refine Dev.putPort_keeps ?_
    | with_reducible exact Keeps.units (by assumption)
    | split

theorem Dev.laneUp_keeps {k : Allow} {d0 : Dev} {d : Dev} {p : Nat} {l : Nat} (h : Keeps k d0 d) : Keeps k d0 (Dev.laneUp d p l) := by
  unfold Dev.laneUp
  repeat' first
    | with_reducible assumption
    | (extract_lets +onlyGivenNames x; first | (have hx : Keeps k d0 x := ?_; clear_value x; swap; subst x; swap) | (have hx : Keeps1 k d0 x := ?_; clear_value x; swap; subst x; swap) | subst x)
    | exact Allow.cls_S rfl
    | ((with_reducible refine Allow.cls_S ?_); first | exact laneState_cls _ _ | exact laneFails_cls _ _ | exact laneErrors_cls _ _ | exact slotFld_cls _)
    | with_reducible refine Dev.portCame_keeps ?_
    | with_reducible refine Dev.followOwner_keeps ?_
    | with_reducible refine Dev.showPort_keeps ?_
    | with_reducible refine Keeps.wr ?_ ?_
    | with_reducible exact Keeps.units (by assumption)
    | split

theorem Dev.retrainAll_keeps {k : Allow} {d0 : Dev} {d : Dev} {p : Nat} (h : Keeps k d0 d) : Keeps k d0 (Dev.retrainAll d p) := by
  unfold Dev.retrainAll
  repeat' first
    | with_reducible assumption
    | (extract_lets +onlyGivenNames x; first | (have hx : Keeps k d0 x := ?_; clear_value x; swap; subst x; swap) | (have hx : Keeps1 k d0 x := ?_; clear_value x; swap; subst x; swap) | subst x)
    | exact Allow.cls_S rfl
    | with_reducible refine Dev.followOwner_keeps ?_
    | with_reducible refine Dev.retrain_keeps ?_
    | with_reducible exact Keeps.units (by assumption)
    | split

theorem Dev.trainingSet_keeps {k : Allow} {d0 : Dev} {p : Nat} {l : Nat} {codes : List Nat} {sent : Nat} {deskewed : Bool} {d : Dev} (h : Keeps k d0 d) : Keeps k d0 (Dev.trainingSet p l codes sent deskewed d) := by
  unfold Dev.trainingSet
  repeat' first
    | with_reducible assumption
    | (extract_lets +onlyGivenNames x; first | (have hx : Keeps k d0 x := ?_; clear_value x; swap; subst x; swap) | (have hx : Keeps1 k d0 x := ?_; clear_value x; swap; subst x; swap) | subst x)
    | exact Allow.cls_S rfl
    | ((with_reducible refine Allow.cls_S ?_); first | exact laneState_cls _ _ | exact laneFails_cls _ _ | exact laneErrors_cls _ _ | exact slotFld_cls _)
    | with_reducible refine Dev.laneUp_keeps ?_
    | with_reducible refine Dev.putPort_keeps ?_
    | with_reducible refine Keeps.wr ?_ ?_
    | with_reducible exact Keeps.units (by assumption)
    | split

theorem Dev.laneFailed_keeps {k : Allow} {d0 : Dev} (hB : k.b = true) {p : Nat} {d : Dev} {l : Nat} (h : Keeps k d0 d) : Keeps k d0 (Dev.laneFailed p d l) := by
  unfold Dev.laneFailed
  repeat' first
    | with_reducible assumption
    | (extract_lets +onlyGivenNames x; first | (have hx : Keeps k d0 x := ?_; clear_value x; swap; subst x; swap) | (have hx : Keeps1 k d0 x := ?_; clear_value x; swap; subst x; swap) | subst x)
    | exact Allow.cls_S rfl
    | exact hB
    | ((with_reducible refine Allow.cls_S ?_); first | exact laneState_cls _ _ | exact laneFails_cls _ _ | exact laneErrors_cls _ _ | exact slotFld_cls _)
    | with_reducible refine Dev.putPort_keeps ?_
    | with_reducible refine Dev.fault_keeps hB ?_
    | with_reducible refine Keeps.wr ?_ ?_
    | with_reducible refine Keeps.inc ?_ ?_
    | with_reducible exact Keeps.units (by assumption)
    | split

theorem Dev.trainingTimeout_keeps {k : Allow} {d0 : Dev} (hB : k.b = true) {p : Nat} {d : Dev} (h : Keeps k d0 d) : Keeps k d0 (Dev.trainingTimeout p d) := by
  unfold Dev.trainingTimeout
  repeat' first
    | with_reducible assumption
    | (extract_lets +onlyGivenNames x; first | (have hx : Keeps k d0 x := ?_; clear_value x; swap; subst x; swap) | (have hx : Keeps1 k d0 x := ?_; clear_value x; swap; subst x; swap) | subst x)
    | exact Allow.cls_S rfl
    | exact hB
    | ((with_reducible first | refine Allow.cls_mem (by assumption) ?_ | refine Allow.cls_fst (by assumption) ?_ | refine Allow.cls_snd (by assumption) ?_); rfl)
    | ((with_reducible refine Allow.cls_S ?_); first | exact laneState_cls _ _ | exact laneFails_cls _ _ | exact laneErrors_cls _ _ | exact slotFld_cls _)
    | with_reducible refine Dev.portCame_keeps ?_
    | with_reducible refine Dev.followOwner_keeps ?_
    | with_reducible refine Dev.showPort_keeps ?_
    | with_reducible refine Dev.putPort_keeps ?_
    | with_reducible refine Dev.laneFailed_keeps hB ?_
    | with_reducible refine Keeps.wr ?_ ?_
    | with_reducible refine Keeps.each ?_ (fun d x hm hd => ?_)
    | with_reducible exact Keeps.units (by assumption)
    | split

theorem Dev.trainingRetry_keeps {k : Allow} {d0 : Dev} {p : Nat} {d : Dev} (h : Keeps k d0 d) : Keeps k d0 (Dev.trainingRetry p d) := by
  unfold Dev.trainingRetry
  repeat' first
    | with_reducible assumption
    | (extract_lets +onlyGivenNames x; first | (have hx : Keeps k d0 x := ?_; clear_value x; swap; subst x; swap) | (have hx : Keeps1 k d0 x := ?_; clear_value x; swap; subst x; swap) | subst x)
    | exact Allow.cls_S rfl
    | with_reducible refine Dev.putPort_keeps ?_
    | with_reducible exact Keeps.units (by assumption)
    | split

theorem Dev.laneSignalLoss_keeps {k : Allow} {d0 : Dev} {p : Nat} {d : Dev} (h : Keeps k d0 d) : Keeps k d0 (Dev.laneSignalLoss p d) := by
  unfold Dev.laneSignalLoss
  repeat' first
    | with_reducible assumption
    | (extract_lets +onlyGivenNames x; first | (have hx : Keeps k d0 x := ?_; clear_value x; swap; subst x; swap) | (have hx : Keeps1 k d0 x := ?_; clear_value x; swap; subst x; swap) | subst x)
    | exact Allow.cls_S rfl
    | ((with_reducible refine Allow.cls_S ?_); first | exact laneState_cls _ _ | exact laneFails_cls _ _ | exact laneErrors_cls _ _ | exact slotFld_cls _)
    | with_reducible refine Dev.retrainAll_keeps ?_
    | with_reducible exact Keeps.units (by assumption)
    | split

theorem Dev.codeViolationLimit_keeps {k : Allow} {d0 : Dev} (hB : k.b = true) {p : Nat} {l : Nat} {disparity : Bool} {codes : List Nat} {d : Dev} (h : Keeps k d0 d) : Keeps k d0 (Dev.codeViolationLimit p l disparity codes d) := by
  unfold Dev.codeViolationLimit
  repeat' first
    | with_reducible assumption
    | (extract_lets +onlyGivenNames x; first | (have hx : Keeps k d0 x := ?_; clear_value x; swap; subst x; swap) | (have hx : Keeps1 k d0 x := ?_; clear_value x; swap; subst x; swap) | subst x)
    | exact Allow.cls_S rfl
    | exact hB
    | ((with_reducible refine Allow.cls_S ?_); first | exact laneState_cls _ _ | exact laneFails_cls _ _ | exact laneErrors_cls _ _ | exact slotFld_cls _)
    | with_reducible refine Dev.retrainAll_keeps ?_
    | with_reducible refine Dev.fault_keeps hB ?_
    | with_reducible refine Keeps.wr ?_ ?_
    | with_reducible exact Keeps.units (by assumption)
    | split

theorem Dev.oneLaneRetrain_keeps {k : Allow} {d0 : Dev} {p : Nat} {d : Dev} (h : Keeps k d0 d) : Keeps k d0 (Dev.oneLaneRetrain p d) := by
  unfold Dev.oneLaneRetrain
  repeat' first
    | with_reducible assumption
    | (extract_lets +onlyGivenNames x; first | (have hx : Keeps k d0 x := ?_; clear_value x; swap; subst x; swap) | (have hx : Keeps1 k d0 x := ?_; clear_value x; swap; subst x; swap) | subst x)
    | exact Allow.cls_S rfl
    | ((with_reducible first | refine Allow.cls_mem (by assumption) ?_ | refine Allow.cls_fst (by assumption) ?_ | refine Allow.cls_snd (by assumption) ?_); rfl)
    | ((with_reducible refine Allow.cls_S ?_); first | exact laneState_cls _ _ | exact laneFails_cls _ _ | exact laneErrors_cls _ _ | exact slotFld_cls _)
    | with_reducible refine Dev.retrainAll_keeps ?_
    | with_reducible refine Dev.putPort_keeps ?_
    | with_reducible refine Keeps.wr ?_ ?_
    | with_reducible refine Keeps.each ?_ (fun d x hm hd => ?_)
    | with_reducible exact Keeps.units (by assumption)
    | split

theorem Dev.retrainPort_keeps {k : Allow} {d0 : Dev} {p : Nat} {d : Dev} (h : Keeps k d0 d) : Keeps k d0 (Dev.retrainPort p d) := by
  unfold Dev.retrainPort
  repeat' first
    | with_reducible assumption
    | (extract_lets +onlyGivenNames x; first | (have hx : Keeps k d0 x := ?_; clear_value x; swap; subst x; swap) | (have hx : Keeps1 k d0 x := ?_; clear_value x; swap; subst x; swap) | subst x)
    | exact Allow.cls_S rfl
    | with_reducible refine Dev.retrainAll_keeps ?_
    | with_reducible exact Keeps.units (by assumption)
    | split

theorem Dev.discardFrame_keeps {k : Allow} {d0 : Dev} (hB : k.b = true) {d : Dev} {p : Nat} (h : Keeps k d0 d) : Keeps k d0 (Dev.discardFrame d p) := by
  unfold Dev.discardFrame
  repeat' first
    | with_reducible assumption
    | (extract_lets +onlyGivenNames x; first | (have hx : Keeps k d0 x := ?_; clear_value x; swap; subst x; swap) | (have hx : Keeps1 k d0 x := ?_; clear_value x; swap; subst x; swap) | subst x)
    | exact Allow.cls_S rfl
    | exact hB
    | with_reducible refine Dev.putPort_keeps ?_
    | with_reducible refine Dev.fault_keeps hB ?_
    | with_reducible refine Keeps.inc ?_ ?_
    | with_reducible exact Keeps.units (by assumption)
    | split

theorem Dev.forward_keeps {k : Allow} {d0 : Dev} (hB : k.b = true) {d : Dev} {p : Nat} {hops : Nat} {body : List Nat} (h : Keeps k d0 d) : Keeps k d0 (Dev.forward d p hops body) := by
  unfold Dev.forward
  repeat' first
    | with_reducible assumption
    | (extract_lets +onlyGivenNames x; first | (have hx : Keeps k d0 x := ?_; clear_value x; swap; subst x; swap) | (have hx : Keeps1 k d0 x := ?_; clear_value x; swap; subst x; swap) | subst x)
    | exact Allow.cls_S rfl
    | exact hB
    | with_reducible refine Dev.startTx_keeps ?_
    | with_reducible refine Dev.fault_keeps hB ?_
    | with_reducible refine Keeps.inc ?_ ?_
    | with_reducible exact Keeps.units (by assumption)
    | split

theorem Dev.putPeer_keeps {k : Allow} {d0 : Dev} {d : Dev} {a : Nat} {x0 : Peer} (h : Keeps k d0 d) : Keeps k d0 (Dev.putPeer d a x0) := by
  unfold Dev.putPeer
  repeat' first
    | with_reducible assumption
    | (extract_lets +onlyGivenNames x; first | (have hx : Keeps k d0 x := ?_; clear_value x; swap; subst x; swap) | (have hx : Keeps1 k d0 x := ?_; clear_value x; swap; subst x; swap) | subst x)
    | exact Allow.cls_S rfl
    | with_reducible refine Dev.putChoir_keeps ?_
    | with_reducible exact Keeps.units (by assumption)
    | split

theorem Dev.deliver_keeps {k : Allow} {d0 : Dev} {d : Dev} {m : Msg} (h : Keeps k d0 d) : Keeps k d0 (Dev.deliver d m) := by
  unfold Dev.deliver
  repeat' first
    | with_reducible assumption
    | (extract_lets +onlyGivenNames x; first | (have hx : Keeps k d0 x := ?_; clear_value x; swap; subst x; swap) | (have hx : Keeps1 k d0 x := ?_; clear_value x; swap; subst x; swap) | subst x)
    | exact Allow.cls_S rfl
    | with_reducible refine Dev.putChoir_keeps ?_
    | with_reducible refine Dev.offer_keeps ?_
    | with_reducible refine Dev.putPeer_keeps ?_
    | with_reducible refine Keeps.wr ?_ ?_
    | with_reducible exact Keeps.units (by assumption)
    | split

theorem Dev.reportSource_keeps {k : Allow} {d0 : Dev} (hB : k.b = true) {d : Dev} {m : Msg} (h : Keeps k d0 d) : Keeps k d0 (Dev.reportSource d m) := by
  unfold Dev.reportSource
  repeat' first
    | with_reducible assumption
    | (extract_lets +onlyGivenNames x; first | (have hx : Keeps k d0 x := ?_; clear_value x; swap; subst x; swap) | (have hx : Keeps1 k d0 x := ?_; clear_value x; swap; subst x; swap) | subst x)
    | exact Allow.cls_S rfl
    | exact hB
    | with_reducible refine Dev.putPeer_keeps ?_
    | with_reducible refine Dev.enterOut_keeps ?_
    | with_reducible refine Dev.fault_keeps hB ?_
    | with_reducible refine Dev.choirEvent_keeps ?_
    | with_reducible refine Dev.putChoir_keeps ?_
    | with_reducible exact Keeps.units (by assumption)
    | split

theorem Dev.takeMessage_keeps {k : Allow} {d0 : Dev} (hB : k.b = true) {d : Dev} {m : Msg} (h : Keeps k d0 d) : Keeps k d0 (Dev.takeMessage d m) := by
  unfold Dev.takeMessage
  repeat' first
    | with_reducible assumption
    | (extract_lets +onlyGivenNames x; first | (have hx : Keeps k d0 x := ?_; clear_value x; swap; subst x; swap) | (have hx : Keeps1 k d0 x := ?_; clear_value x; swap; subst x; swap) | subst x)
    | exact Allow.cls_S rfl
    | exact hB
    | with_reducible refine Dev.deliver_keeps ?_
    | with_reducible refine Dev.reportSource_keeps hB ?_
    | with_reducible refine Keeps.inc ?_ ?_
    | with_reducible exact Keeps.units (by assumption)
    | split

theorem Dev.goodFrame_keeps {k : Allow} {d0 : Dev} (hB : k.b = true) {d : Dev} {p : Nat} {hops : Nat} {body : List Nat} (h : Keeps k d0 d) : Keeps k d0 (Dev.goodFrame d p hops body) := by
  unfold Dev.goodFrame
  repeat' first
    | with_reducible assumption
    | (extract_lets +onlyGivenNames x; first | (have hx : Keeps k d0 x := ?_; clear_value x; swap; subst x; swap) | (have hx : Keeps1 k d0 x := ?_; clear_value x; swap; subst x; swap) | subst x)
    | exact Allow.cls_S rfl
    | exact hB
    | with_reducible refine Dev.takeMessage_keeps hB ?_
    | with_reducible refine Dev.forward_keeps hB ?_
    | with_reducible refine Dev.putPort_keeps ?_
    | with_reducible refine Keeps.inc ?_ ?_
    | with_reducible exact Keeps.units (by assumption)
    | split

theorem Dev.abortCopy_keeps {k : Allow} {d0 : Dev} (hB : k.b = true) {d : Dev} {p : Nat} {hops : Nat} {body : List Nat} (h : Keeps k d0 d) : Keeps k d0 (Dev.abortCopy d p hops body) := by
  unfold Dev.abortCopy
  repeat' first
    | with_reducible assumption
    | (extract_lets +onlyGivenNames x; first | (have hx : Keeps k d0 x := ?_; clear_value x; swap; subst x; swap) | (have hx : Keeps1 k d0 x := ?_; clear_value x; swap; subst x; swap) | subst x)
    | exact Allow.cls_S rfl
    | exact hB
    | with_reducible refine Dev.putPort_keeps ?_
    | with_reducible refine Dev.forward_keeps hB ?_
    | with_reducible exact Keeps.units (by assumption)
    | split

theorem Dev.frameRx_keeps {k : Allow} {d0 : Dev} (hB : k.b = true) {p : Nat} {bytes : List Nat} {aborted : Bool} {d : Dev} (h : Keeps k d0 d) : Keeps k d0 (Dev.frameRx p bytes aborted d) := by
  unfold Dev.frameRx
  repeat' first
    | with_reducible assumption
    | (extract_lets +onlyGivenNames x; first | (have hx : Keeps k d0 x := ?_; clear_value x; swap; subst x; swap) | (have hx : Keeps1 k d0 x := ?_; clear_value x; swap; subst x; swap) | subst x)
    | exact Allow.cls_S rfl
    | exact hB
    | with_reducible refine Dev.putPort_keeps ?_
    | with_reducible refine Dev.goodFrame_keeps hB ?_
    | with_reducible refine Dev.discardFrame_keeps hB ?_
    | with_reducible refine Dev.abortCopy_keeps hB ?_
    | with_reducible exact Keeps.units (by assumption)
    | split

theorem Dev.releaseHeld_keeps {k : Allow} {d0 : Dev} {d : Dev} {p : Nat} {n : Nat} (h : Keeps k d0 d) : Keeps k d0 (Dev.releaseHeld d p n) := by
  unfold Dev.releaseHeld
  repeat' first
    | with_reducible assumption
    | (extract_lets +onlyGivenNames x; first | (have hx : Keeps k d0 x := ?_; clear_value x; swap; subst x; swap) | (have hx : Keeps1 k d0 x := ?_; clear_value x; swap; subst x; swap) | subst x)
    | exact Allow.cls_S rfl
    | with_reducible refine Dev.putPort_keeps ?_
    | with_reducible refine Dev.flushPort_keeps ?_
    | with_reducible exact Keeps.units (by assumption)
    | split

theorem Dev.ackRx_keeps {k : Allow} {d0 : Dev} {p : Nat} {lseq : Nat} {d : Dev} (h : Keeps k d0 d) : Keeps k d0 (Dev.ackRx p lseq d) := by
  unfold Dev.ackRx
  repeat' first
    | with_reducible assumption
    | (extract_lets +onlyGivenNames x; first | (have hx : Keeps k d0 x := ?_; clear_value x; swap; subst x; swap) | (have hx : Keeps1 k d0 x := ?_; clear_value x; swap; subst x; swap) | subst x)
    | exact Allow.cls_S rfl
    | with_reducible refine Dev.releaseHeld_keeps ?_
    | with_reducible exact Keeps.units (by assumption)
    | split

theorem Dev.retryLimit_keeps {k : Allow} {d0 : Dev} (hB : k.b = true) {d : Dev} {p : Nat} (h : Keeps k d0 d) : Keeps k d0 (Dev.retryLimit d p) := by
  unfold Dev.retryLimit
  repeat' first
    | with_reducible assumption
    | (extract_lets +onlyGivenNames x; first | (have hx : Keeps k d0 x := ?_; clear_value x; swap; subst x; swap) | (have hx : Keeps1 k d0 x := ?_; clear_value x; swap; subst x; swap) | subst x)
    | exact Allow.cls_S rfl
    | exact hB
    | ((with_reducible refine Allow.cls_S ?_); first | exact laneState_cls _ _ | exact laneFails_cls _ _ | exact laneErrors_cls _ _ | exact slotFld_cls _)
    | with_reducible refine Dev.retrainAll_keeps ?_
    | with_reducible refine Dev.fault_keeps hB ?_
    | with_reducible refine Dev.filter_keeps ?_
    | with_reducible exact Keeps.units (by assumption)
    | split

theorem Dev.replay_keeps {k : Allow} {d0 : Dev} (hB : k.b = true) {d : Dev} {p : Nat} {i : Nat} (h : Keeps k d0 d) : Keeps k d0 (Dev.replay d p i) := by
  unfold Dev.replay
  repeat' first
    | with_reducible assumption
    | (extract_lets +onlyGivenNames x; first | (have hx : Keeps k d0 x := ?_; clear_value x; swap; subst x; swap) | (have hx : Keeps1 k d0 x := ?_; clear_value x; swap; subst x; swap) | subst x)
    | exact Allow.cls_S rfl
    | exact hB
    | with_reducible refine Dev.replayFrom_keeps ?_
    | with_reducible refine Dev.retryLimit_keeps hB ?_
    | with_reducible exact Keeps.units (by assumption)
    | split

theorem Dev.nakRx_keeps {k : Allow} {d0 : Dev} (hB : k.b = true) {p : Nat} {lseq : Nat} {d : Dev} (h : Keeps k d0 d) : Keeps k d0 (Dev.nakRx p lseq d) := by
  unfold Dev.nakRx
  repeat' first
    | with_reducible assumption
    | (extract_lets +onlyGivenNames x; first | (have hx : Keeps k d0 x := ?_; clear_value x; swap; subst x; swap) | (have hx : Keeps1 k d0 x := ?_; clear_value x; swap; subst x; swap) | subst x)
    | exact Allow.cls_S rfl
    | exact hB
    | with_reducible refine Dev.releaseHeld_keeps ?_
    | with_reducible refine Dev.flushPort_keeps ?_
    | with_reducible refine Dev.replay_keeps hB ?_
    | with_reducible refine Dev.putPort_keeps ?_
    | with_reducible refine Keeps.inc ?_ ?_
    | with_reducible exact Keeps.units (by assumption)
    | split

theorem Dev.ackTimer_keeps {k : Allow} {d0 : Dev} {p : Nat} {d : Dev} (h : Keeps k d0 d) : Keeps k d0 (Dev.ackTimer p d) := by
  unfold Dev.ackTimer
  repeat' first
    | with_reducible assumption
    | (extract_lets +onlyGivenNames x; first | (have hx : Keeps k d0 x := ?_; clear_value x; swap; subst x; swap) | (have hx : Keeps1 k d0 x := ?_; clear_value x; swap; subst x; swap) | subst x)
    | exact Allow.cls_S rfl
    | with_reducible refine Dev.putPort_keeps ?_
    | with_reducible exact Keeps.units (by assumption)
    | split

theorem Dev.replayTimeout_keeps {k : Allow} {d0 : Dev} (hB : k.b = true) {p : Nat} {d : Dev} (h : Keeps k d0 d) : Keeps k d0 (Dev.replayTimeout p d) := by
  unfold Dev.replayTimeout
  repeat' first
    | with_reducible assumption
    | (extract_lets +onlyGivenNames x; first | (have hx : Keeps k d0 x := ?_; clear_value x; swap; subst x; swap) | (have hx : Keeps1 k d0 x := ?_; clear_value x; swap; subst x; swap) | subst x)
    | exact Allow.cls_S rfl
    | exact hB
    | with_reducible refine Dev.replay_keeps hB ?_
    | with_reducible exact Keeps.units (by assumption)
    | split

theorem Dev.process_keeps {k : Allow} {d0 : Dev} {d : Dev} {p : Msg → Bool} {f : Dev → Msg → Dev}
    (hf : ∀ d m, Keeps k d0 d → Keeps k d0 (f d m)) (h : Keeps k d0 d) : Keeps k d0 (Dev.process d p f) := by
  unfold Dev.process
  split
  · exact h
  · split
    · exact hf _ _ (Dev.putChoir_keeps h)
    · exact h

theorem Dev.dropStale_keeps {k : Allow} {d0 : Dev} {d : Dev} (h : Keeps k d0 d) : Keeps k d0 (Dev.dropStale d) := by
  unfold Dev.dropStale
  repeat' first
    | with_reducible assumption
    | (extract_lets +onlyGivenNames x; first | (have hx : Keeps k d0 x := ?_; clear_value x; swap; subst x; swap) | (have hx : Keeps1 k d0 x := ?_; clear_value x; swap; subst x; swap) | subst x)
    | exact Allow.cls_S rfl
    | with_reducible refine Keeps.inc ?_ ?_
    | with_reducible exact Keeps.units (by assumption)
    | split

theorem Dev.cfghashSend_keeps {k : Allow} {d0 : Dev} {d : Dev} (h : Keeps k d0 d) : Keeps k d0 (Dev.cfghashSend d) := by
  unfold Dev.cfghashSend
  repeat' first
    | with_reducible assumption
    | (extract_lets +onlyGivenNames x; first | (have hx : Keeps k d0 x := ?_; clear_value x; swap; subst x; swap) | (have hx : Keeps1 k d0 x := ?_; clear_value x; swap; subst x; swap) | subst x)
    | exact Allow.cls_S rfl
    | with_reducible refine Dev.sendCfgHash_keeps ?_
    | with_reducible exact Keeps.units (by assumption)
    | split

theorem Dev.healthSend_keeps {k : Allow} {d0 : Dev} {d : Dev} (h : Keeps k d0 d) : Keeps k d0 (Dev.healthSend d) := by
  unfold Dev.healthSend
  repeat' first
    | with_reducible assumption
    | (extract_lets +onlyGivenNames x; first | (have hx : Keeps k d0 x := ?_; clear_value x; swap; subst x; swap) | (have hx : Keeps1 k d0 x := ?_; clear_value x; swap; subst x; swap) | subst x)
    | exact Allow.cls_S rfl
    | with_reducible refine Dev.send_keeps ?_
    | with_reducible exact Keeps.units (by assumption)
    | split

theorem Dev.sendTime_keeps {k : Allow} {d0 : Dev} {d : Dev} {claim : Bool} (h : Keeps k d0 d) : Keeps k d0 (Dev.sendTime d claim) := by
  unfold Dev.sendTime
  repeat' first
    | with_reducible assumption
    | (extract_lets +onlyGivenNames x; first | (have hx : Keeps k d0 x := ?_; clear_value x; swap; subst x; swap) | (have hx : Keeps1 k d0 x := ?_; clear_value x; swap; subst x; swap) | subst x)
    | exact Allow.cls_S rfl
    | with_reducible refine Dev.send_keeps ?_
    | with_reducible exact Keeps.units (by assumption)
    | split

theorem Dev.timeSend_keeps {k : Allow} {d0 : Dev} {d : Dev} (h : Keeps k d0 d) : Keeps k d0 (Dev.timeSend d) := by
  unfold Dev.timeSend
  repeat' first
    | with_reducible assumption
    | (extract_lets +onlyGivenNames x; first | (have hx : Keeps k d0 x := ?_; clear_value x; swap; subst x; swap) | (have hx : Keeps1 k d0 x := ?_; clear_value x; swap; subst x; swap) | subst x)
    | exact Allow.cls_S rfl
    | with_reducible refine Dev.sendTime_keeps ?_
    | with_reducible exact Keeps.units (by assumption)
    | split

theorem Dev.syncParity_keeps {k : Allow} {d0 : Dev} (hB : k.b = true) {d : Dev} {p : Nat} {raw : Option Nat} {bad : Bool} (h : Keeps k d0 d) : Keeps k d0 (Dev.syncParity d p raw bad) := by
  unfold Dev.syncParity
  repeat' first
    | with_reducible assumption
    | (extract_lets +onlyGivenNames x; first | (have hx : Keeps k d0 x := ?_; clear_value x; swap; subst x; swap) | (have hx : Keeps1 k d0 x := ?_; clear_value x; swap; subst x; swap) | subst x)
    | exact Allow.cls_S rfl
    | exact hB
    | with_reducible refine Dev.tableParity_keeps hB ?_
    | with_reducible exact Keeps.units (by assumption)
    | split

theorem Dev.launchSync_keeps {k : Allow} {d0 : Dev} (hB : k.b = true) {d : Dev} {p : Nat} {raw : Option Nat} {bad : Bool} (h : Keeps k d0 d) : Keeps k d0 (Dev.launchSync d p raw bad) := by
  unfold Dev.launchSync
  repeat' first
    | with_reducible assumption
    | (extract_lets +onlyGivenNames x; first | (have hx : Keeps k d0 x := ?_; clear_value x; swap; subst x; swap) | (have hx : Keeps1 k d0 x := ?_; clear_value x; swap; subst x; swap) | subst x)
    | exact Allow.cls_S rfl
    | exact hB
    | with_reducible refine Dev.syncParity_keeps hB ?_
    | with_reducible refine Dev.queueTx_keeps ?_
    | with_reducible refine Dev.putPort_keeps ?_
    | with_reducible refine Dev.newMessage_keeps ?_
    | with_reducible exact Keeps.units (by assumption)
    | split

theorem Dev.syncSend_keeps {k : Allow} {d0 : Dev} (hB : k.b = true) {stampA : Option Nat} {stampB : Option Nat} {parity : Nat} {d : Dev} (h : Keeps k d0 d) : Keeps k d0 (Dev.syncSend stampA stampB parity d) := by
  unfold Dev.syncSend
  repeat' first
    | with_reducible assumption
    | (extract_lets +onlyGivenNames x; first | (have hx : Keeps k d0 x := ?_; clear_value x; swap; subst x; swap) | (have hx : Keeps1 k d0 x := ?_; clear_value x; swap; subst x; swap) | subst x)
    | exact Allow.cls_S rfl
    | exact hB
    | with_reducible refine Dev.launchSync_keeps hB ?_
    | with_reducible exact Keeps.units (by assumption)
    | split

theorem Dev.chooseParent_keeps {k : Allow} {d0 : Dev} {d : Dev} (h : Keeps k d0 d) : Keeps k d0 (Dev.chooseParent d) := by
  unfold Dev.chooseParent
  repeat' first
    | with_reducible assumption
    | (extract_lets +onlyGivenNames x; first | (have hx : Keeps k d0 x := ?_; clear_value x; swap; subst x; swap) | (have hx : Keeps1 k d0 x := ?_; clear_value x; swap; subst x; swap) | subst x)
    | exact Allow.cls_S rfl
    | with_reducible refine Keeps.wr ?_ ?_
    | with_reducible exact Keeps.units (by assumption)
    | split

theorem Dev.steerBy_keeps {k : Allow} {d0 : Dev} {d : Dev} {theta : F64} {prev : F64} (h : Keeps k d0 d) : Keeps k d0 (Dev.steerBy d theta prev) := by
  unfold Dev.steerBy
  repeat' first
    | with_reducible assumption
    | (extract_lets +onlyGivenNames x; first | (have hx : Keeps k d0 x := ?_; clear_value x; swap; subst x; swap) | (have hx : Keeps1 k d0 x := ?_; clear_value x; swap; subst x; swap) | subst x)
    | exact Allow.cls_S rfl
    | with_reducible refine Keeps.wr ?_ ?_
    | with_reducible exact Keeps.units (by assumption)
    | split

theorem Dev.enterState_keeps {k : Allow} {d0 : Dev} {d : Dev} {st : Nat} (h : Keeps k d0 d) : Keeps k d0 (Dev.enterState d st) := by
  unfold Dev.enterState
  repeat' first
    | with_reducible assumption
    | (extract_lets +onlyGivenNames x; first | (have hx : Keeps k d0 x := ?_; clear_value x; swap; subst x; swap) | (have hx : Keeps1 k d0 x := ?_; clear_value x; swap; subst x; swap) | subst x)
    | exact Allow.cls_S rfl
    | with_reducible refine Dev.choirEvent_keeps ?_
    | with_reducible refine Dev.putChoir_keeps ?_
    | with_reducible refine Keeps.wr ?_ ?_
    | with_reducible exact Keeps.units (by assumption)
    | split

theorem Dev.stepTimescale_keeps {k : Allow} {d0 : Dev} (hN : k.n = true) (hB : k.b = true) (hH : k.h = true) (hI : k.i = true) {d : Dev} {theta : F64} (h : Keeps k d0 d) : Keeps k d0 (Dev.stepTimescale d theta) := by
  unfold Dev.stepTimescale
  repeat' first
    | with_reducible assumption
    | (extract_lets +onlyGivenNames x; first | (have hx : Keeps k d0 x := ?_; clear_value x; swap; subst x; swap) | (have hx : Keeps1 k d0 x := ?_; clear_value x; swap; subst x; swap) | subst x)
    | exact Allow.cls_S rfl
    | exact hN
    | exact hB
    | exact hH
    | exact hI
    | ((with_reducible first | refine Allow.cls_mem (by assumption) ?_ | refine Allow.cls_fst (by assumption) ?_ | refine Allow.cls_snd (by assumption) ?_); rfl)
    | with_reducible refine Dev.enterState_keeps ?_
    | with_reducible refine Dev.choirEvent_keeps ?_
    | with_reducible refine Dev.putChoir_keeps ?_
    | with_reducible refine Dev.syncMarkers_keeps ?_
    | with_reducible refine Dev.passBoundaries_keeps hN hB hH hI ?_
    | with_reducible refine Dev.putVoice_keeps ?_
    | with_reducible refine Dev.restAll_keeps ?_
    | with_reducible refine Keeps.wr ?_ ?_
    | with_reducible refine Keeps.each ?_ (fun d x hm hd => ?_)
    | with_reducible exact Keeps.units (by assumption)
    | split

theorem Dev.alignTheta_keeps {k : Allow} {d0 : Dev} (hN : k.n = true) (hB : k.b = true) (hH : k.h = true) (hI : k.i = true) {d : Dev} {theta : F64} (h : Keeps k d0 d) : Keeps k d0 (Dev.alignTheta d theta) := by
  unfold Dev.alignTheta
  repeat' first
    | with_reducible assumption
    | (extract_lets +onlyGivenNames x; first | (have hx : Keeps k d0 x := ?_; clear_value x; swap; subst x; swap) | (have hx : Keeps1 k d0 x := ?_; clear_value x; swap; subst x; swap) | subst x)
    | exact Allow.cls_S rfl
    | exact hN
    | exact hB
    | exact hH
    | exact hI
    | with_reducible refine Dev.stepTimescale_keeps hN hB hH hI ?_
    | with_reducible refine Dev.putChoir_keeps ?_
    | with_reducible exact Keeps.units (by assumption)
    | split

theorem Dev.relock_keeps {k : Allow} {d0 : Dev} {d : Dev} (h : Keeps k d0 d) : Keeps k d0 (Dev.relock d) := by
  unfold Dev.relock
  repeat' first
    | with_reducible assumption
    | (extract_lets +onlyGivenNames x; first | (have hx : Keeps k d0 x := ?_; clear_value x; swap; subst x; swap) | (have hx : Keeps1 k d0 x := ?_; clear_value x; swap; subst x; swap) | subst x)
    | exact Allow.cls_S rfl
    | with_reducible refine Dev.enterState_keeps ?_
    | with_reducible exact Keeps.units (by assumption)
    | split

theorem Dev.steerTheta_keeps {k : Allow} {d0 : Dev} (hB : k.b = true) {d : Dev} {theta : F64} (h : Keeps k d0 d) : Keeps k d0 (Dev.steerTheta d theta) := by
  unfold Dev.steerTheta
  repeat' first
    | with_reducible assumption
    | (extract_lets +onlyGivenNames x; first | (have hx : Keeps k d0 x := ?_; clear_value x; swap; subst x; swap) | (have hx : Keeps1 k d0 x := ?_; clear_value x; swap; subst x; swap) | subst x)
    | exact Allow.cls_S rfl
    | exact hB
    | with_reducible refine Dev.relock_keeps ?_
    | with_reducible refine Dev.fault_keeps hB ?_
    | with_reducible refine Dev.enterState_keeps ?_
    | with_reducible refine Dev.putChoir_keeps ?_
    | with_reducible refine Dev.steerBy_keeps ?_
    | with_reducible exact Keeps.units (by assumption)
    | split

theorem Dev.takeTheta_keeps {k : Allow} {d0 : Dev} (hN : k.n = true) (hB : k.b = true) (hH : k.h = true) (hI : k.i = true) {d : Dev} {theta : F64} {delay : F64} (h : Keeps k d0 d) : Keeps k d0 (Dev.takeTheta d theta delay) := by
  unfold Dev.takeTheta
  repeat' first
    | with_reducible assumption
    | (extract_lets +onlyGivenNames x; first | (have hx : Keeps k d0 x := ?_; clear_value x; swap; subst x; swap) | (have hx : Keeps1 k d0 x := ?_; clear_value x; swap; subst x; swap) | subst x)
    | exact Allow.cls_S rfl
    | exact hN
    | exact hB
    | exact hH
    | exact hI
    | with_reducible refine Dev.steerTheta_keeps hB ?_
    | with_reducible refine Dev.alignTheta_keeps hN hB hH hI ?_
    | with_reducible refine Dev.putChoir_keeps ?_
    | with_reducible refine Keeps.wr ?_ ?_
    | with_reducible exact Keeps.units (by assumption)
    | split

theorem Dev.takeSync_keeps {k : Allow} {d0 : Dev} (hN : k.n = true) (hB : k.b = true) (hH : k.h = true) (hI : k.i = true) {p : Nat} {stamp : Option Nat} {bad : Bool} {d : Dev} {m : Msg} (h : Keeps k d0 d) : Keeps k d0 (Dev.takeSync p stamp bad d m) := by
  unfold Dev.takeSync
  repeat' first
    | with_reducible assumption
    | (extract_lets +onlyGivenNames x; first | (have hx : Keeps k d0 x := ?_; clear_value x; swap; subst x; swap) | (have hx : Keeps1 k d0 x := ?_; clear_value x; swap; subst x; swap) | subst x)
    | exact Allow.cls_S rfl
    | exact hN
    | exact hB
    | exact hH
    | exact hI
    | with_reducible refine Dev.chooseParent_keeps ?_
    | with_reducible refine Dev.syncParity_keeps hB ?_
    | with_reducible refine Dev.takeTheta_keeps hN hB hH hI ?_
    | with_reducible refine Dev.putPort_keeps ?_
    | with_reducible refine Keeps.inc ?_ ?_
    | with_reducible exact Keeps.units (by assumption)
    | split

theorem Dev.syncRx_keeps {k : Allow} {d0 : Dev} (hN : k.n = true) (hB : k.b = true) (hH : k.h = true) (hI : k.i = true) {p : Nat} {stamp : Option Nat} {parity : Bool} {d : Dev} (h : Keeps k d0 d) : Keeps k d0 (Dev.syncRx p stamp parity d) := by
  unfold Dev.syncRx
  repeat' first
    | with_reducible assumption
    | (extract_lets +onlyGivenNames x; first | (have hx : Keeps k d0 x := ?_; clear_value x; swap; subst x; swap) | (have hx : Keeps1 k d0 x := ?_; clear_value x; swap; subst x; swap) | subst x)
    | exact Allow.cls_S rfl
    | exact hN
    | exact hB
    | exact hH
    | exact hI
    | with_reducible refine Dev.takeSync_keeps hN hB hH hI ?_
    | with_reducible refine Dev.process_keeps (fun d m hd => ?_) ?_
    | with_reducible exact Keeps.units (by assumption)
    | split

theorem Dev.thetaTimeout_keeps {k : Allow} {d0 : Dev} {d : Dev} (h : Keeps k d0 d) : Keeps k d0 (Dev.thetaTimeout d) := by
  unfold Dev.thetaTimeout
  repeat' first
    | with_reducible assumption
    | (extract_lets +onlyGivenNames x; first | (have hx : Keeps k d0 x := ?_; clear_value x; swap; subst x; swap) | (have hx : Keeps1 k d0 x := ?_; clear_value x; swap; subst x; swap) | subst x)
    | exact Allow.cls_S rfl
    | with_reducible refine Dev.putChoir_keeps ?_
    | with_reducible exact Keeps.units (by assumption)
    | split

theorem Dev.enterAlign_keeps {k : Allow} {d0 : Dev} {d : Dev} (h : Keeps k d0 d) : Keeps k d0 (Dev.enterAlign d) := by
  unfold Dev.enterAlign
  repeat' first
    | with_reducible assumption
    | (extract_lets +onlyGivenNames x; first | (have hx : Keeps k d0 x := ?_; clear_value x; swap; subst x; swap) | (have hx : Keeps1 k d0 x := ?_; clear_value x; swap; subst x; swap) | subst x)
    | exact Allow.cls_S rfl
    | with_reducible refine Dev.planSwitch_keeps ?_
    | with_reducible refine Dev.followOcxo_keeps ?_
    | with_reducible refine Dev.putChoir_keeps ?_
    | with_reducible refine Dev.enterState_keeps ?_
    | with_reducible refine Keeps.wr ?_ ?_
    | with_reducible exact Keeps.units (by assumption)
    | split

theorem Dev.mismatchFound_keeps {k : Allow} {d0 : Dev} (hB : k.b = true) {d : Dev} {leave : Bool} (h : Keeps k d0 d) : Keeps k d0 (Dev.mismatchFound d leave) := by
  unfold Dev.mismatchFound
  repeat' first
    | with_reducible assumption
    | (extract_lets +onlyGivenNames x; first | (have hx : Keeps k d0 x := ?_; clear_value x; swap; subst x; swap) | (have hx : Keeps1 k d0 x := ?_; clear_value x; swap; subst x; swap) | subst x)
    | exact Allow.cls_S rfl
    | exact hB
    | with_reducible refine Dev.enterOut_keeps ?_
    | with_reducible refine Dev.putChoir_keeps ?_
    | with_reducible refine Dev.fault_keeps hB ?_
    | with_reducible refine Dev.choirEvent_keeps ?_
    | with_reducible exact Keeps.units (by assumption)
    | split

theorem Dev.checkCantor_keeps {k : Allow} {d0 : Dev} (hB : k.b = true) {d : Dev} (h : Keeps k d0 d) : Keeps k d0 (Dev.checkCantor d) := by
  unfold Dev.checkCantor
  repeat' first
    | with_reducible assumption
    | (extract_lets +onlyGivenNames x; first | (have hx : Keeps k d0 x := ?_; clear_value x; swap; subst x; swap) | (have hx : Keeps1 k d0 x := ?_; clear_value x; swap; subst x; swap) | subst x)
    | exact Allow.cls_S rfl
    | exact hB
    | with_reducible refine Dev.mismatchFound_keeps hB ?_
    | with_reducible refine Dev.enterAlign_keeps ?_
    | with_reducible exact Keeps.units (by assumption)
    | split

theorem Dev.acceptTime_keeps {k : Allow} {d0 : Dev} (hB : k.b = true) {d : Dev} {m : Msg} (h : Keeps k d0 d) : Keeps k d0 (Dev.acceptTime d m) := by
  unfold Dev.acceptTime
  repeat' first
    | with_reducible assumption
    | (extract_lets +onlyGivenNames x; first | (have hx : Keeps k d0 x := ?_; clear_value x; swap; subst x; swap) | (have hx : Keeps1 k d0 x := ?_; clear_value x; swap; subst x; swap) | subst x)
    | exact Allow.cls_S rfl
    | exact hB
    | with_reducible refine Dev.checkCantor_keeps hB ?_
    | with_reducible refine Dev.followCal_keeps ?_
    | with_reducible refine Dev.enterAlign_keeps ?_
    | with_reducible refine Dev.choirEvent_keeps ?_
    | with_reducible refine Dev.fault_keeps hB ?_
    | with_reducible refine Dev.putChoir_keeps ?_
    | with_reducible refine Keeps.wr ?_ ?_
    | with_reducible exact Keeps.units (by assumption)
    | split

theorem Dev.timeRx_keeps {k : Allow} {d0 : Dev} (hB : k.b = true) {d : Dev} (h : Keeps k d0 d) : Keeps k d0 (Dev.timeRx d) := by
  unfold Dev.timeRx
  repeat' first
    | with_reducible assumption
    | (extract_lets +onlyGivenNames x; first | (have hx : Keeps k d0 x := ?_; clear_value x; swap; subst x; swap) | (have hx : Keeps1 k d0 x := ?_; clear_value x; swap; subst x; swap) | subst x)
    | exact Allow.cls_S rfl
    | exact hB
    | with_reducible refine Dev.dropStale_keeps ?_
    | with_reducible refine Dev.acceptTime_keeps hB ?_
    | with_reducible refine Dev.process_keeps (fun d m hd => ?_) ?_
    | with_reducible exact Keeps.units (by assumption)
    | split

theorem Dev.claimTime_keeps {k : Allow} {d0 : Dev} (hB : k.b = true) {d : Dev} (h : Keeps k d0 d) : Keeps k d0 (Dev.claimTime d) := by
  unfold Dev.claimTime
  repeat' first
    | with_reducible assumption
    | (extract_lets +onlyGivenNames x; first | (have hx : Keeps k d0 x := ?_; clear_value x; swap; subst x; swap) | (have hx : Keeps1 k d0 x := ?_; clear_value x; swap; subst x; swap) | subst x)
    | exact Allow.cls_S rfl
    | exact hB
    | with_reducible refine Dev.commitStaged_keeps hB ?_
    | with_reducible refine Dev.sendTime_keeps ?_
    | with_reducible refine Dev.planSwitch_keeps ?_
    | with_reducible refine Dev.followOcxo_keeps ?_
    | with_reducible refine Dev.fault_keeps hB ?_
    | with_reducible refine Dev.choirEvent_keeps ?_
    | with_reducible refine Dev.enterState_keeps ?_
    | with_reducible refine Dev.putChoir_keeps ?_
    | with_reducible refine Keeps.wr ?_ ?_
    | with_reducible exact Keeps.units (by assumption)
    | split

theorem Dev.healthRx_keeps {k : Allow} {d0 : Dev} {d : Dev} (h : Keeps k d0 d) : Keeps k d0 (Dev.healthRx d) := by
  unfold Dev.healthRx
  repeat' first
    | with_reducible assumption
    | (extract_lets +onlyGivenNames x; first | (have hx : Keeps k d0 x := ?_; clear_value x; swap; subst x; swap) | (have hx : Keeps1 k d0 x := ?_; clear_value x; swap; subst x; swap) | subst x)
    | exact Allow.cls_S rfl
    | with_reducible refine Dev.putPeer_keeps ?_
    | with_reducible refine Dev.process_keeps (fun d m hd => ?_) ?_
    | with_reducible refine Keeps.wr ?_ ?_
    | with_reducible exact Keeps.units (by assumption)
    | split

theorem Dev.cfghashRx_keeps {k : Allow} {d0 : Dev} (hB : k.b = true) {d : Dev} (h : Keeps k d0 d) : Keeps k d0 (Dev.cfghashRx d) := by
  unfold Dev.cfghashRx
  repeat' first
    | with_reducible assumption
    | (extract_lets +onlyGivenNames x; first | (have hx : Keeps k d0 x := ?_; clear_value x; swap; subst x; swap) | (have hx : Keeps1 k d0 x := ?_; clear_value x; swap; subst x; swap) | subst x)
    | exact Allow.cls_S rfl
    | exact hB
    | with_reducible refine Dev.checkCantor_keeps hB ?_
    | with_reducible refine Dev.mismatchFound_keeps hB ?_
    | with_reducible refine Dev.putPeer_keeps ?_
    | with_reducible refine Dev.process_keeps (fun d m hd => ?_) ?_
    | with_reducible exact Keeps.units (by assumption)
    | split

theorem Dev.aliveLapse_keeps {k : Allow} {d0 : Dev} {a : Nat} {d : Dev} (h : Keeps k d0 d) : Keeps k d0 (Dev.aliveLapse a d) := by
  unfold Dev.aliveLapse
  repeat' first
    | with_reducible assumption
    | (extract_lets +onlyGivenNames x; first | (have hx : Keeps k d0 x := ?_; clear_value x; swap; subst x; swap) | (have hx : Keeps1 k d0 x := ?_; clear_value x; swap; subst x; swap) | subst x)
    | exact Allow.cls_S rfl
    | with_reducible refine Keeps.wr ?_ ?_
    | with_reducible exact Keeps.units (by assumption)
    | split

theorem Dev.logRx_keeps {k : Allow} {d0 : Dev} {d : Dev} (h : Keeps k d0 d) : Keeps k d0 (Dev.logRx d) := by
  unfold Dev.logRx
  repeat' first
    | with_reducible assumption
    | (extract_lets +onlyGivenNames x; first | (have hx : Keeps k d0 x := ?_; clear_value x; swap; subst x; swap) | (have hx : Keeps1 k d0 x := ?_; clear_value x; swap; subst x; swap) | subst x)
    | exact Allow.cls_S rfl
    | with_reducible refine Dev.queueLog_keeps ?_
    | with_reducible refine Dev.process_keeps (fun d m hd => ?_) ?_
    | with_reducible exact Keeps.units (by assumption)
    | split

theorem Dev.giveSum_keeps {k : Allow} {d0 : Dev} {d : Dev} {pseq : Nat} {f : PipeJob → PipeJob} (h : Keeps k d0 d) : Keeps k d0 (Dev.giveSum d pseq f) := by
  unfold Dev.giveSum
  repeat' first
    | with_reducible assumption
    | (extract_lets +onlyGivenNames x; first | (have hx : Keeps k d0 x := ?_; clear_value x; swap; subst x; swap) | (have hx : Keeps1 k d0 x := ?_; clear_value x; swap; subst x; swap) | subst x)
    | exact Allow.cls_S rfl
    | with_reducible refine Dev.putPipe_keeps ?_
    | with_reducible exact Keeps.units (by assumption)
    | split

theorem Dev.reportOp_keeps {k : Allow} {d0 : Dev} {d : Dev} {code : Nat} (h : Keeps k d0 d) : Keeps k d0 (Dev.reportOp d code) := by
  unfold Dev.reportOp
  repeat' first
    | with_reducible assumption
    | (extract_lets +onlyGivenNames x; first | (have hx : Keeps k d0 x := ?_; clear_value x; swap; subst x; swap) | (have hx : Keeps1 k d0 x := ?_; clear_value x; swap; subst x; swap) | subst x)
    | exact Allow.cls_S rfl
    | with_reducible refine Dev.notify_keeps ?_
    | with_reducible refine Dev.putChoir_keeps ?_
    | with_reducible refine Keeps.wr ?_ ?_
    | with_reducible exact Keeps.units (by assumption)
    | split

theorem Dev.expireOp_keeps {k : Allow} {d0 : Dev} {d : Dev} {pseq : Nat} {src : Nat} {seq : Nat} (h : Keeps k d0 d) : Keeps k d0 (Dev.expireOp d pseq src seq) := by
  unfold Dev.expireOp
  repeat' first
    | with_reducible assumption
    | (extract_lets +onlyGivenNames x; first | (have hx : Keeps k d0 x := ?_; clear_value x; swap; subst x; swap) | (have hx : Keeps1 k d0 x := ?_; clear_value x; swap; subst x; swap) | subst x)
    | exact Allow.cls_S rfl
    | with_reducible refine Dev.reportOp_keeps ?_
    | with_reducible exact Keeps.units (by assumption)
    | split

theorem Dev.sendResult_keeps {k : Allow} {d0 : Dev} {d : Dev} {j : PipeJob} {s : SumVal} (h : Keeps k d0 d) : Keeps k d0 (Dev.sendResult d j s) := by
  unfold Dev.sendResult
  repeat' first
    | with_reducible assumption
    | (extract_lets +onlyGivenNames x; first | (have hx : Keeps k d0 x := ?_; clear_value x; swap; subst x; swap) | (have hx : Keeps1 k d0 x := ?_; clear_value x; swap; subst x; swap) | subst x)
    | exact Allow.cls_S rfl
    | with_reducible refine Dev.send_keeps ?_
    | with_reducible exact Keeps.units (by assumption)
    | split

theorem Dev.lateDevice_keeps {k : Allow} {d0 : Dev} (hB : k.b = true) {d : Dev} {a : Nat} (h : Keeps k d0 d) : Keeps k d0 (Dev.lateDevice d a) := by
  unfold Dev.lateDevice
  repeat' first
    | with_reducible assumption
    | (extract_lets +onlyGivenNames x; first | (have hx : Keeps k d0 x := ?_; clear_value x; swap; subst x; swap) | (have hx : Keeps1 k d0 x := ?_; clear_value x; swap; subst x; swap) | subst x)
    | exact Allow.cls_S rfl
    | exact hB
    | with_reducible refine Dev.sendCmd_keeps ?_
    | with_reducible refine Dev.fault_keeps hB ?_
    | with_reducible exact Keeps.units (by assumption)
    | split

theorem Dev.decideSum_keeps {k : Allow} {d0 : Dev} (hB : k.b = true) {d : Dev} {j : PipeJob} (h : Keeps k d0 d) : Keeps k d0 (Dev.decideSum d j) := by
  unfold Dev.decideSum
  repeat' first
    | with_reducible assumption
    | (extract_lets +onlyGivenNames x; first | (have hx : Keeps k d0 x := ?_; clear_value x; swap; subst x; swap) | (have hx : Keeps1 k d0 x := ?_; clear_value x; swap; subst x; swap) | subst x)
    | exact Allow.cls_S rfl
    | exact hB
    | ((with_reducible first | refine Allow.cls_mem (by assumption) ?_ | refine Allow.cls_fst (by assumption) ?_ | refine Allow.cls_snd (by assumption) ?_); rfl)
    | with_reducible refine Dev.expireOp_keeps ?_
    | with_reducible refine Dev.sendResult_keeps ?_
    | with_reducible refine Dev.giveSum_keeps ?_
    | with_reducible refine Dev.filter_keeps ?_
    | with_reducible refine Dev.putChoir_keeps ?_
    | with_reducible refine Dev.lateDevice_keeps hB ?_
    | with_reducible refine Keeps.wr ?_ ?_
    | with_reducible refine Keeps.each ?_ (fun d x hm hd => ?_)
    | with_reducible exact Keeps.units (by assumption)
    | split

theorem Dev.tryDecide_keeps {k : Allow} {d0 : Dev} (hB : k.b = true) {d : Dev} {force : Bool} (h : Keeps k d0 d) : Keeps k d0 (Dev.tryDecide d force) := by
  unfold Dev.tryDecide
  repeat' first
    | with_reducible assumption
    | (extract_lets +onlyGivenNames x; first | (have hx : Keeps k d0 x := ?_; clear_value x; swap; subst x; swap) | (have hx : Keeps1 k d0 x := ?_; clear_value x; swap; subst x; swap) | subst x)
    | exact Allow.cls_S rfl
    | exact hB
    | with_reducible refine Dev.decideSum_keeps hB ?_
    | with_reducible exact Keeps.units (by assumption)
    | split

theorem Dev.sumWindowEnd_keeps {k : Allow} {d0 : Dev} (hB : k.b = true) {d : Dev} (h : Keeps k d0 d) : Keeps k d0 (Dev.sumWindowEnd d) := by
  unfold Dev.sumWindowEnd
  repeat' first
    | with_reducible assumption
    | (extract_lets +onlyGivenNames x; first | (have hx : Keeps k d0 x := ?_; clear_value x; swap; subst x; swap) | (have hx : Keeps1 k d0 x := ?_; clear_value x; swap; subst x; swap) | subst x)
    | exact Allow.cls_S rfl
    | exact hB
    | with_reducible refine Dev.tryDecide_keeps hB ?_
    | with_reducible exact Keeps.units (by assumption)
    | split

theorem Dev.sumRx_keeps {k : Allow} {d0 : Dev} (hB : k.b = true) {d : Dev} (h : Keeps k d0 d) : Keeps k d0 (Dev.sumRx d) := by
  unfold Dev.sumRx
  repeat' first
    | with_reducible assumption
    | (extract_lets +onlyGivenNames x; first | (have hx : Keeps k d0 x := ?_; clear_value x; swap; subst x; swap) | (have hx : Keeps1 k d0 x := ?_; clear_value x; swap; subst x; swap) | subst x)
    | exact Allow.cls_S rfl
    | exact hB
    | with_reducible refine Dev.tryDecide_keeps hB ?_
    | with_reducible refine Dev.filter_keeps ?_
    | with_reducible refine Dev.putChoir_keeps ?_
    | with_reducible refine Dev.mismatchFound_keeps hB ?_
    | with_reducible refine Dev.putPeer_keeps ?_
    | with_reducible refine Dev.process_keeps (fun d m hd => ?_) ?_
    | with_reducible refine Keeps.inc ?_ ?_
    | with_reducible exact Keeps.units (by assumption)
    | split

theorem Dev.ownSum_keeps {k : Allow} {d0 : Dev} {d : Dev} {j : PipeJob} (h : Keeps k d0 d) : Keeps k d0 (Dev.ownSum d j) := by
  unfold Dev.ownSum
  repeat' first
    | with_reducible assumption
    | (extract_lets +onlyGivenNames x; first | (have hx : Keeps k d0 x := ?_; clear_value x; swap; subst x; swap) | (have hx : Keeps1 k d0 x := ?_; clear_value x; swap; subst x; swap) | subst x)
    | exact Allow.cls_S rfl
    | with_reducible refine Dev.giveSum_keeps ?_
    | with_reducible refine Dev.putChoir_keeps ?_
    | with_reducible exact Keeps.units (by assumption)
    | split

theorem Dev.offerSum_keeps {k : Allow} {d0 : Dev} {d : Dev} {j : PipeJob} (h : Keeps k d0 d) : Keeps k d0 (Dev.offerSum d j) := by
  unfold Dev.offerSum
  repeat' first
    | with_reducible assumption
    | (extract_lets +onlyGivenNames x; first | (have hx : Keeps k d0 x := ?_; clear_value x; swap; subst x; swap) | (have hx : Keeps1 k d0 x := ?_; clear_value x; swap; subst x; swap) | subst x)
    | exact Allow.cls_S rfl
    | with_reducible refine Dev.send_keeps ?_
    | with_reducible exact Keeps.units (by assumption)
    | split

theorem Dev.localSum_keeps {k : Allow} {d0 : Dev} (hB : k.b = true) {d : Dev} (h : Keeps k d0 d) : Keeps k d0 (Dev.localSum d) := by
  unfold Dev.localSum
  repeat' first
    | with_reducible assumption
    | (extract_lets +onlyGivenNames x; first | (have hx : Keeps k d0 x := ?_; clear_value x; swap; subst x; swap) | (have hx : Keeps1 k d0 x := ?_; clear_value x; swap; subst x; swap) | subst x)
    | exact Allow.cls_S rfl
    | exact hB
    | with_reducible refine Dev.expireOp_keeps ?_
    | with_reducible refine Dev.offerSum_keeps ?_
    | with_reducible refine Dev.tryDecide_keeps hB ?_
    | with_reducible refine Dev.ownSum_keeps ?_
    | with_reducible refine Dev.sumFaults_keeps hB ?_
    | with_reducible refine Dev.giveSum_keeps ?_
    | with_reducible exact Keeps.units (by assumption)
    | split

theorem Dev.resultRx_keeps {k : Allow} {d0 : Dev} {d : Dev} (h : Keeps k d0 d) : Keeps k d0 (Dev.resultRx d) := by
  unfold Dev.resultRx
  repeat' first
    | with_reducible assumption
    | (extract_lets +onlyGivenNames x; first | (have hx : Keeps k d0 x := ?_; clear_value x; swap; subst x; swap) | (have hx : Keeps1 k d0 x := ?_; clear_value x; swap; subst x; swap) | subst x)
    | exact Allow.cls_S rfl
    | with_reducible refine Dev.expireOp_keeps ?_
    | with_reducible refine Dev.giveSum_keeps ?_
    | with_reducible refine Dev.putChoir_keeps ?_
    | with_reducible refine Dev.dropStale_keeps ?_
    | with_reducible refine Dev.process_keeps (fun d m hd => ?_) ?_
    | with_reducible exact Keeps.units (by assumption)
    | split

theorem Dev.resultTimeout_keeps {k : Allow} {d0 : Dev} (hB : k.b = true) {d : Dev} (h : Keeps k d0 d) : Keeps k d0 (Dev.resultTimeout d) := by
  unfold Dev.resultTimeout
  repeat' first
    | with_reducible assumption
    | (extract_lets +onlyGivenNames x; first | (have hx : Keeps k d0 x := ?_; clear_value x; swap; subst x; swap) | (have hx : Keeps1 k d0 x := ?_; clear_value x; swap; subst x; swap) | subst x)
    | exact Allow.cls_S rfl
    | exact hB
    | with_reducible refine Dev.expireOp_keeps ?_
    | with_reducible refine Dev.choirEvent_keeps ?_
    | with_reducible refine Dev.fault_keeps hB ?_
    | with_reducible refine Dev.putChoir_keeps ?_
    | with_reducible refine Dev.giveSum_keeps ?_
    | with_reducible exact Keeps.units (by assumption)
    | split

theorem Dev.operate_keeps {k : Allow} {d0 : Dev} {code : Nat} {d : Dev} (h : Keeps k d0 d) : Keeps k d0 (Dev.operate code d) := by
  unfold Dev.operate
  repeat' first
    | with_reducible assumption
    | (extract_lets +onlyGivenNames x; first | (have hx : Keeps k d0 x := ?_; clear_value x; swap; subst x; swap) | (have hx : Keeps1 k d0 x := ?_; clear_value x; swap; subst x; swap) | subst x)
    | exact Allow.cls_S rfl
    | with_reducible refine Dev.sendCmd_keeps ?_
    | with_reducible refine Dev.putChoir_keeps ?_
    | with_reducible refine Dev.notify_keeps ?_
    | with_reducible refine Keeps.wr ?_ ?_
    | with_reducible exact Keeps.units (by assumption)
    | split

theorem Dev.opRx_keeps {k : Allow} {d0 : Dev} {d : Dev} (h : Keeps k d0 d) : Keeps k d0 (Dev.opRx d) := by
  unfold Dev.opRx
  repeat' first
    | with_reducible assumption
    | (extract_lets +onlyGivenNames x; first | (have hx : Keeps k d0 x := ?_; clear_value x; swap; subst x; swap) | (have hx : Keeps1 k d0 x := ?_; clear_value x; swap; subst x; swap) | subst x)
    | exact Allow.cls_S rfl
    | with_reducible refine Dev.putChoir_keeps ?_
    | with_reducible refine Dev.process_keeps (fun d m hd => ?_) ?_
    | with_reducible exact Keeps.units (by assumption)
    | split

theorem Dev.obey_keeps {k : Allow} {d0 : Dev} {d : Dev} {n : Nat} {f : Dev → Msg → Dev}
    (hf : ∀ d m, Keeps k d0 d → Keeps k d0 (f d m)) (h : Keeps k d0 d) : Keeps k d0 (Dev.obey d n f) := by
  unfold Dev.obey
  refine Dev.process_keeps (fun d m hd => ?_) h
  split
  · exact Dev.dropStale_keeps hd
  · exact hf d m hd

theorem Dev.switchRx_keeps {k : Allow} {d0 : Dev} (hB : k.b = true) {d : Dev} (h : Keeps k d0 d) : Keeps k d0 (Dev.switchRx d) := by
  unfold Dev.switchRx
  repeat' first
    | with_reducible assumption
    | (extract_lets +onlyGivenNames x; first | (have hx : Keeps k d0 x := ?_; clear_value x; swap; subst x; swap) | (have hx : Keeps1 k d0 x := ?_; clear_value x; swap; subst x; swap) | subst x)
    | exact Allow.cls_S rfl
    | exact hB
    | with_reducible refine Dev.commitStaged_keeps hB ?_
    | with_reducible refine Dev.refuseApply_keeps hB ?_
    | with_reducible refine Dev.obey_keeps (fun d m hd => ?_) ?_
    | with_reducible refine Keeps.wr ?_ ?_
    | with_reducible exact Keeps.units (by assumption)
    | split

theorem Dev.switchAckRx_keeps {k : Allow} {d0 : Dev} {d : Dev} (h : Keeps k d0 d) : Keeps k d0 (Dev.switchAckRx d) := by
  unfold Dev.switchAckRx
  repeat' first
    | with_reducible assumption
    | (extract_lets +onlyGivenNames x; first | (have hx : Keeps k d0 x := ?_; clear_value x; swap; subst x; swap) | (have hx : Keeps1 k d0 x := ?_; clear_value x; swap; subst x; swap) | subst x)
    | exact Allow.cls_S rfl
    | with_reducible refine Dev.process_keeps (fun d m hd => ?_) ?_
    | with_reducible refine Keeps.wr ?_ ?_
    | with_reducible exact Keeps.units (by assumption)
    | split

theorem Dev.resetRx_keeps {k : Allow} {d0 : Dev} {d : Dev} (h : Keeps k d0 d) : Keeps k d0 (Dev.resetRx d) := by
  unfold Dev.resetRx
  repeat' first
    | with_reducible assumption
    | (extract_lets +onlyGivenNames x; first | (have hx : Keeps k d0 x := ?_; clear_value x; swap; subst x; swap) | (have hx : Keeps1 k d0 x := ?_; clear_value x; swap; subst x; swap) | subst x)
    | exact Allow.cls_S rfl
    | with_reducible refine Dev.dropStale_keeps ?_
    | with_reducible refine Dev.putChoir_keeps ?_
    | with_reducible exact Keeps.units (by assumption)
    | split

theorem Dev.retireRx_keeps {k : Allow} {d0 : Dev} {d : Dev} (h : Keeps k d0 d) : Keeps k d0 (Dev.retireRx d) := by
  unfold Dev.retireRx
  repeat' first
    | with_reducible assumption
    | (extract_lets +onlyGivenNames x; first | (have hx : Keeps k d0 x := ?_; clear_value x; swap; subst x; swap) | (have hx : Keeps1 k d0 x := ?_; clear_value x; swap; subst x; swap) | subst x)
    | exact Allow.cls_S rfl
    | with_reducible refine Dev.enterOut_keeps ?_
    | with_reducible refine Dev.putChoir_keeps ?_
    | with_reducible refine Dev.obey_keeps (fun d m hd => ?_) ?_
    | with_reducible exact Keeps.units (by assumption)
    | split

theorem Dev.readmitRx_keeps {k : Allow} {d0 : Dev} {d : Dev} (h : Keeps k d0 d) : Keeps k d0 (Dev.readmitRx d) := by
  unfold Dev.readmitRx
  repeat' first
    | with_reducible assumption
    | (extract_lets +onlyGivenNames x; first | (have hx : Keeps k d0 x := ?_; clear_value x; swap; subst x; swap) | (have hx : Keeps1 k d0 x := ?_; clear_value x; swap; subst x; swap) | subst x)
    | exact Allow.cls_S rfl
    | with_reducible refine Dev.putChoir_keeps ?_
    | with_reducible refine Dev.obey_keeps (fun d m hd => ?_) ?_
    | with_reducible refine Keeps.wr ?_ ?_
    | with_reducible exact Keeps.units (by assumption)
    | split

theorem Dev.realignReqRx_keeps {k : Allow} {d0 : Dev} {d : Dev} (h : Keeps k d0 d) : Keeps k d0 (Dev.realignReqRx d) := by
  unfold Dev.realignReqRx
  repeat' first
    | with_reducible assumption
    | (extract_lets +onlyGivenNames x; first | (have hx : Keeps k d0 x := ?_; clear_value x; swap; subst x; swap) | (have hx : Keeps1 k d0 x := ?_; clear_value x; swap; subst x; swap) | subst x)
    | exact Allow.cls_S rfl
    | with_reducible refine Dev.putChoir_keeps ?_
    | with_reducible refine Dev.process_keeps (fun d m hd => ?_) ?_
    | with_reducible exact Keeps.units (by assumption)
    | split

theorem Dev.readmitDevice_keeps {k : Allow} {d0 : Dev} {a : Nat} {d : Dev} (h : Keeps k d0 d) : Keeps k d0 (Dev.readmitDevice a d) := by
  unfold Dev.readmitDevice
  repeat' first
    | with_reducible assumption
    | (extract_lets +onlyGivenNames x; first | (have hx : Keeps k d0 x := ?_; clear_value x; swap; subst x; swap) | (have hx : Keeps1 k d0 x := ?_; clear_value x; swap; subst x; swap) | subst x)
    | exact Allow.cls_S rfl
    | with_reducible refine Dev.sendCmd_keeps ?_
    | with_reducible refine Keeps.wr ?_ ?_
    | with_reducible exact Keeps.units (by assumption)
    | split

theorem Dev.choirResetCmd_keeps {k : Allow} {d0 : Dev} {d : Dev} (h : Keeps k d0 d) : Keeps k d0 (Dev.choirResetCmd d) := by
  unfold Dev.choirResetCmd
  repeat' first
    | with_reducible assumption
    | (extract_lets +onlyGivenNames x; first | (have hx : Keeps k d0 x := ?_; clear_value x; swap; subst x; swap) | (have hx : Keeps1 k d0 x := ?_; clear_value x; swap; subst x; swap) | subst x)
    | exact Allow.cls_S rfl
    | with_reducible refine Dev.sendCmdAll_keeps ?_
    | with_reducible refine Dev.putChoir_keeps ?_
    | with_reducible exact Keeps.units (by assumption)
    | split

theorem Dev.clearChoirCounters_keeps {k : Allow} {d0 : Dev} {d : Dev} (h : Keeps k d0 d) : Keeps k d0 (Dev.clearChoirCounters d) := by
  unfold Dev.clearChoirCounters
  repeat' first
    | with_reducible assumption
    | (extract_lets +onlyGivenNames x; first | (have hx : Keeps k d0 x := ?_; clear_value x; swap; subst x; swap) | (have hx : Keeps1 k d0 x := ?_; clear_value x; swap; subst x; swap) | subst x)
    | exact Allow.cls_S rfl
    | ((with_reducible first | refine Allow.cls_mem (by assumption) ?_ | refine Allow.cls_fst (by assumption) ?_ | refine Allow.cls_snd (by assumption) ?_); rfl)
    | with_reducible refine Keeps.wr ?_ ?_
    | with_reducible refine Keeps.each ?_ (fun d x hm hd => ?_)
    | with_reducible exact Keeps.units (by assumption)
    | split

theorem Dev.supplyBackup_keeps {k : Allow} {d0 : Dev} {d : Dev} (h : Keeps k d0 d) : Keeps k d0 (Dev.supplyBackup d) := by
  unfold Dev.supplyBackup
  repeat' first
    | with_reducible assumption
    | (extract_lets +onlyGivenNames x; first | (have hx : Keeps k d0 x := ?_; clear_value x; swap; subst x; swap) | (have hx : Keeps1 k d0 x := ?_; clear_value x; swap; subst x; swap) | subst x)
    | exact Allow.cls_S rfl
    | with_reducible exact Keeps.units (by assumption)
    | split

theorem Dev.powerGoodRise_keeps {k : Allow} {d0 : Dev} (hB : k.b = true) (hP : k.p = true) (hH : k.h = true) (hI : k.i = true) (hNvm : k.nvm = true) {straps : Nat} {testEn : Bool} {d : Dev} (h : Keeps k d0 d) : Keeps k d0 (Dev.powerGoodRise straps testEn d) := by
  unfold Dev.powerGoodRise
  repeat' first
    | with_reducible assumption
    | (extract_lets +onlyGivenNames x; first | (have hx : Keeps k d0 x := ?_; clear_value x; swap; subst x; swap) | (have hx : Keeps1 k d0 x := ?_; clear_value x; swap; subst x; swap) | subst x)
    | exact Allow.cls_S rfl
    | exact hB
    | exact hP
    | exact hH
    | exact hI
    | with_reducible refine Dev.reset_keeps hB hP hH hI hNvm ?_
    | with_reducible refine Dev.supplyBackup_keeps ?_
    | with_reducible refine Keeps.wr ?_ ?_
    | with_reducible exact Keeps.units (by assumption)
    | split

theorem Dev.powerGoodFall_keeps {k : Allow} {d0 : Dev} (hB : k.b = true) (hP : k.p = true) (hH : k.h = true) (hI : k.i = true) (hNvm : k.nvm = true) {rails : Nat} {d : Dev} (h : Keeps k d0 d) : Keeps k d0 (Dev.powerGoodFall rails d) := by
  unfold Dev.powerGoodFall
  repeat' first
    | with_reducible assumption
    | (extract_lets +onlyGivenNames x; first | (have hx : Keeps k d0 x := ?_; clear_value x; swap; subst x; swap) | (have hx : Keeps1 k d0 x := ?_; clear_value x; swap; subst x; swap) | subst x)
    | exact Allow.cls_S rfl
    | exact hB
    | exact hP
    | exact hH
    | exact hI
    | with_reducible refine Dev.showLevels_keeps ?_
    | with_reducible refine Dev.afterReset_keeps hP hH hI ?_
    | with_reducible refine Dev.abandonPt_keeps hNvm ?_
    | with_reducible refine Keeps.wr ?_ ?_
    | with_reducible exact Keeps.units (by assumption)
    | split

theorem Dev.vbatLow_keeps {k : Allow} {d0 : Dev} (hB : k.b = true) {d : Dev} (h : Keeps k d0 d) : Keeps k d0 (Dev.vbatLow d) := by
  unfold Dev.vbatLow
  repeat' first
    | with_reducible assumption
    | (extract_lets +onlyGivenNames x; first | (have hx : Keeps k d0 x := ?_; clear_value x; swap; subst x; swap) | (have hx : Keeps1 k d0 x := ?_; clear_value x; swap; subst x; swap) | subst x)
    | exact Allow.cls_S rfl
    | exact hB
    | with_reducible refine Keeps.wr ?_ ?_
    | with_reducible exact Keeps.units (by assumption)
    | split

theorem Dev.strapChange_keeps {k : Allow} {d0 : Dev} (hP : k.p = true) {levels : Nat} {d : Dev} (h : Keeps k d0 d) : Keeps k d0 (Dev.strapChange levels d) := by
  unfold Dev.strapChange
  repeat' first
    | with_reducible assumption
    | (extract_lets +onlyGivenNames x; first | (have hx : Keeps k d0 x := ?_; clear_value x; swap; subst x; swap) | (have hx : Keeps1 k d0 x := ?_; clear_value x; swap; subst x; swap) | subst x)
    | exact Allow.cls_S rfl
    | exact hP
    | with_reducible refine Keeps.wr ?_ ?_
    | with_reducible exact Keeps.units (by assumption)
    | split

theorem Dev.sealChange_keeps {k : Allow} {d0 : Dev} (hB : k.b = true) {level : Bool} {d : Dev} (h : Keeps k d0 d) : Keeps k d0 (Dev.sealChange level d) := by
  unfold Dev.sealChange
  repeat' first
    | with_reducible assumption
    | (extract_lets +onlyGivenNames x; first | (have hx : Keeps k d0 x := ?_; clear_value x; swap; subst x; swap) | (have hx : Keeps1 k d0 x := ?_; clear_value x; swap; subst x; swap) | subst x)
    | exact Allow.cls_S rfl
    | exact hB
    | with_reducible refine Dev.sealClosed_keeps hB ?_
    | with_reducible refine Dev.log_keeps ?_
    | with_reducible refine Dev.notify_keeps ?_
    | with_reducible refine Keeps.wr ?_ ?_
    | with_reducible exact Keeps.units (by assumption)
    | split

theorem Dev.readHeaders_keeps {k : Allow} {d0 : Dev} (hN : k.n = true) {d : Dev} {sfdp : List Nat} (h : Keeps k d0 d) : Keeps k d0 (Dev.readHeaders d sfdp) := by
  unfold Dev.readHeaders
  repeat' first
    | with_reducible assumption
    | (extract_lets +onlyGivenNames x; first | (have hx : Keeps k d0 x := ?_; clear_value x; swap; subst x; swap) | (have hx : Keeps1 k d0 x := ?_; clear_value x; swap; subst x; swap) | subst x)
    | exact Allow.cls_S rfl
    | exact hN
    | with_reducible refine Dev.countAudit_keeps hN ?_
    | with_reducible refine Dev.putLogs_keeps ?_
    | with_reducible refine Dev.showSlots_keeps ?_
    | with_reducible refine Keeps.wr ?_ ?_
    | with_reducible exact Keeps.units (by assumption)
    | split

theorem Dev.noteRead_keeps {k : Allow} {d0 : Dev} (hB : k.b = true) {d : Dev} {code : Nat} (h : Keeps k d0 d) : Keeps k d0 (Dev.noteRead d code) := by
  unfold Dev.noteRead
  repeat' first
    | with_reducible assumption
    | (extract_lets +onlyGivenNames x; first | (have hx : Keeps k d0 x := ?_; clear_value x; swap; subst x; swap) | (have hx : Keeps1 k d0 x := ?_; clear_value x; swap; subst x; swap) | subst x)
    | exact Allow.cls_S rfl
    | exact hB
    | with_reducible refine Dev.fault_keeps hB ?_
    | with_reducible exact Keeps.units (by assumption)
    | split

theorem Dev.showFailure_keeps {k : Allow} {d0 : Dev} (hB : k.b = true) {d : Dev} {v : Verdict} (h : Keeps k d0 d) : Keeps k d0 (Dev.showFailure d v) := by
  unfold Dev.showFailure
  repeat' first
    | with_reducible assumption
    | (extract_lets +onlyGivenNames x; first | (have hx : Keeps k d0 x := ?_; clear_value x; swap; subst x; swap) | (have hx : Keeps1 k d0 x := ?_; clear_value x; swap; subst x; swap) | subst x)
    | exact Allow.cls_S rfl
    | exact hB
    | with_reducible refine Dev.noteRead_keeps hB ?_
    | with_reducible refine Keeps.wr ?_ ?_
    | with_reducible exact Keeps.units (by assumption)
    | split

end Sys2Proof.Machine
end

