-- ==== Sys2Proof/Laws/Effects6.lean ====
section
/-! SUPPORT.
What each effect of the device keeps, part 6 of 6: `f_keeps` says which classes of fields, the NVM or the fuses `f` may change (its
hypotheses on `k`), and that it keeps the canonical forms.
-/

set_option linter.unusedTactic false
set_option linter.unreachableTactic false
set_option linter.unusedVariables false
set_option maxRecDepth 4000

namespace Sys2Proof.Machine

set_option Elab.async false

theorem Dev.failSlot_keeps {k : Allow} {d0 : Dev} (hB : k.b = true) {d : Dev} {s : Nat} {v : Verdict} (h : Keeps k d0 d) : Keeps k d0 (Dev.failSlot d s v) := by
  unfold Dev.failSlot
  repeat' first
    | with_reducible assumption
    | (extract_lets +onlyGivenNames x; first | (have hx : Keeps k d0 x := ?_; clear_value x; swap; subst x; swap) | (have hx : Keeps1 k d0 x := ?_; clear_value x; swap; subst x; swap) | subst x)
    | exact Allow.cls_S rfl
    | exact hB
    | with_reducible refine Dev.fault_keeps hB ?_
    | with_reducible refine Dev.showFailure_keeps hB ?_
    | with_reducible exact Keeps.units (by assumption)
    | split

theorem Dev.noImage_keeps {k : Allow} {d0 : Dev} (hB : k.b = true) {d : Dev} (h : Keeps k d0 d) : Keeps k d0 (Dev.noImage d) := by
  unfold Dev.noImage
  repeat' first
    | with_reducible assumption
    | (extract_lets +onlyGivenNames x; first | (have hx : Keeps k d0 x := ?_; clear_value x; swap; subst x; swap) | (have hx : Keeps1 k d0 x := ?_; clear_value x; swap; subst x; swap) | subst x)
    | exact Allow.cls_S rfl
    | exact hB
    | with_reducible refine Dev.fault_keeps hB ?_
    | with_reducible refine Keeps.wr ?_ ?_
    | with_reducible refine Keeps.when ?_ (fun d hd => ?_)
    | with_reducible exact Keeps.units (by assumption)
    | split

theorem Dev.failLoad_keeps {k : Allow} {d0 : Dev} (hB : k.b = true) {d : Dev} {code : Nat} (h : Keeps k d0 d) : Keeps k d0 (Dev.failLoad d code) := by
  unfold Dev.failLoad
  repeat' first
    | with_reducible assumption
    | (extract_lets +onlyGivenNames x; first | (have hx : Keeps k d0 x := ?_; clear_value x; swap; subst x; swap) | (have hx : Keeps1 k d0 x := ?_; clear_value x; swap; subst x; swap) | subst x)
    | exact Allow.cls_S rfl
    | exact hB
    | with_reducible refine Dev.noImage_keeps hB ?_
    | with_reducible refine Keeps.wr ?_ ?_
    | with_reducible exact Keeps.units (by assumption)
    | split

theorem Dev.settlePending_keeps {k : Allow} {d0 : Dev} (hN : k.n = true) (hB : k.b = true) (hNvm : k.nvm = true) {d : Dev} {check : Nat} {bad : Bool} (h : Keeps k d0 d) : Keeps1 k d0 (Dev.settlePending d check bad) := by
  unfold Dev.settlePending
  repeat' first
    | with_reducible assumption
    | (extract_lets +onlyGivenNames x; first | (have hx : Keeps k d0 x := ?_; clear_value x; swap; subst x; swap) | (have hx : Keeps1 k d0 x := ?_; clear_value x; swap; subst x; swap) | subst x)
    | exact Allow.cls_S rfl
    | exact hN
    | exact hB
    | with_reducible refine Dev.fault_keeps hB ?_
    | with_reducible refine Dev.settleAudit_keeps hN hNvm ?_
    | with_reducible refine Dev.countAudit_keeps hN ?_
    | with_reducible refine Dev.spoil_keeps hNvm ?_
    | with_reducible exact Keeps.units (by assumption)
    | split

theorem Dev.recordExternal_keeps {k : Allow} {d0 : Dev} (hN : k.n = true) (hB : k.b = true) (hNvm : k.nvm = true) {d : Dev} {check : Nat} {gen : Nat} {bad : Bool} (h : Keeps k d0 d) : Keeps1 k d0 (Dev.recordExternal d check gen bad) := by
  unfold Dev.recordExternal
  repeat' first
    | with_reducible assumption
    | (extract_lets +onlyGivenNames x; first | (have hx : Keeps k d0 x := ?_; clear_value x; swap; subst x; swap) | (have hx : Keeps1 k d0 x := ?_; clear_value x; swap; subst x; swap) | subst x)
    | exact Allow.cls_S rfl
    | exact hN
    | exact hB
    | with_reducible refine Dev.writeAudit_keeps hN hNvm ?_
    | with_reducible refine Dev.reportAuditFull_keeps hB ?_
    | with_reducible exact Keeps.units (by assumption)
    | split

theorem Dev.startMonitors_keeps {k : Allow} {d0 : Dev} {d : Dev} (h : Keeps k d0 d) : Keeps k d0 (Dev.startMonitors d) := by
  unfold Dev.startMonitors
  repeat' first
    | with_reducible assumption
    | (extract_lets +onlyGivenNames x; first | (have hx : Keeps k d0 x := ?_; clear_value x; swap; subst x; swap) | (have hx : Keeps1 k d0 x := ?_; clear_value x; swap; subst x; swap) | subst x)
    | exact Allow.cls_S rfl
    | ((with_reducible first | refine Allow.cls_mem (by assumption) ?_ | refine Allow.cls_fst (by assumption) ?_ | refine Allow.cls_snd (by assumption) ?_); rfl)
    | with_reducible refine Dev.settleMonitor_keeps ?_
    | with_reducible refine Dev.showThresholds_keeps ?_
    | with_reducible refine Keeps.each ?_ (fun d x hm hd => ?_)
    | with_reducible exact Keeps.units (by assumption)
    | split

theorem Dev.startChoir_keeps {k : Allow} {d0 : Dev} {d : Dev} (h : Keeps k d0 d) : Keeps k d0 (Dev.startChoir d) := by
  unfold Dev.startChoir
  repeat' first
    | with_reducible assumption
    | (extract_lets +onlyGivenNames x; first | (have hx : Keeps k d0 x := ?_; clear_value x; swap; subst x; swap) | (have hx : Keeps1 k d0 x := ?_; clear_value x; swap; subst x; swap) | subst x)
    | exact Allow.cls_S rfl
    | with_reducible refine Dev.sendCfgHash_keeps ?_
    | with_reducible refine Dev.choirOfOne_keeps ?_
    | with_reducible refine Dev.putChoir_keeps ?_
    | with_reducible refine Keeps.wr ?_ ?_
    | with_reducible exact Keeps.units (by assumption)
    | split

theorem Dev.startBlocks_keeps {k : Allow} {d0 : Dev} (hB : k.b = true) {d : Dev} (h : Keeps k d0 d) : Keeps k d0 (Dev.startBlocks d) := by
  unfold Dev.startBlocks
  repeat' first
    | with_reducible assumption
    | (extract_lets +onlyGivenNames x; first | (have hx : Keeps k d0 x := ?_; clear_value x; swap; subst x; swap) | (have hx : Keeps1 k d0 x := ?_; clear_value x; swap; subst x; swap) | subst x)
    | exact Allow.cls_S rfl
    | exact hB
    | ((with_reducible first | refine Allow.cls_mem (by assumption) ?_ | refine Allow.cls_fst (by assumption) ?_ | refine Allow.cls_snd (by assumption) ?_); rfl)
    | with_reducible refine Dev.fault_keeps hB ?_
    | with_reducible refine Dev.followOcxo_keeps ?_
    | with_reducible refine Dev.startChoir_keeps ?_
    | with_reducible refine Dev.startTrack_keeps ?_
    | with_reducible refine Dev.startPipeline_keeps ?_
    | with_reducible refine Dev.spForceAll_keeps ?_
    | with_reducible refine Dev.driveExc_keeps ?_
    | with_reducible refine Dev.wakeExc_keeps ?_
    | with_reducible refine Dev.startMonitors_keeps ?_
    | with_reducible refine Dev.checkViov_keeps hB ?_
    | with_reducible refine Keeps.wr ?_ ?_
    | with_reducible refine Keeps.each ?_ (fun d x hm hd => ?_)
    | with_reducible exact Keeps.units (by assumption)
    | split

theorem Dev.loadImage_keeps {k : Allow} {d0 : Dev} (hN : k.n = true) (hB : k.b = true) (hI : k.i = true) (hNvm : k.nvm = true) {d : Dev} {s : Nat} {v : Verdict} {bad : Nat} (h : Keeps k d0 d) : Keeps k d0 (Dev.loadImage d s v bad) := by
  unfold Dev.loadImage
  repeat' first
    | with_reducible assumption
    | (extract_lets +onlyGivenNames x; first | (have hx : Keeps k d0 x := ?_; clear_value x; swap; subst x; swap) | (have hx : Keeps1 k d0 x := ?_; clear_value x; swap; subst x; swap) | subst x)
    | exact Allow.cls_S rfl
    | exact hN
    | exact hB
    | exact hI
    | with_reducible refine Dev.startBlocks_keeps hB ?_
    | with_reducible refine Dev.showActive_keeps ?_
    | with_reducible refine Dev.takeTable_keeps hI ?_
    | with_reducible refine Dev.failLoad_keeps hB ?_
    | with_reducible refine Dev.fault_keeps hB ?_
    | with_reducible refine Dev.recordExternal_keeps hN hB hNvm ?_
    | with_reducible refine Dev.settlePending_keeps hN hB hNvm ?_
    | with_reducible refine Dev.showSlots_keeps ?_
    | with_reducible refine Dev.program_keeps hNvm ?_
    | with_reducible exact Keeps.units (by assumption)
    | split

theorem Dev.fallBack_keeps {k : Allow} {d0 : Dev} (hN : k.n = true) (hB : k.b = true) (hI : k.i = true) (hNvm : k.nvm = true) {d : Dev} {bad : Nat} {dead : Nat} (h : Keeps k d0 d) : Keeps k d0 (Dev.fallBack d bad dead) := by
  unfold Dev.fallBack
  repeat' first
    | with_reducible assumption
    | (extract_lets +onlyGivenNames x; first | (have hx : Keeps k d0 x := ?_; clear_value x; swap; subst x; swap) | (have hx : Keeps1 k d0 x := ?_; clear_value x; swap; subst x; swap) | subst x)
    | exact Allow.cls_S rfl
    | exact hN
    | exact hB
    | exact hI
    | with_reducible refine Dev.loadImage_keeps hN hB hI hNvm ?_
    | with_reducible refine Dev.showSlots_keeps ?_
    | with_reducible refine Dev.program_keeps hNvm ?_
    | with_reducible refine Dev.fault_keeps hB ?_
    | with_reducible refine Dev.showFailure_keeps hB ?_
    | with_reducible refine Dev.noImage_keeps hB ?_
    | with_reducible refine Keeps.wr ?_ ?_
    | with_reducible exact Keeps.units (by assumption)
    | split

theorem Dev.bootImage_keeps {k : Allow} {d0 : Dev} (hN : k.n = true) (hB : k.b = true) (hI : k.i = true) (hNvm : k.nvm = true) {d : Dev} {bad : Nat} {dead : Nat} (h : Keeps k d0 d) : Keeps k d0 (Dev.bootImage d bad dead) := by
  unfold Dev.bootImage
  repeat' first
    | with_reducible assumption
    | (extract_lets +onlyGivenNames x; first | (have hx : Keeps k d0 x := ?_; clear_value x; swap; subst x; swap) | (have hx : Keeps1 k d0 x := ?_; clear_value x; swap; subst x; swap) | subst x)
    | exact Allow.cls_S rfl
    | exact hN
    | exact hB
    | exact hI
    | with_reducible refine Dev.failSlot_keeps hB ?_
    | with_reducible refine Dev.loadImage_keeps hN hB hI hNvm ?_
    | with_reducible refine Dev.fallBack_keeps hN hB hI hNvm ?_
    | with_reducible refine Dev.noImage_keeps hB ?_
    | with_reducible exact Keeps.units (by assumption)
    | split

theorem Dev.openSck_keeps {k : Allow} {d0 : Dev} {d : Dev} (h : Keeps k d0 d) : Keeps k d0 (Dev.openSck d) := by
  unfold Dev.openSck
  repeat' first
    | with_reducible assumption
    | (extract_lets +onlyGivenNames x; first | (have hx : Keeps k d0 x := ?_; clear_value x; swap; subst x; swap) | (have hx : Keeps1 k d0 x := ?_; clear_value x; swap; subst x; swap) | subst x)
    | exact Allow.cls_S rfl
    | with_reducible refine Dev.startTimers_keeps ?_
    | with_reducible refine Dev.showRefOut_keeps ?_
    | with_reducible refine Dev.bootTuning_keeps ?_
    | with_reducible refine Keeps.wr ?_ ?_
    | with_reducible exact Keeps.units (by assumption)
    | split

theorem Dev.mountLog_keeps {k : Allow} {d0 : Dev} (hN : k.n = true) (hB : k.b = true) (hNvm : k.nvm = true) {d : Dev} (h : Keeps k d0 d) : Keeps k d0 (Dev.mountLog d) := by
  unfold Dev.mountLog
  repeat' first
    | with_reducible assumption
    | (extract_lets +onlyGivenNames x; first | (have hx : Keeps k d0 x := ?_; clear_value x; swap; subst x; swap) | (have hx : Keeps1 k d0 x := ?_; clear_value x; swap; subst x; swap) | subst x)
    | exact Allow.cls_S rfl
    | exact hN
    | exact hB
    | with_reducible refine Dev.restoreTrack_keeps hN ?_
    | with_reducible refine Dev.mount_keeps hN hB hNvm ?_
    | with_reducible refine Dev.fault_keeps hB ?_
    | with_reducible refine Dev.showKckStop_keeps hB ?_
    | with_reducible exact Keeps.units (by assumption)
    | split

theorem Dev.reportSafe_keeps {k : Allow} {d0 : Dev} (hB : k.b = true) {d : Dev} (h : Keeps k d0 d) : Keeps k d0 (Dev.reportSafe d) := by
  unfold Dev.reportSafe
  repeat' first
    | with_reducible assumption
    | (extract_lets +onlyGivenNames x; first | (have hx : Keeps k d0 x := ?_; clear_value x; swap; subst x; swap) | (have hx : Keeps1 k d0 x := ?_; clear_value x; swap; subst x; swap) | subst x)
    | exact Allow.cls_S rfl
    | exact hB
    | with_reducible refine Dev.log_keeps ?_
    | with_reducible refine Dev.nextFree_keeps ?_
    | with_reducible refine Keeps.wr ?_ ?_
    | with_reducible exact Keeps.units (by assumption)
    | split

theorem Dev.logTap_keeps {k : Allow} {d0 : Dev} {d : Dev} (h : Keeps k d0 d) : Keeps k d0 (Dev.logTap d) := by
  unfold Dev.logTap
  repeat' first
    | with_reducible assumption
    | (extract_lets +onlyGivenNames x; first | (have hx : Keeps k d0 x := ?_; clear_value x; swap; subst x; swap) | (have hx : Keeps1 k d0 x := ?_; clear_value x; swap; subst x; swap) | subst x)
    | exact Allow.cls_S rfl
    | ((with_reducible first | refine Allow.cls_mem (by assumption) ?_ | refine Allow.cls_fst (by assumption) ?_ | refine Allow.cls_snd (by assumption) ?_); rfl)
    | with_reducible refine Dev.log_keeps ?_
    | with_reducible refine Keeps.each ?_ (fun d x hm hd => ?_)
    | with_reducible exact Keeps.units (by assumption)
    | split

theorem Dev.startRun_keeps {k : Allow} {d0 : Dev} {d : Dev} (h : Keeps k d0 d) : Keeps k d0 (Dev.startRun d) := by
  unfold Dev.startRun
  repeat' first
    | with_reducible assumption
    | (extract_lets +onlyGivenNames x; first | (have hx : Keeps k d0 x := ?_; clear_value x; swap; subst x; swap) | (have hx : Keeps1 k d0 x := ?_; clear_value x; swap; subst x; swap) | subst x)
    | exact Allow.cls_S rfl
    | ((with_reducible first | refine Allow.cls_mem (by assumption) ?_ | refine Allow.cls_fst (by assumption) ?_ | refine Allow.cls_snd (by assumption) ?_); rfl)
    | with_reducible refine Dev.driveExc_keeps ?_
    | with_reducible refine Dev.enableCapture_keeps ?_
    | with_reducible refine Keeps.each ?_ (fun d x hm hd => ?_)
    | with_reducible exact Keeps.units (by assumption)
    | split

theorem Dev.followOwners_keeps {k : Allow} {d0 : Dev} {d : Dev} (h : Keeps k d0 d) : Keeps k d0 (Dev.followOwners d) := by
  unfold Dev.followOwners
  repeat' first
    | with_reducible assumption
    | (extract_lets +onlyGivenNames x; first | (have hx : Keeps k d0 x := ?_; clear_value x; swap; subst x; swap) | (have hx : Keeps1 k d0 x := ?_; clear_value x; swap; subst x; swap) | subst x)
    | exact Allow.cls_S rfl
    | ((with_reducible first | refine Allow.cls_mem (by assumption) ?_ | refine Allow.cls_fst (by assumption) ?_ | refine Allow.cls_snd (by assumption) ?_); rfl)
    | with_reducible refine Dev.followOwner_keeps ?_
    | with_reducible refine Keeps.each ?_ (fun d x hm hd => ?_)
    | with_reducible exact Keeps.units (by assumption)
    | split

theorem Dev.endBoot_keeps {k : Allow} {d0 : Dev} (hB : k.b = true) {d : Dev} (h : Keeps k d0 d) : Keeps k d0 (Dev.endBoot d) := by
  unfold Dev.endBoot
  repeat' first
    | with_reducible assumption
    | (extract_lets +onlyGivenNames x; first | (have hx : Keeps k d0 x := ?_; clear_value x; swap; subst x; swap) | (have hx : Keeps1 k d0 x := ?_; clear_value x; swap; subst x; swap) | subst x)
    | exact Allow.cls_S rfl
    | exact hB
    | with_reducible refine Dev.followOwners_keeps ?_
    | with_reducible refine Dev.startRun_keeps ?_
    | with_reducible refine Dev.logTap_keeps ?_
    | with_reducible refine Dev.log_keeps ?_
    | with_reducible refine Dev.notify_keeps ?_
    | with_reducible refine Dev.reportSafe_keeps hB ?_
    | with_reducible refine Keeps.wr ?_ ?_
    | with_reducible exact Keeps.units (by assumption)
    | split

theorem Dev.bootEffect_keeps {k : Allow} {d0 : Dev} (hN : k.n = true) (hB : k.b = true) (hI : k.i = true) (hNvm : k.nvm = true) {d : Dev} {n : Nat} {info : List Nat} (h : Keeps k d0 d) : Keeps k d0 (Dev.bootEffect d n info) := by
  unfold Dev.bootEffect
  repeat' first
    | with_reducible assumption
    | (extract_lets +onlyGivenNames x; first | (have hx : Keeps k d0 x := ?_; clear_value x; swap; subst x; swap) | (have hx : Keeps1 k d0 x := ?_; clear_value x; swap; subst x; swap) | subst x)
    | exact Allow.cls_S rfl
    | exact hN
    | exact hB
    | exact hI
    | with_reducible refine Dev.mountLog_keeps hN hB hNvm ?_
    | with_reducible refine Dev.openSck_keeps ?_
    | with_reducible refine Dev.bootImage_keeps hN hB hI hNvm ?_
    | with_reducible refine Dev.readHeaders_keeps hN ?_
    | with_reducible refine Keeps.wr ?_ ?_
    | with_reducible exact Keeps.units (by assumption)
    | split

theorem Dev.stepTaken_keeps {k : Allow} {d0 : Dev} {d : Dev} {n : Nat} (h : Keeps k d0 d) : Keeps k d0 (Dev.stepTaken d n) := by
  unfold Dev.stepTaken
  repeat' first
    | with_reducible assumption
    | (extract_lets +onlyGivenNames x; first | (have hx : Keeps k d0 x := ?_; clear_value x; swap; subst x; swap) | (have hx : Keeps1 k d0 x := ?_; clear_value x; swap; subst x; swap) | subst x)
    | exact Allow.cls_S rfl
    | with_reducible exact Keeps.units (by assumption)
    | split

theorem Dev.judgeFirst_keeps {k : Allow} {d0 : Dev} {d : Dev} (h : Keeps k d0 d) : Keeps k d0 (Dev.judgeFirst d) := by
  unfold Dev.judgeFirst
  repeat' first
    | with_reducible assumption
    | (extract_lets +onlyGivenNames x; first | (have hx : Keeps k d0 x := ?_; clear_value x; swap; subst x; swap) | (have hx : Keeps1 k d0 x := ?_; clear_value x; swap; subst x; swap) | subst x)
    | exact Allow.cls_S rfl
    | with_reducible exact Keeps.units (by assumption)
    | split

theorem Dev.bootStepComplete_keeps {k : Allow} {d0 : Dev} (hN : k.n = true) (hB : k.b = true) (hI : k.i = true) (hNvm : k.nvm = true) {n : Nat} {info : List Nat} {d : Dev} (h : Keeps k d0 d) : Keeps k d0 (Dev.bootStepComplete n info d) := by
  unfold Dev.bootStepComplete
  repeat' first
    | with_reducible assumption
    | (extract_lets +onlyGivenNames x; first | (have hx : Keeps k d0 x := ?_; clear_value x; swap; subst x; swap) | (have hx : Keeps1 k d0 x := ?_; clear_value x; swap; subst x; swap) | subst x)
    | exact Allow.cls_S rfl
    | exact hN
    | exact hB
    | exact hI
    | with_reducible refine Dev.endBoot_keeps hB ?_
    | with_reducible refine Dev.followTrips_keeps ?_
    | with_reducible refine Dev.stepTaken_keeps ?_
    | with_reducible refine Dev.bootEffect_keeps hN hB hI hNvm ?_
    | with_reducible exact Keeps.units (by assumption)
    | split

theorem Dev.firstPeriod_keeps {k : Allow} {d0 : Dev} (hB : k.b = true) {d : Dev} (h : Keeps k d0 d) : Keeps k d0 (Dev.firstPeriod d) := by
  unfold Dev.firstPeriod
  repeat' first
    | with_reducible assumption
    | (extract_lets +onlyGivenNames x; first | (have hx : Keeps k d0 x := ?_; clear_value x; swap; subst x; swap) | (have hx : Keeps1 k d0 x := ?_; clear_value x; swap; subst x; swap) | subst x)
    | exact Allow.cls_S rfl
    | exact hB
    | with_reducible refine Dev.judgeFirst_keeps ?_
    | with_reducible refine Dev.logAge_keeps ?_
    | with_reducible refine Dev.computeEps_keeps hB ?_
    | with_reducible refine Dev.stepTaken_keeps ?_
    | with_reducible exact Keeps.units (by assumption)
    | split

theorem Dev.enterHold_keeps {k : Allow} {d0 : Dev} {d : Dev} (h : Keeps k d0 d) : Keeps k d0 (Dev.enterHold d) := by
  unfold Dev.enterHold
  repeat' first
    | with_reducible assumption
    | (extract_lets +onlyGivenNames x; first | (have hx : Keeps k d0 x := ?_; clear_value x; swap; subst x; swap) | (have hx : Keeps1 k d0 x := ?_; clear_value x; swap; subst x; swap) | subst x)
    | exact Allow.cls_S rfl
    | ((with_reducible first | refine Allow.cls_mem (by assumption) ?_ | refine Allow.cls_fst (by assumption) ?_ | refine Allow.cls_snd (by assumption) ?_); rfl)
    | with_reducible refine Dev.abandonExc_keeps ?_
    | with_reducible refine Dev.disableCapture_keeps ?_
    | with_reducible refine Dev.putTimer_keeps ?_
    | with_reducible refine Dev.commitError_keeps ?_
    | with_reducible refine Dev.putPipe_keeps ?_
    | with_reducible refine Dev.restAll_keeps ?_
    | with_reducible refine Keeps.wr ?_ ?_
    | with_reducible refine Keeps.each ?_ (fun d x hm hd => ?_)
    | with_reducible exact Keeps.units (by assumption)
    | split

theorem Dev.hold_keeps {k : Allow} {d0 : Dev} {d : Dev} (h : Keeps k d0 d) : Keeps k d0 (Dev.hold d) := by
  unfold Dev.hold
  repeat' first
    | with_reducible assumption
    | (extract_lets +onlyGivenNames x; first | (have hx : Keeps k d0 x := ?_; clear_value x; swap; subst x; swap) | (have hx : Keeps1 k d0 x := ?_; clear_value x; swap; subst x; swap) | subst x)
    | exact Allow.cls_S rfl
    | with_reducible refine Dev.enterHold_keeps ?_
    | with_reducible exact Keeps.units (by assumption)
    | split

theorem Dev.toRun_keeps {k : Allow} {d0 : Dev} {d : Dev} (h : Keeps k d0 d) : Keeps k d0 (Dev.toRun d) := by
  unfold Dev.toRun
  repeat' first
    | with_reducible assumption
    | (extract_lets +onlyGivenNames x; first | (have hx : Keeps k d0 x := ?_; clear_value x; swap; subst x; swap) | (have hx : Keeps1 k d0 x := ?_; clear_value x; swap; subst x; swap) | subst x)
    | exact Allow.cls_S rfl
    | ((with_reducible first | refine Allow.cls_mem (by assumption) ?_ | refine Allow.cls_fst (by assumption) ?_ | refine Allow.cls_snd (by assumption) ?_); rfl)
    | with_reducible refine Dev.totStart_keeps ?_
    | with_reducible refine Dev.startRun_keeps ?_
    | with_reducible refine Keeps.wr ?_ ?_
    | with_reducible refine Keeps.each ?_ (fun d x hm hd => ?_)
    | with_reducible exact Keeps.units (by assumption)
    | split

theorem Dev.run_keeps {k : Allow} {d0 : Dev} {d : Dev} (h : Keeps k d0 d) : Keeps k d0 (Dev.run d) := by
  unfold Dev.run
  repeat' first
    | with_reducible assumption
    | (extract_lets +onlyGivenNames x; first | (have hx : Keeps k d0 x := ?_; clear_value x; swap; subst x; swap) | (have hx : Keeps1 k d0 x := ?_; clear_value x; swap; subst x; swap) | subst x)
    | exact Allow.cls_S rfl
    | with_reducible refine Dev.toRun_keeps ?_
    | with_reducible refine Keeps.wr ?_ ?_
    | with_reducible exact Keeps.units (by assumption)
    | split

theorem Dev.standby_keeps {k : Allow} {d0 : Dev} {d : Dev} (h : Keeps k d0 d) : Keeps k d0 (Dev.standby d) := by
  unfold Dev.standby
  repeat' first
    | with_reducible assumption
    | (extract_lets +onlyGivenNames x; first | (have hx : Keeps k d0 x := ?_; clear_value x; swap; subst x; swap) | (have hx : Keeps1 k d0 x := ?_; clear_value x; swap; subst x; swap) | subst x)
    | exact Allow.cls_S rfl
    | with_reducible refine Dev.endApply_keeps ?_
    | with_reducible refine Dev.enterHold_keeps ?_
    | with_reducible refine Keeps.wr ?_ ?_
    | with_reducible exact Keeps.units (by assumption)
    | split

theorem Dev.beginResume_keeps {k : Allow} {d0 : Dev} {d : Dev} (h : Keeps k d0 d) : Keeps k d0 (Dev.beginResume d) := by
  unfold Dev.beginResume
  repeat' first
    | with_reducible assumption
    | (extract_lets +onlyGivenNames x; first | (have hx : Keeps k d0 x := ?_; clear_value x; swap; subst x; swap) | (have hx : Keeps1 k d0 x := ?_; clear_value x; swap; subst x; swap) | subst x)
    | exact Allow.cls_S rfl
    | with_reducible refine Keeps.wr ?_ ?_
    | with_reducible exact Keeps.units (by assumption)
    | split

theorem Dev.dropPt_keeps {k : Allow} {d0 : Dev} (hNvm : k.nvm = true) {d : Dev} (h : Keeps k d0 d) : Keeps k d0 (Dev.dropPt d) := by
  unfold Dev.dropPt
  repeat' first
    | with_reducible assumption
    | (extract_lets +onlyGivenNames x; first | (have hx : Keeps k d0 x := ?_; clear_value x; swap; subst x; swap) | (have hx : Keeps1 k d0 x := ?_; clear_value x; swap; subst x; swap) | subst x)
    | exact Allow.cls_S rfl
    | with_reducible refine Dev.abandonPt_keeps hNvm ?_
    | with_reducible refine Keeps.wr ?_ ?_
    | with_reducible exact Keeps.units (by assumption)
    | split

theorem Dev.standbyEntryComplete_keeps {k : Allow} {d0 : Dev} (hNvm : k.nvm = true) {d : Dev} (h : Keeps k d0 d) : Keeps k d0 (Dev.standbyEntryComplete d) := by
  unfold Dev.standbyEntryComplete
  repeat' first
    | with_reducible assumption
    | (extract_lets +onlyGivenNames x; first | (have hx : Keeps k d0 x := ?_; clear_value x; swap; subst x; swap) | (have hx : Keeps1 k d0 x := ?_; clear_value x; swap; subst x; swap) | subst x)
    | exact Allow.cls_S rfl
    | with_reducible refine Dev.beginResume_keeps ?_
    | with_reducible refine Dev.closeGate_keeps ?_
    | with_reducible refine Dev.portsDown_keeps ?_
    | with_reducible refine Dev.totLow_keeps ?_
    | with_reducible refine Dev.spForceAll_keeps ?_
    | with_reducible refine Dev.excSafeAll_keeps ?_
    | with_reducible refine Dev.dropPt_keeps hNvm ?_
    | with_reducible refine Keeps.wr ?_ ?_
    | with_reducible exact Keeps.units (by assumption)
    | split

theorem Dev.resume_keeps {k : Allow} {d0 : Dev} {d : Dev} (h : Keeps k d0 d) : Keeps k d0 (Dev.resume d) := by
  unfold Dev.resume
  repeat' first
    | with_reducible assumption
    | (extract_lets +onlyGivenNames x; first | (have hx : Keeps k d0 x := ?_; clear_value x; swap; subst x; swap) | (have hx : Keeps1 k d0 x := ?_; clear_value x; swap; subst x; swap) | subst x)
    | exact Allow.cls_S rfl
    | with_reducible refine Dev.beginResume_keeps ?_
    | with_reducible exact Keeps.units (by assumption)
    | split

theorem Dev.wake_keeps {k : Allow} {d0 : Dev} {d : Dev} (h : Keeps k d0 d) : Keeps k d0 (Dev.wake d) := by
  unfold Dev.wake
  repeat' first
    | with_reducible assumption
    | (extract_lets +onlyGivenNames x; first | (have hx : Keeps k d0 x := ?_; clear_value x; swap; subst x; swap) | (have hx : Keeps1 k d0 x := ?_; clear_value x; swap; subst x; swap) | subst x)
    | exact Allow.cls_S rfl
    | with_reducible refine Dev.resume_keeps ?_
    | with_reducible refine Keeps.wr ?_ ?_
    | with_reducible exact Keeps.units (by assumption)
    | split

theorem Dev.reopenAfter_keeps {k : Allow} {d0 : Dev} (hN : k.n = true) (hB : k.b = true) (hH : k.h = true) (hI : k.i = true) {d : Dev} {k0 : Nat} (h : Keeps k d0 d) : Keeps k d0 (Dev.reopenAfter d k0) := by
  unfold Dev.reopenAfter
  repeat' first
    | with_reducible assumption
    | (extract_lets +onlyGivenNames x; first | (have hx : Keeps k d0 x := ?_; clear_value x; swap; subst x; swap) | (have hx : Keeps1 k d0 x := ?_; clear_value x; swap; subst x; swap) | subst x)
    | exact Allow.cls_S rfl
    | exact hN
    | exact hB
    | exact hH
    | exact hI
    | ((with_reducible first | refine Allow.cls_mem (by assumption) ?_ | refine Allow.cls_fst (by assumption) ?_ | refine Allow.cls_snd (by assumption) ?_); rfl)
    | with_reducible refine Dev.beginTest_keeps ?_
    | with_reducible refine Dev.settleMonitor_keeps ?_
    | with_reducible refine Dev.bootTuning_keeps ?_
    | with_reducible refine Dev.reopen_keeps hN hB hH hI ?_
    | with_reducible refine Dev.nextFree_keeps ?_
    | with_reducible refine Keeps.wr ?_ ?_
    | with_reducible refine Keeps.inc ?_ ?_
    | with_reducible refine Keeps.each ?_ (fun d x hm hd => ?_)
    | with_reducible exact Keeps.units (by assumption)
    | split

theorem Dev.relisten_keeps {k : Allow} {d0 : Dev} {d : Dev} (h : Keeps k d0 d) : Keeps k d0 (Dev.relisten d) := by
  unfold Dev.relisten
  repeat' first
    | with_reducible assumption
    | (extract_lets +onlyGivenNames x; first | (have hx : Keeps k d0 x := ?_; clear_value x; swap; subst x; swap) | (have hx : Keeps1 k d0 x := ?_; clear_value x; swap; subst x; swap) | subst x)
    | exact Allow.cls_S rfl
    | with_reducible refine Dev.putChoir_keeps ?_
    | with_reducible refine Keeps.wr ?_ ?_
    | with_reducible exact Keeps.units (by assumption)
    | split

theorem Dev.finishResume_keeps {k : Allow} {d0 : Dev} (hB : k.b = true) (hH : k.h = true) {d : Dev} (h : Keeps k d0 d) : Keeps k d0 (Dev.finishResume d) := by
  unfold Dev.finishResume
  repeat' first
    | with_reducible assumption
    | (extract_lets +onlyGivenNames x; first | (have hx : Keeps k d0 x := ?_; clear_value x; swap; subst x; swap) | (have hx : Keeps1 k d0 x := ?_; clear_value x; swap; subst x; swap) | subst x)
    | exact Allow.cls_S rfl
    | exact hB
    | exact hH
    | with_reducible refine Dev.toRun_keeps ?_
    | with_reducible refine Dev.followOwners_keeps ?_
    | with_reducible refine Dev.showRefOut_keeps ?_
    | with_reducible refine Dev.followTrips_keeps ?_
    | with_reducible refine Dev.startTrack_keeps ?_
    | with_reducible refine Dev.followOcxo_keeps ?_
    | with_reducible refine Dev.planSwitch_keeps ?_
    | with_reducible refine Dev.relisten_keeps ?_
    | with_reducible refine Dev.ocxoWait_keeps ?_
    | with_reducible refine Keeps.wr ?_ ?_
    | with_reducible refine Keeps.inc ?_ ?_
    | with_reducible exact Keeps.units (by assumption)
    | split

theorem Dev.resumeStepComplete_keeps {k : Allow} {d0 : Dev} (hN : k.n = true) (hB : k.b = true) (hH : k.h = true) (hI : k.i = true) {n : Nat} {k0 : Nat} {d : Dev} (h : Keeps k d0 d) : Keeps k d0 (Dev.resumeStepComplete n k0 d) := by
  unfold Dev.resumeStepComplete
  repeat' first
    | with_reducible assumption
    | (extract_lets +onlyGivenNames x; first | (have hx : Keeps k d0 x := ?_; clear_value x; swap; subst x; swap) | (have hx : Keeps1 k d0 x := ?_; clear_value x; swap; subst x; swap) | subst x)
    | exact Allow.cls_S rfl
    | exact hN
    | exact hB
    | exact hH
    | exact hI
    | with_reducible refine Dev.finishResume_keeps hB hH ?_
    | with_reducible refine Dev.reopenAfter_keeps hN hB hH hI ?_
    | with_reducible refine Dev.resume_keeps ?_
    | with_reducible refine Keeps.wr ?_ ?_
    | with_reducible exact Keeps.units (by assumption)
    | split

theorem Dev.dieTempMeasure_keeps {k : Allow} {d0 : Dev} (hP : k.p = true) {t : Nat} {d : Dev} (h : Keeps k d0 d) : Keeps k d0 (Dev.dieTempMeasure t d) := by
  unfold Dev.dieTempMeasure
  repeat' first
    | with_reducible assumption
    | (extract_lets +onlyGivenNames x; first | (have hx : Keeps k d0 x := ?_; clear_value x; swap; subst x; swap) | (have hx : Keeps1 k d0 x := ?_; clear_value x; swap; subst x; swap) | subst x)
    | exact Allow.cls_S rfl
    | exact hP
    | with_reducible refine Keeps.wr ?_ ?_
    | with_reducible exact Keeps.units (by assumption)
    | split

theorem Dev.onProbation_keeps {k : Allow} {d0 : Dev} {d : Dev} {src : Nat} (h : Keeps k d0 d) : Keeps k d0 (Dev.onProbation d src) := by
  unfold Dev.onProbation
  repeat' first
    | with_reducible assumption
    | (extract_lets +onlyGivenNames x; first | (have hx : Keeps k d0 x := ?_; clear_value x; swap; subst x; swap) | (have hx : Keeps1 k d0 x := ?_; clear_value x; swap; subst x; swap) | subst x)
    | exact Allow.cls_S rfl
    | with_reducible refine Keeps.wr ?_ ?_
    | with_reducible exact Keeps.units (by assumption)
    | split

theorem Dev.readmitVoice_keeps {k : Allow} {d0 : Dev} {d : Dev} {n : Nat} (h : Keeps k d0 d) : Keeps k d0 (Dev.readmitVoice d n) := by
  unfold Dev.readmitVoice
  repeat' first
    | with_reducible assumption
    | (extract_lets +onlyGivenNames x; first | (have hx : Keeps k d0 x := ?_; clear_value x; swap; subst x; swap) | (have hx : Keeps1 k d0 x := ?_; clear_value x; swap; subst x; swap) | subst x)
    | exact Allow.cls_S rfl
    | with_reducible refine Dev.followTach_keeps ?_
    | with_reducible refine Dev.reviveExcs_keeps ?_
    | with_reducible refine Dev.readmitTuning_keeps ?_
    | with_reducible refine Dev.startVoice_keeps ?_
    | with_reducible exact Keeps.units (by assumption)
    | split

theorem Dev.readmitLane_keeps {k : Allow} {d0 : Dev} {d : Dev} {i : Nat} (h : Keeps k d0 d) : Keeps k d0 (Dev.readmitLane d i) := by
  unfold Dev.readmitLane
  repeat' first
    | with_reducible assumption
    | (extract_lets +onlyGivenNames x; first | (have hx : Keeps k d0 x := ?_; clear_value x; swap; subst x; swap) | (have hx : Keeps1 k d0 x := ?_; clear_value x; swap; subst x; swap) | subst x)
    | exact Allow.cls_S rfl
    | ((with_reducible refine Allow.cls_S ?_); first | exact laneState_cls _ _ | exact laneFails_cls _ _ | exact laneErrors_cls _ _ | exact slotFld_cls _)
    | with_reducible refine Dev.readmitTuning_keeps ?_
    | with_reducible refine Dev.showPort_keeps ?_
    | with_reducible refine Keeps.wr ?_ ?_
    | with_reducible exact Keeps.units (by assumption)
    | split

theorem Dev.readmitEffect_keeps {k : Allow} {d0 : Dev} {d : Dev} {src : Nat} (h : Keeps k d0 d) : Keeps k d0 (Dev.readmitEffect d src) := by
  unfold Dev.readmitEffect
  repeat' first
    | with_reducible assumption
    | (extract_lets +onlyGivenNames x; first | (have hx : Keeps k d0 x := ?_; clear_value x; swap; subst x; swap) | (have hx : Keeps1 k d0 x := ?_; clear_value x; swap; subst x; swap) | subst x)
    | exact Allow.cls_S rfl
    | with_reducible refine Dev.putChoir_keeps ?_
    | with_reducible refine Dev.planSwitch_keeps ?_
    | with_reducible refine Dev.followOcxo_keeps ?_
    | with_reducible refine Dev.monitorOff_keeps ?_
    | with_reducible refine Dev.settleMonitor_keeps ?_
    | with_reducible refine Dev.readmitLane_keeps ?_
    | with_reducible refine Dev.readmitVoice_keeps ?_
    | with_reducible refine Keeps.wr ?_ ?_
    | with_reducible exact Keeps.units (by assumption)
    | split

theorem Dev.reAdmit_keeps {k : Allow} {d0 : Dev} {src : Nat} {d : Dev} (h : Keeps k d0 d) : Keeps k d0 (Dev.reAdmit src d) := by
  unfold Dev.reAdmit
  repeat' first
    | with_reducible assumption
    | (extract_lets +onlyGivenNames x; first | (have hx : Keeps k d0 x := ?_; clear_value x; swap; subst x; swap) | (have hx : Keeps1 k d0 x := ?_; clear_value x; swap; subst x; swap) | subst x)
    | exact Allow.cls_S rfl
    | with_reducible refine Dev.testMonitors_keeps ?_
    | with_reducible refine Dev.readmitEffect_keeps ?_
    | with_reducible refine Dev.onProbation_keeps ?_
    | with_reducible exact Keeps.units (by assumption)
    | split

theorem Dev.upsetPipeline_keeps {k : Allow} {d0 : Dev} {d : Dev} (h : Keeps k d0 d) : Keeps k d0 (Dev.upsetPipeline d) := by
  unfold Dev.upsetPipeline
  repeat' first
    | with_reducible assumption
    | (extract_lets +onlyGivenNames x; first | (have hx : Keeps k d0 x := ?_; clear_value x; swap; subst x; swap) | (have hx : Keeps1 k d0 x := ?_; clear_value x; swap; subst x; swap) | subst x)
    | exact Allow.cls_S rfl
    | with_reducible refine Dev.putPipe_keeps ?_
    | with_reducible refine Dev.startPipeline_keeps ?_
    | with_reducible refine Dev.restTimer_keeps ?_
    | with_reducible exact Keeps.units (by assumption)
    | split

theorem Dev.upsetVoice_keeps {k : Allow} {d0 : Dev} {d : Dev} {v : Nat} (h : Keeps k d0 d) : Keeps k d0 (Dev.upsetVoice d v) := by
  unfold Dev.upsetVoice
  repeat' first
    | with_reducible assumption
    | (extract_lets +onlyGivenNames x; first | (have hx : Keeps k d0 x := ?_; clear_value x; swap; subst x; swap) | (have hx : Keeps1 k d0 x := ?_; clear_value x; swap; subst x; swap) | subst x)
    | exact Allow.cls_S rfl
    | ((with_reducible first | refine Allow.cls_mem (by assumption) ?_ | refine Allow.cls_fst (by assumption) ?_ | refine Allow.cls_snd (by assumption) ?_); rfl)
    | with_reducible refine Dev.putAna_keeps ?_
    | with_reducible refine Dev.putFitVoice_keeps ?_
    | with_reducible refine Dev.raiseEpoch_keeps ?_
    | with_reducible refine Keeps.each ?_ (fun d x hm hd => ?_)
    | with_reducible exact Keeps.units (by assumption)
    | split

theorem Dev.upsetUser_keeps {k : Allow} {d0 : Dev} {d : Dev} {user : Nat} (h : Keeps k d0 d) : Keeps k d0 (Dev.upsetUser d user) := by
  unfold Dev.upsetUser
  repeat' first
    | with_reducible assumption
    | (extract_lets +onlyGivenNames x; first | (have hx : Keeps k d0 x := ?_; clear_value x; swap; subst x; swap) | (have hx : Keeps1 k d0 x := ?_; clear_value x; swap; subst x; swap) | subst x)
    | exact Allow.cls_S rfl
    | with_reducible refine Dev.putAna_keeps ?_
    | with_reducible refine Dev.putFitPair_keeps ?_
    | with_reducible refine Dev.raiseEpoch_keeps ?_
    | with_reducible refine Dev.upsetVoice_keeps ?_
    | with_reducible refine Dev.retrainAll_keeps ?_
    | with_reducible refine Dev.startTrack_keeps ?_
    | with_reducible refine Dev.upsetPipeline_keeps ?_
    | with_reducible exact Keeps.units (by assumption)
    | split

theorem Dev.readState_keeps {k : Allow} {d0 : Dev} (hB : k.b = true) (hP : k.p = true) {user : Nat} {upsets : List (Nat × Nat)} {d : Dev} (h : Keeps k d0 d) : Keeps k d0 (Dev.readState user upsets d) := by
  unfold Dev.readState
  repeat' first
    | with_reducible assumption
    | (extract_lets +onlyGivenNames x; first | (have hx : Keeps k d0 x := ?_; clear_value x; swap; subst x; swap) | (have hx : Keeps1 k d0 x := ?_; clear_value x; swap; subst x; swap) | subst x)
    | exact Allow.cls_S rfl
    | exact hB
    | exact hP
    | with_reducible refine Dev.upsetUser_keeps ?_
    | with_reducible refine Dev.meetUpsets_keeps hB hP ?_
    | with_reducible refine Dev.filter_keeps ?_
    | with_reducible exact Keeps.units (by assumption)
    | split

theorem Dev.scrub_keeps {k : Allow} {d0 : Dev} (hB : k.b = true) (hP : k.p = true) {bank : Nat} {row : Nat} {column : Nat} {outcome : Nat} {user : Nat} {d : Dev} (h : Keeps k d0 d) : Keeps k d0 (Dev.scrub bank row column outcome user d) := by
  unfold Dev.scrub
  repeat' first
    | with_reducible assumption
    | (extract_lets +onlyGivenNames x; first | (have hx : Keeps k d0 x := ?_; clear_value x; swap; subst x; swap) | (have hx : Keeps1 k d0 x := ?_; clear_value x; swap; subst x; swap) | subst x)
    | exact Allow.cls_S rfl
    | exact hB
    | exact hP
    | with_reducible refine Dev.endPass_keeps ?_
    | with_reducible refine Dev.upsetUser_keeps ?_
    | with_reducible refine Dev.uncorrectable_keeps hB hP ?_
    | with_reducible refine Dev.scrubCorrected_keeps hB hP ?_
    | with_reducible exact Keeps.units (by assumption)
    | split

theorem Dev.sendRecord_keeps {k : Allow} {d0 : Dev} {d : Dev} {b : List Nat} (h : Keeps k d0 d) : Keeps k d0 (Dev.sendRecord d b) := by
  unfold Dev.sendRecord
  repeat' first
    | with_reducible assumption
    | (extract_lets +onlyGivenNames x; first | (have hx : Keeps k d0 x := ?_; clear_value x; swap; subst x; swap) | (have hx : Keeps1 k d0 x := ?_; clear_value x; swap; subst x; swap) | subst x)
    | exact Allow.cls_S rfl
    | with_reducible refine Dev.send_keeps ?_
    | with_reducible exact Keeps.units (by assumption)
    | split

theorem Dev.recordNext_keeps {k : Allow} {d0 : Dev} (hB : k.b = true) (hNvm : k.nvm = true) {d : Dev} {outcome : Nat} (h : Keeps k d0 d) : Keeps k d0 (Dev.recordNext d outcome) := by
  unfold Dev.recordNext
  repeat' first
    | with_reducible assumption
    | (extract_lets +onlyGivenNames x; first | (have hx : Keeps k d0 x := ?_; clear_value x; swap; subst x; swap) | (have hx : Keeps1 k d0 x := ?_; clear_value x; swap; subst x; swap) | subst x)
    | exact Allow.cls_S rfl
    | exact hB
    | with_reducible refine Dev.sendRecord_keeps ?_
    | with_reducible refine Dev.writeRecord_keeps hB hNvm ?_
    | with_reducible exact Keeps.units (by assumption)
    | split

theorem Dev.logRecordWrite_keeps {k : Allow} {d0 : Dev} (hB : k.b = true) (hNvm : k.nvm = true) {outcome : Nat} {d : Dev} (h : Keeps k d0 d) : Keeps k d0 (Dev.logRecordWrite outcome d) := by
  unfold Dev.logRecordWrite
  repeat' first
    | with_reducible assumption
    | (extract_lets +onlyGivenNames x; first | (have hx : Keeps k d0 x := ?_; clear_value x; swap; subst x; swap) | (have hx : Keeps1 k d0 x := ?_; clear_value x; swap; subst x; swap) | subst x)
    | exact Allow.cls_S rfl
    | exact hB
    | with_reducible refine Dev.recordNext_keeps hB hNvm ?_
    | with_reducible exact Keeps.units (by assumption)
    | split

theorem Dev.nvmRetry_keeps {k : Allow} {d0 : Dev} (hN : k.n = true) (hB : k.b = true) (hNvm : k.nvm = true) {outcome : Nat} {d : Dev} (h : Keeps k d0 d) : Keeps k d0 (Dev.nvmRetry outcome d) := by
  unfold Dev.nvmRetry
  repeat' first
    | with_reducible assumption
    | (extract_lets +onlyGivenNames x; first | (have hx : Keeps k d0 x := ?_; clear_value x; swap; subst x; swap) | (have hx : Keeps1 k d0 x := ?_; clear_value x; swap; subst x; swap) | subst x)
    | exact Allow.cls_S rfl
    | exact hN
    | exact hB
    | with_reducible refine Dev.collectNext_keeps hB hNvm ?_
    | with_reducible refine Dev.totPhase2_keeps hN hB hNvm ?_
    | with_reducible refine Dev.totPhase1_keeps hB hNvm ?_
    | with_reducible refine Dev.recordNext_keeps hB hNvm ?_
    | with_reducible exact Keeps.units (by assumption)
    | split

theorem Dev.loadRecord_keeps {k : Allow} {d0 : Dev} {d : Dev} (h : Keeps k d0 d) : Keeps k d0 (Dev.loadRecord d) := by
  unfold Dev.loadRecord
  repeat' first
    | with_reducible assumption
    | (extract_lets +onlyGivenNames x; first | (have hx : Keeps k d0 x := ?_; clear_value x; swap; subst x; swap) | (have hx : Keeps1 k d0 x := ?_; clear_value x; swap; subst x; swap) | subst x)
    | exact Allow.cls_S rfl
    | with_reducible refine Dev.beginLoad_keeps ?_
    | with_reducible exact Keeps.units (by assumption)
    | split

theorem Dev.loadAuditRecord_keeps {k : Allow} {d0 : Dev} {d : Dev} (h : Keeps k d0 d) : Keeps k d0 (Dev.loadAuditRecord d) := by
  unfold Dev.loadAuditRecord
  repeat' first
    | with_reducible assumption
    | (extract_lets +onlyGivenNames x; first | (have hx : Keeps k d0 x := ?_; clear_value x; swap; subst x; swap) | (have hx : Keeps1 k d0 x := ?_; clear_value x; swap; subst x; swap) | subst x)
    | exact Allow.cls_S rfl
    | with_reducible refine Dev.beginLoad_keeps ?_
    | with_reducible exact Keeps.units (by assumption)
    | split

theorem Dev.startPt_keeps {k : Allow} {d0 : Dev} {d : Dev} {code : Nat} (h : Keeps k d0 d) : Keeps k d0 (Dev.startPt d code) := by
  unfold Dev.startPt
  repeat' first
    | with_reducible assumption
    | (extract_lets +onlyGivenNames x; first | (have hx : Keeps k d0 x := ?_; clear_value x; swap; subst x; swap) | (have hx : Keeps1 k d0 x := ?_; clear_value x; swap; subst x; swap) | subst x)
    | exact Allow.cls_S rfl
    | with_reducible refine Keeps.wr ?_ ?_
    | with_reducible exact Keeps.units (by assumption)
    | split

theorem Dev.ptRead_keeps {k : Allow} {d0 : Dev} {d : Dev} (h : Keeps k d0 d) : Keeps k d0 (Dev.ptRead d) := by
  unfold Dev.ptRead
  repeat' first
    | with_reducible assumption
    | (extract_lets +onlyGivenNames x; first | (have hx : Keeps k d0 x := ?_; clear_value x; swap; subst x; swap) | (have hx : Keeps1 k d0 x := ?_; clear_value x; swap; subst x; swap) | subst x)
    | exact Allow.cls_S rfl
    | with_reducible refine Dev.startPt_keeps ?_
    | with_reducible exact Keeps.units (by assumption)
    | split

theorem Dev.ptProgram_keeps {k : Allow} {d0 : Dev} {d : Dev} (h : Keeps k d0 d) : Keeps k d0 (Dev.ptProgram d) := by
  unfold Dev.ptProgram
  repeat' first
    | with_reducible assumption
    | (extract_lets +onlyGivenNames x; first | (have hx : Keeps k d0 x := ?_; clear_value x; swap; subst x; swap) | (have hx : Keeps1 k d0 x := ?_; clear_value x; swap; subst x; swap) | subst x)
    | exact Allow.cls_S rfl
    | with_reducible refine Dev.startPt_keeps ?_
    | with_reducible exact Keeps.units (by assumption)
    | split

theorem Dev.ptErase_keeps {k : Allow} {d0 : Dev} {d : Dev} (h : Keeps k d0 d) : Keeps k d0 (Dev.ptErase d) := by
  unfold Dev.ptErase
  repeat' first
    | with_reducible assumption
    | (extract_lets +onlyGivenNames x; first | (have hx : Keeps k d0 x := ?_; clear_value x; swap; subst x; swap) | (have hx : Keeps1 k d0 x := ?_; clear_value x; swap; subst x; swap) | subst x)
    | exact Allow.cls_S rfl
    | with_reducible refine Dev.startPt_keeps ?_
    | with_reducible exact Keeps.units (by assumption)
    | split

theorem Dev.slotErase_keeps {k : Allow} {d0 : Dev} {d : Dev} (h : Keeps k d0 d) : Keeps k d0 (Dev.slotErase d) := by
  unfold Dev.slotErase
  repeat' first
    | with_reducible assumption
    | (extract_lets +onlyGivenNames x; first | (have hx : Keeps k d0 x := ?_; clear_value x; swap; subst x; swap) | (have hx : Keeps1 k d0 x := ?_; clear_value x; swap; subst x; swap) | subst x)
    | exact Allow.cls_S rfl
    | with_reducible refine Dev.startPt_keeps ?_
    | with_reducible exact Keeps.units (by assumption)
    | split

theorem Dev.putPtByte_keeps {k : Allow} {d0 : Dev} {d : Dev} {i : Nat} {b : Nat} (h : Keeps k d0 d) : Keeps k d0 (Dev.putPtByte d i b) := by
  unfold Dev.putPtByte
  dsimp only
  repeat' first
    | with_reducible assumption
    | exact Allow.cls_S rfl
    | with_reducible refine Keeps.wr ?_ ?_

theorem Dev.ptEffect_keeps {k : Allow} {d0 : Dev} (hNvm : k.nvm = true) {d : Dev} (h : Keeps k d0 d) : Keeps k d0 (Dev.ptEffect d) := by
  unfold Dev.ptEffect
  repeat' first
    | with_reducible assumption
    | (extract_lets +onlyGivenNames x; first | (have hx : Keeps k d0 x := ?_; clear_value x; swap; subst x; swap) | (have hx : Keeps1 k d0 x := ?_; clear_value x; swap; subst x; swap) | subst x)
    | exact Allow.cls_S rfl
    | ((with_reducible first | refine Allow.cls_mem (by assumption) ?_ | refine Allow.cls_fst (by assumption) ?_ | refine Allow.cls_snd (by assumption) ?_); rfl)
    | ((with_reducible refine Allow.cls_S ?_); first | exact laneState_cls _ _ | exact laneFails_cls _ _ | exact laneErrors_cls _ _ | exact slotFld_cls _)
    | with_reducible refine Dev.eraseSector_keeps hNvm ?_
    | with_reducible refine Dev.program_keeps hNvm ?_
    | with_reducible refine Dev.putPtByte_keeps ?_
    | with_reducible refine Keeps.wr ?_ ?_
    | with_reducible refine Keeps.each ?_ (fun d x hm hd => ?_)
    | with_reducible exact Keeps.units (by assumption)
    | split

theorem Dev.endPt_keeps {k : Allow} {d0 : Dev} {d : Dev} {result : Nat} (h : Keeps k d0 d) : Keeps k d0 (Dev.endPt d result) := by
  unfold Dev.endPt
  repeat' first
    | with_reducible assumption
    | (extract_lets +onlyGivenNames x; first | (have hx : Keeps k d0 x := ?_; clear_value x; swap; subst x; swap) | (have hx : Keeps1 k d0 x := ?_; clear_value x; swap; subst x; swap) | subst x)
    | exact Allow.cls_S rfl
    | with_reducible refine Dev.showSlots_keeps ?_
    | with_reducible refine Keeps.wr ?_ ?_
    | with_reducible refine Keeps.step1 ?_ ?_
    | with_reducible exact Keeps.units (by assumption)
    | split

theorem Dev.failPt_keeps {k : Allow} {d0 : Dev} (hB : k.b = true) (hNvm : k.nvm = true) {d : Dev} (h : Keeps k d0 d) : Keeps k d0 (Dev.failPt d) := by
  unfold Dev.failPt
  repeat' first
    | with_reducible assumption
    | (extract_lets +onlyGivenNames x; first | (have hx : Keeps k d0 x := ?_; clear_value x; swap; subst x; swap) | (have hx : Keeps1 k d0 x := ?_; clear_value x; swap; subst x; swap) | subst x)
    | exact Allow.cls_S rfl
    | exact hB
    | with_reducible refine Dev.fault_keeps hB ?_
    | with_reducible refine Dev.endPt_keeps ?_
    | with_reducible refine Dev.spoilPt_keeps hNvm ?_
    | with_reducible exact Keeps.units (by assumption)
    | split

theorem Dev.ptDone_keeps {k : Allow} {d0 : Dev} (hB : k.b = true) (hNvm : k.nvm = true) {failed : Bool} {d : Dev} (h : Keeps k d0 d) : Keeps k d0 (Dev.ptDone failed d) := by
  unfold Dev.ptDone
  repeat' first
    | with_reducible assumption
    | (extract_lets +onlyGivenNames x; first | (have hx : Keeps k d0 x := ?_; clear_value x; swap; subst x; swap) | (have hx : Keeps1 k d0 x := ?_; clear_value x; swap; subst x; swap) | subst x)
    | exact Allow.cls_S rfl
    | exact hB
    | with_reducible refine Dev.endPt_keeps ?_
    | with_reducible refine Dev.ptEffect_keeps hNvm ?_
    | with_reducible refine Dev.failPt_keeps hB hNvm ?_
    | with_reducible exact Keeps.units (by assumption)
    | split

theorem Dev.ptTimeout_keeps {k : Allow} {d0 : Dev} (hB : k.b = true) (hNvm : k.nvm = true) {d : Dev} (h : Keeps k d0 d) : Keeps k d0 (Dev.ptTimeout d) := by
  unfold Dev.ptTimeout
  repeat' first
    | with_reducible assumption
    | (extract_lets +onlyGivenNames x; first | (have hx : Keeps k d0 x := ?_; clear_value x; swap; subst x; swap) | (have hx : Keeps1 k d0 x := ?_; clear_value x; swap; subst x; swap) | subst x)
    | exact Allow.cls_S rfl
    | exact hB
    | with_reducible refine Dev.failPt_keeps hB hNvm ?_
    | with_reducible exact Keeps.units (by assumption)
    | split

theorem Dev.leaveTap_keeps {k : Allow} {d0 : Dev} (hB : k.b = true) (hP : k.p = true) (hH : k.h = true) (hI : k.i = true) (hNvm : k.nvm = true) {d : Dev} (h : Keeps k d0 d) : Keeps k d0 (Dev.leaveTap d) := by
  unfold Dev.leaveTap
  repeat' first
    | with_reducible assumption
    | (extract_lets +onlyGivenNames x; first | (have hx : Keeps k d0 x := ?_; clear_value x; swap; subst x; swap) | (have hx : Keeps1 k d0 x := ?_; clear_value x; swap; subst x; swap) | subst x)
    | exact Allow.cls_S rfl
    | exact hB
    | exact hP
    | exact hH
    | exact hI
    | with_reducible refine Dev.reset_keeps hB hP hH hI hNvm ?_
    | with_reducible refine Dev.tap_keeps ?_
    | with_reducible refine Keeps.wr ?_ ?_
    | with_reducible exact Keeps.units (by assumption)
    | split

theorem Dev.jtagInstructionLeave_keeps {k : Allow} {d0 : Dev} (hB : k.b = true) (hP : k.p = true) (hH : k.h = true) (hI : k.i = true) (hNvm : k.nvm = true) {d : Dev} (h : Keeps k d0 d) : Keeps k d0 (Dev.jtagInstructionLeave d) := by
  unfold Dev.jtagInstructionLeave
  repeat' first
    | with_reducible assumption
    | (extract_lets +onlyGivenNames x; first | (have hx : Keeps k d0 x := ?_; clear_value x; swap; subst x; swap) | (have hx : Keeps1 k d0 x := ?_; clear_value x; swap; subst x; swap) | subst x)
    | exact Allow.cls_S rfl
    | exact hB
    | exact hP
    | exact hH
    | exact hI
    | with_reducible refine Dev.leaveTap_keeps hB hP hH hI hNvm ?_
    | with_reducible exact Keeps.units (by assumption)
    | split

theorem Dev.loadPublic_keeps {k : Allow} {d0 : Dev} (hB : k.b = true) (hP : k.p = true) (hH : k.h = true) (hI : k.i = true) (hNvm : k.nvm = true) {c : Nat} {d : Dev} (h : Keeps k d0 d) : Keeps k d0 (Dev.loadPublic c d) := by
  unfold Dev.loadPublic
  repeat' first
    | with_reducible assumption
    | (extract_lets +onlyGivenNames x; first | (have hx : Keeps k d0 x := ?_; clear_value x; swap; subst x; swap) | (have hx : Keeps1 k d0 x := ?_; clear_value x; swap; subst x; swap) | subst x)
    | exact Allow.cls_S rfl
    | exact hB
    | exact hP
    | exact hH
    | exact hI
    | with_reducible refine Dev.leaveTap_keeps hB hP hH hI hNvm ?_
    | with_reducible exact Keeps.units (by assumption)
    | split

theorem Dev.loadHolding_keeps {k : Allow} {d0 : Dev} (hB : k.b = true) (hP : k.p = true) (hH : k.h = true) (hI : k.i = true) (hNvm : k.nvm = true) {c : Nat} {d : Dev} (h : Keeps k d0 d) : Keeps k d0 (Dev.loadHolding c d) := by
  unfold Dev.loadHolding
  repeat' first
    | with_reducible assumption
    | (extract_lets +onlyGivenNames x; first | (have hx : Keeps k d0 x := ?_; clear_value x; swap; subst x; swap) | (have hx : Keeps1 k d0 x := ?_; clear_value x; swap; subst x; swap) | subst x)
    | exact Allow.cls_S rfl
    | exact hB
    | exact hP
    | exact hH
    | exact hI
    | with_reducible refine Dev.showLevels_keeps ?_
    | with_reducible refine Dev.afterReset_keeps hP hH hI ?_
    | with_reducible refine Dev.abandonPt_keeps hNvm ?_
    | with_reducible refine Dev.leaveTap_keeps hB hP hH hI hNvm ?_
    | with_reducible exact Keeps.units (by assumption)
    | split

theorem Dev.extest_keeps {k : Allow} {d0 : Dev} (hB : k.b = true) (hP : k.p = true) (hH : k.h = true) (hI : k.i = true) (hNvm : k.nvm = true) {d : Dev} (h : Keeps k d0 d) : Keeps k d0 (Dev.extest d) := by
  unfold Dev.extest
  repeat' first
    | with_reducible assumption
    | (extract_lets +onlyGivenNames x; first | (have hx : Keeps k d0 x := ?_; clear_value x; swap; subst x; swap) | (have hx : Keeps1 k d0 x := ?_; clear_value x; swap; subst x; swap) | subst x)
    | exact Allow.cls_S rfl
    | exact hB
    | exact hP
    | exact hH
    | exact hI
    | with_reducible refine Dev.loadHolding_keeps hB hP hH hI hNvm ?_
    | with_reducible exact Keeps.units (by assumption)
    | split

theorem Dev.idcode_keeps {k : Allow} {d0 : Dev} (hB : k.b = true) (hP : k.p = true) (hH : k.h = true) (hI : k.i = true) (hNvm : k.nvm = true) {d : Dev} (h : Keeps k d0 d) : Keeps k d0 (Dev.idcode d) := by
  unfold Dev.idcode
  repeat' first
    | with_reducible assumption
    | (extract_lets +onlyGivenNames x; first | (have hx : Keeps k d0 x := ?_; clear_value x; swap; subst x; swap) | (have hx : Keeps1 k d0 x := ?_; clear_value x; swap; subst x; swap) | subst x)
    | exact Allow.cls_S rfl
    | exact hB
    | exact hP
    | exact hH
    | exact hI
    | with_reducible refine Dev.loadPublic_keeps hB hP hH hI hNvm ?_
    | with_reducible exact Keeps.units (by assumption)
    | split

theorem Dev.samplePreload_keeps {k : Allow} {d0 : Dev} (hB : k.b = true) (hP : k.p = true) (hH : k.h = true) (hI : k.i = true) (hNvm : k.nvm = true) {d : Dev} (h : Keeps k d0 d) : Keeps k d0 (Dev.samplePreload d) := by
  unfold Dev.samplePreload
  repeat' first
    | with_reducible assumption
    | (extract_lets +onlyGivenNames x; first | (have hx : Keeps k d0 x := ?_; clear_value x; swap; subst x; swap) | (have hx : Keeps1 k d0 x := ?_; clear_value x; swap; subst x; swap) | subst x)
    | exact Allow.cls_S rfl
    | exact hB
    | exact hP
    | exact hH
    | exact hI
    | with_reducible refine Dev.loadPublic_keeps hB hP hH hI hNvm ?_
    | with_reducible exact Keeps.units (by assumption)
    | split

theorem Dev.clamp_keeps {k : Allow} {d0 : Dev} (hB : k.b = true) (hP : k.p = true) (hH : k.h = true) (hI : k.i = true) (hNvm : k.nvm = true) {d : Dev} (h : Keeps k d0 d) : Keeps k d0 (Dev.clamp d) := by
  unfold Dev.clamp
  repeat' first
    | with_reducible assumption
    | (extract_lets +onlyGivenNames x; first | (have hx : Keeps k d0 x := ?_; clear_value x; swap; subst x; swap) | (have hx : Keeps1 k d0 x := ?_; clear_value x; swap; subst x; swap) | subst x)
    | exact Allow.cls_S rfl
    | exact hB
    | exact hP
    | exact hH
    | exact hI
    | with_reducible refine Dev.loadHolding_keeps hB hP hH hI hNvm ?_
    | with_reducible exact Keeps.units (by assumption)
    | split

theorem Dev.highz_keeps {k : Allow} {d0 : Dev} (hB : k.b = true) (hP : k.p = true) (hH : k.h = true) (hI : k.i = true) (hNvm : k.nvm = true) {d : Dev} (h : Keeps k d0 d) : Keeps k d0 (Dev.highz d) := by
  unfold Dev.highz
  repeat' first
    | with_reducible assumption
    | (extract_lets +onlyGivenNames x; first | (have hx : Keeps k d0 x := ?_; clear_value x; swap; subst x; swap) | (have hx : Keeps1 k d0 x := ?_; clear_value x; swap; subst x; swap) | subst x)
    | exact Allow.cls_S rfl
    | exact hB
    | exact hP
    | exact hH
    | exact hI
    | with_reducible refine Dev.loadHolding_keeps hB hP hH hI hNvm ?_
    | with_reducible exact Keeps.units (by assumption)
    | split

theorem Dev.bypass_keeps {k : Allow} {d0 : Dev} (hB : k.b = true) (hP : k.p = true) (hH : k.h = true) (hI : k.i = true) (hNvm : k.nvm = true) {d : Dev} (h : Keeps k d0 d) : Keeps k d0 (Dev.bypass d) := by
  unfold Dev.bypass
  repeat' first
    | with_reducible assumption
    | (extract_lets +onlyGivenNames x; first | (have hx : Keeps k d0 x := ?_; clear_value x; swap; subst x; swap) | (have hx : Keeps1 k d0 x := ?_; clear_value x; swap; subst x; swap) | subst x)
    | exact Allow.cls_S rfl
    | exact hB
    | exact hP
    | exact hH
    | exact hI
    | with_reducible refine Dev.loadPublic_keeps hB hP hH hI hNvm ?_
    | with_reducible exact Keeps.units (by assumption)
    | split

theorem Dev.clearMemories_keeps {k : Allow} {d0 : Dev} (hN : k.n = true) {d : Dev} (h : Keeps k d0 d) : Keeps k d0 (Dev.clearMemories d) := by
  unfold Dev.clearMemories
  repeat' first
    | with_reducible assumption
    | (extract_lets +onlyGivenNames x; first | (have hx : Keeps k d0 x := ?_; clear_value x; swap; subst x; swap) | (have hx : Keeps1 k d0 x := ?_; clear_value x; swap; subst x; swap) | subst x)
    | exact Allow.cls_S rfl
    | exact hN
    | ((with_reducible first | refine Allow.cls_mem (by assumption) ?_ | refine Allow.cls_fst (by assumption) ?_ | refine Allow.cls_snd (by assumption) ?_); rfl)
    | with_reducible refine Keeps.wr ?_ ?_
    | with_reducible refine Keeps.each ?_ (fun d x hm hd => ?_)
    | with_reducible exact Keeps.units (by assumption)
    | split

theorem Dev.privateInstruction_keeps {k : Allow} {d0 : Dev} (hN : k.n = true) (hB : k.b = true) (hP : k.p = true) (hH : k.h = true) (hI : k.i = true) (hNvm : k.nvm = true) {c : Nat} {d : Dev} (h : Keeps k d0 d) : Keeps k d0 (Dev.privateInstruction c d) := by
  unfold Dev.privateInstruction
  repeat' first
    | with_reducible assumption
    | (extract_lets +onlyGivenNames x; first | (have hx : Keeps k d0 x := ?_; clear_value x; swap; subst x; swap) | (have hx : Keeps1 k d0 x := ?_; clear_value x; swap; subst x; swap) | subst x)
    | exact Allow.cls_S rfl
    | exact hN
    | exact hB
    | exact hP
    | exact hH
    | exact hI
    | with_reducible refine Dev.log_keeps ?_
    | with_reducible refine Dev.clearMemories_keeps hN ?_
    | with_reducible refine Dev.enterSafe_keeps hB ?_
    | with_reducible refine Dev.leaveTap_keeps hB hP hH hI hNvm ?_
    | with_reducible refine Keeps.inc ?_ ?_
    | with_reducible exact Keeps.units (by assumption)
    | split

theorem Dev.offerVoice_keeps {k : Allow} {d0 : Dev} (hB : k.b = true) {d : Dev} {n : Nat} {take : Nat} {e : Entry} (h : Keeps k d0 d) : Keeps k d0 (Dev.offerVoice d n take e) := by
  unfold Dev.offerVoice
  repeat' first
    | with_reducible assumption
    | (extract_lets +onlyGivenNames x; first | (have hx : Keeps k d0 x := ?_; clear_value x; swap; subst x; swap) | (have hx : Keeps1 k d0 x := ?_; clear_value x; swap; subst x; swap) | subst x)
    | exact Allow.cls_S rfl
    | exact hB
    | with_reducible refine Dev.writeEntry_keeps hB ?_
    | with_reducible refine Dev.capture_keeps ?_
    | with_reducible refine Dev.putVoice_keeps ?_
    | with_reducible exact Keeps.units (by assumption)
    | split

theorem Dev.takeVoice_keeps {k : Allow} {d0 : Dev} (hB : k.b = true) {d : Dev} {n : Nat} {direct : Bool} {e : Entry} (h : Keeps k d0 d) : Keeps k d0 (Dev.takeVoice d n direct e) := by
  unfold Dev.takeVoice
  repeat' first
    | with_reducible assumption
    | (extract_lets +onlyGivenNames x; first | (have hx : Keeps k d0 x := ?_; clear_value x; swap; subst x; swap) | (have hx : Keeps1 k d0 x := ?_; clear_value x; swap; subst x; swap) | subst x)
    | exact Allow.cls_S rfl
    | exact hB
    | with_reducible refine Dev.offerVoice_keeps hB ?_
    | with_reducible refine Dev.feedAnas_keeps ?_
    | with_reducible refine Dev.putCap_keeps ?_
    | with_reducible refine Dev.drainFit_keeps ?_
    | with_reducible refine Dev.putVoice_keeps ?_
    | with_reducible exact Keeps.units (by assumption)
    | split

theorem Dev.ringWrite_keeps {k : Allow} {d0 : Dev} (hB : k.b = true) {d : Dev} (h : Keeps k d0 d) : Keeps k d0 (Dev.ringWrite d) := by
  unfold Dev.ringWrite
  dsimp only
  repeat' first
    | with_reducible assumption
    | with_reducible refine Dev.writeWaiting_keeps hB ?_
    | with_reducible refine Dev.takeVoice_keeps hB ?_
    | with_reducible exact Keeps.units (by assumption)
    | split

theorem Dev.lowWordRead_keeps {k : Allow} {d0 : Dev} {a : Nat} {d : Dev} (h : Keeps k d0 d) : Keeps k d0 (Dev.lowWordRead a d) := by
  unfold Dev.lowWordRead
  split
  · split
    · exact h
    · refine Keeps.snaps h (fun hs => Store.wf_foldl (fun s f g => ?_) _ hs)
      split
      · exact keepHigh_wf _ _ _ g
      · exact g
  · split
    · exact Keeps.snaps h (fun hs => keepHigh_wf _ _ _ hs)
    · split
      · exact Keeps.snaps h (fun hs => keepHigh_wf _ _ _ hs)
      · exact h

theorem Dev.noteMoved_keeps {k : Allow} {d0 : Dev} {d : Dev} {n : Nat} (h : Keeps k d0 d) : Keeps k d0 (Dev.noteMoved d n) := by
  unfold Dev.noteMoved
  repeat' first
    | with_reducible assumption
    | (extract_lets +onlyGivenNames x; first | (have hx : Keeps k d0 x := ?_; clear_value x; swap; subst x; swap) | (have hx : Keeps1 k d0 x := ?_; clear_value x; swap; subst x; swap) | subst x)
    | exact Allow.cls_S rfl
    | with_reducible exact Keeps.units (by assumption)
    | split

theorem Dev.windowRead_keeps {k : Allow} {d0 : Dev} {n : Nat} {offset : Nat} {d : Dev} (h : Keeps k d0 d) : Keeps k d0 (Dev.windowRead n offset d) := by
  unfold Dev.windowRead
  repeat' first
    | with_reducible assumption
    | (extract_lets +onlyGivenNames x; first | (have hx : Keeps k d0 x := ?_; clear_value x; swap; subst x; swap) | (have hx : Keeps1 k d0 x := ?_; clear_value x; swap; subst x; swap) | subst x)
    | exact Allow.cls_S rfl
    | with_reducible refine Dev.noteMoved_keeps ?_
    | with_reducible refine Dev.ringDataRead_keeps ?_
    | with_reducible refine Keeps.when ?_ (fun d hd => ?_)
    | with_reducible exact Keeps.units (by assumption)
    | split

theorem Dev.wordRead_keeps {k : Allow} {d0 : Dev} {a : Nat} {d : Dev} (h : Keeps k d0 d) : Keeps k d0 (Dev.wordRead a d) := by
  unfold Dev.wordRead
  repeat' first
    | with_reducible assumption
    | (extract_lets +onlyGivenNames x; first | (have hx : Keeps k d0 x := ?_; clear_value x; swap; subst x; swap) | (have hx : Keeps1 k d0 x := ?_; clear_value x; swap; subst x; swap) | subst x)
    | exact Allow.cls_S rfl
    | with_reducible refine Dev.lowWordRead_keeps ?_
    | with_reducible refine Dev.rseqRead_keeps ?_
    | with_reducible refine Dev.legalResultRead_keeps ?_
    | with_reducible refine Dev.missedTriggerRead_keeps ?_
    | with_reducible refine Dev.captureBufferRead_keeps ?_
    | with_reducible refine Dev.windowRead_keeps ?_
    | with_reducible exact Keeps.units (by assumption)
    | split

theorem Dev.beginRead_keeps {k : Allow} {d0 : Dev} {d : Dev} (h : Keeps k d0 d) : Keeps k d0 (Dev.beginRead d) := by
  unfold Dev.beginRead
  repeat' first
    | with_reducible assumption
    | (extract_lets +onlyGivenNames x; first | (have hx : Keeps k d0 x := ?_; clear_value x; swap; subst x; swap) | (have hx : Keeps1 k d0 x := ?_; clear_value x; swap; subst x; swap) | subst x)
    | exact Allow.cls_S rfl
    | with_reducible exact Keeps.units (by assumption)
    | split

theorem Dev.setLatest_keeps {k : Allow} {d0 : Dev} {b : Bool} {d : Dev} (h : Keeps k d0 d) : Keeps k d0 (Dev.setLatest b d) := by
  unfold Dev.setLatest
  repeat' first
    | with_reducible assumption
    | (extract_lets +onlyGivenNames x; first | (have hx : Keeps k d0 x := ?_; clear_value x; swap; subst x; swap) | (have hx : Keeps1 k d0 x := ?_; clear_value x; swap; subst x; swap) | subst x)
    | exact Allow.cls_S rfl
    | with_reducible exact Keeps.units (by assumption)
    | split

theorem Dev.oneRead_keeps {k : Allow} {d0 : Dev} {a : Nat} {f : Dev → Dev} {d : Dev} (hf : ∀ d, Keeps k d0 d → Keeps k d0 (f d))
    (h : Keeps k d0 d) : Keeps k d0 (Dev.oneRead a f d) := by
  unfold Dev.oneRead
  split
  · exact Dev.setLatest_keeps (hf _ (Dev.beginRead_keeps h))
  · exact h

theorem Dev.oneWrite_keeps {k : Allow} {d0 : Dev} {f : Dev → Dev} {d : Dev} (hf : ∀ d, Keeps k d0 d → Keeps k d0 (f d))
    (h : Keeps k d0 d) : Keeps k d0 (Dev.oneWrite f d) := by
  unfold Dev.oneWrite
  split
  · exact hf _ (Dev.setLatest_keeps h)
  · exact h

theorem Dev.unread_keeps {k : Allow} {d0 : Dev} {n : Nat} {d : Dev} (h : Keeps k d0 d) : Keeps k d0 (Dev.unread n d) := by
  unfold Dev.unread
  repeat' first
    | with_reducible assumption
    | (extract_lets +onlyGivenNames x; first | (have hx : Keeps k d0 x := ?_; clear_value x; swap; subst x; swap) | (have hx : Keeps1 k d0 x := ?_; clear_value x; swap; subst x; swap) | subst x)
    | exact Allow.cls_S rfl
    | with_reducible refine Dev.setFill_keeps ?_
    | with_reducible refine Dev.putRing_keeps ?_
    | with_reducible refine Keeps.wr ?_ ?_
    | with_reducible exact Keeps.units (by assumption)
    | split

theorem Dev.unreadNow_keeps {k : Allow} {d0 : Dev} {n : Nat} {d : Dev} (h : Keeps k d0 d) : Keeps k d0 (Dev.unreadNow n d) := by
  unfold Dev.unreadNow
  repeat' first
    | with_reducible assumption
    | (extract_lets +onlyGivenNames x; first | (have hx : Keeps k d0 x := ?_; clear_value x; swap; subst x; swap) | (have hx : Keeps1 k d0 x := ?_; clear_value x; swap; subst x; swap) | subst x)
    | exact Allow.cls_S rfl
    | with_reducible refine Dev.setLatest_keeps ?_
    | with_reducible refine Dev.unread_keeps ?_
    | with_reducible exact Keeps.units (by assumption)
    | split

theorem Dev.judge_keeps {k : Allow} {d0 : Dev} {d : Dev} {ok : Bool} {code : Nat} {f : Dev → Dev}
    (hf : ∀ d, Keeps k d0 d → Keeps k d0 (f d)) (h : Keeps k d0 d) : Keeps1 k d0 (Dev.judge d ok code f) := by
  unfold Dev.judge
  split
  · exact hf d h
  · exact h

theorem Dev.portCommand_keeps {k : Allow} {d0 : Dev} {d : Dev} {a : Nat} {v : Nat} (h : Keeps k d0 d) : Keeps1 k d0 (Dev.portCommand d a v) := by
  unfold Dev.portCommand
  repeat' first
    | with_reducible assumption
    | (extract_lets +onlyGivenNames x; first | (have hx : Keeps k d0 x := ?_; clear_value x; swap; subst x; swap) | (have hx : Keeps1 k d0 x := ?_; clear_value x; swap; subst x; swap) | subst x)
    | exact Allow.cls_S rfl
    | with_reducible refine Dev.startPt_keeps ?_
    | with_reducible refine Dev.unread_keeps ?_
    | with_reducible refine Dev.judge_keeps (fun d hd => ?_) ?_
    | with_reducible exact Keeps.units (by assumption)
    | split

theorem Dev.measureCommand_keeps {k : Allow} {d0 : Dev} {d : Dev} {a : Nat} {v : Nat} (h : Keeps k d0 d) : Keeps1 k d0 (Dev.measureCommand d a v) := by
  unfold Dev.measureCommand
  repeat' first
    | with_reducible assumption
    | (extract_lets +onlyGivenNames x; first | (have hx : Keeps k d0 x := ?_; clear_value x; swap; subst x; swap) | (have hx : Keeps1 k d0 x := ?_; clear_value x; swap; subst x; swap) | subst x)
    | exact Allow.cls_S rfl
    | with_reducible refine Dev.clearRestCounts_keeps ?_
    | with_reducible refine Dev.clearAllanAll_keeps ?_
    | with_reducible refine Dev.clearAllanCtx_keeps ?_
    | with_reducible refine Dev.wmSelfTest_keeps ?_
    | with_reducible refine Dev.tuneRestart_keeps ?_
    | with_reducible refine Dev.clearVoiceCounts_keeps ?_
    | with_reducible refine Dev.tbRestartCheck_keeps ?_
    | with_reducible refine Dev.judge_keeps (fun d hd => ?_) ?_
    | with_reducible exact Keeps.units (by assumption)
    | split

theorem Dev.captureCommand_keeps {k : Allow} {d0 : Dev} (hB : k.b = true) {d : Dev} {a : Nat} {v : Nat} (h : Keeps k d0 d) : Keeps1 k d0 (Dev.captureCommand d a v) := by
  unfold Dev.captureCommand
  repeat' first
    | with_reducible assumption
    | (extract_lets +onlyGivenNames x; first | (have hx : Keeps k d0 x := ?_; clear_value x; swap; subst x; swap) | (have hx : Keeps1 k d0 x := ?_; clear_value x; swap; subst x; swap) | subst x)
    | exact Allow.cls_S rfl
    | exact hB
    | with_reducible refine Dev.clearMissCount_keeps ?_
    | with_reducible refine Dev.clearTotal_keeps ?_
    | with_reducible refine Dev.clearHistogram_keeps ?_
    | with_reducible refine Dev.commandTrigger_keeps hB ?_
    | with_reducible refine Dev.releaseAll_keeps ?_
    | with_reducible refine Dev.completeCapture_keeps ?_
    | with_reducible refine Dev.releaseSegment_keeps ?_
    | with_reducible refine Dev.judge_keeps (fun d hd => ?_) ?_
    | with_reducible exact Keeps.units (by assumption)
    | split

theorem Dev.weighCommand_keeps {k : Allow} {d0 : Dev} (hN : k.n = true) (hB : k.b = true) {d : Dev} {a : Nat} {v : Nat} (h : Keeps k d0 d) : Keeps1 k d0 (Dev.weighCommand d a v) := by
  unfold Dev.weighCommand
  repeat' first
    | with_reducible assumption
    | (extract_lets +onlyGivenNames x; first | (have hx : Keeps k d0 x := ?_; clear_value x; swap; subst x; swap) | (have hx : Keeps1 k d0 x := ?_; clear_value x; swap; subst x; swap) | subst x)
    | exact Allow.cls_S rfl
    | exact hN
    | exact hB
    | with_reducible refine Dev.clearChoirCounters_keeps ?_
    | with_reducible refine Dev.choirResetCmd_keeps ?_
    | with_reducible refine Dev.readmitDevice_keeps ?_
    | with_reducible refine Dev.retrainPort_keeps ?_
    | with_reducible refine Dev.reacquire_keeps ?_
    | with_reducible refine Dev.emptyWeakMap_keeps hN ?_
    | with_reducible refine Dev.clearProv_keeps hB ?_
    | with_reducible refine Dev.learnProfile_keeps ?_
    | with_reducible refine Dev.operate_keeps ?_
    | with_reducible refine Dev.judge_keeps (fun d hd => ?_) ?_
    | with_reducible exact Keeps.units (by assumption)
    | split

theorem Dev.systemCommand_keeps {k : Allow} {d0 : Dev} (hB : k.b = true) (hFuse : k.fuse = true) {d : Dev} {a : Nat} {v : Nat} (h : Keeps k d0 d) : Keeps1 k d0 (Dev.systemCommand d a v) := by
  unfold Dev.systemCommand
  repeat' first
    | with_reducible assumption
    | (extract_lets +onlyGivenNames x; first | (have hx : Keeps k d0 x := ?_; clear_value x; swap; subst x; swap) | (have hx : Keeps1 k d0 x := ?_; clear_value x; swap; subst x; swap) | subst x)
    | exact Allow.cls_S rfl
    | exact hB
    | with_reducible refine Dev.loadAuditRecord_keeps ?_
    | with_reducible refine Dev.loadRecord_keeps ?_
    | with_reducible refine Dev.setCalendar_keeps hB ?_
    | with_reducible refine Dev.programKeyFuses_keeps hFuse ?_
    | with_reducible refine Dev.cancelApply_keeps ?_
    | with_reducible refine Dev.startApply_keeps ?_
    | with_reducible refine Dev.judge_keeps (fun d hd => ?_) ?_
    | with_reducible exact Keeps.units (by assumption)
    | split

theorem Dev.powerCommand_keeps {k : Allow} {d0 : Dev} {d : Dev} {a : Nat} {v : Nat} (h : Keeps k d0 d) : Keeps1 k d0 (Dev.powerCommand d a v) := by
  unfold Dev.powerCommand
  repeat' first
    | with_reducible assumption
    | (extract_lets +onlyGivenNames x; first | (have hx : Keeps k d0 x := ?_; clear_value x; swap; subst x; swap) | (have hx : Keeps1 k d0 x := ?_; clear_value x; swap; subst x; swap) | subst x)
    | exact Allow.cls_S rfl
    | with_reducible refine Dev.clearSramCorr_keeps ?_
    | with_reducible refine Dev.reAdmit_keeps ?_
    | with_reducible refine Dev.resume_keeps ?_
    | with_reducible refine Dev.standby_keeps ?_
    | with_reducible refine Dev.run_keeps ?_
    | with_reducible refine Dev.hold_keeps ?_
    | with_reducible refine Dev.judge_keeps (fun d hd => ?_) ?_
    | with_reducible exact Keeps.units (by assumption)
    | split

theorem Dev.command_keeps {k : Allow} {d0 : Dev} (hN : k.n = true) (hB : k.b = true) (hFuse : k.fuse = true) {d : Dev} {a : Nat} {v : Nat} (h : Keeps k d0 d) : Keeps1 k d0 (Dev.command d a v) := by
  unfold Dev.command
  repeat' first
    | with_reducible assumption
    | (extract_lets +onlyGivenNames x; first | (have hx : Keeps k d0 x := ?_; clear_value x; swap; subst x; swap) | (have hx : Keeps1 k d0 x := ?_; clear_value x; swap; subst x; swap) | subst x)
    | exact Allow.cls_S rfl
    | exact hN
    | exact hB
    | with_reducible refine Dev.clearLoss_keeps ?_
    | with_reducible refine Dev.flush_keeps ?_
    | with_reducible refine Dev.powerCommand_keeps ?_
    | with_reducible refine Dev.systemCommand_keeps hB hFuse ?_
    | with_reducible refine Dev.weighCommand_keeps hN hB ?_
    | with_reducible refine Dev.captureCommand_keeps hB ?_
    | with_reducible refine Dev.measureCommand_keeps ?_
    | with_reducible refine Dev.portCommand_keeps ?_
    | with_reducible exact Keeps.units (by assumption)
    | split

theorem Wrote.field_keeps {k : Allow} {d0 : Dev} (hB : k.b = true) (hP : k.p = true) (hH : k.h = true) {a v : Nat} {x : Wrote} {f : Fld}
    (hf : openFields [f] = true) (h : Keeps k d0 x.dev) : Keeps k d0 (Wrote.field a v x f).dev := by
  have hc : f.acc = .rw ∨ f.acc = .w1c → k.cls f.cls = true := by
    intro ha
    rcases ha with ha | ha <;> simp [openFields, ha] at hf <;> rcases hf with ((e | e) | e) | e <;> rw [e] <;> first | rfl | assumption
  unfold Wrote.field
  split
  · next ha => exact Keeps.wr (hc (.inl ha)) h
  · next ha => exact Keeps.wr (hc (.inr ha)) h
  · exact h
  all_goals
    dsimp only
    split <;> exact h

theorem Wrote.fields_keeps {k : Allow} {d0 : Dev} (hB : k.b = true) (hP : k.p = true) (hH : k.h = true) {a v : Nat} {fs : List Fld} {x : Wrote}
    (hf : openFields fs = true) (h : Keeps k d0 x.dev) : Keeps k d0 (fs.foldl (Wrote.field a v) x).dev := by
  induction fs generalizing x with
  | nil => exact h
  | cons f r ih =>
    unfold openFields at hf
    rw [List.all_cons, Bool.and_eq_true] at hf
    exact ih hf.2 (Wrote.field_keeps hB hP hH (by simpa [openFields] using hf.1) h)

theorem Dev.applyWord_keeps {k : Allow} {d0 : Dev} (hN : k.n = true) (hB : k.b = true) (hP : k.p = true) (hH : k.h = true) (hI : k.i = true) (hNvm : k.nvm = true) (hFuse : k.fuse = true) {d : Dev} {a v : Nat} (h : Keeps k d0 d) : Keeps k d0 (d.applyWord a v).dev := by
  unfold Dev.applyWord
  split
  · exact h
  · split
    · next hf =>
      split
      · exact Dev.command_keeps hN hB hFuse h
      · exact Wrote.fields_keeps hB hP hH (fieldsAt_open hf) h
    · exact h

theorem Dev.registerWrite_keeps {k : Allow} {d0 : Dev} (hB : k.b = true) (hP : k.p = true) (hH : k.h = true) {a v : Nat} {d : Dev} (h : Keeps k d0 d) : Keeps k d0 (Dev.registerWrite a v d) := by
  unfold Dev.registerWrite
  split
  · exact h
  · split
    · exact h
    · next hf =>
      split
      · exact h
      · next hc =>
        have hl : Keeps k d0 (d.setLatest false) := Dev.setLatest_keeps h
        have hw : Keeps k d0 ((d.setLatest false).applyWord a v).dev := by
          unfold Dev.applyWord
          rw [hf]
          simp only [hc]
          split
          · exact hl
          · exact Wrote.fields_keeps hB hP hH (fieldsAt_open hf) hl
        refine Keeps.when hw (fun d hd => ?_)
        exact Dev.notify_keeps (Keeps.inc hH hd)

theorem Access.note_dev (x : Access) (c a : Nat) : (x.note c a).dev = x.dev := by
  unfold Access.note
  split <;> rfl

theorem Access.begin_dev (d : Dev) (a : Nat) (served : Bool) : (Access.begin d a served).dev = d := by
  unfold Access.begin
  split
  · rfl
  · exact Access.note_dev _ _ _

theorem Access.readWord_keeps {k : Allow} {d0 : Dev} {x : Access} {a : Nat} (h : Keeps k d0 x.dev) :
    Keeps k d0 (x.readWord a).dev := by
  have h1 : Keeps k d0 (if mapped a then x else x.note 6 a).dev := by
    split
    · exact h
    · rw [Access.note_dev]; exact h
  unfold Access.readWord
  refine Dev.wordRead_keeps ?_
  try dsimp only
  generalize (if mapped a then x else x.note 6 a) = y at h1
  split
  · rw [Access.note_dev]; exact h1
  · exact h1

theorem Access.readWords_keeps {k : Allow} {d0 : Dev} {late : Option Nat} {n i a : Nat} {x : Access} (h : Keeps k d0 x.dev) :
    Keeps k d0 (Access.readWords late n i a x).dev := by
  induction n generalizing i a x with
  | zero => exact h
  | succ n ih =>
    unfold Access.readWords
    refine ih ?_
    repeat' split
    all_goals first
      | exact Access.readWord_keeps h
      | exact (congrArg (Keeps k d0) (Access.note_dev x _ a)).mpr h

theorem Access.close_keeps {k : Allow} {d0 : Dev} (hB : k.b = true) (hP : k.p = true) (hH : k.h = true) (hI : k.i = true) (hNvm : k.nvm = true) {x : Access} {read : Bool} (h : Keeps k d0 x.dev) : Keeps k d0 (Access.close x read) := by
  unfold Access.close
  repeat' first
    | with_reducible assumption
    | (extract_lets +onlyGivenNames x; have hx : Keeps k d0 x := ?_; clear_value x; swap; subst x; swap)
    | exact Allow.cls_S rfl
    | exact hH
    | with_reducible refine Access.dev_keeps ?_
    | with_reducible refine Dev.setLatest_keeps ?_
    | with_reducible refine Keeps.wr ?_ ?_
    | with_reducible refine Keeps.when ?_ (fun d hd => ?_)
    | with_reducible refine Dev.softReset_keeps hB hP hH hI hNvm ?_
    | with_reducible refine Dev.notify_keeps ?_
    | with_reducible refine Keeps.inc ?_ ?_
    | with_reducible exact Keeps.units (by assumption)
    | split

theorem Dev.findUpsets_keeps {k : Allow} {d0 : Dev} (hB : k.b = true) (hP : k.p = true) {d : Dev} {l : List (Nat × Nat)} (h : Keeps k d0 d) : Keeps k d0 (Dev.findUpsets d l) := by
  unfold Dev.findUpsets
  repeat' first
    | with_reducible assumption
    | (extract_lets +onlyGivenNames x; first | (have hx : Keeps k d0 x := ?_; clear_value x; swap; subst x; swap) | (have hx : Keeps1 k d0 x := ?_; clear_value x; swap; subst x; swap) | subst x)
    | exact Allow.cls_S rfl
    | exact hB
    | exact hP
    | ((with_reducible first | refine Allow.cls_mem (by assumption) ?_ | refine Allow.cls_fst (by assumption) ?_ | refine Allow.cls_snd (by assumption) ?_); rfl)
    | with_reducible refine Dev.tableParity_keeps hB ?_
    | with_reducible refine Dev.filter_keeps ?_
    | with_reducible refine Dev.meetUpsets_keeps hB hP ?_
    | with_reducible refine Keeps.each ?_ (fun d x hm hd => ?_)
    | with_reducible exact Keeps.units (by assumption)
    | split

theorem Dev.hostRead_keeps {k : Allow} {d0 : Dev} (hB : k.b = true) (hP : k.p = true) (hH : k.h = true) (hI : k.i = true) (hNvm : k.nvm = true) {cmd a words : Nat} {late : Option Nat} {upsets : List (Nat × Nat)} {d : Dev}
    (h : Keeps k d0 d) : Keeps k d0 (Dev.hostRead cmd a words late upsets d) := by
  unfold Dev.hostRead
  split
  · exact h
  · have hb : Keeps k d0 d.beginRead := Dev.beginRead_keeps h
    generalize d.beginRead = d at hb
    try dsimp only
    split
    · refine Access.close_keeps hB hP hH hI hNvm ?_
      exact (congrArg (Keeps k d0) ((Access.note_dev _ 7 a).trans (Access.begin_dev d a _))).mpr hb
    · have hu : Keeps k d0 (if d.readServed a = true then d.findUpsets upsets else d) := by
        split
        · exact Dev.findUpsets_keeps hB hP hb
        · exact hb
      generalize (if d.readServed a = true then d.findUpsets upsets else d) = e at hu
      have hw : Keeps k d0 (Access.readWords late words 0 a (Access.begin e a (e.readServed a))).dev :=
        Access.readWords_keeps ((congrArg (Keeps k d0) (Access.begin_dev e a _)).mpr hu)
      refine Access.close_keeps hB hP hH hI hNvm ?_
      split
      · exact hw
      · exact hw

theorem Access.writeWord_keeps {k : Allow} {d0 : Dev} (hN : k.n = true) (hB : k.b = true) (hP : k.p = true) (hH : k.h = true) (hI : k.i = true) (hNvm : k.nvm = true) (hFuse : k.fuse = true) {x : Access} {a v : Nat} (h : Keeps k d0 x.dev) : Keeps k d0 (x.writeWord a v).dev := by
  unfold Access.writeWord
  dsimp only
  refine (congrArg (Keeps k d0) (Access.note_dev _ _ a)).mpr ?_
  show Keeps k d0 (x.dev.writeWord a v).dev
  unfold Dev.writeWord
  split
  · exact Dev.applyWord_keeps hN hB hP hH hI hNvm hFuse h
  · exact h

theorem Access.writeWords_keeps {k : Allow} {d0 : Dev} (hN : k.n = true) (hB : k.b = true) (hP : k.p = true) (hH : k.h = true) (hI : k.i = true) (hNvm : k.nvm = true) (hFuse : k.fuse = true) {full : Nat} {l : List Nat} {i a : Nat} {x : Access} (h : Keeps k d0 x.dev) :
    Keeps k d0 (Access.writeWords full l i a x).dev := by
  fun_induction Access.writeWords full l i a x with
  | case1 => next x ih =>
      refine ih ?_
      subst x
      split
      · exact (congrArg (Keeps k d0) (Access.note_dev _ 10 _)).mpr h
      · exact Access.writeWord_keeps hN hB hP hH hI hNvm hFuse h
  | case2 => exact h
  | case3 => exact (congrArg (Keeps k d0) (Access.note_dev _ 8 _)).mpr h

theorem Dev.hostWrite_keeps {k : Allow} {d0 : Dev} (hN : k.n = true) (hB : k.b = true) (hP : k.p = true) (hH : k.h = true) (hI : k.i = true) (hNvm : k.nvm = true) (hFuse : k.fuse = true) {cmd a : Nat} {bytes : List Nat} {full : Nat} {d : Dev} (h : Keeps k d0 d) :
    Keeps k d0 (Dev.hostWrite cmd a bytes full d) := by
  have hs : Keeps k d0 (Access.start d a).dev := h
  unfold Dev.hostWrite
  split
  · exact h
  split
  · exact Access.close_keeps hB hP hH hI hNvm ((congrArg (Keeps k d0) (Access.begin_dev d a false)).mpr h)
  · generalize Access.start d a = x at hs
    refine Access.close_keeps hB hP hH hI hNvm ?_
    dsimp only
    repeat' split
    all_goals first
      | exact Access.writeWords_keeps hN hB hP hH hI hNvm hFuse hs
      | exact (congrArg (Keeps k d0) (Access.note_dev _ _ _)).mpr hs

theorem Dev.status_keeps {k : Allow} {d0 : Dev} {d : Dev} (h : Keeps k d0 d) : Keeps k d0 (Dev.status d) := by
  unfold Dev.status
  repeat' first
    | with_reducible assumption
    | (extract_lets +onlyGivenNames x; first | (have hx : Keeps k d0 x := ?_; clear_value x; swap; subst x; swap) | (have hx : Keeps1 k d0 x := ?_; clear_value x; swap; subst x; swap) | subst x)
    | exact Allow.cls_S rfl
    | with_reducible exact Keeps.units (by assumption)
    | split

theorem Dev.unknownCommand_keeps {k : Allow} {d0 : Dev} (hB : k.b = true) (hP : k.p = true) (hH : k.h = true) (hI : k.i = true) (hNvm : k.nvm = true) {c : Nat} {d : Dev} (h : Keeps k d0 d) : Keeps k d0 (Dev.unknownCommand c d) := by
  unfold Dev.unknownCommand
  split
  · refine Access.close_keeps hB hP hH hI hNvm ?_
    exact (congrArg (Keeps k d0) (Access.note_dev _ 13 _)).mpr (Dev.nextFree_keeps h)
  · exact h

end Sys2Proof.Machine
end

