-- ==== Sys2Proof/Laws/Image.lean ====
section
/-! SUPPORT. What a field reads in the table an image gives (R268): the value its words hold. -/

namespace Sys2Proof.Machine

set_option Elab.async false

open Reg

@[simp] theorem fieldRead_write_same (t : Store) (f : Fld) (v : Nat) : fieldRead (fieldWrite t f v) f = v % 2 ^ f.width := by
  simp [fieldRead, fieldWrite]

theorem fieldRead_write_other (t : Store) {f g : Fld} (v : Nat) (h : g.key ≠ f.key) : fieldRead (fieldWrite t f v) g = fieldRead t g := by
  simp [fieldRead, fieldWrite, Store.read_write_other _ _ h]

/-- A table built field by field reads what its own field wrote, when no other field shares the key. -/
theorem fieldRead_foldl (g : Fld → Nat) {f : Fld} : ∀ (fs : List Fld) (t : Store), (∀ x ∈ fs, x.key = f.key → x = f) →
    (fieldRead t f = g f % 2 ^ f.width ∨ f ∈ fs) → fieldRead (fs.foldl (fun t x => fieldWrite t x (g x)) t) f = g f % 2 ^ f.width
  | [], t, _, h => by simpa using h
  | x :: fs, t, hu, h => by
    refine fieldRead_foldl g fs _ (fun y hy => hu y (List.mem_cons_of_mem _ hy)) ?_
    by_cases hx : x = f
    · subst hx; exact .inl (fieldRead_write_same _ _ _)
    · rcases h with h | h
      · exact .inl ((fieldRead_write_other _ _ (fun e => hx (hu x List.mem_cons_self e.symm))).trans h)
      · exact .inr ((List.mem_cons.1 h).resolve_left (fun e => hx e.symm))

/-- The fields that IDENT gives. -/
def identFlds : List Fld :=
  [TRANS_REST, IMAGE_ID, BUILD_DATE_DAY, BUILD_DATE_MONTH, BUILD_DATE_YEAR, TOOL_VERSION, NAME]

theorem fieldRead_identInto (b : List Nat) (t : Store) {f : Fld} (h : ∀ x ∈ identFlds, f.key ≠ x.key) :
    fieldRead (identInto b t) f = fieldRead t f := by
  simp only [identFlds, List.forall_mem_cons, List.not_mem_nil, false_imp_iff, implies_true, and_true] at h
  obtain ⟨h1, h2, h3, h4, h5, h6, h7⟩ := h
  simp only [identInto]
  rw [fieldRead_write_other _ _ h7, fieldRead_write_other _ _ h6, fieldRead_write_other _ _ h5, fieldRead_write_other _ _ h4,
    fieldRead_write_other _ _ h3, fieldRead_write_other _ _ h2, fieldRead_write_other _ _ h1]

/-- The fields that an image's bodies but IDENT give. -/
def bodyFlds : List Fld := imageFields.filter (fun f => f.section != 1)

/-- Is this the one field of the bodies with its key, and none of IDENT? -/
def Fld.alone (f : Fld) : Bool := bodyFlds.all (fun x => x.key != f.key || x == f) && bodyFlds.any (· == f) && identFlds.all (fun x => f.key != x.key)

theorem imageTable_read (b : List Nat) (ws : Store) {f : Fld} (h : f.alone = true) :
    fieldRead (imageTable b ws) f = f.inWords ws (CHOIR_CFG_ADDR.inWords ws 0) % 2 ^ f.width := by
  simp only [Fld.alone, Bool.and_eq_true, List.all_eq_true, List.any_eq_true, beq_iff_eq, bne_iff_ne, Bool.or_eq_true, exists_eq_right] at h
  obtain ⟨⟨hu, hm⟩, hi⟩ := h
  rw [imageTable, fieldRead_identInto _ _ hi]
  exact fieldRead_foldl (fun f => f.inWords ws (CHOIR_CFG_ADDR.inWords ws 0)) _ _
    (fun x hx e => (hu x hx).resolve_left (fun n => n e)) (.inr hm)

end Sys2Proof.Machine
end

