-- ==== Sys2Proof/Laws/PerInstr.lean ====
section
/-! SUPPORT. Per-command statements about the commands as syntax. Operands: the unit a well-formed command names exists. -/

namespace Sys2Proof.Laws.Operands

set_option Elab.async false

open Sys2Proof

/-- The unit that a command names and how many units of its kind there are (R16, R68, R94, R113, R134, R168, R233, R250). -/
def unit : Instr → Option (Nat × Nat)
  | .lowWordRead _ => none
  | .registerWrite _ _ => none
  | .voiceEdge voice _ _ _ => some (voice, 16)
  | .pendingMarker voice => some (voice, 16)
  | .epochWrap => none
  | .stampAccumulate voice _ => some (voice, 16)
  | .ringWrite => none
  | .ringDataRead ring _ _ => some (ring, 24)
  | .flush ring => some (ring, 24)
  | .clearLossCount ring => some (ring, 24)
  | .clearVoiceCounts voice => some (voice, 16)
  | .voiceStart voice => some (voice, 16)
  | .scrub bank _ _ _ _ => some (bank, 8)
  | .rowReplacementDone bank _ => some (bank, 8)
  | .powerGoodRise _ _ => none
  | .powerGoodFall _ => none
  | .vbatLow => none
  | .bootStepComplete _ _ => none
  | .firstPeriod => none
  | .pinReset => none
  | .softReset => none
  | .choirReset => none
  | .strapChange _ => none
  | .sealChange _ => none
  | .xtalFail _ => none
  | .referenceSwitch _ => none
  | .spllLockDetect => none
  | .windowCheck _ => none
  | .spllSwitchTimeout => none
  | .overspeed _ => none
  | .ocxoWindow _ _ => none
  | .refInLost => none
  | .ocxoRdyChange _ => none
  | .warmupLate => none
  | .tbRestartCheck => none
  | .tuningHit context _ _ _ => some (context, 20)
  | .tableSwap context => some (context, 20)
  | .tableExpired context => some (context, 20)
  | .bootTuningLate context => some (context, 20)
  | .collectionTimeout context => some (context, 20)
  | .tuneRestart context => some (context, 20)
  | .exciterTrip exciter => some (exciter, 8)
  | .classifierCondition monitor _ => some (monitor, 8)
  | .openWireCheck exciter _ => some (exciter, 8)
  | .monitorSettled monitor => some (monitor, 8)
  | .selfTestStep monitor _ _ => some (monitor, 8)
  | .wmSelfTest _ => none
  | .monitorBothHigh monitor => some (monitor, 8)
  | .exciterStart exciter => some (exciter, 8)
  | .pulseStart exciter _ => some (exciter, 8)
  | .pulseEnd exciter => some (exciter, 8)
  | .sweepHalfPeriod exciter _ => some (exciter, 8)
  | .periodBoundary timer => some (timer, 4)
  | .closeout _ _ _ => none
  | .closeoutDeadline timer => some (timer, 4)
  | .voiceSilent voice => some (voice, 16)
  | .clearAllanCtx context => some (context, 24)
  | .clearAllanAll => none
  | .clearRestCounts => none
  | .analyserStamp analyser _ => some (analyser, 4)
  | .analyserCloseout analyser _ => some (analyser, 4)
  | .rseqRead analyser => some (analyser, 4)
  | .captureTimeout => none
  | .rearmElapsed => none
  | .missedTriggerRead analyser _ _ => some (analyser, 4)
  | .captureBufferRead _ _ _ => none
  | .commandTrigger analyser => some (analyser, 4)
  | .clearHistogram analyser => some (analyser, 4)
  | .clearTotal analyser => some (analyser, 4)
  | .clearMissCount analyser => some (analyser, 4)
  | .releaseSegment segment => some (segment, 64)
  | .completeCapture => none
  | .releaseAll => none
  | .localSum _ => none
  | .pipelineCommit _ => none
  | .zero => none
  | .tare => none
  | .clearTare => none
  | .print => none
  | .legalResultRead => none
  | .totPulseEnd => none
  | .trackStamp _ _ => none
  | .frameDecode _ => none
  | .frameLate => none
  | .shock => none
  | .dropout _ _ => none
  | .learnRunStart => none
  | .learnProfile => none
  | .clearProv => none
  | .emptyWeakMap => none
  | .reacquire => none
  | .laneSignalDetect port _ => some (port, 2)
  | .laneAlign port _ _ => some (port, 2)
  | .trainingSet port _ _ _ _ => some (port, 2)
  | .trainingTimeout port => some (port, 2)
  | .trainingRetry port => some (port, 2)
  | .laneSignalLoss port => some (port, 2)
  | .codeViolationLimit port _ _ _ => some (port, 2)
  | .oneLaneRetrain port => some (port, 2)
  | .frameRx port _ _ => some (port, 2)
  | .ack port _ => some (port, 2)
  | .nak port _ _ => some (port, 2)
  | .ackTimer port => some (port, 2)
  | .replayTimeout port _ => some (port, 2)
  | .syncSend _ _ _ => none
  | .timeSend => none
  | .healthSend => none
  | .cfghashSend => none
  | .syncRx port _ _ => some (port, 2)
  | .thetaTimeout => none
  | .timeRx => none
  | .sumRx => none
  | .sumWindowEnd => none
  | .resultRx => none
  | .resultTimeout => none
  | .healthRx => none
  | .cfghashRx => none
  | .logRx => none
  | .opRx => none
  | .switchRx => none
  | .switchAckRx => none
  | .resetRx => none
  | .retireRx => none
  | .readmitRx => none
  | .realignReqRx => none
  | .claimTime => none
  | .aliveLapse address => some (address, 16)
  | .retrainPort port => some (port, 2)
  | .readmitDevice address => some (address, 16)
  | .choirResetCmd => none
  | .clearChoirCounters => none
  | .apply => none
  | .applyLoad => none
  | .cancel => none
  | .programKeyFuses => none
  | .validationDone _ => none
  | .commitComplete _ _ => none
  | .switchingBoundary => none
  | .transitionEnd => none
  | .read _ _ _ _ => none
  | .fastRead _ _ _ _ => none
  | .quadRead _ _ _ _ => none
  | .qioRead _ _ _ _ => none
  | .write _ _ _ => none
  | .quadWrite _ _ _ => none
  | .qioWrite _ _ _ => none
  | .status => none
  | .unknownCommand _ => none
  | .unread ring => some (ring, 24)
  | .ptRead => none
  | .ptProgram => none
  | .ptErase => none
  | .slotErase => none
  | .ptDone _ => none
  | .ptTimeout => none
  | .extest => none
  | .idcode => none
  | .samplePreload => none
  | .clamp => none
  | .highz => none
  | .bypass => none
  | .privateInstruction _ => none
  | .jtagInstructionLeave => none
  | .calendarSecond => none
  | .setCalendar => none
  | .calWriteApply => none
  | .kckStop => none
  | .logRecordWrite _ => none
  | .collection _ => none
  | .nvmRetry _ => none
  | .totaliserPhase1 _ => none
  | .totaliserPhase2 _ => none
  | .loadRecord => none
  | .loadAuditRecord => none
  | .logLoadDone _ => none
  | .reAdmit _ => none
  | .clearSramCorr => none
  | .ringLockTimeout ring => some (ring, 24)
  | .hold => none
  | .run => none
  | .standby => none
  | .standbyEntryComplete => none
  | .resume => none
  | .wake => none
  | .resumeStepComplete _ _ => none
  | .dieTempMeasure _ => none
  | .resetNRise => none
  | .refInEdgesPresent => none
  | .backupDomainLoss => none

/-- The unit that a well-formed command names exists. -/
def Statement (i : Instr) : Prop := ∀ u n, unit i = some (u, n) → i.wf = true → u < n

theorem lowWordRead : ∀ x0, Statement (.lowWordRead x0) := fun _ _ _ h _ => nomatch h
theorem registerWrite : ∀ x0 x1, Statement (.registerWrite x0 x1) := fun _ _ _ _ h _ => nomatch h
theorem voiceEdge : ∀ x0 x1 x2 x3, Statement (.voiceEdge x0 x1 x2 x3) := by
  intro x0 x1 x2 x3 u n h w
  simp [unit, Instr.wf] at h w
  omega
theorem pendingMarker : ∀ x0, Statement (.pendingMarker x0) := by
  intro x0 u n h w
  simp [unit, Instr.wf] at h w
  omega
theorem epochWrap : Statement .epochWrap := fun _ _ h _ => nomatch h
theorem stampAccumulate : ∀ x0 x1, Statement (.stampAccumulate x0 x1) := by
  intro x0 x1 u n h w
  simp [unit, Instr.wf] at h w
  omega
theorem ringWrite : Statement .ringWrite := fun _ _ h _ => nomatch h
theorem ringDataRead : ∀ x0 x1 x2, Statement (.ringDataRead x0 x1 x2) := by
  intro x0 x1 x2 u n h w
  simp [unit, Instr.wf] at h w
  omega
theorem flush : ∀ x0, Statement (.flush x0) := by
  intro x0 u n h w
  simp [unit, Instr.wf] at h w
  omega
theorem clearLossCount : ∀ x0, Statement (.clearLossCount x0) := by
  intro x0 u n h w
  simp [unit, Instr.wf] at h w
  omega
theorem clearVoiceCounts : ∀ x0, Statement (.clearVoiceCounts x0) := by
  intro x0 u n h w
  simp [unit, Instr.wf] at h w
  omega
theorem voiceStart : ∀ x0, Statement (.voiceStart x0) := by
  intro x0 u n h w
  simp [unit, Instr.wf] at h w
  omega
theorem scrub : ∀ x0 x1 x2 x3 x4, Statement (.scrub x0 x1 x2 x3 x4) := by
  intro x0 x1 x2 x3 x4 u n h w
  simp [unit, Instr.wf] at h w
  omega
theorem rowReplacementDone : ∀ x0 x1, Statement (.rowReplacementDone x0 x1) := by
  intro x0 x1 u n h w
  simp [unit, Instr.wf] at h w
  omega
theorem powerGoodRise : ∀ x0 x1, Statement (.powerGoodRise x0 x1) := fun _ _ _ _ h _ => nomatch h
theorem powerGoodFall : ∀ x0, Statement (.powerGoodFall x0) := fun _ _ _ h _ => nomatch h
theorem vbatLow : Statement .vbatLow := fun _ _ h _ => nomatch h
theorem bootStepComplete : ∀ x0 x1, Statement (.bootStepComplete x0 x1) := fun _ _ _ _ h _ => nomatch h
theorem firstPeriod : Statement .firstPeriod := fun _ _ h _ => nomatch h
theorem pinReset : Statement .pinReset := fun _ _ h _ => nomatch h
theorem softReset : Statement .softReset := fun _ _ h _ => nomatch h
theorem choirReset : Statement .choirReset := fun _ _ h _ => nomatch h
theorem strapChange : ∀ x0, Statement (.strapChange x0) := fun _ _ _ h _ => nomatch h
theorem sealChange : ∀ x0, Statement (.sealChange x0) := fun _ _ _ h _ => nomatch h
theorem xtalFail : ∀ x0, Statement (.xtalFail x0) := fun _ _ _ h _ => nomatch h
theorem referenceSwitch : ∀ x0, Statement (.referenceSwitch x0) := fun _ _ _ h _ => nomatch h
theorem spllLockDetect : Statement .spllLockDetect := fun _ _ h _ => nomatch h
theorem windowCheck : ∀ x0, Statement (.windowCheck x0) := fun _ _ _ h _ => nomatch h
theorem spllSwitchTimeout : Statement .spllSwitchTimeout := fun _ _ h _ => nomatch h
theorem overspeed : ∀ x0, Statement (.overspeed x0) := fun _ _ _ h _ => nomatch h
theorem ocxoWindow : ∀ x0 x1, Statement (.ocxoWindow x0 x1) := fun _ _ _ _ h _ => nomatch h
theorem refInLost : Statement .refInLost := fun _ _ h _ => nomatch h
theorem ocxoRdyChange : ∀ x0, Statement (.ocxoRdyChange x0) := fun _ _ _ h _ => nomatch h
theorem warmupLate : Statement .warmupLate := fun _ _ h _ => nomatch h
theorem tbRestartCheck : Statement .tbRestartCheck := fun _ _ h _ => nomatch h
theorem tuningHit : ∀ x0 x1 x2 x3, Statement (.tuningHit x0 x1 x2 x3) := by
  intro x0 x1 x2 x3 u n h w
  simp [unit, Instr.wf] at h w
  omega
theorem tableSwap : ∀ x0, Statement (.tableSwap x0) := by
  intro x0 u n h w
  simp [unit, Instr.wf] at h w
  omega
theorem tableExpired : ∀ x0, Statement (.tableExpired x0) := by
  intro x0 u n h w
  simp [unit, Instr.wf] at h w
  omega
theorem bootTuningLate : ∀ x0, Statement (.bootTuningLate x0) := by
  intro x0 u n h w
  simp [unit, Instr.wf] at h w
  omega
theorem collectionTimeout : ∀ x0, Statement (.collectionTimeout x0) := by
  intro x0 u n h w
  simp [unit, Instr.wf] at h w
  omega
theorem tuneRestart : ∀ x0, Statement (.tuneRestart x0) := by
  intro x0 u n h w
  simp [unit, Instr.wf] at h w
  omega
theorem exciterTrip : ∀ x0, Statement (.exciterTrip x0) := by
  intro x0 u n h w
  simp [unit, Instr.wf] at h w
  omega
theorem classifierCondition : ∀ x0 x1, Statement (.classifierCondition x0 x1) := by
  intro x0 x1 u n h w
  simp [unit, Instr.wf] at h w
  omega
theorem openWireCheck : ∀ x0 x1, Statement (.openWireCheck x0 x1) := by
  intro x0 x1 u n h w
  simp [unit, Instr.wf] at h w
  omega
theorem monitorSettled : ∀ x0, Statement (.monitorSettled x0) := by
  intro x0 u n h w
  simp [unit, Instr.wf] at h w
  omega
theorem selfTestStep : ∀ x0 x1 x2, Statement (.selfTestStep x0 x1 x2) := by
  intro x0 x1 x2 u n h w
  simp [unit, Instr.wf] at h w
  omega
theorem wmSelfTest : ∀ x0, Statement (.wmSelfTest x0) := fun _ _ _ h _ => nomatch h
theorem monitorBothHigh : ∀ x0, Statement (.monitorBothHigh x0) := by
  intro x0 u n h w
  simp [unit, Instr.wf] at h w
  omega
theorem exciterStart : ∀ x0, Statement (.exciterStart x0) := by
  intro x0 u n h w
  simp [unit, Instr.wf] at h w
  omega
theorem pulseStart : ∀ x0 x1, Statement (.pulseStart x0 x1) := by
  intro x0 x1 u n h w
  simp [unit, Instr.wf] at h w
  omega
theorem pulseEnd : ∀ x0, Statement (.pulseEnd x0) := by
  intro x0 u n h w
  simp [unit, Instr.wf] at h w
  omega
theorem sweepHalfPeriod : ∀ x0 x1, Statement (.sweepHalfPeriod x0 x1) := by
  intro x0 x1 u n h w
  simp [unit, Instr.wf] at h w
  omega
theorem periodBoundary : ∀ x0, Statement (.periodBoundary x0) := by
  intro x0 u n h w
  simp [unit, Instr.wf] at h w
  omega
theorem closeout : ∀ x0 x1 x2, Statement (.closeout x0 x1 x2) := fun _ _ _ _ _ h _ => nomatch h
theorem closeoutDeadline : ∀ x0, Statement (.closeoutDeadline x0) := by
  intro x0 u n h w
  simp [unit, Instr.wf] at h w
  omega
theorem voiceSilent : ∀ x0, Statement (.voiceSilent x0) := by
  intro x0 u n h w
  simp [unit, Instr.wf] at h w
  omega
theorem clearAllanCtx : ∀ x0, Statement (.clearAllanCtx x0) := by
  intro x0 u n h w
  simp [unit, Instr.wf] at h w
  omega
theorem clearAllanAll : Statement .clearAllanAll := fun _ _ h _ => nomatch h
theorem clearRestCounts : Statement .clearRestCounts := fun _ _ h _ => nomatch h
theorem analyserStamp : ∀ x0 x1, Statement (.analyserStamp x0 x1) := by
  intro x0 x1 u n h w
  simp [unit, Instr.wf] at h w
  omega
theorem analyserCloseout : ∀ x0 x1, Statement (.analyserCloseout x0 x1) := by
  intro x0 x1 u n h w
  simp [unit, Instr.wf] at h w
  omega
theorem rseqRead : ∀ x0, Statement (.rseqRead x0) := by
  intro x0 u n h w
  simp [unit, Instr.wf] at h w
  omega
theorem captureTimeout : Statement .captureTimeout := fun _ _ h _ => nomatch h
theorem rearmElapsed : Statement .rearmElapsed := fun _ _ h _ => nomatch h
theorem missedTriggerRead : ∀ x0 x1 x2, Statement (.missedTriggerRead x0 x1 x2) := by
  intro x0 x1 x2 u n h w
  simp [unit, Instr.wf] at h w
  omega
theorem captureBufferRead : ∀ x0 x1 x2, Statement (.captureBufferRead x0 x1 x2) := fun _ _ _ _ _ h _ => nomatch h
theorem commandTrigger : ∀ x0, Statement (.commandTrigger x0) := by
  intro x0 u n h w
  simp [unit, Instr.wf] at h w
  omega
theorem clearHistogram : ∀ x0, Statement (.clearHistogram x0) := by
  intro x0 u n h w
  simp [unit, Instr.wf] at h w
  omega
theorem clearTotal : ∀ x0, Statement (.clearTotal x0) := by
  intro x0 u n h w
  simp [unit, Instr.wf] at h w
  omega
theorem clearMissCount : ∀ x0, Statement (.clearMissCount x0) := by
  intro x0 u n h w
  simp [unit, Instr.wf] at h w
  omega
theorem releaseSegment : ∀ x0, Statement (.releaseSegment x0) := by
  intro x0 u n h w
  simp [unit, Instr.wf] at h w
  omega
theorem completeCapture : Statement .completeCapture := fun _ _ h _ => nomatch h
theorem releaseAll : Statement .releaseAll := fun _ _ h _ => nomatch h
theorem localSum : ∀ x0, Statement (.localSum x0) := fun _ _ _ h _ => nomatch h
theorem pipelineCommit : ∀ x0, Statement (.pipelineCommit x0) := fun _ _ _ h _ => nomatch h
theorem zero : Statement .zero := fun _ _ h _ => nomatch h
theorem tare : Statement .tare := fun _ _ h _ => nomatch h
theorem clearTare : Statement .clearTare := fun _ _ h _ => nomatch h
theorem print : Statement .print := fun _ _ h _ => nomatch h
theorem legalResultRead : Statement .legalResultRead := fun _ _ h _ => nomatch h
theorem totPulseEnd : Statement .totPulseEnd := fun _ _ h _ => nomatch h
theorem trackStamp : ∀ x0 x1, Statement (.trackStamp x0 x1) := fun _ _ _ _ h _ => nomatch h
theorem frameDecode : ∀ x0, Statement (.frameDecode x0) := fun _ _ _ h _ => nomatch h
theorem frameLate : Statement .frameLate := fun _ _ h _ => nomatch h
theorem shock : Statement .shock := fun _ _ h _ => nomatch h
theorem dropout : ∀ x0 x1, Statement (.dropout x0 x1) := fun _ _ _ _ h _ => nomatch h
theorem learnRunStart : Statement .learnRunStart := fun _ _ h _ => nomatch h
theorem learnProfile : Statement .learnProfile := fun _ _ h _ => nomatch h
theorem clearProv : Statement .clearProv := fun _ _ h _ => nomatch h
theorem emptyWeakMap : Statement .emptyWeakMap := fun _ _ h _ => nomatch h
theorem reacquire : Statement .reacquire := fun _ _ h _ => nomatch h
theorem laneSignalDetect : ∀ x0 x1, Statement (.laneSignalDetect x0 x1) := by
  intro x0 x1 u n h w
  simp [unit, Instr.wf] at h w
  omega
theorem laneAlign : ∀ x0 x1 x2, Statement (.laneAlign x0 x1 x2) := by
  intro x0 x1 x2 u n h w
  simp [unit, Instr.wf] at h w
  omega
theorem trainingSet : ∀ x0 x1 x2 x3 x4, Statement (.trainingSet x0 x1 x2 x3 x4) := by
  intro x0 x1 x2 x3 x4 u n h w
  simp [unit, Instr.wf] at h w
  omega
theorem trainingTimeout : ∀ x0, Statement (.trainingTimeout x0) := by
  intro x0 u n h w
  simp [unit, Instr.wf] at h w
  omega
theorem trainingRetry : ∀ x0, Statement (.trainingRetry x0) := by
  intro x0 u n h w
  simp [unit, Instr.wf] at h w
  omega
theorem laneSignalLoss : ∀ x0, Statement (.laneSignalLoss x0) := by
  intro x0 u n h w
  simp [unit, Instr.wf] at h w
  omega
theorem codeViolationLimit : ∀ x0 x1 x2 x3, Statement (.codeViolationLimit x0 x1 x2 x3) := by
  intro x0 x1 x2 x3 u n h w
  simp [unit, Instr.wf] at h w
  omega
theorem oneLaneRetrain : ∀ x0, Statement (.oneLaneRetrain x0) := by
  intro x0 u n h w
  simp [unit, Instr.wf] at h w
  omega
theorem frameRx : ∀ x0 x1 x2, Statement (.frameRx x0 x1 x2) := by
  intro x0 x1 x2 u n h w
  simp [unit, Instr.wf] at h w
  omega
theorem ack : ∀ x0 x1, Statement (.ack x0 x1) := by
  intro x0 x1 u n h w
  simp [unit, Instr.wf] at h w
  omega
theorem nak : ∀ x0 x1 x2, Statement (.nak x0 x1 x2) := by
  intro x0 x1 x2 u n h w
  simp [unit, Instr.wf] at h w
  omega
theorem ackTimer : ∀ x0, Statement (.ackTimer x0) := by
  intro x0 u n h w
  simp [unit, Instr.wf] at h w
  omega
theorem replayTimeout : ∀ x0 x1, Statement (.replayTimeout x0 x1) := by
  intro x0 x1 u n h w
  simp [unit, Instr.wf] at h w
  omega
theorem syncSend : ∀ x0 x1 x2, Statement (.syncSend x0 x1 x2) := fun _ _ _ _ _ h _ => nomatch h
theorem timeSend : Statement .timeSend := fun _ _ h _ => nomatch h
theorem healthSend : Statement .healthSend := fun _ _ h _ => nomatch h
theorem cfghashSend : Statement .cfghashSend := fun _ _ h _ => nomatch h
theorem syncRx : ∀ x0 x1 x2, Statement (.syncRx x0 x1 x2) := by
  intro x0 x1 x2 u n h w
  simp [unit, Instr.wf] at h w
  omega
theorem thetaTimeout : Statement .thetaTimeout := fun _ _ h _ => nomatch h
theorem timeRx : Statement .timeRx := fun _ _ h _ => nomatch h
theorem sumRx : Statement .sumRx := fun _ _ h _ => nomatch h
theorem sumWindowEnd : Statement .sumWindowEnd := fun _ _ h _ => nomatch h
theorem resultRx : Statement .resultRx := fun _ _ h _ => nomatch h
theorem resultTimeout : Statement .resultTimeout := fun _ _ h _ => nomatch h
theorem healthRx : Statement .healthRx := fun _ _ h _ => nomatch h
theorem cfghashRx : Statement .cfghashRx := fun _ _ h _ => nomatch h
theorem logRx : Statement .logRx := fun _ _ h _ => nomatch h
theorem opRx : Statement .opRx := fun _ _ h _ => nomatch h
theorem switchRx : Statement .switchRx := fun _ _ h _ => nomatch h
theorem switchAckRx : Statement .switchAckRx := fun _ _ h _ => nomatch h
theorem resetRx : Statement .resetRx := fun _ _ h _ => nomatch h
theorem retireRx : Statement .retireRx := fun _ _ h _ => nomatch h
theorem readmitRx : Statement .readmitRx := fun _ _ h _ => nomatch h
theorem realignReqRx : Statement .realignReqRx := fun _ _ h _ => nomatch h
theorem claimTime : Statement .claimTime := fun _ _ h _ => nomatch h
theorem aliveLapse : ∀ x0, Statement (.aliveLapse x0) := by
  intro x0 u n h w
  simp [unit, Instr.wf] at h w
  omega
theorem retrainPort : ∀ x0, Statement (.retrainPort x0) := by
  intro x0 u n h w
  simp [unit, Instr.wf] at h w
  omega
theorem readmitDevice : ∀ x0, Statement (.readmitDevice x0) := by
  intro x0 u n h w
  simp [unit, Instr.wf] at h w
  omega
theorem choirResetCmd : Statement .choirResetCmd := fun _ _ h _ => nomatch h
theorem clearChoirCounters : Statement .clearChoirCounters := fun _ _ h _ => nomatch h
theorem apply : Statement .apply := fun _ _ h _ => nomatch h
theorem applyLoad : Statement .applyLoad := fun _ _ h _ => nomatch h
theorem cancel : Statement .cancel := fun _ _ h _ => nomatch h
theorem programKeyFuses : Statement .programKeyFuses := fun _ _ h _ => nomatch h
theorem validationDone : ∀ x0, Statement (.validationDone x0) := fun _ _ _ h _ => nomatch h
theorem commitComplete : ∀ x0 x1, Statement (.commitComplete x0 x1) := fun _ _ _ _ h _ => nomatch h
theorem switchingBoundary : Statement .switchingBoundary := fun _ _ h _ => nomatch h
theorem transitionEnd : Statement .transitionEnd := fun _ _ h _ => nomatch h
theorem read : ∀ x0 x1 x2 x3, Statement (.read x0 x1 x2 x3) := fun _ _ _ _ _ _ h _ => nomatch h
theorem fastRead : ∀ x0 x1 x2 x3, Statement (.fastRead x0 x1 x2 x3) := fun _ _ _ _ _ _ h _ => nomatch h
theorem quadRead : ∀ x0 x1 x2 x3, Statement (.quadRead x0 x1 x2 x3) := fun _ _ _ _ _ _ h _ => nomatch h
theorem qioRead : ∀ x0 x1 x2 x3, Statement (.qioRead x0 x1 x2 x3) := fun _ _ _ _ _ _ h _ => nomatch h
theorem write : ∀ x0 x1 x2, Statement (.write x0 x1 x2) := fun _ _ _ _ _ h _ => nomatch h
theorem quadWrite : ∀ x0 x1 x2, Statement (.quadWrite x0 x1 x2) := fun _ _ _ _ _ h _ => nomatch h
theorem qioWrite : ∀ x0 x1 x2, Statement (.qioWrite x0 x1 x2) := fun _ _ _ _ _ h _ => nomatch h
theorem status : Statement .status := fun _ _ h _ => nomatch h
theorem unknownCommand : ∀ x0, Statement (.unknownCommand x0) := fun _ _ _ h _ => nomatch h
theorem unread : ∀ x0, Statement (.unread x0) := by
  intro x0 u n h w
  simp [unit, Instr.wf] at h w
  omega
theorem ptRead : Statement .ptRead := fun _ _ h _ => nomatch h
theorem ptProgram : Statement .ptProgram := fun _ _ h _ => nomatch h
theorem ptErase : Statement .ptErase := fun _ _ h _ => nomatch h
theorem slotErase : Statement .slotErase := fun _ _ h _ => nomatch h
theorem ptDone : ∀ x0, Statement (.ptDone x0) := fun _ _ _ h _ => nomatch h
theorem ptTimeout : Statement .ptTimeout := fun _ _ h _ => nomatch h
theorem extest : Statement .extest := fun _ _ h _ => nomatch h
theorem idcode : Statement .idcode := fun _ _ h _ => nomatch h
theorem samplePreload : Statement .samplePreload := fun _ _ h _ => nomatch h
theorem clamp : Statement .clamp := fun _ _ h _ => nomatch h
theorem highz : Statement .highz := fun _ _ h _ => nomatch h
theorem bypass : Statement .bypass := fun _ _ h _ => nomatch h
theorem privateInstruction : ∀ x0, Statement (.privateInstruction x0) := fun _ _ _ h _ => nomatch h
theorem jtagInstructionLeave : Statement .jtagInstructionLeave := fun _ _ h _ => nomatch h
theorem calendarSecond : Statement .calendarSecond := fun _ _ h _ => nomatch h
theorem setCalendar : Statement .setCalendar := fun _ _ h _ => nomatch h
theorem calWriteApply : Statement .calWriteApply := fun _ _ h _ => nomatch h
theorem kckStop : Statement .kckStop := fun _ _ h _ => nomatch h
theorem logRecordWrite : ∀ x0, Statement (.logRecordWrite x0) := fun _ _ _ h _ => nomatch h
theorem collection : ∀ x0, Statement (.collection x0) := fun _ _ _ h _ => nomatch h
theorem nvmRetry : ∀ x0, Statement (.nvmRetry x0) := fun _ _ _ h _ => nomatch h
theorem totaliserPhase1 : ∀ x0, Statement (.totaliserPhase1 x0) := fun _ _ _ h _ => nomatch h
theorem totaliserPhase2 : ∀ x0, Statement (.totaliserPhase2 x0) := fun _ _ _ h _ => nomatch h
theorem loadRecord : Statement .loadRecord := fun _ _ h _ => nomatch h
theorem loadAuditRecord : Statement .loadAuditRecord := fun _ _ h _ => nomatch h
theorem logLoadDone : ∀ x0, Statement (.logLoadDone x0) := fun _ _ _ h _ => nomatch h
theorem reAdmit : ∀ x0, Statement (.reAdmit x0) := fun _ _ _ h _ => nomatch h
theorem clearSramCorr : Statement .clearSramCorr := fun _ _ h _ => nomatch h
theorem ringLockTimeout : ∀ x0, Statement (.ringLockTimeout x0) := by
  intro x0 u n h w
  simp [unit, Instr.wf] at h w
  omega
theorem hold : Statement .hold := fun _ _ h _ => nomatch h
theorem run : Statement .run := fun _ _ h _ => nomatch h
theorem standby : Statement .standby := fun _ _ h _ => nomatch h
theorem standbyEntryComplete : Statement .standbyEntryComplete := fun _ _ h _ => nomatch h
theorem resume : Statement .resume := fun _ _ h _ => nomatch h
theorem wake : Statement .wake := fun _ _ h _ => nomatch h
theorem resumeStepComplete : ∀ x0 x1, Statement (.resumeStepComplete x0 x1) := fun _ _ _ _ h _ => nomatch h
theorem dieTempMeasure : ∀ x0, Statement (.dieTempMeasure x0) := fun _ _ _ h _ => nomatch h
theorem resetNRise : Statement .resetNRise := fun _ _ h _ => nomatch h
theorem refInEdgesPresent : Statement .refInEdgesPresent := fun _ _ h _ => nomatch h
theorem backupDomainLoss : Statement .backupDomainLoss := fun _ _ h _ => nomatch h

end Sys2Proof.Laws.Operands
end

