-- ==== Sys2Proof/Tests/Slice0.lean ====
section
/-! SUPPORT. Tests of the model: the well-formedness check, the worked examples of the spec and its rules on small states, and for
every statement of Certificates/Slice0/Obligations.lean concrete states that meet its hypotheses. Expected results come from the
spec's examples, tables and rules, named at each test. -/



namespace Sys2Proof.Tests

set_option Elab.async false
set_option maxRecDepth 100000

open Sys2Proof Sys2Proof.Machine Sys2Proof.Machine.Reg

/-- A booted device in RUN on the crystal, SCK open, every notification enabled. -/
def ready : Dev :=
  (((({ Dev.off with power := { PowerSt.off with good := true, steps := 2 ^ 14 - 1 } }.wr POWER_STATUS_STATE 1).wr TB_STATUS_FCK_SRC 0).wr
    TB_STATUS_GATED 0).wr HOST_NOTIFY_EN_KINDS 65535).wr LOG_CFG_FAULT_LEVEL 2

/-- A state with this device and one command waiting. -/
def st0 (d : Dev) : State := { dev := d, pending := [.epochWrap] }

/-- The device after a command on an empty queue. -/
def after (c : Instr) (d : Dev) : Dev :=
  match step { dev := d, pending := [c] } with
  | .next t => t.dev
  | _ => d


/-! The well-formedness check refuses an ill-formed command for each of its conditions, and takes the greatest operands. -/

theorem test_illFormedIsRefused_1 : (
    [.lowWordRead (2 ^ 24), .lowWordRead 1, .registerWrite (2 ^ 24) (2 ^ 32 - 1), .registerWrite 1 (2 ^ 32 - 1),
     .registerWrite 0 (2 ^ 32), .voiceEdge 16 0 [(false, 8), (true, 4088)] 0,
     .voiceEdge 15 1 [(false, 8), (true, 4088)] 0, .voiceEdge 15 coarseMod [(false, 8), (true, 4088)] 0,
     .voiceEdge 15 0 [(false, 4095)] 0, .pendingMarker 16, .stampAccumulate 16 [], .ringDataRead 24 0 [],
     .ringDataRead 23 0x800 [], .ringDataRead 23 1 [], .flush 24, .clearLossCount 24, .clearVoiceCounts 16, .voiceStart 16,
     .scrub 8 511 63 2 32, .scrub 7 512 63 2 32, .scrub 7 511 64 2 32, .scrub 7 511 63 3 32, .scrub 7 511 63 2 33,
     .rowReplacementDone 8 511, .rowReplacementDone 7 512, .powerGoodRise 16 true, .powerGoodFall 0, .powerGoodFall 32,
     .bootStepComplete 0 [], .bootStepComplete 13 []] : List Instr).all (fun i => !i.wf) = true := by
  decide +kernel

theorem test_illFormedIsRefused_2 : (
    [.strapChange 16, .xtalFail 2, .referenceSwitch coarseMod, .overspeed coarseMod,
     .tuningHit 20 (coarseMod - 1) [(false, 8), (true, 3064)] false, .tuningHit 19 coarseMod [(false, 8), (true, 3064)] false,
     .tuningHit 19 (coarseMod - 1) [(false, 3071)] false, .tableSwap 20, .tableExpired 20, .bootTuningLate 20,
     .collectionTimeout 20, .tuneRestart 20, .exciterTrip 8, .classifierCondition 8 2, .classifierCondition 7 3,
     .openWireCheck 8 255, .openWireCheck 7 256, .monitorSettled 8, .selfTestStep 8 65535 65535,
     .selfTestStep 7 65536 65535, .selfTestStep 7 65535 65536, .wmSelfTest 256, .monitorBothHigh 8, .exciterStart 8,
     .pulseStart 8 true, .pulseEnd 8, .sweepHalfPeriod 8 true, .periodBoundary 4, .closeout 65536 [] 65535,
     .closeout 65535 [] 65536] : List Instr).all (fun i => !i.wf) = true := by
  decide +kernel

theorem test_illFormedIsRefused_3 : (
    [.closeoutDeadline 4, .voiceSilent 16, .clearAllanCtx 24, .analyserStamp 4 [], .analyserCloseout 4 [], .rseqRead 4,
     .missedTriggerRead 4 0 [], .missedTriggerRead 3 16 [], .missedTriggerRead 3 1 [], .captureBufferRead 65536 0 [],
     .captureBufferRead 65535 16 [], .captureBufferRead 65535 1 [], .commandTrigger 4, .clearHistogram 4, .clearTotal 4,
     .clearMissCount 4, .releaseSegment 64, .trackStamp 13 [], .dropout coarseMod (coarseMod - 1),
     .dropout (coarseMod - 1) coarseMod, .laneSignalDetect 2 1, .laneSignalDetect 1 2, .laneAlign 2 1 [1023], .laneAlign 1 2 [1023],
     .trainingSet 2 1 [0, 0, 0, 1023] 16 false, .trainingSet 1 2 [0, 0, 0, 1023] 16 false, .trainingSet 1 1 [0, 0, 0] 16 false,
     .trainingSet 1 1 [0, 0, 0, 1024] 16 false, .laneAlign 1 1 [1024], .trainingTimeout 2] : List Instr).all (fun i => !i.wf) = true := by
  decide +kernel

theorem test_illFormedIsRefused_4 : (
    [.trainingRetry 2, .laneSignalLoss 2, .codeViolationLimit 2 1 true [1023], .codeViolationLimit 1 2 true [1023], .oneLaneRetrain 2,
     .frameRx 2 [0, 255] true, .frameRx 1 [256] true, .ack 2 255, .ack 1 256, .nak 2 255 [], .nak 1 256 [], .ackTimer 2,
     .replayTimeout 2 [], .syncRx 2 none false, .aliveLapse 16, .retrainPort 2, .readmitDevice 16, .commitComplete 5 false,
     .read (2 ^ 24) 1 none [], .fastRead (2 ^ 24) 1 none [], .quadRead (2 ^ 24) 1 none [], .qioRead (2 ^ 24) 1 none [],
     .write (2 ^ 24) [0, 255] 1, .write (2 ^ 24 - 1) [256] 1, .quadWrite (2 ^ 24) [0, 255] 1,
     .quadWrite (2 ^ 24 - 1) [256] 1, .qioWrite (2 ^ 24) [0, 255] 1, .qioWrite (2 ^ 24 - 1) [256] 1,
     .unknownCommand 256, .unread 24] : List Instr).all (fun i => !i.wf) = true := by
  decide +kernel

theorem test_illFormedIsRefused_5 : (
    [.privateInstruction 4, .privateInstruction 31, .logRecordWrite 3, .collection 3, .nvmRetry 3, .totaliserPhase1 3,
     .totaliserPhase2 3, .reAdmit 256, .ringLockTimeout 24, .resumeStepComplete 0 1, .resumeStepComplete 9 1,
     .dieTempMeasure 65536, .codeViolationLimit 1 1 true [1024], .syncSend none none 4, .commitComplete 0 false,
     .stampAccumulate 15 [(2 ^ 18, 1)], .ringDataRead 23 0 [(0, 0)], .analyserStamp 3 [(0, 3)], .missedTriggerRead 3 0 [(0, 3)],
     .captureBufferRead 65535 0 [(0, 3)], .localSum [(0, 3)], .pipelineCommit [(0, 3)], .trackStamp 15 [(0, 3)], .frameDecode [(0, 3)],
     .nak 1 255 [(0, 3)], .replayTimeout 1 [(0, 3)], .closeout 65535 [(0, 3)] 65535, .analyserCloseout 3 [(0, 3)],
     .read 0 1 none [(20, 3)]] : List Instr).all (fun i => !i.wf) = true := by
  decide +kernel

theorem test_greatestOperandsAreTaken_1 : (
    [.lowWordRead 0, .registerWrite 0 (2 ^ 32 - 1), .voiceEdge 15 0 [(false, 8), (true, 4088)] 0, .pendingMarker 15,
     .stampAccumulate 15 [], .ringDataRead 23 0 [], .flush 23, .clearLossCount 23, .clearVoiceCounts 15, .voiceStart 15,
     .scrub 7 511 63 2 32, .rowReplacementDone 7 511, .powerGoodRise 15 true, .powerGoodFall 31,
     .bootStepComplete 12 [], .strapChange 15, .xtalFail 1, .referenceSwitch (coarseMod - 1),
     .overspeed (coarseMod - 1), .tuningHit 19 (coarseMod - 1) [(false, 8), (true, 3064)] false, .tableSwap 19,
     .tableExpired 19, .bootTuningLate 19, .collectionTimeout 19, .tuneRestart 19, .exciterTrip 7,
     .classifierCondition 7 2, .openWireCheck 7 255, .monitorSettled 7, .selfTestStep 7 65535 65535] : List Instr).all (fun i => i.wf) = true := by
  decide +kernel

theorem test_greatestOperandsAreTaken_2 : (
    [.wmSelfTest 255, .monitorBothHigh 7, .exciterStart 7, .pulseStart 7 true, .pulseEnd 7, .sweepHalfPeriod 7 true,
     .periodBoundary 3, .closeout 65535 [] 65535, .closeoutDeadline 3, .voiceSilent 15, .clearAllanCtx 23,
     .analyserStamp 3 [], .analyserCloseout 3 [], .rseqRead 3, .missedTriggerRead 3 0 [], .captureBufferRead 65535 0 [],
     .commandTrigger 3, .clearHistogram 3, .clearTotal 3, .clearMissCount 3, .releaseSegment 63, .trackStamp 15 [],
     .dropout (coarseMod - 1) (coarseMod - 1), .laneSignalDetect 1 1, .laneAlign 1 1 [1023], .trainingSet 1 1 [0, 0, 0, 1023] 16 false,
     .trainingTimeout 1, .trainingRetry 1, .laneSignalLoss 1, .codeViolationLimit 1 1 true [1023]] : List Instr).all (fun i => i.wf) = true := by
  decide +kernel

theorem test_greatestOperandsAreTaken_3 : (
    [.oneLaneRetrain 1, .frameRx 1 [0, 255] true, .ack 1 255, .nak 1 255 [], .ackTimer 1, .replayTimeout 1 [],
     .syncRx 1 none false, .aliveLapse 15, .retrainPort 1, .readmitDevice 15, .commitComplete 4 false,
     .read (2 ^ 24 - 1) 1 none [], .fastRead (2 ^ 24 - 1) 1 none [], .quadRead (2 ^ 24 - 1) 1 none [],
     .qioRead (2 ^ 24 - 1) 1 none [], .write (2 ^ 24 - 1) [0, 255] 1, .quadWrite (2 ^ 24 - 1) [0, 255] 1,
     .qioWrite (2 ^ 24 - 1) [0, 255] 1, .unknownCommand 255, .unread 23, .privateInstruction 30, .logRecordWrite 2,
     .collection 2, .nvmRetry 2, .totaliserPhase1 2, .totaliserPhase2 2, .reAdmit 255, .ringLockTimeout 23,
     .resumeStepComplete 8 1, .dieTempMeasure 65535, .syncSend none none 3, .localSum [(2 ^ 18 - 1, 2), (0, 1)]] : List Instr).all (fun i => i.wf) = true := by
  decide +kernel

/-! The worked examples of the spec. -/

/-- Example 0-2: the check code of a digest that begins with 3F A0 7C 12, and its bytes as the host reads them. -/
theorem test_checkCodeOfDigest :
    digestCode (0x3FA07C12 * 2 ^ 224 + 5) = 0x3FA07C12 ∧ bytesLE 4 0x3FA07C12 = [0x12, 0x7C, 0xA0, 0x3F] := by decide +kernel

/-- Example 3-1: 365 days after 2024-03-01, ε = 2.102 19 × 10^-6. -/
theorem test_ageingOfTheBalance :
    dateDays (2025 * 65536 + 3 * 256 + 1) - dateDays (2024 * 65536 + 3 * 256 + 1) = 365 ∧
      f64Lt (f64OfRat 2102185 1000000000000) (ageEps 1200000 350000 30 365) = true ∧
      f64Lt (ageEps 1200000 350000 30 365) (f64OfRat 2102195 1000000000000) = true := by decide +kernel

/-- Example 3-2, step 8: a gap of 21,925 FCK is 70,160 SCK. -/
theorem test_gapOfTheSwitch :
    (after (.windowCheck 1024) { (ready.wr TB_STATUS_GATED 1) with
      time := { ready.time with step := 7, target := 2, gap := 21925, coarse := 5, opened := true } }).time.coarse
      = 70165 := by decide +kernel

/-- Example 4-2: the bytes of a DECIM rise marker of VOICE[8] with SEQ 19,499 and EVCNT 225. -/
theorem test_wordOfAMarker :
    bytesLE 16 (voiceWord 8 19499 { id := 0, ext := 0x28F5C001 / 1024, fine := 1, evcnt := 225, edge := 0, flags := 5, m := 0, k := 0 }) =
      [0x01, 0xC0, 0xF5, 0x28, 0, 0, 0, 0, 0xE1, 0, 0, 0, 0xA8, 0x00, 0x2B, 0x4C] := by decide +kernel

/-- Example 5-1: the first four entries of a tuning table. -/
theorem test_firstEntriesOfATable :
    (tuneTable [(0, 1000), (1, 1100), (3, 980)] 4 0 0) = [(0, 31), (1, 97), (2, 131), (3, 162)] := by decide +kernel

/-- Stamps of Example 7-1: the first at `phi`, one each `step` units. -/
def stamps (phi step : Nat) : Nat → Sums
  | 0 => Sums.zero
  | n + 1 => (stamps phi step n).add (n + 1) (phi + n * step)

/-- Example 7-1: the sums of 2,500 stamps of a 12,500 Hz resonator, and its frequency. -/
theorem test_sumsOfTheBalance :
    let s := stamps 1000000000 4194304000 2500
    (s.n, s.sn, s.snn, s.den) = (2500, 3126250, 5211458750, 3255207812500) ∧ s.num = 4194304000 * s.den ∧
      s.freq 1 f64Zero = f64OfInt 12500 := by decide +kernel

/-- Example 7-1: the ratio of the two resonators is the binary64 nearest to 1.048 576. -/
theorem test_ratioOfTheBalance :
    pairRatio (stamps 7 4000000000 2490) (stamps 9 4194304000 2375) 1 1 = f64OfRat 1048576 1000000 := by decide +kernel

/-- Example 13-2: the OP_DONE notification of the tare. -/
theorem test_notificationOfTheTare :
    bytesLE 16 (notifyWord (480000003200 * 1024) 3 0xB2 0x0BB71700 0x0241) =
      [0x00, 0x00, 0x32, 0xEB, 0x08, 0xBF, 0x01, 0x00, 0x03, 0xB2, 0x00, 0x17, 0xB7, 0x0B, 0x41, 0x02] := by decide +kernel

/-- Example 14-1: 2100 is not a leap year; 2100-02-29 is refused; the days of the ageing law. -/
theorem test_endOfFebruary2100 :
    calNext 0x0834021C00173B3B = 0x0834030100000000 ∧ calPossible 0x0834021D000C0000 = false ∧
      dateDays 0x08340301 - dateDays (2024 * 65536 + 3 * 256 + 1) = 27758 := by decide +kernel

/-- Example 14-1, step 5: the write is rejected with reason 1, fault 0x0A03. -/
theorem test_rejectedCalendarWrite :
    let d := after .setCalendar ((ready.wr CAL_SET_CAL 0x0834021D000C0000).wr CAL_STATUS_VALID 1)
    (d.rd CAL_STATUS_REJECT, d.rd CAL_STATUS_REJ_REASON, d.rd FAULT_STATUS_LAST_CODE) = (1, 1, 0x0A03) := by decide +kernel

/-- Example 17-1: the identity words a host reads. -/
theorem test_identityWords :
    (after (.read 0 1 none []) ready).host.out = bytesLE 4 0x02B30D16 ∧
      (after (.read 4 1 none []) ready).host.out = bytesLE 4 0x00030142 := by decide +kernel

/-- Example 17-1: the IDCODE a boundary-scan controller expects. -/
theorem test_idcodeOfTheDevice : Dev.off.idcodeBits = 0x30000000 + 0x00D16000 + 0x00000567 := by decide +kernel

/-! The rules on small states. -/

/-- R77: an even window of equal bits holds no edge; a solid change is an edge at the middle of the doubtful bits. -/
theorem test_edgesOfAWindow :
    decodeWindow 2048 [(true, 4096)] = [] ∧ decodeWindow 2048 [(false, 1500), (true, 2596)] = [.edge 476 true] := by decide +kernel

/-- R80: a voice with K = 2 keeps every fourth count; EVTOTAL counts each. -/
theorem test_prescaledEdge :
    let v := { Voice.fresh with evcnt := 2 ^ 32 - 1, lastStamp := some 4 }
    let d := after (.voiceEdge 3 6 [(false, 1500), (true, 2596)] 0) (((ready.wr (VOICE_STATUS_STATE 3) 2).wr (VOICE_STATUS_K 3) 2).putVoice 3 v)
    ((d.voice 3).evcnt, d.rd (VOICE_EVTOTAL_COUNT 3), (d.voice 3).fifo.length) = (0, 1, 1) := by decide +kernel

/-- R4, R286: a write of SCRATCH is read back; a write frame with a read-only word has code 1. -/
theorem test_scratchIsReadBack :
    let d := after (.write 0x18 (bytesLE 4 0x89ABCDEF) 0) ready
    d.rd SCRATCH_DATA = 0x89ABCDEF ∧ (after (.write 0 [0, 0, 0, 0] 0) ready).rd HOST_STATUS_LAST_CODE = 1 := by decide +kernel

/-- A misaligned read has code 7 and answers 0xFF. -/
theorem test_misalignedRead :
    let d := after (.fastRead 2 1 none []) ready
    (d.host.out, d.rd HOST_STATUS_LAST_CODE) = ([0xFF, 0xFF, 0xFF, 0xFF], 7) := by decide +kernel

/-- A trip drives the safe level and counts. -/
theorem test_tripOfARunningExciter :
    let d := after (.exciterTrip 7) (ready.wr (EXC_STATUS_STATE 7) 2)
    ((d.exc 7).hold, d.rd (EXC_STATUS_STATE 7), d.rd (EXC_TRIP_COUNT_COUNT 7)) = (true, 3, 1) := by decide +kernel

/-- A captured command trigger: the segment keeps what was collected. -/
theorem test_commandTrigger :
    (after (.commandTrigger 3) (((ready.wr CAP_STATUS_STATE 1).wr CAP_CFG_TRIG_MASK 8).wr CAP_PRE_VALUE 4)).rd CAP_STATUS_STATE = 3 := by
  decide +kernel

/-- The empty queue: one FCK is 16/5 SCK. -/
theorem test_oneFck :
    (match step { dev := ready, pending := [] } with
      | .next t => (t.dev.time.fck, t.dev.time.coarse, t.dev.time.fifths)
      | _ => (0, 0, 0)) = (1, 3, 1) := by decide +kernel

/-- HOLD shows error cause 7 and RUN returns. -/
theorem test_holdAndRun :
    let d := after .hold ready
    (d.mode, d.rd LR_STATUS_ERR_CAUSE, (after .run d).mode) = (2, 7, 1) := by decide +kernel

/-- A power-good rise latches the straps and counts as the cause. -/
theorem test_powerGoodRise :
    let d := after (.powerGoodRise 9 false) Dev.off
    (d.rd STRAP_STATUS_ADDR, d.rd RESET_CAUSE_POR, d.mode) = (9, 1, 0) := by decide +kernel

/-- The table gives no row any bits, so no word spells a command. -/
theorem test_noWordSpellsACommand : decodeTableWord 8 0 = none ∧ decodeTableWord 0 0 = none := by decide


/-! For every statement with hypotheses: concrete states and operands that meet them all together, clause by clause. -/

theorem witness_StepRunsTheFrontCommand : Instr.wf (.flush 24) = false := by decide

/-- Power off, on RCK, and on the crystal at the greatest place of the coarse counter without a wrap. -/
def idle (d : Dev) : State := { dev := d, pending := [] }

theorem witness_IdleStepPassesOneFck_1 : (idle Dev.off).pending = [] ∧ (idle Dev.off).dev.power.good = false := by decide +kernel

theorem witness_IdleStepPassesOneFck_2 :
    let s := idle (ready.wr TB_STATUS_FCK_SRC 3)
    s.pending = [] ∧ s.dev.power.good = true ∧ s.dev.rd TB_STATUS_FCK_SRC ≠ 0 := by decide +kernel

theorem witness_IdleStepPassesOneFck_3 :
    let s := idle { ready with time := { ready.time with coarse := coarseMod - 5, fifths := 4 } }
    s.pending = [] ∧ s.dev.power.good = true ∧ s.dev.sckOpen = true ∧ s.dev.time.fifths < 5 ∧ s.dev.time.coarse + 4 < coarseMod := by
  decide +kernel

theorem witness_CommandsKeepWhatTheyMayNotChange :
    ∃ t, exec .vbatLow (st0 ready) = .next t ∧ (t.dev.rd SUPPLY_EVENT_VBAT_LOW, (st0 ready).dev.rd SUPPLY_EVENT_VBAT_LOW) = (1, 0) :=
  ⟨_, rfl, by decide +kernel⟩

theorem witness_StepKeepsCanonicalForm :
    (st0 (ready.wr SCRATCH_DATA 5)).dev.canonical = true ∧ ∃ t, step (st0 (ready.wr SCRATCH_DATA 5)) = .next t :=
  ⟨by decide +kernel, _, rfl⟩

theorem witness_KeyFusesAreForGood_1 :
    let s := st0 { ready with fuses := { keySet := true, keyHash := 3 } }
    s.dev.fuses.keySet = true ∧ ∃ t, step s = .next t :=
  ⟨by decide +kernel, _, rfl⟩

theorem witness_KeyFusesAreForGood_2 :
    let s := st0 ((ready.wr PIN_LEVEL_SEAL_OPEN 1).wr FUSE_STAGE 7)
    ∃ t, exec .programKeyFuses s = .next t ∧ t.dev.fuses ≠ s.dev.fuses :=
  ⟨_, rfl, by decide +kernel⟩

/-- An image body whose CFG section sets one word. -/
def imgWith (a v : Nat) : List Nat :=
  copies 0x114 0 ++ bytesLE 4 0x200 ++ bytesLE 4 8 ++ copies (0x200 - 0x11C) 0 ++ bytesLE 4 a ++ bytesLE 4 v

theorem witness_RefusedSettingsFailValidation_1 :
    let b : List Nat := []
    fieldRead (imageTable b (imageWords b)) TUNE_CFG_AGE_MAX = 0 := by
  intro b
  rw [imageTable_read b _ (by decide +kernel)]
  decide +kernel

theorem witness_RefusedSettingsFailValidation_2 :
    let b := imgWith LOG_CFG_FAULT_LEVEL.word 3
    fieldRead (imageTable b (imageWords b)) LOG_CFG_FAULT_LEVEL = 3 := by
  intro b
  rw [imageTable_read b _ (by decide +kernel)]
  decide +kernel

theorem witness_RefusedSettingsFailValidation_3 :
    let b : List Nat := []
    fieldRead (imageTable b (imageWords b)) STRIKE_CFG_RETIRE = 0 := by
  intro b
  rw [imageTable_read b _ (by decide +kernel)]
  decide +kernel


namespace WitnessVoices

def st (d : Dev) : State := st0 d

def s5 : State := st (((ready.wr (RING_WR_PTR_INDEX 23) 100).wr (RING_FILL_WORDS 23) 7).wr (RING_LOSS_COUNT_COUNT 23) 9)

theorem witness_RingAndVoiceCommands_1 :
    let s : State := s5
    let n : Nat := 23
    s.dev.hostOpen = true ∧ n < 24 := by
  decide +kernel

theorem witness_RingAndVoiceCommands_2 :
    let s : State := s5
    let n : Nat := 23
    s.dev.hostOpen ∧ n < 24 := by
  decide +kernel

theorem witness_RingAndVoiceCommands_3 :
    let s : State := s5
    let n : Nat := 15
    s.dev.hostOpen ∧ n < 16 := by
  decide +kernel

def s1 : State := st (ready.wr (VOICE_STATUS_STATE 3) 2)

theorem witness_EdgeIsCountedAndStamped_1 :
    let s : State := s1
    let n : Nat := 3
    let base : Nat := 6
    let pos : Nat := 476
    let runs : List (Bool × Nat) := [(false,1500),(true,2596)]
    let r : Bool := true
    let v : Voice := s1.dev.voice 3
    s.dev.alive ∧ n < 16 ∧ s.dev.counting n ∧ base % 2 = 0 ∧ base < coarseMod ∧ runBits runs = 4096 ∧ decodeWindow 2048 runs = [.edge pos r] ∧
    selected (s.dev.rd (VOICE_CTRL_EDGE n)) r ∧ s.dev.voice n = v ∧ s.dev.inputShows n runs ∧ s.dev.sckOpen ∧
    s.dev.pastBoundary n (s.dev.rd EPOCH_COUNT_COUNT * coarseMod + base) = false ∧ s.dev.rd (VOICE_DECIM_CFG_KMIN n) ≤ s.dev.rd (VOICE_STATUS_K n) ∧
    s.dev.rd (VOICE_STATUS_K n) ≤ s.dev.rd (VOICE_DECIM_CFG_KMAX n) ∧ v.pendEpoch = none ∧ v.pendDecim = none ∧ v.pendOverrun = none ∧
    v.riseDue = false ∧ v.slots < 23 ∧ v.tooClose ((s.dev.rd EPOCH_COUNT_COUNT * coarseMod + base + pos / 1024) * 1024 + pos % 1024) = false := by
  decide +kernel

def s1c : State := st ((ready.wr (VOICE_STATUS_STATE 15) 4).wr TB_STATUS_GATED 1)

theorem witness_EdgeIsCountedAndStamped_2 :
    let s : State := s1c
    let n : Nat := 15
    let base : Nat := 2^54-2
    let pos : Nat := 1023
    let runs : List (Bool × Nat) := [(false,2047),(true,2049)]
    let r : Bool := true
    let v : Voice := s1c.dev.voice 15
    s.dev.alive ∧ n < 16 ∧ s.dev.counting n ∧ base % 2 = 0 ∧ base < coarseMod ∧ runBits runs = 4096 ∧ decodeWindow 2048 runs = [.edge pos r] ∧
    selected (s.dev.rd (VOICE_CTRL_EDGE n)) r ∧ s.dev.voice n = v ∧ s.dev.inputShows n runs ∧ s.dev.sckOpen = false := by
  decide +kernel

def s1k : State := st (((ready.wr (VOICE_STATUS_STATE 3) 2).wr (VOICE_STATUS_K 3) 2).putVoice 3 {Voice.fresh with evcnt := 2^32-1, lastStamp := some 4})

theorem witness_EdgeIsCountedAndStamped_3 :
    let s : State := s1k
    let n : Nat := 3
    let base : Nat := 6
    let pos : Nat := 476
    let runs : List (Bool × Nat) := [(false,1500),(true,2596)]
    let r : Bool := true
    let v : Voice := s1k.dev.voice 3
    s.dev.alive ∧ n < 16 ∧ s.dev.counting n ∧ base % 2 = 0 ∧ base < coarseMod ∧ runBits runs = 4096 ∧ decodeWindow 2048 runs = [.edge pos r] ∧
    selected (s.dev.rd (VOICE_CTRL_EDGE n)) r ∧ s.dev.voice n = v ∧ s.dev.inputShows n runs ∧ s.dev.sckOpen ∧
    s.dev.pastBoundary n (s.dev.rd EPOCH_COUNT_COUNT * coarseMod + base) = false ∧ s.dev.rd (VOICE_DECIM_CFG_KMIN n) ≤ s.dev.rd (VOICE_STATUS_K n) ∧
    s.dev.rd (VOICE_STATUS_K n) ≤ s.dev.rd (VOICE_DECIM_CFG_KMAX n) ∧ v.pendEpoch = none ∧ v.pendDecim = none ∧ v.pendOverrun = none ∧
    v.riseDue = false ∧ v.slots < 23 ∧ v.tooClose ((s.dev.rd EPOCH_COUNT_COUNT * coarseMod + base + pos / 1024) * 1024 + pos % 1024) = false := by
  decide +kernel

theorem witness_EdgeIsCountedAndStamped_4 :
    let s : State := st ((ready.wr (VOICE_STATUS_STATE 3) 2).wr (VOICE_CTRL_SRC 3) 1)
    let n : Nat := 3
    let base : Nat := 6
    let pos : Nat := 476
    let runs : List (Bool × Nat) := [(false,1500),(true,2596)]
    let r : Bool := true
    let v : Voice := s.dev.voice 3
    s.dev.alive ∧ n < 16 ∧ s.dev.counting n ∧ base % 2 = 0 ∧ base < coarseMod ∧ runBits runs = 4096 ∧ decodeWindow 2048 runs = [.edge pos r] ∧
    selected (s.dev.rd (VOICE_CTRL_EDGE n)) r ∧ s.dev.voice n = v ∧ s.dev.inputShows n runs = false := by
  decide +kernel

theorem witness_EdgeIsCountedAndStamped_5 :
    let s : State := st ((ready.wr (VOICE_STATUS_STATE 3) 2).wr (TIMER_STATUS_RUNNING 0) 1)
    let n : Nat := 3
    let base : Nat := 6
    let pos : Nat := 476
    let runs : List (Bool × Nat) := [(false,1500),(true,2596)]
    let r : Bool := true
    let v : Voice := s.dev.voice 3
    s.dev.alive ∧ n < 16 ∧ s.dev.counting n ∧ base % 2 = 0 ∧ base < coarseMod ∧ runBits runs = 4096 ∧ decodeWindow 2048 runs = [.edge pos r] ∧
    selected (s.dev.rd (VOICE_CTRL_EDGE n)) r ∧ s.dev.voice n = v ∧ s.dev.inputShows n runs ∧ s.dev.sckOpen ∧
    s.dev.pastBoundary n (s.dev.rd EPOCH_COUNT_COUNT * coarseMod + base) := by
  decide +kernel

def s1l : State := st (((ready.wr (VOICE_STATUS_STATE 3) 2).wr (VOICE_STATUS_K 3) 2).putVoice 3 {Voice.fresh with evcnt := 5})

def e2 : Entry := {id := 4, ext := 77, fine := 3, evcnt := 9, edge := 0, flags := 3, m := 0, k := 1}

def s2 : State := st (ready.putVoice 15 {Voice.fresh with pendEpoch := some e2, pendDecim := some e2, runtNext := true})

theorem witness_MarkersAndVoiceStart_1 :
    let s : State := s2
    let n : Nat := 15
    let v : Voice := s2.dev.voice 15
    let e := e2
    n < 16 ∧ s.dev.voice n = v ∧ v.slots < 32 ∧ v.pendEpoch = some e := by
  decide +kernel

def s2b : State := st (ready.putVoice 15 {Voice.fresh with  pendDecim := some e2, runtNext := true})

theorem witness_MarkersAndVoiceStart_2 :
    let s : State := s2b
    let n : Nat := 15
    let v : Voice := s2b.dev.voice 15
    let e := e2
    n < 16 ∧ s.dev.voice n = v ∧ v.slots < 32 ∧ v.pendEpoch = none ∧ v.pendDecim = some e := by
  decide +kernel

def s2c : State := st (ready.putVoice 15 {Voice.fresh with  pendOverrun := some e2, runtNext := true})

theorem witness_MarkersAndVoiceStart_3 :
    let s : State := s2c
    let n : Nat := 15
    let v : Voice := s2c.dev.voice 15
    let e := e2
    n < 16 ∧ s.dev.voice n = v ∧ v.slots < 32 ∧ v.pendEpoch = none ∧ v.pendDecim = none ∧ v.pendOverrun = some e := by
  decide +kernel

theorem witness_MarkersAndVoiceStart_4 :
    let s : State := st (ready.wr (VOICE_STATUS_STATE 15) 2)
    s.dev.alive ∧ s.dev.sckOpen ∧ s.dev.rd EPOCH_COUNT_COUNT < 65535 := by
  decide +kernel

def s3 : State := st ((ready.wr (VOICE_STATUS_STATE 2) 1).wr (TUNE_STATUS_STATE 2) 1)

theorem witness_MarkersAndVoiceStart_5 :
    let s : State := s3
    let n : Nat := 2
    let v : Voice := s3.dev.voice 2
    s.dev.alive ∧ n < 16 ∧ s.dev.rd (VOICE_STATUS_STATE n) = 1 ∧ s.dev.sckOpen ∧ s.dev.rd (TUNE_STATUS_STATE n) = 1 ∧ s.dev.viovOk n ∧
    s.dev.voice n = v := by
  decide +kernel

def w4 : WEntry := {ring := 23, words := [12345], done := 0, producer := 0, epoch := 0, since := 0}

def s4 : State := st { (ready.wr (RING_WR_PTR_INDEX 23) 255) with writer := {Writer.fresh with waiting := [w4, w4]}}

theorem witness_RingWriterAndBrokenLock_1 :
    let s : State := s4
    let w : WEntry := w4
    let x : Nat := 12345
    let rest : List WEntry := [w4]
    s.dev.alive ∧ s.dev.mode ≠ 3 ∧ s.dev.writer.waiting = w :: rest ∧ w.words = [x] ∧ w.ring < 24 ∧ (∀ n < 16, (s.dev.voice n).fifo.length < 16) ∧
    s.dev.rd (RING_FILL_WORDS w.ring) < s.dev.ringCap w.ring ∧ (s.dev.ring w.ring).gapNext = false := by
  decide +kernel

def s6 : State := st (ready.putRing 20 {Ring.fresh with lock := some {owner := 9, epoch := 0, words := 1}})

theorem witness_RingWriterAndBrokenLock_2 :
    let s : State := s6
    let n : Nat := 20
    let l : Lock := {owner := 9, epoch := 0, words := 1}
    n < 24 ∧ (s.dev.ring n).lock = some l ∧ s.dev.rd (RING_LOSS_COUNT_COUNT n) < 2 ^ 32 - 1 ∧ s.dev.rd RING_LOCK_BREAKS < 65535 ∧
    s.dev.bears srcDevice := by
  decide +kernel

def s7 : State := st ((ready.wr (RING_FILL_WORDS 23) 3).putRing 23 {Ring.fresh with ents := [2,1], cells := [(0,99)]})

theorem witness_ReadsHaveTheirEffect_1 :
    let s : State := s7
    let n : Nat := 23
    let off : Nat := 0
    n < 24 ∧ off < 0x800 ∧ s.dev.readServed (0x100800 + 0x1000 * n + off) ∧ off % 16 = 0 ∧ s.dev.rd (RING_FILL_WORDS n) ≠ 0 := by
  decide +kernel

theorem witness_ReadsHaveTheirEffect_2 :
    let s : State := s2
    let n : Nat := 23
    let off : Nat := 16
    n < 24 ∧ off < 0x800 ∧ s.dev.readServed (0x100800 + 0x1000 * n + off) ∧ off % 16 = 0 ∧ s.dev.rd (RING_FILL_WORDS n) = 0 := by
  decide +kernel

def s7b : State := st (((ready.wr (RING_FILL_WORDS 23) 3).wr (RING_RD_PTR_INDEX 23) 255).putRing 23 {Ring.fresh with ents := [2,1], snapOk := true, back := [1]})

theorem witness_ReadsHaveTheirEffect_3 :
    let s : State := s7b
    let n : Nat := 23
    let off : Nat := 12
    n < 24 ∧ off < 0x800 ∧ s.dev.readServed (0x100800 + 0x1000 * n + off) ∧ off % 16 = 12 ∧ (s.dev.ring n).snapOk := by
  decide +kernel

theorem witness_ReadsHaveTheirEffect_4 :
    let s : State := s7b
    let a : Nat := (VOICE_EVTOTAL_COUNT 0).word
    let f : Fld := VOICE_EVTOTAL_COUNT 0
    a < 2 ^ 24 ∧ a % 4 = 0 ∧ s.dev.readServed a ∧ fieldsAt a = some [f] ∧ f.word = a ∧ 32 < f.width ∧ f.width ≤ 64 ∧
    ¬ (0x6100 ≤ a ∧ a < 0x6300 ∧ 0x44 ≤ a % 0x80) := by
  decide +kernel

theorem witness_ReadsHaveTheirEffect_5 :
    let s : State := st (ready.putAna 3 {Ana.fresh with miss := [7,8], missOk := true})
    let a : Nat := 3
    let off : Nat := 0
    a < 4 ∧ off < 16 ∧ off % 4 = 0 ∧ s.dev.readServed (0x6600 + 0x10 * a + off) ∧ off = 0 := by
  decide +kernel

theorem witness_ReadsHaveTheirEffect_6 :
    let s : State := st (ready.putAna 3 {Ana.fresh with miss := [7,8], missOk := true})
    let a : Nat := 3
    let off : Nat := 12
    a < 4 ∧ off < 16 ∧ off % 4 = 0 ∧ s.dev.readServed (0x6600 + 0x10 * a + off) ∧ off = 12 ∧ (s.dev.ana a).missOk := by
  decide +kernel

theorem witness_ReadsHaveTheirEffect_7 :
    let s : State := st (ready.putCap {Cap.fresh with buf := [(65535,7)]})
    let i : Nat := 65535
    let off : Nat := 0
    i < 65536 ∧ off = 0 ∧ s.dev.readServed (0x300000 + 0x10 * i + off) := by
  decide +kernel

theorem witness_ReadsHaveTheirEffect_8 :
    let s : State := st0 ready
    let w : Nat := 2 ^ 18 - 1
    let n : Nat := 23
    let off : Nat := 2044
    let a : Nat := 0x100800 + 0x1000 * n + off
    let c : Instr := .ringDataRead n off [(w, 1)]
    (c, a) ∈ [(Instr.ringDataRead n off [(w, 1)], 0x100800 + 0x1000 * n + off), (Instr.missedTriggerRead n off [(w, 1)], 0x6600 + 0x10 * n + off), (Instr.captureBufferRead n off [(w, 1)], 0x300000 + 0x10 * n + off)] ∧
    c.wf ∧ s.dev.readServed a := by
  decide +kernel

theorem witness_ReadsHaveTheirEffect_9 :
    let s : State := st0 ready
    let w : Nat := 2 ^ 18 - 1
    let n : Nat := 3
    let off : Nat := 12
    let a : Nat := 0x6600 + 0x10 * n + off
    let c : Instr := .missedTriggerRead n off [(w, 1)]
    (c, a) ∈ [(Instr.ringDataRead n off [(w, 1)], 0x100800 + 0x1000 * n + off), (Instr.missedTriggerRead n off [(w, 1)], 0x6600 + 0x10 * n + off), (Instr.captureBufferRead n off [(w, 1)], 0x300000 + 0x10 * n + off)] ∧
    c.wf ∧ s.dev.readServed a := by
  decide +kernel

theorem witness_ReadsHaveTheirEffect_10 :
    let s : State := st0 ready
    let w : Nat := 2 ^ 18 - 1
    let n : Nat := 65535
    let off : Nat := 12
    let a : Nat := 0x300000 + 0x10 * n + off
    let c : Instr := .captureBufferRead n off [(w, 1)]
    (c, a) ∈ [(Instr.ringDataRead n off [(w, 1)], 0x100800 + 0x1000 * n + off), (Instr.missedTriggerRead n off [(w, 1)], 0x6600 + 0x10 * n + off), (Instr.captureBufferRead n off [(w, 1)], 0x300000 + 0x10 * n + off)] ∧
    c.wf ∧ s.dev.readServed a := by
  decide +kernel

end WitnessVoices

namespace WitnessTimebase

def clk (d : Dev) (st tgt : Nat) : State := st0 { d with time := { d.time with step := st, target := tgt, coarse := 1000, gap := 500, opened := true } }

theorem witness_ReferenceSwitchTakesItsSteps_1 :
    let s : State := clk ready 3 2
    let c : Nat := 2^54-1
    s.dev.clocked ∧ s.dev.time.step = 3 ∧ c < coarseMod := by
  decide +kernel

theorem witness_ReferenceSwitchTakesItsSteps_2 :
    let s : State := clk ready 5 2
    s.dev.clocked ∧ s.dev.time.step = 5 := by
  decide +kernel

theorem witness_ReferenceSwitchTakesItsSteps_3 :
    let s : State := clk (ready.wr TB_STATUS_GATED 1) 7 2
    let c : Nat := 1029
    s.dev.clocked ∧ s.dev.time.step = 7 ∧ s.dev.time.target ≠ 1 ∧ 1018 < c ∧ c < 1030 ∧ s.dev.firstOpening = false ∧
    s.dev.time.coarse + s.dev.time.gap * 16 / 5 < coarseMod ∧ (∀ t < 4, s.dev.rd (TIMER_STATUS_RUNNING t) = 0) := by
  decide +kernel

theorem witness_ReferenceSwitchTakesItsSteps_4 :
    let s : State := clk (ready.wr TB_STATUS_GATED 1) 7 2
    let c : Nat := 1030
    s.dev.clocked ∧ s.dev.time.step = 7 ∧ s.dev.time.target ≠ 1 ∧ (c ≤ 1018 ∨ 1030 ≤ c) ∧ s.dev.time.repeated = false := by
  decide +kernel

theorem witness_ReferenceSwitchTakesItsSteps_5 :
    let s : State := clk (ready.wr TB_STATUS_GATED 1) 7 2
    let c : Nat := 1018
    s.dev.clocked ∧ s.dev.time.step = 7 ∧ s.dev.time.target ≠ 1 ∧ (c ≤ 1018 ∨ 1030 ≤ c) ∧ s.dev.time.repeated = false := by
  decide +kernel

theorem witness_FailedSwitchFallsBackOrIsSafe_1 :
    let s : State := clk (ready.wr TB_STATUS_GATED 1) 5 1
    s.dev.clocked ∧ s.dev.time.step = 5 ∧ s.dev.time.target = 1 ∧ s.dev.bears srcSpll := by
  decide +kernel

theorem witness_FailedSwitchFallsBackOrIsSafe_2 :
    let s : State := clk (ready.wr TB_STATUS_GATED 1) 7 2
    s.dev.clocked ∧ s.dev.time.step = 7 ∧ s.dev.time.target ≠ 1 := by
  decide +kernel

theorem witness_FailedSwitchFallsBackOrIsSafe_3 :
    let s : State := clk ready 0 2
    let c : Nat := 414
    s.dev.clocked ∧ 414 ≤ c ∧ c < coarseMod ∧ s.dev.sckOpen ∧ s.dev.bears srcSpll ∧ s.dev.time.step = 0 := by
  decide +kernel

theorem witness_FailedSwitchFallsBackOrIsSafe_4 :
    let s : State := clk ready 0 2
    let c : Nat := 1
    s.dev.alive ∧ s.dev.rd TB_STATUS_FCK_SRC = 0 ∧ s.dev.mode ≠ 5 ∧ c < 2 := by
  decide +kernel

def ox (n k : Nat) : State := st0 { ((ready.wr TB_STATUS_OCXO_STATE n).wr TB_STATUS_STAB_COUNT k) with time := { Timing.fresh with lastY := some 0#64 } }

theorem witness_OcxoIsCheckedAndReported_1 :
    let s : State := ox 2 29
    let m : Nat := 1000
    let n : Nat := 125000
    let p : F64 := 0#64
    s.dev.clocked ∧ s.dev.rd TB_STATUS_OCXO_STATE = 2 ∧ s.dev.time.lastY = some p ∧ f64Le (f64Abs (s.dev.windowOffset m n)) (f64OfRat 1 2000000) ∧
    f64Lt (f64Abs (f64Sub (s.dev.windowOffset m n) p)) (f64OfRat 1 200000000) := by
  decide +kernel

theorem witness_OcxoIsCheckedAndReported_2 :
    let s : State := ox 2 28
    let m : Nat := 1000
    let n : Nat := 125000
    let p : F64 := 0#64
    s.dev.clocked ∧ s.dev.rd TB_STATUS_OCXO_STATE = 2 ∧ s.dev.time.lastY = some p ∧ f64Le (f64Abs (s.dev.windowOffset m n)) (f64OfRat 1 2000000) ∧
    f64Lt (f64Abs (f64Sub (s.dev.windowOffset m n) p)) (f64OfRat 1 200000000) := by
  decide +kernel

theorem witness_OcxoIsCheckedAndReported_3 :
    let s : State := ox 2 28
    let m : Nat := 1000
    let n : Nat := 125001
    s.dev.clocked ∧ s.dev.rd TB_STATUS_OCXO_STATE = 2 ∧ f64Le (f64Abs (s.dev.windowOffset m n)) (f64OfRat 1 2000000) = false := by
  decide +kernel

theorem witness_OcxoIsCheckedAndReported_4 :
    let s : State := ox 1 3
    s.dev.clocked ∧ s.dev.rd TB_STATUS_OCXO_STATE = 1 ∧ s.dev.rd TB_CFG_RDY_USE = 0 := by
  decide +kernel

theorem witness_OcxoIsCheckedAndReported_5 :
    let s : State := ox 3 3
    s.dev.hostOpen ∧ s.dev.rd TB_STATUS_OCXO_STATE = 3 := by
  decide +kernel

theorem witness_OcxoIsCheckedAndReported_6 :
    let s : State := ox 3 3
    s.dev.clocked ∧ s.dev.rd TB_STATUS_OCXO_STATE = 3 ∧ s.dev.time.step = 0 ∧ s.dev.rd TB_STATUS_SOURCE = 0 ∧ s.dev.rd TB_STATUS_REFOUT_SRC ≠ 2 ∧
    s.dev.bears srcOcxo := by
  decide +kernel

theorem witness_OcxoIsCheckedAndReported_7 :
    let s : State := st0 (((ox 3 3).dev.wr PIN_LEVEL_OCXO_RDY 1).wr TB_CFG_RDY_USE 1)
    s.dev.clocked ∧ s.dev.rd TB_STATUS_OCXO_STATE = 3 ∧ s.dev.time.step = 0 ∧ s.dev.rd TB_STATUS_SOURCE = 0 ∧ s.dev.rd PIN_LEVEL_OCXO_RDY = 1 ∧
    s.dev.rd TB_CFG_RDY_USE = 1 ∧ s.dev.bears srcOcxo := by
  decide +kernel

theorem witness_OcxoIsCheckedAndReported_8 :
    let s : State := ox 3 3
    (s.dev.clocked = false ∨ s.dev.time.refEdges = false ∨ s.dev.rd TB_STATUS_OCXO_STATE ≠ 1) := by
  decide +kernel

theorem witness_OcxoIsCheckedAndReported_9 :
    let s : State := st0 { (ox 1 3).dev with time := {Timing.fresh with refEdges := true}}
    s.dev.clocked ∧ s.dev.time.refEdges ∧ s.dev.rd TB_STATUS_OCXO_STATE = 1 := by
  decide +kernel

theorem witness_OcxoIsCheckedAndReported_10 :
    let s : State := st0 { ((ox 2 3).dev.wr TB_CFG_WARMUP_MAX 9) with time := {Timing.fresh with warmStarted := true}}
    s.dev.clocked ∧ s.dev.time.warmStarted ∧ s.dev.time.warmRep = false ∧ s.dev.rd TB_CFG_WARMUP_MAX ≠ 0 ∧ s.dev.time.warmDone = false := by
  decide +kernel

end WitnessTimebase

namespace WitnessTuning

def tn (c : Nat) : Dev := ready.wr (TUNE_STATUS_MODE c) 1

def run1 : List (Bool × Nat) := [(true,2047),(false,1025)]

theorem witness_TuningCollectsAndTests_1 :
    let s : State := st0 (tn 19)
    let c : Nat := 19
    let slot : Nat := 7
    let runs : List (Bool × Nat) := [(true,3072)]
    s.dev.alive ∧ c < 20 ∧ slot < coarseMod ∧ runBits runs = 3072 ∧ s.dev.sckOpen ∧ s.dev.rd (TUNE_STATUS_MODE c) ≠ 0 ∧
    s.dev.blocked c slot false = false ∧ decodeWindow 1024 runs = [] ∧ s.dev.rd (TUNE_DISCARD_COUNT c) < 65535 := by
  decide +kernel

theorem witness_TuningCollectsAndTests_2 :
    let s : State := st0 (tn 19)
    let c : Nat := 19
    let slot : Nat := 7
    let pos : Nat := 1023
    let runs : List (Bool × Nat) := run1
    let r : Bool := false
    s.dev.alive ∧ c < 20 ∧ slot < coarseMod ∧ runBits runs = 3072 ∧ s.dev.sckOpen ∧ s.dev.rd (TUNE_STATUS_MODE c) ≠ 0 ∧
    s.dev.blocked c slot false = false ∧ decodeWindow 1024 runs = [.edge pos r] ∧ s.dev.rd (TUNE_HITS_COUNT c) + 1 < 2 ^ 20 := by
  decide +kernel

def h2 : Store := (List.range 1024).map (fun i => (i,1024))

theorem witness_TuningCollectsAndTests_3 :
    let s : State := st0 (((tn 19).wr (TUNE_HITS_COUNT 19) (2^20-1)).putTun 19 {Tune.fresh with hist := h2})
    let c : Nat := 19
    let slot : Nat := 7
    let pos : Nat := 1023
    let runs : List (Bool × Nat) := run1
    let r : Bool := false
    let h : Store := Store.write h2 1023 1025
    s.dev.alive ∧ 16 ≤ c ∧ c < 20 ∧ slot < coarseMod ∧ runBits runs = 3072 ∧ s.dev.sckOpen ∧ s.dev.rd (TUNE_STATUS_MODE c) ≠ 0 ∧
    s.dev.blocked c slot false = false ∧ decodeWindow 1024 runs = [.edge pos r] ∧ s.dev.rd (TUNE_HITS_COUNT c) + 1 = 2 ^ 20 ∧
    s.dev.rd (TUNE_STATUS_STATE c) = 0 ∧ h = Store.write (s.dev.tun c).hist (pos % 1024) ((Store.read (s.dev.tun c).hist (pos % 1024) + 1) % 2 ^ 21) ∧
    emptyBins h ≤ 8 ∧ widestBin h ≤ 4096 := by
  decide +kernel

theorem witness_TuningCollectsAndTests_4 :
    let s : State := st0 (ready.wr (TUNE_STATUS_MODE 19) 2)
    let c : Nat := 19
    let slot : Nat := 7
    let runs : List (Bool × Nat) := run1
    let busy : Bool := true
    c < 20 ∧ slot < coarseMod ∧ runBits runs = 3072 ∧ s.dev.blocked c slot busy := by
  decide +kernel

theorem witness_TuningTablesAndTheirTimers_1 :
    let s : State := st0 (((tn 19).wr (TUNE_STATUS_PENDING 19) 1).putTun 19 {Tune.fresh with cand := h2})
    let c : Nat := 19
    s.dev.alive ∧ c < 20 ∧ s.dev.rd (TUNE_STATUS_PENDING c) = 1 ∧ s.dev.ownerPeriods c = false ∧ s.dev.sckOpen := by
  decide +kernel

theorem witness_TuningTablesAndTheirTimers_2 :
    let s : State := st0 (((tn 3).wr (TUNE_STATUS_PENDING 3) 1).putTun 3 {Tune.fresh with cand := h2})
    let c : Nat := 3
    s.dev.alive ∧ c < 20 ∧ s.dev.rd (TUNE_STATUS_PENDING c) = 1 ∧ s.dev.ownerPeriods c = false ∧ s.dev.sckOpen := by
  decide +kernel

theorem witness_TuningTablesAndTheirTimers_3 :
    let s : State := st0 ((tn 3).wr (TUNE_STATUS_STATE 3) 1)
    let c : Nat := 3
    s.dev.alive ∧ c < 20 ∧ s.dev.rd (TUNE_STATUS_STATE c) = 1 := by
  decide +kernel

theorem witness_TuningTablesAndTheirTimers_4 :
    let s : State := st0 ((tn 19).putTun 19 {Tune.fresh with boot := true})
    let c : Nat := 19
    s.dev.alive ∧ c < 20 ∧ (s.dev.tun c).boot ∧ (s.dev.tun c).lateRep = false ∧ s.dev.rd (TUNE_STATUS_MODE c) ≠ 0 ∧ s.dev.bears (tuneOwner c) := by
  decide +kernel

theorem witness_TuningTablesAndTheirTimers_5 :
    let s : State := st0 (((tn 15).putTun 15 {Tune.fresh with boot := true}).wr (VOICE_STATUS_STATE 15) 1)
    let c : Nat := 15
    s.dev.alive ∧ c < 16 ∧ (s.dev.tun c).boot ∧ s.dev.rd (TUNE_STATUS_MODE c) ≠ 0 ∧ s.dev.rd (STRIKE_RETIRED c) = 0 ∧
    s.dev.rd (VOICE_STATUS_STATE c) = 1 := by
  decide +kernel

theorem witness_TuningTablesAndTheirTimers_6 :
    let s : State := st0 ((tn 15).wr (VOICE_STATUS_STATE 15) 1)
    let c : Nat := 15
    s.dev.hostOpen ∧ c < 20 ∧ s.dev.collects c := by
  decide +kernel

end WitnessTuning

namespace WitnessMonitors

def sts (d : Dev) (x st : Nat) := d.wr (EXC_STATUS_STATE x) st

theorem witness_TripHoldsTheExciter_1 :
    let s : State := st0 (sts ready 7 1)
    let x : Nat := 7
    x < 8 ∧ s.dev.power.good ∧ s.dev.matrixActive ∧ s.dev.rd (EXC_TRIP_COUNT_COUNT x) < 65535 ∧
    (s.dev.rd (EXC_STATUS_STATE x) = 1 ∨ s.dev.rd (EXC_STATUS_STATE x) = 2) := by
  decide +kernel

theorem witness_TripHoldsTheExciter_2 :
    let s : State := st0 (sts ready 0 2)
    let x : Nat := 0
    x < 8 ∧ s.dev.power.good ∧ s.dev.matrixActive ∧ s.dev.rd (EXC_TRIP_COUNT_COUNT x) < 65535 ∧
    (s.dev.rd (EXC_STATUS_STATE x) = 1 ∨ s.dev.rd (EXC_STATUS_STATE x) = 2) := by
  decide +kernel

def px (x : Nat) (e : Exc) (md st : Nat) : Dev := ((ready.putExc x e).wr (EXC_CFG_MODE x) md).wr (EXC_STATUS_STATE x) st

def e1 : Exc := {Exc.fresh with running := true, hold := true}

theorem witness_TripHoldsTheExciter_3 :
    let s : State := st0 (px 7 e1 1 3)
    let x : Nat := 7
    let e : Exc := e1
    x < 8 ∧ s.dev.alive ∧ s.dev.mode = 1 ∧ s.dev.exc x = e ∧ e.running ∧ e.high = false ∧ e.afterHold = false ∧ s.dev.rd (EXC_CFG_MODE x) = 1 ∧
    e.pulse = 0 ∧ s.dev.rd (EXC_TRIP_SEL x) = 0 ∧ s.dev.rd (EXC_STATUS_STATE x) = 3 := by
  decide +kernel

theorem witness_TripHoldsTheExciter_4 :
    let s : State := st0 (px 7 e1 1 3)
    let x : Nat := 7
    let e : Exc := e1
    x < 8 ∧ s.dev.alive ∧ s.dev.mode = 1 ∧ s.dev.exc x = e ∧ e.running ∧ e.high = false ∧ e.afterHold = false ∧ s.dev.rd (EXC_CFG_MODE x) = 1 ∧
    e.pulse = 0 ∧ s.dev.rd (EXC_TRIP_SEL x) = 0 ∧ s.dev.rd (EXC_STATUS_STATE x) = 3 := by
  decide +kernel

def e2 : Exc := {Exc.fresh with running := true, high := true, pulse := 1}

def d2 : Dev := ((((px 7 e2 1 2).wr (EXC_WIDTH_FCK 7) 20).wr (WM_CFG_QUAL_EN 5) 1).wr (WM_CFG_QUAL_EXC 5) 7).wr (WM_STATUS_STATE 5) 4

def d3 : Dev := ((((px 7 e2 1 2).wr (EXC_WIDTH_FCK 7) 20)))

theorem witness_TripHoldsTheExciter_5 :
    let s : State := st0 d2
    let x : Nat := 7
    let below : Nat := 255
    let e : Exc := e2
    let m := 5
    x < 8 ∧ below < 256 ∧ s.dev.monitorsOn ∧ s.dev.exc x = e ∧ e.running ∧ e.high ∧ e.hold = false ∧ e.failed = 0 ∧ s.dev.rd (EXC_CFG_MODE x) < 3 ∧
    s.dev.rd (EXC_TRIP_BLANK x) < s.dev.rd (EXC_WIDTH_FCK x) ∧ s.dev.rd (EXC_TRIP_SEL x) = 0 ∧ (∀ j < 8, s.dev.rd (WM_CFG_QUAL_EN j) ≠ 0 → j = m) ∧
    s.dev.rd (WM_CFG_QUAL_EN m) = 1 ∧ m < 8 ∧ s.dev.rd (WM_CFG_QUAL_EXC m) = x ∧ s.dev.rd (WM_STATUS_STATE m) = 4 ∧ below.testBit m ∧
    s.dev.rd (WM_LOSS_MASK_VOICES m) = 0 ∧ s.dev.rd (WM_COND_COUNT_COUNT m) < 65535 ∧ s.dev.rd (EXC_STATUS_CHECK_FAIL x) < 2 := by
  decide +kernel

theorem witness_TripHoldsTheExciter_6 :
    let s : State := st0 d3
    let x : Nat := 7
    let below : Nat := 255
    let e : Exc := e2
    x < 8 ∧ below < 256 ∧ s.dev.monitorsOn ∧ s.dev.exc x = e ∧ e.running ∧ e.high ∧ e.hold = false ∧ e.failed = 0 ∧ s.dev.rd (EXC_CFG_MODE x) < 3 ∧
    s.dev.rd (EXC_TRIP_BLANK x) < s.dev.rd (EXC_WIDTH_FCK x) ∧ (∀ j < 8, s.dev.rd (WM_CFG_QUAL_EN j) = 0) ∧ s.dev.rd (EXC_TRIP_SEL x) = 0 := by
  decide +kernel

def e3 : Exc := {Exc.fresh with startDue := true}

def e4 : Exc := {e2 with startDue := true}

theorem witness_ExciterFollowsItsSchedule_1 :
    let s : State := st0 (px 7 e3 1 1)
    let x : Nat := 7
    let e : Exc := e3
    x < 8 ∧ s.dev.alive ∧ s.dev.mode = 1 ∧ s.dev.exc x = e ∧ e.startDue ∧ s.dev.rd (EXC_STATUS_STATE x) = 1 ∧ e.running = false := by
  decide +kernel

theorem witness_ExciterFollowsItsSchedule_2 :
    let s : State := st0 (px 7 e4 1 2)
    let x : Nat := 7
    let e : Exc := e4
    x < 8 ∧ s.dev.alive ∧ s.dev.mode = 1 ∧ s.dev.exc x = e ∧ e.startDue ∧ s.dev.rd (EXC_STATUS_STATE x) = 2 ∧ e.running ∧
    s.dev.rd (EXC_SKIP_COUNT_COUNT x) < 65535 ∧ e.skipRep = none := by
  decide +kernel

theorem witness_ExciterFollowsItsSchedule_3 :
    let s : State := st0 (px 7 e2 1 2)
    let x : Nat := 7
    let e : Exc := e2
    x < 8 ∧ s.dev.alive ∧ s.dev.mode = 1 ∧ s.dev.exc x = e ∧ e.running ∧ e.high ∧ s.dev.rd (EXC_TRIP_SEL x) = 0 ∧
    (s.dev.rd (EXC_CFG_MODE x) = 1 ∨ s.dev.rd (EXC_CFG_MODE x) = 2 ∧ e.pulse = s.dev.rd (EXC_COUNT_PULSES x)) ∧ s.dev.rd (EXC_STATUS_STATE x) = 2 ∧
    e.hold = false ∧ e.afterHold = false := by
  decide +kernel

theorem witness_ExciterFollowsItsSchedule_4 :
    let s : State := st0 (px 7 e2 2 2)
    let x : Nat := 7
    let e : Exc := e2
    x < 8 ∧ s.dev.alive ∧ s.dev.mode = 1 ∧ s.dev.exc x = e ∧ e.running ∧ e.high ∧ s.dev.rd (EXC_TRIP_SEL x) = 0 ∧
    (s.dev.rd (EXC_CFG_MODE x) = 1 ∨ s.dev.rd (EXC_CFG_MODE x) = 2 ∧ e.pulse = s.dev.rd (EXC_COUNT_PULSES x)) ∧ s.dev.rd (EXC_STATUS_STATE x) = 2 ∧
    e.hold = false ∧ e.afterHold = false := by
  decide +kernel

theorem witness_ExciterFollowsItsSchedule_5 :
    let s : State := st0 ((px 7 e2 2 2).wr (EXC_COUNT_PULSES 7) 4)
    let x : Nat := 7
    let e : Exc := e2
    x < 8 ∧ s.dev.alive ∧ s.dev.mode = 1 ∧ s.dev.exc x = e ∧ e.running ∧ e.high ∧ s.dev.rd (EXC_TRIP_SEL x) = 0 ∧ s.dev.rd (EXC_CFG_MODE x) = 2 ∧
    e.pulse ≠ s.dev.rd (EXC_COUNT_PULSES x) := by
  decide +kernel

theorem witness_ExciterFollowsItsSchedule_6 :
    let s : State := st0 (px 7 e2 3 2)
    let x : Nat := 7
    let e : Exc := e2
    x < 8 ∧ s.dev.alive ∧ s.dev.mode = 1 ∧ s.dev.exc x = e ∧ e.running ∧ e.high ∧ s.dev.rd (EXC_TRIP_SEL x) = 0 ∧ s.dev.rd (EXC_CFG_MODE x) = 3 ∧
    0 < e.pulse := by
  decide +kernel

def e5 : Exc := {e2 with high := false}

def sw (a b : Nat) : Dev := ((px 7 e5 3 2).wr (EXC_SWEEP_CYCLES 7) a).wr (EXC_SWEEP_STEPS 7) b

theorem witness_ExciterFollowsItsSchedule_7 :
    let s : State := st0 (sw 2 1)
    let x : Nat := 7
    let e : Exc := e5
    x < 8 ∧ s.dev.alive ∧ s.dev.mode = 1 ∧ s.dev.exc x = e ∧ e.running ∧ e.high = false ∧ s.dev.rd (EXC_CFG_MODE x) = 3 ∧ 0 < e.pulse ∧
    e.cycle + 1 < s.dev.rd (EXC_SWEEP_CYCLES x) := by
  decide +kernel

theorem witness_ExciterFollowsItsSchedule_8 :
    let s : State := st0 (sw 1 2)
    let x : Nat := 7
    let e : Exc := e5
    x < 8 ∧ s.dev.alive ∧ s.dev.mode = 1 ∧ s.dev.exc x = e ∧ e.running ∧ e.high = false ∧ s.dev.rd (EXC_CFG_MODE x) = 3 ∧ 0 < e.pulse ∧
    s.dev.rd (EXC_SWEEP_CYCLES x) ≤ e.cycle + 1 ∧ s.dev.rd (EXC_STATUS_STEP x) + 1 < s.dev.rd (EXC_SWEEP_STEPS x) ∧
    s.dev.rd (EXC_STATUS_STEP x) < 1023 := by
  decide +kernel

theorem witness_ExciterFollowsItsSchedule_9 :
    let s : State := st0 (sw 1 2)
    let x : Nat := 7
    let e : Exc := e5
    x < 8 ∧ s.dev.alive ∧ s.dev.mode = 1 ∧ s.dev.exc x = e ∧ e.running ∧ e.high = false ∧ s.dev.rd (EXC_CFG_MODE x) = 3 ∧ 0 < e.pulse ∧
    s.dev.rd (EXC_SWEEP_CYCLES x) ≤ e.cycle + 1 ∧ s.dev.rd (EXC_STATUS_STEP x) + 1 < s.dev.rd (EXC_SWEEP_STEPS x) ∧
    s.dev.rd (EXC_STATUS_STEP x) < 1023 := by
  decide +kernel

theorem witness_ExciterFollowsItsSchedule_10 :
    let s : State := st0 (sw 1 1)
    let x : Nat := 7
    let e : Exc := e5
    x < 8 ∧ s.dev.alive ∧ s.dev.mode = 1 ∧ s.dev.exc x = e ∧ e.running ∧ e.high = false ∧ s.dev.rd (EXC_CFG_MODE x) = 3 ∧ 0 < e.pulse ∧
    s.dev.rd (EXC_SWEEP_CYCLES x) ≤ e.cycle + 1 ∧ s.dev.rd (EXC_SWEEP_STEPS x) ≤ s.dev.rd (EXC_STATUS_STEP x) + 1 ∧ s.dev.rd (EXC_STATUS_STATE x) = 2 := by
  decide +kernel

def wm (m st : Nat) (w : Wm) : Dev := ((ready.putWm m w).wr (WM_STATUS_STATE m) st).each (List.range 8) (fun d x => d.wr (EXC_TRIP_SEL x) 0xFFFF)

theorem witness_MonitorsAreTestedAndClassified_1 :
    let s : State := st0 (wm 7 1 {Wm.fresh with due := true})
    let m : Nat := 7
    m < 8 ∧ s.dev.monitorsOn ∧ s.dev.rd (WM_STATUS_STATE m) = 1 := by
  decide +kernel

theorem witness_MonitorsAreTestedAndClassified_2 :
    let s : State := st0 (wm 7 1 Wm.fresh)
    let m : Nat := 7
    m < 8 ∧ s.dev.monitorsOn ∧ s.dev.rd (WM_STATUS_STATE m) = 1 := by
  decide +kernel

theorem witness_MonitorsAreTestedAndClassified_3 :
    let s : State := st0 (wm 7 2 {Wm.fresh with step := 1})
    let m : Nat := 7
    let up : Nat := 0
    let lo : Nat := 65535
    m < 8 ∧ up < 65536 ∧ lo < 65536 ∧ s.dev.monitorsOn ∧ (s.dev.rd (WM_STATUS_STATE m) = 2 ∨ s.dev.rd (WM_STATUS_STATE m) = 3) ∧
    firstBad up lo (stepExpect (s.dev.wm m).step).1 (stepExpect (s.dev.wm m).step).2 = none ∧ (s.dev.wm m).step < 4 := by
  decide +kernel

theorem witness_MonitorsAreTestedAndClassified_4 :
    let s : State := st0 (wm 7 2 {Wm.fresh with step := 1})
    let m : Nat := 7
    let up : Nat := 1
    let lo : Nat := 65535
    let i := 0
    m < 8 ∧ up < 65536 ∧ lo < 65536 ∧ s.dev.monitorsOn ∧ (s.dev.rd (WM_STATUS_STATE m) = 2 ∨ s.dev.rd (WM_STATUS_STATE m) = 3) ∧
    firstBad up lo (stepExpect (s.dev.wm m).step).1 (stepExpect (s.dev.wm m).step).2 = some i ∧ (s.dev.wm m).step < 8 ∧
    s.dev.rd (WM_STATUS_STATE m) = 2 ∧ s.dev.bears (0x18 + m) := by
  decide +kernel

theorem witness_MonitorsAreTestedAndClassified_5 :
    let s : State := st0 (wm 7 3 {Wm.fresh with step := 4})
    let m : Nat := 7
    let up : Nat := 32767
    let lo : Nat := 65535
    let i := 15
    m < 8 ∧ up < 65536 ∧ lo < 65536 ∧ s.dev.monitorsOn ∧ (s.dev.rd (WM_STATUS_STATE m) = 2 ∨ s.dev.rd (WM_STATUS_STATE m) = 3) ∧
    firstBad up lo (stepExpect (s.dev.wm m).step).1 (stepExpect (s.dev.wm m).step).2 = some i ∧ (s.dev.wm m).step < 8 ∧
    s.dev.rd (WM_STATUS_STATE m) = 3 ∧ s.dev.rd (STRIKE_RETIRED (0x18 + m)) = 0 := by
  decide +kernel

theorem witness_MonitorsAreTestedAndClassified_6 :
    let s : State := st0 (wm 7 3 {Wm.fresh with step := 4})
    let m : Nat := 7
    let up : Nat := 65535
    let lo : Nat := 65535
    m < 8 ∧ up < 65536 ∧ lo < 65536 ∧ s.dev.monitorsOn ∧ (s.dev.rd (WM_STATUS_STATE m) = 2 ∨ s.dev.rd (WM_STATUS_STATE m) = 3) ∧
    firstBad up lo (stepExpect (s.dev.wm m).step).1 (stepExpect (s.dev.wm m).step).2 = none ∧ 4 ≤ (s.dev.wm m).step := by
  decide +kernel

theorem witness_MonitorsAreTestedAndClassified_7 :
    let s : State := st0 (wm 7 4 Wm.fresh)
    let mask : Nat := 128
    mask < 256 ∧ s.dev.hostOpen ∧ s.dev.mode ≠ 3 ∧ s.dev.testAllowed mask := by
  decide +kernel

theorem witness_MonitorsAreTestedAndClassified_8 :
    let s : State := st0 (wm 7 4 Wm.fresh)
    let m : Nat := 7
    m < 8 ∧ s.dev.monitorsOn ∧ s.dev.rd (WM_STATUS_STATE m) = 4 ∧ s.dev.bears (0x18 + m) := by
  decide +kernel

def cc : Dev := ((wm 7 4 Wm.fresh).wr (WM_LOSS_MASK_VOICES 7) 0x8000).wr (WM_CFG_CLASS_COND 7) 3

theorem witness_MonitorsAreTestedAndClassified_9 :
    let s : State := st0 cc
    let m : Nat := 7
    let n : Nat := 15
    let level : Nat := 1
    m < 8 ∧ n < 16 ∧ (level = 1 ∨ level = 2) ∧ s.dev.monitorsOn ∧ s.dev.rd (WM_STATUS_STATE m) = 4 ∧ s.dev.rd (WM_LOSS_MASK_VOICES m) = 2 ^ n ∧
    s.dev.rd (WM_CFG_CLASS_COND m) = 3 ∧ s.dev.rd (WM_CFG_QUAL_EN m) = 0 ∧ s.dev.rd (WM_COND_COUNT_COUNT m) < 65535 ∧ s.dev.bears n ∧
    Store.read s.dev.faults.struck n = 0 ∧ s.dev.rd (STRIKE_STRIKES n) < 15 ∧
    (s.dev.wm m).rep301 ≠ some (s.dev.rd (TIMER_PCOUNT_COUNT (s.dev.timerOf n))) := by
  decide +kernel

theorem witness_MonitorsAreTestedAndClassified_10 :
    let s : State := st0 cc
    let m : Nat := 7
    let n : Nat := 15
    let level : Nat := 2
    m < 8 ∧ n < 16 ∧ (level = 1 ∨ level = 2) ∧ s.dev.monitorsOn ∧ s.dev.rd (WM_STATUS_STATE m) = 4 ∧ s.dev.rd (WM_LOSS_MASK_VOICES m) = 2 ^ n ∧
    s.dev.rd (WM_CFG_CLASS_COND m) = 3 ∧ s.dev.rd (WM_CFG_QUAL_EN m) = 0 ∧ s.dev.rd (WM_COND_COUNT_COUNT m) < 65535 ∧ s.dev.bears n ∧
    Store.read s.dev.faults.struck n = 0 ∧ s.dev.rd (STRIKE_STRIKES n) < 15 ∧
    (s.dev.wm m).rep301 ≠ some (s.dev.rd (TIMER_PCOUNT_COUNT (s.dev.timerOf n))) := by
  decide +kernel

end WitnessMonitors

namespace WitnessFit

def tb (t : Nat) (tm : Timer) : Dev := ((ready.wr (TIMER_STATUS_RUNNING t) 1).putTimer t tm).wr (TIMER_LENGTH_US t) 1000

def withV (d : Dev) (v t : Nat) : Dev := ((d.wr (FIT_VOICE_CFG_EN v) 1).wr (FIT_VOICE_CFG_TIMER v) t).wr (VOICE_STATUS_STATE v) 2

theorem witness_PeriodBoundaryEndsAndBegins_1 :
    let s : State := st0 (withV (tb 3 { Timer.fresh with next := 2^40 + 5}) 15 3)
    let t : Nat := 3
    t < 4 ∧ s.dev.alive ∧ s.dev.sckOpen ∧ s.dev.rd (TIMER_STATUS_RUNNING t) = 1 ∧ s.dev.time.planned = false ∧ s.dev.rd APPLY_STATUS_STATE = 0 ∧
    s.dev.choir.resetAt = none := by
  decide +kernel

theorem witness_PeriodBoundaryEndsAndBegins_2 :
    let s : State := st0 ((withV (tb 0 { Timer.fresh with next := 2^39 + 5, prev := some 7}) 15 0).wr (TIMER_PCOUNT_COUNT 0) (2^32-1))
    let t : Nat := 0
    t < 4 ∧ s.dev.alive ∧ s.dev.sckOpen ∧ s.dev.rd (TIMER_STATUS_RUNNING t) = 1 ∧ s.dev.time.planned = false ∧ s.dev.rd APPLY_STATUS_STATE = 0 ∧
    s.dev.choir.resetAt = none := by
  decide +kernel

def en (e m fl ev: Nat) : Entry := { id := 1, ext := e, fine := 0, evcnt := ev, edge := 0, flags := fl, m := m, k := 0}

def fv : FitVoice := {FitVoice.fresh with base := some 1000, n0 := 2^32-2, lastN := 1}

def fd (e : Entry) : Dev := ((ready.putVoice 15 { ready.voice 15 with fitTap := [e, en 0 0 0 1] }).putFitVoice 15 fv)

theorem witness_StampsEnterTheSums_1 :
    let s : State := st0 (fd (en 3000 77 0 5))
    let v : Nat := 15
    let b : Nat := 1000
    let raw : Nat := 7
    let n : Nat := 7
    let e : Entry := en 3000 77 0 5
    let rest : List Entry := [en 0 0 0 1]
    let f : FitVoice := fv
    v < 16 ∧ s.dev.alive ∧ (s.dev.voice v).fitTap = e :: rest ∧ s.dev.fitVoice v = f ∧ e.flags.testBit 7 = false ∧ e.flags.testBit 0 = false ∧
    e.flags.testBit 6 = false ∧ f.base = some b ∧ raw = (e.evcnt + 2 ^ 32 - f.n0) % 2 ^ 32 ∧ n = f.lastN + (raw + 2 ^ 40 - f.lastN) % 2 ^ 32 := by
  decide +kernel

def it : Item := ⟨15, 1, 0, 3000, 4, 0, 15, 15, none, none, ⟨3,6,6,14,14⟩, Sums.zero, Ivl.zero, 1, 1, 3, 0, 0, 0, 0, 0, false, false, 0, f64Zero, false⟩

theorem witness_StampsEnterTheSums_2 :
    let s : State := st0 {fd (en 3000 77 0x81 5) with items := [it]}
    let v : Nat := 15
    let e : Entry := en 3000 77 0x81 5
    let rest : List Entry := [en 0 0 0 1]
    let f : FitVoice := fv
    v < 16 ∧ s.dev.alive ∧ (s.dev.voice v).fitTap = e :: rest ∧ s.dev.fitVoice v = f ∧ e.flags.testBit 7 := by
  decide +kernel

def cd (i : Item) : State := st0 (ready.putItems [i, it])

theorem witness_CloseoutWritesItsEntry_1 :
    let s : State := cd it
    let i : Item := it
    let rest : List Item := [it]
    s.dev.alive ∧ s.dev.mode ≠ 5 ∧ s.dev.items = i :: rest ∧ s.dev.gone i.va i.waitA ∧ s.dev.gone i.vb i.waitB ∧ i.tooFew = false ∧ i.ctx < 16 ∧
    i.causes = 0 := by
  decide +kernel

def ip : Item := {it with ctx := 23, va := 3, vb := 4, a := ⟨3,6,6,14,14⟩, b := ⟨3,6,6,14,14⟩}

theorem witness_CloseoutWritesItsEntry_2 :
    let s : State := cd ip
    let i : Item := ip
    let rest : List Item := [it]
    s.dev.alive ∧ s.dev.mode ≠ 5 ∧ s.dev.items = i :: rest ∧ s.dev.gone i.va i.waitA ∧ s.dev.gone i.vb i.waitB ∧ i.tooFew = false ∧ 16 ≤ i.ctx ∧
    i.ctx < 24 ∧ i.causes = 0 := by
  decide +kernel

def ir : Item := {it with causes := 0x1810}

theorem witness_CloseoutWritesItsEntry_3 :
    let s : State := cd ir
    let i : Item := ir
    let rest : List Item := [it]
    let r := 12
    s.dev.alive ∧ s.dev.mode ≠ 5 ∧ s.dev.items = i :: rest ∧ s.dev.gone i.va i.waitA ∧ s.dev.gone i.vb i.waitB ∧ i.tooFew = false ∧ i.ctx < 16 ∧
    firstReason i.causes = r ∧ r ≠ 0 ∧ i.causes.testBit 2 = false ∧ s.dev.rd (FIT_VOICE_REST_COUNT_COUNT i.ctx) < 65535 := by
  decide +kernel

theorem witness_CloseoutWritesItsEntry_4 :
    let s : State := cd it
    let t : Nat := 1
    let h : Item := it
    let rest : List Item := [it]
    t < 4 ∧ s.dev.alive ∧ s.dev.mode ≠ 5 ∧ s.dev.items = h :: rest ∧ h.timer = t ∧ h.ctx < 16 ∧ s.dev.anaItems = [] ∧
    (∀ i ∈ rest, i.timer = t → h.stop ≤ i.stop) ∧ s.dev.bears srcDevice := by
  decide +kernel

theorem witness_CloseoutWritesItsEntry_5 :
    let s : State := st0 ((withV ready 15 1).wr (FIT_VOICE_SILENCE_MAX_VALUE 15) 1)
    let v : Nat := 15
    v < 16 ∧ s.dev.alive ∧ s.dev.counting v ∧ s.dev.rd (FIT_VOICE_SILENCE_MAX_VALUE v) ≠ 0 ∧ s.dev.rd (FIT_VOICE_STATUS_SILENT v) = 0 ∧ s.dev.bears v := by
  decide +kernel

def al : Dev := {ready with allan := (List.range 384).map (fun j => (j, {Allan.fresh with count := 3})), allanFrom := []}

theorem witness_ClearCommandsClear_1 :
    let s : State := st0 al
    s.dev.hostOpen := by
  decide +kernel

theorem witness_ClearCommandsClear_2 :
    let s : State := st0 al
    let c : Nat := 23
    c < 24 ∧ s.dev.hostOpen := by
  decide +kernel

theorem witness_ClearCommandsClear_3 :
    let s : State := st0 ((al.wr (FIT_VOICE_REST_COUNT_COUNT 15) 3).wr (FIT_PAIR_REST_COUNT_VALUE 7) 4)
    s.dev.hostOpen := by
  decide +kernel

end WitnessFit

namespace WitnessCapture

def en (e m edge : Nat) : Entry := { id := 1, ext := e, fine := 0, evcnt := 1, edge := edge, flags := 0, m := m, k := 0}

def tk : Taken := ⟨3, 1, en 100 20 0⟩

def x1 : Ana := {Ana.fresh with qt := [tk, tk], arm := some 6000000}

def x2 : Ana := {Ana.fresh with qs := [tk], begun := some 6000000}

def ad (a md : Nat) (x : Ana) : Dev := (((ready.putAna a x).wr (ANA_CFG_MODE a) md).wr (ANA_CFG_VOICE_T a) 1)

def late (d : Dev) : Dev := {d with time := {d.time with coarse := 200}}

theorem witness_AnalyserMeasures_1 :
    let s : State := st0 (late ((ad 3 1 x1).wr (ANA_CFG_EDGE_T 3) 2))
    let a : Nat := 3
    let ts : Nat := 6000000
    let x : Ana := x1
    let t : Taken := tk
    let rest : List Taken := [tk]
    a < 4 ∧ s.dev.measuring ∧ s.dev.ana a = x ∧ x.tq = [] ∧ x.qs = [] ∧ x.qt = t :: rest ∧ x.ahead = [] ∧ x.arm = some ts ∧ ts ≤ t.entry.tuned ∧
    t.entry.flags = 0 ∧ t.entry.k = 0 ∧ s.dev.rd (ANA_CFG_MODE a) = 1 ∧ s.dev.anaTwo a ∧ s.dev.noneEarlier (s.dev.rd (ANA_CFG_VOICE_S a)) t.entry ∧
    edgeSelected (s.dev.rd (ANA_CFG_EDGE_T a)) t.entry.edge ∧ s.dev.rd (ANA_CFG_HIST_EN a) = 0 ∧ s.dev.rd (ANA_TRIG_COND a) = 0 := by
  decide +kernel

theorem witness_AnalyserMeasures_2 :
    let s : State := st0 (late ((ad 3 3 x2).wr (ANA_CFG_EDGE_S 3) 3))
    let a : Nat := 3
    let b : Nat := 6000000
    let x : Ana := x2
    let t : Taken := tk
    let rest : List Taken := []
    a < 4 ∧ s.dev.measuring ∧ s.dev.ana a = x ∧ x.tq = [] ∧ x.qs = t :: rest ∧ x.ahead = [] ∧ x.begun = some b ∧ t.entry.flags = 0 ∧ t.entry.k = 0 ∧
    s.dev.rd (ANA_CFG_MODE a) = 3 ∧ edgeSelected (s.dev.rd (ANA_CFG_EDGE_S a)) t.entry.edge ∧ decide (t.entry.edge = 1) = s.dev.is (ANA_CFG_POL a) ∧
    s.dev.rd (ANA_CFG_HIST_EN a) = 0 ∧ s.dev.rd (ANA_TRIG_COND a) = 0 := by
  decide +kernel

def h1 (c : Nat) : AnaItem := ⟨3, 1, 50, 90, [1], 1, 1, false, false, c, false, f64Zero, 0, AnaAcc.fresh⟩

def x3 : Ana := {Ana.fresh with ahead := [90], acc := {AnaAcc.fresh with unpaired := 4, ivl := {Ivl.zero with count := 1, uref := f64One}}}

def hd (c : Nat) : State := st0 {(ad 3 1 x3) with anaItems := [h1 c, h1 c]}

theorem witness_AnalyserMeasures_3 :
    let s : State := hd 0
    let a : Nat := 3
    let x : Ana := x3
    let h : AnaItem := h1 0
    let rest : List AnaItem := [h1 0]
    a < 4 ∧ s.dev.measuring ∧ s.dev.ana a = x ∧ s.dev.anaItems = h :: rest ∧ h.ana = a ∧ (h.mode = 1 ∨ h.mode = 3) ∧
    (∀ v ∈ h.vs, s.dev.cleared v h.stop = true) ∧ x.qs = [] ∧ x.qt = [] ∧ x.ahead = [h.stop] ∧ x.pend = [] ∧ h.histEn = false ∧ h.causes = 0 ∧
    h.minMeas ≤ x.acc.ivl.count := by
  decide +kernel

theorem witness_AnalyserMeasures_4 :
    let s : State := hd 0x20010
    let a : Nat := 3
    let x : Ana := x3
    let h : AnaItem := h1 0x20010
    let rest : List AnaItem := [h1 0x20010]
    a < 4 ∧ s.dev.measuring ∧ s.dev.ana a = x ∧ s.dev.anaItems = h :: rest ∧ h.ana = a ∧ (h.mode = 1 ∨ h.mode = 3) ∧
    (∀ v ∈ h.vs, s.dev.cleared v h.stop = true) ∧ x.qs = [] ∧ x.qt = [] ∧ x.ahead = [h.stop] ∧ x.pend = [] ∧ h.histEn = false ∧
    firstReason h.causes ≠ 0 ∧ h.minMeas ≤ x.acc.ivl.count := by
  decide +kernel

theorem witness_AnalyserMeasures_5 :
    let s : State := st0 (((ready.wr (ANA_COUNT_COUNT 3) 7).wr (ANA_VALUE_VALUE 3) (2^64-2)).wr (ANA_MAX_MAX 3) (2^63+1))
    let a : Nat := 3
    a < 4 ∧ s.dev.readServed (0x6140 + 0x80 * a) := by
  decide +kernel

def cp (st : Nat) : Dev := {((ready.wr CAP_STATUS_STATE st).wr CAP_CFG_TRIG_MASK 8).wr CAP_PRE_VALUE 4 with cap := {Cap.fresh with coll := 3}}

def tr : Trig := ⟨none, 5, 3, 8, 0, 0, 0, false⟩

def cp3 : Dev := {cp 3 with cap := {Cap.fresh with trig := some tr}}

theorem witness_TriggerIsAcceptedOrMissed_1 :
    let s : State := st0 cp3
    let a : Nat := 3
    let t := tr
    a < 4 ∧ s.dev.hostOpen ∧ (s.dev.rd CAP_CFG_TRIG_MASK).testBit a ∧ s.dev.rd CAP_STATUS_STATE = 3 ∧ s.dev.cap.trig = some t ∧
    (s.dev.ana a).miss.length < 4 ∧ s.dev.rd (ANA_MISS_COUNT a) < 65535 := by
  decide +kernel

theorem witness_TriggerIsAcceptedOrMissed_2 :
    let s : State := st0 (cp 1)
    let a : Nat := 3
    a < 4 ∧ s.dev.hostOpen ∧ (s.dev.rd CAP_CFG_TRIG_MASK).testBit a ∧ (s.dev.rd CAP_STATUS_STATE = 1 ∨ s.dev.rd CAP_STATUS_STATE = 2) ∧
    s.dev.cap.line = [] := by
  decide +kernel

theorem witness_TriggerIsAcceptedOrMissed_3 :
    let s : State := st0 (cp 2)
    let a : Nat := 3
    a < 4 ∧ s.dev.hostOpen ∧ (s.dev.rd CAP_CFG_TRIG_MASK).testBit a ∧ (s.dev.rd CAP_STATUS_STATE = 1 ∨ s.dev.rd CAP_STATUS_STATE = 2) ∧
    s.dev.cap.line = [] := by
  decide +kernel

theorem witness_CaptureCompletesAndGoesOn_1 :
    let s : State := st0 (cp3.wr CAP_TIMEOUT_VALUE 1)
    let t : Trig := tr
    let g : Nat := 0
    let c := .captureTimeout
    s.dev.rd CAP_STATUS_STATE = 3 ∧ s.dev.cap.trig = some t ∧ s.dev.nextSegment = some g ∧
    (c = Instr.captureTimeout ∧ s.dev.alive = true ∧ s.dev.rd CAP_TIMEOUT_VALUE ≠ 0 ∨ c = Instr.completeCapture ∧ s.dev.hostOpen) := by
  decide +kernel

theorem witness_CaptureCompletesAndGoesOn_2 :
    let s : State := st0 cp3
    let t : Trig := tr
    let g : Nat := 0
    let c := .completeCapture
    s.dev.rd CAP_STATUS_STATE = 3 ∧ s.dev.cap.trig = some t ∧ s.dev.nextSegment = some g ∧
    (c = Instr.captureTimeout ∧ s.dev.alive = true ∧ s.dev.rd CAP_TIMEOUT_VALUE ≠ 0 ∨ c = Instr.completeCapture ∧ s.dev.hostOpen) := by
  decide +kernel

theorem witness_CaptureCompletesAndGoesOn_3 :
    let s : State := st0 {(cp 4) with cap := {Cap.fresh with rearmed := false, coll := 3, line := [(1,1)]}}
    s.dev.alive ∧ s.dev.rd CAP_STATUS_STATE = 4 ∧ s.dev.cap.rearmed = false := by
  decide +kernel

theorem witness_CaptureCompletesAndGoesOn_4 :
    let s : State := st0 {(cp 4) with cap := {Cap.fresh with rearmed := false, coll := 3, line := []}}
    s.dev.alive ∧ s.dev.rd CAP_STATUS_STATE = 4 ∧ s.dev.cap.rearmed = false := by
  decide +kernel

theorem witness_CaptureCompletesAndGoesOn_5 :
    let s : State := st0 {((cp 1).wr CAP_CFG_SEGS 6).wr CAP_STATUS_SEG 5 with cap := {Cap.fresh with used := 2^64-1}}
    let g : Nat := 63
    g < 64 ∧ g < s.dev.capSegs ∧ s.dev.hostOpen ∧ s.dev.rd CAP_STATUS_STATE ≠ 5 := by
  decide +kernel

theorem witness_CaptureCompletesAndGoesOn_6 :
    let s : State := st0 {(cp 5).wr CAP_CFG_SEGS 6 with cap := {Cap.fresh with used := 2^64-1, rearmed := false}}
    let g : Nat := 63
    g < 64 ∧ g < s.dev.capSegs ∧ s.dev.hostOpen ∧ s.dev.rd CAP_STATUS_STATE = 5 ∧ s.dev.cap.rearmed = false := by
  decide +kernel

theorem witness_CaptureCompletesAndGoesOn_7 :
    let s : State := st0 {((cp 1).wr CAP_CFG_SEGS 6).wr CAP_STATUS_SEG 5 with cap := {Cap.fresh with used := 2^64-1}}
    s.dev.hostOpen ∧ s.dev.rd CAP_STATUS_STATE ≠ 5 := by
  decide +kernel

theorem witness_ClearCommandsClear_4 :
    let s : State := st0 (((((ready.putAna 3 {x3 with shown := [(1,3)], total := 4}).wr (ANA_HIST_UNDER_HIST_UNDER 3) 3).wr (ANA_HIST_OVER_HIST_OVER 3) 1).wr (ANA_RSTAT_TOTAL_SUSPECT 3) 1).wr (ANA_MISS_COUNT 3) 1)
    let a : Nat := 3
    a < 4 ∧ s.dev.hostOpen := by
  decide +kernel

theorem witness_ClearCommandsClear_5 :
    let s : State := st0 (((((ready.putAna 3 {x3 with shown := [(1,3)], total := 4}).wr (ANA_HIST_UNDER_HIST_UNDER 3) 3).wr (ANA_HIST_OVER_HIST_OVER 3) 1).wr (ANA_RSTAT_TOTAL_SUSPECT 3) 1).wr (ANA_MISS_COUNT 3) 1)
    let a : Nat := 3
    a < 4 ∧ s.dev.hostOpen := by
  decide +kernel

theorem witness_ClearCommandsClear_6 :
    let s : State := st0 (((((ready.putAna 3 {x3 with shown := [(1,3)], total := 4}).wr (ANA_HIST_UNDER_HIST_UNDER 3) 3).wr (ANA_HIST_OVER_HIST_OVER 3) 1).wr (ANA_RSTAT_TOTAL_SUSPECT 3) 1).wr (ANA_MISS_COUNT 3) 1)
    let a : Nat := 3
    a < 4 ∧ s.dev.hostOpen := by
  decide +kernel

end WitnessCapture

namespace WitnessPipeline

def jb : PipeJob := ⟨0, 100, 70000, [(0,⟨0,f64One,f64One⟩)], 0, none, none, [], false, false, 0,0,0,0,none,[], false, f64Zero, f64Zero, 0, none⟩

def pd (j : PipeJob) : Dev := {(ready.wr (CELL_CFG_EN 0) 1) with pipe := {Pipe.fresh with jobs := [j]}}

def jr : PipeJob := {jb with extra := 128}

theorem witness_LocalSumAndRest_1 :
    let s : State := st0 (pd jr)
    let j : PipeJob := jr
    let r := 128
    s.dev.alive ∧ s.dev.mode = 1 ∧ s.dev.deviceCount ≤ 1 ∧ s.dev.pipe.jobs = [j] ∧ j.own = none ∧ s.dev.jobReady j ∧ s.dev.choir.ops = [] ∧
    j.stale = false ∧
    (∀ c ∈ s.dev.cells, (s.dev.cellResult j c).reason = 0 → s.dev.ratioBad c (s.dev.cellResult j c).ratio = false ∧ (s.dev.cellValues c (s.dev.cellResult j c).ratio (s.dev.cellResult j c).fb).all f64IsFinite = true) ∧
    s.dev.cellCauses j ||| j.extra = r ∧ r ≠ 0 := by
  decide +kernel

def pd2 : Dev := ((pd jb).wrF (CELL_NOM_T_NOM_T 0) f64One).wrF (CELL_Q_MAX_Q_MAX 0) f64One

theorem witness_LocalSumAndRest_2 :
    let s : State := st0 pd2
    let j : PipeJob := jb
    let vs : List F64 := pd2.cells.map (fun c => (pd2.cellValues c (pd2.cellResult jb c).ratio (pd2.cellResult jb c).fb).getD 6 f64Zero)
    s.dev.alive ∧ s.dev.mode = 1 ∧ s.dev.deviceCount ≤ 1 ∧ s.dev.pipe.jobs = [j] ∧ j.own = none ∧ s.dev.jobReady j ∧ s.dev.choir.ops = [] ∧
    j.stale = false ∧
    (∀ c ∈ s.dev.cells, (s.dev.cellResult j c).reason = 0 → s.dev.ratioBad c (s.dev.cellResult j c).ratio = false ∧ (s.dev.cellValues c (s.dev.cellResult j c).ratio (s.dev.cellResult j c).fb).all f64IsFinite = true) ∧
    s.dev.cellCauses j ||| j.extra = 0 ∧
    vs = s.dev.cells.map (fun c => (s.dev.cellValues c (s.dev.cellResult j c).ratio (s.dev.cellResult j c).fb).getD 6 f64Zero) ∧
    f64IsFinite (f64SumList vs) := by
  decide +kernel

def js : PipeJob := {jb with sum := some (restSum 16)}

def p3 : Dev := {((((pd js).wr PIPE_STATUS_INIT_DONE 1).wr PIPE_CFG_REST_HOLD_MAX 4).wr LR_STATUS_RESTS 3).wr LR_WEIGHT_WEIGHT 77 with pipe := {Pipe.fresh with jobs := [js], ma := [f64One]}}

theorem witness_LocalSumAndRest_3 :
    let s : State := st0 p3
    let j : PipeJob := js
    let rest : List PipeJob := []
    let v : SumVal := restSum 16
    s.dev.alive ∧ s.dev.mode = 1 ∧ s.dev.pipe.jobs = j :: rest ∧ j.sum = some v ∧ v.reason ≠ 0 ∧ v.reason < 16 ∧ s.dev.cellRetired v = false ∧
    j.digest = none ∧ j.realign = [] ∧ j.cmd = 0 ∧ j.arith = false ∧ j.badRatio = false ∧ j.stale = false ∧ j.belt = 0 ∧
    s.dev.pipe.holdCause = false ∧ s.dev.waiting = false ∧ s.dev.rd LR_STATUS_RESTS < 255 ∧ s.dev.rd LR_STATUS_RESTS < s.dev.rd PIPE_CFG_REST_HOLD_MAX := by
  decide +kernel

theorem witness_LocalSumAndRest_4 :
    let s : State := st0 (p3.wr LR_STATUS_RESTS 4)
    let j : PipeJob := js
    let rest : List PipeJob := []
    let v : SumVal := restSum 16
    s.dev.alive ∧ s.dev.mode = 1 ∧ s.dev.pipe.jobs = j :: rest ∧ j.sum = some v ∧ v.reason ≠ 0 ∧ v.reason < 16 ∧ s.dev.cellRetired v = false ∧
    j.digest = none ∧ j.realign = [] ∧ j.cmd = 0 ∧ j.arith = false ∧ j.badRatio = false ∧ j.stale = false ∧ j.belt = 0 ∧
    s.dev.pipe.holdCause = false ∧ s.dev.waiting = false ∧ s.dev.rd LR_STATUS_RESTS < 255 ∧
    s.dev.rd LR_STATUS_RESTS = s.dev.rd PIPE_CFG_REST_HOLD_MAX ∧ s.dev.pipe.restLatched = false := by
  decide +kernel

def jg : PipeJob := {jb with sum := some ⟨f64OfInt 1234, 0, 0⟩}

def p4 : Dev := (((pd jg).wr PIPE_CFG_N_MA 2))

def p5 : Dev := ((((((pd jg).wr PIPE_STATUS_INIT_DONE 1).wr PIPE_MOTION_WIN 2).wr (RANGE_MULT 0) 2).wrF (RANGE_MAX 0) (f64OfInt 9999)).wrF E_BASE (f64OfInt 5)).wr PIPE_MOTION_UNDER_E 20

theorem witness_GoodPeriodIsCommitted_1 :
    let s : State := st0 p4
    let j : PipeJob := jg
    let rest : List PipeJob := []
    let v : SumVal := ⟨f64OfInt 1234, 0, 0⟩
    s.dev.alive ∧ s.dev.mode = 1 ∧ s.dev.pipe.jobs = j :: rest ∧ j.sum = some v ∧ v.reason = 0 ∧ s.dev.cellRetired v = false ∧ j.digest = none ∧
    j.realign = [] ∧ j.cmd = 0 ∧ j.arith = false ∧ j.badRatio = false ∧ j.stale = false ∧ j.belt = 0 ∧ f64IsFinite v.value ∧
    s.dev.pipe.ma.length < s.dev.rd PIPE_CFG_N_MA ∧ s.dev.rd PIPE_CFG_N_MA < 256 := by
  decide +kernel

theorem witness_GoodPeriodIsCommitted_2 :
    let s : State := st0 p5
    let j : PipeJob := jg
    let rest : List PipeJob := []
    let v : SumVal := ⟨f64OfInt 1234, 0, 0⟩
    let a : F64 := f64OfInt 1234
    let g : F64 := f64OfInt 1234
    let w : Nat := 2
    s.dev.alive ∧ s.dev.mode = 1 ∧ s.dev.pipe.jobs = j :: rest ∧ j.sum = some v ∧ v.reason = 0 ∧ s.dev.cellRetired v = false ∧ j.digest = none ∧
    j.realign = [] ∧ j.cmd = 0 ∧ j.arith = false ∧ j.badRatio = false ∧ j.stale = false ∧ j.belt = 0 ∧ f64IsFinite v.value ∧ s.dev.pipe.ma = [] ∧
    s.dev.rd PIPE_CFG_N_MA = 0 ∧ s.dev.rd PIPE_CFG_IIR_EN = 0 ∧ s.dev.pipe.motion = [] ∧ s.dev.rd PIPE_MOTION_WIN = w ∧ 2 ≤ w ∧ w < 128 ∧
    s.dev.rd PIPE_STATUS_INIT_DONE = 1 ∧ s.dev.rd PIPE_CFG_ZT_EN = 0 ∧ s.dev.rd LR_STATUS_NET = 0 ∧ s.dev.rd PIPE_CFG_RANGES = 1 ∧
    s.dev.rd LR_STATUS_RANGE = 1 ∧ a = f64Div (f64SumList [v.value]) (f64OfInt 1) ∧ f64IsFinite a ∧ f64IsFinite (f64Abs (f64Sub a a)) ∧
    f64IsFinite (f64Mul (f64Div (f64OfInt (s.dev.rd PIPE_MOTION_K)) (f64OfInt 4)) (s.dev.interval 1)) ∧ g = f64Sub a s.dev.pipe.z ∧
    s.dev.overloaded g = false ∧ s.dev.underloaded g = false := by
  decide +kernel

def p6 (n : Nat) : Dev := ((ready.wr CFG_STATUS_CONFIGURED 1).wr OP_STATUS_SEQ 255).wr OP_STATUS_PENDING n

theorem witness_OperatorCommandsAreTaken_1 :
    let s : State := st0 (p6 1)
    let c : Instr := .tare
    let code : Nat := 0xB2
    (c, code) ∈ [(Instr.zero, 0xB1), (Instr.tare, 0xB2), (Instr.clearTare, 0xB3), (Instr.print, 0xB4)] ∧ s.dev.hostOpen ∧ s.dev.mayOperate ∧
    s.dev.rd OP_STATUS_PENDING = 1 := by
  decide +kernel

theorem witness_OperatorCommandsAreTaken_2 :
    let s : State := st0 (p6 0)
    let c : Instr := .print
    let code : Nat := 0xB4
    (c, code) ∈ [(Instr.zero, 0xB1), (Instr.tare, 0xB2), (Instr.clearTare, 0xB3), (Instr.print, 0xB4)] ∧ s.dev.hostOpen ∧ s.dev.mayOperate ∧
    s.dev.rd OP_STATUS_PENDING = 0 ∧ s.dev.deviceCount ≤ 1 := by
  decide +kernel

theorem witness_LegalReadAndTotalPulse_1 :
    let s : State := st0 ((ready.wr LR_TARE_TARE 5).wr LR_SEQ_SEQ 65535)
    s.dev.readServed 0x7400 := by
  decide +kernel

theorem witness_LegalReadAndTotalPulse_2 :
    let s : State := st0 {ready.wr TOT_BACKLOG 1 with pins := {ready.pins with totPulse := 1}}
    s.dev.alive ∧ s.dev.pins.totPulse = 1 := by
  decide +kernel

theorem witness_LegalReadAndTotalPulse_3 :
    let s : State := st0 {(ready.wr TOT_BACKLOG 1).wr TOT_CFG_SRC 2 with pins := {ready.pins with totRest := true}}
    s.dev.alive ∧ s.dev.pins.totPulse = 0 ∧ s.dev.pins.totRest := by
  decide +kernel

end WitnessPipeline

namespace WitnessTrack

def en (fl ev: Nat) : Entry := { id := 1, ext := 1000, fine := 7, evcnt := ev, edge := 0, flags := fl, m := 77, k := 0}

def tk (st : Nat) : Dev := (((ready.wr TRACK_CFG_EN 1).wr TRACK_STATUS_STATE st).wr (VOICE_STATUS_STATE 14) 2).wr BELT_LEN 100000

theorem witness_TrackTakesItsStamps_1 :
    let s : State := st0 {(tk 1).putVoice 14 {ready.voice 14 with trackTap := [en 0 3, en 0 4]} with track := {ready.track with tach := [(2^32-2,5)]}}
    let e : Entry := en 0 3
    let rest : List Entry := [en 0 4]
    s.dev.alive ∧ s.dev.rd TRACK_CFG_EN = 1 ∧ s.dev.trackState = 1 ∧ s.dev.counting 14 ∧ (s.dev.voice 14).trackTap = e :: rest ∧ e.isStamp := by
  decide +kernel

theorem witness_TrackTakesItsStamps_2 :
    let s : State := st0 ((tk 1).putVoice 15 {ready.voice 15 with trackTap := [en 0 3, en 0 4]})
    let e : Entry := en 0 3
    let rest : List Entry := [en 0 4]
    s.dev.alive ∧ s.dev.rd TRACK_CFG_EN = 1 ∧ s.dev.trackState = 1 ∧ s.dev.counting 14 ∧ (s.dev.voice 15).trackTap = e :: rest ∧ e.isStamp ∧
    s.dev.track.gate = none ∧ s.dev.track.lastT = none := by
  decide +kernel

def fw : FrameWait := ⟨⟨50, 320, false, some 500, none, none, [60]⟩, 90, 1000, f64One⟩

def fd (t : Nat) : Dev := {tk 1 with track := {ready.track with queue := [fw]}, time := {ready.time with coarse := t}}

theorem witness_FrameIsDecodedOrLate_1 :
    ∃ (s : State) (w : FrameWait) (rest : List FrameWait) (found : Option (List Bool × Nat)) (good : Bool),
      s.dev.alive = true ∧
      s.dev.rd TRACK_CFG_EN = 1 ∧
      s.dev.trackState = 1 ∧
      s.dev.track.queue = w :: rest ∧
      s.dev.ext * 65536 ≤ w.deadline ∧
      found = outerPasses (s.dev.rd TRACK_DETECT_SIGMA) w.cell (w.observed s.dev.track.drops) 6 1 [] ∧
      (good = (match found with | none => false | some (bits, _) => codeField bits 40 8 == s.dev.rd TRACK_CFG_BELT_ID && decide (codeField bits 0 40 < s.dev.rd BELT_LEN) && codeField bits 48 8 == s.dev.segOf (codeField bits 0 40) / 16)) ∧
      s.dev.rd FRAME_OK < 2 ^ 32 - 1 ∧
      s.dev.rd FRAME_FAIL < 2 ^ 32 - 1 :=
  ⟨st0 (fd 0), fw, [], _, _, by decide +kernel, by decide +kernel, by decide +kernel, rfl, by decide +kernel, rfl, rfl,
    by decide +kernel, by decide +kernel⟩

theorem witness_FrameIsDecodedOrLate_2 :
    let s : State := st0 (fd 1)
    let w : FrameWait := fw
    let rest : List FrameWait := []
    s.dev.alive = true ∧ s.dev.track.queue = w :: rest ∧ w.deadline ≤ s.dev.ext * 65536 ∧ s.dev.rd FRAME_LATE < 2 ^ 32 - 1 ∧
    s.dev.rd FRAME_HEAVY < 2 ^ 32 - 1 := by
  decide +kernel

theorem witness_TrackEventsAndCommands_1 :
    let s : State := st0 {tk 5 with track := {ready.track with sigma := some 3}}
    s.dev.alive ∧ s.dev.rd TRACK_CFG_EN = 1 ∧ s.dev.trackState ≠ 0 ∧ s.dev.track.sigma.isSome := by
  decide +kernel

theorem witness_TrackEventsAndCommands_2 :
    let s : State := st0 (tk 5)
    let a : Nat := coarseMod-1
    let b : Nat := coarseMod-1
    a ≤ b ∧ b < coarseMod ∧ s.dev.alive ∧ s.dev.rd TRACK_CFG_EN = 1 := by
  decide +kernel

theorem witness_TrackEventsAndCommands_3 :
    let s : State := st0 (tk 1)
    s.dev.hostOpen ∧ s.dev.rd TRACK_CFG_EN = 1 ∧ s.dev.track.learn = 0 := by
  decide +kernel

theorem witness_TrackEventsAndCommands_4 :
    let s : State := st0 {tk 1 with track := {ready.track with learn := 1, passed := true, sigma := some 0, causes := 16}}
    s.dev.alive ∧ s.dev.rd TRACK_CFG_EN = 1 ∧ s.dev.track.learn = 1 ∧ s.dev.track.passed := by
  decide +kernel

theorem witness_TrackEventsAndCommands_5 :
    let s : State := st0 {tk 5 with track := {ready.track with zone := some 3, anchor := some (1,f64One)}}
    s.dev.hostOpen ∧ s.dev.rd TRACK_CFG_EN = 1 ∧ s.dev.trackState ≠ 0 ∧ s.dev.counting 14 ∧ s.dev.track.collect = none := by
  decide +kernel

theorem witness_TrackEventsAndCommands_6 :
    let s : State := st0 {tk 5 with track := {ready.track with collect := some fw.frame, zone := some 3}}
    s.dev.hostOpen ∧ s.dev.rd TRACK_CFG_EN = 1 ∧ s.dev.trackState ≠ 0 ∧ s.dev.counting 14 ∧ s.dev.track.collect.isSome ∧
    s.dev.rd FRAME_FAIL < 2 ^ 32 - 1 := by
  decide +kernel

theorem witness_ClearCommandsClear_7 :
    let s : State := st0 (ready.wr PROV 5)
    s.dev.hostOpen ∧ s.dev.logs.tot.length < 32 ∧ s.dev.logQueue.length < 64 := by
  decide +kernel

theorem witness_ClearCommandsClear_8 :
    let s : State := st0 ((ready.wr PIN_LEVEL_SEAL_OPEN 1).wr (WEAK_MAP_VALID 63) 1)
    s.dev.hostOpen ∧ s.dev.rd PIN_LEVEL_SEAL_OPEN = 1 ∧ s.dev.logQueue.length < 64 ∧ s.dev.rd LOG_STATUS_NVM_HOLD = 0 := by
  decide +kernel

end WitnessTrack

namespace WitnessLink

def lk : Dev := ((((ready.wr CFG_STATUS_CONFIGURED 1).wr CHOIR_DEVICES_MASK 3).wr CHOIR_CFG_PORT_A_EN 1).wr CHOIR_CFG_PORT_B_EN 1)

/-- The line codes of a training set of device 1 for lane 1. -/
def setCodes (ts2 seq chk : Nat) : List Nat := encodeChars true [.control 0xBC, .data (20 + ts2), .data seq, .data (((20 + ts2) ^^^ seq) ^^^ chk)]

/-- K28.5 again and again. -/
def idleCodes : List Nat := encodeChars true (List.replicate 32 (.control 0xBC))

theorem witness_LinkTrainsAndRetrains_1 :
    let s : State := st0 lk
    let p : Nat := 1
    let l : Nat := 1
    p < 2 ∧ l < 2 ∧ s.dev.trains p ∧ (s.dev.port p).pause = false ∧ s.dev.rd (laneState p l) = 0 := by
  decide +kernel

theorem witness_LinkTrainsAndRetrains_2 :
    let s : State := st0 (lk.wr (laneState 1 1) 1)
    let p : Nat := 1
    let l : Nat := 1
    let codes : List Nat := idleCodes
    p < 2 ∧ l < 2 ∧ s.dev.trains p ∧ codes.all (fun c => decide (c < 1024)) ∧ s.dev.rd (laneState p l) = 1 ∧ isIdleRun codes := by
  decide +kernel

def run15 (st o : Nat) : Dev := (((lk.putPort 1 {PortSt.fresh with count1 := 15}).wr (laneState 1 1) st).wr (laneState 1 0) o)

theorem witness_LinkTrainsAndRetrains_3 :
    let s : State := st0 (run15 2 0)
    let p : Nat := 1
    let l : Nat := 1
    let sent : Nat := 16
    let codes : List Nat := setCodes 0 7 0x5A
    let desk : Bool := true
    p < 2 ∧ l < 2 ∧ codes.length = 4 ∧ codes.all (fun c => decide (c < 1024)) ∧ s.dev.trains p ∧ s.dev.rd (laneState p l) = 2 ∧
    s.dev.setAgrees l codes ∧ (s.dev.port p).run l = 15 := by
  decide +kernel

theorem witness_LinkTrainsAndRetrains_4 :
    let s : State := st0 (run15 3 0)
    let p : Nat := 1
    let l : Nat := 1
    let sent : Nat := 16
    let codes : List Nat := setCodes 1 7 0x5A
    let desk : Bool := true
    p < 2 ∧ l < 2 ∧ codes.length = 4 ∧ codes.all (fun c => decide (c < 1024)) ∧ s.dev.trains p ∧ s.dev.rd (laneState p l) = 3 ∧
    s.dev.setAgrees l codes ∧ isTs2 codes ∧ 15 ≤ (s.dev.port p).run l ∧ s.dev.confirmed p l sent desk ∧ s.dev.rd (laneState p (1 - l)) = 0 := by
  decide +kernel

theorem witness_LinkTrainsAndRetrains_5 :
    let s : State := st0 (run15 3 4)
    let p : Nat := 1
    let l : Nat := 1
    let sent : Nat := 16
    let codes : List Nat := setCodes 1 7 0x5A
    let desk : Bool := true
    p < 2 ∧ l < 2 ∧ codes.length = 4 ∧ codes.all (fun c => decide (c < 1024)) ∧ s.dev.trains p ∧ s.dev.rd (laneState p l) = 3 ∧
    s.dev.setAgrees l codes ∧ isTs2 codes ∧ 15 ≤ (s.dev.port p).run l ∧ s.dev.confirmed p l sent desk ∧ s.dev.rd (laneState p (1 - l)) = 4 ∧
    s.dev.portUp p = false ∧ (s.dev.port p).held = [] ∧ (s.dev.port p).queue = [] := by
  decide +kernel

theorem witness_LinkTrainsAndRetrains_6 :
    let s : State := st0 (run15 3 4)
    let p : Nat := 1
    let l : Nat := 1
    let sent : Nat := 16
    let codes : List Nat := setCodes 1 7 0x5B
    let desk : Bool := true
    p < 2 ∧ l < 2 ∧ codes.length = 4 ∧ codes.all (fun c => decide (c < 1024)) ∧ s.dev.trains p ∧
    (s.dev.rd (laneState p l) = 2 ∨ s.dev.rd (laneState p l) = 3) ∧ s.dev.setAgrees l codes = false := by
  decide +kernel

theorem witness_LinkTrainsAndRetrains_7 :
    let s : State := st0 ((lk.putPort 1 {PortSt.fresh with attempt := true, sig0 := true}).wr (laneState 1 0) 1)
    let p : Nat := 1
    p < 2 ∧ s.dev.linkAlive ∧ (s.dev.port p).attempt ∧ s.dev.portUp p = false ∧ (s.dev.port p).sig0 ∧ (s.dev.port p).sig1 = false ∧
    s.dev.rd (LINK_STATE_LANE_STATE_0 p) = 1 ∧ s.dev.rd (LINK_STATE_LANE_STATE_1 p) = 0 ∧ s.dev.bears (laneSource p 0) ∧
    s.dev.rd (STRIKE_RETIRED (laneSource p 1)) = 0 ∧ s.dev.rd (LINK_STATE_FAILS_0 p) < 2 := by
  decide +kernel

theorem witness_LinkTrainsAndRetrains_8 :
    let p : Nat := 1
    p < 2 := by
  decide +kernel

def up (a b st : Nat) : Dev := ((lk.wr (laneState 1 0) a).wr (laneState 1 1) b).wr (LINK_STATE_STATE 1) st

def fs1 (p : Nat) : List Fld := [LINK_STATE_LANE_STATE_0 p, LINK_STATE_LANE_STATE_1 p, LINK_STATE_STATE p, LINK_STATE_CLOCK_LANE p, LINK_STATE_REPLAY_FILL p,

      LINK_RETRY_RETRAINS p, TUNE_STATUS_MODE (16 + 2 * p), TUNE_STATUS_MODE (17 + 2 * p)]

theorem witness_LinkTrainsAndRetrains_9 :
    let s : State := st0 (up 4 4 2)
    let p : Nat := 1
    let fs : List Fld := fs1 1
    p < 2 ∧ s.dev.linkAlive ∧ s.dev.rd (LINK_STATE_LANE_STATE_0 p) = 4 ∧ s.dev.rd (LINK_RETRY_RETRAINS p) < 65535 ∧
    fs = [LINK_STATE_LANE_STATE_0 p, LINK_STATE_LANE_STATE_1 p, LINK_STATE_STATE p, LINK_STATE_CLOCK_LANE p, LINK_STATE_REPLAY_FILL p, LINK_RETRY_RETRAINS p, TUNE_STATUS_MODE (16 + 2 * p), TUNE_STATUS_MODE (17 + 2 * p)] ∧
    s.dev.rd (LINK_STATE_LANE_STATE_1 p) = 4 := by
  decide +kernel

theorem witness_LinkTrainsAndRetrains_10 :
    let s : State := st0 (up 4 4 2)
    let p : Nat := 1
    let fs : List Fld := fs1 1
    p < 2 ∧ s.dev.linkAlive ∧ s.dev.rd (LINK_STATE_LANE_STATE_0 p) = 4 ∧ s.dev.rd (LINK_RETRY_RETRAINS p) < 65535 ∧
    fs = [LINK_STATE_LANE_STATE_0 p, LINK_STATE_LANE_STATE_1 p, LINK_STATE_STATE p, LINK_STATE_CLOCK_LANE p, LINK_STATE_REPLAY_FILL p, LINK_RETRY_RETRAINS p, TUNE_STATUS_MODE (16 + 2 * p), TUNE_STATUS_MODE (17 + 2 * p)] ∧
    s.dev.rd (LINK_STATE_LANE_STATE_1 p) = 4 ∧ s.dev.hostOpen := by
  decide +kernel

theorem witness_LinkTrainsAndRetrains_11 :
    let s : State := st0 (up 4 4 2)
    let p : Nat := 1
    let fs : List Fld := fs1 1
    let l : Nat := 1
    let n : Nat := 16
    let rd : Bool := true
    let codes : List Nat := List.replicate 16 0
    p < 2 ∧ s.dev.linkAlive ∧ s.dev.rd (LINK_STATE_LANE_STATE_0 p) = 4 ∧ s.dev.rd (LINK_RETRY_RETRAINS p) < 65535 ∧
    fs = [LINK_STATE_LANE_STATE_0 p, LINK_STATE_LANE_STATE_1 p, LINK_STATE_STATE p, LINK_STATE_CLOCK_LANE p, LINK_STATE_REPLAY_FILL p, LINK_RETRY_RETRAINS p, TUNE_STATUS_MODE (16 + 2 * p), TUNE_STATUS_MODE (17 + 2 * p)] ∧
    s.dev.rd (LINK_STATE_LANE_STATE_1 p) = 4 ∧ l < 2 ∧ codes.length ≤ 65536 ∧ codes.all (fun c => decide (c < 1024)) ∧ n = violations rd codes ∧
    16 ≤ n ∧ s.dev.bears (laneSource p l) := by
  decide +kernel

theorem witness_LinkTrainsAndRetrains_12 :
    let s : State := st0 (up 4 4 2)
    let p : Nat := 1
    let fs : List Fld := fs1 1
    let l : Nat := 1
    let n : Nat := 15
    let rd : Bool := true
    let codes : List Nat := List.replicate 15 0
    p < 2 ∧ s.dev.linkAlive ∧ s.dev.rd (LINK_STATE_LANE_STATE_0 p) = 4 ∧ s.dev.rd (LINK_RETRY_RETRAINS p) < 65535 ∧
    fs = [LINK_STATE_LANE_STATE_0 p, LINK_STATE_LANE_STATE_1 p, LINK_STATE_STATE p, LINK_STATE_CLOCK_LANE p, LINK_STATE_REPLAY_FILL p, LINK_RETRY_RETRAINS p, TUNE_STATUS_MODE (16 + 2 * p), TUNE_STATUS_MODE (17 + 2 * p)] ∧
    s.dev.rd (LINK_STATE_LANE_STATE_1 p) = 4 ∧ l < 2 ∧ codes.length ≤ 65536 ∧ codes.all (fun c => decide (c < 1024)) ∧ n = violations rd codes ∧
    n < 16 := by
  decide +kernel

theorem witness_LinkTrainsAndRetrains_13 :
    let s : State := st0 (up 4 5 3)
    let p : Nat := 1
    let fs : List Fld := fs1 1
    p < 2 ∧ s.dev.linkAlive ∧ s.dev.rd (LINK_STATE_LANE_STATE_0 p) = 4 ∧ s.dev.rd (LINK_RETRY_RETRAINS p) < 65535 ∧
    fs = [LINK_STATE_LANE_STATE_0 p, LINK_STATE_LANE_STATE_1 p, LINK_STATE_STATE p, LINK_STATE_CLOCK_LANE p, LINK_STATE_REPLAY_FILL p, LINK_RETRY_RETRAINS p, TUNE_STATUS_MODE (16 + 2 * p), TUNE_STATUS_MODE (17 + 2 * p)] ∧
    s.dev.rd (LINK_STATE_LANE_STATE_1 p) = 5 ∧ s.dev.rd (LINK_STATE_STATE p) = 3 ∧ (s.dev.port p).tried = false := by
  decide +kernel

theorem witness_LinkTrainsAndRetrains_14 :
    let s : State := st0 (lk.wr (laneState 1 1) 1)
    let p : Nat := 1
    let l : Nat := 1
    let codes : List Nat := idleCodes.drop 1
    p < 2 ∧ l < 2 ∧ s.dev.trains p ∧ codes.all (fun c => decide (c < 1024)) ∧ s.dev.rd (laneState p l) = 1 ∧ isIdleRun codes = false := by
  decide +kernel

theorem witness_LinkTrainsAndRetrains_15 :
    let s : State := st0 (run15 3 0)
    let p : Nat := 1
    let l : Nat := 1
    let sent : Nat := 15
    let codes : List Nat := setCodes 1 7 0x5A
    let desk : Bool := true
    p < 2 ∧ l < 2 ∧ codes.length = 4 ∧ codes.all (fun c => decide (c < 1024)) ∧ s.dev.trains p ∧ s.dev.rd (laneState p l) = 3 ∧
    s.dev.setAgrees l codes ∧ isTs2 codes ∧ 15 ≤ (s.dev.port p).run l ∧ s.dev.confirmed p l sent desk = false := by
  decide +kernel

def fr (src : Nat) : List Nat := [0, 1, (0 ^^^ 1) ^^^ 0x5A] ++ frameBody (frameHeader 7 src 0 65535 0 4 false false) [1,2,3,4]

theorem witness_FramesAreTakenOrDiscarded_1 :
    let s : State := st0 (up 4 4 2)
    let p : Nat := 1
    let bytes : List Nat := fr 1
    let m := parseMsg ((fr 1).drop 3) 1
    p < 2 ∧ s.dev.linkAlive ∧ s.dev.portUp p ∧ (∀ b ∈ bytes, b < 256) ∧ 3 ≤ bytes.length ∧ m = parseMsg (bytes.drop 3) p ∧
    bytes.getD 0 0 = (s.dev.port p).rxSeq ∧ bytes.getD 2 0 = (bytes.getD 0 0 ^^^ bytes.getD 1 0) ^^^ 0x5A ∧ bodyGood (bytes.drop 3) ∧
    m.bcast = false ∧ m.dst = s.dev.addr ∧ m.src ≠ s.dev.addr ∧ (s.dev.rd CHOIR_DEVICES_MASK).testBit m.src ∧ m.type < 8 ∧ m.fresh = false ∧
    (s.dev.peer m.src).duplicate m.mseq = false ∧ s.dev.rd (LINK_FRAMES_RX_FRAMES_RX p) < 2 ^ 32 - 1 := by
  decide +kernel

theorem witness_FramesAreTakenOrDiscarded_2 :
    let s : State := st0 (up 4 4 2)
    let p : Nat := 1
    let bytes : List Nat := [1,2,3]
    p < 2 ∧ s.dev.linkAlive ∧ s.dev.portUp p ∧ (∀ b ∈ bytes, b < 256) ∧ 3 ≤ bytes.length ∧
    bytes.getD 2 0 ≠ (bytes.getD 0 0 ^^^ bytes.getD 1 0) ^^^ 0x5A ∧ s.dev.rd (LINK_ERR_CRC_ERR p) < 65535 := by
  decide +kernel

def hh (n k : Nat) : Held := {lseq := n, hops := 1, body := [], sends := k}

def x1 (k : Nat) : PortSt := {PortSt.fresh with held := [hh 254 1, hh 255 k, hh 0 1], unacked := true, rxSeq := 0}

def hd (k : Nat) : State := st0 ((up 4 4 2).putPort 1 (x1 k))

theorem witness_HeldFramesAreReleasedOrReplayed_1 :
    let s : State := hd 4
    let p : Nat := 1
    let x : PortSt := x1 4
    let k := 255
    let i := 1
    p < 2 ∧ s.dev.linkAlive ∧ s.dev.port p = x ∧ x.queue = [] ∧ k < 256 ∧ s.dev.heldIndex p k = some i := by
  decide +kernel

theorem witness_HeldFramesAreReleasedOrReplayed_2 :
    let s : State := hd 4
    let p : Nat := 1
    let x : PortSt := x1 4
    let k := 255
    let i := 1
    p < 2 ∧ s.dev.linkAlive ∧ s.dev.port p = x ∧ x.queue = [] ∧ k < 256 ∧ s.dev.heldIndex p k = some i ∧ (∀ h ∈ x.held, h.sends < 5) ∧
    s.dev.rd (LINK_ERR_NAK_RX p) < 65535 ∧ s.dev.rd (LINK_RETRY_RETRIES p) < 65535 := by
  decide +kernel

theorem witness_HeldFramesAreReleasedOrReplayed_3 :
    let s : State := hd 4
    let p : Nat := 1
    let x : PortSt := x1 4
    p < 2 ∧ s.dev.linkAlive ∧ s.dev.port p = x ∧ x.queue = [] ∧ x.unacked := by
  decide +kernel

theorem witness_HeldFramesAreReleasedOrReplayed_4 :
    let s : State := hd 4
    let p : Nat := 1
    let x : PortSt := x1 4
    p < 2 ∧ s.dev.linkAlive ∧ s.dev.port p = x ∧ x.queue = [] ∧ s.dev.portUp p ∧ x.held ≠ [] ∧ (∀ h ∈ x.held, h.sends < 5) ∧
    s.dev.rd (LINK_RETRY_RETRIES p) < 65535 := by
  decide +kernel

theorem witness_HeldFramesAreReleasedOrReplayed_5 :
    let s : State := hd 5
    let p : Nat := 1
    let x : PortSt := x1 5
    p < 2 ∧ s.dev.linkAlive ∧ s.dev.port p = x ∧ x.queue = [] ∧ s.dev.portUp p ∧ (∃ h ∈ x.held, 5 ≤ h.sends) ∧
    s.dev.rd (LINK_STATE_LANE_STATE_0 p) = 4 ∧ s.dev.rd (LINK_STATE_LANE_STATE_1 p) = 4 ∧ s.dev.bears (laneSource p 0) ∧ s.dev.bears (laneSource p 1) := by
  decide +kernel

end WitnessLink

namespace WitnessChoir

def lk : Dev := ((((ready.wr CFG_STATUS_CONFIGURED 1).wr CHOIR_DEVICES_MASK 7).wr CHOIR_CFG_PORT_A_EN 1).wr CHOIR_CFG_PORT_B_EN 1).wr (LINK_STATE_STATE 0) 2

def cs (n : Nat) : Dev := lk.wr CHOIR_STATUS_STATE n

theorem witness_DeviceSendsItsMessages_1 :
    let s : State := st0 (cs 4)
    s.dev.choirAlive ∧ s.dev.speaks ∧ s.dev.choirState = 4 := by
  decide +kernel

theorem witness_DeviceSendsItsMessages_2 :
    let s : State := st0 (cs 4)
    s.dev.choirAlive ∧ s.dev.speaks := by
  decide +kernel

theorem witness_DeviceSendsItsMessages_3 :
    let s : State := st0 (cs 4)
    s.dev.choirAlive ∧ s.dev.speaks := by
  decide +kernel

theorem witness_DeviceSendsItsMessages_4 :
    let s : State := st0 (cs 4)
    let a := some 3
    let b := none
    s.dev.choirAlive ∧ s.dev.speaks ∧ (∀ t ∈ a, t < 2 ^ 64) ∧ (∀ t ∈ b, t < 2 ^ 64) ∧ s.dev.portUp 0 ∧ s.dev.portUp 1 = false := by
  decide +kernel

def msg (t : Nat) (pl : List Nat) : Msg := {type := t, bcast := false, fresh := false, src := 2, dst := 0, mseq := 5, cepoch := 0, payload := pl, port := 1}

def inb (d : Dev) (m : Msg) : State := st0 {d with choir := {d.choir with inbox := [m, m]}}

theorem witness_SyncSteersTheDevice_1 :
    let s : State := inb (cs 3) (msg 0 [1,0,0,0])
    let p : Nat := 1
    let stamp : Option Nat := some 5
    let m : Msg := msg 0 [1,0,0,0]
    let rest : List Msg := [msg 0 [1,0,0,0]]
    p < 2 ∧ (∀ t ∈ stamp, t < 2 ^ 64) ∧ s.dev.choirAlive ∧ s.dev.choir.inbox = m :: rest ∧ m.type = 0 ∧ m.port = p ∧ s.dev.exchange p m = none ∧
    s.dev.rd (LINK_BAD_SYNC_DISC p) < 65535 := by
  decide +kernel

def stamp0 (q t : Nat) : SyncStamp := ⟨q, some t, 0, 0⟩

def mx : Msg := msg 0 ([3, 7, 2, 0] ++ bytesLE 8 1100 ++ bytesLE 8 1050 ++ copies 12 0)

def sx : Dev := ((cs 3).putPort 1 {PortSt.fresh with launch := [stamp0 7 1000], rx := [stamp0 2 1160]}).wr CHOIR_STATUS_PARENT 2

theorem witness_SyncSteersTheDevice_2 :
    let s : State := inb sx mx
    let p : Nat := 1
    let stamp : Option Nat := some 5
    let m : Msg := mx
    let rest : List Msg := [mx]
    let th := f64OfInt 5
    let de := f64OfInt 55
    p < 2 ∧ (∀ t ∈ stamp, t < 2 ^ 64) ∧ s.dev.choirAlive ∧ s.dev.choir.inbox = m :: rest ∧ m.type = 0 ∧ m.port = p ∧
    s.dev.exchange p m = some (th, de) ∧ s.dev.rd CHOIR_STATUS_PARENT = p + 1 ∧ s.dev.choirState = 3 ∧ within th 100 ∧ within th 1000 := by
  decide +kernel

theorem witness_SyncSteersTheDevice_3 :
    let s : State := st0 sx
    s.dev.choirAlive := by
  decide +kernel

def mtm (e : Nat) : Msg := {msg 1 (copies 48 0) with cepoch := e}

theorem witness_CantorIsFollowedOrClaimed_1 :
    let s : State := inb (cs 0) (mtm 5)
    let m : Msg := mtm 5
    let rest : List Msg := [mtm 5]
    s.dev.choirAlive ∧ s.dev.choir.inbox = m :: rest ∧ m.type = 1 ∧ s.dev.choirState = 0 ∧ s.dev.acceptsTime m ∧ s.dev.choir.time = none ∧
    m.cepoch < 65536 ∧ m.src < 16 ∧ (s.dev.peer m.src).hashed = false := by
  decide +kernel

theorem witness_CantorIsFollowedOrClaimed_2 :
    let s : State := inb (cs 4) (mtm 65535)
    let m : Msg := mtm 65535
    let rest : List Msg := [mtm 65535]
    s.dev.choirAlive ∧ s.dev.choir.inbox = m :: rest ∧ m.type = 1 ∧ s.dev.acceptsTime m = false ∧ s.dev.stale m ∧
    s.dev.rd CHOIR_COUNTS_STALE_COUNT < 65535 := by
  decide +kernel

theorem witness_CantorIsFollowedOrClaimed_3 :
    let s : State := st0 ((cs 0).wr CHOIR_STATUS_CEPOCH 65535)
    let e : Nat := 1
    s.dev.choirAlive ∧ s.dev.choirState = 0 ∧ 1 < s.dev.deviceCount ∧ (s.dev.rankOf s.dev.addr).isSome ∧ s.dev.rd APPLY_STATUS_STATE = 0 ∧
    s.dev.rd CHOIR_EVENT_ROLE = 0 ∧
    e = ((if after16 s.dev.choir.topEpoch (s.dev.rd CHOIR_STATUS_CEPOCH) = true then s.dev.choir.topEpoch else s.dev.rd CHOIR_STATUS_CEPOCH) + 1) % 65536 := by
  decide +kernel

theorem witness_CantorIsFollowedOrClaimed_4 :
    let s : State := st0 ((cs 0).wr CHOIR_ALIVE_ALIVE 0xFFFF)
    let a : Nat := 15
    a < 16 ∧ s.dev.choirAlive := by
  decide +kernel

theorem witness_ReportsOfOtherDevices_1 :
    let s : State := inb (cs 0) (msg 7 [3,9])
    let m : Msg := msg 7 [3,9]
    let rest : List Msg := [msg 7 [3,9]]
    s.dev.choirAlive ∧ s.dev.choir.inbox = m :: rest ∧ m.src < 16 ∧ m.type = 7 := by
  decide +kernel

def mh (n : Nat) : Msg := msg 5 (bytesLE 4 1 ++ bytesLE 4 n ++ bytesLE 4 9 ++ [1,0,0,0])

theorem witness_ReportsOfOtherDevices_2 :
    let s : State := inb (((cs 4).wr CHOIR_HASH 7).wr COMMON_HASH 9) (mh 7)
    let m : Msg := mh 7
    let rest : List Msg := [mh 7]
    s.dev.choirAlive ∧ s.dev.choir.inbox = m :: rest ∧ m.src < 16 ∧ m.type = 5 ∧ s.dev.choirState = 4 ∧ intAt m.payload 4 4 = s.dev.rd CHOIR_HASH ∧
    intAt m.payload 8 4 = s.dev.rd COMMON_HASH := by
  decide +kernel

theorem witness_ReportsOfOtherDevices_3 :
    let s : State := inb (((cs 4).wr CHOIR_HASH 7).wr COMMON_HASH 9) (mh 8)
    let m : Msg := mh 8
    let rest : List Msg := [mh 8]
    s.dev.choirAlive ∧ s.dev.choir.inbox = m :: rest ∧ m.src < 16 ∧ m.type = 5 ∧ s.dev.choirState = 4 ∧ intAt m.payload 4 4 ≠ s.dev.rd CHOIR_HASH ∧
    (s.dev.peer m.src).told = false := by
  decide +kernel

def ml : Msg := msg 4 (bytesLE 2 24 ++ [7,3] ++ copies 4 0 ++ copies 8 1 ++ copies 4 9)

theorem witness_ReportsOfOtherDevices_4 :
    let s : State := inb (cs 4) ml
    let m : Msg := ml
    let rest : List Msg := [ml]
    s.dev.choirAlive ∧ s.dev.choir.inbox = m :: rest ∧ m.src < 16 ∧ m.type = 4 ∧ s.dev.logQueue.length < 64 ∧ s.dev.rd LOG_STATUS_NVM_HOLD = 0 := by
  decide +kernel

def mc (k a : Nat) : Msg := msg 6 (cmdPayload k a 3 77 5)

theorem witness_CommandsOfOtherDevices_1 :
    let s : State := inb (cs 4) (mc 1 0xB1)
    let m : Msg := mc 1 0xB1
    let rest : List Msg := [mc 1 0xB1]
    s.dev.choirAlive ∧ s.dev.choir.inbox = m :: rest ∧ m.type = 6 ∧ s.dev.stale m = false ∧ m.kind = 1 ∧ s.dev.choirState = 4 := by
  decide +kernel

def ds : Dev := {(cs 3).wr APPLY_STATUS_STATE 2 with img := {ImgSt.none with commonHash := 5}}

theorem witness_CommandsOfOtherDevices_2 :
    let s : State := inb ds (mc 2 0)
    let m : Msg := mc 2 0
    let rest : List Msg := [mc 2 0]
    s.dev.choirAlive ∧ s.dev.choir.inbox = m :: rest ∧ m.type = 6 ∧ s.dev.stale m = false ∧ m.kind = 2 ∧ m.cepoch = s.dev.rd CHOIR_STATUS_CEPOCH ∧
    s.dev.rd APPLY_STATUS_STATE = 2 ∧ intAt m.payload 8 4 = s.dev.img.commonHash ∧
    (s.dev.img.legal = false ∨ s.dev.img.shut = false ∧ s.dev.rd PIN_LEVEL_SEAL_OPEN ≠ 0) := by
  decide +kernel

theorem witness_CommandsOfOtherDevices_3 :
    let s : State := inb {ds with img := ImgSt.none} (mc 2 0)
    let m : Msg := mc 2 0
    let rest : List Msg := [mc 2 0]
    let code := 15
    s.dev.choirAlive ∧ s.dev.choir.inbox = m :: rest ∧ m.type = 6 ∧ s.dev.stale m = false ∧ m.kind = 2 ∧ m.cepoch = s.dev.rd CHOIR_STATUS_CEPOCH ∧
    s.dev.rd APPLY_STATUS_STATE = 2 ∧
    (code = 15 ∧ intAt m.payload 8 4 ≠ s.dev.img.commonHash ∨ code = 14 ∧ intAt m.payload 8 4 = s.dev.img.commonHash ∧ s.dev.img.legal = true ∧ (s.dev.img.shut = true ∨ s.dev.rd PIN_LEVEL_SEAL_OPEN = 0)) := by
  decide +kernel

theorem witness_CommandsOfOtherDevices_4 :
    let s : State := inb {ds with img := {ds.img with legal := true, shut := true}} (mc 2 0)
    let m : Msg := mc 2 0
    let rest : List Msg := [mc 2 0]
    let code := 14
    s.dev.choirAlive ∧ s.dev.choir.inbox = m :: rest ∧ m.type = 6 ∧ s.dev.stale m = false ∧ m.kind = 2 ∧ m.cepoch = s.dev.rd CHOIR_STATUS_CEPOCH ∧
    s.dev.rd APPLY_STATUS_STATE = 2 ∧
    (code = 15 ∧ intAt m.payload 8 4 ≠ s.dev.img.commonHash ∨ code = 14 ∧ intAt m.payload 8 4 = s.dev.img.commonHash ∧ s.dev.img.legal = true ∧ (s.dev.img.shut = true ∨ s.dev.rd PIN_LEVEL_SEAL_OPEN = 0)) := by
  decide +kernel

theorem witness_CommandsOfOtherDevices_5 :
    let s : State := inb (cs 4) (mc 3 0)
    let m : Msg := mc 3 0
    let rest : List Msg := [mc 3 0]
    s.dev.choirAlive ∧ s.dev.choir.inbox = m :: rest ∧ m.type = 6 ∧ s.dev.stale m = false ∧ m.kind = 3 ∧ s.dev.choirState = 4 := by
  decide +kernel

theorem witness_CommandsOfOtherDevices_6 :
    let s : State := inb (cs 4) (mc 4 0)
    let m : Msg := mc 4 0
    let rest : List Msg := [mc 4 0]
    s.dev.choirAlive ∧ s.dev.choir.inbox = m :: rest ∧ m.type = 6 ∧ s.dev.stale m = false ∧ m.kind = 4 := by
  decide +kernel

theorem witness_CommandsOfOtherDevices_7 :
    let s : State := inb (cs 2) (mc 5 0)
    let m : Msg := mc 5 0
    let rest : List Msg := [mc 5 0]
    s.dev.choirAlive ∧ s.dev.choir.inbox = m :: rest ∧ m.type = 6 ∧ s.dev.stale m = false ∧ m.kind = 5 ∧ m.payload.getD 1 0 = s.dev.addr ∧
    s.dev.choirState = 2 := by
  decide +kernel

theorem witness_CommandsOfOtherDevices_8 :
    let s : State := inb {(cs 5) with choir := {ready.choir with outWhy := 3}} (mc 6 0)
    let m : Msg := mc 6 0
    let rest : List Msg := [mc 6 0]
    s.dev.choirAlive ∧ s.dev.choir.inbox = m :: rest ∧ m.type = 6 ∧ s.dev.stale m = false ∧ m.kind = 6 ∧ m.payload.getD 1 0 = s.dev.addr ∧
    s.dev.choirState = 5 ∧ s.dev.choir.outWhy = 3 := by
  decide +kernel

theorem witness_CommandsOfOtherDevices_9 :
    let s : State := inb (cs 4) (mc 7 0)
    let m : Msg := mc 7 0
    let rest : List Msg := [mc 7 0]
    s.dev.choirAlive ∧ s.dev.choir.inbox = m :: rest ∧ m.type = 6 ∧ s.dev.stale m = false ∧ m.kind = 7 ∧ s.dev.choirState = 4 := by
  decide +kernel

def ms : Msg := msg 3 (bytesLE 4 9 ++ f64Bytes (f64OfInt 8) ++ [0,0] ++ bytesLE 2 0)

def pk : Dev := {cs 4 with choir := {ready.choir with peers := [(2, {Peer.fresh with hashed := true})]}}

theorem witness_ChoirSumIsDecided_1 :
    let s : State := inb pk ms
    let m : Msg := ms
    let rest : List Msg := [ms]
    let v : SumVal := ⟨f64OfInt 8,0,0⟩
    s.dev.choirAlive ∧ s.dev.choir.inbox = m :: rest ∧ m.type = 3 ∧ s.dev.choirState = 4 ∧ s.dev.takesSum m.src ∧
    v = SumVal.mk (f64At m.payload 4) (m.payload.getD 12 0 % 16) (intAt m.payload 14 2) ∧ s.dev.choir.decided = none ∧ s.dev.openSum = none := by
  decide +kernel

theorem witness_ChoirSumIsDecided_2 :
    let s : State := inb {pk with choir := {pk.choir with decided := some 9}} ms
    let m : Msg := ms
    let rest : List Msg := [ms]
    let v : SumVal := ⟨f64OfInt 8,0,0⟩
    let q := 9
    s.dev.choirAlive ∧ s.dev.choir.inbox = m :: rest ∧ m.type = 3 ∧ s.dev.choirState = 4 ∧ s.dev.takesSum m.src ∧
    v = SumVal.mk (f64At m.payload 4) (m.payload.getD 12 0 % 16) (intAt m.payload 14 2) ∧ s.dev.choir.decided = some q ∧
    from32 q (intAt m.payload 0 4) ∧ s.dev.rd CHOIR_COUNTS_SUM_AFTER < 65535 := by
  decide +kernel

def jb : PipeJob := ⟨0, 100, 9, [], 0, some ⟨f64OfInt 3,0,0⟩, none, [], false, false, 0,0,0,0,none,[], false, f64Zero, f64Zero, 0, none⟩

def pq : Dev := {cs 4 with pipe := {Pipe.fresh with jobs := [jb]}, choir := {ready.choir with offers := [(9,1,⟨f64OfInt 8,0,0⟩),(9,2,⟨f64OfInt 8,0,0⟩)]}}

theorem witness_ChoirSumIsDecided_3 :
    let s : State := st0 pq
    let j : PipeJob := jb
    s.dev.choirAlive ∧ s.dev.choirState = 4 ∧ 1 < s.dev.deviceCount ∧ s.dev.pipe.jobs = [j] ∧ j.sum = none ∧ s.dev.choir.ops = [] ∧
    s.dev.choir.own = none ∧ s.dev.sumReasons j = (0, []) := by
  decide +kernel

def pq2 : Dev := {(pq.wr CHOIR_ALIVE_ALIVE 6).wr CHOIR_ALIVE_JOINED 4 with choir := {ready.choir with offers := [(9,1,⟨f64OfInt 8,0,0⟩)]}}

theorem witness_ChoirSumIsDecided_4 :
    let s : State := st0 pq2
    let j : PipeJob := jb
    let r := 1536
    let a := 2
    s.dev.choirAlive ∧ s.dev.choirState = 4 ∧ 1 < s.dev.deviceCount ∧ s.dev.pipe.jobs = [j] ∧ j.sum = none ∧ s.dev.choir.ops = [] ∧
    s.dev.choir.own = none ∧ s.dev.sumReasons j = (r, [a]) ∧ r ≠ 0 ∧ a < 16 ∧ s.dev.bears (0x30 + a) := by
  decide +kernel

def mr : Msg := msg 2 (bytesLE 4 9 ++ f64Bytes (f64OfInt 8) ++ [0,2] ++ bytesLE 2 0 ++ copies 16 0)

def pr : Dev := {cs 3 with pipe := {Pipe.fresh with jobs := [jb]}}

theorem witness_ResultIsAppliedOrMissed_1 :
    let s : State := inb pr mr
    let j : PipeJob := jb
    let m := mr
    let rest := [mr]
    s.dev.choirAlive ∧ s.dev.isCantor = false ∧ s.dev.choirState = 3 ∧ s.dev.pipe.jobs = [j] ∧ j.sum = none ∧ s.dev.choir.own = none ∧
    s.dev.choir.inbox = m :: rest ∧ m.type = 2 ∧ intAt m.payload 0 4 = j.pseq ∧ m.cepoch = s.dev.rd CHOIR_STATUS_CEPOCH ∧ s.dev.stale m = false ∧
    s.dev.choir.applied = none := by
  decide +kernel

theorem witness_ResultIsAppliedOrMissed_2 :
    let s : State := st0 pr
    let j : PipeJob := jb
    s.dev.choirAlive ∧ s.dev.isCantor = false ∧ s.dev.choirState = 3 ∧ s.dev.pipe.jobs = [j] ∧ j.sum = none ∧ s.dev.choir.own = none ∧
    1 < s.dev.deviceCount ∧ s.dev.bears srcDevice ∧ s.dev.rd CHOIR_EVENT_RESULT_MISS = 0 := by
  decide +kernel

theorem witness_CantorCommands_1 :
    let s : State := st0 ((cs 4).wr (STRIKE_RETIRED (0x30+15)) 1)
    let a : Nat := 15
    a < 16 ∧ s.dev.hostOpen ∧ s.dev.mayCommand ∧ s.dev.speaks ∧ s.dev.rd (STRIKE_RETIRED (0x30 + a)) = 1 := by
  decide +kernel

theorem witness_CantorCommands_2 :
    let s : State := st0 (cs 4)
    s.dev.hostOpen ∧ s.dev.mayCommand ∧ s.dev.speaks := by
  decide +kernel

theorem witness_CantorCommands_3 :
    let s : State := st0 ((cs 4).wr (LINK_BAD_SYNC_DISC 1) 4)
    s.dev.hostOpen := by
  decide +kernel

end WitnessChoir

namespace WitnessConfig

theorem witness_ApplyIsStartedOrCancelled_1 :
    let s : State := st0 ready
    let c : Instr := .applyLoad
    let load : Bool := true
    (c, load) ∈ [(Instr.apply, false), (Instr.applyLoad, true)] ∧ s.dev.hostOpen ∧ s.dev.mayApply := by
  decide +kernel

theorem witness_ApplyIsStartedOrCancelled_2 :
    let s : State := st0 (ready.wr APPLY_STATUS_STATE 2)
    s.dev.hostOpen ∧ s.dev.mayCancel := by
  decide +kernel

theorem witness_ApplyIsStartedOrCancelled_3 :
    let s : State := st0 ((ready.wr PIN_LEVEL_SEAL_OPEN 1).wr FUSE_STAGE 7)
    s.dev.hostOpen ∧ s.dev.mayFuse := by
  decide +kernel

theorem witness_ApplyIsStartedOrCancelled_4 :
    let s : State := st0 ready
    s.dev.hostOpen ∧ s.dev.mayFuse := by
  decide +kernel

theorem witness_ApplyIsStartedOrCancelled_5 :
    let s : State := st0 {ready with fuses := {keySet := true, keyHash := 3}}
    s.dev.hostOpen ∧ s.dev.mayFuse = false := by
  decide +kernel

def va : Dev := {(ready.wr APPLY_STATUS_STATE 1) with img := {ImgSt.none with slot := 1}}

def vv : Verdict := Verdict.no 1 0xFFFFFFFF

theorem witness_ValidationStagesOrRefuses_1 :
    let s : State := st0 va
    let v : Verdict := vv
    s.dev.nvmReady ∧ s.dev.rd APPLY_STATUS_STATE = 1 ∧
    v = validate (s.dev.slotBytes s.dev.img.slot) (if s.dev.rd (slotFld s.dev.img.slot) = 5 then [] else [1]) s.dev.fuses.keySet s.dev.fuses.keyHash (if s.dev.is CFG_STATUS_CONFIGURED = true then some (s.dev.rd CHOIR_CFG_RATE) else none) := by
  decide +kernel

theorem witness_ValidationStagesOrRefuses_2 :
    let s : State := st0 va
    s.dev.nvmReady ∧ s.dev.rd APPLY_STATUS_STATE = 1 ∧ s.dev.bears srcDevice := by
  decide +kernel

def cm : Dev := {(ready.wr APPLY_STATUS_STATE 3).wr CFG_STATUS_CONFIGURED 1 with img := {ImgSt.none with slot := 1}}

theorem witness_ImageIsCommittedAndTakenUp_1 :
    let s : State := st0 cm
    let g : Nat := 1
    let o : Nat := 0
    s.dev.nvmReady ∧ s.dev.rd APPLY_STATUS_STATE = 3 ∧ s.dev.rd CFG_STATUS_CONFIGURED = 1 ∧ s.dev.img.legal = false ∧ s.dev.img.slot = g ∧
    s.dev.rd CFG_STATUS_ACTIVE_SLOT = o ∧ s.dev.img.step = 0 := by
  decide +kernel

theorem witness_ImageIsCommittedAndTakenUp_2 :
    let s : State := st0 cm
    let g : Nat := 1
    let o : Nat := 0
    let n : Nat := 2
    s.dev.nvmReady ∧ s.dev.rd APPLY_STATUS_STATE = 3 ∧ s.dev.rd CFG_STATUS_CONFIGURED = 1 ∧ s.dev.img.legal = false ∧ s.dev.img.slot = g ∧
    s.dev.rd CFG_STATUS_ACTIVE_SLOT = o ∧ (n = 2 ∧ s.dev.img.step = 0 ∨ n = 3 ∧ s.dev.img.step = 2) ∧ s.dev.bears srcDevice := by
  decide +kernel

def sb : Dev := {((((ready.wr APPLY_STATUS_STATE 4).wr CFG_STATUS_CONFIGURED 1).wr (TIMER_STATUS_RUNNING 0) 1).wr (TIMER_LENGTH_US 0) 10) with img := {ImgSt.none with slot := 1, table := [(SCRATCH_DATA.key, 9), ((TIMER_LENGTH_US 0).key, 5)]}}

theorem witness_ImageIsCommittedAndTakenUp_3 :
    let s : State := st0 sb
    s.dev.alive ∧ s.dev.sckOpen ∧ s.dev.rd (TIMER_STATUS_RUNNING s.dev.pipeTimer) = 1 ∧ s.dev.rd APPLY_STATUS_STATE = 4 ∧ s.dev.mode = 1 ∧
    s.dev.img.named = none ∧ s.dev.choir.resetAt = none := by
  decide +kernel

theorem witness_ImageIsCommittedAndTakenUp_4 :
    let s : State := st0 (ready.wr APPLY_STATUS_STATE 5)
    s.dev.alive ∧ s.dev.rd APPLY_STATUS_STATE = 5 ∧ s.dev.rd APPLY_STATUS_TRANS_LEFT = 0 ∧ s.dev.img.refGroup = false ∧ s.dev.img.pins = 0 := by
  decide +kernel

theorem witness_ImageIsCommittedAndTakenUp_5 :
    let s : State := st0 { cm with img := { cm.img with step := 2 } }
    let g : Nat := 1
    let o : Nat := 0
    s.dev.nvmReady ∧ s.dev.rd APPLY_STATUS_STATE = 3 ∧ s.dev.rd CFG_STATUS_CONFIGURED = 1 ∧ s.dev.img.legal = false ∧ s.dev.img.slot = g ∧
    s.dev.rd CFG_STATUS_ACTIVE_SLOT = o ∧ s.dev.img.step = 2 ∧ s.dev.img.load = false ∧ s.dev.rd APPLY_STATUS_CHOIR_WIDE = 0 := by
  decide +kernel

theorem witness_ImageIsCommittedAndTakenUp_6 :
    let s : State := st0 { cm with img := { cm.img with step := 2 } }
    let g : Nat := 1
    let o : Nat := 0
    let n : Nat := 3
    s.dev.nvmReady ∧ s.dev.rd APPLY_STATUS_STATE = 3 ∧ s.dev.rd CFG_STATUS_CONFIGURED = 1 ∧ s.dev.img.legal = false ∧ s.dev.img.slot = g ∧
    s.dev.rd CFG_STATUS_ACTIVE_SLOT = o ∧ (n = 2 ∧ s.dev.img.step = 0 ∨ n = 3 ∧ s.dev.img.step = 2) ∧ s.dev.bears srcDevice := by
  decide +kernel

end WitnessConfig

namespace WitnessHost

def rr (a : Nat) := Instr.quadRead a 1 none []

theorem witness_HostReadsAnswer_1 :
    let s : State := st0 (ready.wr SCRATCH_DATA 0xFFFFFFFE)
    let c : Instr := rr SCRATCH_DATA.word
    let a : Nat := SCRATCH_DATA.word
    let n : Nat := 1
    c ∈ [Instr.read a n none [], Instr.fastRead a n none [], Instr.quadRead a n none [], Instr.qioRead a n none []] ∧ a < 2 ^ 24 ∧ s.dev.alive ∧
    s.dev.rd HOST_STATUS_CRC_ACTIVE = 0 ∧ n = 1 ∧ a % 4 = 0 ∧ s.dev.readServed a ∧ mapped a ∧ s.dev.beginRead.badEntry a = false := by
  decide +kernel

theorem witness_HostReadsAnswer_2 :
    let s : State := st0 ready
    let c : Instr := rr 0xFFFFFC
    let a : Nat := 0xFFFFFC
    let n : Nat := 1
    c ∈ [Instr.read a n none [], Instr.fastRead a n none [], Instr.quadRead a n none [], Instr.qioRead a n none []] ∧ a < 2 ^ 24 ∧ s.dev.alive ∧
    s.dev.rd HOST_STATUS_CRC_ACTIVE = 0 ∧ n = 1 ∧ a % 4 = 0 ∧ s.dev.readServed a ∧ mapped a = false := by
  decide +kernel

theorem witness_HostReadsAnswer_3 :
    let s : State := st0 (ready.wr POWER_STATUS_STATE 0)
    let c : Instr := rr 0
    let a : Nat := 0
    let n : Nat := 1
    c ∈ [Instr.read a n none [], Instr.fastRead a n none [], Instr.quadRead a n none [], Instr.qioRead a n none []] ∧ a < 2 ^ 24 ∧ s.dev.alive ∧
    s.dev.rd HOST_STATUS_CRC_ACTIVE = 0 ∧ n = 1 ∧ a % 4 = 0 ∧ s.dev.readServed a = false := by
  decide +kernel

theorem witness_HostReadsAnswer_4 :
    let s : State := st0 ready
    let c : Instr := .read 0xFFFFFF 2 none []
    let a : Nat := 0xFFFFFF
    let n : Nat := 2
    c ∈ [Instr.read a n none [], Instr.fastRead a n none [], Instr.quadRead a n none [], Instr.qioRead a n none []] ∧ a < 2 ^ 24 ∧ s.dev.alive ∧
    s.dev.rd HOST_STATUS_CRC_ACTIVE = 0 ∧ a % 4 ≠ 0 := by
  decide +kernel

theorem witness_HostReadsAnswer_5 :
    let s : State := st0 ready
    let c : Instr := .qioRead 0 1 (some 0) []
    let a : Nat := 0
    c ∈ [Instr.read a 1 (some 0) [], Instr.fastRead a 1 (some 0) [], Instr.quadRead a 1 (some 0) [], Instr.qioRead a 1 (some 0) []] ∧ a < 2 ^ 24 ∧
    s.dev.rd HOST_STATUS_CRC_ACTIVE = 0 ∧ a % 4 = 0 ∧ s.dev.readServed a := by
  decide +kernel

theorem witness_HostReadsAnswer_6 :
    let s : State := st0 ready
    s.dev.alive := by
  decide +kernel

theorem witness_HostReadsAnswer_7 :
    let s : State := st0 ready
    let code : Nat := 255
    s.dev.alive ∧ code < 256 ∧ code ∉ commandBytes := by
  decide +kernel

theorem witness_HostReadsAnswer_8 :
    let s : State := st0 ready
    let code : Nat := 0
    s.dev.alive ∧ code < 256 ∧ code ∉ commandBytes := by
  decide +kernel

def ww (a v : Nat) := Instr.quadWrite a (bytesLE 4 v) 0

def fl (a : Nat) : Fld := match fieldsAt a with | some [f] => f | _ => SCRATCH_DATA

theorem witness_HostWritesAreJudged_1 :
    let s : State := st0 ready
    let c : Instr := ww SCRATCH_DATA.word 0xFFFFFFFF
    let a : Nat := SCRATCH_DATA.word
    let v : Nat := 0xFFFFFFFF
    let f : Fld := SCRATCH_DATA
    c ∈ [Instr.write a (bytesLE 4 v) 0, Instr.quadWrite a (bytesLE 4 v) 0, Instr.qioWrite a (bytesLE 4 v) 0] ∧ a % 4 = 0 ∧ a < 2 ^ 24 ∧ v < 2 ^ 32 ∧
    s.dev.hostOpen ∧ s.dev.rd HOST_STATUS_CRC_ACTIVE = 0 ∧ a / 0x100 ≠ 9 ∧ fieldsAt a = some [f] ∧ f.word = a ∧ f.key % 32 + f.width ≤ 32 ∧
    f.key ≠ HOST_STATUS_LAST_CODE.key ∧ f.acc = .rw := by
  decide +kernel

theorem witness_HostWritesAreJudged_2 :
    let s : State := st0 ready
    let c : Instr := ww 0x80C 5
    let a : Nat := 0x80C
    let v : Nat := 5
    let f : Fld := fl 0x80C
    c ∈ [Instr.write a (bytesLE 4 v) 0, Instr.quadWrite a (bytesLE 4 v) 0, Instr.qioWrite a (bytesLE 4 v) 0] ∧ a % 4 = 0 ∧ a < 2 ^ 24 ∧ v < 2 ^ 32 ∧
    s.dev.hostOpen ∧ s.dev.rd HOST_STATUS_CRC_ACTIVE = 0 ∧ a / 0x100 ≠ 9 ∧ fieldsAt a = some [f] ∧ f.word = a ∧ f.key % 32 + f.width ≤ 32 ∧
    f.key ≠ HOST_STATUS_LAST_CODE.key ∧ f.acc = .ro ∧ f.ofWord a v ≠ f.partAt a (s.dev.visible f) := by
  decide +kernel

theorem witness_HostWritesAreJudged_3 :
    let s : State := st0 ready
    let c : Instr := ww 2048 1
    let a : Nat := 2048
    let v : Nat := 1
    let f : Fld := fl 2048
    c ∈ [Instr.write a (bytesLE 4 v) 0, Instr.quadWrite a (bytesLE 4 v) 0, Instr.qioWrite a (bytesLE 4 v) 0] ∧ a % 4 = 0 ∧ a < 2 ^ 24 ∧ v < 2 ^ 32 ∧
    s.dev.hostOpen ∧ s.dev.rd HOST_STATUS_CRC_ACTIVE = 0 ∧ a / 0x100 ≠ 9 ∧ fieldsAt a = some [f] ∧ f.word = a ∧ f.key % 32 + f.width ≤ 32 ∧
    f.key ≠ HOST_STATUS_LAST_CODE.key ∧ f.acc = .im ∧ f.ofWord a v ≠ f.partAt a (s.dev.visible f) := by
  decide +kernel

theorem witness_HostWritesAreJudged_4 :
    let s : State := st0 ready
    let c : Instr := ww 4112 1
    let a : Nat := 4112
    let v : Nat := 1
    let f : Fld := fl 4112
    c ∈ [Instr.write a (bytesLE 4 v) 0, Instr.quadWrite a (bytesLE 4 v) 0, Instr.qioWrite a (bytesLE 4 v) 0] ∧ a % 4 = 0 ∧ a < 2 ^ 24 ∧ v < 2 ^ 32 ∧
    s.dev.hostOpen ∧ s.dev.rd HOST_STATUS_CRC_ACTIVE = 0 ∧ a / 0x100 ≠ 9 ∧ fieldsAt a = some [f] ∧ f.word = a ∧ f.key % 32 + f.width ≤ 32 ∧
    f.key ≠ HOST_STATUS_LAST_CODE.key ∧ f.acc = .iml ∧ f.ofWord a v ≠ f.partAt a (s.dev.visible f) := by
  decide +kernel

theorem witness_HostWritesAreJudged_5 :
    let s : State := st0 ready
    let a : Nat := 4112
    let v : Nat := 1
    let f : Fld := fl 4112
    a % 4 = 0 ∧ a < 2 ^ 24 ∧ v < 2 ^ 32 ∧ s.dev.hostOpen ∧ a / 0x100 ≠ 9 ∧ fieldsAt a = some [f] ∧ f.word = a ∧ f.key % 32 + f.width ≤ 32 ∧
    f.acc = .iml ∧ f.ofWord a v ≠ f.partAt a (s.dev.visible f) := by
  decide +kernel

theorem witness_HostWritesAreJudged_6 :
    let s : State := st0 ready
    let a : Nat := SCRATCH_DATA.word
    let v : Nat := 0xFFFFFFFF
    let f : Fld := SCRATCH_DATA
    a % 4 = 0 ∧ a < 2 ^ 24 ∧ v < 2 ^ 32 ∧ s.dev.hostOpen ∧ a / 0x100 ≠ 9 ∧ fieldsAt a = some [f] ∧ f.word = a ∧ f.key % 32 + f.width ≤ 32 ∧
    f.acc = .rw := by
  decide +kernel

def un : Dev := {(ready.putRing 23 {Ring.fresh with ents := [1], headRead := 1, back := [3]}).wr (RING_FILL_WORDS 23) 0 with host := {ready.host with latest := true, moved := [(23, 3)]}}

theorem witness_HostWritesAreJudged_7 :
    let s : State := st0 (un.wr (RING_CFG_SIZE 23) 10)
    let n : Nat := 23
    let q : List Nat × Nat × List Nat := ([3, 1], 2, [])
    n < 24 ∧ s.dev.hostOpen ∧ s.dev.unreadTo n = some q := by
  decide +kernel

theorem witness_HostWritesAreJudged_8 :
    let s : State := st0 ((un.wr (RING_CFG_SIZE 23) 10).wr (RING_CFG_WATERMARK 23) 1 |>.wr (RING_FILL_WORDS 23) 254)
    let n : Nat := 23
    let q : List Nat × Nat × List Nat := ([3, 1], 2, [])
    n < 24 ∧ s.dev.hostOpen ∧ s.dev.unreadTo n = some q := by
  decide +kernel

theorem witness_HostWritesAreJudged_9 :
    let s : State := st0 ready
    let n : Nat := 23
    n < 24 ∧ s.dev.hostOpen ∧ s.dev.unreadTo n = none := by
  decide +kernel

def pt : Dev := (ready.wr NVM_PT_LEN 256).wr NVM_PT_ADDR 0x100000

def runp (n a : Nat) : Dev := {(pt.wr NVM_PT_STATUS_STATE 1).wr NVM_PT_STATUS_OPS 65535 with host := {pt.host with ptCode := n, ptAddr := a, ptLen := 256}}

theorem witness_PassThroughOperatesTheNvm_1 :
    let s : State := st0 (pt.wr NVM_INFO_SIZE_LOG2 24)
    let c : Instr := .ptRead
    let code : Nat := 0x31
    (c, code) ∈ [(Instr.ptRead, 0x31), (Instr.ptProgram, 0x32), (Instr.ptErase, 0x33), (Instr.slotErase, 0x34)] ∧ s.dev.hostOpen ∧
    s.dev.rd NVM_PT_STATUS_STATE = 0 ∧ s.dev.ptRefusal code = 0 := by
  decide +kernel

theorem witness_PassThroughOperatesTheNvm_2 :
    let s : State := st0 pt
    let c : Instr := .ptErase
    let code : Nat := 0x33
    (c, code) ∈ [(Instr.ptRead, 0x31), (Instr.ptProgram, 0x32), (Instr.ptErase, 0x33), (Instr.slotErase, 0x34)] ∧ s.dev.hostOpen ∧
    s.dev.rd NVM_PT_STATUS_STATE = 0 ∧ s.dev.ptRefusal code ≠ 0 := by
  decide +kernel

theorem witness_PassThroughOperatesTheNvm_3 :
    let s : State := st0 (runp 0x31 0xFFFF00)
    let a : Nat := 0xFFFF00
    s.dev.ptRuns ∧ s.dev.host.ptAddr = a ∧ s.dev.host.ptCode = 0x31 := by
  decide +kernel

theorem witness_PassThroughOperatesTheNvm_4 :
    let s : State := st0 (runp 0x32 0xFFFF00)
    let a : Nat := 0xFFFF00
    s.dev.ptRuns ∧ s.dev.host.ptAddr = a ∧ s.dev.host.ptCode = 0x32 := by
  decide +kernel

theorem witness_PassThroughOperatesTheNvm_5 :
    let s : State := st0 (runp 0x33 0x10000)
    let a : Nat := 0x10000
    s.dev.ptRuns ∧ s.dev.host.ptAddr = a ∧ s.dev.host.ptCode = 0x33 := by
  decide +kernel

theorem witness_PassThroughOperatesTheNvm_6 :
    let s : State := st0 ((runp 0x32 0).wr STRIKE_CFG_RETIRE 3)
    let c : Instr := .ptTimeout
    c ∈ [Instr.ptDone true, Instr.ptTimeout] ∧ s.dev.ptRuns ∧ s.dev.host.ptCode = 0x32 ∧ s.dev.bears srcDevice := by
  decide +kernel

theorem witness_PassThroughOperatesTheNvm_7 :
    let s : State := st0 ((runp 0x32 0).wr STRIKE_CFG_RETIRE 3)
    let c : Instr := .ptDone true
    c ∈ [Instr.ptDone true, Instr.ptTimeout] ∧ s.dev.ptRuns ∧ s.dev.host.ptCode = 0x32 ∧ s.dev.bears srcDevice := by
  decide +kernel

theorem witness_TapInstructionsActOnTheDevice_1 :
    let s : State := st0 (runp 0x31 0)
    let c : Instr := .highz
    let k : Nat := 4
    (c, k) ∈ [(Instr.extest, 0), (Instr.clamp, 3), (Instr.highz, 4)] ∧ s.dev.power.good := by
  decide +kernel

theorem witness_TapInstructionsActOnTheDevice_2 :
    let s : State := st0 ready
    let c : Instr := .idcode
    let k : Nat := 1
    (c, k) ∈ [(Instr.idcode, 1), (Instr.samplePreload, 2), (Instr.bypass, 31)] ∧ s.dev.power.good ∧ s.dev.host.tap ∈ [1, 2, 31] := by
  decide +kernel

def tap (n : Nat) : Dev := {ready with host := {ready.host with tap := n}}

theorem witness_TapInstructionsActOnTheDevice_3 :
    let s : State := st0 (tap 30)
    s.dev.power.good ∧ s.dev.power.testHeld = false ∧ s.dev.host.tap ∉ [1, 2, 31] := by
  decide +kernel

theorem witness_TapInstructionsActOnTheDevice_4 :
    let s : State := st0 (tap 0)
    s.dev.power.good ∧ s.dev.power.testHeld = false ∧ s.dev.host.tap ∉ [1, 2, 31] := by
  decide +kernel

theorem witness_TapInstructionsActOnTheDevice_5 :
    let s : State := st0 (ready.wr PIN_LEVEL_SEAL_OPEN 0)
    let k : Nat := 30
    tapPrivate k ∧ k < 32 ∧ s.dev.power.good ∧ s.dev.host.tap ∈ [1, 2, 31] ∧ s.dev.rd PIN_LEVEL_SEAL_OPEN = 0 := by
  decide +kernel

theorem witness_TapInstructionsActOnTheDevice_6 :
    let s : State := st0 (ready.wr PIN_LEVEL_SEAL_OPEN 1)
    let k : Nat := 5
    tapPrivate k ∧ k < 32 ∧ s.dev.power.good ∧ s.dev.host.tap ∈ [1, 2, 31] ∧ s.dev.rd PIN_LEVEL_SEAL_OPEN = 1 ∧ s.dev.alive ∧ s.dev.mode ≠ 5 := by
  decide +kernel

end WitnessHost

namespace WitnessLog

def bk : Dev := {ready with power := {ready.power with backup := true}}

theorem witness_CalendarCountsAndIsSet_1 :
    let s : State := st0 ((bk.wr CAL_STATUS_VALID 1).wr CAL_NOW_CAL (calMake 2100 2 28 23 59 59))
    s.dev.power.backup ∧ s.dev.alive ∧ s.dev.epsKnown = false := by
  decide +kernel

theorem witness_CalendarCountsAndIsSet_2 :
    let s : State := st0 (bk.wr CAL_NOW_CAL calLast)
    s.dev.power.backup ∧ s.dev.alive ∧ s.dev.epsKnown = false := by
  decide +kernel

theorem witness_CalendarCountsAndIsSet_3 :
    let s : State := st0 ((bk.wr CAL_NOW_CAL calLast).wr CAL_STATUS_END 1)
    s.dev.power.backup ∧ s.dev.alive ∧ s.dev.epsKnown = false := by
  decide +kernel

theorem witness_CalendarCountsAndIsSet_4 :
    let s : State := st0 bk
    s.dev.power.backup ∧ s.dev.alive ∧ s.dev.epsKnown = false := by
  decide +kernel

def cset (c : Nat) : Dev := ready.wr CAL_SET_CAL c

theorem witness_CalendarCountsAndIsSet_5 :
    let s : State := st0 (cset (calMake 2000 2 29 0 0 0))
    let c : Nat := calMake 2000 2 29 0 0 0
    let r : Nat := 0
    s.dev.hostOpen ∧ s.dev.calst.waiting = none ∧ s.dev.calSet = c ∧ s.dev.calReject c = r ∧ r = 0 := by
  decide +kernel

theorem witness_CalendarCountsAndIsSet_6 :
    let s : State := st0 (cset (calMake 2100 2 29 0 0 0))
    let c : Nat := calMake 2100 2 29 0 0 0
    let r : Nat := 1
    s.dev.hostOpen ∧ s.dev.calst.waiting = none ∧ s.dev.calSet = c ∧ s.dev.calReject c = r ∧ r ≠ 0 := by
  decide +kernel

def wt (c : Nat) : Dev := {ready with calst := {ready.calst with waiting := some (c,0)}}

theorem witness_CalendarCountsAndIsSet_7 :
    let s : State := st0 (wt 0)
    s.dev.hostOpen ∧ s.dev.calst.waiting ≠ none := by
  decide +kernel

theorem witness_CalendarCountsAndIsSet_8 :
    let s : State := st0 ((wt (calMake 2999 12 31 23 59 59)).wr CAL_STATUS_VALID 1)
    let c : Nat := calMake 2999 12 31 23 59 59
    s.dev.alive ∧ s.dev.calst.waiting = some (c, 0) ∧ s.dev.followsCantor = false ∧ s.dev.epsKnown = false := by
  decide +kernel

def lg : Dev := {((ready.wr LOG_STATUS_MOUNTED 1).wr STRIKE_CFG_RETIRE 3) with logs := {ready.logs with base := 0x100000, size := 0x100000, active := some 8, pos := 4076}, logQueue := [{kind := 8, origin := 0, cal := 0, payload := []}]}

def rb : List Nat := recordBytes 8 0 1 0 []

theorem witness_RecordsAreWrittenAndRetried_1 :
    let s : State := st0 lg
    let n : Nat := 8
    let a : Nat := 0x100000+8*4096+4076
    let r : LogRec := {kind := 8, origin := 0, cal := 0, payload := []}
    let q : List LogRec := []
    let b : List Nat := rb
    s.dev.nvmReady ∧ s.dev.rd LOG_STATUS_MOUNTED = 1 ∧ s.dev.logQueue = r :: q ∧ s.dev.journalFull = false ∧
    b = recordBytes r.kind r.origin s.dev.nextRseq r.cal r.payload ∧ s.dev.fits b.length ∧ s.dev.logs.active = some n ∧
    a = s.dev.sectorAddr n + s.dev.logs.pos ∧ r.kind ≠ 11 ∧ s.dev.rd LOG_STATUS_NVM_HOLD = 0 := by
  decide +kernel

theorem witness_RecordsAreWrittenAndRetried_2 :
    let s : State := st0 lg
    let n : Nat := 8
    let a : Nat := 0x100000+8*4096+4076
    let r : LogRec := {kind := 8, origin := 0, cal := 0, payload := []}
    let q : List LogRec := []
    let b : List Nat := rb
    s.dev.nvmReady ∧ s.dev.rd LOG_STATUS_MOUNTED = 1 ∧ s.dev.logQueue = r :: q ∧ s.dev.journalFull = false ∧
    b = recordBytes r.kind r.origin s.dev.nextRseq r.cal r.payload ∧ s.dev.fits b.length ∧ s.dev.logs.active = some n ∧
    a = s.dev.sectorAddr n + s.dev.logs.pos ∧ r.kind ≠ 11 ∧ s.dev.rd LOG_STATUS_NVM_HOLD = 0 ∧ s.dev.bears srcDevice := by
  decide +kernel

def lh : Dev := (lg.putLogs {lg.logs with retry := 1}).wr LOG_STATUS_NVM_HOLD 1

theorem witness_RecordsAreWrittenAndRetried_3 :
    let s : State := st0 lh
    let n : Nat := 8
    let a : Nat := 0x100000+8*4096+4076
    let r : LogRec := {kind := 8, origin := 0, cal := 0, payload := []}
    let q : List LogRec := []
    let b : List Nat := rb
    s.dev.nvmReady ∧ s.dev.rd LOG_STATUS_MOUNTED = 1 ∧ s.dev.logQueue = r :: q ∧ s.dev.journalFull = false ∧
    b = recordBytes r.kind r.origin s.dev.nextRseq r.cal r.payload ∧ s.dev.fits b.length ∧ s.dev.logs.active = some n ∧
    a = s.dev.sectorAddr n + s.dev.logs.pos ∧ r.kind ≠ 11 ∧ s.dev.rd LOG_STATUS_NVM_HOLD = 1 ∧ s.dev.logs.retry = 1 ∧ s.dev.logLost = 0 := by
  decide +kernel

def cl (n : Nat) : Dev := lg.putLogs {lg.logs with coll := some { src := 8, dst := some 9, step := n }}

theorem witness_RecordsAreWrittenAndRetried_4 :
    let s : State := st0 (cl 2)
    let c : Collect := { src := 8, dst := some 9, step := 2 }
    let n : Nat := 9
    s.dev.logReady ∧ s.dev.logs.coll = some c ∧ c.dst = some n ∧ c.step = 2 := by
  decide +kernel

theorem witness_RecordsAreWrittenAndRetried_5 :
    let s : State := st0 (cl 3)
    let c : Collect := { src := 8, dst := some 9, step := 3 }
    let n : Nat := 9
    s.dev.logReady ∧ s.dev.logs.coll = some c ∧ c.dst = some n ∧ c.step = 3 := by
  decide +kernel

theorem witness_RecordsAreWrittenAndRetried_6 :
    let s : State := st0 (cl 4)
    let c : Collect := { src := 8, dst := some 9, step := 4 }
    let n : Nat := 9
    s.dev.logReady ∧ s.dev.logs.coll = some c ∧ c.dst = some n ∧ c.step = 4 := by
  decide +kernel

theorem witness_RecordsAreWrittenAndRetried_7 :
    let s : State := st0 (cl 5)
    let c : Collect := { src := 8, dst := some 9, step := 5 }
    let n : Nat := 9
    s.dev.logReady ∧ s.dev.logs.coll = some c ∧ c.dst = some n ∧ c.step = 5 := by
  decide +kernel

def rr0 : LogRec := {kind := 8, origin := 0, cal := 0, payload := []}

def te : TotEntry := { cause := 2, total := 2^64-1, res := 1, prov := 2, provCount := 3, printCount := 2^32-1, rev := 4, delta := 0 }

def td (p : Bool) : Dev := lg.putLogs {lg.logs with tot := [te], phase1 := p, totNext := 503}

theorem witness_TotaliserTakesTwoPhases_1 :
    let s : State := st0 (td false)
    let e : TotEntry := te
    let q : List TotEntry := []
    s.dev.logReady ∧ s.dev.logs.tot = e :: q ∧ s.dev.logs.phase1 = false ∧ s.dev.logs.totNext % 63 ≠ 0 := by
  decide +kernel

theorem witness_TotaliserTakesTwoPhases_2 :
    let s : State := st0 (td true)
    let e : TotEntry := te
    let q : List TotEntry := []
    s.dev.logReady ∧ s.dev.logs.tot = e :: q ∧ s.dev.logs.phase1 ∧ (e.cause = 6 ∨ s.dev.rd TOT_CFG_SRC = 0) := by
  decide +kernel

theorem witness_TotaliserTakesTwoPhases_3 :
    let s : State := st0 (td true)
    let e : TotEntry := te
    let q : List TotEntry := []
    s.dev.logReady ∧ s.dev.logs.tot = e :: q ∧ s.dev.logs.phase1 ∧ s.dev.bears srcDevice := by
  decide +kernel

theorem witness_LogReadingIsOpen_1 :
    let s : State := st0 ready
    let c : Instr := .loadRecord
    let k : Nat := 1
    (c, k) ∈ [(Instr.loadRecord, 1), (Instr.loadAuditRecord, 2)] ∧ s.dev.hostOpen ∧ s.dev.rd LOG_READ_BUSY = 0 := by
  decide +kernel

theorem witness_LogReadingIsOpen_2 :
    let s : State := st0 (ready.wr LOG_READ_BUSY 1)
    let c : Instr := .loadAuditRecord
    let k : Nat := 2
    (c, k) ∈ [(Instr.loadRecord, 1), (Instr.loadAuditRecord, 2)] ∧ s.dev.hostOpen ∧ s.dev.rd LOG_READ_BUSY ≠ 0 := by
  decide +kernel

theorem witness_LogReadingIsOpen_3 :
    let s : State := st0 ready
    let v : Nat := 0xC1
    v ∈ [0xC1, 0xC3] ∧ s.dev.hostOpen ∧ s.dev.rd HOST_STATUS_CRC_ACTIVE = 0 ∧ s.dev.rd LOG_READ_BUSY = 0 := by
  decide +kernel

theorem witness_LogReadingIsOpen_4 :
    let s : State := st0 (ready.wr LOG_READ_BUSY 1)
    let v : Nat := 0xC3
    v ∈ [0xC1, 0xC3] ∧ s.dev.hostOpen ∧ s.dev.rd HOST_STATUS_CRC_ACTIVE = 0 ∧ s.dev.rd LOG_READ_BUSY ≠ 0 := by
  decide +kernel

def ld (k : Nat) : Dev := (lg.wr LOG_READ_BUSY 1).putLogs {lg.logs with load := k}

def lrec : Dev := let b := recordBytes 8 0 1 0 []; let d := (ld 1).program (0x100000+8*4096) (sectorHeader 3 0x7F 1 0xFFFFFFFF); d.program (0x100000+8*4096+32) b

theorem witness_LogReadingIsOpen_5 :
    let s : State := st0 lrec
    let cur : Nat := 0
    s.dev.alive ∧ s.dev.mode ≠ 3 ∧ s.dev.rd TB_STATUS_FCK_SRC = 0 ∧ s.dev.rd LOG_READ_BUSY ≠ 0 ∧ s.dev.logs.load = 1 ∧ s.dev.rd LOG_CUR_CUR = cur ∧
    s.dev.rd LOG_STATUS_MOUNTED ≠ 0 ∧ (∃ r ∈ s.dev.records, cur ≤ r.rseq) := by
  decide +kernel

theorem witness_LogReadingIsOpen_6 :
    let s : State := st0 (lrec.wr LOG_CUR_CUR 2)
    let cur : Nat := 2
    s.dev.alive ∧ s.dev.mode ≠ 3 ∧ s.dev.rd TB_STATUS_FCK_SRC = 0 ∧ s.dev.rd LOG_READ_BUSY ≠ 0 ∧ s.dev.logs.load = 1 ∧ s.dev.rd LOG_CUR_CUR = cur ∧
    (s.dev.rd LOG_STATUS_MOUNTED = 0 ∨ (∀ r ∈ s.dev.records, r.rseq < cur)) := by
  decide +kernel

theorem witness_LogReadingIsOpen_7 :
    let s : State := st0 (lrec.wr LOG_STATUS_MOUNTED 0)
    let cur : Nat := 0
    s.dev.alive ∧ s.dev.mode ≠ 3 ∧ s.dev.rd TB_STATUS_FCK_SRC = 0 ∧ s.dev.rd LOG_READ_BUSY ≠ 0 ∧ s.dev.logs.load = 1 ∧ s.dev.rd LOG_CUR_CUR = cur ∧
    (s.dev.rd LOG_STATUS_MOUNTED = 0 ∨ (∀ r ∈ s.dev.records, r.rseq < cur)) := by
  decide +kernel

theorem witness_LogReadingIsOpen_8 :
    let s : State := st0 ((ld 2).wr AUDIT_USED 1)
    let i : Nat := 0
    s.dev.alive ∧ s.dev.mode ≠ 3 ∧ s.dev.rd TB_STATUS_FCK_SRC = 0 ∧ s.dev.rd LOG_READ_BUSY ≠ 0 ∧ s.dev.logs.load = 2 ∧ s.dev.rd AUDIT_SEL_INDEX = i ∧
    s.dev.rd LOG_STATUS_MOUNTED ≠ 0 ∧ i < s.dev.rd AUDIT_USED := by
  decide +kernel

theorem witness_LogReadingIsOpen_9 :
    let s : State := st0 (ld 2)
    let i : Nat := 0
    s.dev.alive ∧ s.dev.mode ≠ 3 ∧ s.dev.rd TB_STATUS_FCK_SRC = 0 ∧ s.dev.rd LOG_READ_BUSY ≠ 0 ∧ s.dev.logs.load = 2 ∧ s.dev.rd AUDIT_SEL_INDEX = i ∧
    (s.dev.rd LOG_STATUS_MOUNTED = 0 ∨ s.dev.rd AUDIT_USED ≤ i) := by
  decide +kernel

theorem witness_LogReadingIsOpen_10 :
    let s : State := st0 (ld 2)
    s.dev.alive ∧ s.dev.mode ≠ 3 ∧ s.dev.rd TB_STATUS_FCK_SRC = 0 ∧ s.dev.rd LOG_READ_BUSY ≠ 0 := by
  decide +kernel

end WitnessLog

namespace WitnessPower

theorem witness_PowerComesAndGoes_1 :
    let s : State := st0 Dev.off
    let straps : Nat := 15
    straps < 16 ∧ s.dev.power.good = false := by
  decide +kernel

theorem witness_PowerComesAndGoes_2 :
    let s : State := st0 Dev.off
    let straps : Nat := 0
    straps < 16 ∧ s.dev.power.good = false := by
  decide +kernel

theorem witness_PowerComesAndGoes_3 :
    let s : State := st0 ready
    let rails : Nat := 24
    0 < rails ∧ rails < 32 ∧ s.dev.power.good ∧ s.dev.rd NVM_PT_STATUS_STATE = 0 := by
  decide +kernel

theorem witness_PowerComesAndGoes_4 :
    let s : State := st0 ready
    s.dev.power.good := by
  decide +kernel

theorem witness_PowerComesAndGoes_5 :
    let s : State := st0 {Dev.off with regs := ready.regs}
    s.dev.power.good = false := by
  decide +kernel

def due : Dev := {(ready.putTimer 0 {ready.timer 0 with prev := some default}) with choir := {ready.choir with resetAt := some 0}}

theorem witness_PowerComesAndGoes_6 :
    let s : State := st0 due
    let c : Instr := .pinReset
    let kind : Nat := 2
    (c, kind) ∈ [(Instr.pinReset, 2), (Instr.softReset, 3), (Instr.choirReset, 5)] ∧ s.dev.alive ∧ s.dev.rd NVM_PT_STATUS_STATE = 0 ∧
    (kind = 5 → s.dev.resetDue = true ∧ s.dev.rd TB_STATUS_FCK_SRC = 0) := by
  decide +kernel

theorem witness_PowerComesAndGoes_7 :
    let s : State := st0 due
    let c : Instr := .softReset
    let kind : Nat := 3
    (c, kind) ∈ [(Instr.pinReset, 2), (Instr.softReset, 3), (Instr.choirReset, 5)] ∧ s.dev.alive ∧ s.dev.rd NVM_PT_STATUS_STATE = 0 ∧
    (kind = 5 → s.dev.resetDue = true ∧ s.dev.rd TB_STATUS_FCK_SRC = 0) := by
  decide +kernel

def bt (m : Nat) : Dev := {ready.wr POWER_STATUS_STATE 0 with power := {ready.power with steps := m}}

theorem witness_BootAndResumeTakeTheirSteps_1 :
    let s : State := st0 (bt 0b10)
    let n : Nat := 2
    n ∈ [2, 4, 6] ∧ s.dev.mayComplete n := by
  decide +kernel

theorem witness_BootAndResumeTakeTheirSteps_2 :
    let s : State := st0 (bt 0b1000)
    let n : Nat := 4
    n ∈ [2, 4, 6] ∧ s.dev.mayComplete n := by
  decide +kernel

theorem witness_BootAndResumeTakeTheirSteps_3 :
    let s : State := st0 (bt 0b110)
    s.dev.mayComplete 3 := by
  decide +kernel

theorem witness_BootAndResumeTakeTheirSteps_4 :
    let s : State := st0 (bt 0b101111111110)
    s.dev.mayComplete 10 ∧ s.dev.booted 9 ∧ s.dev.booted 11 ∧ s.dev.mode = 0 := by
  decide +kernel

theorem witness_BootAndResumeTakeTheirSteps_5 :
    let s : State := st0 (bt 1)
    let n : Nat := 2
    let info : List Nat := []
    1 ≤ n ∧ n ≤ 12 ∧ Instr.wf (.bootStepComplete n info) ∧ (s.dev.booted n = true ∨ ∃ m ∈ bootNeeds n, s.dev.booted m = false) := by
  decide +kernel

theorem witness_BootAndResumeTakeTheirSteps_6 :
    let s : State := st0 (bt 2)
    let n : Nat := 1
    let info : List Nat := [3]
    1 ≤ n ∧ n ≤ 12 ∧ Instr.wf (.bootStepComplete n info) ∧ (s.dev.booted n = true ∨ ∃ m ∈ bootNeeds n, s.dev.booted m = false) := by
  decide +kernel

theorem witness_BootAndResumeTakeTheirSteps_7 :
    let s : State := st0 ({ready with power := {ready.power with steps := 0b1111111111110}}.wr CFG_STATUS_CONFIGURED 1)
    s.dev.alive ∧ s.dev.mode = 1 ∧ s.dev.booted 13 = false ∧ (∀ n ∈ [7, 9, 10, 11], s.dev.booted n = true) ∧ s.dev.rd CFG_STATUS_CONFIGURED = 1 := by
  decide +kernel

def rs (m : Nat) : Dev := {ready.wr POWER_STATUS_STATE 4 with power := {ready.power with resume := m}}

theorem witness_BootAndResumeTakeTheirSteps_8 :
    let s : State := st0 (rs 0)
    let n : Nat := 1
    let k : Nat := 0
    k < 2 ^ 40 ∧ s.dev.mayResumeStep n ∧ n ∈ [1, 5, 6, 7] := by
  decide +kernel

theorem witness_BootAndResumeTakeTheirSteps_9 :
    let s : State := st0 (rs 2)
    let n : Nat := 2
    let k : Nat := 0
    k < 2 ^ 40 ∧ s.dev.mayResumeStep n ∧ n = 2 := by
  decide +kernel

theorem witness_BootAndResumeTakeTheirSteps_10 :
    let s : State := st0 ((rs 0xFE).wr POWER_STATUS_PREV 2)
    let n : Nat := 8
    let k : Nat := 0
    k < 2 ^ 40 ∧ s.dev.mayResumeStep n ∧ n = 8 ∧ s.dev.rd CFG_STATUS_CONFIGURED = 0 ∧ s.dev.rd POWER_STATUS_PREV = 2 ∧ s.dev.needsOcxo = false := by
  decide +kernel

theorem witness_PowerStatesChangeByCommand_1 :
    let s : State := st0 (ready.wr (TIMER_STATUS_RUNNING 3) 1)
    s.dev.hostOpen ∧ s.dev.mode = 1 := by
  decide +kernel

theorem witness_PowerStatesChangeByCommand_2 :
    let s : State := st0 (ready.wr POWER_STATUS_STATE 2)
    s.dev.hostOpen ∧ s.dev.mode = 2 := by
  decide +kernel

theorem witness_PowerStatesChangeByCommand_3 :
    let s : State := st0 (ready.wr POWER_STATUS_STATE 2)
    s.dev.hostOpen ∧ s.dev.mode = 2 ∧ s.dev.rd APPLY_STATUS_STATE ≠ 2 := by
  decide +kernel

def ent : Dev := {ready.wr POWER_STATUS_STATE 2 with power := {ready.power with entering := true}}

theorem witness_PowerStatesChangeByCommand_4 :
    let s : State := st0 ent
    s.dev.alive ∧ s.dev.power.entering ∧ s.dev.power.wakeDue = false := by
  decide +kernel

theorem witness_PowerStatesChangeByCommand_5 :
    let s : State := st0 (ready.wr POWER_STATUS_STATE 3)
    s.dev.alive ∧ s.dev.mode = 3 := by
  decide +kernel

theorem witness_PowerStatesChangeByCommand_6 :
    let s : State := st0 (ready.wr POWER_STATUS_STATE 3)
    s.dev.alive ∧ s.dev.mode = 3 := by
  decide +kernel

theorem witness_PowerStatesChangeByCommand_7 :
    let s : State := st0 ent
    s.dev.alive ∧ s.dev.mode = 2 ∧ s.dev.power.entering := by
  decide +kernel

theorem witness_PinsSramAndSourcesAreFollowed_1 :
    let s : State := st0 ready
    let l : Nat := 15
    l < 16 ∧ s.dev.power.good := by
  decide +kernel

theorem witness_PinsSramAndSourcesAreFollowed_2 :
    let s : State := st0 ready
    let l : Bool := false
    s.dev.alive ∧ s.dev.mode ≠ 3 ∧ s.dev.rd PIN_LEVEL_SEAL_OPEN = bit (!l) ∧ s.dev.rd APPLY_STATUS_STATE = 0 := by
  decide +kernel

theorem witness_PinsSramAndSourcesAreFollowed_3 :
    let s : State := st0 (ready.wr PIN_LEVEL_SEAL_OPEN 0)
    let l : Bool := true
    s.dev.alive ∧ s.dev.mode ≠ 3 ∧ s.dev.rd PIN_LEVEL_SEAL_OPEN = bit (!l) ∧ s.dev.rd APPLY_STATUS_STATE = 0 := by
  decide +kernel

theorem witness_PinsSramAndSourcesAreFollowed_4 :
    let s : State := st0 ready
    let t : Nat := 0x7FFF
    t < 2 ^ 16 ∧ s.dev.alive ∧ s.dev.mode ≠ 3 := by
  decide +kernel

theorem witness_PinsSramAndSourcesAreFollowed_5 :
    let s : State := st0 ready
    let t : Nat := 0x8000
    t < 2 ^ 16 ∧ s.dev.alive ∧ s.dev.mode ≠ 3 := by
  decide +kernel

theorem witness_PinsSramAndSourcesAreFollowed_6 :
    let s : State := st0 ready
    let b : Nat := 7
    let r : Nat := 511
    let c : Nat := 63
    b < 8 ∧ r < 512 ∧ c < 64 ∧ s.dev.alive ∧ s.dev.mode ≠ 3 ∧ s.dev.copyingIn b = false := by
  decide +kernel

theorem witness_PinsSramAndSourcesAreFollowed_7 :
    let s : State := st0 ready
    let b : Nat := 7
    let r : Nat := 511
    let c : Nat := 63
    b < 8 ∧ r < 512 ∧ c < 64 ∧ s.dev.alive ∧ s.dev.mode ≠ 3 ∧ s.dev.copyingIn b = false ∧ Store.read s.dev.sram.prevPass (b * 512 + r) = 0 := by
  decide +kernel

theorem witness_PinsSramAndSourcesAreFollowed_8 :
    let s : State := st0 {ready with sram := {ready.sram with bad := [((7*512+511)*64+63, 1)]}}
    let b : Nat := 7
    let r : Nat := 511
    let c : Nat := 63
    b < 8 ∧ r < 512 ∧ c < 64 ∧ s.dev.alive ∧ s.dev.mode ≠ 3 ∧ s.dev.copyingIn b = false ∧ Store.read s.dev.sram.bad ((b * 512 + r) * 64 + c) ≠ 0 := by
  decide +kernel

theorem witness_PinsSramAndSourcesAreFollowed_9 :
    let s : State := st0 {ready with sram := {ready.sram with copying := [(7*512+511, 3)]}}
    let b : Nat := 7
    let r : Nat := 511
    b < 8 ∧ r < 512 ∧ s.dev.alive ∧ Store.read s.dev.sram.copying (b * 512 + r) ≠ 0 := by
  decide +kernel

theorem witness_PinsSramAndSourcesAreFollowed_10 :
    let s : State := st0 (ready.wr (SRAM_CORR 7) 9)
    s.dev.hostOpen := by
  decide +kernel

theorem witness_PinsSramAndSourcesAreFollowed_11 :
    let s : State := st0 (ready.wr (STRIKE_RETIRED 0x1F) 1)
    let n := 0x1F
    s.dev.hostOpen ∧ s.dev.mayReadmit n ∧ 0x18 ≤ n ∧ n < 0x20 ∧ s.dev.rd (WM_CFG_EN (n - 0x18)) = 0 ∧ (∀ m < 8, s.dev.rd (WM_STATUS_STATE m) ≠ 4) := by
  decide +kernel

theorem witness_PinsSramAndSourcesAreFollowed_12 :
    let s : State := st0 ((ready.wr (STRIKE_RETIRED 0xF) 1).wr (WM_STATUS_STATE 7) 4)
    let n := 0xF
    let m := 7
    s.dev.hostOpen ∧ s.dev.mayReadmit n ∧ m < 8 ∧ n ≠ 0x18 + m ∧ s.dev.rd (WM_STATUS_STATE m) = 4 := by
  decide +kernel

theorem witness_PinsSramAndSourcesAreFollowed_13 :
    let s : State := st0 ready
    let n := 0
    s.dev.hostOpen ∧ n < 256 ∧ s.dev.mayReadmit n = false := by
  decide +kernel

theorem witness_PinsSramAndSourcesAreFollowed_14 :
    let s : State := st0 ready
    let n := 1
    let m := 255
    let r := 4
    let u : List (Nat × Nat) := [(2 ^ 18 - 1, 2), (0, 1)]
    let c : Instr := .nak n m u
    let e : Instr := .nak n m []
    (c, e, r) ∈ [(Instr.stampAccumulate n u, Instr.stampAccumulate n [], 5 + n), (.analyserStamp n u, .analyserStamp n [], 29 + n), (.localSum u, .localSum [], 1), (.pipelineCommit u, .pipelineCommit [], 1), (.trackStamp n u, .trackStamp n [], 2), (.frameDecode u, .frameDecode [], 2), (.nak n m u, .nak n m [], 3 + n), (.replayTimeout n u, .replayTimeout n [], 3 + n)] ∧
    c.wf := by
  decide +kernel

end WitnessPower

end Sys2Proof.Tests
end

/-! PROOFS of the family of interpolator tuning: the settings that image validation refuses (R112, R325, R346). -/
section

namespace Sys2Proof.Machine

open Reg

@[simp] theorem Verdict.no_code (code addr : Nat) : (Verdict.no code addr).code = code := rfl

/-- Checks 1 to 6 of R273 refuse with their own codes; an image that passes them is refused for a broken rule by check 7. -/
theorem validate_code_ne_zero_of_broken_rule {b states : List Nat} {key : Bool} {hash : Nat} {rate : Option Nat} {r : Refusal1}
    (hr : r ∈ imageRules (imageTable b (imageWords b)) (imageWords b)) (broken : r.1 = true) :
    (validate b states key hash rate).code ≠ 0 := by
  have found : (imageRules (imageTable b (imageWords b)) (imageWords b)).find? (fun r => r.1) ≠ none :=
    fun none_broken => List.find?_eq_none.1 none_broken r hr broken
  unfold validate
  split
  · simp
  split
  · simp
  split
  · simp
  split
  · simp
  extract_lets check choir common ws t slow
  split
  · simp
  split
  · simp
  split
  · simp
  next none_broken => exact absurd none_broken found

theorem mem_imageRules_of_voiceRules {t ws : Store} {r : Refusal1} (h : r ∈ voiceRules t) : r ∈ imageRules t ws := by
  simp only [imageRules, List.mem_append, h, true_or, or_true]

theorem mem_imageRules_of_fitRules {t ws : Store} {r : Refusal1} (h : r ∈ fitRules t) : r ∈ imageRules t ws := by
  simp only [imageRules, List.mem_append, h, true_or, or_true]

theorem mem_imageRules_of_logRules {t ws : Store} {r : Refusal1} (h : r ∈ logRules t) : r ∈ imageRules t ws := by
  simp only [imageRules, List.mem_append, h, or_true]

theorem ageMaxRule_mem_voiceRules (t : Store) :
    (fieldRead t TUNE_CFG_AGE_MAX == 0, TUNE_CFG_AGE_MAX.word) ∈ voiceRules t :=
  List.mem_append_right _ List.mem_cons_self

theorem shiftMaxRule_mem_voiceRules (t : Store) :
    (fieldRead t TUNE_CFG_SHIFT_MAX == 0, TUNE_CFG_SHIFT_MAX.word) ∈ voiceRules t :=
  List.mem_append_right _ (List.mem_cons_of_mem _ List.mem_cons_self)

theorem faultLevelRule_mem_logRules (t : Store) :
    (fieldRead t LOG_CFG_FAULT_LEVEL == 3, LOG_CFG_FAULT_LEVEL.word) ∈ logRules t :=
  List.mem_cons_self

theorem strikeRule_mem_fitRules (t : Store) :
    (fieldRead t STRIKE_CFG_RETIRE == 0 || fieldRead t STRIKE_CFG_DECAY == 0 || fieldRead t STRIKE_CFG_PROBATION == 0,
      STRIKE_CFG_RETIRE.word) ∈ fitRules t :=
  List.mem_append_right _ (List.mem_cons_of_mem _ List.mem_cons_self)

/-- Settles O48: each of the settings breaks a rule of check 7, so whatever the checks before it find, the code is not 0. -/
theorem refusedSettingsFailValidation : Obligations.RefusedSettingsFailValidation := by
  unfold Obligations.RefusedSettingsFailValidation
  rintro b states key hash rate _ rfl
  refine ⟨fun tune => ?_, fun level => ?_, fun strike => ?_⟩
  · rcases tune with age | shift
    · exact validate_code_ne_zero_of_broken_rule (mem_imageRules_of_voiceRules (ageMaxRule_mem_voiceRules _)) (beq_iff_eq.2 age)
    · exact validate_code_ne_zero_of_broken_rule (mem_imageRules_of_voiceRules (shiftMaxRule_mem_voiceRules _)) (beq_iff_eq.2 shift)
  · exact validate_code_ne_zero_of_broken_rule (mem_imageRules_of_logRules (faultLevelRule_mem_logRules _)) (beq_iff_eq.2 level)
  · exact validate_code_ne_zero_of_broken_rule (mem_imageRules_of_fitRules (strikeRule_mem_fitRules _))
      (by simpa [or_assoc] using strike)

end Sys2Proof.Machine
end

/-! PROOFS of the family of the log: the log is read in every seal state, and reading it leaves the log as it is (R322). -/
section

namespace Sys2Proof.Machine

open Reg

/-! ### A load begins -/

theorem Frame.setLatest {us : List Part} {fs : List Fld} {d0 d : Dev} {b : Bool} (hu : Part.host ∈ us) (h : Frame us fs d0 d) :
    Frame us fs d0 (d.setLatest b) := h.host hu

theorem Dev.oneWrite_of_hostOpen {d : Dev} (f : Dev → Dev) (h : d.hostOpen = true) : d.oneWrite f = f (d.setLatest false) := if_pos h

theorem Dev.beginLoad_of_idle {d : Dev} (k : Nat) (h : d.rd LOG_READ_BUSY = 0) :
    d.beginLoad k = (d.putLogs { d.logs with load := k }).wr LOG_READ_BUSY 1 := by
  rw [Dev.beginLoad, if_neg (by simp [Dev.is, h])]

theorem Dev.beginLoad_of_busy {d : Dev} (k : Nat) (h : d.rd LOG_READ_BUSY ≠ 0) : d.beginLoad k = d :=
  if_pos (by simp [Dev.is, h])

theorem Dev.beginLoad_busy_of_idle {d : Dev} (k : Nat) (h : d.rd LOG_READ_BUSY = 0) : (d.beginLoad k).rd LOG_READ_BUSY = 1 := by
  rw [Dev.beginLoad_of_idle k h, Dev.rd_wr_same]; rfl

theorem Dev.beginLoad_logs_of_idle {d : Dev} (k : Nat) (h : d.rd LOG_READ_BUSY = 0) :
    (d.beginLoad k).logs = { d.logs with load := k } := by
  rw [Dev.beginLoad_of_idle k h]; rfl

theorem Frame.beginLoad {us : List Part} {fs : List Fld} {d0 d : Dev} {k : Nat} (hu : Part.logs ∈ us) (hf : LOG_READ_BUSY ∈ fs)
    (h : Frame us fs d0 d) : Frame us fs d0 (d.beginLoad k) := by
  unfold Dev.beginLoad
  split
  · exact h
  · exact (h.putLogs hu).wr hf

/-! ### The record that a load finds -/

/-- The record with the lower RSEQ, the first of two with the same. -/
def lowerRec (b : Option Rec) (r : Rec) : Option Rec :=
  match b with
  | some x => if r.rseq < x.rseq then some r else some x
  | none => some r

theorem Dev.recordAt_eq_foldl (d : Dev) (cur : Nat) :
    d.recordAt cur = (d.records.filter (fun r => decide (cur ≤ r.rseq))).foldl lowerRec none := rfl

theorem foldl_lowerRec_lowest (l : List Rec) (b : Rec) :
    ∃ r, l.foldl lowerRec (some b) = some r ∧ r ∈ b :: l ∧ ∀ x ∈ b :: l, r.rseq ≤ x.rseq := by
  induction l generalizing b with
  | nil => exact ⟨b, rfl, List.mem_cons_self, by simp⟩
  | cons y l ih =>
    by_cases lower : y.rseq < b.rseq
    · obtain ⟨r, found, mem, low⟩ := ih y
      have low_b : r.rseq ≤ b.rseq := (low y List.mem_cons_self).trans lower.le
      exact ⟨r, by simpa [lowerRec, lower] using found, List.mem_cons_of_mem _ mem, List.forall_mem_cons.2 ⟨low_b, low⟩⟩
    · obtain ⟨r, found, mem, low⟩ := ih b
      obtain ⟨low_b, low_l⟩ := List.forall_mem_cons.1 low
      have low_y : r.rseq ≤ y.rseq := low_b.trans (not_lt.1 lower)
      exact ⟨r, by simpa [lowerRec, lower] using found, (List.Sublist.cons_cons b (List.sublist_cons_self y l)).mem mem,
        List.forall_mem_cons.2 ⟨low_b, List.forall_mem_cons.2 ⟨low_y, low_l⟩⟩⟩

theorem Dev.recordAt_of_all_below {d : Dev} {cur : Nat} (h : ∀ r ∈ d.records, r.rseq < cur) : d.recordAt cur = none := by
  rw [Dev.recordAt_eq_foldl, List.filter_eq_nil_iff.2 (fun r hr => by simpa using h r hr), List.foldl_nil]

theorem Dev.recordAt_of_exists {d : Dev} {cur : Nat} (h : ∃ r ∈ d.records, cur ≤ r.rseq) :
    ∃ r, d.recordAt cur = some r ∧ r ∈ d.records ∧ cur ≤ r.rseq ∧ ∀ x ∈ d.records, cur ≤ x.rseq → r.rseq ≤ x.rseq := by
  have mem_filter : ∀ x, x ∈ d.records.filter (fun r => decide (cur ≤ r.rseq)) ↔ x ∈ d.records ∧ cur ≤ x.rseq := by simp
  rw [Dev.recordAt_eq_foldl]
  cases e : d.records.filter (fun r => decide (cur ≤ r.rseq)) with
  | nil =>
    obtain ⟨r, held⟩ := h
    exact absurd ((mem_filter r).2 held) (by simp [e])
  | cons b l =>
    rw [e] at mem_filter
    obtain ⟨r, found, mem, low⟩ := foldl_lowerRec_lowest l b
    obtain ⟨held, above⟩ := (mem_filter r).1 mem
    exact ⟨r, found, held, above, fun x hx le => low x ((mem_filter x).2 ⟨hx, le⟩)⟩

/-- The records held lie in the NVM, where the log's region says. -/
theorem Dev.recordAt_putLogs {d : Dev} {l : LogSt} (cur : Nat) (base : l.base = d.logs.base) (size : l.size = d.logs.size) :
    (d.putLogs l).recordAt cur = d.recordAt cur := by
  cases l
  dsimp only at base size
  subst base size
  rfl

/-! ### A load ends -/

theorem Dev.endLoad_busy (d : Dev) (result len : Nat) : (d.endLoad result len).rd LOG_READ_BUSY = 0 := by
  simp (disch := decide) [Dev.endLoad, Dev.rd_wr_other]

theorem Dev.endLoad_result (d : Dev) (result len : Nat) : (d.endLoad result len).rd LOG_READ_RESULT = result % 4 := by
  rw [Dev.endLoad, Dev.rd_wr_other _ _ (by decide), Dev.rd_wr_same]; rfl

theorem Dev.endLoad_len (d : Dev) (result len : Nat) : (d.endLoad result len).rd LOG_READ_LEN = len % 2 ^ 9 :=
  Dev.rd_wr_same _ _ _

theorem Dev.endLoad_cur (d : Dev) (result len : Nat) : (d.endLoad result len).rd LOG_CUR_CUR = d.rd LOG_CUR_CUR := by
  simp (disch := decide) [Dev.endLoad, Dev.rd_wr_other]

theorem Frame.endLoad {us : List Part} {fs : List Fld} {d0 d : Dev} {result len : Nat}
    (hf : [LOG_READ_BUSY, LOG_READ_RESULT, LOG_READ_LEN] ⊆ fs) (h : Frame us fs d0 d) : Frame us fs d0 (d.endLoad result len) :=
  ((h.wr (hf (by simp))).wr (hf (by simp))).wr (hf (by simp))

/-- The device with LOG_WINDOW filled. -/
def Dev.fillWin (d : Dev) (w : Store) : Dev := d.putLogs { d.logs with win := w }

/-- The device with AUDIT_WINDOW filled. -/
def Dev.fillAwin (d : Dev) (w : Store) : Dev := d.putLogs { d.logs with awin := w }

theorem Frame.fillWin {us : List Part} {fs : List Fld} {d0 d : Dev} {w : Store} (hu : Part.logs ∈ us) (h : Frame us fs d0 d) :
    Frame us fs d0 (d.fillWin w) := h.putLogs hu

theorem Frame.fillAwin {us : List Part} {fs : List Fld} {d0 d : Dev} {w : Store} (hu : Part.logs ∈ us) (h : Frame us fs d0 d) :
    Frame us fs d0 (d.fillAwin w) := h.putLogs hu

section

variable {d : Dev} (alive : d.alive = true) (mode : d.mode ≠ 3) (fck : d.rd TB_STATUS_FCK_SRC = 0) (busy : d.rd LOG_READ_BUSY ≠ 0)

include alive mode fck busy

theorem Dev.load_completes : ¬ (!d.alive || d.is TB_STATUS_FCK_SRC || d.mode == 3 || !d.is LOG_READ_BUSY) = true := by
  simp [alive, mode, Dev.is, fck, busy]

theorem Dev.logLoadDone_record_failed (load : d.logs.load = 1) : d.logLoadDone true = (d.fillWin []).endLoad 2 0 := by
  rw [Dev.logLoadDone, if_neg (Dev.load_completes alive mode fck busy), if_pos load]
  rfl

theorem Dev.logLoadDone_record_found (load : d.logs.load = 1) (mounted : d.rd LOG_STATUS_MOUNTED ≠ 0) {r : Rec}
    (found : d.recordAt (d.rd LOG_CUR_CUR) = some r) :
    d.logLoadDone false =
      ((d.fillWin (Store.writeList [] 0 r.bytes)).wr LOG_CUR_CUR (r.rseq + 1)).endLoad 0 r.bytes.length := by
  rw [Dev.logLoadDone, if_neg (Dev.load_completes alive mode fck busy), if_pos load]
  simp [Dev.recordAt_putLogs, Dev.is, mounted, found]
  rfl

theorem Dev.logLoadDone_record_absent (load : d.logs.load = 1)
    (absent : d.rd LOG_STATUS_MOUNTED = 0 ∨ ∀ r ∈ d.records, r.rseq < d.rd LOG_CUR_CUR) :
    d.logLoadDone false = (d.fillWin []).endLoad 1 0 := by
  rw [Dev.logLoadDone, if_neg (Dev.load_completes alive mode fck busy), if_pos load]
  rcases absent with unmounted | below
  · simp [Dev.is, unmounted]
    rfl
  · simp [Dev.recordAt_putLogs, Dev.recordAt_of_all_below below]
    rfl

/-- What the end of a load of an audit record does. -/
theorem Dev.logLoadDone_audit (failed : Bool) (load : d.logs.load ≠ 1) :
    d.logLoadDone failed =
      if failed then (d.fillAwin []).endLoad 2 0
      else if !d.is LOG_STATUS_MOUNTED || decide (d.rd AUDIT_USED ≤ d.rd AUDIT_SEL_INDEX) then (d.fillAwin []).endLoad 1 0
      else (d.fillAwin (Store.writeList [] 0 (d.nvmBytes (d.auditAddr (d.rd AUDIT_SEL_INDEX)) 32))).endLoad 0 32 := by
  rw [Dev.logLoadDone, if_neg (Dev.load_completes alive mode fck busy), if_neg load]
  rfl

theorem Dev.logLoadDone_audit_found (load : d.logs.load ≠ 1) (mounted : d.rd LOG_STATUS_MOUNTED ≠ 0)
    (used : d.rd AUDIT_SEL_INDEX < d.rd AUDIT_USED) :
    d.logLoadDone false = (d.fillAwin (Store.writeList [] 0 (d.nvmBytes (d.auditAddr (d.rd AUDIT_SEL_INDEX)) 32))).endLoad 0 32 := by
  simp [Dev.logLoadDone_audit alive mode fck busy false load, Dev.is, mounted, used]

theorem Dev.logLoadDone_audit_absent (load : d.logs.load ≠ 1)
    (absent : d.rd LOG_STATUS_MOUNTED = 0 ∨ d.rd AUDIT_USED ≤ d.rd AUDIT_SEL_INDEX) :
    d.logLoadDone false = (d.fillAwin []).endLoad 1 0 := by
  simp [Dev.logLoadDone_audit alive mode fck busy false load, Dev.is, absent]

end

/-! ### The write of a load's code to LOG_CMD -/

/-- A served write of one word without a CRC trailer is the access of that word, closed. -/
theorem Dev.hostWrite_word {d : Dev} {a : Nat} (cmd v : Nat) (h : d.hostOpen = true) (crc : d.rd HOST_STATUS_CRC_ACTIVE = 0)
    (aligned : a % 4 = 0) :
    d.hostWrite cmd a (bytesLE 4 v) 0 = ((Access.start d a).writeWord a (ofBytesLE (bytesLE 4 v))).close false := by
  have alive : d.alive = true := by
    simp only [Dev.hostOpen, Bool.and_eq_true] at h
    obtain ⟨⟨⟨alive, -⟩, -⟩, -⟩ := h
    exact alive
  simp [Dev.hostWrite, alive, h, Dev.is, crc, aligned, bytesLE, Access.writeWords]

/-- The host port once an access has ended: which access was the latest, and the bytes it drove. -/
def Dev.endAccess (d : Dev) (read : Bool) (out : List Nat) : Dev := { d with host := { d.host with latest := read, out := out } }

@[simp] theorem Dev.endAccess_rd (d : Dev) (read : Bool) (out : List Nat) (f : Fld) : (d.endAccess read out).rd f = d.rd f := rfl

theorem Frame.endAccess {us : List Part} {fs : List Fld} {d0 d : Dev} {read : Bool} {out : List Nat} (hu : Part.host ∈ us)
    (h : Frame us fs d0 d) : Frame us fs d0 (d.endAccess read out) := h.host hu

/-- An access with code 0 writes that code alone. -/
theorem Access.close_accepted {x : Access} (read : Bool) (code : x.code = 0) (legal : x.legal = none) (soft : x.soft = false) :
    x.close read = (x.dev.wr HOST_STATUS_LAST_CODE 0).endAccess read x.out := by
  simp [Access.close, Dev.endAccess, code, legal, soft, Dev.when, Dev.setLatest]

/-- An access with a code below those of the CRC and of data not ready writes the code, the address where it arose, and the count (R290). -/
theorem Access.close_rejected {x : Access} (read : Bool) (code : x.code ≠ 0) (below : x.code < 9) (legal : x.legal = none)
    (soft : x.soft = false) :
    x.close read =
      (((x.dev.wr HOST_STATUS_LAST_CODE x.code).wr HOST_ERR_ADDR_ADDR x.addr).inc HOST_COUNT_A_REJECTS).endAccess read x.out := by
  have not_late : x.code ≠ 10 := by omega
  have counted : x.code ≤ 13 := by omega
  simp [Access.close, Dev.endAccess, code, legal, soft, Dev.when, Dev.setLatest, below.ne, not_late, counted]

theorem incHold_eq_min (w v : Nat) : incHold w v = min (v + 1) (2 ^ w - 1) := by
  unfold incHold
  split <;> omega

/-- Code, address and count of a rejection, as R290 asks for them. -/
theorem Dev.rejected_of_writes (d : Dev) {code : Nat} (a : Nat) (h : code < 16) :
    d.Rejected (((d.wr HOST_STATUS_LAST_CODE code).wr HOST_ERR_ADDR_ADDR a).inc HOST_COUNT_A_REJECTS) code a := by
  refine ⟨?_, ?_, ?_⟩
  · rw [Dev.inc, Dev.rd_wr_other _ _ (by decide), Dev.rd_wr_other _ _ (by decide), Dev.rd_wr_same]
    exact Nat.mod_eq_of_lt h
  · rw [Dev.inc, Dev.rd_wr_other _ _ (by decide), Dev.rd_wr_same]
    rfl
  · rw [Dev.inc, Dev.rd_wr_same, Dev.rd_wr_other _ _ (by decide), Dev.rd_wr_other _ _ (by decide), incHold_eq_min]
    exact Nat.mod_eq_of_lt (Nat.lt_of_le_of_lt (min_le_right _ _) (by decide))

theorem Frame.rejected {us : List Part} {d0 d : Dev} {code a : Nat} (h : Frame us rejectFlds d0 d) :
    Frame us rejectFlds d0 (((d.wr HOST_STATUS_LAST_CODE code).wr HOST_ERR_ADDR_ADDR a).inc HOST_COUNT_A_REJECTS) :=
  ((h.wr (by simp [rejectFlds])).wr (by simp [rejectFlds])).inc (by simp [rejectFlds])

theorem fieldsAt_logCmd : fieldsAt LOG_CMD_CODE.word = some [LOG_CMD_CODE] := by decide +kernel

/-- BUSY alone judges the code of a load: no seal state is asked. -/
theorem Dev.command_logCmd (d : Dev) {v : Nat} (hv : v ∈ [0xC1, 0xC3]) :
    d.command LOG_CMD_CODE.word v = d.judge (!d.is LOG_READ_BUSY) 4 (Dev.beginLoad (if v = 0xC1 then 1 else 2)) := by
  simp only [List.mem_cons, List.not_mem_nil, or_false] at hv
  rcases hv with rfl | rfl <;> rfl

theorem Dev.writeWord_logCmd {d : Dev} (v : Nat) (h : d.hostOpen = true) :
    d.writeWord LOG_CMD_CODE.word v =
      { dev := (d.command LOG_CMD_CODE.word v).1, code := (d.command LOG_CMD_CODE.word v).2, legal := false } := by
  have outside_pt : ¬ (0x900 ≤ LOG_CMD_CODE.word ∧ LOG_CMD_CODE.word < 0xA00 ∧ d.is NVM_PT_STATUS_STATE = true) :=
    fun ⟨_, low, _⟩ => absurd low (by decide)
  have is_command : isCommand [LOG_CMD_CODE] = true := rfl
  rw [Dev.writeWord, if_pos (by simp [Dev.writeServed, h]), Dev.applyWord, if_neg outside_pt, fieldsAt_logCmd]
  exact if_pos is_command

section

variable {d : Dev} {v : Nat} (hv : v ∈ [0xC1, 0xC3]) (h : d.hostOpen = true)

include hv h

theorem Access.writeWord_logCmd_of_idle (idle : d.rd LOG_READ_BUSY = 0) :
    (Access.start d LOG_CMD_CODE.word).writeWord LOG_CMD_CODE.word v =
      { Access.start d LOG_CMD_CODE.word with dev := d.beginLoad (if v = 0xC1 then 1 else 2) } := by
  have other_word : (LOG_CMD_CODE.word == 0xC008) = false := by decide
  simp [Access.writeWord, Access.start, Dev.writeWord_logCmd v h, Dev.command_logCmd d hv, Dev.judge, Dev.is, idle, Access.note, other_word]

theorem Access.writeWord_logCmd_of_busy (busy : d.rd LOG_READ_BUSY ≠ 0) :
    (Access.start d LOG_CMD_CODE.word).writeWord LOG_CMD_CODE.word v = { Access.start d LOG_CMD_CODE.word with code := 4 } := by
  have other_word : (LOG_CMD_CODE.word == 0xC008) = false := by decide
  simp [Access.writeWord, Access.start, Dev.writeWord_logCmd v h, Dev.command_logCmd d hv, Dev.judge, Dev.is, busy, Access.note, other_word]

variable (cmd : Nat) (crc : d.rd HOST_STATUS_CRC_ACTIVE = 0)

include crc

theorem Dev.hostWrite_logCmd :
    d.hostWrite cmd LOG_CMD_CODE.word (bytesLE 4 v) 0 = ((Access.start d LOG_CMD_CODE.word).writeWord LOG_CMD_CODE.word v).close false := by
  have value : ofBytesLE (bytesLE 4 v) = v := by
    simp only [List.mem_cons, List.not_mem_nil, or_false] at hv
    rcases hv with rfl | rfl <;> rfl
  rw [Dev.hostWrite_word cmd v h crc (by decide), value]

theorem Dev.hostWrite_logCmd_of_idle (idle : d.rd LOG_READ_BUSY = 0) :
    d.hostWrite cmd LOG_CMD_CODE.word (bytesLE 4 v) 0 =
      ((d.beginLoad (if v = 0xC1 then 1 else 2)).wr HOST_STATUS_LAST_CODE 0).endAccess false [] := by
  rw [Dev.hostWrite_logCmd hv h cmd crc, Access.writeWord_logCmd_of_idle hv h idle, Access.close_accepted false rfl rfl rfl]
  rfl

theorem Dev.hostWrite_logCmd_of_busy (busy : d.rd LOG_READ_BUSY ≠ 0) :
    d.hostWrite cmd LOG_CMD_CODE.word (bytesLE 4 v) 0 =
      (((d.wr HOST_STATUS_LAST_CODE 4).wr HOST_ERR_ADDR_ADDR LOG_CMD_CODE.word).inc HOST_COUNT_A_REJECTS).endAccess false [] := by
  rw [Dev.hostWrite_logCmd hv h cmd crc, Access.writeWord_logCmd_of_busy hv h busy,
    Access.close_rejected false (Nat.succ_ne_zero 3) (Nat.lt_of_sub_eq_succ rfl) rfl rfl]
  rfl

end

/-! ### Reading the log -/

/-- The two commands of the table begin the load of their kind. -/
theorem does_beginLoad {s : State} {c : Instr} {k : Nat} (hc : (c, k) ∈ [(Instr.loadRecord, 1), (Instr.loadAuditRecord, 2)])
    (h : s.dev.hostOpen = true) {P : Dev → Prop} (p : P ((s.dev.setLatest false).beginLoad k)) : Does c s P := by
  simp only [List.mem_cons, Prod.mk.injEq, List.not_mem_nil, or_false] at hc
  rcases hc with ⟨rfl, rfl⟩ | ⟨rfl, rfl⟩
  · exact Does.of_onDev rfl rfl (by rwa [Dev.oneWrite_of_hostOpen _ h])
  · exact Does.of_onDev rfl rfl (by rwa [Dev.oneWrite_of_hostOpen _ h])

theorem does_write_logCmd {s : State} {v : Nat} {e : Dev} {P : Dev → Prop}
    (he : s.dev.hostWrite 0x02 LOG_CMD_CODE.word (bytesLE 4 v) 0 = e) (p : P e) :
    Does (.write LOG_CMD_CODE.word (bytesLE 4 v) 0) s P := by
  have bytes_wf : (Instr.write LOG_CMD_CODE.word (bytesLE 4 v) 0).wf = true := by
    simp only [Instr.wf, bytesLE, Bool.and_eq_true]
    exact ⟨by decide, by simp [Nat.mod_lt]⟩
  exact Does.of_onDev rfl bytes_wf (by rwa [he])

theorem does_logLoadDone {s : State} {failed : Bool} {e : Dev} {P : Dev → Prop} (he : s.dev.logLoadDone failed = e) (p : P e) :
    Does (.logLoadDone failed) s P := Does.of_onDev rfl rfl (by rwa [he])

/-- Settles O56: a load's begin asks for BUSY and an open port and for no seal state, and begin and end write the windows, LOG_READ,
LOG_CUR and the host port alone. -/
theorem logReadingIsOpen : Obligations.LogReadingIsOpen := by
  unfold Obligations.LogReadingIsOpen
  refine ⟨fun s c k hc h => ⟨fun idle => ?_, fun busy => ?_⟩, fun s v hv h crc => ⟨fun idle => ?_, fun busy => ?_⟩,
    fun s cur alive mode fck busy load hcur => ?_, fun s i alive mode fck busy load hi => ?_, fun s alive mode fck busy => ?_⟩
  · exact does_beginLoad hc h ⟨Dev.beginLoad_busy_of_idle k idle, Dev.beginLoad_logs_of_idle k idle,
      ((Frame.refl _ _ s.dev).setLatest (by simp)).beginLoad (by simp) (by simp)⟩
  · refine does_beginLoad hc h ?_
    rw [Dev.beginLoad_of_busy k (d := s.dev.setLatest false) busy]
    exact (Frame.refl _ _ s.dev).setLatest (by simp)
  · refine does_write_logCmd (Dev.hostWrite_logCmd_of_idle hv h 0x02 crc idle) ⟨?_, ?_, Dev.beginLoad_logs_of_idle _ idle,
      (((Frame.refl _ _ s.dev).beginLoad (by simp) (by simp)).wr (by simp)).endAccess (by simp)⟩
    · rw [Dev.endAccess_rd, Dev.rd_wr_other _ _ (by decide), Dev.beginLoad_busy_of_idle _ idle]
    · rw [Dev.endAccess_rd, Dev.rd_wr_same, Nat.zero_mod]
  · exact does_write_logCmd (Dev.hostWrite_logCmd_of_busy hv h 0x02 crc busy)
      ⟨Dev.rejected_of_writes s.dev _ (by decide), (Frame.refl _ _ s.dev).rejected.endAccess (by simp)⟩
  · subst hcur
    refine ⟨fun mounted held => ?_, fun absent => ?_⟩
    · obtain ⟨r, found, mem, above, lowest⟩ := Dev.recordAt_of_exists held
      refine does_logLoadDone (Dev.logLoadDone_record_found alive mode fck busy load mounted found)
        ⟨⟨r, mem, above, lowest, rfl, ?_, Dev.endLoad_len _ _ _⟩, Dev.endLoad_busy _ _ _, Dev.endLoad_result _ _ _,
          (((Frame.refl _ _ s.dev).fillWin (by simp)).wr (by simp)).endLoad (by simp)⟩
      rw [Dev.endLoad_cur, Dev.rd_wr_same]
      rfl
    · exact does_logLoadDone (Dev.logLoadDone_record_absent alive mode fck busy load absent)
        ⟨Dev.endLoad_busy _ _ _, Dev.endLoad_result _ _ _, rfl, ((Frame.refl _ _ s.dev).fillWin (by simp)).endLoad (by simp)⟩
  · subst hi
    have not_record : s.dev.logs.load ≠ 1 := by omega
    refine ⟨fun mounted used => ?_, fun absent => ?_⟩
    · exact does_logLoadDone (Dev.logLoadDone_audit_found alive mode fck busy not_record mounted used)
        ⟨Dev.endLoad_busy _ _ _, Dev.endLoad_result _ _ _, Dev.endLoad_len _ _ _, rfl,
          ((Frame.refl _ _ s.dev).fillAwin (by simp)).endLoad (by simp)⟩
    · exact does_logLoadDone (Dev.logLoadDone_audit_absent alive mode fck busy not_record absent)
        ⟨Dev.endLoad_busy _ _ _, Dev.endLoad_result _ _ _, rfl, ((Frame.refl _ _ s.dev).fillAwin (by simp)).endLoad (by simp)⟩
  · by_cases load : s.dev.logs.load = 1
    · exact does_logLoadDone (Dev.logLoadDone_record_failed alive mode fck busy load)
        ⟨Dev.endLoad_busy _ _ _, Dev.endLoad_result _ _ _, rfl, ((Frame.refl _ _ s.dev).fillWin (by simp)).endLoad (by simp)⟩
    · exact does_logLoadDone (Dev.logLoadDone_audit alive mode fck busy true load)
        ⟨Dev.endLoad_busy _ _ _, Dev.endLoad_result _ _ _, rfl, ((Frame.refl _ _ s.dev).fillAwin (by simp)).endLoad (by simp)⟩

end Sys2Proof.Machine
end

/-! PROOFS of what every command and every step keeps: the reset classes, NVM, fuses and canonical forms. -/
section

namespace Sys2Proof.Machine

/-- A command that reads its state in SRAM keeps what its effect keeps, on banks whose counts it may change. -/
theorem State.onDev_readState_keeps {i : Instr} {k : Allow} (f : Dev → Dev) {user : Nat} {upsets : List (Nat × Nat)} {s t : State}
    (h : s.onDev i (fun d => f (d.readState user upsets)) = .next t) (hB : k.b = true) (hP : k.p = true)
    (hf : ∀ d, Keeps k s.dev d → Keeps k s.dev (f d)) : t.pending = s.pending ∧ Keeps k s.dev t.dev :=
  State.onDev_keeps h (hf _ (Dev.readState_keeps hB hP (Keeps.refl _ _)))

/-- Every command keeps what its row of commandAllow names, and leaves the queue. -/
theorem exec_keeps {c : Instr} {s t : State} (h : exec c s = .next t) : t.pending = s.pending ∧ Keeps (commandAllow c) s.dev t.dev := by
  cases c with
  | lowWordRead => exact State.onDev_keeps h (Dev.oneRead_keeps (fun _ h => Dev.lowWordRead_keeps h) (Keeps.refl _ _))
  | registerWrite => exact State.onDev_keeps h (Dev.registerWrite_keeps rfl rfl rfl (Keeps.refl _ _))
  | voiceEdge => exact State.onDev_keeps h (Dev.voiceEdge_keeps rfl rfl (Keeps.refl _ _))
  | pendingMarker => exact State.onDev_keeps h (Dev.pendingMarker_keeps (Keeps.refl _ _))
  | epochWrap => exact State.onDev_keeps h (Dev.epochWrap_keeps (Keeps.refl _ _))
  | stampAccumulate voice _ => exact State.onDev_readState_keeps (Dev.stampAccumulate voice) h rfl rfl (fun _ h => Dev.stampAccumulate_keeps h)
  | ringWrite => exact State.onDev_keeps h (Dev.ringWrite_keeps rfl (Keeps.refl _ _))
  | ringDataRead => exact State.onDev_keeps h (Dev.oneRead_keeps (fun _ h => Dev.windowRead_keeps (Dev.findUpsets_keeps rfl rfl h)) (Keeps.refl _ _))
  | flush => exact State.onDev_keeps h (Dev.oneWrite_keeps (fun _ h => Dev.flush_keeps h) (Keeps.refl _ _))
  | clearLossCount => exact State.onDev_keeps h (Dev.oneWrite_keeps (fun _ h => Dev.clearLoss_keeps h) (Keeps.refl _ _))
  | clearVoiceCounts => exact State.onDev_keeps h (Dev.oneWrite_keeps (fun _ h => Dev.clearVoiceCounts_keeps h) (Keeps.refl _ _))
  | voiceStart => exact State.onDev_keeps h (Dev.voiceBegins_keeps (Keeps.refl _ _))
  | scrub => exact State.onDev_keeps h (Dev.scrub_keeps rfl rfl (Keeps.refl _ _))
  | rowReplacementDone => exact State.onDev_keeps h (Dev.rowReplacementDone_keeps rfl (Keeps.refl _ _))
  | powerGoodRise => exact State.onDev_keeps h (Dev.powerGoodRise_keeps rfl rfl rfl rfl rfl (Keeps.refl _ _))
  | powerGoodFall => exact State.onDev_keeps h (Dev.powerGoodFall_keeps rfl rfl rfl rfl rfl (Keeps.refl _ _))
  | vbatLow => exact State.onDev_keeps h (Dev.vbatLow_keeps rfl (Keeps.refl _ _))
  | bootStepComplete => exact State.onDev_keeps h (Dev.bootStepComplete_keeps rfl rfl rfl rfl (Keeps.refl _ _))
  | firstPeriod => exact State.onDev_keeps h (Dev.firstPeriod_keeps rfl (Keeps.refl _ _))
  | pinReset => exact State.onDev_keeps h (Dev.pinReset_keeps rfl rfl rfl rfl rfl (Keeps.refl _ _))
  | softReset => exact State.onDev_keeps h (Dev.softReset_keeps rfl rfl rfl rfl rfl (Keeps.refl _ _))
  | choirReset => exact State.onDev_keeps h (Dev.choirReset_keeps rfl rfl rfl rfl rfl (Keeps.refl _ _))
  | strapChange => exact State.onDev_keeps h (Dev.strapChange_keeps rfl (Keeps.refl _ _))
  | sealChange => exact State.onDev_keeps h (Dev.sealChange_keeps rfl (Keeps.refl _ _))
  | xtalFail => exact State.onDev_keeps h (Dev.xtalFail_keeps rfl rfl (Keeps.refl _ _))
  | referenceSwitch => exact State.onDev_keeps h (Dev.referenceSwitch_keeps (Keeps.refl _ _))
  | spllLockDetect => exact State.onDev_keeps h (Dev.spllLockDetect_keeps (Keeps.refl _ _))
  | windowCheck => exact State.onDev_keeps h (Dev.windowCheck_keeps rfl rfl rfl rfl (Keeps.refl _ _))
  | spllSwitchTimeout => exact State.onDev_keeps h (Dev.spllSwitchTimeout_keeps rfl (Keeps.refl _ _))
  | overspeed => exact State.onDev_keeps h (Dev.overspeed_keeps rfl (Keeps.refl _ _))
  | ocxoWindow => exact State.onDev_keeps h (Dev.ocxoWindow_keeps rfl (Keeps.refl _ _))
  | refInLost => exact State.onDev_keeps h (Dev.refInLost_keeps rfl (Keeps.refl _ _))
  | ocxoRdyChange => exact State.onDev_keeps h (Dev.ocxoRdyChange_keeps rfl (Keeps.refl _ _))
  | warmupLate => exact State.onDev_keeps h (Dev.warmupLate_keeps rfl (Keeps.refl _ _))
  | tbRestartCheck => exact State.onDev_keeps h (Dev.oneWrite_keeps (fun _ h => Dev.tbRestartCheck_keeps h) (Keeps.refl _ _))
  | tuningHit => exact State.onDev_keeps h (Dev.tuningHit_keeps rfl (Keeps.refl _ _))
  | tableSwap => exact State.onDev_keeps h (Dev.tableSwap_keeps (Keeps.refl _ _))
  | tableExpired => exact State.onDev_keeps h (Dev.tableExpired_keeps rfl (Keeps.refl _ _))
  | bootTuningLate => exact State.onDev_keeps h (Dev.bootTuningLate_keeps rfl (Keeps.refl _ _))
  | collectionTimeout => exact State.onDev_keeps h (Dev.collectionTimeout_keeps rfl (Keeps.refl _ _))
  | tuneRestart => exact State.onDev_keeps h (Dev.oneWrite_keeps (fun _ h => Dev.tuneRestart_keeps h) (Keeps.refl _ _))
  | exciterTrip => exact State.onDev_keeps h (Dev.exciterTrip_keeps (Keeps.refl _ _))
  | classifierCondition => exact State.onDev_keeps h (Dev.classifierCondition_keeps rfl (Keeps.refl _ _))
  | openWireCheck => exact State.onDev_keeps h (Dev.openWireCheck_keeps rfl (Keeps.refl _ _))
  | monitorSettled => exact State.onDev_keeps h (Dev.monitorSettled_keeps (Keeps.refl _ _))
  | selfTestStep => exact State.onDev_keeps h (Dev.selfTestStep_keeps rfl (Keeps.refl _ _))
  | wmSelfTest => exact State.onDev_keeps h (Dev.oneWrite_keeps (fun _ h => Dev.wmSelfTest_keeps h) (Keeps.refl _ _))
  | monitorBothHigh => exact State.onDev_keeps h (Dev.monitorBothHigh_keeps rfl (Keeps.refl _ _))
  | exciterStart => exact State.onDev_keeps h (Dev.exciterStart_keeps rfl (Keeps.refl _ _))
  | pulseStart => exact State.onDev_keeps h (Dev.pulseStart_keeps (Keeps.refl _ _))
  | pulseEnd => exact State.onDev_keeps h (Dev.pulseEnd_keeps (Keeps.refl _ _))
  | sweepHalfPeriod => exact State.onDev_keeps h (Dev.sweepHalfPeriod_keeps (Keeps.refl _ _))
  | periodBoundary => exact State.onDev_keeps h (Dev.periodBoundary_keeps rfl rfl rfl rfl rfl rfl (Keeps.refl _ _))
  | closeout => exact State.onDev_keeps h (Dev.closeout_keeps rfl rfl (Keeps.refl _ _))
  | closeoutDeadline => exact State.onDev_keeps h (Dev.deadline_keeps rfl (Keeps.refl _ _))
  | voiceSilent => exact State.onDev_keeps h (Dev.voiceSilent_keeps rfl (Keeps.refl _ _))
  | clearAllanCtx => exact State.onDev_keeps h (Dev.oneWrite_keeps (fun _ h => Dev.clearAllanCtx_keeps h) (Keeps.refl _ _))
  | clearAllanAll => exact State.onDev_keeps h (Dev.oneWrite_keeps (fun _ h => Dev.clearAllanAll_keeps h) (Keeps.refl _ _))
  | clearRestCounts => exact State.onDev_keeps h (Dev.oneWrite_keeps (fun _ h => Dev.clearRestCounts_keeps h) (Keeps.refl _ _))
  | analyserStamp analyser _ => exact State.onDev_readState_keeps (Dev.analyserStamp analyser) h rfl rfl (fun _ h => Dev.analyserStamp_keeps rfl h)
  | analyserCloseout => exact State.onDev_keeps h (Dev.analyserCloseout_keeps rfl rfl (Keeps.refl _ _))
  | rseqRead => exact State.onDev_keeps h (Dev.oneRead_keeps (fun _ h => Dev.rseqRead_keeps h) (Keeps.refl _ _))
  | captureTimeout => exact State.onDev_keeps h (Dev.captureTimeout_keeps (Keeps.refl _ _))
  | rearmElapsed => exact State.onDev_keeps h (Dev.rearmElapsed_keeps (Keeps.refl _ _))
  | missedTriggerRead => exact State.onDev_keeps h (Dev.oneRead_keeps (fun _ h => Dev.missedTriggerRead_keeps (Dev.findUpsets_keeps rfl rfl h)) (Keeps.refl _ _))
  | captureBufferRead => exact State.onDev_keeps h (Dev.oneRead_keeps (fun _ h => Dev.captureBufferRead_keeps (Dev.findUpsets_keeps rfl rfl h)) (Keeps.refl _ _))
  | commandTrigger => exact State.onDev_keeps h (Dev.oneWrite_keeps (fun _ h => Dev.commandTrigger_keeps rfl h) (Keeps.refl _ _))
  | clearHistogram => exact State.onDev_keeps h (Dev.oneWrite_keeps (fun _ h => Dev.clearHistogram_keeps h) (Keeps.refl _ _))
  | clearTotal => exact State.onDev_keeps h (Dev.oneWrite_keeps (fun _ h => Dev.clearTotal_keeps h) (Keeps.refl _ _))
  | clearMissCount => exact State.onDev_keeps h (Dev.oneWrite_keeps (fun _ h => Dev.clearMissCount_keeps h) (Keeps.refl _ _))
  | releaseSegment => exact State.onDev_keeps h (Dev.oneWrite_keeps (fun _ h => Dev.releaseSegment_keeps h) (Keeps.refl _ _))
  | completeCapture => exact State.onDev_keeps h (Dev.oneWrite_keeps (fun _ h => Dev.completeCapture_keeps h) (Keeps.refl _ _))
  | releaseAll => exact State.onDev_keeps h (Dev.oneWrite_keeps (fun _ h => Dev.releaseAll_keeps h) (Keeps.refl _ _))
  | localSum _ => exact State.onDev_readState_keeps Dev.localSum h rfl rfl (fun _ h => Dev.localSum_keeps rfl h)
  | pipelineCommit _ => exact State.onDev_readState_keeps Dev.pipelineCommit h rfl rfl (fun _ h => Dev.pipelineCommit_keeps rfl h)
  | zero => exact State.onDev_keeps h (Dev.oneWrite_keeps (fun _ h => Dev.operate_keeps h) (Keeps.refl _ _))
  | tare => exact State.onDev_keeps h (Dev.oneWrite_keeps (fun _ h => Dev.operate_keeps h) (Keeps.refl _ _))
  | clearTare => exact State.onDev_keeps h (Dev.oneWrite_keeps (fun _ h => Dev.operate_keeps h) (Keeps.refl _ _))
  | print => exact State.onDev_keeps h (Dev.oneWrite_keeps (fun _ h => Dev.operate_keeps h) (Keeps.refl _ _))
  | legalResultRead => exact State.onDev_keeps h (Dev.oneRead_keeps (fun _ h => Dev.legalResultRead_keeps h) (Keeps.refl _ _))
  | totPulseEnd => exact State.onDev_keeps h (Dev.totPulseEnd_keeps (Keeps.refl _ _))
  | trackStamp voice _ => exact State.onDev_readState_keeps (Dev.trackStamp voice) h rfl rfl (fun _ h => Dev.trackStamp_keeps rfl rfl h)
  | frameDecode _ => exact State.onDev_readState_keeps Dev.frameDecode h rfl rfl (fun _ h => Dev.frameDecode_keeps rfl rfl h)
  | frameLate => exact State.onDev_keeps h (Dev.frameLate_keeps rfl (Keeps.refl _ _))
  | shock => exact State.onDev_keeps h (Dev.shock_keeps (Keeps.refl _ _))
  | dropout => exact State.onDev_keeps h (Dev.dropout_keeps (Keeps.refl _ _))
  | learnRunStart => exact State.onDev_keeps h (Dev.learnRunStart_keeps (Keeps.refl _ _))
  | learnProfile => exact State.onDev_keeps h (Dev.oneWrite_keeps (fun _ h => Dev.learnProfile_keeps h) (Keeps.refl _ _))
  | clearProv => exact State.onDev_keeps h (Dev.oneWrite_keeps (fun _ h => Dev.clearProv_keeps rfl h) (Keeps.refl _ _))
  | emptyWeakMap => exact State.onDev_keeps h (Dev.oneWrite_keeps (fun _ h => Dev.emptyWeakMap_keeps rfl h) (Keeps.refl _ _))
  | reacquire => exact State.onDev_keeps h (Dev.oneWrite_keeps (fun _ h => Dev.reacquire_keeps h) (Keeps.refl _ _))
  | laneSignalDetect => exact State.onDev_keeps h (Dev.laneSignalDetect_keeps (Keeps.refl _ _))
  | laneAlign => exact State.onDev_keeps h (Dev.laneAlign_keeps (Keeps.refl _ _))
  | trainingSet => exact State.onDev_keeps h (Dev.trainingSet_keeps (Keeps.refl _ _))
  | trainingTimeout => exact State.onDev_keeps h (Dev.trainingTimeout_keeps rfl (Keeps.refl _ _))
  | trainingRetry => exact State.onDev_keeps h (Dev.trainingRetry_keeps (Keeps.refl _ _))
  | laneSignalLoss => exact State.onDev_keeps h (Dev.laneSignalLoss_keeps (Keeps.refl _ _))
  | codeViolationLimit => exact State.onDev_keeps h (Dev.codeViolationLimit_keeps rfl (Keeps.refl _ _))
  | oneLaneRetrain => exact State.onDev_keeps h (Dev.oneLaneRetrain_keeps (Keeps.refl _ _))
  | frameRx => exact State.onDev_keeps h (Dev.frameRx_keeps rfl (Keeps.refl _ _))
  | ack => exact State.onDev_keeps h (Dev.ackRx_keeps (Keeps.refl _ _))
  | nak port lseq _ => exact State.onDev_readState_keeps (Dev.nakRx port lseq) h rfl rfl (fun _ h => Dev.nakRx_keeps rfl h)
  | ackTimer => exact State.onDev_keeps h (Dev.ackTimer_keeps (Keeps.refl _ _))
  | replayTimeout port _ => exact State.onDev_readState_keeps (Dev.replayTimeout port) h rfl rfl (fun _ h => Dev.replayTimeout_keeps rfl h)
  | syncSend => exact State.onDev_keeps h (Dev.syncSend_keeps rfl (Keeps.refl _ _))
  | timeSend => exact State.onDev_keeps h (Dev.timeSend_keeps (Keeps.refl _ _))
  | healthSend => exact State.onDev_keeps h (Dev.healthSend_keeps (Keeps.refl _ _))
  | cfghashSend => exact State.onDev_keeps h (Dev.cfghashSend_keeps (Keeps.refl _ _))
  | syncRx => exact State.onDev_keeps h (Dev.syncRx_keeps rfl rfl rfl rfl (Keeps.refl _ _))
  | thetaTimeout => exact State.onDev_keeps h (Dev.thetaTimeout_keeps (Keeps.refl _ _))
  | timeRx => exact State.onDev_keeps h (Dev.timeRx_keeps rfl (Keeps.refl _ _))
  | sumRx => exact State.onDev_keeps h (Dev.sumRx_keeps rfl (Keeps.refl _ _))
  | sumWindowEnd => exact State.onDev_keeps h (Dev.sumWindowEnd_keeps rfl (Keeps.refl _ _))
  | resultRx => exact State.onDev_keeps h (Dev.resultRx_keeps (Keeps.refl _ _))
  | resultTimeout => exact State.onDev_keeps h (Dev.resultTimeout_keeps rfl (Keeps.refl _ _))
  | healthRx => exact State.onDev_keeps h (Dev.healthRx_keeps (Keeps.refl _ _))
  | cfghashRx => exact State.onDev_keeps h (Dev.cfghashRx_keeps rfl (Keeps.refl _ _))
  | logRx => exact State.onDev_keeps h (Dev.logRx_keeps (Keeps.refl _ _))
  | opRx => exact State.onDev_keeps h (Dev.opRx_keeps (Keeps.refl _ _))
  | switchRx => exact State.onDev_keeps h (Dev.switchRx_keeps rfl (Keeps.refl _ _))
  | switchAckRx => exact State.onDev_keeps h (Dev.switchAckRx_keeps (Keeps.refl _ _))
  | resetRx => exact State.onDev_keeps h (Dev.resetRx_keeps (Keeps.refl _ _))
  | retireRx => exact State.onDev_keeps h (Dev.retireRx_keeps (Keeps.refl _ _))
  | readmitRx => exact State.onDev_keeps h (Dev.readmitRx_keeps (Keeps.refl _ _))
  | realignReqRx => exact State.onDev_keeps h (Dev.realignReqRx_keeps (Keeps.refl _ _))
  | claimTime => exact State.onDev_keeps h (Dev.claimTime_keeps rfl (Keeps.refl _ _))
  | aliveLapse => exact State.onDev_keeps h (Dev.aliveLapse_keeps (Keeps.refl _ _))
  | retrainPort => exact State.onDev_keeps h (Dev.oneWrite_keeps (fun _ h => Dev.retrainPort_keeps h) (Keeps.refl _ _))
  | readmitDevice => exact State.onDev_keeps h (Dev.oneWrite_keeps (fun _ h => Dev.readmitDevice_keeps h) (Keeps.refl _ _))
  | choirResetCmd => exact State.onDev_keeps h (Dev.oneWrite_keeps (fun _ h => Dev.choirResetCmd_keeps h) (Keeps.refl _ _))
  | clearChoirCounters => exact State.onDev_keeps h (Dev.oneWrite_keeps (fun _ h => Dev.clearChoirCounters_keeps h) (Keeps.refl _ _))
  | apply => exact State.onDev_keeps h (Dev.oneWrite_keeps (fun _ h => Dev.startApply_keeps h) (Keeps.refl _ _))
  | applyLoad => exact State.onDev_keeps h (Dev.oneWrite_keeps (fun _ h => Dev.startApply_keeps h) (Keeps.refl _ _))
  | cancel => exact State.onDev_keeps h (Dev.oneWrite_keeps (fun _ h => Dev.cancelApply_keeps h) (Keeps.refl _ _))
  | programKeyFuses => exact State.onDev_keeps h (Dev.oneWrite_keeps (fun _ h => Dev.programKeyFuses_keeps rfl h) (Keeps.refl _ _))
  | validationDone => exact State.onDev_keeps h (Dev.validationDone_keeps rfl (Keeps.refl _ _))
  | commitComplete => exact State.onDev_keeps h (Dev.commitComplete_keeps rfl rfl rfl rfl rfl rfl (Keeps.refl _ _))
  | switchingBoundary => exact State.onDev_keeps h (Dev.switchingBoundary_keeps rfl rfl rfl rfl rfl rfl (Keeps.refl _ _))
  | transitionEnd => exact State.onDev_keeps h (Dev.transitionEnd_keeps (Keeps.refl _ _))
  | read => exact State.onDev_keeps h (Dev.hostRead_keeps rfl rfl rfl rfl rfl (Keeps.refl _ _))
  | fastRead => exact State.onDev_keeps h (Dev.hostRead_keeps rfl rfl rfl rfl rfl (Keeps.refl _ _))
  | quadRead => exact State.onDev_keeps h (Dev.hostRead_keeps rfl rfl rfl rfl rfl (Keeps.refl _ _))
  | qioRead => exact State.onDev_keeps h (Dev.hostRead_keeps rfl rfl rfl rfl rfl (Keeps.refl _ _))
  | write => exact State.onDev_keeps h (Dev.hostWrite_keeps rfl rfl rfl rfl rfl rfl rfl (Keeps.refl _ _))
  | quadWrite => exact State.onDev_keeps h (Dev.hostWrite_keeps rfl rfl rfl rfl rfl rfl rfl (Keeps.refl _ _))
  | qioWrite => exact State.onDev_keeps h (Dev.hostWrite_keeps rfl rfl rfl rfl rfl rfl rfl (Keeps.refl _ _))
  | status => exact State.onDev_keeps h (Dev.status_keeps (Keeps.refl _ _))
  | unknownCommand => exact State.onDev_keeps h (Dev.unknownCommand_keeps rfl rfl rfl rfl rfl (Keeps.refl _ _))
  | unread => exact State.onDev_keeps h (Dev.unreadNow_keeps (Keeps.refl _ _))
  | ptRead => exact State.onDev_keeps h (Dev.oneWrite_keeps (fun _ h => Dev.ptRead_keeps h) (Keeps.refl _ _))
  | ptProgram => exact State.onDev_keeps h (Dev.oneWrite_keeps (fun _ h => Dev.ptProgram_keeps h) (Keeps.refl _ _))
  | ptErase => exact State.onDev_keeps h (Dev.oneWrite_keeps (fun _ h => Dev.ptErase_keeps h) (Keeps.refl _ _))
  | slotErase => exact State.onDev_keeps h (Dev.oneWrite_keeps (fun _ h => Dev.slotErase_keeps h) (Keeps.refl _ _))
  | ptDone => exact State.onDev_keeps h (Dev.ptDone_keeps rfl rfl (Keeps.refl _ _))
  | ptTimeout => exact State.onDev_keeps h (Dev.ptTimeout_keeps rfl rfl (Keeps.refl _ _))
  | extest => exact State.onDev_keeps h (Dev.extest_keeps rfl rfl rfl rfl rfl (Keeps.refl _ _))
  | idcode => exact State.onDev_keeps h (Dev.idcode_keeps rfl rfl rfl rfl rfl (Keeps.refl _ _))
  | samplePreload => exact State.onDev_keeps h (Dev.samplePreload_keeps rfl rfl rfl rfl rfl (Keeps.refl _ _))
  | clamp => exact State.onDev_keeps h (Dev.clamp_keeps rfl rfl rfl rfl rfl (Keeps.refl _ _))
  | highz => exact State.onDev_keeps h (Dev.highz_keeps rfl rfl rfl rfl rfl (Keeps.refl _ _))
  | bypass => exact State.onDev_keeps h (Dev.bypass_keeps rfl rfl rfl rfl rfl (Keeps.refl _ _))
  | privateInstruction => exact State.onDev_keeps h (Dev.privateInstruction_keeps rfl rfl rfl rfl rfl rfl (Keeps.refl _ _))
  | jtagInstructionLeave => exact State.onDev_keeps h (Dev.jtagInstructionLeave_keeps rfl rfl rfl rfl rfl (Keeps.refl _ _))
  | calendarSecond => exact State.onDev_keeps h (Dev.calendarSecond_keeps rfl (Keeps.refl _ _))
  | setCalendar => exact State.onDev_keeps h (Dev.oneWrite_keeps (fun _ h => Dev.setCalendar_keeps rfl h) (Keeps.refl _ _))
  | calWriteApply => exact State.onDev_keeps h (Dev.calWriteApply_keeps rfl (Keeps.refl _ _))
  | kckStop => exact State.onDev_keeps h (Dev.kckStop_keeps rfl (Keeps.refl _ _))
  | logRecordWrite => exact State.onDev_keeps h (Dev.logRecordWrite_keeps rfl rfl (Keeps.refl _ _))
  | collection => exact State.onDev_keeps h (Dev.collection_keeps rfl rfl (Keeps.refl _ _))
  | nvmRetry => exact State.onDev_keeps h (Dev.nvmRetry_keeps rfl rfl rfl (Keeps.refl _ _))
  | totaliserPhase1 => exact State.onDev_keeps h (Dev.totaliserPhase1_keeps rfl rfl (Keeps.refl _ _))
  | totaliserPhase2 => exact State.onDev_keeps h (Dev.totaliserPhase2_keeps rfl rfl rfl (Keeps.refl _ _))
  | loadRecord => exact State.onDev_keeps h (Dev.oneWrite_keeps (fun _ h => Dev.loadRecord_keeps h) (Keeps.refl _ _))
  | loadAuditRecord => exact State.onDev_keeps h (Dev.oneWrite_keeps (fun _ h => Dev.loadAuditRecord_keeps h) (Keeps.refl _ _))
  | logLoadDone => exact State.onDev_keeps h (Dev.logLoadDone_keeps (Keeps.refl _ _))
  | reAdmit => exact State.onDev_keeps h (Dev.oneWrite_keeps (fun _ h => Dev.reAdmit_keeps h) (Keeps.refl _ _))
  | clearSramCorr => exact State.onDev_keeps h (Dev.oneWrite_keeps (fun _ h => Dev.clearSramCorr_keeps h) (Keeps.refl _ _))
  | ringLockTimeout => exact State.onDev_keeps h (Dev.lockTimeout_keeps rfl (Keeps.refl _ _))
  | hold => exact State.onDev_keeps h (Dev.oneWrite_keeps (fun _ h => Dev.hold_keeps h) (Keeps.refl _ _))
  | run => exact State.onDev_keeps h (Dev.oneWrite_keeps (fun _ h => Dev.run_keeps h) (Keeps.refl _ _))
  | standby => exact State.onDev_keeps h (Dev.oneWrite_keeps (fun _ h => Dev.standby_keeps h) (Keeps.refl _ _))
  | standbyEntryComplete => exact State.onDev_keeps h (Dev.standbyEntryComplete_keeps rfl (Keeps.refl _ _))
  | resume => exact State.onDev_keeps h (Dev.resume_keeps (Keeps.refl _ _))
  | wake => exact State.onDev_keeps h (Dev.wake_keeps (Keeps.refl _ _))
  | resumeStepComplete => exact State.onDev_keeps h (Dev.resumeStepComplete_keeps rfl rfl rfl rfl (Keeps.refl _ _))
  | dieTempMeasure => exact State.onDev_keeps h (Dev.dieTempMeasure_keeps rfl (Keeps.refl _ _))
  | resetNRise => exact State.onDev_keeps h (Dev.resetNRise_keeps (Keeps.refl _ _))
  | refInEdgesPresent => exact State.onDev_keeps h (Dev.refInEdgesPresent_keeps (Keeps.refl _ _))
  | backupDomainLoss => exact State.onDev_keeps h (Dev.backupDomainLoss_keeps rfl (Keeps.refl _ _))

/-- Settles O4: each command's effect keeps what its row names. -/
theorem commandsKeepWhatTheyMayNotChange : Obligations.CommandsKeepWhatTheyMayNotChange := by
  unfold Obligations.CommandsKeepWhatTheyMayNotChange
  intro c s t h
  exact (exec_keeps h).2

/-- The idle step changes class S fields and units alone. -/
theorem step_idle {s t : State} (idle : s.pending = []) (h : step s = .next t) : t = { s with dev := s.dev.tick } := by
  rw [step, idle] at h
  injection h with h
  rw [← h, idle]

/-- A step runs the command at the front of the queue, or lets one FCK pass. -/
theorem step_cases {s t : State} (h : step s = .next t) :
    (∃ c q, s.pending = c :: q ∧ exec c { s with pending := q } = .next t) ∨ s.pending = [] ∧ t = { s with dev := s.dev.tick } := by
  cases waiting : s.pending with
  | nil => exact .inr ⟨rfl, by rw [step_idle waiting h, waiting]⟩
  | cons c q =>
    rw [step, waiting] at h
    exact .inl ⟨c, q, rfl, h⟩

/-- Every step keeps what some row of commandAllow names. -/
theorem step_keeps {s t : State} (h : step s = .next t) : ∃ k, Keeps k s.dev t.dev := by
  rcases step_cases h with ⟨c, q, -, ran⟩ | ⟨-, rfl⟩
  · exact ⟨commandAllow c, (exec_keeps ran).2⟩
  · exact ⟨Allow.least, Dev.tick_keeps (Keeps.refl _ _)⟩

theorem Keeps.canonical {k : Allow} {d e : Dev} (h : Keeps k d e) (c : d.canonical = true) : e.canonical = true := by
  simp only [Dev.canonical, Bool.and_eq_true] at c ⊢
  obtain ⟨⟨regs, snaps⟩, nvm⟩ := c
  exact ⟨⟨h.regsWf regs, h.snapsWf snaps⟩, h.nvmWf nvm⟩

/-- Settles O5: whatever a step may change, Keeps carries the canonical form over. -/
theorem stepKeepsCanonicalForm : Obligations.StepKeepsCanonicalForm := by
  unfold Obligations.StepKeepsCanonicalForm
  intro s t canonical h
  obtain ⟨k, keeps⟩ := step_keeps h
  exact keeps.canonical canonical

/-- The commands whose row of commandAllow lists the fuses. -/
theorem commandAllow_fuse {c : Instr} (h : (commandAllow c).fuse = true) :
    c = .programKeyFuses ∨ ∃ a b f, c = .write a b f ∨ c = .quadWrite a b f ∨ c = .qioWrite a b f := by
  cases c with
  | programKeyFuses => exact .inl rfl
  | write a b f => exact .inr ⟨a, b, f, .inl rfl⟩
  | quadWrite a b f => exact .inr ⟨a, b, f, .inr (.inl rfl)⟩
  | qioWrite a b f => exact .inr ⟨a, b, f, .inr (.inr rfl)⟩
  | _ => exact Bool.noConfusion h

/-- Settles O6: Keeps holds the fuses once KEY_SET is 1, and outside the rows that list them. -/
theorem keyFusesAreForGood : Obligations.KeyFusesAreForGood := by
  unfold Obligations.KeyFusesAreForGood
  refine ⟨fun s t set h => ?_, fun c s t h changed => ?_⟩
  · obtain ⟨k, keeps⟩ := step_keeps h
    exact keeps.keySet set
  · refine commandAllow_fuse ?_
    by_contra closed
    exact changed ((exec_keeps h).2.fuse (by simpa using closed))

end Sys2Proof.Machine
end

/-! PROOFS: what reads answer after the named updates, and how frames are used; the rules that the families below share. -/
section

namespace Sys2Proof.Machine

open Reg

/-! ### Units after a field write -/

@[simp] theorem Dev.voice_wr (d : Dev) (f : Fld) (v : Nat) (n : Nat) : (d.wr f v).voice n = d.voice n := rfl
@[simp] theorem Dev.voice_inc (d : Dev) (f : Fld) (n : Nat) : (d.inc f).voice n = d.voice n := rfl
@[simp] theorem Dev.voice_step1 (d : Dev) (f : Fld) (n : Nat) : (d.step1 f).voice n = d.voice n := rfl
@[simp] theorem Dev.ring_wr (d : Dev) (f : Fld) (v : Nat) (n : Nat) : (d.wr f v).ring n = d.ring n := rfl
@[simp] theorem Dev.ring_inc (d : Dev) (f : Fld) (n : Nat) : (d.inc f).ring n = d.ring n := rfl
@[simp] theorem Dev.ring_step1 (d : Dev) (f : Fld) (n : Nat) : (d.step1 f).ring n = d.ring n := rfl
@[simp] theorem Dev.tun_wr (d : Dev) (f : Fld) (v : Nat) (n : Nat) : (d.wr f v).tun n = d.tun n := rfl
@[simp] theorem Dev.tun_inc (d : Dev) (f : Fld) (n : Nat) : (d.inc f).tun n = d.tun n := rfl
@[simp] theorem Dev.tun_step1 (d : Dev) (f : Fld) (n : Nat) : (d.step1 f).tun n = d.tun n := rfl
@[simp] theorem Dev.wm_wr (d : Dev) (f : Fld) (v : Nat) (n : Nat) : (d.wr f v).wm n = d.wm n := rfl
@[simp] theorem Dev.wm_inc (d : Dev) (f : Fld) (n : Nat) : (d.inc f).wm n = d.wm n := rfl
@[simp] theorem Dev.wm_step1 (d : Dev) (f : Fld) (n : Nat) : (d.step1 f).wm n = d.wm n := rfl
@[simp] theorem Dev.exc_wr (d : Dev) (f : Fld) (v : Nat) (n : Nat) : (d.wr f v).exc n = d.exc n := rfl
@[simp] theorem Dev.exc_inc (d : Dev) (f : Fld) (n : Nat) : (d.inc f).exc n = d.exc n := rfl
@[simp] theorem Dev.exc_step1 (d : Dev) (f : Fld) (n : Nat) : (d.step1 f).exc n = d.exc n := rfl
@[simp] theorem Dev.timer_wr (d : Dev) (f : Fld) (v : Nat) (n : Nat) : (d.wr f v).timer n = d.timer n := rfl
@[simp] theorem Dev.timer_inc (d : Dev) (f : Fld) (n : Nat) : (d.inc f).timer n = d.timer n := rfl
@[simp] theorem Dev.timer_step1 (d : Dev) (f : Fld) (n : Nat) : (d.step1 f).timer n = d.timer n := rfl
@[simp] theorem Dev.ana_wr (d : Dev) (f : Fld) (v : Nat) (n : Nat) : (d.wr f v).ana n = d.ana n := rfl
@[simp] theorem Dev.ana_inc (d : Dev) (f : Fld) (n : Nat) : (d.inc f).ana n = d.ana n := rfl
@[simp] theorem Dev.ana_step1 (d : Dev) (f : Fld) (n : Nat) : (d.step1 f).ana n = d.ana n := rfl
@[simp] theorem Dev.fitVoice_wr (d : Dev) (f : Fld) (v : Nat) (n : Nat) : (d.wr f v).fitVoice n = d.fitVoice n := rfl
@[simp] theorem Dev.fitVoice_inc (d : Dev) (f : Fld) (n : Nat) : (d.inc f).fitVoice n = d.fitVoice n := rfl
@[simp] theorem Dev.fitVoice_step1 (d : Dev) (f : Fld) (n : Nat) : (d.step1 f).fitVoice n = d.fitVoice n := rfl
@[simp] theorem Dev.fitPair_wr (d : Dev) (f : Fld) (v : Nat) (n : Nat) : (d.wr f v).fitPair n = d.fitPair n := rfl
@[simp] theorem Dev.fitPair_inc (d : Dev) (f : Fld) (n : Nat) : (d.inc f).fitPair n = d.fitPair n := rfl
@[simp] theorem Dev.fitPair_step1 (d : Dev) (f : Fld) (n : Nat) : (d.step1 f).fitPair n = d.fitPair n := rfl
@[simp] theorem Dev.port_wr (d : Dev) (f : Fld) (v : Nat) (n : Nat) : (d.wr f v).port n = d.port n := rfl
@[simp] theorem Dev.port_inc (d : Dev) (f : Fld) (n : Nat) : (d.inc f).port n = d.port n := rfl
@[simp] theorem Dev.port_step1 (d : Dev) (f : Fld) (n : Nat) : (d.step1 f).port n = d.port n := rfl

/-! ### Reads of fields -/

theorem Dev.is_of_ne_zero {d : Dev} {f : Fld} (h : d.rd f ≠ 0) : d.is f = true := bne_iff_ne.2 h

theorem Dev.is_of_zero {d : Dev} {f : Fld} (h : d.rd f = 0) : d.is f = false := by simp [Dev.is, h]

/-- A counter that holds at its end, while it is below it. -/
theorem Dev.rd_inc_below (d : Dev) {f : Fld} (h : d.rd f < 2 ^ f.width - 1) : (d.inc f).rd f = d.rd f + 1 := by
  rw [Dev.inc, Dev.rd_wr_same, incHold_eq_min, Nat.min_eq_left (by omega), Nat.mod_eq_of_lt (by omega)]

theorem Dev.rd_inc_same (d : Dev) (f : Fld) : (d.inc f).rd f = min (d.rd f + 1) (2 ^ f.width - 1) := by
  rw [Dev.inc, Dev.rd_wr_same, incHold_eq_min]
  exact Nat.mod_eq_of_lt (by have := Nat.two_pow_pos f.width; omega)

theorem Dev.rd_inc_other (d : Dev) {f g : Fld} (h : g.key ≠ f.key ∨ g.cls ≠ f.cls) : (d.inc f).rd g = d.rd g := Dev.rd_wr_other d _ h

theorem Dev.rd_step1_same (d : Dev) (f : Fld) : (d.step1 f).rd f = (d.rd f + 1) % 2 ^ f.width := Dev.rd_wr_same d f _

theorem Dev.rd_step1_other (d : Dev) {f g : Fld} (h : g.key ≠ f.key ∨ g.cls ≠ f.cls) : (d.step1 f).rd g = d.rd g := Dev.rd_wr_other d _ h

theorem Dev.rd_putVoice_other (d : Dev) {n : Nat} {v : Voice} {g : Fld}
    (h : g.key ≠ (VOICE_STATUS_FIFO_LEVEL n).key ∨ g.cls ≠ (VOICE_STATUS_FIFO_LEVEL n).cls) : (d.putVoice n v).rd g = d.rd g :=
  Dev.rd_wr_other _ _ h

theorem Dev.rd_putLog_other (d : Dev) {q : List LogRec} {g : Fld} (h : g.key ≠ LOG_STATUS_LOG_QUEUE.key ∨ g.cls ≠ LOG_STATUS_LOG_QUEUE.cls) :
    (d.putLog q).rd g = d.rd g := Dev.rd_wr_other _ _ h

end Sys2Proof.Machine
end

/-! PROOFS about the machine as a whole: the front command, the idle step, and the state after reset. -/
section

namespace Sys2Proof.Machine

open Reg

/-- Every command is an effect on the device, taken when its operands are in range. -/
theorem exec_onDev (c : Instr) (s : State) : ∃ f, exec c s = s.onDev c f := by
  cases c with
  | stampAccumulate n u => exact ⟨fun d => Dev.stampAccumulate n (d.readState (5 + n) u), rfl⟩
  | analyserStamp n u => exact ⟨fun d => Dev.analyserStamp n (d.readState (29 + n) u), rfl⟩
  | localSum u => exact ⟨fun d => Dev.localSum (d.readState 1 u), rfl⟩
  | pipelineCommit u => exact ⟨fun d => Dev.pipelineCommit (d.readState 1 u), rfl⟩
  | trackStamp n u => exact ⟨fun d => Dev.trackStamp n (d.readState 2 u), rfl⟩
  | frameDecode u => exact ⟨fun d => Dev.frameDecode (d.readState 2 u), rfl⟩
  | nak p k u => exact ⟨fun d => Dev.nakRx p k (d.readState (3 + p) u), rfl⟩
  | replayTimeout p u => exact ⟨fun d => Dev.replayTimeout p (d.readState (3 + p) u), rfl⟩
  | _ => exact ⟨_, rfl⟩

/-- Settles O1: every arm of exec is an effect on the device put on the state by `State.onDev`. -/
theorem stepRunsTheFrontCommand : Obligations.StepRunsTheFrontCommand := by
  unfold Obligations.StepRunsTheFrontCommand
  refine ⟨fun d c q => rfl, fun c s => ?_, fun c s ill => ?_⟩
  · obtain ⟨f, run⟩ := exec_onDev c s
    rw [run]
    exact State.onDev_completes c s f
  · obtain ⟨f, run⟩ := exec_onDev c s
    rw [run, State.onDev_ill s f ill]

/-! ### The idle step -/

/-- One FCK counted. -/
def Dev.countFck (d : Dev) : Dev := { d with time := { d.time with fck := d.time.fck + 1 } }

theorem Dev.tick_of_no_power {d : Dev} (off : d.power.good = false) : d.tick = d := by
  rw [Dev.tick, off]
  rfl

/-- With the power good a tick counts one FCK, and SCK goes on as the clocks allow. -/
theorem Dev.tick_of_power {d : Dev} (good : d.power.good = true) :
    d.tick =
      if d.is TB_STATUS_FCK_SRC then d.countFck
      else if d.sckOpen then
        ({ d with time := { d.time with fck := d.time.fck + 1, fifths := (d.time.fifths + 16) % 5 } } : Dev).runSck ((d.time.fifths + 16) / 5)
      else if d.time.opened then { d with time := { d.time with fck := d.time.fck + 1, gap := d.time.gap + 1 } }
      else d.countFck := by
  rw [Dev.tick, if_neg (by simp [good])]
  rfl

/-- 16 fifths of an SCK more, while the coarse counter stays below its end. -/
theorem Dev.tick_on_sck {d : Dev} (good : d.power.good = true) (running : d.sckOpen = true) (fifths : d.time.fifths < 5)
    (below : d.time.coarse + 4 < coarseMod) :
    d.tick = { d with time := { d.time with fck := d.time.fck + 1, fifths := (d.time.fifths + 16) % 5,
                                            coarse := d.time.coarse + (d.time.fifths + 16) / 5 } } := by
  have not_rck : d.is TB_STATUS_FCK_SRC = false := by
    simp only [Dev.sckOpen, Bool.and_eq_true, Bool.not_eq_true'] at running
    exact running.2
  have no_wrap : d.time.coarse + (d.time.fifths + 16) / 5 < coarseMod := by omega
  rw [Dev.tick_of_power good, not_rck, if_neg (by decide), if_pos running]
  exact if_pos no_wrap

theorem Frame.epochMarkers {us : List Part} {fs : List Fld} {d0 d : Dev} {x : Nat} (hu : Part.voices ∈ us)
    (hf : ∀ n < 16, VOICE_STATUS_FIFO_LEVEL n ∈ fs) (h : Frame us fs d0 d) : Frame us fs d0 (d.epochMarkers x) := by
  refine h.each (fun d n hn hd => ?_)
  dsimp only
  split
  · exact hd.putVoice hu (hf n (List.mem_range.1 hn))
  · exact hd

theorem mem_fifoFlds {n : Nat} (h : n < 16) : VOICE_STATUS_FIFO_LEVEL n ∈ fifoFlds := List.mem_map.2 ⟨n, List.mem_range.2 h, rfl⟩

theorem Dev.epochMarkers_time (d : Dev) (x : Nat) : (d.epochMarkers x).time = d.time :=
  ((Frame.refl [.voices] fifoFlds d).epochMarkers (x := x) (by simp) (fun _ => mem_fifoFlds)).parts .time (by decide)

theorem Dev.wrapEpoch_time (d : Dev) : d.wrapEpoch.time = { d.time with coarse := 0, fifths := 0 } := by
  rw [Dev.wrapEpoch, Dev.epochMarkers_time, Dev.inc_time]

/-- Another coarse count leaves the FCK count alone. -/
theorem Dev.fck_of_coarse (d : Dev) (c : Nat) : ({ d with time := { d.time with coarse := c } } : Dev).time.fck = d.time.fck := rfl

theorem Dev.runSck_fck (d : Dev) (n : Nat) : (d.runSck n).time.fck = d.time.fck := by
  by_cases below : d.time.coarse + n < coarseMod
  · rw [Dev.runSck, if_pos below]
  · rw [Dev.runSck, if_neg below]
    refine (Dev.fck_of_coarse _ _).trans ?_
    rw [Dev.wrapEpoch_time]

theorem Dev.tick_fck {d : Dev} (good : d.power.good = true) : d.tick.time.fck = d.time.fck + 1 := by
  rw [Dev.tick_of_power good]
  split
  · rfl
  · split
    · exact Dev.runSck_fck _ _
    · split <;> rfl

/-- Settles O2: on an empty queue `step` is `Dev.tick`. -/
theorem idleStepPassesOneFck : Obligations.IdleStepPassesOneFck := by
  unfold Obligations.IdleStepPassesOneFck
  intro s idle
  have ticks : step s = .next { s with dev := s.dev.tick } := by rw [step, idle]
  rw [ticks]
  refine ⟨fun off => by rw [Dev.tick_of_no_power off], fun good => ⟨_, rfl, idle, Dev.tick_fck good, fun rck => ?_, fun running fifths below => ?_⟩⟩
  · have on_rck : s.dev.tick = s.dev.countFck := by rw [Dev.tick_of_power good, if_pos (Dev.is_of_ne_zero rck)]
    rw [on_rck]
    exact ⟨rfl, (Frame.refl _ _ s.dev).time (by simp)⟩
  · rw [Dev.tick_on_sck good running fifths below]
    refine ⟨?_, Nat.mod_lt _ (by decide), (Frame.refl _ _ s.dev).time (by simp)⟩
    dsimp only
    omega

/-! ### The state after reset -/

theorem RegFile.table_atReset (c : Cls) : RegFile.atReset.table c = [] := by cases c <;> rfl

theorem Dev.rd_off (f : Fld) : Dev.off.rd f = f.reset := by
  rw [Dev.rd, Dev.off, RegFile.get, RegFile.table_atReset]
  exact Nat.zero_xor f.reset

/-- Settles O3: every class table of the state after reset is empty, and an empty table reads the reset values. -/
theorem resetLeavesResetValues : Obligations.ResetLeavesResetValues := by
  unfold Obligations.ResetLeavesResetValues
  exact ⟨rfl, Dev.rd_off, rfl, rfl, rfl, rfl, rfl, rfl, rfl, rfl⟩

end Sys2Proof.Machine
end

/-! PROOFS: the statements that fail, each with a concrete device that the model evaluates to the refuting outcome. -/
section

namespace Sys2Proof.Machine

open Reg

/-- What a command that completes describes holds of the device its effect gives. -/
theorem Does.effect {c : Instr} {s : State} {f : Dev → Dev} {P : Dev → Prop} (run : exec c s = s.onDev c f) (w : c.wf = true)
    (h : Does c s P) : P (f s.dev) := by
  obtain ⟨t, e, -, p⟩ := h
  rw [run, State.onDev_wf s f w] at e
  injection e with e
  rwa [← e] at p

/-- A device in RUN on the crystal with SCK open. -/
def runningDev : Dev :=
  (({ Dev.off with power := { PowerSt.off with good := true, steps := 2 ^ 14 - 1 } }.wr POWER_STATUS_STATE 1).wr TB_STATUS_FCK_SRC 0).wr
    TB_STATUS_GATED 0

/-- At the window check of a switch, with an edge of voice 0 counted while the gate was closed and the voice reported silent. -/
def hiddenEdgeDev : Dev :=
  ({ runningDev with time := { runningDev.time with step := 7, target := 2, opened := true },
                     voices := [(0, { Voice.fresh with hidden := 1 })] }.wr TB_STATUS_GATED 1).wr (FIT_VOICE_STATUS_SILENT 0) 1

/-- Refutes O12: a hidden edge that the reopening carries into EVCNT ends the voice's silence, and FIT_VOICE_STATUS.SILENT is not in the frame. -/
theorem not_referenceSwitchTakesItsSteps : ¬ Obligations.ReferenceSwitchTakesItsSteps := by
  unfold Obligations.ReferenceSwitchTakesItsSteps
  intro h
  obtain ⟨-, -, opens, -⟩ := h
  have d := (opens ⟨hiddenEdgeDev, []⟩ 1024 (by decide +kernel) (by decide +kernel) (by decide +kernel) (by decide) (by decide)
    (by decide +kernel) (by decide +kernel) (by decide +kernel)).effect rfl (by decide)
  obtain ⟨-, -, -, -, -, frame⟩ := d
  have silent : (hiddenEdgeDev.windowCheck 1024).rd (FIT_VOICE_STATUS_SILENT 0) = hiddenEdgeDev.rd (FIT_VOICE_STATUS_SILENT 0) :=
    frame.regs _ (by decide +kernel)
  exact absurd silent (by decide +kernel)

/-- A device whose track channel collects a frame and whose VOICE[14] is in STARTING. -/
def collectingDev : Dev :=
  (({ runningDev with track := { runningDev.track with collect := some { start := 0, cells := 0, nomark := false, pos := none, split := none,
                                                                         second := none, stamps := [] } } }.wr
    TRACK_CFG_EN 1).wr TRACK_STATUS_STATE 1).wr (VOICE_STATUS_STATE 14) 1

/-- Its boot collection on voice 14 is under way. -/
def bootCollectionDev : Dev := { collectingDev with tune := [(14, { Tune.fresh with boot := true })] }.wr (TUNE_STATUS_MODE 14) 1

/-- Refutes O16: VOICE[14], retired at the timeout, takes the track channel with it, and the frame cut short is recorded as 0x0701 after 0x0208. -/
theorem not_tuningTablesAndTheirTimers : ¬ Obligations.TuningTablesAndTheirTimers := by
  unfold Obligations.TuningTablesAndTheirTimers
  intro h
  obtain ⟨-, -, -, times_out, -⟩ := h
  have d := (times_out ⟨bootCollectionDev, []⟩ 14 (by decide +kernel) (by decide) (by decide +kernel) (by decide +kernel) (by decide +kernel)
    (by decide +kernel)).effect rfl (by decide)
  obtain ⟨code, -⟩ := d
  exact absurd code (by decide +kernel)

/-- Monitor 0 is in the second try of its self-test, and VOICE[14] is in its LOSS_MASK. -/
def retestDev : Dev :=
  ({ collectingDev with wms := [(0, { Wm.fresh with step := 1 })] }.wr (WM_STATUS_STATE 0) 3).wr (WM_LOSS_MASK_VOICES 0) (2 ^ 14)

/-- Refutes O19: a monitor that fails retires VOICE[14] of its LOSS_MASK, and the frame cut short is recorded as 0x0701 after 0x0305. -/
theorem not_monitorsAreTestedAndClassified : ¬ Obligations.MonitorsAreTestedAndClassified := by
  unfold Obligations.MonitorsAreTestedAndClassified
  intro h
  obtain ⟨-, tested, -⟩ := h
  obtain ⟨-, wrong⟩ := tested ⟨retestDev, []⟩ 0 0 0 (by decide) (by decide) (by decide) (by decide +kernel) (.inr (by decide +kernel))
  obtain ⟨-, second⟩ := wrong 0 (by decide +kernel) (by decide +kernel)
  have d := (second (by decide +kernel) (by decide +kernel)).effect rfl (by decide)
  obtain ⟨-, -, -, code⟩ := d
  exact absurd code (by decide +kernel)

/-- Timer 0 runs, and a window of voice 0 with one dropped pair waits for its boundary. -/
def laterWindowDev : Dev :=
  (({ runningDev with voices := [(0, { Voice.fresh with later := [(0, [], 1)] })] }.wr (TIMER_STATUS_RUNNING 0) 1).wr
    (VOICE_STATUS_STATE 0) 2).wr (TIMER_LENGTH_US 0) 100

/-- Refutes O20: a window that waited for the boundary is taken with it, so the new period already counts its edges. -/
theorem not_periodBoundaryEndsAndBegins : ¬ Obligations.PeriodBoundaryEndsAndBegins := by
  unfold Obligations.PeriodBoundaryEndsAndBegins
  intro h
  have d := (h ⟨laterWindowDev, []⟩ 0 (by decide) (by decide +kernel) (by decide +kernel) (by decide +kernel) (by decide +kernel)
    (by decide +kernel) (by decide +kernel)).effect rfl (by decide)
  obtain ⟨-, -, -, -, marked⟩ := d
  obtain ⟨counted, -⟩ := marked 0 (by decide) (by decide +kernel)
  exact absurd counted (by decide +kernel)

/-- A period of voice 0 with its sums complete and fewer stamps than MIN_N. -/
def shortItem : Item :=
  { ctx := 0, timer := 0, start := 0, stop := 0, lengthUs := 0, pseq := 0, va := 0, vb := 0, waitA := none, waitB := none, a := Sums.zero,
    b := Sums.zero, ivl := Ivl.zero, pa := 0, pb := 0, minA := 1, minB := 0, nom := 0, causes := 0, runts := 0, counted := 0, decim := false,
    prob := false, k := 0, eps := f64Zero, held := false }

/-- That period waits for its closeout. -/
def shortPeriodDev : Dev := { runningDev with items := [shortItem] }.wr STRIKE_CFG_RETIRE 8

/-- Refutes O22: where the sums of a late period are complete but too few, 0x0502 is recorded after 0x0501. -/
theorem not_closeoutWritesItsEntry : ¬ Obligations.CloseoutWritesItsEntry := by
  unfold Obligations.CloseoutWritesItsEntry
  intro h
  obtain ⟨-, late, -⟩ := h
  have d := (late ⟨shortPeriodDev, []⟩ 0 shortItem [] (by decide) (by decide +kernel) (by decide +kernel) rfl rfl (by decide) rfl (by simp)
    (by decide +kernel)).effect rfl (by decide)
  obtain ⟨-, -, code, -⟩ := d
  exact absurd code (by decide +kernel)

/-- Boot steps 1, 9, 10 and 11 have completed, and step 2 has not. -/
def earlyStepsDev : Dev :=
  { Dev.off with power := { PowerSt.off with good := true, steps := 2 ^ 1 + 2 ^ 9 + 2 ^ 10 + 2 ^ 11 } }.wr TB_STATUS_FCK_SRC 0

/-- Refutes O58: with steps 9, 10 and 11 noted as complete, step 2 ends the boot, and POWER_STATUS.STATE is not in its frame. -/
theorem not_bootAndResumeTakeTheirSteps : ¬ Obligations.BootAndResumeTakeTheirSteps := by
  unfold Obligations.BootAndResumeTakeTheirSteps
  intro h
  obtain ⟨steps, -⟩ := h
  have d := (steps ⟨earlyStepsDev, []⟩ 2 (by decide) (by decide +kernel)).effect rfl (by decide)
  obtain ⟨-, frame⟩ := d
  have state : (earlyStepsDev.bootStepComplete 2 []).rd POWER_STATUS_STATE = earlyStepsDev.rd POWER_STATUS_STATE :=
    frame.regs _ (by simp)
  exact absurd state (by decide +kernel)

end Sys2Proof.Machine
end

/-! PROOFS: frames read backwards through an update, host writes, and what recording a fault does where the source bears it. -/
section

namespace Sys2Proof.Machine

open Reg

/-! ### Frames through an update of what they list -/

section

variable {us : List Part} {fs : List Fld} {d0 d : Dev}

@[simp] theorem Frame.refl_iff : Frame us fs d d ↔ True := iff_true_intro (Frame.refl us fs d)

/-- The effect of an update of listed parts alone is in the frame when what it starts from is. -/
theorem Frame.set_iff {e : Dev} (hr : e.regs = d.regs) (hu : ∀ u, u ∉ us → u.Same d e) : Frame us fs d0 e ↔ Frame us fs d0 d :=
  ⟨fun h => h.set hr.symm (fun u x => by have := hu u x; cases u <;> exact this.symm), fun h => h.set hr hu⟩

@[simp] theorem Frame.wr_iff {f : Fld} {v : Nat} (hf : f ∈ fs) : Frame us fs d0 (d.wr f v) ↔ Frame us fs d0 d :=
  ⟨fun h => ⟨h.parts, fun g hg => (Dev.rd_wr_other d v (hg f hf)).symm.trans (h.regs g hg)⟩, fun h => h.wr hf⟩

@[simp] theorem Frame.inc_iff {f : Fld} (hf : f ∈ fs) : Frame us fs d0 (d.inc f) ↔ Frame us fs d0 d := Frame.wr_iff hf

@[simp] theorem Frame.step1_iff {f : Fld} (hf : f ∈ fs) : Frame us fs d0 (d.step1 f) ↔ Frame us fs d0 d := Frame.wr_iff hf

@[simp] theorem Frame.setLatest_iff {b : Bool} (hu : Part.host ∈ us) : Frame us fs d0 (d.setLatest b) ↔ Frame us fs d0 d :=
  Frame.set_iff rfl (fun u x => by cases u <;> first | rfl | exact absurd hu x)

@[simp] theorem Frame.putRing_iff {n : Nat} {x : Ring} (hu : Part.rings ∈ us) : Frame us fs d0 (d.putRing n x) ↔ Frame us fs d0 d :=
  Frame.set_iff rfl (fun u x => by cases u <;> first | rfl | exact absurd hu x)

@[simp] theorem Frame.putTun_iff {n : Nat} {x : Tune} (hu : Part.tune ∈ us) : Frame us fs d0 (d.putTun n x) ↔ Frame us fs d0 d :=
  Frame.set_iff rfl (fun u x => by cases u <;> first | rfl | exact absurd hu x)

@[simp] theorem Frame.putWm_iff {n : Nat} {x : Wm} (hu : Part.wms ∈ us) : Frame us fs d0 (d.putWm n x) ↔ Frame us fs d0 d :=
  Frame.set_iff rfl (fun u x => by cases u <;> first | rfl | exact absurd hu x)

@[simp] theorem Frame.putExc_iff {n : Nat} {x : Exc} (hu : Part.excs ∈ us) : Frame us fs d0 (d.putExc n x) ↔ Frame us fs d0 d :=
  Frame.set_iff rfl (fun u x => by cases u <;> first | rfl | exact absurd hu x)

@[simp] theorem Frame.putAna_iff {n : Nat} {x : Ana} (hu : Part.anas ∈ us) : Frame us fs d0 (d.putAna n x) ↔ Frame us fs d0 d :=
  Frame.set_iff rfl (fun u x => by cases u <;> first | rfl | exact absurd hu x)

@[simp] theorem Frame.putCap_iff {x : Cap} (hu : Part.cap ∈ us) : Frame us fs d0 (d.putCap x) ↔ Frame us fs d0 d :=
  Frame.set_iff rfl (fun u x => by cases u <;> first | rfl | exact absurd hu x)

@[simp] theorem Frame.putFitVoice_iff {n : Nat} {x : FitVoice} (hu : Part.fitV ∈ us) :
    Frame us fs d0 (d.putFitVoice n x) ↔ Frame us fs d0 d :=
  Frame.set_iff rfl (fun u x => by cases u <;> first | rfl | exact absurd hu x)

@[simp] theorem Frame.putFitPair_iff {n : Nat} {x : FitPair} (hu : Part.fitP ∈ us) :
    Frame us fs d0 (d.putFitPair n x) ↔ Frame us fs d0 d :=
  Frame.set_iff rfl (fun u x => by cases u <;> first | rfl | exact absurd hu x)

@[simp] theorem Frame.putLogs_iff {x : LogSt} (hu : Part.logs ∈ us) : Frame us fs d0 (d.putLogs x) ↔ Frame us fs d0 d :=
  Frame.set_iff rfl (fun u x => by cases u <;> first | rfl | exact absurd hu x)

@[simp] theorem Frame.putChoir_iff {x : ChoirSt} (hu : Part.choir ∈ us) : Frame us fs d0 (d.putChoir x) ↔ Frame us fs d0 d :=
  Frame.set_iff rfl (fun u x => by cases u <;> first | rfl | exact absurd hu x)

@[simp] theorem Frame.putPipe_iff {x : Pipe} (hu : Part.pipe ∈ us) : Frame us fs d0 (d.putPipe x) ↔ Frame us fs d0 d :=
  Frame.set_iff rfl (fun u x => by cases u <;> first | rfl | exact absurd hu x)

@[simp] theorem Frame.putTrack_iff {x : TrackSt} (hu : Part.track ∈ us) : Frame us fs d0 (d.putTrack x) ↔ Frame us fs d0 d :=
  Frame.set_iff rfl (fun u x => by cases u <;> first | rfl | exact absurd hu x)

@[simp] theorem Frame.nextFree_iff (hu : Part.free ∈ us) : Frame us fs d0 d.nextFree ↔ Frame us fs d0 d :=
  Frame.set_iff rfl (fun u x => by cases u <;> first | rfl | exact absurd hu x)

@[simp] theorem Frame.putVoice_iff {n : Nat} {x : Voice} (hu : Part.voices ∈ us) (hf : VOICE_STATUS_FIFO_LEVEL n ∈ fs) :
    Frame us fs d0 (d.putVoice n x) ↔ Frame us fs d0 d :=
  (Frame.wr_iff hf).trans (Frame.set_iff rfl (fun u x => by cases u <;> first | rfl | exact absurd hu x))

@[simp] theorem Frame.putLog_iff {q : List LogRec} (hu : Part.logQueue ∈ us) (hf : LOG_STATUS_LOG_QUEUE ∈ fs) :
    Frame us fs d0 (d.putLog q) ↔ Frame us fs d0 d :=
  (Frame.wr_iff hf).trans (Frame.set_iff rfl (fun u x => by cases u <;> first | rfl | exact absurd hu x))

end

/-! ### Reads through updates of parts -/

/-- A field of another key reads as before. -/
theorem Dev.rd_wr_key (d : Dev) {f g : Fld} (v : Nat) (h : g.key ≠ f.key) : (d.wr f v).rd g = d.rd g := Dev.rd_wr_other d v (.inl h)

theorem Dev.rd_inc_key (d : Dev) {f g : Fld} (h : g.key ≠ f.key) : (d.inc f).rd g = d.rd g := Dev.rd_wr_key d _ h

theorem Dev.rd_step1_key (d : Dev) {f g : Fld} (h : g.key ≠ f.key) : (d.step1 f).rd g = d.rd g := Dev.rd_wr_key d _ h

theorem Frame.rd {us : List Part} {fs : List Fld} {d0 d : Dev} (h : Frame us fs d0 d) {g : Fld} (hg : ∀ f ∈ fs, g.key ≠ f.key) :
    d.rd g = d0.rd g := h.regs g (fun f hf => .inl (hg f hf))

theorem Frame.is {us : List Part} {fs : List Fld} {d0 d : Dev} (h : Frame us fs d0 d) {g : Fld} (hg : ∀ f ∈ fs, g.key ≠ f.key) :
    d.is g = d0.is g := by rw [Dev.is, Dev.is, h.rd hg]

/-! ### A host write is served -/

@[simp] theorem Dev.rd_setLatest (d : Dev) (b : Bool) (f : Fld) : (d.setLatest b).rd f = d.rd f := rfl
@[simp] theorem Dev.is_setLatest (d : Dev) (b : Bool) (f : Fld) : (d.setLatest b).is f = d.is f := rfl

/-- A command that host software writes, while writes are served, has its effect after the device notes that a write was the latest frame. -/
theorem Does.of_oneWrite {c : Instr} {s : State} {f : Dev → Dev} {P : Dev → Prop} (run : exec c s = s.onDev c (Dev.oneWrite f))
    (wf : c.wf = true) (served : s.dev.hostOpen = true) (p : P (f (s.dev.setLatest false))) : Does c s P :=
  Does.of_onDev run wf (by rw [Dev.oneWrite_of_hostOpen _ served]; exact p)

/-! ### Faults -/

@[simp] theorem Dev.rd_lastCode_writeFault (d : Dev) (code cls src strikes retire prob arg : Nat) :
    (d.writeFault code cls src strikes retire prob arg).rd FAULT_STATUS_LAST_CODE = code % 2 ^ 16 :=
  Dev.rd_wr_same _ FAULT_STATUS_LAST_CODE code

theorem Dev.fault_none_eq (d : Dev) (code cls : Nat) (arg : Option Nat) :
    d.fault code cls [] arg = d.writeFault code cls srcNone 0 0 0
      (arg.getD (d.rd (TIMER_PCOUNT_COUNT (d.timerOr0 (d.rd PIPE_CFG_TIMER))))) := by
  have no_strikes : hasStrikes srcNone = false := rfl
  have kept : d.addStrike srcNone cls = d := by simp [Dev.addStrike, no_strikes]
  have not_retired : d.retires srcNone cls = false := by simp [Dev.retires, no_strikes]
  simp only [Dev.fault, Dev.faultOne, Dev.chargeFault, kept, not_retired, no_strikes]
  rfl

@[simp] theorem Dev.rd_lastCode_fault_none (d : Dev) (code cls : Nat) (arg : Option Nat) :
    (d.fault code cls [] arg).rd FAULT_STATUS_LAST_CODE = code % 2 ^ 16 := by
  rw [Dev.fault_none_eq, Dev.rd_lastCode_writeFault]

theorem Frame.report {us : List Part} {fs : List Fld} {d0 d : Dev} {code : Nat} (hu : faultParts ⊆ us) (hf : faultFlds ⊆ fs)
    (h : Frame us fs d0 d) : Frame us fs d0 (d.report code) := h.writeFault hu hf

@[simp] theorem Dev.rd_lastCode_report (d : Dev) (code : Nat) : (d.report code).rd FAULT_STATUS_LAST_CODE = code % 2 ^ 16 :=
  Dev.rd_lastCode_writeFault _ _ _ _ _ _ _ _

/-- Charging a source touches its strike record. -/
theorem Frame.addStrike {us : List Part} {fs : List Fld} {d0 d : Dev} {src cls : Nat} (hu : Part.faults ∈ us)
    (hf : [STRIKE_STRIKES src, STRIKE_DECAY_COUNT src] ⊆ fs) (h : Frame us fs d0 d) : Frame us fs d0 (d.addStrike src cls) := by
  have hs : STRIKE_STRIKES src ∈ fs := hf (by simp)
  have hc : STRIKE_DECAY_COUNT src ∈ fs := hf (by simp)
  unfold Dev.addStrike
  split
  · exact h
  · have counted : Frame us fs d0 (if cls = 1 then d.wr (STRIKE_DECAY_COUNT src) 0 else d) := by
      split
      · exact h.wr hc
      · exact h
    revert counted
    generalize (if cls = 1 then d.wr (STRIKE_DECAY_COUNT src) 0 else d) = e
    intro counted
    dsimp only
    split
    · exact Frame.inc hs (counted.faults hu)
    · exact counted.faults hu

/-- One strike more, at most. -/
theorem Dev.rd_strikes_addStrike_le (d : Dev) (src : Nat) : (d.addStrike src 1).rd (STRIKE_STRIKES src) ≤ d.rd (STRIKE_STRIKES src) + 1 := by
  have kept (x y : FaultSt) : ({ ({ d.wr (STRIKE_DECAY_COUNT src) 0 with faults := x } : Dev) with faults := y } : Dev).rd (STRIKE_STRIKES src) =
      d.rd (STRIKE_STRIKES src) :=
    Dev.rd_wr_key d (f := STRIKE_DECAY_COUNT src) _ (by simp [STRIKE_STRIKES, STRIKE_DECAY_COUNT])
  unfold Dev.addStrike
  rw [if_pos rfl]
  split
  · exact Nat.le_succ _
  · dsimp only
    split
    · rw [Dev.rd_inc_same]
      exact (Nat.min_le_left _ _).trans (Nat.succ_le_succ (kept _ _).le)
    · exact ((kept _ _).le).trans (Nat.le_succ _)

theorem Dev.not_retires_of_bears {d : Dev} {src : Nat} (h : d.bears src) : (d.addStrike src 1).retires src 1 = false := by
  obtain ⟨-, not_probing, below⟩ := h
  have touched : Frame [.faults] [STRIKE_STRIKES src, STRIKE_DECAY_COUNT src] d (d.addStrike src 1) :=
    (Frame.refl _ _ d).addStrike (by simp) (by simp)
  have probing : (d.addStrike src 1).rd (STRIKE_PROBATION src) = 0 :=
    (touched.rd (by simp [STRIKE_PROBATION, STRIKE_STRIKES, STRIKE_DECAY_COUNT])).trans not_probing
  have limit : (d.addStrike src 1).rd STRIKE_CFG_RETIRE = d.rd STRIKE_CFG_RETIRE :=
    touched.regs _ (by simp [STRIKE_CFG_RETIRE, STRIKE_STRIKES, STRIKE_DECAY_COUNT])
  have strikes := d.rd_strikes_addStrike_le src
  simp only [Dev.retires, Dev.is, probing, limit]
  simp
  omega

/-- A transient fault that its source bears is charged and recorded, and retires nothing. -/
theorem Dev.fault_bears_eq {d : Dev} {src : Nat} (h : d.bears src) (code : Nat) (arg : Option Nat) :
    ∃ strikes prob a, d.fault code transient [src] arg = (d.addStrike src 1).writeFault code transient src strikes 0 prob a := by
  have stays : (d.addStrike src transient).retires src transient = false := Dev.not_retires_of_bears h
  simp only [Dev.fault, Dev.each_cons, Dev.each_nil, Dev.faultOne, Dev.chargeFault, stays]
  exact ⟨_, _, _, rfl⟩

theorem Frame.fault_bears {us : List Part} {fs : List Fld} {d0 d : Dev} {src code : Nat} {arg : Option Nat} (hb : d.bears src)
    (hu : faultParts ⊆ us) (hf : strikeFlds src ⊆ fs) (h : Frame us fs d0 d) : Frame us fs d0 (d.fault code transient [src] arg) := by
  obtain ⟨strikes, prob, a, run⟩ := Dev.fault_bears_eq hb code arg
  rw [run]
  exact (h.addStrike (hu (by decide)) (fun f x => hf (List.mem_append_left _ x))).writeFault hu (fun f x => hf (List.mem_append_right _ x))

theorem Dev.rd_lastCode_fault_bears {d : Dev} {src : Nat} (h : d.bears src) (code : Nat) (arg : Option Nat) :
    (d.fault code transient [src] arg).rd FAULT_STATUS_LAST_CODE = code % 2 ^ 16 := by
  obtain ⟨strikes, prob, a, run⟩ := Dev.fault_bears_eq h code arg
  rw [run, Dev.rd_lastCode_writeFault]

end Sys2Proof.Machine
end

/-! PROOFS: the commands that clear what they name: rings and voices, the fit engine, the analysers and the track channel. -/
section

namespace Sys2Proof.Machine

open Reg

/-! ### Sequences of updates -/

/-- What the update for `m` establishes and the others keep holds after a sequence of updates that `m` is in. -/
theorem Dev.each_reaches {α : Type} {P : Dev → Prop} {l : List α} {f : Dev → α → Dev} {m : α} (hm : m ∈ l) (reach : ∀ d, P (f d m))
    (keep : ∀ d x, x ∈ l → x ≠ m → P d → P (f d x)) (d : Dev) : P (d.each l f) := by
  classical
  have stays : ∀ (r : List α) (d : Dev), (∀ x ∈ r, x ∈ l) → P d → P (d.each r f) := by
    intro r
    induction r with
    | nil => exact fun _ _ h => h
    | cons x r ih =>
      intro d sub h
      refine ih _ (fun y hy => sub y (List.mem_cons_of_mem _ hy)) ?_
      by_cases eq : x = m
      · exact eq ▸ reach d
      · exact keep d x (sub x List.mem_cons_self) eq h
  obtain ⟨a, b, rfl⟩ := List.append_of_mem hm
  have run : d.each (a ++ m :: b) f = (f (d.each a f) m).each b f := by simp [Dev.each, List.foldl_append]
  rw [run]
  exact stays b _ (fun x hx => by simp [hx]) (reach _)

/-- A family of fields cleared by number. -/
def Dev.zeroFields (d : Dev) (F : Nat → Fld) (k : Nat) : Dev := d.each (List.range k) (fun d n => d.wr (F n) 0)

theorem Dev.rd_zeroFields_same {F : Nat → Fld} (inj : ∀ {a b}, a ≠ b → (F a).key ≠ (F b).key) {m k : Nat} (hm : m < k) (d : Dev) :
    (d.zeroFields F k).rd (F m) = 0 :=
  Dev.each_reaches (P := fun d => d.rd (F m) = 0) (List.mem_range.2 hm) (fun d => by simp)
    (fun d x _ other h => (Dev.rd_wr_key d 0 (inj (Ne.symm other))).trans h) d

theorem Dev.rd_zeroFields_other {F : Nat → Fld} {g : Fld} {k : Nat} (apart : ∀ n < k, g.key ≠ (F n).key) (d : Dev) :
    (d.zeroFields F k).rd g = d.rd g :=
  ((Frame.refl [] ((List.range k).map F) d).each (fun _ _ hn h => h.wr (List.mem_map_of_mem hn))).rd
    (List.forall_mem_map.2 (fun n hn => apart n (List.mem_range.1 hn)))

theorem Frame.zeroFields {us : List Part} {fs : List Fld} {d0 d : Dev} {F : Nat → Fld} {k : Nat} (hf : ∀ n < k, F n ∈ fs)
    (h : Frame us fs d0 d) : Frame us fs d0 (d.zeroFields F k) :=
  h.each (fun _ n hn hd => hd.wr (hf n (List.mem_range.1 hn)))

theorem mem_map_range {F : Nat → Fld} {n k : Nat} (h : n < k) : F n ∈ (List.range k).map F := List.mem_map_of_mem (List.mem_range.2 h)

/-! ### Rings and voices -/

theorem Dev.setFill_zero (d : Dev) (n : Nat) : d.setFill n 0 = (d.putFill n 0).wr (RING_STATUS_ABOVE_WM n) 0 := by
  have never : (decide (d.rd (RING_CFG_WATERMARK n) ≠ 0) && decide (d.rd (RING_CFG_WATERMARK n) * 256 ≤ 0)) = false := by
    simp
  rw [Dev.setFill, never]
  rfl

/-- Settles O10: a flush leaves its ring with no entry, and no fill so low passes a watermark. -/
theorem ringAndVoiceCommands : Obligations.RingAndVoiceCommands := by
  unfold Obligations.RingAndVoiceCommands
  refine ⟨fun s n served hn => ?_, fun s n served hn => ?_, fun s n served hn => ?_⟩
  · refine Does.of_oneWrite rfl (by simpa [Instr.wf] using hn) served ?_
    simp only [Dev.flush, Dev.setFill_zero, Dev.putFill]
    refine ⟨?_, ?_, ?_, ?_, by simp⟩
    · simp (disch := simp only [RING_RD_PTR_INDEX, RING_FILL_WORDS, RING_STATUS_FULL, RING_STATUS_ABOVE_WM, RING_STATUS_FLUSHED]; omega)
        [Dev.rd_wr_key]
      rfl
    · simp (disch := simp only [RING_RD_PTR_INDEX, RING_FILL_WORDS, RING_STATUS_FULL, RING_STATUS_ABOVE_WM, RING_STATUS_FLUSHED]; omega)
        [Dev.rd_wr_key]
    · rw [Dev.rd_wr_same]
      rfl
    · simp
  · exact Does.of_oneWrite rfl (by simpa [Instr.wf] using hn) served ⟨by simp [Dev.clearLoss], by simp [Dev.clearLoss]⟩
  · refine Does.of_oneWrite rfl (by simpa [Instr.wf] using hn) served ⟨?_, by simp [Dev.clearVoiceCounts], by simp [Dev.clearVoiceCounts]⟩
    rw [Dev.clearVoiceCounts, Dev.rd_wr_key _ _ (by simp [VOICE_RUNT_COUNT_COUNT, VOICE_OVERRUN_COUNT_COUNT])]
    simp

/-! ### Allan chains -/

/-- The present extended time depends on the time and the register file alone. -/
theorem Dev.ext_congr {d e : Dev} (rd : ∀ g, e.rd g = d.rd g) (time : e.time = d.time) : e.ext = d.ext := by
  rw [Dev.ext, Dev.ext, Dev.coarse, Dev.coarse, Dev.is, Dev.is, rd, rd, time]

/-- The chains of a context, made fresh. -/
def Dev.freshChains (d : Dev) (c : Nat) : Dev := d.allanEach c (fun _ _ => Allan.fresh)

theorem Dev.freshChains_allan (d : Dev) (c : Nat) :
    (d.freshChains c).allan = (List.range 16).foldl (fun t k => Tab.write t (c * 16 + k) Allan.fresh) d.allan := by
  simp only [Dev.freshChains, Dev.allanEach]

theorem Dev.freshChains_allanFrom (d : Dev) (c : Nat) : (d.freshChains c).allanFrom = d.allanFrom := by
  rw [Dev.freshChains, Dev.allanEach]

theorem Dev.freshChains_time (d : Dev) (c : Nat) : (d.freshChains c).time = d.time := by
  rw [Dev.freshChains, Dev.allanEach]

theorem Dev.freshChains_rd (d : Dev) (c : Nat) (g : Fld) : (d.freshChains c).rd g = d.rd g :=
  Dev.rd_congr g (by rw [Dev.freshChains, Dev.allanEach])

theorem Dev.freshChains_ext (d : Dev) (c : Nat) : (d.freshChains c).ext = d.ext :=
  Dev.ext_congr (d.freshChains_rd c) (d.freshChains_time c)

theorem Frame.freshChains {us : List Part} {fs : List Fld} {d0 d : Dev} {c : Nat} (hu : Part.allan ∈ us) (h : Frame us fs d0 d) :
    Frame us fs d0 (d.freshChains c) := h.allan hu

theorem Dev.clearAllanCtx_eq {c : Nat} (h : c < 24) (d : Dev) :
    Dev.clearAllanCtx c d = { d.freshChains c with allanFrom := Store.write d.allanFrom c (d.ext + 1) } := by
  rw [Dev.clearAllanCtx, if_pos h]
  rw [← Dev.freshChains]
  dsimp only
  rw [Dev.freshChains_ext, Dev.freshChains_allanFrom]

theorem Dev.clearAllanCtx_allan {c : Nat} (h : c < 24) (d : Dev) :
    (Dev.clearAllanCtx c d).allan = (List.range 16).foldl (fun t k => Tab.write t (c * 16 + k) Allan.fresh) d.allan := by
  rw [Dev.clearAllanCtx_eq h, ← Dev.freshChains_allan]

theorem Dev.clearAllanCtx_allanFrom {c : Nat} (h : c < 24) (d : Dev) :
    (Dev.clearAllanCtx c d).allanFrom = Store.write d.allanFrom c (d.ext + 1) := by
  rw [Dev.clearAllanCtx_eq h]

/-- A block of sixteen chains made fresh. -/
theorem Allan.read_freshened (c k : Nat) (l : List Nat) (t : Tab Allan) :
    Tab.read Allan.fresh (l.foldl (fun t k => Tab.write t (c * 16 + k) Allan.fresh) t) k =
      if ∃ j ∈ l, k = c * 16 + j then Allan.fresh else Tab.read Allan.fresh t k := by
  induction l generalizing t with
  | nil => simp
  | cons j l ih =>
    rw [List.foldl_cons, ih]
    by_cases later : ∃ i ∈ l, k = c * 16 + i
    · simp [later]
    · by_cases now : k = c * 16 + j
      · subst now; simp
      · simp [later, now, Tab.read_write_other]

theorem Dev.allan_clearAllanCtx {c : Nat} (h : c < 24) (d : Dev) (j : Nat) :
    Tab.read Allan.fresh (Dev.clearAllanCtx c d).allan j =
      if c * 16 ≤ j ∧ j < c * 16 + 16 then Allan.fresh else Tab.read Allan.fresh d.allan j := by
  rw [Dev.clearAllanCtx_allan h]
  refine (Allan.read_freshened c j _ _).trans (if_congr ?_ rfl rfl)
  constructor
  · rintro ⟨k, hk, rfl⟩
    have := List.mem_range.1 hk
    omega
  · exact fun ⟨lo, hi⟩ => ⟨j - c * 16, List.mem_range.2 (by omega), by omega⟩

theorem Frame.clearAllanCtx {us : List Part} {fs : List Fld} {d0 d : Dev} {c : Nat} (hu : [Part.allan, Part.allanFrom] ⊆ us)
    (h : Frame us fs d0 d) : Frame us fs d0 (Dev.clearAllanCtx c d) := by
  by_cases hc : c < 24
  · rw [Dev.clearAllanCtx_eq hc]
    exact (h.freshChains (hu (by simp))).allanFrom (hu (by simp))
  · rw [Dev.clearAllanCtx, if_neg hc]
    exact h

theorem Dev.allanFrom_clearAllanCtx {c : Nat} (h : c < 24) (d : Dev) :
    Store.read (Dev.clearAllanCtx c d).allanFrom c = d.ext + 1 := by
  rw [Dev.clearAllanCtx_allanFrom h, Store.read_write_same]

theorem Dev.allanFrom_clearAllanCtx_other {c m : Nat} (d : Dev) (other : m ≠ c) :
    Store.read (Dev.clearAllanCtx c d).allanFrom m = Store.read d.allanFrom m := by
  by_cases hc : c < 24
  · rw [Dev.clearAllanCtx_allanFrom hc, Store.read_write_other _ _ other]
  · rw [Dev.clearAllanCtx, if_neg hc]

theorem Frame.ext {us : List Part} {d0 d : Dev} (h : Frame us [] d0 d) (ht : Part.time ∉ us) : d.ext = d0.ext :=
  Dev.ext_congr (fun g => h.regs g (by simp)) (h.parts .time ht)

theorem Dev.clearAllanAll_allan {c k : Nat} (hc : c < 24) (hk : k < 16) (d : Dev) :
    Tab.read Allan.fresh d.clearAllanAll.allan (c * 16 + k) = Allan.fresh := by
  refine Dev.each_reaches (P := fun d => Tab.read Allan.fresh d.allan (c * 16 + k) = Allan.fresh) (List.mem_range.2 hc)
    (fun d => ?_) (fun d x hx other h => ?_) d
  · rw [Dev.allan_clearAllanCtx hc, if_pos (by omega)]
  · rw [Dev.allan_clearAllanCtx (List.mem_range.1 hx), if_neg (by omega), h]

theorem Dev.clearAllanAll_from {c : Nat} (hc : c < 24) (d : Dev) : Store.read d.clearAllanAll.allanFrom c = d.ext + 1 := by
  have same_time (e : Dev) (x : Nat) (h : e.ext = d.ext) : (Dev.clearAllanCtx x e).ext = d.ext :=
    ((Frame.refl _ [] e).clearAllanCtx (List.Subset.refl _)).ext (by decide) |>.trans h
  have reached : ∀ (l : List Nat) (e : Dev), e.ext = d.ext → (c ∈ l ∨ Store.read e.allanFrom c = d.ext + 1) →
      Store.read (e.each l (fun e c => Dev.clearAllanCtx c e)).allanFrom c = d.ext + 1 := by
    intro l
    induction l with
    | nil => exact fun e _ h => h.resolve_left (by simp)
    | cons x l ih =>
      intro e he h
      refine ih _ (same_time e x he) ?_
      by_cases now : c = x
      · exact .inr (by rw [now, Dev.allanFrom_clearAllanCtx (now ▸ hc), he])
      · rw [Dev.allanFrom_clearAllanCtx_other e now]
        exact h.imp_left (fun m => (List.mem_cons.1 m).resolve_left now)
  exact reached _ d rfl (.inl (List.mem_range.2 hc))

/-! ### Clearing a totaliser value and the map of weak places -/

theorem Dev.queueLog_of_room {d : Dev} {r : LogRec} (room : d.logQueue.length < 64) (kind : r.kind ≠ 1 ∧ r.kind ≠ 5 ∨ d.rd LOG_STATUS_NVM_HOLD = 0) :
    d.queueLog r = d.putLog (d.logQueue ++ [r]) := by
  have not_full : decide (64 ≤ d.logQueue.length) = false := by simpa using room
  have no_swap : ((decide (64 ≤ d.logQueue.length) || d.is LOG_STATUS_NVM_HOLD) && (r.kind == 1 || r.kind == 5)) = false := by
    rcases kind with ⟨k1, k5⟩ | free
    · simp [k1, k5]
    · simp [not_full, Dev.is, free]
  rw [Dev.queueLog, no_swap, not_full]
  rfl

theorem Dev.queueTot_of_room {d : Dev} {e : TotEntry} (room : d.logs.tot.length < 32) : d.queueTot e = d.putTot (d.logs.tot ++ [e]) := by
  rw [Dev.queueTot, if_neg (by omega), if_neg (by omega)]

theorem Frame.putTot {us : List Part} {fs : List Fld} {d0 d : Dev} {q : List TotEntry} (hu : Part.logs ∈ us)
    (hf : LOG_STATUS_TOT_QUEUE ∈ fs) (h : Frame us fs d0 d) : Frame us fs d0 (d.putTot q) := (h.putLogs hu).wr hf

/-- The weak map with no entry. -/
def Dev.emptiedWeakMap (d : Dev) : Dev :=
  ((d.each (List.range 64) (fun d w => (d.wr (WEAK_MAP_SEG w) 0).wr (WEAK_MAP_VALID w) 0)).putTrack
    { (d.each (List.range 64) (fun d w => (d.wr (WEAK_MAP_SEG w) 0).wr (WEAK_MAP_VALID w) 0)).track with fullRep := false }).wr
      TRACK_STATUS_WEAK_FULL 0

theorem Dev.emptyWeakMap_eq {d : Dev} (h : d.rd PIN_LEVEL_SEAL_OPEN = 1) :
    d.emptyWeakMap = d.emptiedWeakMap.log 5 (d.emptiedWeakMap.weakPayload 2 0) := by
  rw [Dev.emptyWeakMap, if_neg (by simp [Dev.is, h])]
  rfl

theorem Dev.emptiedWeakMap_empty (d : Dev) {w : Nat} (hw : w < 64) :
    d.emptiedWeakMap.rd (WEAK_MAP_VALID w) = 0 ∧ d.emptiedWeakMap.rd (WEAK_MAP_SEG w) = 0 := by
  have emptied : (d.each (List.range 64) (fun d w => (d.wr (WEAK_MAP_SEG w) 0).wr (WEAK_MAP_VALID w) 0)).rd (WEAK_MAP_VALID w) = 0 ∧
      (d.each (List.range 64) (fun d w => (d.wr (WEAK_MAP_SEG w) 0).wr (WEAK_MAP_VALID w) 0)).rd (WEAK_MAP_SEG w) = 0 := by
    refine Dev.each_reaches (P := fun d => d.rd (WEAK_MAP_VALID w) = 0 ∧ d.rd (WEAK_MAP_SEG w) = 0) (List.mem_range.2 hw)
      (fun d => ⟨by simp, ?_⟩) (fun d x _ other h => ?_) d
    · rw [Dev.rd_wr_key _ _ (by simp [WEAK_MAP_VALID, WEAK_MAP_SEG]), Dev.rd_wr_same]
      simp
    · simp (disch := simp only [WEAK_MAP_VALID, WEAK_MAP_SEG]; omega) only [Dev.rd_wr_key]
      exact h
  unfold Dev.emptiedWeakMap
  simp (disch := simp only [WEAK_MAP_VALID, WEAK_MAP_SEG, TRACK_STATUS_WEAK_FULL]; omega) only [Dev.rd_wr_key, Dev.putTrack_rd]
  exact emptied

theorem Frame.emptiedWeakMap {us : List Part} {fs : List Fld} {d0 d : Dev} (hu : Part.track ∈ us)
    (hf : [TRACK_STATUS_WEAK_FULL] ++ (List.range 64).map WEAK_MAP_SEG ++ (List.range 64).map WEAK_MAP_VALID ⊆ fs)
    (h : Frame us fs d0 d) : Frame us fs d0 d.emptiedWeakMap := by
  have emptied : Frame us fs d0 (d.each (List.range 64) (fun d w => (d.wr (WEAK_MAP_SEG w) 0).wr (WEAK_MAP_VALID w) 0)) :=
    h.each (fun d w hw hd =>
      (hd.wr (hf (List.mem_append_left _ (List.mem_append_right _ (List.mem_map_of_mem hw))))).wr
        (hf (List.mem_append_right _ (List.mem_map_of_mem hw))))
  exact (emptied.putTrack hu).wr (hf (by simp))

theorem Dev.ext_setLatest (d : Dev) (b : Bool) : (d.setLatest b).ext = d.ext := Dev.ext_congr (fun _ => rfl) rfl

theorem Dev.totLatest_congr {d e : Dev} (rd : ∀ g ∈ [TOTAL, RES_RAW, PROV, PROV_COUNT, PRINT_COUNT, REV], e.rd g = d.rd g)
    (logs : e.logs = d.logs) : e.totLatest = d.totLatest := by
  rw [Dev.totLatest, Dev.totLatest, logs, rd TOTAL (by simp), rd RES_RAW (by simp), rd PROV (by simp), rd PROV_COUNT (by simp),
    rd PRINT_COUNT (by simp), rd REV (by simp)]

theorem Dev.clearProv_eq {d : Dev} (tot_room : d.logs.tot.length < 32) (room : d.logQueue.length < 64) :
    d.clearProv = (d.putLog (d.logQueue ++ [LogRec.mk 4 (d.rd CHOIR_CFG_ADDR) d.calendar
      (bytesLE 8 d.totLatest.prov ++ bytesLE 4 d.totLatest.provCount)])).putTot
        (d.logs.tot ++ [{ d.totLatest with cause := 4, prov := 0, provCount := 0, delta := 0 }]) := by
  rw [Dev.clearProv]
  dsimp only
  rw [Dev.log, Dev.queueLog_of_room room (.inl ⟨by simp, by simp⟩), Dev.queueTot_of_room (by simpa using tot_room)]
  rfl

/-- The clear commands of the fit engine. -/
theorem clearAllan_clears (s : State) (served : s.dev.hostOpen = true) :
    (∀ c < 24, Does (.clearAllanCtx c) s fun d =>
      (∀ k < 16, Tab.read Allan.fresh d.allan (c * 16 + k) = Allan.fresh) ∧
      (∀ j, j < c * 16 ∨ c * 16 + 16 ≤ j → Tab.read Allan.fresh d.allan j = Tab.read Allan.fresh s.dev.allan j) ∧
      Store.read d.allanFrom c = s.dev.ext + 1 ∧ Frame [.allan, .allanFrom, .host] [] s.dev d) ∧
    Does .clearAllanAll s fun d =>
      (∀ c < 24, ∀ k < 16, Tab.read Allan.fresh d.allan (c * 16 + k) = Allan.fresh) ∧
      (∀ c < 24, Store.read d.allanFrom c = s.dev.ext + 1) ∧ Frame [.allan, .allanFrom, .host] [] s.dev d := by
  have noted : Frame [.allan, .allanFrom, .host] [] s.dev (s.dev.setLatest false) := (Frame.refl _ _ _).setLatest (by simp)
  refine ⟨fun c hc => Does.of_oneWrite rfl (by simpa [Instr.wf] using hc) served ⟨fun k hk => ?_, fun j hj => ?_, ?_, noted.clearAllanCtx (by simp)⟩,
    Does.of_oneWrite rfl rfl served ⟨fun c hc k hk => Dev.clearAllanAll_allan hc hk _, fun c hc => ?_,
      noted.each (fun _ _ _ h => h.clearAllanCtx (by simp))⟩⟩
  · rw [Dev.allan_clearAllanCtx hc, if_pos (by omega)]
  · rw [Dev.allan_clearAllanCtx hc, if_neg (by omega)]
    rfl
  · rw [Dev.allanFrom_clearAllanCtx hc, Dev.ext_setLatest]
  · rw [Dev.clearAllanAll_from hc, Dev.ext_setLatest]

theorem clearRestCounts_clears (s : State) (served : s.dev.hostOpen = true) :
    Does .clearRestCounts s fun d =>
      (∀ n < 16, d.rd (FIT_VOICE_REST_COUNT_COUNT n) = 0) ∧ (∀ p < 8, d.rd (FIT_PAIR_REST_COUNT_VALUE p) = 0) ∧
      Frame [.host] ((List.range 16).map FIT_VOICE_REST_COUNT_COUNT ++ (List.range 8).map FIT_PAIR_REST_COUNT_VALUE) s.dev d := by
  refine Does.of_oneWrite rfl rfl served ?_
  change _ ∧ _ ∧ Frame _ _ _ (((s.dev.setLatest false).zeroFields FIT_VOICE_REST_COUNT_COUNT 16).zeroFields FIT_PAIR_REST_COUNT_VALUE 8)
  refine ⟨fun n hn => ?_, fun p hp => Dev.rd_zeroFields_same (fun h => by simpa [FIT_PAIR_REST_COUNT_VALUE] using h) hp _,
    (((Frame.refl _ _ _).setLatest (by simp)).zeroFields (fun n hn => List.mem_append_left _ (mem_map_range hn))).zeroFields
      (fun n hn => List.mem_append_right _ (mem_map_range hn))⟩
  refine (Dev.rd_zeroFields_other (fun p hp => ?_) _).trans
    (Dev.rd_zeroFields_same (fun h => by simpa [FIT_VOICE_REST_COUNT_COUNT] using h) hn _)
  simp only [FIT_VOICE_REST_COUNT_COUNT, FIT_PAIR_REST_COUNT_VALUE]
  omega

theorem analyserClears_clear (s : State) {a : Nat} (ha : a < 4) (served : s.dev.hostOpen = true) :
    (Does (.clearHistogram a) s fun d =>
      (d.ana a).shown = [] ∧ (d.ana a).acc.hist = [] ∧ (d.ana a).total = (s.dev.ana a).total ∧ d.rd (ANA_HIST_UNDER_HIST_UNDER a) = 0 ∧
      d.rd (ANA_HIST_OVER_HIST_OVER a) = 0 ∧ Frame [.anas, .host] [ANA_HIST_UNDER_HIST_UNDER a, ANA_HIST_OVER_HIST_OVER a] s.dev d) ∧
    (Does (.clearTotal a) s fun d =>
      (d.ana a).total = 0 ∧ (d.ana a).shown = (s.dev.ana a).shown ∧ d.rd (ANA_RSTAT_TOTAL_SUSPECT a) = 0 ∧
      Frame [.anas, .host] [ANA_RSTAT_TOTAL_SUSPECT a] s.dev d) ∧
    (Does (.clearMissCount a) s fun d => d.rd (ANA_MISS_COUNT a) = 0 ∧ Frame [.host] [ANA_MISS_COUNT a] s.dev d) := by
  have ana : (s.dev.setLatest false).ana a = s.dev.ana a := rfl
  refine ⟨Does.of_oneWrite rfl (by simpa [Instr.wf] using ha) served ?_, Does.of_oneWrite rfl (by simpa [Instr.wf] using ha) served ?_,
    Does.of_oneWrite rfl (by simpa [Instr.wf] using ha) served ?_⟩
  · simp only [Dev.clearHistogram]
    refine ⟨by simp, by simp, by simp [ana], ?_, by simp, by simp⟩
    rw [Dev.rd_wr_key _ _ (by simp [ANA_HIST_UNDER_HIST_UNDER, ANA_HIST_OVER_HIST_OVER])]
    simp
  · simp only [Dev.clearTotal]
    exact ⟨by simp, by simp [ana], by simp, by simp⟩
  · simp only [Dev.clearMissCount]
    exact ⟨by simp, by simp⟩

theorem clearProv_clears (s : State) (served : s.dev.hostOpen = true) (tot_room : s.dev.logs.tot.length < 32)
    (room : s.dev.logQueue.length < 64) :
    Does .clearProv s fun d =>
      d.logs.tot = s.dev.logs.tot ++ [{ s.dev.totLatest with cause := 4, prov := 0, provCount := 0, delta := 0 }] ∧
      d.logQueue = s.dev.logQueue ++
        [LogRec.mk 4 (s.dev.rd CHOIR_CFG_ADDR) s.dev.calendar (bytesLE 8 s.dev.totLatest.prov ++ bytesLE 4 s.dev.totLatest.provCount)] ∧
      Frame [.logs, .logQueue, .host] [LOG_STATUS_LOG_QUEUE, LOG_STATUS_TOT_QUEUE] s.dev d := by
  refine Does.of_oneWrite rfl rfl served ?_
  rw [Dev.clearProv_eq (d := s.dev.setLatest false) tot_room room]
  exact ⟨rfl, rfl, Frame.putTot (by simp) (by simp) (Frame.putLog (by simp) (by simp) ((Frame.refl _ _ _).setLatest (by simp)))⟩

theorem emptyWeakMap_empties (s : State) (served : s.dev.hostOpen = true) (open_seal : s.dev.rd PIN_LEVEL_SEAL_OPEN = 1)
    (room : s.dev.logQueue.length < 64) (free : s.dev.rd LOG_STATUS_NVM_HOLD = 0) :
    Does .emptyWeakMap s fun d =>
      (∀ w < 64, d.rd (WEAK_MAP_VALID w) = 0 ∧ d.rd (WEAK_MAP_SEG w) = 0) ∧ d.rd TRACK_STATUS_WEAK_FULL = 0 ∧
      d.logQueue.length = s.dev.logQueue.length + 1 ∧
      Frame [.track, .logQueue, .host] ([TRACK_STATUS_WEAK_FULL, LOG_STATUS_LOG_QUEUE] ++ (List.range 64).map WEAK_MAP_SEG ++
        (List.range 64).map WEAK_MAP_VALID) s.dev d := by
  refine Does.of_oneWrite rfl rfl served ?_
  rw [Dev.emptyWeakMap_eq (d := s.dev.setLatest false) open_seal]
  generalize noted : s.dev.setLatest false = e
  have start : Frame [.track, .logQueue, .host] ([TRACK_STATUS_WEAK_FULL, LOG_STATUS_LOG_QUEUE] ++ (List.range 64).map WEAK_MAP_SEG ++
      (List.range 64).map WEAK_MAP_VALID) s.dev e := noted ▸ (Frame.refl _ _ _).setLatest (by simp)
  have emptied := start.emptiedWeakMap (by simp) (fun f hf => by
    simp only [List.mem_append, List.mem_cons, List.not_mem_nil, or_false] at hf ⊢
    tauto)
  have queue : e.emptiedWeakMap.logQueue = s.dev.logQueue := by
    rw [((Frame.refl [.track] _ e).emptiedWeakMap (by simp) (List.Subset.refl _)).parts .logQueue (by simp), ← noted]
    rfl
  have held : e.emptiedWeakMap.rd LOG_STATUS_NVM_HOLD = 0 := by
    rw [((Frame.refl [.track] _ e).emptiedWeakMap (by simp) (List.Subset.refl _)).rd (g := LOG_STATUS_NVM_HOLD)
      (by
        simp only [List.forall_mem_append, List.forall_mem_map, List.mem_range, List.forall_mem_singleton, WEAK_MAP_SEG, WEAK_MAP_VALID,
          LOG_STATUS_NVM_HOLD, TRACK_STATUS_WEAK_FULL]
        exact ⟨⟨by decide, fun _ _ => by omega⟩, fun _ _ => by omega⟩),
      ← noted]
    exact free
  rw [Dev.log, Dev.queueLog_of_room (by rw [queue]; exact room) (.inr held)]
  refine ⟨fun w hw => ?_, ?_, by simp [Dev.putLog, queue], emptied.putLog (by simp) (by simp)⟩
  · rw [Dev.rd_putLog_other _ (.inl (by simp [WEAK_MAP_VALID, LOG_STATUS_LOG_QUEUE]; omega)),
      Dev.rd_putLog_other _ (.inl (by simp [WEAK_MAP_SEG, LOG_STATUS_LOG_QUEUE]; omega))]
    exact e.emptiedWeakMap_empty hw
  · rw [Dev.rd_putLog_other _ (by decide), Dev.emptiedWeakMap]
    simp

/-- Settles O23: each command's effect is its writes, and the journal and totaliser queues have room for what two of them record. -/
theorem clearCommandsClear : Obligations.ClearCommandsClear := by
  unfold Obligations.ClearCommandsClear
  exact ⟨⟨fun s c hc served => (clearAllan_clears s served).1 c hc, fun s served => (clearAllan_clears s served).2, clearRestCounts_clears⟩,
    fun s a ha served => analyserClears_clear s ha served, clearProv_clears, emptyWeakMap_empties⟩

end Sys2Proof.Machine
end

/-! PROOFS: event capture: triggers, completion, and the segments. -/
section

namespace Sys2Proof.Machine

open Reg

/-! ### Triggers -/

theorem Dev.trigger_of_collecting {d : Dev} {a : Nat} (enabled : (d.rd CAP_CFG_TRIG_MASK).testBit a = true)
    (collecting : d.rd CAP_STATUS_STATE = 1 ∨ d.rd CAP_STATUS_STATE = 2) (cond : Nat) (take : Option Nat) (time : Nat) :
    d.trigger a cond take time = d.acceptTrigger a take time := by
  rw [Dev.trigger, if_neg (by rintro (h | h) <;> simp_all), if_pos collecting]

theorem Dev.trigger_of_capturing {d : Dev} {a : Nat} {t : Trig} (enabled : (d.rd CAP_CFG_TRIG_MASK).testBit a = true)
    (capturing : d.rd CAP_STATUS_STATE = 3) (trig : d.cap.trig = some t) (cond time : Nat) :
    d.trigger a cond none time = d.missTrigger a 1 cond time := by
  rw [Dev.trigger, if_neg (by rintro (h | h) <;> simp_all), if_neg (by omega), if_pos capturing, trig]
  rfl

/-- The trigger that a command on an empty delay line records. -/
def Dev.commandTrig (d : Dev) (a time : Nat) : Trig :=
  { take := none, time := time, src := a, mask := 2 ^ a,
    start := d.rd CAP_STATUS_SEG * d.capLen + (d.cap.wpos + d.capLen - min (d.rd CAP_PRE_VALUE) d.cap.coll % d.capLen) % d.capLen,
    pre := min (d.rd CAP_PRE_VALUE) d.cap.coll, post := 0, short := decide (min (d.rd CAP_PRE_VALUE) d.cap.coll < d.rd CAP_PRE_VALUE) }

theorem Dev.acceptTrigger_of_empty_line {d : Dev} (empty : d.cap.line = []) (a time : Nat) :
    d.acceptTrigger a none time = (d.putCap { d.cap with line := [], trig := some (d.commandTrig a time) }).capState 3 := by
  rw [Dev.acceptTrigger, empty]
  rfl

theorem Dev.missTrigger_of_room {d : Dev} {a : Nat} (room : (d.ana a).miss.length < 4) (cause cond time : Nat) :
    d.missTrigger a cause cond time =
      (((d.putCap { d.cap with missed := d.cap.missed + 1 }).inc (ANA_MISS_COUNT a)).putAna a
        { d.ana a with miss := (d.ana a).miss ++ [time % 2 ^ 64 + cause * 2 ^ 64 + cond * 2 ^ 66 + d.rd CAP_STATUS_CSEQ * 2 ^ 96] }).wr
          (ANA_MISS_FILL a) ((d.ana a).miss.length + 1) := by
  have cseq : ((d.putCap { d.cap with missed := d.cap.missed + 1 }).inc (ANA_MISS_COUNT a)).rd CAP_STATUS_CSEQ = d.rd CAP_STATUS_CSEQ :=
    Dev.rd_inc_key _ (by simp [CAP_STATUS_CSEQ, ANA_MISS_COUNT]; omega)
  unfold Dev.missTrigger
  refine (if_pos room).trans ?_
  rw [← cseq]
  rfl

/-- Settles O25: the delay line is empty, so the trigger has what is collected before it and nothing after it. -/
theorem triggerIsAcceptedOrMissed : Obligations.TriggerIsAcceptedOrMissed := by
  unfold Obligations.TriggerIsAcceptedOrMissed
  intro s a ha served enabled
  refine ⟨fun collecting empty => Does.of_oneWrite rfl (by simpa [Instr.wf] using ha) served ?_,
    fun t capturing trig room below => Does.of_oneWrite rfl (by simpa [Instr.wf] using ha) served ?_⟩
  · rw [Dev.commandTrigger, Dev.trigger_of_collecting (d := s.dev.setLatest false) enabled collecting,
      Dev.acceptTrigger_of_empty_line (d := s.dev.setLatest false) empty, Dev.capState]
    refine ⟨by simp [CAP_STATUS_STATE], ⟨_, rfl, rfl, rfl, rfl, rfl, rfl, ?_⟩, by simp⟩
    simp [Dev.commandTrig]
    rfl
  · rw [Dev.commandTrigger, Dev.trigger_of_capturing (d := s.dev.setLatest false) enabled capturing trig,
      Dev.missTrigger_of_room (d := s.dev.setLatest false) room]
    refine ⟨rfl, ?_, ?_, by simp; exact ⟨rfl, rfl⟩, by simp⟩
    · rw [Dev.rd_wr_key _ _ (by simp [ANA_MISS_COUNT, ANA_MISS_FILL]), Dev.putAna_rd]
      exact Dev.rd_inc_below (f := ANA_MISS_COUNT a) _ below
    · refine (Dev.rd_wr_same _ _ _).trans (Nat.mod_eq_of_lt ?_)
      change (s.dev.ana a).miss.length + 1 < 2 ^ 3
      omega

/-! ### Completion -/

/-- The device with the entry of the capture indexed, before the unit forgets its trigger. -/
def Dev.indexed (d : Dev) (t : Trig) (trunc aborted : Bool) : Dev :=
  ((d.step1 CAP_STATUS_CSEQ).offer 22 7 (indexWords t ((d.rd CAP_STATUS_CSEQ + 1) % 2 ^ 16) (d.rd CAP_STATUS_SEG)
    (min d.cap.missed 0xFFFF) trunc aborted)).notify 9 (d.rd CAP_STATUS_SEG) ((d.rd CAP_STATUS_CSEQ + 1) % 2 ^ 16)

theorem Frame.indexed {us : List Part} {fs : List Fld} {d0 d : Dev} {t : Trig} {trunc aborted : Bool} (hu : notifyParts ⊆ us)
    (hf : CAP_STATUS_CSEQ ∈ fs) (h : Frame us fs d0 d) : Frame us fs d0 (d.indexed t trunc aborted) :=
  ((h.step1 hf).offer (hu (by decide))).notify hu

theorem Dev.indexCapture_eq {d : Dev} {t : Trig} (trig : d.cap.trig = some t) (trunc aborted : Bool) :
    d.indexCapture trunc aborted =
      (d.indexed t trunc aborted).putCap { (d.indexed t trunc aborted).cap with trig := none, missed := 0, rearmed := false } := by
  have cseq : (d.step1 CAP_STATUS_CSEQ).rd CAP_STATUS_CSEQ = (d.rd CAP_STATUS_CSEQ + 1) % 2 ^ 16 := Dev.rd_step1_same d CAP_STATUS_CSEQ
  have seg : (d.step1 CAP_STATUS_CSEQ).rd CAP_STATUS_SEG = d.rd CAP_STATUS_SEG := Dev.rd_step1_key d (by decide)
  have offered (g : Fld) (r p : Nat) (w : List Nat) : ((d.step1 CAP_STATUS_CSEQ).offer r p w).rd g = (d.step1 CAP_STATUS_CSEQ).rd g :=
    ((Frame.refl [.writer] [] _).offer (by simp)).rd (by simp)
  rw [Dev.indexCapture, trig]
  dsimp only
  rw [offered, offered, cseq, seg]
  rfl

theorem Dev.takeSegment_eq {d : Dev} {g : Nat} (next : d.nextSegment = some g) (resting : d.cap.rearmed = false) :
    d.takeSegment = ((d.putCap { d.cap with used := d.cap.used ||| 2 ^ g, last := some g, wpos := 0, coll := 0, trig := none }).wr
      CAP_STATUS_SEG g).capState 4 := by
  rw [Dev.takeSegment, next]
  exact if_neg (by rw [Bool.not_eq_true]; exact resting)

/-- The choice of the next segment depends on the segments not free, the one last used, and their number. -/
theorem Dev.nextSegment_congr {d e : Dev} (segs : e.rd CAP_CFG_SEGS = d.rd CAP_CFG_SEGS) (used : e.cap.used = d.cap.used)
    (last : e.cap.last = d.cap.last) : e.nextSegment = d.nextSegment := by
  rw [Dev.nextSegment, Dev.nextSegment, Dev.capSegs, Dev.capSegs, segs, used, last]

theorem exists_add_mod_eq {g n : Nat} (h : g < n) (k : Nat) : ∃ i < n, (k + i) % n = g := by
  refine ⟨(g + (n - k % n)) % n, Nat.mod_lt _ (by omega), ?_⟩
  have split : k + (g + (n - k % n)) = g + n * (k / n + 1) := by
    have := Nat.mod_add_div k n
    have := Nat.mod_lt k (by omega : n > 0)
    rw [Nat.mul_add_one]
    omega
  rw [Nat.add_mod_mod, split, Nat.add_mul_mod_self_left, Nat.mod_eq_of_lt h]

/-- A free segment is found. -/
theorem Dev.nextSegment_isSome {d : Dev} {g : Nat} (hg : g < d.capSegs) (free : d.cap.used.testBit g = false) :
    ∃ n, d.nextSegment = some n := by
  rw [← Option.isSome_iff_exists, Dev.nextSegment, List.find?_isSome]
  obtain ⟨i, hi, eq⟩ := exists_add_mod_eq hg (match d.cap.last with | some s => s + 1 | none => 0)
  exact ⟨g, List.mem_map.2 ⟨i, List.mem_range.2 hi, eq⟩, by simp [free]⟩

/-- Clearing a bit of a mask clears it. -/
theorem testBit_clearBit (mask b : Nat) : (clearBit mask b).testBit b = false := by
  unfold clearBit
  split
  · next set =>
    rw [Nat.testBit_eq_decide_div_mod_eq, decide_eq_true_eq] at set
    have div : (mask - 2 ^ b) / 2 ^ b = mask / 2 ^ b - 1 := by simpa using Nat.sub_mul_div mask (2 ^ b) 1
    rw [Nat.testBit_eq_decide_div_mod_eq, div, decide_eq_false_iff_not]
    omega
  · next clear => simpa using clear

/-- An offer in a ring that the safe state leaves open waits for the ring writer. -/
theorem Dev.offer_waiting {d : Dev} {r p : Nat} {w : List Nat} (h : r ≠ 16 ∧ r ≠ 17) :
    ∃ e ∈ (d.offer r p w).writer.waiting, e.ring = r ∧ e.words = w := by
  rw [Dev.offer, if_neg (by omega)]
  exact ⟨_, List.mem_append_right _ (List.mem_singleton_self _), rfl, rfl⟩

/-- What waits for the ring writer waits on through a notification. -/
theorem Dev.waiting_notify {d : Dev} {k s a : Nat} {e : WEntry} (h : e ∈ d.writer.waiting) : e ∈ (d.notify k s a).writer.waiting := by
  unfold Dev.notify
  split
  · dsimp only
    unfold Dev.offer
    split
    · exact h
    · exact List.mem_append_left _ h
  · exact h

/-- A capture that ends: CSEQ, the index entry and the next segment. -/
theorem Dev.finishCapture_ends {d : Dev} {t : Trig} {g : Nat} (trig : d.cap.trig = some t) (next : d.nextSegment = some g) :
    (d.finishCapture true).rd CAP_STATUS_CSEQ = (d.rd CAP_STATUS_CSEQ + 1) % 2 ^ 16 ∧ (d.finishCapture true).rd CAP_STATUS_STATE = 4 ∧
    (d.finishCapture true).rd CAP_STATUS_SEG = g % 64 ∧ (d.finishCapture true).cap.used = d.cap.used ||| 2 ^ g ∧
    (d.finishCapture true).cap.trig = none ∧ (d.finishCapture true).cap.missed = 0 ∧
    (∃ w ∈ (d.finishCapture true).writer.waiting, w.ring = 22 ∧ w.words = indexWords t ((d.rd CAP_STATUS_CSEQ + 1) % 2 ^ 16)
      (d.rd CAP_STATUS_SEG) (min d.cap.missed 0xFFFF) true false) ∧
    Frame [.cap, .writer, .faults] [CAP_STATUS_CSEQ, CAP_STATUS_STATE, CAP_STATUS_SEG] d (d.finishCapture true) := by
  have indexed : Frame [.writer, .faults] [CAP_STATUS_CSEQ] d (d.indexed t true false) := (Frame.refl _ _ d).indexed (by decide) (by simp)
  have cap : (d.indexed t true false).cap = d.cap := indexed.parts .cap (by decide)
  have cseq : (d.indexed t true false).rd CAP_STATUS_CSEQ = (d.rd CAP_STATUS_CSEQ + 1) % 2 ^ 16 := by
    have noted : Frame [.writer, .faults] [] (d.step1 CAP_STATUS_CSEQ) (d.indexed t true false) :=
      ((Frame.refl _ _ _).offer (by simp)).notify (by decide)
    rw [noted.rd (by simp)]
    exact Dev.rd_step1_same d CAP_STATUS_CSEQ
  have run : d.finishCapture true = (((d.indexed t true false).putCap { d.cap with
      used := d.cap.used ||| 2 ^ g, last := some g, wpos := 0, coll := 0, trig := none, missed := 0, rearmed := false }).wr
        CAP_STATUS_SEG g).capState 4 := by
    rw [Dev.finishCapture, Dev.indexCapture_eq trig, cap]
    refine Dev.takeSegment_eq (Eq.trans (Dev.nextSegment_congr (d := d) ?_ rfl rfl) next) rfl
    exact (Dev.putCap_rd _ _ _).trans (indexed.rd (g := CAP_CFG_SEGS) (by decide))
  rw [run, Dev.capState]
  refine ⟨?_, Dev.rd_wr_same _ _ _, ?_, rfl, rfl, rfl, ?_, ?_⟩
  · rw [Dev.rd_wr_key _ _ (by decide), Dev.rd_wr_key _ _ (by decide), Dev.putCap_rd, cseq]
  · rw [Dev.rd_wr_key _ _ (by decide)]
    exact Dev.rd_wr_same _ _ _
  · obtain ⟨w, mem, ring, words⟩ := Dev.offer_waiting (d := d.step1 CAP_STATUS_CSEQ) (r := 22) (p := 7)
      (w := indexWords t ((d.rd CAP_STATUS_CSEQ + 1) % 2 ^ 16) (d.rd CAP_STATUS_SEG) (min d.cap.missed 0xFFFF) true false) (by decide)
    exact ⟨w, Dev.waiting_notify mem, ring, words⟩
  · simpa using indexed.mono (by decide) (by simp)

theorem Dev.releaseSegment_eq {d : Dev} {g : Nat} (hg : g < d.capSegs) :
    Dev.releaseSegment g d = (d.putCap { d.cap with used := clearBit d.cap.used g }).afterRelease := if_neg (by omega)

/-- Settles O26: the unit takes its segments by `takeSegment`, which a completion, a re-arm and a release lead to. -/
theorem captureCompletesAndGoesOn : Obligations.CaptureCompletesAndGoesOn := by
  unfold Obligations.CaptureCompletesAndGoesOn
  refine ⟨fun s t g capturing trig next c which => ?_, fun s alive waits resting => ?_, fun s g hg inside served => ⟨fun going => ?_, fun full resting => ?_⟩,
    fun s served going => ?_⟩
  · rcases which with ⟨rfl, alive, timed⟩ | ⟨rfl, served⟩
    · obtain ⟨cseq, state, seg, used, gone, missed, entry, frame⟩ := Dev.finishCapture_ends trig next
      refine Does.of_onDev rfl rfl ?_
      rw [Dev.captureTimeout, if_pos (by simp [alive, capturing, timed])]
      exact ⟨cseq, state, seg, used, gone, missed, entry, frame.mono (by decide) (List.Subset.refl _)⟩
    · obtain ⟨cseq, state, seg, used, gone, missed, entry, frame⟩ := Dev.finishCapture_ends (d := s.dev.setLatest false) trig next
      refine Does.of_oneWrite rfl rfl served ?_
      rw [Dev.completeCapture, if_pos (by exact capturing)]
      exact ⟨cseq, state, seg, used, gone, missed, entry,
        ((Frame.refl _ _ _).setLatest (by simp)).trans (frame.mono (by decide) (List.Subset.refl _))⟩
  · refine Does.of_onDev rfl rfl ?_
    have run : s.dev.rearmElapsed = (s.dev.putCap { s.dev.cap with rearmed := true }).fillOrArm := by
      rw [Dev.rearmElapsed, if_neg (by simp [alive, resting])]
      exact if_pos waits
    rw [run, Dev.fillOrArm, Dev.capState]
    refine ⟨(Dev.rd_wr_same _ _ _).trans (Nat.mod_eq_of_lt ?_), rfl, by simp⟩
    split <;> decide
  · refine Does.of_oneWrite rfl (by simpa [Instr.wf] using hg) served ?_
    rw [Dev.releaseSegment_eq (d := s.dev.setLatest false) inside, Dev.afterRelease, if_neg (by exact going)]
    exact ⟨rfl, by simp⟩
  · refine Does.of_oneWrite rfl (by simpa [Instr.wf] using hg) served ?_
    rw [Dev.releaseSegment_eq (d := s.dev.setLatest false) inside, Dev.afterRelease, if_pos (by exact full)]
    obtain ⟨n, next⟩ := Dev.nextSegment_isSome (d := (s.dev.setLatest false).putCap { (s.dev.setLatest false).cap with
      used := clearBit (s.dev.setLatest false).cap.used g }) inside (testBit_clearBit _ _)
    rw [Dev.takeSegment_eq next resting, Dev.capState]
    exact ⟨Dev.rd_wr_same _ _ _, by simp⟩
  · refine Does.of_oneWrite rfl rfl served ?_
    rw [Dev.releaseAll, Dev.afterRelease, if_neg (by exact going)]
    exact ⟨rfl, by simp⟩

end Sys2Proof.Machine
end

/-! PROOFS: operator commands, the legal result and the totaliser's pulses, and the track channel's stamps, events and commands. -/
section

namespace Sys2Proof.Machine

open Reg

/-! ### Operator commands -/

/-- Operation `code` is refused while one is pending. -/
theorem Dev.operate_of_pending {d : Dev} {code : Nat} (may : d.mayOperate = true) (pending : d.rd OP_STATUS_PENDING = 1) :
    d.operate code = ((d.wr OP_STATUS_RESULT 9).wr OP_STATUS_CODE code).notify 3 code (9 + d.rd OP_STATUS_SEQ * 256 + 0xFFFF * 65536) := by
  have seq : ((d.wr OP_STATUS_RESULT 9).wr OP_STATUS_CODE code).rd OP_STATUS_SEQ = d.rd OP_STATUS_SEQ := by
    rw [Dev.rd_wr_key _ _ (by decide), Dev.rd_wr_key _ _ (by decide)]
  rw [Dev.operate, if_neg (by simp [may]), if_pos (by simp [Dev.is, pending]), ← seq]

/-- The request that an accepted operator command queues. -/
def Dev.opRequest (d : Dev) (code : Nat) : OpReq :=
  { src := d.addr, seq := (d.rd OP_STATUS_SEQ + 1) % 256, code := code, pseq := d.rd (TIMER_PCOUNT_COUNT d.pipeTimer) }

/-- A device that is alone queues an accepted operation itself. -/
theorem Dev.operate_of_alone {d : Dev} {code : Nat} (may : d.mayOperate = true) (free : d.rd OP_STATUS_PENDING = 0)
    (alone : d.deviceCount ≤ 1) :
    d.operate code =
      (((d.wr OP_STATUS_SEQ ((d.rd OP_STATUS_SEQ + 1) % 256)).wr OP_STATUS_PENDING 1).wr OP_STATUS_CODE code).putChoir
        { d.choir with own := some (d.opRequest code), ops := d.choir.ops ++ [d.opRequest code] } := by
  have mask : ((((d.wr OP_STATUS_SEQ ((d.rd OP_STATUS_SEQ + 1) % 256)).wr OP_STATUS_PENDING 1).wr OP_STATUS_CODE code).putChoir
      { d.choir with own := some (d.opRequest code) }).rd CHOIR_DEVICES_MASK = d.rd CHOIR_DEVICES_MASK := by
    rw [Dev.putChoir_rd, Dev.rd_wr_key _ _ (by decide), Dev.rd_wr_key _ _ (by decide), Dev.rd_wr_key _ _ (by decide)]
  rw [Dev.operate, if_neg (by simp [may]), if_neg (by simp [Dev.is, free])]
  refine (if_pos ?_).trans rfl
  refine Bool.or_eq_true_iff.2 (.inr (decide_eq_true ?_))
  unfold Dev.deviceCount at alone ⊢
  rw [← mask] at alone
  exact alone

/-- Every operator command is one operation of host software. -/
theorem exec_operator {c : Instr} {code : Nat} (h : (c, code) ∈ [(Instr.zero, 0xB1), (Instr.tare, 0xB2), (Instr.clearTare, 0xB3), (Instr.print, 0xB4)])
    (s : State) : exec c s = s.onDev c (Dev.oneWrite (Dev.operate code)) ∧ c.wf = true ∧ code < 256 := by
  simp only [List.mem_cons, Prod.mk.injEq, List.not_mem_nil, or_false] at h
  rcases h with ⟨rfl, rfl⟩ | ⟨rfl, rfl⟩ | ⟨rfl, rfl⟩ | ⟨rfl, rfl⟩ <;> exact ⟨rfl, rfl, by decide⟩

/-- Settles O29: a device that is alone is its own cantor, so the request goes into its own queue. -/
theorem operatorCommandsAreTaken : Obligations.OperatorCommandsAreTaken := by
  unfold Obligations.OperatorCommandsAreTaken
  intro s c code mem served may
  obtain ⟨run, wf, small⟩ := exec_operator mem s
  refine ⟨fun free alone => Does.of_oneWrite run wf served ?_, fun pending => Does.of_oneWrite run wf served ?_⟩
  · rw [Dev.operate_of_alone (d := s.dev.setLatest false) may free alone]
    refine ⟨?_, ?_, ?_, rfl, by simp⟩
    · rw [Dev.putChoir_rd, Dev.rd_wr_key _ _ (by decide), Dev.rd_wr_key _ _ (by decide)]
      exact (Dev.rd_wr_same _ _ _).trans (Nat.mod_mod _ _)
    · rw [Dev.putChoir_rd, Dev.rd_wr_key _ _ (by decide)]
      exact Dev.rd_wr_same _ _ _
    · rw [Dev.putChoir_rd]
      exact (Dev.rd_wr_same _ OP_STATUS_CODE _).trans (Nat.mod_eq_of_lt small)
  · rw [Dev.operate_of_pending (d := s.dev.setLatest false) may pending]
    have frame : Frame [.host, .writer, .faults] [] (((s.dev.setLatest false).wr OP_STATUS_RESULT 9).wr OP_STATUS_CODE code)
        ((((s.dev.setLatest false).wr OP_STATUS_RESULT 9).wr OP_STATUS_CODE code).notify 3 code
          (9 + (s.dev.setLatest false).rd OP_STATUS_SEQ * 256 + 0xFFFF * 65536)) := (Frame.refl _ _ _).notify (by decide)
    refine ⟨?_, ?_, frame.parts .choir (by decide), Frame.notify (by decide) (by simp)⟩
    · rw [frame.rd (by simp), Dev.rd_wr_key _ _ (by decide)]
      exact Dev.rd_wr_same _ _ _
    · rw [frame.rd (by simp)]
      exact (Dev.rd_wr_same _ _ _).trans (Nat.mod_eq_of_lt small)

/-! ### A host read is served -/

theorem Frame.beginRead {us : List Part} {fs : List Fld} {d0 d : Dev} (hu : [Part.rings, Part.host] ⊆ us) (h : Frame us fs d0 d) :
    Frame us fs d0 d.beginRead :=
  (h.rings (x := d.rings.map (fun (p : Nat × Ring) => (p.1, { p.2 with back := [], gapBack := false }))) (hu (by simp))).host (hu (by simp))

@[simp] theorem Dev.rd_beginRead (d : Dev) (f : Fld) : d.beginRead.rd f = d.rd f := rfl

/-- A command that host software reads, while the read is served, has its effect between the notes that a read begins and that it was the
latest frame. -/
theorem Does.of_oneRead {c : Instr} {s : State} {a : Nat} {f : Dev → Dev} {P : Dev → Prop} (run : exec c s = s.onDev c (Dev.oneRead a f))
    (wf : c.wf = true) (served : s.dev.readServed a = true) (p : P ((f s.dev.beginRead).setLatest true)) : Does c s P :=
  Does.of_onDev run wf (by rw [Dev.oneRead, if_pos served]; exact p)

/-! ### The legal result and the totaliser's pulses -/

theorem Frame.totStart {us : List Part} {fs : List Fld} {d0 d : Dev} (hu : Part.pins ∈ us) (h : Frame us fs d0 d) :
    Frame us fs d0 d.totStart := by
  unfold Dev.totStart
  split
  · exact h.pins hu
  · exact h

/-- Settles O30: the read takes three words at once; a pulse of the totaliser and its pause follow each other. -/
theorem legalReadAndTotalPulse : Obligations.LegalReadAndTotalPulse := by
  unfold Obligations.LegalReadAndTotalPulse
  refine ⟨fun s served => ?_, fun s alive high => ?_, fun s alive low rest => ?_⟩
  · refine Does.of_oneRead rfl rfl served ?_
    refine ⟨?_, ?_, Frame.setLatest (by simp) (Frame.snaps (by simp) (Frame.beginRead (by simp) (Frame.refl _ _ _)))⟩
    · exact (Store.read_write_other _ _ (show (0x7408 : Nat) ≠ 0x740C by decide)).trans (Store.read_write_same _ 0x7408 _)
    · exact Store.read_write_same _ _ _
  · refine Does.of_onDev rfl rfl ?_
    have run : s.dev.totPulseEnd = ({ s.dev with pins := { s.dev.pins with totPulse := 0, totRest := true } }).wr TOT_BACKLOG
        (s.dev.rd TOT_BACKLOG - 1) := by
      rw [Dev.totPulseEnd, if_neg (by simp [alive]), if_pos high]
    rw [run]
    exact ⟨rfl, rfl, Dev.rd_wr_same _ _ _, Frame.wr (by simp) ((Frame.refl _ _ _).pins (by simp))⟩
  · refine Does.of_onDev rfl rfl ?_
    have run : s.dev.totPulseEnd = ({ s.dev with pins := { s.dev.pins with totRest := false } } : Dev).totStart := by
      rw [Dev.totPulseEnd, if_neg (by simp [alive]), if_neg (by omega), if_pos rest]
    rw [run]
    refine ⟨?_, ?_, Frame.totStart (by simp) ((Frame.refl _ _ _).pins (by simp))⟩ <;> rw [Dev.totStart]
    · split <;> rfl
    · by_cases owed : s.dev.mode = 1 ∧ s.dev.rd TOT_CFG_SRC ≠ 0 ∧ 0 < s.dev.rd TOT_BACKLOG
      · obtain ⟨mode, source, backlog⟩ := owed
        rw [if_pos ⟨mode, source, backlog, low, rfl⟩, if_pos ⟨mode, source, backlog⟩]
      · rw [if_neg fun all => owed ⟨all.1, all.2.1, all.2.2.1⟩, if_neg owed]
        exact low

/-! ### The track channel's stamps -/

/-- A track channel in ACQUIRE with its tachometer counting has nothing to follow. -/
theorem Dev.followTach_of_acquiring {d : Dev} (acquiring : d.trackState = 1) (counting : d.counting 14 = true) : d.followTach = d := by
  unfold Dev.followTach
  by_cases off : (!d.is TRACK_CFG_EN || d.trackState == 0) = true
  · exact if_pos off
  · rw [if_neg off, if_neg (by simp [counting]), if_neg (by omega)]

/-- A head that has no place yet is not followed. -/
theorem Dev.followHead_of_acquiring {d : Dev} (acquiring : d.trackState = 1) (t : Nat) : d.followHead t = d := by
  rw [Dev.followHead, if_pos (by simp [Dev.placed, acquiring])]

/-- A device whose track channel's voice `v` has given up the first stamp it offered to the channel. -/
def Dev.tapTaken (d : Dev) (v : Nat) (rest : List Entry) : Dev := d.putVoice v { d.voice v with trackTap := rest }

theorem Dev.tapTaken_voice (d : Dev) (v : Nat) (rest : List Entry) : ((d.tapTaken v rest).voice v).trackTap = rest := by
  rw [Dev.tapTaken, Dev.voice_putVoice_same]

theorem Dev.tapTaken_trackState (d : Dev) (v : Nat) (rest : List Entry) : (d.tapTaken v rest).trackState = d.trackState :=
  Dev.rd_wr_key _ _ (by simp [VOICE_STATUS_FIFO_LEVEL, TRACK_STATUS_STATE]; omega)

theorem Dev.tapTaken_tachKeep (d : Dev) (v : Nat) (rest : List Entry) : (d.tapTaken v rest).tachKeep = d.tachKeep := by
  have timer : (d.tapTaken v rest).rd PIPE_CFG_TIMER = d.rd PIPE_CFG_TIMER :=
    Dev.rd_wr_key _ _ (by simp [VOICE_STATUS_FIFO_LEVEL, PIPE_CFG_TIMER]; omega)
  rw [Dev.tachKeep, timer]
  rfl

theorem Dev.tapTaken_corrected15 (d : Dev) (v : Nat) (rest : List Entry) (e : Entry) : (d.tapTaken v rest).corrected15 e = d.corrected15 e := by
  have tuned : (d.tapTaken v rest).rd (TUNE_STATUS_STATE 15) = d.rd (TUNE_STATUS_STATE 15) :=
    Dev.rd_wr_key _ _ (by simp [VOICE_STATUS_FIFO_LEVEL, TUNE_STATUS_STATE]; omega)
  rw [Dev.corrected15, tuned]
  rfl

theorem Dev.trackStamp_of_acquiring {d : Dev} {v : Nat} {e : Entry} {rest : List Entry} (alive : d.alive = true) (on : d.rd TRACK_CFG_EN = 1)
    (acquiring : d.trackState = 1) (counting : d.counting 14 = true) (tap : (d.voice v).trackTap = e :: rest) (stamp : e.isStamp = true) :
    d.trackStamp v = if v = 14 then ((d.tapTaken v rest).tachStamp e).followHead (e.ext * 65536 + e.m)
      else ((d.tapTaken v rest).headStamp e).followHead (e.ext * 65536) := by
  rw [Dev.trackStamp, if_neg (by simp [alive, Dev.is, on, acquiring])]
  dsimp only
  rw [Dev.followTach_of_acquiring acquiring counting, tap]
  dsimp only
  rw [if_neg (by simp [stamp])]
  rfl

/-- Settles O31: in ACQUIRE neither stamp moves the head, so only the channel's lists of times change. -/
theorem trackTakesItsStamps : Obligations.TrackTakesItsStamps := by
  unfold Obligations.TrackTakesItsStamps
  refine ⟨fun s e rest alive on acquiring counting tap stamp => ?_, fun s e rest alive on acquiring counting tap stamp no_gate first => ?_⟩
  · refine Does.of_onDev (f := fun d => Dev.trackStamp 14 (d.readState 2 [])) rfl rfl ?_
    have moved : ((s.dev.tapTaken 14 rest).tachStamp e).trackState = 1 := (Dev.tapTaken_trackState _ _ _).trans acquiring
    simp only [Dev.readState_nil]
    rw [Dev.trackStamp_of_acquiring alive on acquiring counting tap stamp, if_pos rfl, Dev.followHead_of_acquiring moved]
    refine ⟨Dev.tapTaken_voice _ _ _, ?_, by simp [Dev.tachStamp, Dev.tapTaken]⟩
    rw [Dev.tachStamp, Dev.tapTaken_tachKeep]
    rfl
  · refine Does.of_onDev (f := fun d => Dev.trackStamp 15 (d.readState 2 [])) rfl rfl ?_
    have moved : ((s.dev.tapTaken 15 rest).headStamp e) =
        (s.dev.tapTaken 15 rest).keepRecent ((s.dev.tapTaken 15 rest).corrected15 e) := by
      rw [Dev.headStamp, if_neg (by rw [Dev.tapTaken_trackState]; omega), Dev.transition]
      have gate : (s.dev.tapTaken 15 rest).track.gate = none := no_gate
      have lastT : (s.dev.tapTaken 15 rest).track.lastT = none := first
      rw [gate, lastT]
    have acq : ((s.dev.tapTaken 15 rest).headStamp e).trackState = 1 := by
      rw [moved]
      exact (Dev.tapTaken_trackState _ _ _).trans acquiring
    simp only [Dev.readState_nil]
    rw [Dev.trackStamp_of_acquiring alive on acquiring counting tap stamp, if_neg (by decide),
      Dev.followHead_of_acquiring acq, moved, Dev.tapTaken_corrected15]
    exact ⟨Dev.tapTaken_voice _ _ _, rfl, by simp [Dev.keepRecent, Dev.tapTaken]⟩

/-! ### Events and commands of the track channel -/

theorem Dev.putLive_track (d : Dev) (a b c : Nat) : (d.putLive a b c).track = d.track := rfl

/-- The fields and parts that the thresholds shown take. -/
theorem Frame.putLive {us : List Part} {fs : List Fld} {d0 d : Dev} {a b c : Nat}
    (hf : [WM_THRESH_LIVE_LOWER 6, WM_THRESH_LIVE_UPPER 6, WM_THRESH_LIVE_HYST 6] ⊆ fs) (h : Frame us fs d0 d) :
    Frame us fs d0 (d.putLive a b c) := ((h.wr (hf (by simp))).wr (hf (by simp))).wr (hf (by simp))

theorem Frame.leaveZones {us : List Part} {fs : List Fld} {d0 d : Dev} (hu : Part.track ∈ us)
    (hf : [WM_THRESH_LIVE_LOWER 6, WM_THRESH_LIVE_UPPER 6, WM_THRESH_LIVE_HYST 6] ⊆ fs) (h : Frame us fs d0 d) :
    Frame us fs d0 d.leaveZones := by
  unfold Dev.leaveZones
  split
  · exact h
  · exact (Frame.putTrack_iff hu).2 (h.putLive hf)

theorem Dev.leaveZones_zone (d : Dev) : d.leaveZones.track.zone = none := by
  unfold Dev.leaveZones
  split
  · assumption
  · rfl

theorem Dev.leaveZones_collect (d : Dev) : d.leaveZones.track.collect = d.track.collect := by
  unfold Dev.leaveZones
  split <;> rfl

/-- The parts of the frame that a failed frame leaves. -/
def cutFrameFlds : List Fld := [FRAME_FAIL, FRAME_HEAVY] ++ faultFlds

theorem Frame.failFrame {us : List Part} {fs : List Fld} {d0 d : Dev} {c : Collected} {code : Nat} (hu : Part.track :: faultParts ⊆ us)
    (hf : cutFrameFlds ⊆ fs) (h : Frame us fs d0 d) : Frame us fs d0 (d.failFrame c code) := by
  obtain ⟨track, faults⟩ := List.cons_subset.1 hu
  obtain ⟨counts, codes⟩ := List.append_subset.1 hf
  refine Frame.report faults codes ?_
  rw [Dev.countFrame, if_neg (by simp), Dev.heavyFrame]
  simpa [track, counts (a := FRAME_FAIL) (by simp), counts (a := FRAME_HEAVY) (by simp)] using h


theorem Dev.failFrame_collect (d : Dev) (c : Collected) (code : Nat) : (d.failFrame c code).track.collect = d.track.collect := by
  have kept := (Frame.report (fun _ h => h) (fun _ h => h) (Frame.refl faultParts faultFlds
    (((d.inc FRAME_FAIL).heavyFrame (d.segsOfFrame c)).countFrame (d.segsOfFrame c) false)) (code := code)).parts .track (by decide)
  rw [Dev.failFrame]
  exact (congrArg TrackSt.collect kept).trans rfl

theorem Dev.rd_failFrame_count (d : Dev) (c : Collected) (code : Nat) : (d.failFrame c code).rd FRAME_FAIL = (d.inc FRAME_FAIL).rd FRAME_FAIL := by
  have reported := Frame.report (fun _ h => h) (fun _ h => h) (Frame.refl faultParts faultFlds
    (((d.inc FRAME_FAIL).heavyFrame (d.segsOfFrame c)).countFrame (d.segsOfFrame c) false)) (code := code)
  rw [Dev.failFrame, reported.rd (by decide)]
  exact Dev.rd_inc_key (f := FRAME_HEAVY) (g := FRAME_FAIL) (d.inc FRAME_FAIL) (by decide)

theorem Dev.cutFrame_collect (d : Dev) : d.cutFrame.track.collect = none := by
  unfold Dev.cutFrame
  split
  · exact Dev.failFrame_collect _ _ _
  · assumption

/-- What REACQUIRE leaves in the track channel, whatever a frame in collection did before. -/
theorem Dev.acquire_done (d : Dev) : d.acquire.rd TRACK_STATUS_STATE = 1 ∧ d.acquire.track.anchor = none ∧
    d.acquire.track.collect = none ∧ d.acquire.track.gate = none ∧ d.acquire.track.zone = none :=
  ⟨Dev.rd_wr_same _ _ _, rfl, (Dev.leaveZones_collect _).trans (Dev.cutFrame_collect _), rfl, Dev.leaveZones_zone _⟩

theorem Dev.reacquire_eq {d : Dev} (on : d.rd TRACK_CFG_EN = 1) (running : d.trackState ≠ 0) (counting : d.acquire.counting 14 = true) :
    d.reacquire = d.acquire := by
  rw [Dev.reacquire, if_pos (by simp [Dev.is, on, running])]
  exact Dev.followTach_of_acquiring (Dev.acquire_done d).1 counting

/-- The fields that a new acquisition sets. -/
def acquireFlds : List Fld := [TRACK_STATUS_STATE, WM_THRESH_LIVE_LOWER 6, WM_THRESH_LIVE_UPPER 6, WM_THRESH_LIVE_HYST 6]

/-- The fields and parts that REACQUIRE changes once the frame in collection is cut. -/
theorem Frame.acquire {us : List Part} {fs : List Fld} {d0 d : Dev} (hu : Part.track ∈ us)
    (hf : acquireFlds ⊆ fs) (h : Frame us fs d0 d.cutFrame) :
    Frame us fs d0 d.acquire := by
  obtain ⟨state, live⟩ := List.cons_subset.1 hf
  exact ((Frame.putTrack_iff hu).2 (h.leaveZones hu live)).wr state

/-- Whether the tachometer's voice counts stays as it is through what leaves its state. -/
theorem Frame.counting_tach {us : List Part} {fs : List Fld} {d e : Dev} (h : Frame us fs d e)
    (hf : ∀ f ∈ fs, (VOICE_STATUS_STATE 14).key ≠ f.key) (counting : d.counting 14 = true) : e.counting 14 = true := by
  rw [Dev.counting, h.rd hf]
  exact counting

/-- Settles O33: REACQUIRE cuts the frame in collection, leaves the zones and begins anew; the others change one field of the channel. -/
theorem trackEventsAndCommands : Obligations.TrackEventsAndCommands := by
  unfold Obligations.TrackEventsAndCommands
  refine ⟨fun s alive on running started => ?_, fun s a b ordered inRange alive on => ?_, fun s served on idle => ?_,
    fun s alive on waiting passed => ?_, fun s served on running counting => ⟨fun idle => ?_, fun busy room => ?_⟩⟩
  · refine Does.of_onDev rfl rfl ?_
    rw [Dev.shock, if_pos (by simp [alive, Dev.is, on, running]), Dev.markZone, if_pos started]
    exact ⟨rfl, by simp⟩
  · refine Does.of_onDev rfl ?_ ?_
    · simp [Instr.wf, inRange]; omega
    · rw [Dev.dropout, if_pos (by simp [alive, Dev.is, on, ordered])]
      exact ⟨rfl, by simp⟩
  · refine Does.of_oneWrite rfl rfl served ?_
    rw [Dev.learnProfile, if_pos (by simp [Dev.is, on]; exact idle)]
    exact ⟨rfl, by simp⟩
  · refine Does.of_onDev rfl rfl ?_
    rw [Dev.learnRunStart, if_pos (by simp [alive, Dev.is, on, waiting, passed])]
    exact ⟨Dev.rd_wr_same _ _ _, rfl, by simp⟩
  · refine Does.of_oneWrite rfl rfl served ?_
    have uncut : (s.dev.setLatest false).cutFrame = s.dev.setLatest false := by
      rw [Dev.cutFrame, show (s.dev.setLatest false).track.collect = none from idle]
    have frame : Frame [.track, .host] acquireFlds s.dev (s.dev.setLatest false).acquire :=
      Frame.acquire (by simp) (fun _ h => h) (by rw [uncut]; simp)
    rw [Dev.reacquire_eq (d := s.dev.setLatest false) on running (frame.counting_tach (by decide) counting)]
    obtain ⟨state, anchor, collect, gate, zone⟩ := Dev.acquire_done (s.dev.setLatest false)
    exact ⟨state, anchor, collect, gate, zone, frame⟩
  · refine Does.of_oneWrite rfl rfl served ?_
    obtain ⟨c, hc⟩ := Option.isSome_iff_exists.1 busy
    have cut : (s.dev.setLatest false).cutFrame =
        ((s.dev.setLatest false).putTrack { s.dev.track with collect := none }).failFrame c 0x0701 := by
      rw [Dev.cutFrame, show (s.dev.setLatest false).track.collect = some c from hc]
      rfl
    have cutFrame : Frame (Part.track :: Part.host :: faultParts) cutFrameFlds s.dev (s.dev.setLatest false).cutFrame := by
      rw [cut]
      exact Frame.failFrame (by decide) (fun _ h => h) (by simp)
    have frame : Frame (Part.track :: Part.host :: faultParts) (acquireFlds ++ cutFrameFlds) s.dev (s.dev.setLatest false).acquire :=
      Frame.acquire (by simp) (List.subset_append_left _ _) (cutFrame.mono (fun _ h => h) (List.subset_append_right _ _))
    have after : Frame [.track] acquireFlds (s.dev.setLatest false).cutFrame (s.dev.setLatest false).acquire :=
      Frame.acquire (by simp) (fun _ h => h) (Frame.refl _ _ _)
    rw [Dev.reacquire_eq (d := s.dev.setLatest false) on running (frame.counting_tach (by decide) counting)]
    obtain ⟨state, anchor, collect, gate, zone⟩ := Dev.acquire_done (s.dev.setLatest false)
    refine ⟨state, anchor, collect, gate, zone, ?_, ?_, frame⟩
    · rw [after.rd (by decide), cut, Dev.rd_failFrame_count]
      exact Dev.rd_inc_below (d := s.dev) room
    · rw [after.rd (by decide), cut]
      exact Dev.rd_lastCode_report _ _

end Sys2Proof.Machine
end

/-! PROOFS: messages of other devices that a device takes up, and the choir's events. -/
section

namespace Sys2Proof.Machine

open Reg

/-! ### Events of the choir -/

/-- What one event of the choir leaves when its bit is not yet set. -/
def Dev.eventRaised (d : Dev) (f : Fld) (mask : Nat) : Dev :=
  ((d.wr f 1).notify 8 ((d.wr f 1).rd CHOIR_STATUS_STATE) mask).log 11 (bytesLE 1 mask ++
    bytesLE 1 (((d.wr f 1).notify 8 ((d.wr f 1).rd CHOIR_STATUS_STATE) mask).rd CHOIR_STATUS_STATE) ++
    bytesLE 1 (((d.wr f 1).notify 8 ((d.wr f 1).rd CHOIR_STATUS_STATE) mask).rd CHOIR_STATUS_CANTOR) ++ [0] ++
    bytesLE 2 (((d.wr f 1).notify 8 ((d.wr f 1).rd CHOIR_STATUS_STATE) mask).rd CHOIR_STATUS_CEPOCH) ++ [0, 0] ++
    bytesLE 4 (((d.wr f 1).notify 8 ((d.wr f 1).rd CHOIR_STATUS_STATE) mask).rd
      (TIMER_PCOUNT_COUNT (((d.wr f 1).notify 8 ((d.wr f 1).rd CHOIR_STATUS_STATE) mask).rd PIPE_CFG_TIMER))))

theorem Dev.choirNew_zero (d : Dev) : d.choirNew 0 = 0 := by simp [Dev.choirNew]

@[simp] theorem Dev.choirEvent_zero (d : Dev) : d.choirEvent 0 = d := by
  rw [Dev.choirEvent]
  exact if_pos d.choirNew_zero

/-- A single event is new when its bit is clear. -/
theorem Dev.choirNew_single {d : Dev} {f : Fld} {i : Nat} (h : (f, i) ∈ choirEventFlds.zipIdx) :
    d.choirNew (2 ^ i) = if d.is f then 0 else 2 ^ i := by
  simp only [choirEventFlds, List.zipIdx, List.mem_cons, Prod.mk.injEq, List.not_mem_nil, or_false] at h
  rcases h with ⟨rfl, rfl⟩ | ⟨rfl, rfl⟩ | ⟨rfl, rfl⟩ | ⟨rfl, rfl⟩ | ⟨rfl, rfl⟩ | ⟨rfl, rfl⟩ | ⟨rfl, rfl⟩ | ⟨rfl, rfl⟩ <;>
    simp [Dev.choirNew, choirEventFlds, List.zipIdx, Nat.testBit] <;> split <;> simp_all

/-- Writing the bits of a mask of one event writes that event. -/
theorem Dev.each_single {d : Dev} {f : Fld} {i : Nat} (h : (f, i) ∈ choirEventFlds.zipIdx) :
    d.each choirEventFlds.zipIdx (fun d p => if (2 ^ i).testBit p.2 then d.wr p.1 1 else d) = d.wr f 1 := by
  simp only [choirEventFlds, List.zipIdx, List.mem_cons, Prod.mk.injEq, List.not_mem_nil, or_false] at h
  rcases h with ⟨rfl, rfl⟩ | ⟨rfl, rfl⟩ | ⟨rfl, rfl⟩ | ⟨rfl, rfl⟩ | ⟨rfl, rfl⟩ | ⟨rfl, rfl⟩ | ⟨rfl, rfl⟩ | ⟨rfl, rfl⟩ <;>
    simp [choirEventFlds, List.zipIdx, Dev.each, Nat.testBit]

theorem Dev.choirEvent_single {d : Dev} {f : Fld} {i : Nat} (h : (f, i) ∈ choirEventFlds.zipIdx) :
    d.choirEvent (2 ^ i) = if d.is f then d else d.eventRaised f (2 ^ i) := by
  rw [Dev.choirEvent, Dev.choirNew_single h]
  by_cases set : d.is f = true
  · rw [if_pos set, if_pos set]
    exact if_pos rfl
  · rw [if_neg set, if_neg set]
    dsimp only
    rw [if_neg (by positivity), Dev.each_single h]
    rfl

theorem Frame.choirEvent {us : List Part} {fs : List Fld} {d0 d : Dev} {mask : Nat} (hu : faultParts ⊆ us)
    (hf : choirEventFlds ++ [LOG_STATUS_LOG_QUEUE, LOSS_TOTAL] ⊆ fs) (h : Frame us fs d0 d) : Frame us fs d0 (d.choirEvent mask) := by
  obtain ⟨events, logged⟩ := List.append_subset.1 hf
  unfold Dev.choirEvent
  by_cases old : d.choirNew mask = 0
  · rw [old]
    exact h
  · dsimp only
    rw [if_neg old]
    refine Frame.log (fun p hp => hu ?_) logged (Frame.notify (fun p hp => hu ?_) (h.each fun d p hp frame => ?_))
    · revert p; decide
    · revert p; decide
    · split
      · exact frame.wr (events ((List.mem_zipIdx' hp).2 ▸ List.getElem_mem _))
      · exact frame

theorem Dev.choir_choirEvent (d : Dev) (mask : Nat) : (d.choirEvent mask).choir = d.choir :=
  (Frame.choirEvent (us := faultParts) (fun _ h => h) (fun _ h => h) (Frame.refl _ _ _)).parts .choir (by decide)

theorem Dev.choir_fault_bears {d : Dev} {src : Nat} (h : d.bears src) (code : Nat) : (d.fault code transient [src]).choir = d.choir :=
  (Frame.fault_bears (us := faultParts) h (fun _ h => h) (fun _ h => h) (Frame.refl _ _ _)).parts .choir (by decide)

/-- An event that occurs shows in its bit. -/
theorem Dev.is_choirEvent_single {d : Dev} {f : Fld} {i : Nat} (h : (f, i) ∈ choirEventFlds.zipIdx) :
    (d.choirEvent (2 ^ i)).is f = true := by
  rw [Dev.choirEvent_single h]
  split
  · assumption
  · have kept : Frame faultParts [LOG_STATUS_LOG_QUEUE, LOSS_TOTAL] (d.wr f 1) (d.eventRaised f (2 ^ i)) :=
      Frame.log (by decide) (fun _ h => h) (Frame.notify (by decide) (Frame.refl _ _ _))
    simp only [choirEventFlds, List.zipIdx, List.mem_cons, Prod.mk.injEq, List.not_mem_nil, or_false] at h
    refine Dev.is_of_ne_zero ?_
    rw [kept.rd ?_, Dev.rd_wr_same] <;>
    rcases h with ⟨rfl, rfl⟩ | ⟨rfl, rfl⟩ | ⟨rfl, rfl⟩ | ⟨rfl, rfl⟩ | ⟨rfl, rfl⟩ | ⟨rfl, rfl⟩ | ⟨rfl, rfl⟩ | ⟨rfl, rfl⟩ <;> decide

/-! ### A message is taken from the inbox -/

/-- The device with the head of its inbox taken. -/
def Dev.took (d : Dev) (rest : List Msg) : Dev := d.putChoir { d.choir with inbox := rest }

@[simp] theorem Dev.took_rd (d : Dev) (rest : List Msg) (f : Fld) : (d.took rest).rd f = d.rd f := rfl
@[simp] theorem Dev.took_is (d : Dev) (rest : List Msg) (f : Fld) : (d.took rest).is f = d.is f := rfl
@[simp] theorem Dev.took_choir (d : Dev) (rest : List Msg) : (d.took rest).choir = { d.choir with inbox := rest } := rfl

@[simp] theorem Frame.took_iff {us : List Part} {fs : List Fld} {d0 d : Dev} {rest : List Msg} (hu : Part.choir ∈ us) :
    Frame us fs d0 (d.took rest) ↔ Frame us fs d0 d := Frame.putChoir_iff hu

theorem takeFirst_head {p : Msg → Bool} {m : Msg} {rest : List Msg} (h : p m = true) : takeFirst p (m :: rest) = some (m, rest) := by
  rw [takeFirst, if_pos h]

/-- A message of the right kind at the head of the inbox is processed. -/
theorem Dev.process_head {d : Dev} {p : Msg → Bool} {f : Dev → Msg → Dev} {m : Msg} {rest : List Msg} (alive : d.choirAlive = true)
    (inbox : d.choir.inbox = m :: rest) (h : p m = true) : d.process p f = f (d.took rest) m := by
  rw [Dev.process, if_neg (by simp [alive]), inbox, takeFirst_head h]
  rfl

/-- A command of the cantor that is not stale is obeyed. -/
theorem Dev.obey_head {d : Dev} {k : Nat} {f : Dev → Msg → Dev} {m : Msg} {rest : List Msg} (alive : d.choirAlive = true)
    (inbox : d.choir.inbox = m :: rest) (h : isCmd k m = true) (fresh : d.stale m = false) : d.obey k f = f (d.took rest) m := by
  rw [Dev.obey, Dev.process_head alive inbox h]
  exact if_neg (by rw [show (d.took rest).stale m = d.stale m from rfl, fresh]; decide)

@[simp] theorem Dev.peer_putPeer_same (d : Dev) (a : Nat) (x : Peer) : (d.putPeer a x).peer a = x := Tab.read_write_same _ _ _ _
@[simp] theorem Dev.peer_took (d : Dev) (rest : List Msg) (a : Nat) : (d.took rest).peer a = d.peer a := rfl
@[simp] theorem Dev.rd_putPeer (d : Dev) (a : Nat) (x : Peer) (f : Fld) : (d.putPeer a x).rd f = d.rd f := rfl

@[simp] theorem Frame.putPeer_iff {us : List Part} {fs : List Fld} {d0 d : Dev} {a : Nat} {x : Peer} (hu : Part.choir ∈ us) :
    Frame us fs d0 (d.putPeer a x) ↔ Frame us fs d0 d := Frame.putChoir_iff hu

/-! ### Reports of other devices -/

/-- The hashes of another device as a CFGHASH message gives them. -/
def Peer.hashedBy (x : Peer) (m : Msg) : Peer :=
  { x with hashed := true, choirHash := intAt m.payload 4 4, commonHash := intAt m.payload 8 4, trackEn := (m.payload.getD 12 0).testBit 0 }

theorem Dev.cfghashRx_of_cantor {d : Dev} {m : Msg} {rest : List Msg} (alive : d.choirAlive = true) (inbox : d.choir.inbox = m :: rest)
    (type : m.type = 5) (cantor : d.choirState = 4) :
    d.cfghashRx =
      if intAt m.payload 4 4 = d.rd CHOIR_HASH ∧ intAt m.payload 8 4 = d.rd COMMON_HASH then
        ((d.took rest).putPeer m.src ((d.peer m.src).hashedBy m)).putPeer m.src { (d.peer m.src).hashedBy m with told := false }
      else if (d.peer m.src).told then (d.took rest).putPeer m.src ((d.peer m.src).hashedBy m)
      else (((d.took rest).putPeer m.src ((d.peer m.src).hashedBy m)).putPeer m.src
        { (d.peer m.src).hashedBy m with told := true }).mismatchFound false := by
  rw [Dev.cfghashRx, Dev.process_head alive inbox (by simp [type])]
  refine (if_pos cantor).trans (if_congr ?_ rfl rfl)
  simp [Dev.hashesMatch]

theorem logFlds_subset : [LOG_STATUS_LOG_QUEUE, LOSS_TOTAL] ⊆ faultFlds := by simp [faultFlds]

theorem Dev.mismatchFound_noted (d : Dev) : d.mismatchFound false = (d.choirEvent (2 ^ 4)).fault 0x0840 reportOnly [] := by
  rw [Dev.mismatchFound]
  exact if_neg (by decide)

/-- Noting a mismatch raises the event and records the fault. -/
theorem Frame.mismatchFound {us : List Part} {fs : List Fld} {d0 d : Dev} (hu : faultParts ⊆ us) (hf : choirEventFlds ++ faultFlds ⊆ fs)
    (h : Frame us fs d0 d) : Frame us fs d0 (d.mismatchFound false) := by
  obtain ⟨events, faults⟩ := List.append_subset.1 hf
  rw [Dev.mismatchFound_noted]
  refine Frame.fault_none hu faults (h.choirEvent hu (List.append_subset.2 ⟨events, List.Subset.trans logFlds_subset faults⟩))

theorem Dev.is_mismatchFound (d : Dev) : (d.mismatchFound false).is CHOIR_EVENT_CFG_MISMATCH = true := by
  rw [Dev.mismatchFound_noted]
  have kept : Frame faultParts faultFlds (d.choirEvent (2 ^ 4)) ((d.choirEvent (2 ^ 4)).fault 0x0840 reportOnly []) :=
    Frame.fault_none (fun _ h => h) (fun _ h => h) (Frame.refl _ _ _)
  rw [kept.is (by decide)]
  exact Dev.is_choirEvent_single (by decide)

/-- Settles O40: each report is taken from the head of the inbox and noted with its sender. -/
theorem reportsOfOtherDevices : Obligations.ReportsOfOtherDevices := by
  unfold Obligations.ReportsOfOtherDevices
  intro s m rest alive inbox src
  refine ⟨fun type => ?_, fun type cantor => ⟨fun same_choir same_common => ?_, fun differs untold => ?_⟩, fun type room hold => ?_⟩
  · refine Does.of_onDev rfl rfl ?_
    rw [Dev.healthRx, Dev.process_head alive inbox (by simp [type])]
    refine ⟨rfl, Dev.peer_putPeer_same _ _ _, ?_, by simp⟩
    refine (Dev.rd_wr_same _ CHOIR_ALIVE_JOINED _).trans (congrArg (· % 2 ^ 16) ?_)
    split <;> simp [Nat.add_comm]
  · refine Does.of_onDev rfl rfl ?_
    rw [Dev.cfghashRx_of_cantor alive inbox type cantor, if_pos ⟨same_choir, same_common⟩]
    rw [Dev.peer_putPeer_same]
    exact ⟨rfl, rfl, rfl, rfl, by simp⟩
  · refine Does.of_onDev rfl rfl ?_
    rw [Dev.cfghashRx_of_cantor alive inbox type cantor, if_neg (fun h => differs h.1), if_neg (by simp [untold])]
    have frame := fun d0 us fs => Frame.mismatchFound (us := us) (fs := fs) (d0 := d0)
      (d := ((s.dev.took rest).putPeer m.src ((s.dev.peer m.src).hashedBy m)).putPeer m.src { (s.dev.peer m.src).hashedBy m with told := true })
    have kept := frame _ _ _ (fun _ h => h) (fun _ h => h) (Frame.refl _ _ _)
    have choir := kept.parts .choir (by decide)
    refine ⟨congrArg ChoirSt.inbox choir, ?_, Dev.is_mismatchFound _, ?_, ?_, ?_⟩
    · rw [Dev.peer, choir]
      exact congrArg Peer.told (Dev.peer_putPeer_same _ m.src _)
    · rw [Dev.mismatchFound_noted]
      exact Dev.rd_lastCode_fault_none _ _ _ _
    · exact (kept.rd (by decide)).trans cantor
    · exact frame _ _ _ (by decide) (fun _ h => h) (by simp)
  · refine Does.of_onDev rfl rfl ?_
    rw [Dev.logRx, Dev.process_head alive inbox (by simp [type])]
    dsimp only
    rw [Dev.queueLog_of_room (d := s.dev.took rest) room (.inr hold)]
    exact ⟨rfl, rfl, by simp⟩

/-! ### The result of the cantor -/

/-- The one job that waits takes its sum. -/
theorem Dev.giveSum_single {d : Dev} {j : PipeJob} (jobs : d.pipe.jobs = [j]) (f : PipeJob → PipeJob) :
    (d.giveSum j.pseq f).pipe.jobs = [f j] := by
  show changeJob j.pseq f d.pipe.jobs = [f j]
  rw [jobs, changeJob, if_pos rfl]

theorem Dev.expireOp_of_no_own {d : Dev} (h : d.choir.own = none) (pseq src seq : Nat) : d.expireOp pseq src seq = d := by
  rw [Dev.expireOp, h]

/-- A job as the RESULT message `m` completes it. -/
def PipeJob.resulted (j : PipeJob) (m : Msg) : PipeJob :=
  { j with sum := some { value := f64At m.payload 4, reason := m.payload.getD 12 0 % 16, causes := intAt m.payload 14 2 },
           cmd := m.payload.getD 13 0 % 16, cmdSrc := m.payload.getD 16 0 % 16, refused := m.payload.getD 16 0 / 16,
           cmdSeq := m.payload.getD 17 0, digest := some (intAt m.payload 20 4),
           realign := if (m.payload.getD 12 0).testBit 4 then m.payload.drop 32 else [] }

/-- The device notes that it has applied the RESULT of a period. -/
def Dev.applied (d : Dev) (pseq : Nat) : Dev := d.putChoir { d.choir with applied := some pseq }

theorem Dev.awaits_of_joined {d : Dev} {j : PipeJob} (joined : d.choirState = 3) (undecided : j.sum = none) : d.awaits j = true := by
  simp [Dev.awaits, joined, undecided]

theorem Dev.resultRx_eq {d : Dev} {m : Msg} {rest : List Msg} (alive : d.choirAlive = true) (inbox : d.choir.inbox = m :: rest)
    (type : m.type = 2) (epoch : m.cepoch = d.rd CHOIR_STATUS_CEPOCH) (fresh : d.stale m = false) (member : d.isCantor = false)
    (first : d.choir.applied = none) (no_own : d.choir.own = none) :
    d.resultRx = ((d.took rest).applied (intAt m.payload 0 4)).giveSum (intAt m.payload 0 4)
      (fun j => if !((d.took rest).applied (intAt m.payload 0 4)).awaits j then j else j.resulted m) := by
  rw [Dev.resultRx, Dev.process_head alive inbox (by simp [type])]
  have first' : (d.took rest).choir.applied = none := first
  dsimp only
  rw [if_neg (by rw [show (d.took rest).stale m = d.stale m from rfl, fresh]; decide), first']
  refine (if_neg ?_).trans ((Dev.expireOp_of_no_own (by exact no_own) _ _ _).trans rfl)
  rintro (h | h | h)
  · exact h epoch
  · exact absurd (show d.isCantor = true from h) (by simp [member])
  · exact Bool.false_ne_true h

/-- A device whose period rests because its result is missing. -/
def Dev.missedResult (d : Dev) (j : PipeJob) : Dev :=
  (d.giveSum j.pseq (fun j => { j with sum := some (restSum (2 ^ 10)) })).applied j.pseq

theorem Dev.resultTimeout_eq {d : Dev} {j : PipeJob} (alive : d.choirAlive = true) (member : d.isCantor = false) (joined : d.choirState = 3)
    (jobs : d.pipe.jobs = [j]) (undecided : j.sum = none) (no_own : d.choir.own = none) (bears : d.bears srcDevice) :
    d.resultTimeout = ((d.missedResult j).fault 0x0831 transient [srcDevice]).choirEvent (2 ^ 7) := by
  have waits : d.awaits j = true := Dev.awaits_of_joined joined undecided
  have opened : d.openSum = some j := by
    rw [Dev.openSum, jobs]
    simp [undecided]
  rw [Dev.resultTimeout, opened]
  dsimp only
  rw [if_neg (by simp [alive, member, waits])]
  have kept : (((d.missedResult j).fault 0x0831 transient [srcDevice]).choirEvent (2 ^ 7)).choir = (d.missedResult j).choir :=
    (Dev.choir_choirEvent _ _).trans (Dev.choir_fault_bears (d := d.missedResult j) bears _)
  exact Dev.expireOp_of_no_own (congrArg ChoirSt.own kept |>.trans no_own) _ _ _

/-- Settles O43: the one open period takes the cantor's sum, or a rest with cause 10. -/
theorem resultIsAppliedOrMissed : Obligations.ResultIsAppliedOrMissed := by
  unfold Obligations.ResultIsAppliedOrMissed
  intro s j alive member joined jobs undecided no_own
  refine ⟨fun m rest inbox type period epoch fresh first => ?_, fun several bears unset => ?_⟩
  · refine Does.of_onDev rfl rfl ?_
    have waits : ((s.dev.took rest).applied (intAt m.payload 0 4)).awaits j = true := Dev.awaits_of_joined joined undecided
    rw [Dev.resultRx_eq alive inbox type epoch fresh member first no_own, period] at *
    refine ⟨⟨j.resulted m, ?_, rfl, rfl, rfl⟩, rfl, ?_⟩
    · rw [Dev.giveSum_single (by exact jobs), if_neg (by simp [waits])]
      simp
    · simp [Dev.giveSum, Dev.applied]
  · refine Does.of_onDev rfl rfl ?_
    rw [Dev.resultTimeout_eq alive member joined jobs undecided no_own bears]
    have missed : Frame [.pipe, .choir] [] s.dev (s.dev.missedResult j) := by simp [Dev.missedResult, Dev.giveSum, Dev.applied]
    have charged : Frame faultParts (choirEventFlds ++ strikeFlds srcDevice) (s.dev.missedResult j)
        ((s.dev.missedResult j).fault 0x0831 transient [srcDevice]) :=
      Frame.fault_bears (d := s.dev.missedResult j) bears (fun _ h => h) (List.subset_append_right _ _) (Frame.refl _ _ _)
    have raised : Frame faultParts (choirEventFlds ++ [LOG_STATUS_LOG_QUEUE, LOSS_TOTAL])
        ((s.dev.missedResult j).fault 0x0831 transient [srcDevice])
        (((s.dev.missedResult j).fault 0x0831 transient [srcDevice]).choirEvent (2 ^ 7)) :=
      Frame.choirEvent (fun _ h => h) (fun _ h => h) (Frame.refl _ _ _)
    have kept := charged.trans (raised.mono (fun _ h => h) (by simp [strikeFlds, faultFlds]))
    refine ⟨⟨{ j with sum := some (restSum (2 ^ 10)) }, ?_, rfl, rfl⟩, kept.parts .choir (by decide), Dev.is_choirEvent_single (by decide), ?_, ?_⟩
    · rw [kept.parts .pipe (by decide)]
      have job := Dev.giveSum_single (d := s.dev) jobs (fun j => { j with sum := some (restSum (2 ^ 10)) })
      exact job ▸ List.mem_singleton_self _
    · rw [raised.rd (by decide)]
      exact Dev.rd_lastCode_fault_bears (d := s.dev.missedResult j) bears _ _
    · exact (missed.mono (by simp) (by simp)).trans (kept.mono (by simp) (fun _ h => h))

/-! ### Commands of the choir -/

theorem isCmd_of {m : Msg} {k : Nat} (type : m.type = 6) (kind : m.kind = k) : isCmd k m = true := by simp [isCmd, type, kind]

/-- A change of the APPLY state is shown and notified. -/
theorem Dev.applyState_changed {d : Dev} {st : Nat} (h : d.rd APPLY_STATUS_STATE ≠ st) :
    d.applyState st = (d.wr APPLY_STATUS_STATE st).notify 5 st (d.rd APPLY_STATUS_RESULT) := if_neg h

theorem Frame.applyState {us : List Part} {fs : List Fld} {d0 d : Dev} {st : Nat} (hu : notifyParts ⊆ us) (hf : APPLY_STATUS_STATE ∈ fs)
    (h : Frame us fs d0 d) : Frame us fs d0 (d.applyState st) := by
  unfold Dev.applyState
  split
  · exact h
  · exact (h.wr hf).notify hu

theorem Dev.rd_applyState_state (d : Dev) {st : Nat} (small : st < 8) : (d.applyState st).rd APPLY_STATUS_STATE = st := by
  by_cases same : d.rd APPLY_STATUS_STATE = st
  · rw [Dev.applyState, if_pos same, same]
  · have kept : Frame notifyParts [] (d.wr APPLY_STATUS_STATE st) ((d.wr APPLY_STATUS_STATE st).notify 5 st (d.rd APPLY_STATUS_RESULT)) :=
      (Frame.refl _ _ _).notify (fun _ h => h)
    rw [Dev.applyState_changed same, kept.rd (by simp)]
    exact (Dev.rd_wr_same _ APPLY_STATUS_STATE _).trans (Nat.mod_eq_of_lt small)

/-- The fields that a refused APPLY writes. -/
def refuseFlds : List Fld := [APPLY_STATUS_RESULT, APPLY_ERR_ADDR_ADDR, STAGED_GEN, CHECK_STAGED, APPLY_STATUS_STATE] ++ faultFlds

theorem Frame.endApply {us : List Part} {fs : List Fld} {d0 d : Dev} (hu : Part.img :: notifyParts ⊆ us)
    (hf : [STAGED_GEN, CHECK_STAGED, APPLY_STATUS_STATE] ⊆ fs) (h : Frame us fs d0 d) : Frame us fs d0 d.endApply :=
  Frame.img (hu (by simp)) (Frame.applyState (List.cons_subset.1 hu).2 (hf (by simp)) ((h.wr (hf (by simp))).wr (hf (by simp))))

theorem Frame.refuseApply {us : List Part} {fs : List Fld} {d0 d : Dev} {code addr : Nat} (hu : Part.img :: faultParts ⊆ us)
    (hf : refuseFlds ⊆ fs) (h : Frame us fs d0 d) : Frame us fs d0 (d.refuseApply code addr) := by
  obtain ⟨shown, faults⟩ := List.append_subset.1 hf
  obtain ⟨img, records⟩ := List.cons_subset.1 hu
  exact Frame.endApply (List.cons_subset.2 ⟨img, fun p hp => records (by revert p; decide)⟩) (fun f hf => shown (by simp at hf ⊢; tauto))
    (Frame.fault_none records faults ((h.wr (shown (by simp))).wr (shown (by simp))))

/-- What a refusal shows. -/
theorem Dev.refuseApply_shows (d : Dev) (code addr : Nat) :
    (d.refuseApply code addr).rd APPLY_STATUS_RESULT = code % 2 ^ 5 ∧ (d.refuseApply code addr).rd APPLY_STATUS_STATE = 0 ∧
      (d.refuseApply code addr).rd FAULT_STATUS_LAST_CODE = 0x0903 ∧ (d.refuseApply code addr).img = ImgSt.none ∧
      (d.refuseApply code addr).rd APPLY_ERR_ADDR_ADDR = addr % 2 ^ 32 := by
  have faulted : Frame faultParts faultFlds ((d.wr APPLY_STATUS_RESULT code).wr APPLY_ERR_ADDR_ADDR addr)
      (((d.wr APPLY_STATUS_RESULT code).wr APPLY_ERR_ADDR_ADDR addr).fault 0x0903 reportOnly []) :=
    Frame.fault_none (fun _ h => h) (fun _ h => h) (Frame.refl _ _ _)
  have ended : Frame (Part.img :: notifyParts) [STAGED_GEN, CHECK_STAGED, APPLY_STATUS_STATE]
      (((d.wr APPLY_STATUS_RESULT code).wr APPLY_ERR_ADDR_ADDR addr).fault 0x0903 reportOnly []) (d.refuseApply code addr) :=
    Frame.endApply (fun _ h => h) (fun _ h => h) (Frame.refl _ _ _)
  refine ⟨?_, Dev.rd_applyState_state _ (by decide), ?_, rfl, ?_⟩
  · rw [ended.rd (by decide), faulted.rd (by decide), Dev.rd_wr_key _ _ (by decide)]
    exact Dev.rd_wr_same _ APPLY_STATUS_RESULT _
  · rw [ended.rd (by decide)]
    exact Dev.rd_lastCode_fault_none _ _ _ _
  · rw [ended.rd (by decide), faulted.rd (by decide)]
    exact Dev.rd_wr_same _ APPLY_ERR_ADDR_ADDR _

/-- A device whose staged image has its period named. -/
def Dev.switchNamed (d : Dev) (p : Nat) : Dev := { d with img := { d.img with named := some p } }.wr SWITCH_PSEQ p

theorem Frame.switchNamed {us : List Part} {fs : List Fld} {d0 d : Dev} {p : Nat} (hu : Part.img ∈ us) (hf : SWITCH_PSEQ ∈ fs)
    (h : Frame us fs d0 d) : Frame us fs d0 (d.switchNamed p) := (h.img hu).wr hf

theorem Dev.rd_switchNamed (d : Dev) (p : Nat) {g : Fld} (h : g.key ≠ SWITCH_PSEQ.key) : (d.switchNamed p).rd g = d.rd g :=
  Dev.rd_wr_key _ _ h

/-- A SWITCH of this epoch is judged by what is staged. -/
theorem Dev.switchRx_eq {d : Dev} {m : Msg} {rest : List Msg} (alive : d.choirAlive = true) (inbox : d.choir.inbox = m :: rest)
    (cmd : isCmd 2 m = true) (fresh : d.stale m = false) (epoch : m.cepoch = d.rd CHOIR_STATUS_CEPOCH) (staged : d.rd APPLY_STATUS_STATE = 2) :
    d.switchRx = if intAt m.payload 8 4 ≠ d.img.commonHash then (d.took rest).refuseApply 15 0xFFFFFFFF
      else ((d.took rest).switchNamed (intAt m.payload 4 4)).commitStaged := by
  rw [Dev.switchRx, Dev.obey_head alive inbox cmd fresh]
  exact if_neg (not_or.2 ⟨not_not.2 staged, not_not.2 epoch⟩)

/-- A staged image whose seal stayed open, or that is not legal, is committed. -/
theorem Dev.commitStaged_eq {d : Dev} (staged : d.rd APPLY_STATUS_STATE = 2)
    (open_or_plain : d.img.legal = false ∨ d.img.shut = false ∧ d.rd PIN_LEVEL_SEAL_OPEN ≠ 0) : d.commitStaged = d.applyState 3 := by
  rw [Dev.commitStaged, if_neg (not_not.2 staged), if_neg]
  rintro ⟨legal, shut | closed⟩
  · rcases open_or_plain with plain | ⟨unshut, -⟩
    · simp [plain] at legal
    · simp [unshut] at shut
  · rcases open_or_plain with plain | ⟨-, opened⟩
    · simp [plain] at legal
    · simp [Dev.is_of_ne_zero opened] at closed

/-- A staged legal image that has seen its seal closed is refused. -/
theorem Dev.commitStaged_refused {d : Dev} (staged : d.rd APPLY_STATUS_STATE = 2) (legal : d.img.legal = true)
    (closed : d.img.shut = true ∨ d.rd PIN_LEVEL_SEAL_OPEN = 0) : d.commitStaged = d.refuseApply 14 0xFFFFFFFF := by
  rw [Dev.commitStaged, if_neg (not_not.2 staged), if_pos ⟨legal, closed.imp_right fun zero => by simp [Dev.is_of_zero zero]⟩]

/-- A device that is LOCKING enters OUT without an event. -/
theorem Dev.enterOut_of_locking {d : Dev} (h : d.rd CHOIR_STATUS_STATE = 2) : d.enterOut = d.wr CHOIR_STATUS_STATE 5 := by
  rw [Dev.enterOut, h]
  exact Dev.choirEvent_zero _

/-- Settles O41: each command is taken from the head of the inbox and obeyed. -/
theorem commandsOfOtherDevices : Obligations.CommandsOfOtherDevices := by
  unfold Obligations.CommandsOfOtherDevices
  intro s m rest alive inbox type fresh
  refine ⟨fun kind cantor => ?_, fun kind epoch staged hash open_or_plain => ?_, fun code kind epoch staged why => ?_, fun kind cantor => ?_,
    fun kind => ?_, fun kind target locking => ?_, fun kind target out retired => ?_, fun kind cantor => ?_⟩ <;> refine Does.of_onDev rfl rfl ?_
  · rw [Dev.opRx, Dev.process_head alive inbox (isCmd_of type kind)]
    dsimp only
    rw [if_pos (by exact cantor)]
    exact ⟨rfl, by simp⟩
  · rw [Dev.switchRx_eq alive inbox (isCmd_of type kind) fresh epoch staged, if_neg (not_not.2 hash)]
    have waiting : ((s.dev.took rest).switchNamed (intAt m.payload 4 4)).rd APPLY_STATUS_STATE = 2 :=
      (Dev.rd_switchNamed _ _ (by decide)).trans staged
    have pin : ((s.dev.took rest).switchNamed (intAt m.payload 4 4)).rd PIN_LEVEL_SEAL_OPEN = s.dev.rd PIN_LEVEL_SEAL_OPEN :=
      Dev.rd_switchNamed _ _ (by decide)
    have named : Frame [.choir, .img] [SWITCH_PSEQ] s.dev ((s.dev.took rest).switchNamed (intAt m.payload 4 4)) :=
      Frame.switchNamed (by simp) (by simp) (by simp)
    have committed : Frame notifyParts [APPLY_STATUS_STATE] ((s.dev.took rest).switchNamed (intAt m.payload 4 4))
        (((s.dev.took rest).switchNamed (intAt m.payload 4 4)).applyState 3) :=
      Frame.applyState (fun _ h => h) (by simp) (Frame.refl _ _ _)
    rw [Dev.commitStaged_eq waiting (by rw [pin]; exact open_or_plain)]
    refine ⟨committed.parts .img (by decide), ?_, Dev.rd_applyState_state _ (by decide), ?_⟩
    · rw [committed.rd (by decide)]
      exact Dev.rd_wr_same _ SWITCH_PSEQ _
    · exact (named.mono (by simp) (by simp)).trans (committed.mono (by simp [notifyParts]) (by simp))
  · rw [Dev.switchRx_eq alive inbox (isCmd_of type kind) fresh epoch staged]
    rcases why with ⟨rfl, other⟩ | ⟨rfl, same, legal, closed⟩
    · obtain ⟨result, state, last, img, -⟩ := (s.dev.took rest).refuseApply_shows 15 0xFFFFFFFF
      rw [if_pos other]
      exact ⟨result, state, last, img, Frame.refuseApply (by simp) (List.subset_cons_self _ _) (by simp)⟩
    · have waiting : ((s.dev.took rest).switchNamed (intAt m.payload 4 4)).rd APPLY_STATUS_STATE = 2 :=
        (Dev.rd_switchNamed _ _ (by decide)).trans staged
      have pin : ((s.dev.took rest).switchNamed (intAt m.payload 4 4)).rd PIN_LEVEL_SEAL_OPEN = s.dev.rd PIN_LEVEL_SEAL_OPEN :=
        Dev.rd_switchNamed _ _ (by decide)
      obtain ⟨result, state, last, img, -⟩ :=
        ((s.dev.took rest).switchNamed (intAt m.payload 4 4)).refuseApply_shows 14 0xFFFFFFFF
      rw [if_neg (not_not.2 same), Dev.commitStaged_refused waiting legal (by rw [pin]; exact closed)]
      exact ⟨result, state, last, img, Frame.refuseApply (by simp) (List.subset_cons_self _ _)
        (Frame.switchNamed (by simp) (by simp) (by simp))⟩
  · rw [Dev.switchAckRx, Dev.process_head alive inbox (isCmd_of type kind)]
    rw [if_pos (by exact cantor)]
    exact ⟨Dev.rd_wr_same _ SWITCH_ACK _, by simp⟩
  · have live : s.dev.linkAlive = true := (Bool.and_eq_true_iff.1 alive).1
    rw [Dev.resetRx, inbox, takeFirst_head (isCmd_of type kind)]
    dsimp only
    rw [if_neg (by simp [live]), if_neg (Bool.not_eq_true _ ▸ (show Dev.stale _ m = false from fresh))]
    exact ⟨rfl, by simp⟩
  · rw [Dev.retireRx, Dev.obey_head alive inbox (isCmd_of type kind) fresh]
    dsimp only
    rw [if_pos (by exact target), Dev.enterOut_of_locking (by exact locking)]
    exact ⟨rfl, Dev.rd_wr_same _ CHOIR_STATUS_STATE _, by simp⟩
  · rw [Dev.readmitRx, Dev.obey_head alive inbox (isCmd_of type kind) fresh]
    dsimp only
    rw [if_pos (by exact ⟨target, out, by simp [retired], by simp [retired]⟩)]
    refine ⟨?_, ?_, ?_, ?_, Dev.rd_wr_same _ (STRIKE_PROB_LEFT srcDevice) _, by simp⟩
    · simp (disch := decide) only [Dev.rd_wr_key]
      exact Dev.rd_wr_same _ CHOIR_STATUS_STATE _
    · simp (disch := decide) only [Dev.rd_wr_key]
      exact Dev.rd_wr_same _ (STRIKE_RETIRED srcDevice) _
    · simp (disch := decide) only [Dev.rd_wr_key]
      exact Dev.rd_wr_same _ (STRIKE_PROBATION srcDevice) _
    · simp (disch := decide) only [Dev.rd_wr_key]
      exact Dev.rd_wr_same _ (STRIKE_STRIKES srcDevice) _
  · rw [Dev.realignReqRx, Dev.process_head alive inbox (isCmd_of type kind)]
    dsimp only
    rw [if_pos (by exact cantor)]
    exact ⟨rfl, by simp⟩

end Sys2Proof.Machine
end

/-! PROOFS: the configuration image: validation is begun and ends, the key fuses, and the steps of a commitment. -/
section

namespace Sys2Proof.Machine

open Reg

/-! ### APPLY, CANCEL and the key fuses -/

/-- The device as an accepted APPLY leaves it but for the state shown. -/
def Dev.applyCleared (d : Dev) (load : Bool) : Dev :=
  { d with img := { ImgSt.none with slot := d.targetSlot, load := load } } |>.wr APPLY_STATUS_RESULT 0 |>.wr APPLY_STATUS_LEGAL 0
    |>.wr APPLY_STATUS_CHOIR_WIDE 0 |>.wr APPLY_ERR_ADDR_ADDR 0xFFFFFFFF
    |>.wr STAGED_GEN (ofBytesLE (d.nvmBytes (slotBase d.targetSlot + 0xC) 4))

theorem Dev.startApply_eq {d : Dev} (may : d.mayApply = true) (load : Bool) : d.startApply load = (d.applyCleared load).applyState 1 := by
  rw [Dev.startApply, if_neg (by simp [may])]
  rfl

theorem Frame.applyCleared {us : List Part} {fs : List Fld} {d0 d : Dev} {load : Bool} (hu : Part.img ∈ us)
    (hf : [APPLY_STATUS_RESULT, APPLY_STATUS_LEGAL, APPLY_STATUS_CHOIR_WIDE, APPLY_ERR_ADDR_ADDR, STAGED_GEN] ⊆ fs) (h : Frame us fs d0 d) :
    Frame us fs d0 (d.applyCleared load) :=
  (((((h.img hu).wr (hf (by simp))).wr (hf (by simp))).wr (hf (by simp))).wr (hf (by simp))).wr (hf (by simp))

/-- What the end of an APPLY shows. -/
theorem Dev.endApply_shows (d : Dev) : d.endApply.rd APPLY_STATUS_STATE = 0 ∧ d.endApply.rd STAGED_GEN = 0 ∧ d.endApply.rd CHECK_STAGED = 0 ∧
    d.endApply.img = ImgSt.none := by
  have shown : Frame notifyParts [APPLY_STATUS_STATE] ((d.wr STAGED_GEN 0).wr CHECK_STAGED 0) (((d.wr STAGED_GEN 0).wr CHECK_STAGED 0).applyState 0) :=
    Frame.applyState (fun _ h => h) (by simp) (Frame.refl _ _ _)
  refine ⟨Dev.rd_applyState_state _ (by decide), (shown.rd (by decide)).trans ?_, (shown.rd (by decide)).trans ?_, rfl⟩
  · rw [Dev.rd_wr_key _ _ (by decide)]
    exact Dev.rd_wr_same _ STAGED_GEN _
  · exact Dev.rd_wr_same _ CHECK_STAGED _

/-- Settles O45: an accepted APPLY clears the results and names its slot; CANCEL ends it; the fuses take the stage registers. -/
theorem applyIsStartedOrCancelled : Obligations.ApplyIsStartedOrCancelled := by
  unfold Obligations.ApplyIsStartedOrCancelled
  refine ⟨fun s c load mem served may => ?_, fun s served may => ?_, fun s served => ⟨fun may => ?_, fun denied => ?_⟩⟩
  · have run : exec c s = s.onDev c (Dev.oneWrite (Dev.startApply load)) ∧ c.wf = true := by
      simp only [List.mem_cons, Prod.mk.injEq, List.not_mem_nil, or_false] at mem
      rcases mem with ⟨rfl, rfl⟩ | ⟨rfl, rfl⟩ <;> exact ⟨rfl, rfl⟩
    refine Does.of_oneWrite run.1 run.2 served ?_
    rw [Dev.startApply_eq (d := s.dev.setLatest false) may load]
    have shown : Frame notifyParts [APPLY_STATUS_STATE] ((s.dev.setLatest false).applyCleared load)
        (((s.dev.setLatest false).applyCleared load).applyState 1) :=
      Frame.applyState (fun _ h => h) (by simp) (Frame.refl _ _ _)
    refine ⟨Dev.rd_applyState_state _ (by decide), ?_, ?_, ?_, shown.parts .img (by decide), ?_⟩
    · rw [shown.rd (by decide), Dev.applyCleared]
      simp (disch := decide) only [Dev.rd_wr_key]
      exact Dev.rd_wr_same _ APPLY_STATUS_RESULT _
    · rw [shown.rd (by decide), Dev.applyCleared]
      simp (disch := decide) only [Dev.rd_wr_key]
      exact Dev.rd_wr_same _ APPLY_STATUS_LEGAL _
    · rw [shown.rd (by decide), Dev.applyCleared]
      simp (disch := decide) only [Dev.rd_wr_key]
      exact Dev.rd_wr_same _ APPLY_ERR_ADDR_ADDR _
    · exact (Frame.applyCleared (by simp) (by simp) (by simp)).applyState (by simp [notifyParts]) (by simp)
  · refine Does.of_oneWrite rfl rfl served ?_
    rw [Dev.cancelApply, if_pos (by exact may)]
    obtain ⟨state, gen, check, img⟩ := (s.dev.setLatest false).endApply_shows
    exact ⟨state, gen, check, img, Frame.endApply (by simp [notifyParts]) (by simp) (by simp)⟩
  · refine Does.of_oneWrite rfl rfl served ?_
    rw [Dev.programKeyFuses, if_pos (by exact may)]
    exact ⟨rfl, Frame.fuses (by simp) (by simp)⟩
  · refine Does.of_oneWrite rfl rfl served ?_
    rw [Dev.programKeyFuses, if_neg (by rw [show (s.dev.setLatest false).mayFuse = s.dev.mayFuse from rfl, denied]; decide)]
    simp

/-! ### The end of a validation -/

theorem Dev.validationDone_eq {d : Dev} (ready : d.nvmReady = true) (validating : d.rd APPLY_STATUS_STATE = 1) {v : Verdict}
    (hv : v = validate (d.slotBytes d.img.slot) (if d.rd (slotFld d.img.slot) = 5 then [] else [1]) d.fuses.keySet d.fuses.keyHash
      (if d.is CFG_STATUS_CONFIGURED = true then some (d.rd CHOIR_CFG_RATE) else none)) :
    d.validationDone false = if v.code ≠ 0 then d.refuseApply v.code v.addr
      else if d.applyCode v ≠ 0 then
        (if d.applyCode v = 10 then d.reportAuditFull else d).refuseApply (d.applyCode v)
          (if d.applyCode v = 8 then CHOIR_CFG_ADDR.word else 0xFFFFFFFF)
      else (d.noteImage v (d.slotBytes d.img.slot)).applyState
        (if (d.noteImage v (d.slotBytes d.img.slot)).is APPLY_STATUS_CHOIR_WIDE && !(d.noteImage v (d.slotBytes d.img.slot)).isCantor
          then 2 else 3) := by
  rw [Dev.validationDone, if_neg (by simp [ready, validating]), if_neg (by decide)]
  subst hv
  rfl

theorem Dev.validationDone_failed {d : Dev} (ready : d.nvmReady = true) (validating : d.rd APPLY_STATUS_STATE = 1) :
    d.validationDone true = (d.fault 0x0906 transient [srcDevice]).refuseApply 13 0xFFFFFFFF := by
  rw [Dev.validationDone, if_neg (by simp [ready, validating]), if_pos rfl]

/-- Every code of the checks that only an APPLY makes is below 16. -/
theorem Dev.applyCode_lt (d : Dev) (v : Verdict) : d.applyCode v < 16 := by
  unfold Dev.applyCode
  dsimp only
  repeat' split
  all_goals decide

/-- The fields that a validated image shows. -/
def noteFlds : List Fld := [APPLY_STATUS_LEGAL, APPLY_STATUS_CHOIR_WIDE, STAGED_GEN, CHECK_STAGED]

theorem Frame.noteImage {us : List Part} {fs : List Fld} {d0 d : Dev} {v : Verdict} {b : List Nat} (hu : Part.img ∈ us)
    (hf : noteFlds ⊆ fs) (h : Frame us fs d0 d) : Frame us fs d0 (d.noteImage v b) :=
  ((((h.img hu).wr (hf (by simp [noteFlds]))).wr (hf (by simp [noteFlds]))).wr (hf (by simp [noteFlds]))).wr (hf (by simp [noteFlds]))

theorem Dev.noteImage_shows (d : Dev) (v : Verdict) (b : List Nat) :
    (d.noteImage v b).rd APPLY_STATUS_LEGAL = bit (d.isLegal v) ∧ (d.noteImage v b).is APPLY_STATUS_CHOIR_WIDE = d.isChoirWide v ∧
      (d.noteImage v b).rd STAGED_GEN = v.gen % 2 ^ 32 ∧ (d.noteImage v b).rd CHECK_STAGED = v.check % 2 ^ 32 ∧
      (d.noteImage v b).img.table = v.table := by
  have legal : (d.noteImage v b).rd APPLY_STATUS_LEGAL = bit (d.isLegal v) := by
    unfold Dev.noteImage
    simp (disch := decide) only [Dev.rd_wr_key]
    refine (Dev.rd_wr_same _ APPLY_STATUS_LEGAL _).trans ?_
    cases d.isLegal v <;> rfl
  have wide : (d.noteImage v b).rd APPLY_STATUS_CHOIR_WIDE = bit (d.isChoirWide v) := by
    unfold Dev.noteImage
    simp (disch := decide) only [Dev.rd_wr_key]
    refine (Dev.rd_wr_same _ APPLY_STATUS_CHOIR_WIDE _).trans ?_
    show bit (d.isChoirWide v) % 2 ^ 1 = _
    cases d.isChoirWide v <;> rfl
  refine ⟨legal, ?_, ?_, Dev.rd_wr_same _ CHECK_STAGED _, rfl⟩
  · rw [Dev.is, wide]
    cases d.isChoirWide v <;> rfl
  · unfold Dev.noteImage
    rw [Dev.rd_wr_key _ _ (by decide)]
    exact Dev.rd_wr_same _ STAGED_GEN _

/-- Who is the cantor is read from the choir's state and the declared devices. -/
theorem Frame.isCantor {us : List Part} {fs : List Fld} {d e : Dev} (h : Frame us fs d e) (state : ∀ f ∈ fs, CHOIR_STATUS_STATE.key ≠ f.key)
    (devices : ∀ f ∈ fs, CHOIR_DEVICES_MASK.key ≠ f.key) : e.isCantor = d.isCantor := by
  rw [Dev.isCantor, Dev.isCantor, Dev.choirState, Dev.choirState, Dev.deviceCount, Dev.deviceCount, h.rd state, h.rd devices]

/-- Settles O46: the verdict of the validation decides between staging and refusal. -/
theorem validationStagesOrRefuses : Obligations.ValidationStagesOrRefuses := by
  unfold Obligations.ValidationStagesOrRefuses
  refine ⟨fun s v ready validating hv => ?_, fun s ready validating bears => ?_⟩ <;> refine Does.of_onDev rfl rfl ?_
  · rw [Dev.validationDone_eq ready validating hv]
    refine ⟨fun good allowed => ?_, fun good refused => ?_, fun bad => ?_⟩
    · rw [if_neg (not_not.2 good), if_neg (not_not.2 allowed)]
      obtain ⟨legal, wide, gen, check, table⟩ := s.dev.noteImage_shows v (s.dev.slotBytes s.dev.img.slot)
      have noted : Frame [.img] noteFlds s.dev (s.dev.noteImage v (s.dev.slotBytes s.dev.img.slot)) :=
        Frame.noteImage (by simp) (fun _ h => h) (Frame.refl _ _ _)
      have staged : Frame notifyParts [APPLY_STATUS_STATE] (s.dev.noteImage v (s.dev.slotBytes s.dev.img.slot))
          ((s.dev.noteImage v (s.dev.slotBytes s.dev.img.slot)).applyState (if s.dev.isChoirWide v = true ∧ s.dev.isCantor = false then 2 else 3)) :=
        Frame.applyState (fun _ h => h) (by simp) (Frame.refl _ _ _)
      have state : (if (s.dev.noteImage v (s.dev.slotBytes s.dev.img.slot)).is APPLY_STATUS_CHOIR_WIDE &&
          !(s.dev.noteImage v (s.dev.slotBytes s.dev.img.slot)).isCantor then 2 else 3) =
          if s.dev.isChoirWide v = true ∧ s.dev.isCantor = false then 2 else 3 := by
        rw [wide, noted.isCantor (by decide) (by decide)]
        simp
      rw [state]
      refine ⟨Dev.rd_applyState_state _ (by split <;> decide), (staged.rd (by decide)).trans check, (staged.rd (by decide)).trans gen,
        (staged.rd (by decide)).trans legal, (congrArg ImgSt.table (staged.parts .img (by decide))).trans table,
        (noted.mono (by simp) (by simp [noteFlds])).trans (staged.mono (by simp [notifyParts]) (by simp))⟩
    · rw [if_neg (not_not.2 good), if_pos refused]
      obtain ⟨result, state, last, img, addr⟩ := (if s.dev.applyCode v = 10 then s.dev.reportAuditFull else s.dev).refuseApply_shows
        (s.dev.applyCode v) (if s.dev.applyCode v = 8 then CHOIR_CFG_ADDR.word else 0xFFFFFFFF)
      have small := s.dev.applyCode_lt v
      exact ⟨state, result.trans (by omega), img⟩
    · rw [if_pos bad]
      obtain ⟨result, state, last, img, addr⟩ := s.dev.refuseApply_shows v.code v.addr
      exact ⟨state, result, addr, last, img, Frame.refuseApply (by simp) (by simp [refuseFlds, faultFlds]) (Frame.refl _ _ _)⟩
  · rw [Dev.validationDone_failed ready validating]
    obtain ⟨result, state, last, img, -⟩ := (s.dev.fault 0x0906 transient [srcDevice]).refuseApply_shows 13 0xFFFFFFFF
    exact ⟨state, result, last, img, Frame.refuseApply (by simp) (by simp [refuseFlds, strikeFlds, faultFlds])
      (Frame.fault_bears bears (by simp) (by simp [strikeFlds, faultFlds]) (Frame.refl _ _ _))⟩

end Sys2Proof.Machine
end

/-! PROOFS: sending on the Guvel link: what a frame that is queued changes, and the messages that a device originates. -/
section

namespace Sys2Proof.Machine

open Reg

/-! ### A frame is queued on a port -/

section

variable {us : List Part} {fs : List Fld} {d0 d : Dev} {p : Nat}

/-- The fields of a port that a frame sent on it changes. -/
def txFlds (p : Nat) : List Fld := [LINK_FRAMES_TX_FRAMES_TX p, LINK_STATE_REPLAY_FILL p]

theorem Frame.putPort {x : PortSt} (hu : Part.choir ∈ us) (hf : LINK_STATE_REPLAY_FILL p ∈ fs) (h : Frame us fs d0 d) :
    Frame us fs d0 (d.putPort p x) := (h.choir hu).wr hf

@[simp] theorem Frame.putPort_iff {x : PortSt} (hu : Part.choir ∈ us) (hf : LINK_STATE_REPLAY_FILL p ∈ fs) :
    Frame us fs d0 (d.putPort p x) ↔ Frame us fs d0 d :=
  (Frame.wr_iff hf).trans (Frame.set_iff rfl (fun u x => by cases u <;> first | rfl | exact absurd hu x))

theorem Frame.startTx {hops : Nat} {body : List Nat} (hu : Part.choir ∈ us) (hf : txFlds p ⊆ fs) (h : Frame us fs d0 d) :
    Frame us fs d0 (d.startTx p hops body) := (h.putPort hu (hf (by simp [txFlds]))).inc (hf (by simp [txFlds]))

theorem Frame.flushPort (hu : Part.choir ∈ us) (hf : txFlds p ⊆ fs) :
    ∀ {q : List (Nat × List Nat)} {d : Dev}, Frame us fs d0 d → Frame us fs d0 (Dev.flushPort p q d)
  | [], _, h => h
  | f :: rest, d, h => by
    rw [Dev.flushPort]
    split
    · exact Frame.flushPort hu hf (Frame.startTx hu hf (h.putPort hu (hf (by simp [txFlds]))))
    · exact h

theorem Frame.queueTx {hops : Nat} {body : List Nat} (hu : Part.choir ∈ us) (hf : txFlds p ⊆ fs) (h : Frame us fs d0 d) :
    Frame us fs d0 (d.queueTx p hops body) := Frame.flushPort hu hf (h.putPort hu (hf (by simp [txFlds])))

end

/-- `e` is `d` but for frames that were queued, started or held on the ports: the rest of the choir unit is as it was, and each port keeps
what its receiver and its SYNC messages know. -/
structure Dev.Queued (d e : Dev) (p : Nat) : Prop where
  choir : ∃ ports, e.choir = { d.choir with ports := ports }
  other : ∀ q, q ≠ p → e.port q = d.port q
  own : ∃ held txSeq queue, e.port p = { d.port p with held := held, txSeq := txSeq, queue := queue }

theorem Dev.Queued.refl (d : Dev) (p : Nat) : d.Queued d p := ⟨⟨_, rfl⟩, fun _ _ => rfl, ⟨_, _, _, rfl⟩⟩

theorem Dev.Queued.trans {a b c : Dev} {p : Nat} (h : a.Queued b p) (k : b.Queued c p) : a.Queued c p := by
  obtain ⟨⟨ports, hc⟩, ho, held, tx, q, hp⟩ := h
  obtain ⟨⟨ports', kc⟩, ko, held', tx', q', kp⟩ := k
  exact ⟨⟨ports', by rw [kc, hc]⟩, fun r hr => (ko r hr).trans (ho r hr), held', tx', q', by rw [kp, hp]⟩

@[simp] theorem Dev.port_putPort_same (d : Dev) (p : Nat) (x : PortSt) : (d.putPort p x).port p = x := Tab.read_write_same _ _ _ _

theorem Dev.port_putPort_other (d : Dev) (x : PortSt) {p q : Nat} (h : q ≠ p) : (d.putPort p x).port q = d.port q :=
  Tab.read_write_other _ _ _ h

theorem Dev.Queued.putPort (d : Dev) (p : Nat) {x : PortSt} (h : ∃ held txSeq queue, x = { d.port p with held := held, txSeq := txSeq, queue := queue }) :
    d.Queued (d.putPort p x) p :=
  ⟨⟨_, rfl⟩, fun _ hq => Dev.port_putPort_other d x hq, by rw [Dev.port_putPort_same]; exact h⟩

/-- A register write leaves the ports alone. -/
theorem Dev.Queued.wr {d e : Dev} {p : Nat} (h : d.Queued e p) (f : Fld) (v : Nat) : d.Queued (e.wr f v) p := ⟨h.choir, h.other, h.own⟩

theorem Dev.Queued.startTx (d : Dev) (p hops : Nat) (body : List Nat) : d.Queued (d.startTx p hops body) p :=
  (Dev.Queued.putPort d p ⟨_, _, _, rfl⟩).wr _ _

theorem Dev.Queued.flushPort (p : Nat) : ∀ (q : List (Nat × List Nat)) (d : Dev), d.Queued (Dev.flushPort p q d) p
  | [], d => .refl d p
  | f :: rest, d => by
    rw [Dev.flushPort]
    split
    · exact ((Dev.Queued.putPort d p ⟨_, _, _, rfl⟩).trans (.startTx _ p _ _)).trans (Dev.Queued.flushPort p rest _)
    · exact .refl d p

theorem Dev.Queued.queueTx (d : Dev) (p hops : Nat) (body : List Nat) : d.Queued (d.queueTx p hops body) p :=
  (Dev.Queued.putPort d p ⟨_, _, _, rfl⟩).trans (.flushPort p _ _)

/-! ### A message is originated -/

theorem txFlds_subset {p : Nat} (h : p ∈ [0, 1]) : txFlds p ⊆ sendFlds := by
  simp only [List.mem_cons, List.not_mem_nil, or_false] at h
  rcases h with rfl | rfl <;> simp [txFlds, sendFlds]

theorem Frame.newMessage {us : List Part} {fs : List Fld} {d0 d : Dev} {type dst : Nat} {bcast : Bool} {payload : List Nat}
    (hu : Part.choir ∈ us) (h : Frame us fs d0 d) : Frame us fs d0 (d.newMessage type dst bcast payload).1 := h.putChoir hu

/-- Frames queued on the ports that are UP leave the rest of the choir unit as it was. -/
theorem Dev.choir_eachQueued (hops : Dev → Nat) (body : List Nat) : ∀ (l : List Nat) (d : Dev),
    ∃ ports, (d.each l (fun d p => if d.portUp p then d.queueTx p (hops d) body else d)).choir = { d.choir with ports := ports }
  | [], d => ⟨_, rfl⟩
  | p :: l, d => by
    rw [Dev.each_cons]
    obtain ⟨ports, rest⟩ := Dev.choir_eachQueued hops body l (if d.portUp p then d.queueTx p (hops d) body else d)
    refine ⟨ports, rest.trans ?_⟩
    split
    · obtain ⟨ports', first⟩ := (Dev.Queued.queueTx d p (hops d) body).choir
      rw [first]
    · rfl

theorem Frame.eachQueued {us : List Part} {fs : List Fld} {d0 d : Dev} {hops : Dev → Nat} {body : List Nat} (hu : Part.choir ∈ us)
    (hf : sendFlds ⊆ fs) (h : Frame us fs d0 d) :
    Frame us fs d0 (d.each [0, 1] (fun d p => if d.portUp p then d.queueTx p (hops d) body else d)) := by
  refine h.each fun d p hp frame => ?_
  split
  · exact Frame.queueTx hu (List.Subset.trans (txFlds_subset hp) hf) frame
  · exact frame

theorem Dev.send_eq {d : Dev} (h : d.speaks = true) (type dst : Nat) (bcast : Bool) (payload : List Nat) :
    d.send type dst bcast payload = ((d.newMessage type dst bcast payload).1.offer 20 5
      (messageWords d.timeNow 2 (d.newMessage type dst bcast payload).2)).each [0, 1] (fun e p =>
        if e.portUp p then e.queueTx p (e.deviceCount - 1) (d.newMessage type dst bcast payload).2.body else e) := by
  rw [Dev.send, if_neg (by simp [h])]

/-- What a device that may speak has after it originated a message: the MSEQ taken, the entry of RING_20 waiting, and the rest of the choir
unit as it was but for its ports. -/
theorem Dev.send_of_speaks {d : Dev} (h : d.speaks = true) (type dst : Nat) (bcast : Bool) (payload : List Nat) :
    d.Sent (d.send type dst bcast payload) type dst bcast payload ∧
      ∃ ports, (d.send type dst bcast payload).choir = { d.choir with mseq := (d.choir.mseq + 1) % 65536, ports := ports } := by
  rw [Dev.send_eq h]
  have offered : ((d.newMessage type dst bcast payload).1.offer 20 5
      (messageWords d.timeNow 2 (d.newMessage type dst bcast payload).2)).choir = { d.choir with mseq := (d.choir.mseq + 1) % 65536 } := by
    have kept : Frame [.writer] [] _ ((d.newMessage type dst bcast payload).1.offer 20 5
      (messageWords d.timeNow 2 (d.newMessage type dst bcast payload).2)) := (Frame.refl _ _ _).offer (by simp)
    exact kept.parts .choir (by decide)
  obtain ⟨e, waits, ring, words⟩ := Dev.offer_waiting (d := (d.newMessage type dst bcast payload).1) (r := 20) (p := 5)
    (w := messageWords d.timeNow 2 (d.newMessage type dst bcast payload).2) (by decide)
  generalize (d.newMessage type dst bcast payload).1.offer 20 5 (messageWords d.timeNow 2 (d.newMessage type dst bcast payload).2) = o at *
  obtain ⟨ports, choir⟩ := Dev.choir_eachQueued (fun e => e.deviceCount - 1) (d.newMessage type dst bcast payload).2.body [0, 1] o
  rw [offered] at choir
  have writer := (Frame.eachQueued (us := [.choir]) (fs := sendFlds) (hops := fun e => e.deviceCount - 1)
    (body := (d.newMessage type dst bcast payload).2.body) (by simp) (fun _ h => h) (Frame.refl _ _ o)).parts .writer (by decide)
  exact ⟨⟨by rw [choir], e, by rw [writer]; exact waits, ring, words⟩, ports, choir⟩

theorem Frame.send {us : List Part} {fs : List Fld} {d0 d : Dev} {type dst : Nat} {bcast : Bool} {payload : List Nat}
    (hu : [Part.choir, Part.writer] ⊆ us) (hf : sendFlds ⊆ fs) (h : Frame us fs d0 d) : Frame us fs d0 (d.send type dst bcast payload) := by
  unfold Dev.send
  split
  · exact h
  · exact ((h.newMessage (hu (by simp))).offer (hu (by simp))).eachQueued (hu (by simp)) hf

/-- The fields that a message's header and time are made from. -/
def headerFlds (d : Dev) : List Fld :=
  [TB_STATUS_GATED, CHOIR_CFG_ADDR, CHOIR_STATUS_CEPOCH, PIPE_CFG_TIMER, TIMER_LENGTH_US (d.rd PIPE_CFG_TIMER)]

/-- A message sent is the same one seen from a state before it that has the same time, identity and next MSEQ. -/
theorem Dev.Sent.of_same {d e x : Dev} {type dst : Nat} {bcast : Bool} {payload : List Nat} (sent : e.Sent x type dst bcast payload)
    (rd : ∀ g ∈ headerFlds d, e.rd g = d.rd g) (time : e.time = d.time) (mseq : e.choir.mseq = d.choir.mseq)
    (start : e.choir.startFck = d.choir.startFck) : d.Sent x type dst bcast payload := by
  simp only [headerFlds, List.forall_mem_cons, List.not_mem_nil, false_imp_iff, implies_true, and_true] at rd
  obtain ⟨gated, addr, epoch, timer, length⟩ := rd
  have now : e.timeNow = d.timeNow := by rw [Dev.timeNow, Dev.timeNow, Dev.coarse, Dev.coarse, Dev.is, Dev.is, gated, time]
  have fresh : e.isFresh = d.isFresh := by rw [Dev.isFresh, Dev.isFresh, Dev.leaseUs, Dev.leaseUs, timer, length, time, start]
  have message : (e.newMessage type dst bcast payload).2 = (d.newMessage type dst bcast payload).2 := by
    simp only [Dev.newMessage, fresh, Dev.addr, addr, epoch, mseq]
  obtain ⟨next, entry⟩ := sent
  exact ⟨by rw [next, mseq], by rw [← now, ← message]; exact entry⟩

/-! ### The cantor's commands -/

/-- The fields of a list, cleared. -/
def Dev.zeroed (d : Dev) (l : List Fld) : Dev := d.each l (fun d f => d.wr f 0)

theorem Dev.rd_zeroed {l : List Fld} {f : Fld} (hf : f ∈ l) (apart : (l.map Fld.key).Nodup) (d : Dev) :
    (d.zeroed l).rd f = 0 := by
  refine Dev.each_reaches (P := fun d => d.rd f = 0) hf (fun d => ?_) (fun d g hg other zero => ?_) d
  · rw [Dev.rd_wr_same, Nat.zero_mod]
  · exact (Dev.rd_wr_key d 0 (fun same => other (List.inj_on_of_nodup_map apart hg hf same.symm))).trans zero

theorem Frame.zeroed {us : List Part} {fs : List Fld} {d0 d : Dev} {l : List Fld} (hf : l ⊆ fs) (h : Frame us fs d0 d) :
    Frame us fs d0 (d.zeroed l) := h.each fun _ _ hg frame => frame.wr (hf hg)

/-- What a source on probation shows. -/
theorem Dev.onProbation_shows (d : Dev) (src : Nat) : (d.onProbation src).rd (STRIKE_STRIKES src) = 0 ∧
    (d.onProbation src).rd (STRIKE_RETIRED src) = 0 ∧ (d.onProbation src).rd (STRIKE_PROBATION src) = 1 := by
  unfold Dev.onProbation
  refine ⟨?_, ?_, ?_⟩
  · simp (disch := simp only [STRIKE_RETIRED, STRIKE_PROBATION, STRIKE_STRIKES, STRIKE_DECAY_COUNT, STRIKE_PROB_LEFT]; omega) only [Dev.rd_wr_key]
    exact Dev.rd_wr_same _ _ _
  · simp (disch := simp only [STRIKE_RETIRED, STRIKE_PROBATION, STRIKE_STRIKES, STRIKE_DECAY_COUNT, STRIKE_PROB_LEFT]; omega) only [Dev.rd_wr_key]
    exact Dev.rd_wr_same _ _ _
  · simp (disch := simp only [STRIKE_RETIRED, STRIKE_PROBATION, STRIKE_STRIKES, STRIKE_DECAY_COUNT, STRIKE_PROB_LEFT]; omega) only [Dev.rd_wr_key]
    exact Dev.rd_wr_same _ _ _

/-- Settles O44: the strike record of the device taken back, the boundary of the reset, and the counters. -/
theorem cantorCommands : Obligations.CantorCommands := by
  unfold Obligations.CantorCommands
  refine ⟨fun s a ha served may speaks retired => ?_, fun s served may speaks => ?_, fun s served => ?_⟩
  · refine Does.of_oneWrite rfl (by simpa [Instr.wf] using ha) served ?_
    have run : (s.dev.setLatest false).readmitDevice a = ((s.dev.setLatest false).onProbation (0x30 + a)).sendCmd a 6 a 0 0 0 := by
      rw [Dev.readmitDevice, if_neg (by rw [show (s.dev.setLatest false).mayCommand = s.dev.mayCommand from rfl, may]; decide)]
      dsimp only
      rw [if_pos (by exact Dev.is_of_ne_zero (d := s.dev) (by omega))]
      rfl
    have probation : Frame [.host] [STRIKE_RETIRED (0x30 + a), STRIKE_PROBATION (0x30 + a), STRIKE_STRIKES (0x30 + a), STRIKE_DECAY_COUNT (0x30 + a),
        STRIKE_PROB_LEFT (0x30 + a)] s.dev ((s.dev.setLatest false).onProbation (0x30 + a)) := by simp [Dev.onProbation]
    have reads : ∀ g : Fld, g.key < 1605632 → ((s.dev.setLatest false).onProbation (0x30 + a)).rd g = s.dev.rd g := fun g small =>
      probation.rd (by
        simp only [List.forall_mem_cons, List.not_mem_nil, false_imp_iff, implies_true, and_true, STRIKE_RETIRED, STRIKE_PROBATION, STRIKE_STRIKES,
          STRIKE_DECAY_COUNT, STRIKE_PROB_LEFT]
        omega)
    have speaks' : ((s.dev.setLatest false).onProbation (0x30 + a)).speaks = true := by
      rw [Dev.speaks, Dev.deviceCount, Dev.mode, reads CHOIR_DEVICES_MASK (by decide), reads POWER_STATUS_STATE (by decide)]
      exact speaks
    obtain ⟨sent, -⟩ := Dev.send_of_speaks speaks' 6 a false (cmdPayload 6 a 0 0 0)
    have after : Frame [.choir, .writer] sendFlds ((s.dev.setLatest false).onProbation (0x30 + a))
        (((s.dev.setLatest false).onProbation (0x30 + a)).sendCmd a 6 a 0 0 0) := Frame.send (by simp) (fun _ h => h) (Frame.refl _ _ _)
    have late : ∀ g : Fld, 1605632 ≤ g.key → (((s.dev.setLatest false).onProbation (0x30 + a)).sendCmd a 6 a 0 0 0).rd g =
        ((s.dev.setLatest false).onProbation (0x30 + a)).rd g := fun g big => after.rd (by
        simp only [sendFlds, List.forall_mem_cons, List.not_mem_nil, false_imp_iff, implies_true, and_true, LINK_FRAMES_TX_FRAMES_TX,
          LINK_STATE_REPLAY_FILL]
        omega)
    obtain ⟨strikes, retired, probing⟩ := (s.dev.setLatest false).onProbation_shows (0x30 + a)
    rw [run]
    refine ⟨(late _ (by simp only [STRIKE_RETIRED]; omega)).trans retired, (late _ (by simp only [STRIKE_PROBATION]; omega)).trans probing,
      (late _ (by simp only [STRIKE_STRIKES]; omega)).trans strikes, sent.of_same ?_ (probation.parts .time (by decide))
        (congrArg ChoirSt.mseq (probation.parts .choir (by decide))) (congrArg ChoirSt.startFck (probation.parts .choir (by decide))),
      (probation.mono (by simp) (by simp)).trans (after.mono (by simp) (List.subset_append_right _ _))⟩
    simp only [headerFlds, List.forall_mem_cons, List.not_mem_nil, false_imp_iff, implies_true, and_true]
    refine ⟨reads _ (by decide), reads _ (by decide), reads _ (by decide), reads _ (by decide), probation.regs _ fun f hf => .inr ?_⟩
    revert f
    simp [TIMER_LENGTH_US, STRIKE_RETIRED, STRIKE_PROBATION, STRIKE_STRIKES, STRIKE_DECAY_COUNT, STRIKE_PROB_LEFT]
  · refine Does.of_oneWrite rfl rfl served ?_
    rw [Dev.choirResetCmd, if_neg (by rw [show (s.dev.setLatest false).mayCommand = s.dev.mayCommand from rfl, may]; decide)]
    obtain ⟨sent, ports, choir⟩ := Dev.send_of_speaks (d := (s.dev.setLatest false).putChoir { s.dev.choir with resetAt := some s.dev.boundaryAhead })
      speaks 6 0 true (cmdPayload 4 0 0 s.dev.boundaryAhead 0)
    exact ⟨congrArg ChoirSt.resetAt choir, sent.of_same (fun _ _ => rfl) rfl rfl rfl, Frame.send (by simp) (fun _ h => h) (by simp)⟩
  · refine Does.of_oneWrite rfl rfl served ?_
    have run : (s.dev.setLatest false).clearChoirCounters = (s.dev.setLatest false).zeroed choirCountFlds := by
      simp only [Dev.clearChoirCounters, Dev.zeroed, choirCountFlds, Dev.each, List.flatMap_cons, List.flatMap_nil, List.foldl_cons, List.foldl_nil,
        List.cons_append, List.nil_append, List.append_nil]
    rw [run]
    exact ⟨fun f hf => Dev.rd_zeroed hf (by decide) _, Frame.zeroed (fun _ h => h) (by simp)⟩

/-! ### The device's own messages -/

/-- A device that may speak originates one message. -/
theorem Dev.send_does {d : Dev} (h : d.speaks = true) (type dst : Nat) (bcast : Bool) (payload : List Nat) :
    d.Sent (d.send type dst bcast payload) type dst bcast payload ∧ Frame [.choir, .writer] sendFlds d (d.send type dst bcast payload) :=
  ⟨(Dev.send_of_speaks h type dst bcast payload).1, Frame.send (fun _ h => h) (fun _ h => h) (Frame.refl _ _ _)⟩

/-- A port after it launched a SYNC. -/
def Dev.launchedPort (d : Dev) (p : Nat) (raw : Option Nat) : PortSt :=
  { d.port p with sseq := ((d.port p).sseq + 1) % 256, launch := (d.syncStamp p (((d.port p).sseq + 1) % 256) raw :: (d.port p).launch).take 8 }

/-- A port that is not UP launches nothing. -/
theorem Dev.launchSync_down {d : Dev} {p : Nat} (h : d.portUp p = false) (raw : Option Nat) (bad : Bool) : d.launchSync p raw bad = d := by
  rw [Dev.launchSync, if_pos (by simp [h])]

theorem Dev.launchSync_up {d : Dev} {p : Nat} (h : d.portUp p = true) (raw : Option Nat) :
    ∃ payload, d.launchSync p raw false =
      (((d.newMessage 0 0 true payload).1.putPort p (d.launchedPort p raw)).queueTx p 1 (d.newMessage 0 0 true payload).2.body) := by
  unfold Dev.launchSync
  rw [if_neg (by simp [h])]
  exact ⟨_, rfl⟩

/-- Settles O37: a message is one MSEQ and one entry of RING_20; a SYNC takes its port's next number and keeps its launch stamp. -/
theorem deviceSendsItsMessages : Obligations.DeviceSendsItsMessages := by
  unfold Obligations.DeviceSendsItsMessages
  intro s alive speaks
  refine ⟨fun cantor => ?_, ?_, ?_, fun a b ha hb up down => ?_⟩
  · refine Does.of_onDev rfl rfl ?_
    have run : s.dev.timeSend = s.dev.sendTime false := if_pos (by rw [alive, cantor]; rfl)
    have flags : bit false + 2 * s.dev.rd CHOIR_STATUS_HOLDOVER = 2 * s.dev.rd CHOIR_STATUS_HOLDOVER := Nat.zero_add _
    rw [run, Dev.sendTime, flags]
    exact Dev.send_does speaks _ _ _ _
  · refine Does.of_onDev rfl rfl ?_
    rw [Dev.healthSend, if_neg (by simp [alive])]
    exact Dev.send_does speaks _ _ _ _
  · refine Does.of_onDev rfl rfl ?_
    rw [Dev.cfghashSend, if_pos alive]
    exact Dev.send_does speaks _ _ _ _
  · refine Does.of_onDev rfl rfl ?_
    have several : decide (1 < s.dev.deviceCount) = true := by
      rw [Dev.speaks, Bool.and_eq_true, Bool.and_eq_true] at speaks
      exact speaks.1.1
    obtain ⟨payload, first⟩ := Dev.launchSync_up up a
    have frame : Frame [.choir] (txFlds 0) s.dev (s.dev.launchSync 0 a false) := by
      rw [first]
      exact Frame.queueTx (by simp) (fun _ h => h) (Frame.putPort (by simp) (by simp [txFlds]) (Frame.newMessage (by simp) (Frame.refl _ _ _)))
    have still_down : (s.dev.launchSync 0 a false).portUp 1 = false := by
      rw [Dev.portUp, frame.rd (by decide)]
      exact down
    have run : s.dev.syncSend a b 0 = s.dev.launchSync 0 a false := by
      rw [Dev.syncSend, if_pos (by rw [alive, several]; rfl)]
      exact Dev.launchSync_down still_down b _
    rw [run]
    rw [first] at frame ⊢
    obtain ⟨⟨ports, choir⟩, other, held, tx, queue, own⟩ := Dev.Queued.queueTx
      ((s.dev.newMessage 0 0 true payload).1.putPort 0 (s.dev.launchedPort 0 a)) 0 1 (s.dev.newMessage 0 0 true payload).2.body
    rw [Dev.port_putPort_same] at own
    refine ⟨congrArg ChoirSt.mseq choir, congrArg PortSt.sseq own, ?_, ?_, frame.mono (fun _ h => h) (fun _ h => h)⟩
    · rw [own]
      rfl
    · exact (other 1 (by decide)).trans (Dev.port_putPort_other _ _ (by decide))

/-! ### The choir sum is decided -/

/-- A message sent leaves the choir unit as it was but for the MSEQ and the ports. -/
theorem Dev.choir_send (d : Dev) (type dst : Nat) (bcast : Bool) (payload : List Nat) :
    ∃ mseq ports, (d.send type dst bcast payload).choir = { d.choir with mseq := mseq, ports := ports } := by
  by_cases h : d.speaks = true
  · exact ⟨_, (Dev.send_of_speaks h type dst bcast payload).2⟩
  · rw [Dev.send, if_pos (by simpa using h)]
    exact ⟨_, _, rfl⟩

/-- The sum that the cantor decides on. -/
def Dev.decidedSum (d : Dev) (j : PipeJob) : SumVal :=
  if (d.sumReasons j).1 = 0 then { value := d.sumOffers j, reason := 0, causes := 0 } else restSum (d.sumReasons j).1

/-- The job of a decided period that carries no operator command. -/
def Dev.decidedJob (d : Dev) (j : PipeJob) : PipeJob :=
  { j with sum := some (d.decidedSum j), realign := if d.choir.realignDue then d.realignBytes else [] }

/-- The cantor's choir unit once it has decided a period with no operator command waiting. -/
def Dev.noteDecided (d : Dev) (pseq : Nat) : Dev :=
  d.putChoir { d.choir with realignDue := false, decided := some pseq,
                            offers := d.choir.offers.filter (fun (x : Nat × Nat × SumVal) => !from32 pseq x.1) }

/-- The late devices of a period are shown and charged. -/
def Dev.chargeLate (d : Dev) (j : PipeJob) : Dev :=
  (d.wr LATE_MASK_LATE (((d.sumReasons j).2.map (fun a => 2 ^ a)).sum)).each (d.sumReasons j).2 Dev.lateDevice

/-- The period of the decision and its RESULT, after the late devices were charged. -/
def Dev.decision (d e : Dev) (j : PipeJob) : Dev :=
  ((e.noteDecided j.pseq).giveSum j.pseq (fun _ => d.decidedJob j)).sendResult (d.decidedJob j) (d.decidedSum j)

theorem Dev.decideSum_eq {d : Dev} {j : PipeJob} (ops : d.choir.ops = []) (own : d.choir.own = none) (kept : (d.chargeLate j).choir = d.choir) :
    d.decideSum j = d.decision (d.chargeLate j) j := by
  have none_waits : (d.decision (d.chargeLate j) j).choir.own = none := by
    obtain ⟨mseq, ports, choir⟩ := Dev.choir_send (((d.chargeLate j).noteDecided j.pseq).giveSum j.pseq (fun _ => d.decidedJob j)) 2 0 true
      (bytesLE 4 (d.decidedJob j).pseq ++ f64Bytes (d.decidedSum j).value ++ [(d.decidedSum j).reason + 16 * bit ((d.decidedJob j).realign != []),
        (d.decidedJob j).cmd] ++ bytesLE 2 (d.decidedSum j).causes ++ [(d.decidedJob j).cmdSrc + 16 * (d.decidedJob j).refused,
        (d.decidedJob j).cmdSeq, 0, 0] ++ bytesLE 4 (((d.chargeLate j).noteDecided j.pseq).giveSum j.pseq (fun _ => d.decidedJob j)).digest ++
        copies 8 0 ++ (d.decidedJob j).realign)
    refine (congrArg ChoirSt.own choir).trans ?_
    show (d.chargeLate j).choir.own = none
    rw [kept, own]
  refine Eq.trans ?_ (Dev.expireOp_of_no_own none_waits j.pseq (d.decidedJob j).cmdSrc (d.decidedJob j).cmdSeq)
  rw [Dev.decideSum, ops]
  simp only [pickOp, PipeJob.carry]
  rfl

theorem Frame.decision {us : List Part} {fs : List Fld} {d0 d e : Dev} {j : PipeJob} (hu : [Part.pipe, Part.choir, Part.writer] ⊆ us)
    (hf : sendFlds ⊆ fs) (h : Frame us fs d0 e) : Frame us fs d0 (d.decision e j) := by
  have pipe : Part.pipe ∈ us := hu (by simp)
  have choir : Part.choir ∈ us := hu (by simp)
  refine Frame.send (List.cons_subset.1 hu).2 hf ?_
  simpa [Dev.giveSum, Dev.noteDecided, pipe, choir] using h

/-- The one open period has the decided sum, and the decision is noted. -/
theorem Dev.decision_shows {d e : Dev} {j : PipeJob} (jobs : e.pipe.jobs = [j]) :
    (∃ k ∈ (d.decision e j).pipe.jobs, k.pseq = j.pseq ∧ k.sum = some (d.decidedSum j)) ∧ (d.decision e j).choir.decided = some j.pseq := by
  have sent : Frame [.choir, .writer] sendFlds ((e.noteDecided j.pseq).giveSum j.pseq (fun _ => d.decidedJob j)) (d.decision e j) :=
    Frame.send (fun _ h => h) (fun _ h => h) (Frame.refl _ _ _)
  have job := Dev.giveSum_single (d := e.noteDecided j.pseq) jobs (fun _ => d.decidedJob j)
  refine ⟨⟨d.decidedJob j, ?_, rfl, rfl⟩, ?_⟩
  · rw [sent.parts .pipe (by decide), job]
    exact List.mem_singleton_self _
  · unfold Dev.decision Dev.sendResult
    obtain ⟨mseq, ports, choir⟩ := Dev.choir_send ((e.noteDecided j.pseq).giveSum j.pseq (fun _ => d.decidedJob j)) 2 0 true _
    exact congrArg ChoirSt.decided choir

theorem Dev.sumWindowEnd_eq {d : Dev} {j : PipeJob} (alive : d.choirAlive = true) (cantor : d.choirState = 4) (several : 1 < d.deviceCount)
    (jobs : d.pipe.jobs = [j]) (undecided : j.sum = none) : d.sumWindowEnd = d.decideSum j := by
  have opened : d.openSum = some j := by
    rw [Dev.openSum, jobs]
    simp [undecided]
  rw [Dev.sumWindowEnd, if_pos (by simp [alive, cantor, several]), Dev.tryDecide, opened]
  exact if_pos (.inl rfl)

/-- A write elsewhere leaves whether a source bears a fault. -/
theorem Dev.bears_wr {d : Dev} {src v : Nat} {f : Fld} (h : d.bears src) (retired : (STRIKE_RETIRED src).key ≠ f.key)
    (probing : (STRIKE_PROBATION src).key ≠ f.key) (strikes : (STRIKE_STRIKES src).key ≠ f.key) (limit : STRIKE_CFG_RETIRE.key ≠ f.key) :
    (d.wr f v).bears src := by
  rw [Dev.bears, Dev.rd_wr_key _ _ retired, Dev.rd_wr_key _ _ probing, Dev.rd_wr_key _ _ strikes, Dev.rd_wr_key _ _ limit]
  exact h

/-- A late device that bears the fault is charged and stays in the choir. -/
theorem Dev.lateDevice_bears {d : Dev} {a : Nat} (bears : d.bears (0x30 + a)) : d.lateDevice a = d.fault 0x0830 transient [0x30 + a] := by
  have charged : Frame faultParts (strikeFlds (0x30 + a)) d (d.fault 0x0830 transient [0x30 + a]) :=
    Frame.fault_bears bears (fun _ h => h) (fun _ h => h) (Frame.refl _ _ _)
  have stays : (d.fault 0x0830 transient [0x30 + a]).rd (STRIKE_RETIRED (0x30 + a)) = 0 :=
    (charged.rd (by simp [strikeFlds, faultFlds, STRIKE_RETIRED, STRIKE_STRIKES, STRIKE_DECAY_COUNT, FAULT_STATUS_COUNT, FAULT_STATUS_LAST_CODE,
      LOG_STATUS_LOG_QUEUE, LOSS_TOTAL]; omega)).trans bears.1
  rw [Dev.lateDevice]
  exact if_neg (by simp [Dev.isRetired, Dev.is_of_zero stays])

/-- The cantor's device with the offer of a SUM message among those it keeps. -/
def Dev.keepsOffer (d : Dev) (m : Msg) : Dev :=
  d.putChoir { d.choir with
    offers := d.choir.offers.filter (fun (o : Nat × Nat × SumVal) => o.1 != intAt m.payload 0 4 || o.2.1 != m.src) ++
      [(intAt m.payload 0 4, m.src, SumVal.mk (f64At m.payload 4) (m.payload.getD 12 0 % 16) (intAt m.payload 14 2))] }

theorem Dev.sumRx_eq {d : Dev} {m : Msg} {rest : List Msg} (alive : d.choirAlive = true) (inbox : d.choir.inbox = m :: rest)
    (type : m.type = 3) (cantor : d.choirState = 4) (taken : d.takesSum m.src = true) :
    d.sumRx = if (match d.choir.decided with
        | some q => from32 q (intAt m.payload 0 4)
        | none => false) then (d.took rest).inc CHOIR_COUNTS_SUM_AFTER else ((d.took rest).keepsOffer m).tryDecide false := by
  rw [Dev.sumRx, Dev.process_head alive inbox (by simp [type])]
  refine (if_neg (not_not.2 cantor)).trans ((if_neg ?_).trans rfl)
  rw [show (d.took rest).takesSum m.src = d.takesSum m.src from rfl, taken]
  decide

theorem Dev.tryDecide_of_none {d : Dev} (h : d.openSum = none) (force : Bool) : d.tryDecide force = d := by rw [Dev.tryDecide, h]

/-- Settles O42: the cantor keeps the offers of an open period and decides it from all of them, or as a rest. -/
theorem choirSumIsDecided : Obligations.ChoirSumIsDecided := by
  unfold Obligations.ChoirSumIsDecided
  refine ⟨fun s m rest v alive inbox type cantor taken hv => ⟨fun first closed => ?_, fun q decided late room => ?_⟩,
    fun s j alive cantor several jobs undecided ops own => ⟨fun all => ?_, fun r a reasons rests ha bears => ?_⟩⟩ <;> refine Does.of_onDev rfl rfl ?_
  · rw [Dev.sumRx_eq alive inbox type cantor taken, first]
    have opened : ((s.dev.took rest).keepsOffer m).openSum = none := closed
    dsimp only
    rw [if_neg (by decide), Dev.tryDecide_of_none opened]
    exact ⟨List.mem_append_right _ (hv ▸ List.mem_singleton_self _), rfl, by simp [Dev.keepsOffer]⟩
  · have run : s.dev.sumRx = (s.dev.took rest).inc CHOIR_COUNTS_SUM_AFTER := by
      rw [Dev.sumRx_eq alive inbox type cantor taken, decided]
      exact if_pos late
    rw [run]
    exact ⟨rfl, Dev.rd_inc_below (d := s.dev) room, by simp⟩
  · have charged : s.dev.chargeLate j = s.dev.wr LATE_MASK_LATE 0 := by
      rw [Dev.chargeLate, all]
      rfl
    have sent : Frame [.pipe, .choir, .writer] sendFlds (s.dev.wr LATE_MASK_LATE 0) (s.dev.decision (s.dev.wr LATE_MASK_LATE 0) j) :=
      Frame.decision (fun _ h => h) (fun _ h => h) (Frame.refl _ _ _)
    obtain ⟨job, decided⟩ := Dev.decision_shows (d := s.dev) (e := s.dev.wr LATE_MASK_LATE 0) jobs
    rw [Dev.sumWindowEnd_eq alive cantor several jobs undecided, Dev.decideSum_eq ops own (by rw [charged]; rfl), charged]
    refine ⟨?_, decided, ?_, ?_⟩
    · rwa [Dev.decidedSum, all, if_pos rfl] at job
    · rw [sent.rd (by decide)]
      exact Dev.rd_wr_same _ LATE_MASK_LATE _
    · exact (Frame.refl _ _ s.dev).wr (by simp) |>.trans (sent.mono (fun _ h => h) (List.subset_cons_self _ _))
  · have bears' : (s.dev.wr LATE_MASK_LATE (2 ^ a)).bears (0x30 + a) := Dev.bears_wr bears (by simp only [STRIKE_RETIRED, LATE_MASK_LATE]; omega)
      (by simp only [STRIKE_PROBATION, LATE_MASK_LATE]; omega) (by simp only [STRIKE_STRIKES, LATE_MASK_LATE]; omega) (by decide)
    have charged : s.dev.chargeLate j = (s.dev.wr LATE_MASK_LATE (2 ^ a)).fault 0x0830 transient [0x30 + a] := by
      rw [Dev.chargeLate, reasons, ← Dev.lateDevice_bears bears']
      rfl
    have faulted : Frame faultParts (strikeFlds (0x30 + a)) (s.dev.wr LATE_MASK_LATE (2 ^ a)) (s.dev.chargeLate j) := by
      rw [charged]
      exact Frame.fault_bears bears' (fun _ h => h) (fun _ h => h) (Frame.refl _ _ _)
    have sent : Frame [.pipe, .choir, .writer] sendFlds (s.dev.chargeLate j) (s.dev.decision (s.dev.chargeLate j) j) :=
      Frame.decision (fun _ h => h) (fun _ h => h) (Frame.refl _ _ _)
    obtain ⟨job, decided⟩ := Dev.decision_shows (d := s.dev) (e := s.dev.chargeLate j) ((congrArg Pipe.jobs (faulted.parts .pipe (by decide))).trans jobs)
    rw [Dev.sumWindowEnd_eq alive cantor several jobs undecided, Dev.decideSum_eq ops own (faulted.parts .choir (by decide))]
    refine ⟨?_, decided, ?_, ?_, ?_⟩
    · rwa [Dev.decidedSum, reasons, if_neg rests] at job
    · rw [sent.rd (by decide), faulted.rd ?_]
      · exact (Dev.rd_wr_same _ LATE_MASK_LATE _).trans (Nat.mod_eq_of_lt (Nat.pow_lt_pow_right (by decide) ha))
      · simp [strikeFlds, faultFlds, LATE_MASK_LATE, STRIKE_STRIKES, STRIKE_DECAY_COUNT, FAULT_STATUS_COUNT, FAULT_STATUS_LAST_CODE,
          LOG_STATUS_LOG_QUEUE, LOSS_TOTAL]
        omega
    · rw [sent.rd (by decide), charged]
      exact Dev.rd_lastCode_fault_bears bears' _ _
    · exact ((Frame.refl _ _ s.dev).wr (by simp)).trans ((faulted.mono (by simp) (List.subset_append_right _ _)).trans
        (sent.mono (by simp [faultParts]) (fun f hf => by simp [hf])))

end Sys2Proof.Machine
end

/-! PROOFS: the replay buffer of a port, steering by a SYNC, and the cantor's role. -/
section

namespace Sys2Proof.Machine

open Reg

/-! ### The replay buffer -/

/-- Replacing a port shows how many frames it holds, and nothing else. -/
theorem Dev.rd_putPort_other (d : Dev) {p : Nat} {x : PortSt} {g : Fld} (h : g.key ≠ (LINK_STATE_REPLAY_FILL p).key) :
    (d.putPort p x).rd g = d.rd g := Dev.rd_wr_key _ _ h

/-- The port with its held frames from index `i` on sent once more. -/
def PortSt.resent (x : PortSt) (i : Nat) : PortSt :=
  { x with held := x.held.take i ++ (x.held.drop i).map (fun h => { h with sends := h.sends + 1 }) }

/-- Frames held from `i` on are sent again. -/
def Dev.resent (d : Dev) (p i : Nat) : Dev :=
  ((d.putPort p ((d.port p).resent i)).inc (LINK_RETRY_RETRIES p)).wr (LINK_FRAMES_TX_FRAMES_TX p)
    (min (2 ^ 32 - 1) (((d.putPort p ((d.port p).resent i)).inc (LINK_RETRY_RETRIES p)).rd (LINK_FRAMES_TX_FRAMES_TX p) +
      ((d.port p).held.length - i)))

theorem Dev.replayFrom_eq {d : Dev} {p i : Nat} (h : i < (d.port p).held.length) : d.replayFrom p i = d.resent p i := by
  rw [Dev.replayFrom]
  exact if_neg (by omega)

theorem Dev.resent_port (d : Dev) (p i : Nat) : (d.resent p i).port p = (d.port p).resent i := Dev.port_putPort_same d p _

theorem Frame.resent {us : List Part} {fs : List Fld} {d0 d : Dev} {p i : Nat} (hu : Part.choir ∈ us)
    (hf : [LINK_RETRY_RETRIES p, LINK_FRAMES_TX_FRAMES_TX p, LINK_STATE_REPLAY_FILL p] ⊆ fs) (h : Frame us fs d0 d) :
    Frame us fs d0 (d.resent p i) := ((h.putPort hu (hf (by simp))).inc (hf (by simp))).wr (hf (by simp))

theorem Dev.rd_resent_retries {d : Dev} {p : Nat} (room : d.rd (LINK_RETRY_RETRIES p) < 65535) (i : Nat) :
    (d.resent p i).rd (LINK_RETRY_RETRIES p) = d.rd (LINK_RETRY_RETRIES p) + 1 := by
  have filled : (d.putPort p ((d.port p).resent i)).rd (LINK_RETRY_RETRIES p) = d.rd (LINK_RETRY_RETRIES p) :=
    Dev.rd_putPort_other _ (by simp only [LINK_RETRY_RETRIES, LINK_STATE_REPLAY_FILL]; omega)
  rw [Dev.resent, Dev.rd_wr_key _ _ (by simp only [LINK_RETRY_RETRIES, LINK_FRAMES_TX_FRAMES_TX]; omega),
    Dev.rd_inc_below _ (by rw [filled]; exact room), filled]

/-- While no frame has been sent five times a replay sends the frames again. -/
theorem Dev.replay_of_below {d : Dev} {p i : Nat} (below : ∀ h ∈ (d.port p).held.drop i, h.sends < 5) : d.replay p i = d.replayFrom p i := by
  rw [Dev.replay]
  refine if_neg ?_
  simpa using below

/-- A frame sent five times ends in the limit. -/
theorem Dev.replay_of_limit {d : Dev} {p : Nat} (five : ∃ h ∈ (d.port p).held, 5 ≤ h.sends) : d.replay p 0 = d.retryLimit p := by
  rw [Dev.replay]
  refine if_pos ?_
  simpa using five

theorem Dev.flushPort_nil (p : Nat) (d : Dev) : Dev.flushPort p [] d = d := rfl

/-- The place of a held frame lies in the buffer. -/
theorem Dev.heldIndex_lt {d : Dev} {p k i : Nat} (h : d.heldIndex p k = some i) : i < (d.port p).held.length :=
  (List.findIdx?_eq_some_iff_findIdx_eq.1 h).1

/-- The port's oldest `i` held frames are acknowledged. -/
def Dev.released (d : Dev) (p i : Nat) : Dev := d.putPort p { d.port p with held := (d.port p).held.drop i }

theorem Dev.released_port (d : Dev) (p i : Nat) : (d.released p i).port p = { d.port p with held := (d.port p).held.drop i } :=
  Dev.port_putPort_same d p _

theorem Dev.nakRx_eq {d : Dev} {p k i : Nat} (alive : d.linkAlive = true) (at_i : d.heldIndex p k = some i) (no_queue : (d.port p).queue = [])
    (below : ∀ h ∈ (d.port p).held, h.sends < 5) : d.nakRx p k = ((d.inc (LINK_ERR_NAK_RX p)).released p i).resent p 0 := by
  have counted : (d.inc (LINK_ERR_NAK_RX p)).heldIndex p k = some i := at_i
  have port := (d.inc (LINK_ERR_NAK_RX p)).released_port p i
  have again : ((d.inc (LINK_ERR_NAK_RX p)).released p i).replay p 0 = ((d.inc (LINK_ERR_NAK_RX p)).released p i).resent p 0 := by
    rw [Dev.replay_of_below, Dev.replayFrom_eq] <;> rw [port]
    · have := Dev.heldIndex_lt counted
      simp only [List.length_drop]
      omega
    · exact fun h mem => below h (List.mem_of_mem_drop (List.mem_of_mem_drop mem))
  have queue : ((((d.inc (LINK_ERR_NAK_RX p)).released p i).resent p 0).port p).queue = [] := by
    rw [Dev.resent_port, port]
    exact no_queue
  rw [Dev.nakRx, if_neg (by simp [alive])]
  dsimp only
  rw [counted]
  show Dev.flushPort p ((((d.inc (LINK_ERR_NAK_RX p)).released p i).replay p 0).port p).queue
    (((d.inc (LINK_ERR_NAK_RX p)).released p i).replay p 0) = _
  rw [again, queue, Dev.flushPort_nil]

theorem Dev.replayTimeout_eq {d : Dev} {p : Nat} (alive : d.linkAlive = true) (up : d.portUp p = true) (held : (d.port p).held ≠ []) :
    d.replayTimeout p = d.replay p 0 := by
  rw [Dev.replayTimeout, if_pos (by simp [alive, up, held])]

/-! ### A port retrains -/

/-- The port's link state goes back to where training begins; what it holds for replay stays. -/
def PortSt.idle (x : PortSt) : PortSt :=
  { x with sig0 := false, sig1 := false, count0 := 0, count1 := 0, attempt := false, pause := false, unacked := false, setSent := none }

/-- Both lanes of a port back in DETECT. -/
def Dev.lanesDown (d : Dev) (p : Nat) : Dev := (d.wr (LINK_STATE_LANE_STATE_0 p) 0).wr (LINK_STATE_LANE_STATE_1 p) 0

theorem Dev.retrain_eq {d : Dev} {p : Nat} (lane0 : d.rd (LINK_STATE_LANE_STATE_0 p) ≠ 5) (lane1 : d.rd (LINK_STATE_LANE_STATE_1 p) ≠ 5) :
    d.retrain p = ((((d.lanesDown p).putPort p (d.port p).idle).showPort p).inc (LINK_RETRY_RETRAINS p) |>.raiseEpoch 5).raiseEpoch 6 := by
  have lane1' : (d.wr (LINK_STATE_LANE_STATE_0 p) 0).rd (LINK_STATE_LANE_STATE_1 p) ≠ 5 := by
    rwa [Dev.rd_wr_key _ _ (by simp only [LINK_STATE_LANE_STATE_0, LINK_STATE_LANE_STATE_1]; omega)]
  have lanes : d.each [0, 1] (fun d l => if d.rd (laneState p l) = 5 then d else d.wr (laneState p l) 0) = d.lanesDown p := by
    rw [Dev.each_cons, Dev.each_cons, Dev.each_nil, if_neg (show d.rd (laneState p 0) ≠ 5 from lane0)]
    exact if_neg lane1'
  rw [Dev.retrain, lanes]
  rfl

/-- A port that retrains with both lanes in use is DOWN. -/
theorem Dev.retrain_shows {d : Dev} {p : Nat} (lane0 : d.rd (LINK_STATE_LANE_STATE_0 p) ≠ 5) (lane1 : d.rd (LINK_STATE_LANE_STATE_1 p) ≠ 5) :
    (d.retrain p).rd (LINK_STATE_STATE p) = 0 ∧ (d.retrain p).port p = (d.port p).idle ∧
      (d.retrain p).rd (LINK_STATE_LANE_STATE_0 p) = 0 ∧ (d.retrain p).rd (LINK_STATE_LANE_STATE_1 p) = 0 := by
  have down0 : ((d.lanesDown p).putPort p (d.port p).idle).rd (LINK_STATE_LANE_STATE_0 p) = 0 := by
    rw [Dev.rd_putPort_other _ (by simp only [LINK_STATE_LANE_STATE_0, LINK_STATE_REPLAY_FILL]; omega), Dev.lanesDown,
      Dev.rd_wr_key _ _ (by simp only [LINK_STATE_LANE_STATE_0, LINK_STATE_LANE_STATE_1]; omega)]
    exact Dev.rd_wr_same _ _ _
  have down1 : ((d.lanesDown p).putPort p (d.port p).idle).rd (LINK_STATE_LANE_STATE_1 p) = 0 := by
    rw [Dev.rd_putPort_other _ (by simp only [LINK_STATE_LANE_STATE_1, LINK_STATE_REPLAY_FILL]; omega)]
    exact Dev.rd_wr_same _ _ _
  have kept : Frame [.writer] [LINK_STATE_CLOCK_LANE p, LINK_STATE_STATE p, LINK_RETRY_RETRAINS p] ((d.lanesDown p).putPort p (d.port p).idle)
      (d.retrain p) := by
    rw [Dev.retrain_eq lane0 lane1]
    exact Frame.raiseEpoch (by simp) (Frame.raiseEpoch (by simp) (Frame.inc (by simp) (Frame.wr (by simp) (Frame.wr (by simp) (Frame.refl _ _ _)))))
  refine ⟨?_, ?_, (kept.rd ?_).trans down0, (kept.rd ?_).trans down1⟩
  · rw [Dev.retrain_eq lane0 lane1]
    show ((((d.lanesDown p).putPort p (d.port p).idle).showPort p).inc (LINK_RETRY_RETRAINS p)).rd (LINK_STATE_STATE p) = 0
    refine (Dev.rd_inc_key _ ?_).trans ?_
    · simp only [LINK_STATE_STATE, LINK_RETRY_RETRAINS]; omega
    · rw [Dev.showPort, down0, down1]
      exact Dev.rd_wr_same _ _ _
  · exact (congrArg (fun c : ChoirSt => Tab.read PortSt.fresh c.ports p) (kept.parts .choir (by decide))).trans (Dev.port_putPort_same _ p _)
  · simp only [List.forall_mem_cons, List.not_mem_nil, false_imp_iff, implies_true, and_true, LINK_STATE_LANE_STATE_0, LINK_STATE_CLOCK_LANE,
      LINK_STATE_STATE, LINK_RETRY_RETRAINS]
    omega
  · simp only [List.forall_mem_cons, List.not_mem_nil, false_imp_iff, implies_true, and_true, LINK_STATE_LANE_STATE_1, LINK_STATE_CLOCK_LANE,
      LINK_STATE_STATE, LINK_RETRY_RETRAINS]
    omega

/-- The fields of a port that retraining changes. -/
def retrainFlds (p : Nat) : List Fld := [LINK_STATE_LANE_STATE_0 p, LINK_STATE_LANE_STATE_1 p, LINK_STATE_REPLAY_FILL p, LINK_STATE_CLOCK_LANE p,
  LINK_STATE_STATE p, LINK_RETRY_RETRAINS p]

theorem Frame.retrain {us : List Part} {fs : List Fld} {d0 d : Dev} {p : Nat} (hu : [Part.choir, Part.writer] ⊆ us) (hf : retrainFlds p ⊆ fs)
    (h : Frame us fs d0 d) : Frame us fs d0 (d.retrain p) := by
  have lanes : Frame us fs d0 (d.each [0, 1] (fun d l => if d.rd (laneState p l) = 5 then d else d.wr (laneState p l) 0)) := by
    refine h.each fun d l hl frame => ?_
    have listed : laneState p l ∈ fs := hf (by unfold laneState; split <;> simp [retrainFlds])
    split
    · exact frame
    · exact frame.wr listed
  exact Frame.raiseEpoch (hu (by simp)) (Frame.raiseEpoch (hu (by simp)) (Frame.inc (hf (by simp [retrainFlds]))
    (Frame.wr (hf (by simp [retrainFlds])) (Frame.wr (hf (by simp [retrainFlds])) (lanes.putPort (hu (by simp)) (hf (by simp [retrainFlds])))))))

/-- The collection of a port's sampler follows its owner by its mode alone. -/
theorem Frame.followOwner {us : List Part} {fs : List Fld} {d0 d : Dev} {c : Nat} (hf : TUNE_STATUS_MODE c ∈ fs) (h : Frame us fs d0 d) :
    Frame us fs d0 (d.followOwner c) := by
  unfold Dev.followOwner
  split
  · exact h
  · exact h.wr hf

/-! ### The retry limit -/

theorem strikeFlds_apart {src other : Nat} (h : other ≠ src) {F : Nat → Fld} (hF : F ∈ [STRIKE_RETIRED, STRIKE_PROBATION, STRIKE_STRIKES]) :
    ∀ f ∈ strikeFlds src, (F other).key ≠ f.key := by
  simp only [List.mem_cons, List.not_mem_nil, or_false] at hF
  simp only [strikeFlds, faultFlds, List.cons_append, List.nil_append, List.forall_mem_cons, List.not_mem_nil, false_imp_iff, implies_true, and_true]
  rcases hF with rfl | rfl | rfl <;>
    refine ⟨?_, ?_, ?_, ?_, ?_, ?_⟩ <;>
    simp only [STRIKE_RETIRED, STRIKE_PROBATION, STRIKE_STRIKES, STRIKE_DECAY_COUNT, FAULT_STATUS_COUNT, FAULT_STATUS_LAST_CODE,
      LOG_STATUS_LOG_QUEUE, LOSS_TOTAL] <;> omega

/-- The link's fields and the strike records lie apart. -/
theorem link_apart_strikes {g : Fld} (src : Nat) (hg : g.key < 1200000) : ∀ f ∈ strikeFlds src, g.key ≠ f.key := by
  simp only [strikeFlds, faultFlds, List.cons_append, List.nil_append, List.forall_mem_cons, List.not_mem_nil, false_imp_iff, implies_true, and_true,
    STRIKE_STRIKES, STRIKE_DECAY_COUNT, FAULT_STATUS_COUNT, FAULT_STATUS_LAST_CODE, LOG_STATUS_LOG_QUEUE, LOSS_TOTAL]
  omega

/-- A fault that one source bears leaves whether another bears one. -/
theorem Dev.bears_fault_other {d : Dev} {src other code : Nat} (h : d.bears src) (apart : other ≠ src) (bears : d.bears other) :
    (d.fault code transient [src]).bears other := by
  have charged : Frame faultParts (strikeFlds src) d (d.fault code transient [src]) :=
    Frame.fault_bears h (fun _ h => h) (fun _ h => h) (Frame.refl _ _ _)
  have limit : (d.fault code transient [src]).rd STRIKE_CFG_RETIRE = d.rd STRIKE_CFG_RETIRE :=
    charged.regs _ (by simp [strikeFlds, faultFlds, STRIKE_CFG_RETIRE, STRIKE_STRIKES, STRIKE_DECAY_COUNT, FAULT_STATUS_COUNT, FAULT_STATUS_LAST_CODE,
      LOG_STATUS_LOG_QUEUE, LOSS_TOTAL])
  rw [Dev.bears, charged.rd (strikeFlds_apart apart (by simp)), charged.rd (strikeFlds_apart apart (by simp)),
    charged.rd (strikeFlds_apart apart (by simp)), limit]
  exact bears

/-- A fault of two sources is one of each, in turn. -/
theorem Dev.fault_pair (d : Dev) (code cls a b : Nat) : d.fault code cls [a, b] = (d.fault code cls [a]).fault code cls [b] := rfl

/-- Settles O36: releasing drops the oldest frames; replaying counts one more sending of each; the limit retrains the port and keeps them. -/
theorem heldFramesAreReleasedOrReplayed : Obligations.HeldFramesAreReleasedOrReplayed := by
  unfold Obligations.HeldFramesAreReleasedOrReplayed
  rintro s p x hp alive rfl no_queue
  refine ⟨fun k i hk at_i => ⟨?_, fun below nak_room room => ?_⟩, fun pending => ?_, fun up held below room => ?_,
    fun up five lane0 lane1 bears0 bears1 => ?_⟩
  · refine Does.of_onDev rfl (by simp [Instr.wf, hp, hk]) ?_
    rw [Dev.ackRx, if_neg (by simp [alive]), at_i]
    dsimp only
    rw [Dev.releaseHeld, no_queue, Dev.flushPort_nil]
    exact ⟨Dev.port_putPort_same _ _ _, by simp⟩
  · refine Does.of_onDev (f := fun d => Dev.nakRx p k (d.readState (3 + p) [])) rfl (by simp [Instr.wf, hp, hk, upsetsOk]) ?_
    simp only [Dev.readState_nil]
    rw [Dev.nakRx_eq alive at_i no_queue below]
    have taken : ((s.dev.inc (LINK_ERR_NAK_RX p)).released p i).rd (LINK_RETRY_RETRIES p) = s.dev.rd (LINK_RETRY_RETRIES p) := by
      refine (Dev.rd_putPort_other _ ?_).trans (Dev.rd_inc_key _ ?_)
      · simp only [LINK_RETRY_RETRIES, LINK_STATE_REPLAY_FILL]; omega
      · simp only [LINK_RETRY_RETRIES, LINK_ERR_NAK_RX]; omega
    have sent : Frame [.choir] [LINK_RETRY_RETRIES p, LINK_FRAMES_TX_FRAMES_TX p, LINK_STATE_REPLAY_FILL p]
        ((s.dev.inc (LINK_ERR_NAK_RX p)).released p i) (((s.dev.inc (LINK_ERR_NAK_RX p)).released p i).resent p 0) :=
      Frame.resent (by simp) (fun _ h => h) (Frame.refl _ _ _)
    refine ⟨?_, ?_, (Dev.rd_resent_retries (by rw [taken]; exact room) 0).trans (by rw [taken]), ?_⟩
    · rw [Dev.resent_port, Dev.released_port]
      rfl
    · rw [sent.rd (by simp [LINK_ERR_NAK_RX, LINK_RETRY_RETRIES, LINK_FRAMES_TX_FRAMES_TX, LINK_STATE_REPLAY_FILL])]
      refine (Dev.rd_putPort_other _ ?_).trans (Dev.rd_inc_below _ nak_room)
      simp only [LINK_ERR_NAK_RX, LINK_STATE_REPLAY_FILL]; omega
    · exact Frame.resent (by simp) (by simp) (by simp [Dev.released])
  · refine Does.of_onDev rfl (by simp [Instr.wf, hp]) ?_
    rw [Dev.ackTimer]
    rw [if_pos (by simp [alive, pending])]
    exact ⟨Dev.port_putPort_same _ _ _, by simp⟩
  · refine Does.of_onDev (f := fun d => Dev.replayTimeout p (d.readState (3 + p) [])) rfl (by simp [Instr.wf, hp, upsetsOk]) ?_
    simp only [Dev.readState_nil]
    have run : s.dev.replayTimeout p = s.dev.resent p 0 := by
      rw [Dev.replayTimeout_eq alive up held, Dev.replay_of_below (fun h mem => below h (List.mem_of_mem_drop mem)), Dev.replayFrom_eq]
      exact List.length_pos_iff.2 held
    rw [run]
    exact ⟨Dev.resent_port _ _ _, Dev.rd_resent_retries room 0, Frame.resent (by simp) (fun _ h => h) (Frame.refl _ _ _)⟩
  · refine Does.of_onDev (f := fun d => Dev.replayTimeout p (d.readState (3 + p) [])) rfl (by simp [Instr.wf, hp, upsetsOk]) ?_
    simp only [Dev.readState_nil]
    have held : (s.dev.port p).held ≠ [] := by
      obtain ⟨h, mem, -⟩ := five
      exact List.ne_nil_of_mem mem
    have bears1' : (s.dev.fault 0x0805 transient [laneSource p 0]).bears (laneSource p 1) :=
      Dev.bears_fault_other bears0 (by simp [laneSource]) bears1
    have charged : Frame faultParts (strikeFlds (laneSource p 0) ++ strikeFlds (laneSource p 1)) s.dev
        ((s.dev.fault 0x0805 transient [laneSource p 0]).fault 0x0805 transient [laneSource p 1]) :=
      Frame.fault_bears bears1' (fun _ h => h) (List.subset_append_right _ _)
        (Frame.fault_bears bears0 (fun _ h => h) (List.subset_append_left _ _) (Frame.refl _ _ _))
    have lanes : [0, 1].filter (fun l => s.dev.rd (laneState p l) != 5) = [0, 1] := by
      simp [laneState, lane0, lane1]
    have limit : s.dev.retryLimit p =
        ((s.dev.fault 0x0805 transient [laneSource p 0]).fault 0x0805 transient [laneSource p 1]).retrainAll p := by
      rw [Dev.retryLimit, lanes]
      rfl
    rw [Dev.replayTimeout_eq alive up held, Dev.replay_of_limit five, limit]
    have ports := charged.parts .choir (by decide)
    have last : ((s.dev.fault 0x0805 transient [laneSource p 0]).fault 0x0805 transient [laneSource p 1]).rd FAULT_STATUS_LAST_CODE = 0x0805 :=
      Dev.rd_lastCode_fault_bears bears1' _ _
    have low0 : (LINK_STATE_LANE_STATE_0 p).key < 1200000 := by simp only [LINK_STATE_LANE_STATE_0]; omega
    have low1 : (LINK_STATE_LANE_STATE_1 p).key < 1200000 := by simp only [LINK_STATE_LANE_STATE_1]; omega
    have up0 : ((s.dev.fault 0x0805 transient [laneSource p 0]).fault 0x0805 transient [laneSource p 1]).rd (LINK_STATE_LANE_STATE_0 p) ≠ 5 := by
      rw [charged.rd (List.forall_mem_append.2 ⟨link_apart_strikes _ low0, link_apart_strikes _ low0⟩), lane0]
      decide
    have up1 : ((s.dev.fault 0x0805 transient [laneSource p 0]).fault 0x0805 transient [laneSource p 1]).rd (LINK_STATE_LANE_STATE_1 p) ≠ 5 := by
      rw [charged.rd (List.forall_mem_append.2 ⟨link_apart_strikes _ low1, link_apart_strikes _ low1⟩), lane1]
      decide
    generalize (s.dev.fault 0x0805 transient [laneSource p 0]).fault 0x0805 transient [laneSource p 1] = e at *
    obtain ⟨down, port, -, -⟩ := Dev.retrain_shows up0 up1
    have retrained : Frame [.choir, .writer] (retrainFlds p) e (e.retrain p) := Frame.retrain (fun _ h => h) (fun _ h => h) (Frame.refl _ _ _)
    have after : Frame [] [TUNE_STATUS_MODE (16 + 2 * p), TUNE_STATUS_MODE (17 + 2 * p)] (e.retrain p) (e.retrainAll p) :=
      Frame.followOwner (by simp) (Frame.followOwner (by simp) (Frame.refl _ _ _))
    refine ⟨?_, (after.rd ?_).trans down, ?_⟩
    · rw [after.rd (by simp [FAULT_STATUS_LAST_CODE, TUNE_STATUS_MODE]; omega), retrained.rd ?_, last]
      simp only [retrainFlds, List.forall_mem_cons, List.not_mem_nil, false_imp_iff, implies_true, and_true, FAULT_STATUS_LAST_CODE,
        LINK_STATE_LANE_STATE_0, LINK_STATE_LANE_STATE_1, LINK_STATE_REPLAY_FILL, LINK_STATE_CLOCK_LANE, LINK_STATE_STATE, LINK_RETRY_RETRAINS]
      omega
    · simp only [List.forall_mem_cons, List.not_mem_nil, false_imp_iff, implies_true, and_true, LINK_STATE_STATE, TUNE_STATUS_MODE]
      omega
    · have same : (e.retrainAll p).port p = (e.retrain p).port p :=
        congrArg (fun c : ChoirSt => Tab.read PortSt.fresh c.ports p) (after.parts .choir (by decide))
      rw [same, port]
      exact congrArg (fun c : ChoirSt => (Tab.read PortSt.fresh c.ports p).held) ports

/-! ### Steering by a SYNC -/

theorem Frame.chooseParent {us : List Part} {fs : List Fld} {d0 d : Dev} (hf : [CHOIR_STATUS_PARENT, CHOIR_STATUS_HOPS] ⊆ fs)
    (h : Frame us fs d0 d) : Frame us fs d0 d.chooseParent := (h.wr (hf (by simp))).wr (hf (by simp))

/-- The port with the receive stamp of a SYNC, and its neighbour's flags, noted. -/
def Dev.syncNoted (d : Dev) (p : Nat) (stamp : Option Nat) (m : Msg) : Dev :=
  d.putPort p { d.port p with rx := (d.syncStamp p (m.payload.getD 0 0) stamp :: (d.port p).rx).take 8, peer := some m.src,
                              peerFlags := m.payload.getD 2 0 }

/-- A member chooses its parent again after a SYNC; the cantor has none. -/
def Dev.parentChosen (d : Dev) : Dev := if d.isCantor then d else d.chooseParent

theorem Frame.parentChosen {us : List Part} {fs : List Fld} {d0 d : Dev} (hf : [CHOIR_STATUS_PARENT, CHOIR_STATUS_HOPS] ⊆ fs)
    (h : Frame us fs d0 d) : Frame us fs d0 d.parentChosen := by
  unfold Dev.parentChosen
  split
  · exact h
  · exact h.chooseParent hf

/-- What a SYNC does beside noting its stamp. -/
def Dev.exchanged (d : Dev) (p : Nat) (e : Option (F64 × F64)) (parent : Nat) : Dev :=
  match e with
  | none => d.inc (LINK_BAD_SYNC_DISC p)
  | some r => if parent = p + 1 then d.takeTheta r.1 r.2 else d

theorem Dev.syncRx_eq {d : Dev} {p : Nat} {stamp : Option Nat} {m : Msg} {rest : List Msg} (alive : d.choirAlive = true)
    (inbox : d.choir.inbox = m :: rest) (type : m.type = 0) (port : m.port = p) :
    d.syncRx p stamp false = (((d.took rest).syncNoted p stamp m).exchanged p (d.exchange p m) (d.rd CHOIR_STATUS_PARENT)).parentChosen := by
  rw [Dev.syncRx, Dev.process_head alive inbox (by simp [type, port])]
  rfl

theorem Dev.syncRx_unmatched {d : Dev} {p : Nat} {stamp : Option Nat} {m : Msg} {rest : List Msg} (alive : d.choirAlive = true)
    (inbox : d.choir.inbox = m :: rest) (type : m.type = 0) (port : m.port = p) (unmatched : d.exchange p m = none) :
    d.syncRx p stamp false = (((d.took rest).syncNoted p stamp m).inc (LINK_BAD_SYNC_DISC p)).parentChosen := by
  rw [Dev.syncRx_eq alive inbox type port, unmatched, Dev.exchanged]

theorem Dev.syncRx_matched {d : Dev} {p : Nat} {stamp : Option Nat} {m : Msg} {rest : List Msg} {theta delay : F64} (alive : d.choirAlive = true)
    (inbox : d.choir.inbox = m :: rest) (type : m.type = 0) (port : m.port = p) (matched : d.exchange p m = some (theta, delay))
    (parent : d.rd CHOIR_STATUS_PARENT = p + 1) :
    d.syncRx p stamp false = (((d.took rest).syncNoted p stamp m).takeTheta theta delay).parentChosen := by
  rw [Dev.syncRx_eq alive inbox type port, matched, Dev.exchanged]
  exact congrArg Dev.parentChosen (if_pos parent)

/-- θ and the delay of an exchange are shown. -/
def Dev.thetaShown (d : Dev) (theta delay : F64) : Dev :=
  ((d.putChoir { d.choir with shown := theta }).wr CHOIR_THETA_VALUE (signedSat32 theta)).wr CHOIR_DELAY_VALUE
    (if f64Neg delay || !f64IsFinite delay then 0 else min (2 ^ 32 - 1) (f64ToIntEven delay).toNat)

/-- The choir unit with θ kept as the last one, within its limits. -/
def Dev.thetaKept (d : Dev) (theta : F64) : Dev := d.putChoir { d.choir with theta := some theta, bad := 0 }

/-- The device has steered by θ, which is within its limits. -/
def Dev.steered (d : Dev) (theta : F64) : Dev := (d.steerBy theta (d.choir.theta.getD theta)).thetaKept theta

theorem Dev.putChoir_thetaKept (d : Dev) (theta : F64) : (d.putChoir { d.choir with theta := some theta }).putChoir
    { (d.putChoir { d.choir with theta := some theta }).choir with bad := 0 } = d.thetaKept theta := rfl

theorem Dev.steerBy_choirState (d : Dev) (theta prev : F64) : (d.steerBy theta prev).choirState = d.choirState :=
  Dev.rd_wr_key _ _ (by decide)

/-- A JOINED device steers by an offset within the limits and stays JOINED. -/
theorem Dev.steerTheta_joined {d : Dev} {theta : F64} (joined : d.choirState = 3) (near : within theta 100 = true)
    (nearer : within theta 1000 = true) : d.steerTheta theta = d.steered theta := by
  have state := (d.steerBy_choirState theta (d.choir.theta.getD theta)).trans joined
  rw [Dev.steerTheta, Dev.steered, near, nearer]
  generalize d.steerBy theta (d.choir.theta.getD theta) = e at state ⊢
  have state' : (e.putChoir { e.choir with theta := some theta }).choirState = 3 := by
    rw [Dev.choirState, Dev.putChoir_rd]
    exact state
  dsimp only
  rw [if_neg (by rw [state']; decide), if_neg (by decide), if_pos rfl, if_neg (by decide)]
  exact Dev.putChoir_thetaKept e theta

theorem Dev.thetaShown_choirState (d : Dev) (theta delay : F64) : (d.thetaShown theta delay).choirState = d.choirState := by
  rw [Dev.choirState, Dev.thetaShown, Dev.rd_wr_key _ _ (by decide), Dev.rd_wr_key _ _ (by decide), Dev.putChoir_rd, Dev.choirState]

theorem Dev.takeTheta_joined {d : Dev} {theta : F64} (joined : d.choirState = 3) (near : within theta 100 = true) (nearer : within theta 1000 = true)
    (delay : F64) : d.takeTheta theta delay = (d.thetaShown theta delay).steered theta := by
  have shown := (d.thetaShown_choirState theta delay).trans joined
  rw [← Dev.steerTheta_joined shown near nearer]
  unfold Dev.takeTheta Dev.thetaShown at *
  simp only [shown]

theorem Dev.rd_steerBy_congr {d e : Dev} (h : e.rd CHOIR_STEER_S = d.rd CHOIR_STEER_S) (theta prev : F64) :
    (e.steerBy theta prev).rd CHOIR_STEER_S = (d.steerBy theta prev).rd CHOIR_STEER_S := by
  simp only [Dev.steerBy, Dev.steer, h, Dev.rd_wr_same]

theorem signedSat32_lt (x : F64) : signedSat32 x < 2 ^ 32 := by
  unfold signedSat32 ofSigned
  generalize max (-2147483648 : Int) _ = i
  omega

/-- The fields that steering by an offset writes. -/
def steerFlds : List Fld := [CHOIR_THETA_VALUE, CHOIR_DELAY_VALUE, CHOIR_STEER_S]

theorem Frame.steered {us : List Part} {fs : List Fld} {d0 d : Dev} {theta : F64} (hu : Part.choir ∈ us) (hf : CHOIR_STEER_S ∈ fs)
    (h : Frame us fs d0 d) : Frame us fs d0 (d.steered theta) := Frame.choir hu (h.wr hf)

theorem Frame.thetaShown {us : List Part} {fs : List Fld} {d0 d : Dev} {theta delay : F64} (hu : Part.choir ∈ us)
    (hf : [CHOIR_THETA_VALUE, CHOIR_DELAY_VALUE] ⊆ fs) (h : Frame us fs d0 d) : Frame us fs d0 (d.thetaShown theta delay) :=
  ((h.choir hu).wr (hf (by simp))).wr (hf (by simp))

/-- What a device that has steered shows. -/
theorem Dev.steered_shows (d : Dev) (theta delay : F64) :
    ((d.thetaShown theta delay).steered theta).rd CHOIR_THETA_VALUE = signedSat32 theta ∧
      ((d.thetaShown theta delay).steered theta).rd CHOIR_STEER_S = (d.steerBy theta (d.choir.theta.getD theta)).rd CHOIR_STEER_S ∧
      ((d.thetaShown theta delay).steered theta).choirState = d.choirState := by
  have kept : Frame [.choir] [CHOIR_STEER_S] (d.thetaShown theta delay) ((d.thetaShown theta delay).steered theta) :=
    Frame.steered (by simp) (by simp) (Frame.refl _ _ _)
  refine ⟨(kept.rd (by decide)).trans ?_, ?_, ?_⟩
  · rw [Dev.thetaShown, Dev.rd_wr_key _ _ (by decide), Dev.rd_wr_same]
    exact Nat.mod_eq_of_lt (signedSat32_lt theta)
  · rw [Dev.steered, Dev.thetaKept, Dev.putChoir_rd]
    refine Dev.rd_steerBy_congr (e := d.thetaShown theta delay) ?_ theta (d.choir.theta.getD theta)
    rw [Dev.thetaShown, Dev.rd_wr_key _ _ (by decide), Dev.rd_wr_key _ _ (by decide), Dev.putChoir_rd]
  · rw [Dev.choirState, kept.rd (by decide)]
    exact d.thetaShown_choirState theta delay

/-- Settles O38: without a matching exchange the SYNC is only counted and noted; with one the device steers by its offset. -/
theorem syncSteersTheDevice : Obligations.SyncSteersTheDevice := by
  unfold Obligations.SyncSteersTheDevice
  refine ⟨fun s p stamp m rest hp ht alive inbox type port => ⟨fun unmatched room => ?_, fun th de matched parent joined near nearer => ?_⟩,
    fun s alive => ?_⟩
  · refine Does.of_onDev rfl (by simp [Instr.wf, hp]) ?_
    rw [Dev.syncRx_unmatched alive inbox type port unmatched]
    have chosen : Frame [] [CHOIR_STATUS_PARENT, CHOIR_STATUS_HOPS] (((s.dev.took rest).syncNoted p stamp m).inc (LINK_BAD_SYNC_DISC p))
        (((s.dev.took rest).syncNoted p stamp m).inc (LINK_BAD_SYNC_DISC p)).parentChosen := Frame.parentChosen (fun _ h => h) (Frame.refl _ _ _)
    have choir := chosen.parts .choir (by simp)
    have noted : ((s.dev.took rest).syncNoted p stamp m).rd (LINK_BAD_SYNC_DISC p) = s.dev.rd (LINK_BAD_SYNC_DISC p) :=
      Dev.rd_putPort_other _ (by simp only [LINK_BAD_SYNC_DISC, LINK_STATE_REPLAY_FILL]; omega)
    have at_port : ((((s.dev.took rest).syncNoted p stamp m).inc (LINK_BAD_SYNC_DISC p)).parentChosen).port p =
        ((s.dev.took rest).syncNoted p stamp m).port p := congrArg (fun c : ChoirSt => Tab.read PortSt.fresh c.ports p) choir
    refine ⟨congrArg ChoirSt.inbox choir, ?_, ?_, ?_, (congrArg ChoirSt.theta choir).trans rfl, ?_⟩
    · rw [chosen.rd (by simp [LINK_BAD_SYNC_DISC, CHOIR_STATUS_PARENT, CHOIR_STATUS_HOPS]; omega), Dev.rd_inc_below _ (by rw [noted]; exact room), noted]
    · rw [at_port, Dev.syncNoted, Dev.port_putPort_same]
    · rw [at_port, Dev.syncNoted, Dev.port_putPort_same]
      rfl
    · exact Frame.parentChosen (by simp) (by simp [Dev.syncNoted])
  · refine Does.of_onDev rfl (by simp [Instr.wf, hp]) ?_
    have joined' : ((s.dev.took rest).syncNoted p stamp m).choirState = 3 :=
      (Dev.rd_putPort_other _ (by simp only [CHOIR_STATUS_STATE, LINK_STATE_REPLAY_FILL]; omega)).trans joined
    have steer : ((s.dev.took rest).syncNoted p stamp m).rd CHOIR_STEER_S = s.dev.rd CHOIR_STEER_S :=
      Dev.rd_putPort_other _ (by simp only [CHOIR_STEER_S, LINK_STATE_REPLAY_FILL]; omega)
    rw [Dev.syncRx_matched alive inbox type port matched parent, Dev.takeTheta_joined joined' near nearer]
    obtain ⟨theta, steered, state⟩ := ((s.dev.took rest).syncNoted p stamp m).steered_shows th de
    have chosen : Frame [] [CHOIR_STATUS_PARENT, CHOIR_STATUS_HOPS] ((((s.dev.took rest).syncNoted p stamp m).thetaShown th de).steered th)
        ((((s.dev.took rest).syncNoted p stamp m).thetaShown th de).steered th).parentChosen := Frame.parentChosen (fun _ h => h) (Frame.refl _ _ _)
    have choir := chosen.parts .choir (by simp)
    refine ⟨congrArg ChoirSt.inbox choir, (chosen.rd (by decide)).trans theta, congrArg ChoirSt.theta choir, congrArg ChoirSt.bad choir,
      (chosen.rd (by decide)).trans (steered.trans (Dev.rd_steerBy_congr steer _ _)), (chosen.rd (by decide)).trans (state.trans joined'), ?_⟩
    exact Frame.parentChosen (by simp) (Frame.steered (by simp) (by simp) (Frame.thetaShown (by simp) (by simp) (by simp [Dev.syncNoted])))
  · refine Does.of_onDev rfl rfl ?_
    rw [Dev.thetaTimeout, if_pos alive]
    exact ⟨rfl, by simp⟩

/-! ### The cantor's role -/

/-- The device with the cantor of a TIME message taken for its own. -/
def Dev.cantorTaken (d : Dev) (m : Msg) : Dev :=
  { ((d.wr CHOIR_STATUS_CEPOCH m.cepoch).wr CHOIR_STATUS_CANTOR m.src).putChoir { d.choir with
      time := some { epoch := intAt m.payload 2 2, pseq := intAt m.payload 4 4, bound := intAt m.payload 8 8, eps := f64At m.payload 16 } } with
    time := { d.time with epsCantor := f64At m.payload 16 } }

/-- A device whose cantor's hashes are not known yet does not compare them. -/
theorem Dev.checkCantor_of_unhashed {d : Dev} (h : (d.peer (d.rd CHOIR_STATUS_CANTOR)).hashed = false) : d.checkCantor = d := by
  rw [Dev.checkCantor]
  exact if_pos (.inr (.inr (.inr (by simp [h]))))

theorem Dev.cantorTaken_rd (d : Dev) (m : Msg) {g : Fld} (h : g.key ≠ CHOIR_STATUS_CEPOCH.key ∧ g.key ≠ CHOIR_STATUS_CANTOR.key) :
    (d.cantorTaken m).rd g = d.rd g := (Dev.rd_wr_key _ _ h.2).trans (Dev.rd_wr_key _ _ h.1)

theorem Frame.cantorTaken {us : List Part} {fs : List Fld} {d0 d : Dev} {m : Msg} (hu : [Part.choir, Part.time] ⊆ us)
    (hf : [CHOIR_STATUS_CEPOCH, CHOIR_STATUS_CANTOR] ⊆ fs) (h : Frame us fs d0 d) : Frame us fs d0 (d.cantorTaken m) :=
  Frame.time (hu (by simp)) (Frame.putChoir (hu (by simp)) ((h.wr (hf (by simp))).wr (hf (by simp))))

/-- A listening device that knows no cantor yet takes an acceptable one. -/
theorem Dev.acceptTime_listening {d : Dev} {m : Msg} (listening : d.choirState = 0) (first : d.choir.time = none) (src : m.src < 16)
    (unhashed : (d.peer m.src).hashed = false) : d.acceptTime m = d.cantorTaken m := by
  have state : (d.cantorTaken m).rd CHOIR_STATUS_STATE = 0 := (d.cantorTaken_rd m (by decide)).trans listening
  have alone : (d.cantorTaken m).followsCantor = false := by rw [Dev.followsCantor, state]; decide
  have cantor : (d.cantorTaken m).rd CHOIR_STATUS_CANTOR = m.src :=
    (Dev.rd_wr_same _ CHOIR_STATUS_CANTOR _).trans (Nat.mod_eq_of_lt src)
  have unchecked : (d.cantorTaken m).checkCantor = d.cantorTaken m := Dev.checkCantor_of_unhashed (by rw [cantor]; exact unhashed)
  have not_cantor : (d.choirState == 4) = false := by rw [listening]; rfl
  rw [Dev.acceptTime, not_cantor, first]
  simp only [Option.isSome_none, Bool.false_and, Bool.or_self, Bool.and_false, Bool.false_eq_true, if_false]
  refine (congrArg Dev.checkCantor (if_neg fun h => ?_)).trans unchecked
  have follows : (d.cantorTaken m).followsCantor = true := (Bool.and_eq_true_iff.1 h).1
  rw [alone] at follows
  exact Bool.false_ne_true follows

/-- A single event touches its own bit. -/
theorem Frame.choirEvent_single {us : List Part} {fs : List Fld} {d0 d : Dev} {f : Fld} {i : Nat} (mem : (f, i) ∈ choirEventFlds.zipIdx)
    (hu : faultParts ⊆ us) (hf : [f, LOG_STATUS_LOG_QUEUE, LOSS_TOTAL] ⊆ fs) (h : Frame us fs d0 d) : Frame us fs d0 (d.choirEvent (2 ^ i)) := by
  rw [Dev.choirEvent_single mem]
  split
  · exact h
  · exact Frame.log (fun p hp => hu (by revert p; decide)) (List.cons_subset.1 hf).2
      (Frame.notify (fun p hp => hu (by revert p; decide)) (h.wr (hf (by simp))))

theorem Frame.followOcxo {us : List Part} {fs : List Fld} {d0 d : Dev} (hu : Part.time ∈ us)
    (hf : [TB_STATUS_OCXO_STATE, TB_STATUS_STAB_COUNT] ⊆ fs) (h : Frame us fs d0 d) : Frame us fs d0 d.followOcxo := by
  have state : TB_STATUS_OCXO_STATE ∈ fs := hf (by simp)
  have count : TB_STATUS_STAB_COUNT ∈ fs := hf (by simp)
  unfold Dev.followOcxo
  dsimp only
  split
  · split
    · exact (h.time hu).wr state
    · exact h
  · split
    · exact h
    · exact ((h.time hu).wr state).wr count

/-- The registers of a device that claims the cantor's role from LISTEN. -/
def Dev.roleShown (d : Dev) (e : Nat) : Dev :=
  d |>.wr CHOIR_STATUS_CEPOCH e |>.wr CHOIR_STATUS_CANTOR d.addr |>.wr CHOIR_STATUS_HOPS 0 |>.wr CHOIR_STATUS_PARENT 0
    |>.wr CHOIR_STATUS_HOLDOVER 0

/-- The device as it enters the cantor's state from LISTEN. -/
def Dev.roleTaken (d : Dev) (e : Nat) : Dev :=
  ((d.roleShown e).wr CHOIR_STATUS_STATE 4).putChoir { d.choir with topEpoch := e, theta := none, realigning := false, run := 0, bad := 0 }

/-- The fields that a claim from LISTEN shows. -/
def roleFlds : List Fld := [CHOIR_STATUS_STATE, CHOIR_STATUS_CEPOCH, CHOIR_STATUS_CANTOR, CHOIR_STATUS_HOLDOVER, CHOIR_STATUS_HOPS,
  CHOIR_STATUS_PARENT]

theorem Frame.roleTaken {us : List Part} {fs : List Fld} {d0 d : Dev} {e : Nat} (hu : Part.choir ∈ us) (hf : roleFlds ⊆ fs)
    (h : Frame us fs d0 d) : Frame us fs d0 (d.roleTaken e) := by
  have mem (f : Fld) (m : f ∈ roleFlds) : f ∈ fs := hf m
  refine Frame.putChoir hu ((((((h.wr (mem _ ?_)).wr (mem _ ?_)).wr (mem _ ?_)).wr (mem _ ?_)).wr (mem _ ?_)).wr (mem _ ?_)) <;>
    simp [roleFlds]

/-- The cantor's state is entered from LISTEN without JOIN or UNJOIN. -/
theorem Dev.enterState_cantor {d : Dev} (listening : d.choirState = 0) :
    d.enterState 4 = (d.wr CHOIR_STATUS_STATE 4).putChoir { d.choir with run := 0, bad := 0 } := by
  rw [Dev.enterState, listening]
  exact Dev.choirEvent_zero _

/-- A claim from LISTEN: the event and the fault of the new role follow, the reference is planned anew, and a TIME is sent. -/
theorem Dev.claimTime_eq {d : Dev} {e : Nat} (alive : d.choirAlive = true) (listening : d.choirState = 0) (several : 1 < d.deviceCount)
    (ranked : (d.rankOf d.addr).isSome = true)
    (he : e = ((if after16 d.choir.topEpoch (d.rd CHOIR_STATUS_CEPOCH) = true then d.choir.topEpoch else d.rd CHOIR_STATUS_CEPOCH) + 1) % 65536) :
    d.claimTime = ((((((d.roleTaken e).choirEvent (2 ^ 0)).fault 0x0820 reportOnly []).followOcxo).planSwitch).sendTime true).commitStaged := by
  have state : (d.roleShown e).choirState = 0 := by
    rw [Dev.choirState, Dev.roleShown]
    simp (disch := decide) only [Dev.rd_wr_key]
    exact listening
  have entered : ((d.roleShown e).putChoir { (d.roleShown e).choir with topEpoch := e, theta := none, realigning := false }).enterState 4 =
      d.roleTaken e := Dev.enterState_cantor state
  have has_rank : (d.rankOf d.addr).isNone = false := by simpa using ranked
  have not_joined : (d.choirState == 3) = false := by rw [listening]; rfl
  rw [← entered, Dev.claimTime]
  dsimp only
  rw [if_neg (by simp [alive, listening, has_rank, Nat.not_le.2 several]), not_joined, ← he]
  rfl

theorem Dev.roleTaken_shows (d : Dev) {e : Nat} (small : e < 65536) :
    (d.roleTaken e).rd CHOIR_STATUS_STATE = 4 ∧ (d.roleTaken e).rd CHOIR_STATUS_CEPOCH = e ∧ (d.roleTaken e).rd CHOIR_STATUS_CANTOR = d.addr % 16 ∧
      (d.roleTaken e).rd CHOIR_STATUS_HOLDOVER = 0 ∧ (d.roleTaken e).rd CHOIR_STATUS_HOPS = 0 := by
  unfold Dev.roleTaken
  simp only [Dev.putChoir_rd]
  refine ⟨Dev.rd_wr_same _ CHOIR_STATUS_STATE _, ?_, ?_, ?_, ?_⟩ <;> rw [Dev.rd_wr_key _ _ (by decide), Dev.roleShown]
  · simp (disch := decide) only [Dev.rd_wr_key]
    exact (Dev.rd_wr_same _ CHOIR_STATUS_CEPOCH _).trans (Nat.mod_eq_of_lt small)
  · simp (disch := decide) only [Dev.rd_wr_key]
    exact Dev.rd_wr_same _ CHOIR_STATUS_CANTOR _
  · exact Dev.rd_wr_same _ CHOIR_STATUS_HOLDOVER _
  · simp (disch := decide) only [Dev.rd_wr_key]
    exact Dev.rd_wr_same _ CHOIR_STATUS_HOPS _

/-- Whether a device may speak is read from its declared devices and its power state. -/
theorem Frame.speaks {us : List Part} {fs : List Fld} {d e : Dev} (h : Frame us fs d e) (devices : ∀ f ∈ fs, CHOIR_DEVICES_MASK.key ≠ f.key)
    (mode : ∀ f ∈ fs, POWER_STATUS_STATE.key ≠ f.key) (speaks : d.speaks = true) : e.speaks = true := by
  rw [Dev.speaks, Dev.deviceCount, Dev.mode, h.rd devices, h.rd mode]
  exact speaks

theorem Dev.speaks_of_choirAlive {d : Dev} (alive : d.choirAlive = true) (several : 1 < d.deviceCount) : d.speaks = true := by
  rw [Dev.choirAlive, Dev.linkAlive] at alive
  simp only [Bool.and_eq_true] at alive
  obtain ⟨⟨-, not_standby⟩, not_safe⟩ := alive
  simp [Dev.speaks, several, not_standby, not_safe]

/-- Settles O39: the TIME of a first cantor is noted; a claim takes the role, records it and sends a TIME. -/
theorem cantorIsFollowedOrClaimed : Obligations.CantorIsFollowedOrClaimed := by
  unfold Obligations.CantorIsFollowedOrClaimed
  refine ⟨fun s m rest alive inbox type => ⟨fun listening accepted first epoch src unhashed => ?_, fun refused stale room => ?_⟩,
    fun s e alive listening several ranked idle unset he => ?_, fun s a ha alive => ?_⟩
  · refine Does.of_onDev rfl rfl ?_
    have run : s.dev.timeRx = (s.dev.took rest).acceptTime m := by
      rw [Dev.timeRx, Dev.process_head alive inbox (by simp [type])]
      exact if_pos accepted
    rw [run, Dev.acceptTime_listening (d := s.dev.took rest) listening first src unhashed]
    refine ⟨rfl, ?_, ?_, rfl, rfl, Frame.cantorTaken (by simp) (fun _ h => h) (by simp)⟩
    · exact (Dev.rd_wr_key _ _ (by decide)).trans ((Dev.rd_wr_same _ CHOIR_STATUS_CEPOCH _).trans (Nat.mod_eq_of_lt epoch))
    · exact (Dev.rd_wr_same _ CHOIR_STATUS_CANTOR _).trans (Nat.mod_eq_of_lt src)
  · refine Does.of_onDev rfl rfl ?_
    have run : s.dev.timeRx = (s.dev.took rest).dropStale := by
      rw [Dev.timeRx, Dev.process_head alive inbox (by simp [type])]
      exact (if_neg (Bool.eq_false_iff.1 refused)).trans (if_pos stale)
    rw [run]
    exact ⟨rfl, Dev.rd_inc_below (d := s.dev) room, by simp [Dev.dropStale]⟩
  · refine Does.of_onDev rfl rfl ?_
    have taken : Frame [.choir] roleFlds s.dev (s.dev.roleTaken e) := Frame.roleTaken (by simp) (fun _ h => h) (Frame.refl _ _ _)
    obtain ⟨state, epoch, cantor, holdover, hops⟩ := s.dev.roleTaken_shows (e := e) (by omega)
    have raised : Frame faultParts [CHOIR_EVENT_ROLE, LOG_STATUS_LOG_QUEUE, LOSS_TOTAL] (s.dev.roleTaken e) ((s.dev.roleTaken e).choirEvent (2 ^ 0)) :=
      Frame.choirEvent_single (by decide) (fun _ h => h) (fun _ h => h) (Frame.refl _ _ _)
    have recorded : Frame faultParts faultFlds ((s.dev.roleTaken e).choirEvent (2 ^ 0))
        (((s.dev.roleTaken e).choirEvent (2 ^ 0)).fault 0x0820 reportOnly []) := Frame.fault_none (fun _ h => h) (fun _ h => h) (Frame.refl _ _ _)
    have event : ((s.dev.roleTaken e).choirEvent (2 ^ 0)).is CHOIR_EVENT_ROLE = true := Dev.is_choirEvent_single (by decide)
    have last : (((s.dev.roleTaken e).choirEvent (2 ^ 0)).fault 0x0820 reportOnly []).rd FAULT_STATUS_LAST_CODE = 0x0820 :=
      Dev.rd_lastCode_fault_none _ _ _ _
    have planned : Frame [.time] [TB_STATUS_OCXO_STATE, TB_STATUS_STAB_COUNT] (((s.dev.roleTaken e).choirEvent (2 ^ 0)).fault 0x0820 reportOnly [])
        (((s.dev.roleTaken e).choirEvent (2 ^ 0)).fault 0x0820 reportOnly []).followOcxo.planSwitch :=
      Frame.time (by simp) (Frame.followOcxo (by simp) (fun _ h => h) (Frame.refl _ _ _))
    have run := Dev.claimTime_eq alive listening several ranked he
    generalize ((s.dev.roleTaken e).choirEvent (2 ^ 0)).fault 0x0820 reportOnly [] = f at *
    generalize f.followOcxo.planSwitch = g at *
    have before : Frame ([Part.time] ++ faultParts) ([CHOIR_EVENT_ROLE, TB_STATUS_OCXO_STATE, TB_STATUS_STAB_COUNT] ++ faultFlds) (s.dev.roleTaken e) g :=
      (raised.mono (by simp) (by simp [faultFlds])).trans ((recorded.mono (by simp) (by simp [faultFlds])).trans (planned.mono (by simp) (by simp)))
    have speaks : g.speaks = true := before.speaks (by decide) (by decide) (taken.speaks (by decide) (by decide) (Dev.speaks_of_choirAlive alive several))
    have sent : Frame [.choir, .writer] sendFlds g (g.sendTime true) := Frame.send (fun _ h => h) (fun _ h => h) (Frame.refl _ _ _)
    have unstaged : (g.sendTime true).rd APPLY_STATUS_STATE ≠ 2 := by
      rw [sent.rd (by decide), before.rd (by decide), taken.rd (by decide), idle]
      decide
    obtain ⟨-, ports, choir⟩ := Dev.send_of_speaks speaks 1 0 true _
    rw [run, Dev.commitStaged, if_pos unstaged]
    refine ⟨(sent.rd (by decide)).trans ((before.rd (by decide)).trans state), (sent.rd (by decide)).trans ((before.rd (by decide)).trans epoch),
      (sent.rd (by decide)).trans ((before.rd (by decide)).trans cantor), (sent.rd (by decide)).trans ((before.rd (by decide)).trans holdover),
      (sent.rd (by decide)).trans ((before.rd (by decide)).trans hops), ?_, ?_, ?_, ?_⟩
    · rw [sent.is (by decide), planned.is (by decide), recorded.is (by decide)]
      exact event
    · rw [sent.rd (by decide), planned.rd (by decide)]
      exact last
    · refine (congrArg ChoirSt.mseq choir).trans ?_
      rw [before.parts .choir (by decide)]
      rfl
    · exact (taken.mono (by simp) (by simp [roleFlds])).trans ((before.mono (by simp) (by simp [faultFlds])).trans
        (sent.mono (by simp [faultParts]) (by simp [sendFlds])))
  · refine Does.of_onDev rfl (by simp [Instr.wf, ha]) ?_
    rw [Dev.aliveLapse, if_pos alive]
    exact ⟨Dev.rd_wr_same _ CHOIR_ALIVE_ALIVE _, by simp⟩

end Sys2Proof.Machine
end

/-! PROOFS: the calendar. -/
section

namespace Sys2Proof.Machine

open Reg

/-! ### What the calendar reads -/

section

variable {us : List Part} {fs : List Fld} {d e : Dev}

theorem Frame.epsKnown (h : Frame us fs d e) (power : Part.power ∉ us) (configured : ∀ f ∈ fs, CFG_STATUS_CONFIGURED.key ≠ f.key) :
    e.epsKnown = d.epsKnown := by
  rw [Dev.epsKnown, Dev.epsKnown, Dev.booted, Dev.booted, h.is configured, h.parts .power power]

theorem Frame.alive (h : Frame us fs d e) (power : Part.power ∉ us) : e.alive = d.alive := by
  rw [Dev.alive, Dev.alive, h.parts .power power]

theorem Frame.timeNow (h : Frame us fs d e) (time : Part.time ∉ us) (gated : ∀ f ∈ fs, TB_STATUS_GATED.key ≠ f.key) : e.timeNow = d.timeNow := by
  rw [Dev.timeNow, Dev.timeNow, Dev.coarse, Dev.coarse, h.is gated, h.parts .time time]

end

/-! ### A change of the calendar while ε is not in use -/

theorem Frame.logAge {us : List Part} {fs : List Fld} {d0 d : Dev} (hu : [Part.logQueue, Part.logLost] ⊆ us)
    (hf : [LOG_STATUS_LOG_QUEUE, LOSS_TOTAL] ⊆ fs) (h : Frame us fs d0 d) : Frame us fs d0 d.logAge := Frame.log hu hf h

/-- Without ε in use a change of the calendar at most queues a record. -/
theorem Dev.calendarChanged_of_unknown {d : Dev} (unknown : d.epsKnown = false) (old : Nat) (became : Bool) :
    d.calendarChanged old became = d ∨ d.calendarChanged old became = d.logAge := by
  unfold Dev.calendarChanged
  simp only [unknown, Bool.false_and, Bool.false_eq_true, if_false]
  split
  · exact .inl rfl
  · split
    · exact .inr rfl
    · exact .inl rfl

theorem Frame.calendarChanged {us : List Part} {fs : List Fld} {d0 d : Dev} {old : Nat} {became : Bool} (unknown : d.epsKnown = false)
    (hu : [Part.logQueue, Part.logLost] ⊆ us) (hf : [LOG_STATUS_LOG_QUEUE, LOSS_TOTAL] ⊆ fs) (h : Frame us fs d0 d) :
    Frame us fs d0 (d.calendarChanged old became) := by
  rcases d.calendarChanged_of_unknown unknown old became with same | logged
  · rwa [same]
  · rw [logged]
    exact h.logAge hu hf

/-- A record waits on while another kind is queued. -/
theorem Dev.mem_queueLog {d : Dev} {r x : LogRec} (mem : r ∈ d.logQueue) (apart : r.kind ≠ x.kind) : r ∈ (d.queueLog x).logQueue := by
  have replaced : ∀ (l q : List LogRec), r ∈ l → replaceKind x l = some q → r ∈ q := by
    intro l
    induction l with
    | nil => exact fun q h => absurd h List.not_mem_nil
    | cons y l ih =>
      intro q h run
      rw [replaceKind] at run
      split at run
      · next same =>
        obtain rfl := Option.some.inj run
        rcases List.mem_cons.1 h with rfl | tail
        · exact absurd same apart
        · exact List.mem_cons_of_mem _ tail
      · obtain ⟨q', inner, rfl⟩ := Option.map_eq_some_iff.1 run
        rcases List.mem_cons.1 h with rfl | tail
        · exact List.mem_cons_self
        · exact List.mem_cons_of_mem _ (ih q' tail inner)
  unfold Dev.queueLog
  dsimp only
  split
  · next q swapped =>
    split at swapped
    · exact replaced _ q mem swapped
    · exact absurd swapped (by simp)
  · split
    · exact mem
    · exact List.mem_append_left _ mem

/-! ### The calendar's operations -/

/-- KCK runs: the stop that was noted is over. -/
def Dev.kckRuns (d : Dev) : Dev := { d with calst := { d.calst with stopped := false } }

theorem Dev.captureSecond_of_alive {d : Dev} (alive : d.alive = true) : d.captureSecond = d.wr CAL_SECOND_TIME d.timeNow := by
  rw [Dev.captureSecond, if_pos alive]

theorem Dev.calendarSecond_of_running {d : Dev} (backup : d.power.backup = true) (running : d.cal ≠ calLast) :
    d.calendarSecond = ((d.kckRuns.putCal (calNext d.cal)).captureSecond).calendarChanged d.cal false := by
  rw [Dev.calendarSecond, if_neg (by simp [backup])]
  exact if_neg running

theorem Dev.calendarSecond_of_last {d : Dev} (backup : d.power.backup = true) (last : d.cal = calLast) (alive : d.alive = true) :
    d.calendarSecond = if d.is CAL_STATUS_END then d.kckRuns else (d.kckRuns.wr CAL_STATUS_END 1).fault 0x0A04 reportOnly [] := by
  rw [Dev.calendarSecond, if_neg (by simp [backup])]
  exact (if_pos last).trans (if_congr Iff.rfl rfl (if_pos alive))

/-- The stop of KCK is noted and shown. -/
theorem Dev.kckStop_of_unknown {d : Dev} (alive : d.alive = true) (unknown : d.epsKnown = false) :
    d.kckStop = (({ d with calst := { d.calst with stopped := true } } : Dev).wr CAL_STATUS_VALID 0 |>.wr CAL_STATUS_KCK_STOP 1).fault 0x0A02
      reportOnly [] := by
  have kept : Frame ([Part.calst] ++ faultParts) ([CAL_STATUS_VALID, CAL_STATUS_KCK_STOP] ++ faultFlds) d
      ((({ d with calst := { d.calst with stopped := true } } : Dev).wr CAL_STATUS_VALID 0 |>.wr CAL_STATUS_KCK_STOP 1).fault 0x0A02 reportOnly []) :=
    Frame.fault_none (by simp) (by simp) (Frame.wr (by simp) (Frame.wr (by simp) (Frame.calst (by simp) (Frame.refl _ _ _))))
  have unknown' := (kept.epsKnown (by decide) (by decide)).trans unknown
  rw [Dev.kckStop]
  exact (if_pos alive).trans (if_neg (by rw [unknown']; decide))

/-- The second that the calendar counts is shown. -/
theorem Dev.captured_shows (d : Dev) (n : Nat) : ((d.putCal n).wr CAL_SECOND_TIME (d.putCal n).timeNow).rd CAL_NOW_CAL = n % 2 ^ 60 ∧
    ((d.putCal n).wr CAL_SECOND_TIME (d.putCal n).timeNow).rd CAL_SECOND_TIME = d.timeNow % 2 ^ 64 := by
  have now : (d.putCal n).timeNow = d.timeNow :=
    (Frame.wr (f := CAL_NOW_CAL) (by simp) (Frame.refl [] [CAL_NOW_CAL] d)).timeNow (by simp) (by decide)
  refine ⟨?_, ?_⟩
  · rw [Dev.rd_wr_key _ _ (by decide)]
    refine (Dev.rd_wr_same _ CAL_NOW_CAL _).trans (Nat.mod_eq_of_lt ?_)
    show n % 2 ^ 60 < 2 ^ 64
    omega
  · rw [now]
    exact Dev.rd_wr_same _ CAL_SECOND_TIME _

theorem Dev.rejectCal_shows (d : Dev) (c : Nat) {r : Nat} (small : r < 4) : (d.rejectCal c r).rd CAL_STATUS_REJECT = 1 ∧
    (d.rejectCal c r).rd CAL_STATUS_REJ_REASON = r ∧ (d.rejectCal c r).rd FAULT_STATUS_LAST_CODE = 0x0A03 := by
  have kept : Frame faultParts faultFlds ((d.wr CAL_STATUS_REJECT 1).wr CAL_STATUS_REJ_REASON r) (d.rejectCal c r) :=
    Frame.fault_none (fun _ h => h) (fun _ h => h) (Frame.log (by decide) logFlds_subset (Frame.refl _ _ _))
  refine ⟨(kept.rd (by decide)).trans ?_, (kept.rd (by decide)).trans ?_, Dev.rd_lastCode_fault_none _ _ _ _⟩
  · rw [Dev.rd_wr_key _ _ (by decide)]
    exact Dev.rd_wr_same _ CAL_STATUS_REJECT _
  · exact (Dev.rd_wr_same _ CAL_STATUS_REJ_REASON _).trans (Nat.mod_eq_of_lt small)

theorem Frame.rejectCal {us : List Part} {fs : List Fld} {d0 d : Dev} {c r : Nat} (hu : faultParts ⊆ us)
    (hf : [CAL_STATUS_REJECT, CAL_STATUS_REJ_REASON] ++ faultFlds ⊆ fs) (h : Frame us fs d0 d) : Frame us fs d0 (d.rejectCal c r) := by
  obtain ⟨shown, faults⟩ := List.append_subset.1 hf
  exact Frame.fault_none hu faults (Frame.log (List.Subset.trans (by decide) hu) (List.Subset.trans logFlds_subset faults)
    ((h.wr (shown (by simp))).wr (shown (by simp))))

theorem Dev.calReject_lt (d : Dev) (c : Nat) : d.calReject c < 4 := by
  unfold Dev.calReject
  repeat' split
  all_goals decide

/-- The device with no write to the calendar waiting. -/
def Dev.writeTaken (d : Dev) : Dev := { d with calst := { d.calst with waiting := none, stopped := false } }

/-- The calendar holds the value written, valid, with the second captured. -/
def Dev.calWritten (d : Dev) (c : Nat) : Dev := (((d.putCal c).wr CAL_STATUS_VALID 1).wr CAL_STATUS_END 0).captureSecond

/-- What a host's accepted write logs. -/
def Dev.writeLogged (d : Dev) (old : Nat) : Dev := d.log 2 (bytesLE 8 old ++ bytesLE 8 d.calendar ++ [0])

theorem Dev.calWriteApply_eq {d : Dev} {c : Nat} (alive : d.alive = true) (waiting : d.calst.waiting = some (c, 0))
    (leads : d.followsCantor = false) :
    d.calWriteApply = ((d.writeTaken.calWritten c).writeLogged d.calendar).calendarChanged d.calendar (!d.is CAL_STATUS_VALID) := by
  rw [Dev.calWriteApply, waiting]
  dsimp only
  rw [if_neg (by simp [alive])]
  refine (if_neg fun h => ?_).trans rfl
  exact Bool.false_ne_true (leads.symm.trans h.2)

theorem Frame.calWritten {us : List Part} {fs : List Fld} {d0 d : Dev} {c : Nat} (hf : [CAL_NOW_CAL, CAL_STATUS_VALID, CAL_STATUS_END, CAL_SECOND_TIME] ⊆ fs)
    (h : Frame us fs d0 d) : Frame us fs d0 (d.calWritten c) := by
  have written := ((h.wr (v := c % 2 ^ 60) (hf (by simp : CAL_NOW_CAL ∈ _))).wr (v := 1) (hf (by simp : CAL_STATUS_VALID ∈ _))).wr (v := 0)
    (hf (by simp : CAL_STATUS_END ∈ _))
  unfold Dev.calWritten Dev.captureSecond
  split
  · exact written.wr (hf (by simp))
  · exact written

theorem Dev.calWritten_shows {d : Dev} (alive : d.alive = true) (c : Nat) :
    (d.calWritten c).rd CAL_NOW_CAL = c % 2 ^ 60 ∧ (d.calWritten c).rd CAL_STATUS_VALID = 1 ∧ (d.calWritten c).rd CAL_STATUS_END = 0 ∧
      (d.calWritten c).rd CAL_SECOND_TIME = d.timeNow % 2 ^ 64 := by
  have shown : Frame [] [CAL_NOW_CAL, CAL_STATUS_VALID, CAL_STATUS_END] d (((d.putCal c).wr CAL_STATUS_VALID 1).wr CAL_STATUS_END 0) :=
    Frame.wr (by simp) (Frame.wr (by simp) (Frame.wr (by simp) (Frame.refl _ _ _)))
  rw [Dev.calWritten, Dev.captureSecond_of_alive (by exact alive), shown.timeNow (by simp) (by decide)]
  refine ⟨?_, ?_, ?_, Dev.rd_wr_same _ CAL_SECOND_TIME _⟩ <;> rw [Dev.rd_wr_key _ _ (by decide)]
  · rw [Dev.rd_wr_key _ _ (by decide), Dev.rd_wr_key _ _ (by decide)]
    refine (Dev.rd_wr_same _ CAL_NOW_CAL _).trans (Nat.mod_eq_of_lt ?_)
    show c % 2 ^ 60 < 2 ^ 64
    omega
  · rw [Dev.rd_wr_key _ _ (by decide)]
    exact Dev.rd_wr_same _ CAL_STATUS_VALID _
  · exact Dev.rd_wr_same _ CAL_STATUS_END _

/-- The record of a host's write is queued while there is room. -/
theorem Dev.writeLogged_record {d : Dev} (room : d.logQueue.length < 64) (old : Nat) :
    ∃ r ∈ (d.writeLogged old).logQueue, r.kind = 2 ∧ r.payload = bytesLE 8 old ++ bytesLE 8 d.calendar ++ [0] := by
  rw [Dev.writeLogged, Dev.log, Dev.queueLog_of_room room (.inl ⟨show (2 : Nat) ≠ 1 by decide, show (2 : Nat) ≠ 5 by decide⟩)]
  exact ⟨_, List.mem_append_right _ (List.mem_singleton_self _), rfl, rfl⟩

/-- Settles O53: a write or a second changes the calendar and queues at most records; the rest is shown and recorded. -/
theorem calendarCountsAndIsSet : Obligations.CalendarCountsAndIsSet := by
  unfold Obligations.CalendarCountsAndIsSet
  refine ⟨fun s backup alive unknown => ⟨fun running => ?_, fun last unset => ?_, fun last set => ?_, ?_⟩,
    fun s c r served free hc hr => ⟨fun accepted => ?_, fun rejected => ?_⟩, fun s served waiting => ?_, fun s c alive waiting leads unknown => ?_⟩
  · refine Does.of_onDev rfl rfl ?_
    have counted : Frame [.calst] [CAL_NOW_CAL, CAL_SECOND_TIME] s.dev (s.dev.kckRuns.putCal (calNext s.dev.cal)).captureSecond := by
      rw [Dev.captureSecond_of_alive (by exact alive)]
      exact Frame.wr (by simp) (Frame.wr (by simp) (Frame.calst (by simp) (Frame.refl _ _ _)))
    have changed : Frame [.logQueue, .logLost] [LOG_STATUS_LOG_QUEUE, LOSS_TOTAL] (s.dev.kckRuns.putCal (calNext s.dev.cal)).captureSecond
        ((s.dev.kckRuns.putCal (calNext s.dev.cal)).captureSecond.calendarChanged s.dev.cal false) :=
      Frame.calendarChanged ((counted.epsKnown (by decide) (by decide)).trans unknown) (by simp) (by simp) (Frame.refl _ _ _)
    obtain ⟨cal, time⟩ := s.dev.kckRuns.captured_shows (calNext s.dev.cal)
    rw [Dev.calendarSecond_of_running backup running]
    refine ⟨(changed.rd (by decide)).trans ?_, (changed.rd (by decide)).trans ?_, (counted.mono (by simp) (by simp)).trans (changed.mono (by simp) (by simp))⟩
    · rw [Dev.captureSecond_of_alive (by exact alive), cal]
    · rw [Dev.captureSecond_of_alive (by exact alive), time]
      rfl
  · refine Does.of_onDev rfl rfl ?_
    have recorded : Frame faultParts faultFlds (s.dev.kckRuns.wr CAL_STATUS_END 1) ((s.dev.kckRuns.wr CAL_STATUS_END 1).fault 0x0A04 reportOnly []) :=
      Frame.fault_none (fun _ h => h) (fun _ h => h) (Frame.refl _ _ _)
    rw [Dev.calendarSecond_of_last backup last alive, if_neg (by simp [Dev.is, unset])]
    refine ⟨(recorded.rd (by decide)).trans (Dev.rd_wr_same _ CAL_STATUS_END _), Dev.rd_lastCode_fault_none _ _ _ _, ?_⟩
    exact Frame.trans (Frame.wr (by simp) (Frame.calst (by simp) (Frame.refl _ _ _))) (recorded.mono (by simp) (by simp))
  · refine Does.of_onDev rfl rfl ?_
    rw [Dev.calendarSecond_of_last backup last alive, if_pos (by simp [Dev.is, set])]
    exact Frame.calst (by simp) (Frame.refl _ _ _)
  · refine Does.of_onDev rfl rfl ?_
    rw [Dev.kckStop_of_unknown alive unknown]
    have recorded := fun d => Frame.fault_none (us := faultParts) (fs := faultFlds) (code := 0x0A02) (cls := reportOnly) (arg := none) (fun _ h => h)
      (fun _ h => h) (Frame.refl faultParts faultFlds d)
    refine ⟨((recorded _).rd (by decide)).trans ?_, ((recorded _).rd (by decide)).trans (Dev.rd_wr_same _ CAL_STATUS_KCK_STOP _),
      Dev.rd_lastCode_fault_none _ _ _ _, ?_⟩
    · rw [Dev.rd_wr_key _ _ (by decide)]
      exact Dev.rd_wr_same _ CAL_STATUS_VALID _
    · exact Frame.trans (Frame.wr (by simp) (Frame.wr (by simp) (Frame.calst (by simp) (Frame.refl _ _ _)))) ((recorded _).mono (by simp) (by simp))
  · refine Does.of_oneWrite rfl rfl served ?_
    have run : (s.dev.setLatest false).setCalendar = { s.dev.setLatest false with calst := { s.dev.calst with waiting := some (c, 0) } } := by
      subst hc hr
      rw [Dev.setCalendar, if_neg (by rw [show (s.dev.setLatest false).calst.waiting = none from free]; decide)]
      exact if_pos accepted
    rw [run]
    exact ⟨rfl, Frame.calst (by simp) (by simp)⟩
  · refine Does.of_oneWrite rfl rfl served ?_
    have run : (s.dev.setLatest false).setCalendar = (s.dev.setLatest false).rejectCal c r := by
      subst hc hr
      rw [Dev.setCalendar, if_neg (by rw [show (s.dev.setLatest false).calst.waiting = none from free]; decide)]
      exact if_neg rejected
    obtain ⟨reject, reason, last⟩ := (s.dev.setLatest false).rejectCal_shows c (hr ▸ s.dev.calReject_lt c)
    rw [run]
    exact ⟨reject, reason, last, Frame.rejectCal (by simp) (fun _ h => h) (by simp)⟩
  · refine Does.of_oneWrite rfl rfl served ?_
    rw [Dev.setCalendar, if_pos (by exact Option.isSome_iff_ne_none.2 waiting)]
    simp
  · refine Does.of_onDev rfl rfl ?_
    have written : Frame [.calst] [CAL_NOW_CAL, CAL_STATUS_VALID, CAL_STATUS_END, CAL_SECOND_TIME] s.dev (s.dev.writeTaken.calWritten c) :=
      Frame.calWritten (fun _ h => h) (Frame.calst (by simp) (Frame.refl _ _ _))
    obtain ⟨cal, valid, ended, time⟩ := s.dev.writeTaken.calWritten_shows alive c
    have logged : Frame [.logQueue, .logLost] [LOG_STATUS_LOG_QUEUE, LOSS_TOTAL] (s.dev.writeTaken.calWritten c)
        ((s.dev.writeTaken.calWritten c).writeLogged s.dev.calendar) := Frame.log (fun _ h => h) (fun _ h => h) (Frame.refl _ _ _)
    have unknown' : ((s.dev.writeTaken.calWritten c).writeLogged s.dev.calendar).epsKnown = false :=
      (logged.epsKnown (by decide) (by decide)).trans ((written.epsKnown (by decide) (by decide)).trans unknown)
    have changed : Frame [.logQueue, .logLost] [LOG_STATUS_LOG_QUEUE, LOSS_TOTAL] (s.dev.writeTaken.calWritten c)
        (((s.dev.writeTaken.calWritten c).writeLogged s.dev.calendar).calendarChanged s.dev.calendar (!s.dev.is CAL_STATUS_VALID)) :=
      Frame.calendarChanged unknown' (by simp) (by simp) logged
    rw [Dev.calWriteApply_eq alive waiting leads]
    refine ⟨(changed.rd (by decide)).trans cal, (changed.rd (by decide)).trans valid, (changed.rd (by decide)).trans ended,
      (changed.rd (by decide)).trans time, ?_, fun room => ?_, (written.mono (by simp) (by simp)).trans (changed.mono (by simp) (by simp))⟩
    · have kept : Frame [] [CAL_NOW_CAL, CAL_STATUS_VALID, CAL_STATUS_END, CAL_SECOND_TIME] s.dev.writeTaken (s.dev.writeTaken.calWritten c) :=
        Frame.calWritten (fun _ h => h) (Frame.refl _ _ _)
      rw [changed.parts .calst (by decide), kept.parts .calst (by simp)]
      rfl
    · have text : (s.dev.writeTaken.calWritten c).calendar = c % 2 ^ 60 + 2 ^ 63 := by
        rw [Dev.calendar, cal, valid, ended]
        omega
      have room' : (s.dev.writeTaken.calWritten c).logQueue.length < 64 := by rwa [written.parts .logQueue (by decide)]
      obtain ⟨r, mem, kind, payload⟩ := Dev.writeLogged_record room' s.dev.calendar
      refine ⟨r, ?_, kind, by rw [payload, text]⟩
      rcases Dev.calendarChanged_of_unknown unknown' s.dev.calendar (!s.dev.is CAL_STATUS_VALID) with same | aged
      · rwa [same]
      · rw [aged]
        exact Dev.mem_queueLog mem (by rw [kind]; exact show (2 : Nat) ≠ 1 by decide)

end Sys2Proof.Machine
end

/-! PROOFS: the log's records, its collection, and the totaliser. -/
section

namespace Sys2Proof.Machine

open Reg

/-! ### The hold -/

theorem Dev.endHold_of_free {d : Dev} (free : d.is LOG_STATUS_NVM_HOLD = false) : d.endHold = d := by
  rw [Dev.endHold, if_neg (by simp [free])]

/-- The hold is over: nothing is to be retried. -/
def Dev.heldEnded (d : Dev) : Dev := ({ d with logLost := 0 }.wr LOG_STATUS_NVM_HOLD 0).putLogs { d.logs with retry := 0 }

theorem Dev.endHold_of_held {d : Dev} (held : d.is LOG_STATUS_NVM_HOLD = true) (none_lost : d.logLost = 0) : d.endHold = d.heldEnded := by
  rw [Dev.endHold, if_pos held]
  exact if_pos none_lost

theorem Dev.rd_hold_heldEnded (d : Dev) : d.heldEnded.rd LOG_STATUS_NVM_HOLD = 0 := Dev.rd_wr_same _ LOG_STATUS_NVM_HOLD 0

theorem Frame.heldEnded {us : List Part} {fs : List Fld} {d0 d : Dev} (none_lost : d.logLost = 0) (hu : Part.logs ∈ us)
    (hf : LOG_STATUS_NVM_HOLD ∈ fs) (h : Frame us fs d0 d) : Frame us fs d0 d.heldEnded := by
  have cleared : ({ d with logLost := 0 } : Dev) = d := by rw [← none_lost]
  rw [Dev.heldEnded, cleared]
  exact (Frame.putLogs_iff hu).2 (h.wr hf)

/-- The hold begins with its operation to retry. -/
def Dev.heldBegun (d : Dev) (op : Nat) : Dev := { d.putLogs { d.logs with retry := op } with logLost := 0 }.wr LOG_STATUS_NVM_HOLD 1

theorem Dev.beginHold_of_free {d : Dev} (free : d.is LOG_STATUS_NVM_HOLD = false) (op : Nat) :
    d.beginHold op = (d.heldBegun op).fault 0x0906 transient [srcDevice] := by
  rw [Dev.beginHold]
  exact if_neg (by rw [show (d.putLogs { d.logs with retry := op }).is LOG_STATUS_NVM_HOLD = false from free]; decide)

theorem Dev.heldBegun_bears {d : Dev} (bears : d.bears srcDevice) (op : Nat) : (d.heldBegun op).bears srcDevice :=
  Dev.bears_wr (d := { d.putLogs { d.logs with retry := op } with logLost := 0 }) bears (by decide) (by decide) (by decide) (by decide)

theorem Frame.beginHold {us : List Part} {fs : List Fld} {d0 d : Dev} {op : Nat} (free : d.is LOG_STATUS_NVM_HOLD = false)
    (bears : d.bears srcDevice) (hu : [Part.logs] ++ faultParts ⊆ us) (hf : [LOG_STATUS_NVM_HOLD] ++ strikeFlds srcDevice ⊆ fs)
    (h : Frame us fs d0 d) : Frame us fs d0 (d.beginHold op) := by
  obtain ⟨logs, faults⟩ := List.append_subset.1 hu
  obtain ⟨hold, strikes⟩ := List.append_subset.1 hf
  rw [Dev.beginHold_of_free free]
  exact Frame.fault_bears (Dev.heldBegun_bears bears op) faults strikes
    (Frame.wr (hold (by simp)) (Frame.logLost (faults (by decide)) ((Frame.putLogs_iff (logs (by simp))).2 h)))

theorem Dev.beginHold_shows {d : Dev} (free : d.is LOG_STATUS_NVM_HOLD = false) (bears : d.bears srcDevice) (op : Nat) :
    (d.beginHold op).rd LOG_STATUS_NVM_HOLD = 1 ∧ (d.beginHold op).rd FAULT_STATUS_LAST_CODE = 0x0906 ∧
      (d.beginHold op).logs = { d.logs with retry := op } := by
  have bears' := Dev.heldBegun_bears bears op
  have kept : Frame faultParts (strikeFlds srcDevice) (d.heldBegun op) ((d.heldBegun op).fault 0x0906 transient [srcDevice]) :=
    Frame.fault_bears bears' (fun _ h => h) (fun _ h => h) (Frame.refl _ _ _)
  rw [Dev.beginHold_of_free free]
  exact ⟨(kept.rd (by decide)).trans (Dev.rd_wr_same _ LOG_STATUS_NVM_HOLD _), Dev.rd_lastCode_fault_bears bears' _ _,
    kept.parts .logs (by decide)⟩

/-! ### A record is written -/

theorem Frame.notedRecord {us : List Part} {fs : List Fld} {d0 d : Dev} {r : LogRec} (hu : Part.time ∈ us) (h : Frame us fs d0 d) :
    Frame us fs d0 (d.notedRecord r) := by
  unfold Dev.notedRecord
  split
  · exact h.time hu
  · exact h

/-- The place after the last record is taken. -/
def Dev.placeTaken (d : Dev) (len : Nat) : Dev := d.putLogs { d.logs with pos := d.logs.pos + len }

/-- The record stands in NVM, and the queue goes on with the rest. -/
def Dev.recordPlaced (d : Dev) (a : Nat) (b : List Nat) (r : LogRec) (rest : List LogRec) : Dev :=
  (((d.placeTaken b.length).program a b).putLog rest).notedRecord r

/-- The oldest record is shown once there is one. -/
def Dev.oldestShown (d : Dev) : Dev := if d.rd LOG_OLDEST_OLDEST = 0 then d.wr LOG_OLDEST_OLDEST d.nextRseq else d

/-- The journal's sectors that are neither blank nor given up. -/
def Dev.sectorsUsed (d : Dev) : Nat := (d.journal.filter (fun s => s.state != .erased && s.state != .bad)).length

/-- The sectors are counted. -/
def Dev.sectorsShown (d : Dev) : Dev :=
  (d.wr LOG_SECTORS_FREE d.freeSectors).wr LOG_SECTORS_JOURNAL (d.wr LOG_SECTORS_FREE d.freeSectors).sectorsUsed

/-- The record written is the newest. -/
def Dev.recordShown (d : Dev) : Dev := (d.oldestShown.wr LOG_NEWEST_NEWEST d.oldestShown.nextRseq).sectorsShown

section

variable {d : Dev} {n a : Nat} {r : LogRec} {q : List LogRec} {b : List Nat}

/-- What the writing of the head record answers, once it fits the active sector. -/
theorem Dev.writeRecord_eq (queue : d.logQueue = r :: q) (room : d.journalFull = false)
    (bytes : b = recordBytes r.kind r.origin d.nextRseq r.cal r.payload) (fits : d.fits b.length = true) (active : d.logs.active = some n)
    (place : a = d.sectorAddr n + d.logs.pos) (outcome : Nat) :
    d.writeRecord outcome = if outcome = 1 then (((d.placeTaken b.length).spoil a b).beginHold 1, []) else
      ((d.recordPlaced a b r q).recordShown.endHold, b) := by
  subst bytes place
  rw [Dev.writeRecord, queue]
  simp only [room, Bool.false_eq_true, if_false, fits, if_true, active, Bool.not_true]
  rw [← active]
  rfl

/-- No CHOIR record: it is not sent. -/
theorem Dev.sendRecord_of_kind (d : Dev) (bytes : b = recordBytes r.kind r.origin n r.cal r.payload) (own : r.kind ≠ 11) : d.sendRecord b = d := by
  rw [Dev.sendRecord, if_neg]
  subst bytes
  exact fun h => own h.1

theorem Dev.sendRecord_nil (d : Dev) : d.sendRecord [] = d := rfl

theorem Frame.recordPlaced {us : List Part} {fs : List Fld} {d0 : Dev} (hu : [Part.nvm, .logQueue, .logs, .time] ⊆ us)
    (hf : LOG_STATUS_LOG_QUEUE ∈ fs) (h : Frame us fs d0 d) : Frame us fs d0 (d.recordPlaced a b r q) :=
  Frame.notedRecord (hu (by simp)) ((Frame.putLog_iff (hu (by simp)) hf).2 (Frame.nvm (hu (by simp)) ((Frame.putLogs_iff (hu (by simp))).2 h)))

theorem Frame.oldestShown {us : List Part} {fs : List Fld} {d0 : Dev} (hf : LOG_OLDEST_OLDEST ∈ fs) (h : Frame us fs d0 d) :
    Frame us fs d0 d.oldestShown := by
  unfold Dev.oldestShown
  split
  · exact h.wr hf
  · exact h

theorem Frame.recordShown {us : List Part} {fs : List Fld} {d0 : Dev}
    (hf : [LOG_NEWEST_NEWEST, LOG_OLDEST_OLDEST, LOG_SECTORS_FREE, LOG_SECTORS_JOURNAL] ⊆ fs) (h : Frame us fs d0 d) :
    Frame us fs d0 d.recordShown :=
  (((h.oldestShown (hf (by simp))).wr (hf (by simp))).wr (hf (by simp))).wr (hf (by simp))

theorem Dev.rd_newest_recordShown (d : Dev) : d.recordShown.rd LOG_NEWEST_NEWEST = d.nextRseq % 2 ^ 32 := by
  have same : d.oldestShown.nextRseq = d.nextRseq := by
    rw [Dev.nextRseq, (Frame.oldestShown (List.mem_singleton_self _) (Frame.refl [] [LOG_OLDEST_OLDEST] d)).rd (by decide), Dev.nextRseq]
  rw [Dev.recordShown, Dev.sectorsShown, Dev.rd_wr_key _ _ (by decide), Dev.rd_wr_key _ _ (by decide), same]
  exact Dev.rd_wr_same _ LOG_NEWEST_NEWEST _

theorem Dev.recordPlaced_parts (d : Dev) : (d.recordPlaced a b r q).nvm = nvmProgram d.nvm a b ∧ (d.recordPlaced a b r q).logQueue = q ∧
    (d.recordPlaced a b r q).logs = { d.logs with pos := d.logs.pos + b.length } ∧ (d.recordPlaced a b r q).nextRseq = d.nextRseq := by
  have kept : Frame [.time] [] (((d.placeTaken b.length).program a b).putLog q) (d.recordPlaced a b r q) :=
    Frame.notedRecord (by simp) (Frame.refl _ _ _)
  refine ⟨kept.parts .nvm (by simp), kept.parts .logQueue (by simp), kept.parts .logs (by simp), ?_⟩
  have newest : (d.recordPlaced a b r q).rd LOG_NEWEST_NEWEST = d.rd LOG_NEWEST_NEWEST :=
    (kept.rd (by simp)).trans (Dev.rd_wr_key _ _ (by decide))
  rw [Dev.nextRseq, newest, Dev.nextRseq]

end

/-! ### Collection -/

/-- The next step of a collection is noted. -/
def Dev.collectAt (d : Dev) (c : Collect) (step : Nat) : Dev := d.putLogs { d.logs with coll := some { c with step := step } }

theorem Dev.collection_eq {d : Dev} {c : Collect} (ready : d.logReady = true) (coll : d.logs.coll = some c) : d.collection 0 = d.collectStep c 0 := by
  rw [Dev.collection, if_pos ready, Dev.collectNext, coll]

theorem Dev.free_of_ready {d : Dev} (ready : d.logReady = true) : d.is LOG_STATUS_NVM_HOLD = false := by
  simp only [Dev.logReady, Bool.and_eq_true, Bool.not_eq_true'] at ready
  exact ready.2

/-- A step that programs or erases NVM alone is noted, and ends no hold. -/
theorem Dev.collectNoted {d e : Dev} {c : Collect} {step : Nat} (free : d.is LOG_STATUS_NVM_HOLD = false) (kept : Frame [.nvm] [] d e) :
    (e.collectAt c step).endHold.nvm = e.nvm ∧ (e.collectAt c step).endHold.logs = { d.logs with coll := some { c with step := step } } ∧
      Frame [.nvm, .logs] [] d (e.collectAt c step).endHold := by
  have noted : Frame [.nvm, .logs] [] d (e.collectAt c step) := (Frame.putLogs_iff (by simp)).2 (kept.mono (by simp) (fun _ h => h))
  have logs : e.logs = d.logs := kept.parts .logs (by simp)
  rw [Dev.endHold_of_free ((noted.is (by simp)).trans free)]
  exact ⟨rfl, by rw [← logs]; rfl, noted⟩

/-! ### The totaliser -/

/-- The registers hold an entry's values. -/
def Dev.totShown (d : Dev) (e : TotEntry) : Dev :=
  (((((d.wr TOTAL e.total).wr RES_RAW e.res).wr PROV e.prov).wr PROV_COUNT e.provCount).wr PRINT_COUNT e.printCount).wr REV e.rev

theorem Dev.takeTot_of_still {d : Dev} {e : TotEntry} (still : e.cause = 6 ∨ d.rd TOT_CFG_SRC = 0) : d.takeTot e = d.totShown e := by
  have source : (d.totShown e).rd TOT_CFG_SRC = d.rd TOT_CFG_SRC := by
    unfold Dev.totShown
    simp (disch := decide) only [Dev.rd_wr_key]
  unfold Dev.takeTot
  dsimp only
  split
  · rfl
  · next other =>
    have off := still.resolve_left other
    rw [Dev.addPulses]
    exact if_pos (.inr (source.trans off))

theorem Dev.totShown_shows (d : Dev) (e : TotEntry) :
    (d.totShown e).rd TOTAL = e.total % 2 ^ 64 ∧ (d.totShown e).rd RES_RAW = e.res % 2 ^ 64 ∧ (d.totShown e).rd PROV = e.prov % 2 ^ 64 ∧
      (d.totShown e).rd PROV_COUNT = e.provCount % 2 ^ 32 ∧ (d.totShown e).rd PRINT_COUNT = e.printCount % 2 ^ 32 ∧
      (d.totShown e).rd REV = e.rev % 2 ^ 32 := by
  unfold Dev.totShown
  refine ⟨?_, ?_, ?_, ?_, ?_, Dev.rd_wr_same _ REV _⟩ <;> simp (disch := decide) only [Dev.rd_wr_key]
  · exact Dev.rd_wr_same _ TOTAL _
  · exact Dev.rd_wr_same _ RES_RAW _
  · exact Dev.rd_wr_same _ PROV _
  · exact Dev.rd_wr_same _ PROV_COUNT _
  · exact Dev.rd_wr_same _ PRINT_COUNT _

/-- The first entry is committed in NVM and leaves the queue. -/
def Dev.totCommitted (d : Dev) (rest : List TotEntry) : Dev :=
  ((d.program (d.logs.totAddr + 5) [0]).putTot rest).putLogs { d.logs with phase1 := false, tot := rest }

theorem Dev.totPhase2_done {d : Dev} {e : TotEntry} {q : List TotEntry} (queue : d.logs.tot = e :: q) (open_ : d.logs.phase1 = true) :
    d.totPhase2 0 = ((d.totCommitted q).takeTot e).endHold := by
  rw [Dev.totPhase2, queue]
  dsimp only
  rw [if_neg (by simp [open_]), if_neg (by decide)]
  rfl

theorem Dev.totPhase2_failed {d : Dev} {e : TotEntry} {q : List TotEntry} (queue : d.logs.tot = e :: q) (open_ : d.logs.phase1 = true) :
    d.totPhase2 1 = (d.spoil (d.logs.totAddr + 5) [0]).beginHold 3 := by
  rw [Dev.totPhase2, queue]
  dsimp only
  rw [if_neg (by simp [open_])]
  exact if_pos (by decide)

/-- The first entry is programmed, not yet committed. -/
def Dev.totProgrammed (d : Dev) (e : TotEntry) : Dev :=
  (d.program (d.totSlot d.logs.totNext) (e.toBytes (d.logs.tseq + 1) d.calendar)).putLogs
    { d.logs with phase1 := true, totAddr := d.totSlot d.logs.totNext, totNext := (d.logs.totNext + 1) % 504, tseq := d.logs.tseq + 1 }

theorem Dev.totPhase1_done {d : Dev} {e : TotEntry} {q : List TotEntry} (queue : d.logs.tot = e :: q) (closed : d.logs.phase1 = false)
    (inside : d.logs.totNext % 63 ≠ 0) : d.totPhase1 0 = (d.totProgrammed e).endHold := by
  rw [Dev.totPhase1, queue]
  dsimp only
  rw [if_neg (by simp [closed])]
  simp only [inside, decide_false, Bool.false_and, Bool.false_eq_true, if_false]
  rfl

/-- Settles O55: phase 1 programs the entry and phase 2 commits it; neither meets a hold unless its program fails. -/
theorem totaliserTakesTwoPhases : Obligations.TotaliserTakesTwoPhases := by
  unfold Obligations.TotaliserTakesTwoPhases
  intro s e q ready queue
  have free := Dev.free_of_ready ready
  refine ⟨fun closed inside => ?_, fun opened still => ?_, fun opened bears => ?_⟩
  · refine Does.of_onDev rfl rfl ?_
    have programmed : Frame [.nvm, .logs] [] s.dev (s.dev.totProgrammed e) :=
      (Frame.putLogs_iff (by simp)).2 (Frame.nvm (by simp) (Frame.refl _ _ _))
    have run : s.dev.totaliserPhase1 0 = s.dev.totProgrammed e := by
      rw [Dev.totaliserPhase1, if_pos ready, Dev.totPhase1_done queue closed inside]
      exact Dev.endHold_of_free ((programmed.is (by simp)).trans free)
    rw [run]
    exact ⟨rfl, rfl, programmed⟩
  · refine Does.of_onDev rfl rfl ?_
    have committed : Frame [.nvm, .logs] [LOG_STATUS_TOT_QUEUE] s.dev (s.dev.totCommitted q) :=
      (Frame.putLogs_iff (by simp)).2 (Frame.wr (by simp) ((Frame.putLogs_iff (by simp)).2 (Frame.nvm (by simp) (Frame.refl _ _ _))))
    have shown : Frame [] [TOTAL, RES_RAW, PROV, PROV_COUNT, PRINT_COUNT, REV] (s.dev.totCommitted q) ((s.dev.totCommitted q).totShown e) := by
      simp [Dev.totShown]
    have still' : e.cause = 6 ∨ (s.dev.totCommitted q).rd TOT_CFG_SRC = 0 := by rwa [committed.rd (by decide)]
    have run : s.dev.totaliserPhase2 0 = (s.dev.totCommitted q).totShown e := by
      rw [Dev.totaliserPhase2, if_pos ready, Dev.totPhase2_done queue opened, Dev.takeTot_of_still still']
      exact Dev.endHold_of_free ((shown.is (by decide)).trans ((committed.is (by decide)).trans free))
    obtain ⟨total, res, prov, provs, prints, rev⟩ := (s.dev.totCommitted q).totShown_shows e
    rw [run]
    exact ⟨shown.parts .nvm (by simp), shown.parts .logs (by simp), total, res, prov, provs, prints, rev,
      (committed.mono (by simp) (by simp)).trans (shown.mono (by simp) (by simp))⟩
  · refine Does.of_onDev rfl rfl ?_
    have run : s.dev.totaliserPhase2 1 = (s.dev.spoil (s.dev.logs.totAddr + 5) [0]).beginHold 3 := by
      rw [Dev.totaliserPhase2, if_pos ready, Dev.totPhase2_failed queue opened]
    have free' : (s.dev.spoil (s.dev.logs.totAddr + 5) [0]).is LOG_STATUS_NVM_HOLD = false := free
    have bears' : (s.dev.spoil (s.dev.logs.totAddr + 5) [0]).bears srcDevice := bears
    obtain ⟨hold, last, logs⟩ := Dev.beginHold_shows free' bears' 3
    rw [run]
    refine ⟨hold, logs, last, Frame.beginHold free' bears' (by decide) (fun _ h => h) ?_⟩
    exact (Frame.nextFree_iff (by decide)).2 (Frame.nvm (by decide) (Frame.refl _ _ _))

/-- Settles O54: the head record goes to its place or the hold begins, the retry writes it, and a collection takes its steps. -/
theorem recordsAreWrittenAndRetried : Obligations.RecordsAreWrittenAndRetried := by
  unfold Obligations.RecordsAreWrittenAndRetried
  refine ⟨fun s n a r q b nvm mounted queue room bytes fits active place own => ?_, fun s c n ready coll dst => ?_⟩
  · have written := Dev.writeRecord_eq queue room bytes fits active place
    have shown : Frame [.nvm, .logQueue, .logs, .time] [LOG_NEWEST_NEWEST, LOG_OLDEST_OLDEST, LOG_SECTORS_FREE, LOG_SECTORS_JOURNAL,
        LOG_STATUS_LOG_QUEUE] s.dev (s.dev.recordPlaced a b r q).recordShown :=
      Frame.recordShown (by simp) (Frame.recordPlaced (by simp) (by simp) (Frame.refl _ _ _))
    have kept : Frame [] [LOG_NEWEST_NEWEST, LOG_OLDEST_OLDEST, LOG_SECTORS_FREE, LOG_SECTORS_JOURNAL] (s.dev.recordPlaced a b r q)
        (s.dev.recordPlaced a b r q).recordShown := Frame.recordShown (by simp) (Frame.refl _ _ _)
    obtain ⟨programmed, rest, logs, next⟩ := s.dev.recordPlaced_parts (a := a) (b := b) (r := r) (q := q)
    have ready (free : s.dev.rd LOG_STATUS_NVM_HOLD = 0) : s.dev.logReady = true := by
      simp only [Dev.logReady, Dev.is, nvm, mounted, free]
      rfl
    refine ⟨fun free => ?_, fun free bears => ?_, fun held retry none_lost => ?_⟩
    · refine Does.of_onDev rfl rfl ?_
      have free' : (s.dev.recordPlaced a b r q).recordShown.is LOG_STATUS_NVM_HOLD = false :=
        (shown.is (by decide)).trans (by simp [Dev.is, free])
      have run : s.dev.logRecordWrite 0 = (s.dev.recordPlaced a b r q).recordShown := by
        rw [Dev.logRecordWrite, if_pos (ready free), Dev.recordNext, written, if_neg (by decide)]
        exact (Dev.sendRecord_of_kind _ bytes own).trans (Dev.endHold_of_free free')
      rw [run]
      exact ⟨Eq.trans (kept.parts .nvm (by simp)) programmed, Eq.trans (kept.parts .logQueue (by simp)) rest,
        (Dev.rd_newest_recordShown _).trans (by rw [next]), Eq.trans (kept.parts .logs (by simp)) logs, shown⟩
    · refine Does.of_onDev rfl rfl ?_
      have run : s.dev.logRecordWrite 1 = ((s.dev.placeTaken b.length).spoil a b).beginHold 1 := by
        rw [Dev.logRecordWrite, if_pos (ready free), Dev.recordNext, written, if_pos rfl]
        rfl
      have spoilt : Frame ([Part.nvm, Part.logs, Part.free] ++ faultParts) [] s.dev ((s.dev.placeTaken b.length).spoil a b) :=
        (Frame.nextFree_iff (by decide)).2 (Frame.nvm (by decide) ((Frame.putLogs_iff (by decide)).2 (Frame.refl _ _ _)))
      have free' : ((s.dev.placeTaken b.length).spoil a b).is LOG_STATUS_NVM_HOLD = false := by
        rw [spoilt.is (by simp), Dev.is, free]
        rfl
      have bears' : ((s.dev.placeTaken b.length).spoil a b).bears srcDevice := bears
      have framed : Frame ([Part.nvm, Part.logs, Part.free] ++ faultParts) ([LOG_STATUS_NVM_HOLD] ++ strikeFlds srcDevice) s.dev
          (((s.dev.placeTaken b.length).spoil a b).beginHold 1) :=
        Frame.beginHold free' bears' (by decide) (fun _ h => h) (spoilt.mono (fun _ h => h) (by simp))
      obtain ⟨hold, last, logs⟩ := Dev.beginHold_shows free' bears' 1
      rw [run]
      exact ⟨hold, last, framed.rd (by decide), logs, framed⟩
    · refine Does.of_onDev rfl rfl ?_
      have held' : (s.dev.recordPlaced a b r q).recordShown.is LOG_STATUS_NVM_HOLD = true :=
        (shown.is (by decide)).trans (by simp [Dev.is, held])
      have none_lost' : (s.dev.recordPlaced a b r q).recordShown.logLost = 0 := Eq.trans (shown.parts .logLost (by decide)) none_lost
      have run : s.dev.nvmRetry 0 = (s.dev.recordPlaced a b r q).recordShown.heldEnded := by
        rw [Dev.nvmRetry, if_neg (by simp [nvm, Dev.is, held]), if_pos retry, Dev.recordNext, written, if_neg (by decide)]
        exact (Dev.sendRecord_of_kind _ bytes own).trans (Dev.endHold_of_held held' none_lost')
      rw [run]
      exact ⟨Eq.trans (kept.parts .nvm (by simp)) programmed, Eq.trans (kept.parts .logQueue (by simp)) rest, Dev.rd_hold_heldEnded _, rfl,
        Frame.heldEnded none_lost' (by simp) (by simp) (shown.mono (fun _ h => h) (by simp))⟩
  · have free := Dev.free_of_ready ready
    have begun := Dev.collection_eq ready coll
    refine ⟨fun step => ?_, fun step => ?_, fun step => ?_, fun step => ?_⟩ <;> refine Does.of_onDev rfl rfl ?_
    · have run : s.dev.collection 0 =
          ((s.dev.program (s.dev.sectorAddr n + 32) ((s.dev.retainedIn c.src).flatMap Rec.bytes)).collectAt c 3).endHold := by
        rw [begun, Dev.collectStep]
        rw [if_neg (by decide), if_neg (by omega), if_pos step]
        simp only [dst]
        rw [← dst]
        rfl
      rw [run]
      exact Dev.collectNoted free (Frame.nvm (by simp) (Frame.refl _ _ _))
    · have run : s.dev.collection 0 = ((s.dev.setSector n 0xCF).collectAt c 4).endHold := by
        rw [begun, Dev.collectStep]
        rw [if_neg (by decide), if_neg (by omega), if_neg (by omega), if_pos step]
        simp only [dst]
        rw [← dst]
        rfl
      rw [run]
      exact Dev.collectNoted free (Frame.nvm (by simp) (Frame.refl _ _ _))
    · have run : s.dev.collection 0 = ((s.dev.setSector c.src 0xF7).collectAt c 5).endHold := by
        rw [begun, Dev.collectStep]
        rw [if_neg (by decide), if_neg (by omega), if_neg (by omega), if_neg (by omega), if_pos step]
        rfl
      rw [run]
      exact Dev.collectNoted free (Frame.nvm (by simp) (Frame.refl _ _ _))
    · have run : s.dev.collection 0 = ((s.dev.eraseSector (s.dev.sectorAddr c.src)).collectAt c 6).endHold := by
        rw [begun, Dev.collectStep]
        rw [if_neg (by decide), if_neg (by omega), if_neg (by omega), if_neg (by omega), if_neg (by omega), if_pos step]
        rw [if_neg (by decide)]
        rfl
      rw [run]
      exact Dev.collectNoted free (Frame.nvm (by simp) (Frame.refl _ _ _))

end Sys2Proof.Machine
end

/-! PROOFS: the exciters: their levels, their trips and their schedules. -/
section

namespace Sys2Proof.Machine

open Reg

/-! ### What an exciter's operations leave -/

section

variable {us : List Part} {fs : List Fld} {d0 d : Dev} {x : Nat}

@[simp] theorem Dev.rd_driveExc (d : Dev) (x : Nat) (f : Fld) : (d.driveExc x).rd f = d.rd f := rfl

@[simp] theorem Dev.exc_driveExc (d : Dev) (x : Nat) : (d.driveExc x).exc x = { d.exc x with out := d.excLevel x } := Dev.exc_putExc_same _ _ _

@[simp] theorem Frame.driveExc_iff (hu : Part.excs ∈ us) : Frame us fs d0 (d.driveExc x) ↔ Frame us fs d0 d := Frame.putExc_iff hu

theorem Frame.holdExc (hu : Part.excs ∈ us) (hf : EXC_STATUS_STATE x ∈ fs) (h : Frame us fs d0 d) : Frame us fs d0 (d.holdExc x) := by
  unfold Dev.holdExc
  dsimp only
  split <;> simpa [hu, hf] using h

theorem Frame.followTrip (hu : Part.excs ∈ us) (hf : [EXC_STATUS_TRIP_LIVE x, EXC_STATUS_STATE x] ⊆ fs) (h : Frame us fs d0 d) :
    Frame us fs d0 (d.followTrip x) := by
  have live := h.wr (v := bit (d.tripSignal x)) (hf (by simp : EXC_STATUS_TRIP_LIVE x ∈ _))
  unfold Dev.followTrip
  dsimp only
  split
  · exact live.holdExc hu (hf (by simp))
  · exact (Frame.driveExc_iff hu).2 live

end

/-- A selection without cells never trips. -/
theorem Dev.tripSignal_of_unselected {d : Dev} {x : Nat} (unselected : d.rd (EXC_TRIP_SEL x) = 0) : d.tripSignal x = false := by
  have no_cell : ∀ m, d.tripBy x m = false := fun m => by
    rw [Dev.tripBy]
    simp [Dev.tripCell, unselected]
  rw [Dev.tripSignal]
  simp [no_cell]

theorem Dev.followTrip_of_clear {d : Dev} {x : Nat} (clear : d.tripSignal x = false) :
    d.followTrip x = (d.wr (EXC_STATUS_TRIP_LIVE x) 0).driveExc x := by
  rw [Dev.followTrip, clear]
  rfl

/-! ### The levels -/

theorem Dev.excLevel_of_held {d : Dev} {x : Nat} (started : ¬ (d.mode = 0 ∧ !d.booted 10)) (held : d.rd (EXC_STATUS_STATE x) = 3) :
    d.excLevel x = d.rd (EXC_CFG_SAFE x) := by
  unfold Dev.excLevel
  simp only [held]
  split
  · rfl
  · rw [if_neg (by simpa using started)]
    simp

theorem Dev.excLevel_in_run {d : Dev} {x : Nat} (run : d.mode = 1) (up : d.rd (EXC_STATUS_STATE x) = 1 ∨ d.rd (EXC_STATUS_STATE x) = 2)
    (free : (d.exc x).hold = false) (settled : (d.exc x).afterHold = false) (clear : d.rd (EXC_STATUS_TRIP_LIVE x) = 0) :
    d.excLevel x = if (d.exc x).running ∧ (d.exc x).high then d.rd (EXC_CFG_ACTIVE x) else 1 - d.rd (EXC_CFG_ACTIVE x) := by
  have not_safe : ¬ (d.mode = 2 ∨ d.rd (EXC_STATUS_STATE x) = 3 ∨ d.rd (EXC_STATUS_STATE x) = 4 ∨ (d.exc x).hold ∨ (d.exc x).afterHold ∨
      d.is (EXC_STATUS_TRIP_LIVE x)) := by
    rw [run, free, settled, Dev.is_of_zero clear]
    simp
    omega
  have not_low : ¬ (d.rd (EXC_STATUS_STATE x) = 0 ∨ (d.mode = 0 ∧ !d.booted 10)) := by
    rw [run]
    simp
    omega
  unfold Dev.excLevel
  dsimp only
  rw [if_neg (by rw [run]; decide), if_neg not_low, if_neg not_safe]

/-! ### The trip -/

theorem Dev.exc_holdExc (d : Dev) (x : Nat) : ((d.holdExc x).exc x).hold = true ∧ ((d.holdExc x).exc x).high = (d.exc x).high ∧
    ((d.holdExc x).exc x).pulse = (d.exc x).pulse ∧ ((d.holdExc x).exc x).cycle = (d.exc x).cycle := by
  unfold Dev.holdExc
  dsimp only
  split <;> simp

/-- A held exciter that may run at all drives its safe level. -/
theorem Dev.holdExc_held {d : Dev} {x : Nat} (started : ¬ (d.mode = 0 ∧ !d.booted 10))
    (up : d.rd (EXC_STATUS_STATE x) = 1 ∨ d.rd (EXC_STATUS_STATE x) = 2 ∨ d.rd (EXC_STATUS_STATE x) = 3) :
    (d.holdExc x).rd (EXC_STATUS_STATE x) = 3 ∧ ((d.holdExc x).exc x).out = d.rd (EXC_CFG_SAFE x) := by
  have kept (e : Exc) : Frame [.excs] [EXC_STATUS_STATE x] d ((d.putExc x e).wr (EXC_STATUS_STATE x) 3) := by simp
  unfold Dev.holdExc
  dsimp only
  split
  · have held (e : Exc) : ((d.putExc x e).wr (EXC_STATUS_STATE x) 3).rd (EXC_STATUS_STATE x) = 3 := Dev.rd_wr_same _ (EXC_STATUS_STATE x) 3
    have mode (e : Exc) : ((d.putExc x e).wr (EXC_STATUS_STATE x) 3).mode = d.mode :=
      (kept e).rd (by simp only [List.forall_mem_singleton, POWER_STATUS_STATE, EXC_STATUS_STATE]; omega)
    refine ⟨held _, ?_⟩
    rw [Dev.exc_driveExc]
    refine (Dev.excLevel_of_held (by rw [mode]; exact started) (held _)).trans ((kept _).rd ?_)
    simp only [List.forall_mem_singleton, EXC_CFG_SAFE, EXC_STATUS_STATE]
    omega
  · next still =>
    have held : d.rd (EXC_STATUS_STATE x) = 3 := by
      rcases up with h | h | h
      · exact absurd (.inl h) still
      · exact absurd (.inr h) still
      · exact h
    refine ⟨held, ?_⟩
    rw [Dev.exc_driveExc]
    exact Dev.excLevel_of_held (d := d.putExc x { d.exc x with hold := true }) started held

/-! ### The pulses -/

/-- The pulse begins. -/
def Dev.pulseUp (d : Dev) (x : Nat) : Dev :=
  d.putExc x { d.exc x with high := true, qual := false, checking := false, failed := 0, pulse := (d.exc x).pulse + 1 }

/-- The trip signal is seen with the pulse. -/
def Dev.pulseSeen (d : Dev) (x : Nat) (trip : Bool) : Dev :=
  (d.pulseUp x).wr (EXC_STATUS_TRIP_LIVE x) (bit (trip || (d.pulseUp x).tripSignal x))

/-- The hold ends at a pulse start without a trip. -/
def Dev.pulseReleased (d : Dev) (x : Nat) : Dev :=
  let d := d.putExc x { d.exc x with hold := false }
  if d.rd (EXC_STATUS_STATE x) = 3 then d.wr (EXC_STATUS_STATE x) 2 else d

theorem Dev.beginPulse_eq (d : Dev) (x : Nat) (trip : Bool) : d.beginPulse x trip =
    if (d.pulseSeen x trip).is (EXC_STATUS_TRIP_LIVE x) then (d.pulseSeen x trip).holdExc x else ((d.pulseSeen x trip).pulseReleased x).driveExc x :=
  rfl

theorem Dev.exc_pulseSeen (d : Dev) (x : Nat) (trip : Bool) : (d.pulseSeen x trip).exc x =
    { d.exc x with high := true, qual := false, checking := false, failed := 0, pulse := (d.exc x).pulse + 1 } := Dev.exc_putExc_same _ _ _

theorem Dev.exc_pulseReleased (d : Dev) (x : Nat) : (d.pulseReleased x).exc x = { d.exc x with hold := false } := by
  unfold Dev.pulseReleased
  dsimp only
  split <;> simp

theorem Frame.pulseSeen {us : List Part} {fs : List Fld} {d0 d : Dev} {x : Nat} {trip : Bool} (hu : Part.excs ∈ us)
    (hf : EXC_STATUS_TRIP_LIVE x ∈ fs) (h : Frame us fs d0 d) : Frame us fs d0 (d.pulseSeen x trip) :=
  Frame.wr hf ((Frame.putExc_iff hu).2 h)

theorem Frame.pulseReleased {us : List Part} {fs : List Fld} {d0 d : Dev} {x : Nat} (hu : Part.excs ∈ us) (hf : EXC_STATUS_STATE x ∈ fs)
    (h : Frame us fs d0 d) : Frame us fs d0 (d.pulseReleased x) := by
  unfold Dev.pulseReleased
  dsimp only
  split <;> simpa [hu, hf] using h

theorem Frame.beginPulse {us : List Part} {fs : List Fld} {d0 d : Dev} {x : Nat} {trip : Bool} (hu : Part.excs ∈ us)
    (hf : [EXC_STATUS_TRIP_LIVE x, EXC_STATUS_STATE x] ⊆ fs) (h : Frame us fs d0 d) : Frame us fs d0 (d.beginPulse x trip) := by
  have seen := h.pulseSeen (trip := trip) hu (hf (by simp : EXC_STATUS_TRIP_LIVE x ∈ _))
  rw [Dev.beginPulse_eq]
  split
  · exact seen.holdExc hu (hf (by simp))
  · exact (Frame.driveExc_iff hu).2 (seen.pulseReleased hu (hf (by simp)))

theorem Dev.beginPulse_of_trip (d : Dev) (x : Nat) : d.beginPulse x true = (d.pulseSeen x true).holdExc x := by
  have live : (d.pulseSeen x true).rd (EXC_STATUS_TRIP_LIVE x) = 1 := Dev.rd_wr_same _ (EXC_STATUS_TRIP_LIVE x) 1
  rw [Dev.beginPulse_eq]
  exact if_pos (by simp [Dev.is, live])

theorem Dev.rd_live_pulseSeen {d : Dev} {x : Nat} (unselected : d.rd (EXC_TRIP_SEL x) = 0) :
    (d.pulseSeen x false).rd (EXC_STATUS_TRIP_LIVE x) = 0 := by
  have clear : (d.pulseUp x).tripSignal x = false := Dev.tripSignal_of_unselected unselected
  rw [Dev.pulseSeen, clear]
  exact Dev.rd_wr_same _ (EXC_STATUS_TRIP_LIVE x) 0

theorem Dev.beginPulse_of_clear {d : Dev} {x : Nat} (unselected : d.rd (EXC_TRIP_SEL x) = 0) :
    d.beginPulse x false = ((d.pulseSeen x false).pulseReleased x).driveExc x := by
  rw [Dev.beginPulse_eq]
  exact if_neg (by simp [Dev.is, Dev.rd_live_pulseSeen unselected])

/-- The pulse is up, whether it is held or not. -/
theorem Dev.exc_beginPulse (d : Dev) (x : Nat) (trip : Bool) : ((d.beginPulse x trip).exc x).high = true ∧
    ((d.beginPulse x trip).exc x).pulse = (d.exc x).pulse + 1 ∧ ((d.beginPulse x trip).exc x).cycle = (d.exc x).cycle := by
  rw [Dev.beginPulse_eq]
  split
  · obtain ⟨-, high, pulse, cycle⟩ := (d.pulseSeen x trip).exc_holdExc x
    rw [high, pulse, cycle]
    simp [Dev.exc_pulseSeen]
  · simp [Dev.exc_pulseSeen, Dev.exc_pulseReleased]

/-- Fields of the exciter that a pulse's start leaves. -/
theorem Dev.rd_pulseSeen {d : Dev} {x : Nat} {trip : Bool} {f : Fld} (apart : f.key ≠ (EXC_STATUS_TRIP_LIVE x).key) :
    (d.pulseSeen x trip).rd f = d.rd f := Dev.rd_wr_key _ _ apart

/-- A held exciter is released by a pulse start without a trip, and drives its pulse. -/
theorem Dev.pulseReleased_shows {d : Dev} {x : Nat} (held : d.rd (EXC_STATUS_STATE x) = 3) (run : d.mode = 1) (settled : (d.exc x).afterHold = false)
    (clear : d.rd (EXC_STATUS_TRIP_LIVE x) = 0) (running : (d.exc x).running = true) (high : (d.exc x).high = true) :
    (d.pulseReleased x).rd (EXC_STATUS_STATE x) = 2 ∧ (d.pulseReleased x).excLevel x = d.rd (EXC_CFG_ACTIVE x) := by
  have kept : Frame [.excs] [EXC_STATUS_STATE x] d (d.pulseReleased x) := Frame.pulseReleased (by simp) (by simp) (Frame.refl _ _ _)
  have state : (d.pulseReleased x).rd (EXC_STATUS_STATE x) = 2 := by
    unfold Dev.pulseReleased
    dsimp only
    rw [if_pos (by exact held)]
    exact Dev.rd_wr_same _ (EXC_STATUS_STATE x) 2
  refine ⟨state, (Dev.excLevel_in_run ((kept.rd ?_).trans run) (.inr state) (by rw [Dev.exc_pulseReleased]) (by rw [Dev.exc_pulseReleased, settled])
    ((kept.rd ?_).trans clear)).trans ?_⟩
  · simp only [List.forall_mem_singleton, POWER_STATUS_STATE, EXC_STATUS_STATE]; omega
  · simp only [List.forall_mem_singleton, EXC_STATUS_TRIP_LIVE, EXC_STATUS_STATE]; omega
  · rw [if_pos (by simp [Dev.exc_pulseReleased, running, high]),
      kept.rd (by simp only [List.forall_mem_singleton, EXC_CFG_ACTIVE, EXC_STATUS_STATE]; omega)]

/-- The phase has ended: the check passed when no monitor failed it. -/
def Dev.phaseEnded (d : Dev) (x : Nat) : Dev :=
  let e := d.exc x
  let d := if e.checking ∧ e.failed = 0 then d.wr (EXC_STATUS_CHECK_FAIL x) 0 else d
  d.putExc x { e with high := false, qual := false, checking := false, failed := 0 }

theorem Dev.endPhase_eq (d : Dev) (x : Nat) : d.endPhase x = (d.phaseEnded x).followTrip x := rfl

theorem Frame.phaseEnded {us : List Part} {fs : List Fld} {d0 d : Dev} {x : Nat} (hu : Part.excs ∈ us) (hf : EXC_STATUS_CHECK_FAIL x ∈ fs)
    (h : Frame us fs d0 d) : Frame us fs d0 (d.phaseEnded x) := by
  unfold Dev.phaseEnded
  dsimp only
  split <;> simpa [hu, hf] using h

theorem Dev.exc_phaseEnded (d : Dev) (x : Nat) :
    (d.phaseEnded x).exc x = { d.exc x with high := false, qual := false, checking := false, failed := 0 } := Dev.exc_putExc_same _ _ _

theorem Dev.rd_checkFail_phaseEnded (d : Dev) (x : Nat) : (d.phaseEnded x).rd (EXC_STATUS_CHECK_FAIL x) =
    if (d.exc x).checking = true ∧ (d.exc x).failed = 0 then 0 else d.rd (EXC_STATUS_CHECK_FAIL x) := by
  unfold Dev.phaseEnded
  dsimp only
  split
  · exact Dev.rd_wr_same _ (EXC_STATUS_CHECK_FAIL x) 0
  · rfl

/-- The end of a phase without a trip: the fields it shows are clear, and the schedule goes on. -/
theorem Dev.endPhase_of_clear {d : Dev} {x : Nat} (unselected : d.rd (EXC_TRIP_SEL x) = 0) :
    d.endPhase x = ((d.phaseEnded x).wr (EXC_STATUS_TRIP_LIVE x) 0).driveExc x := by
  have kept : Frame [.excs] [EXC_STATUS_CHECK_FAIL x] d (d.phaseEnded x) := Frame.phaseEnded (by simp) (by simp) (Frame.refl _ _ _)
  refine Dev.followTrip_of_clear (Dev.tripSignal_of_unselected ((kept.rd ?_).trans unselected))
  simp only [List.forall_mem_singleton, EXC_TRIP_SEL, EXC_STATUS_CHECK_FAIL]
  omega

theorem Frame.endPhase {us : List Part} {fs : List Fld} {d0 d : Dev} {x : Nat} (unselected : d.rd (EXC_TRIP_SEL x) = 0) (hu : Part.excs ∈ us)
    (hf : [EXC_STATUS_CHECK_FAIL x, EXC_STATUS_TRIP_LIVE x] ⊆ fs) (h : Frame us fs d0 d) : Frame us fs d0 (d.endPhase x) := by
  rw [Dev.endPhase_of_clear unselected]
  exact (Frame.driveExc_iff hu).2 ((h.phaseEnded hu (hf (by simp))).wr (hf (by simp)))

theorem Dev.rd_pulses_endPhase {d : Dev} {x : Nat} (unselected : d.rd (EXC_TRIP_SEL x) = 0) :
    (d.endPhase x).rd (EXC_COUNT_PULSES x) = d.rd (EXC_COUNT_PULSES x) := by
  refine (Frame.endPhase unselected (by simp) (fun _ h => h) (Frame.refl [.excs] _ d)).rd ?_
  simp only [List.forall_mem_cons, List.not_mem_nil, false_imp_iff, implies_true, and_true, EXC_COUNT_PULSES, EXC_STATUS_CHECK_FAIL, EXC_STATUS_TRIP_LIVE]
  omega

theorem Dev.exc_endPhase {d : Dev} {x : Nat} (unselected : d.rd (EXC_TRIP_SEL x) = 0) :
    ((d.endPhase x).exc x).running = (d.exc x).running ∧ ((d.endPhase x).exc x).high = false ∧ ((d.endPhase x).exc x).pulse = (d.exc x).pulse ∧
      ((d.endPhase x).exc x).cycle = (d.exc x).cycle ∧ ((d.endPhase x).exc x).hold = (d.exc x).hold ∧
      ((d.endPhase x).exc x).afterHold = (d.exc x).afterHold := by
  rw [Dev.endPhase_of_clear unselected]
  simp [Dev.exc_phaseEnded]

theorem Frame.endSchedule {us : List Part} {fs : List Fld} {d0 d : Dev} {x : Nat} (hu : Part.excs ∈ us) (hf : EXC_STATUS_STATE x ∈ fs)
    (h : Frame us fs d0 d) : Frame us fs d0 (d.endSchedule x) := by
  unfold Dev.endSchedule
  dsimp only
  split <;> simpa [hu, hf] using h

/-- The schedule's end: the exciter is idle. -/
theorem Dev.endSchedule_eq {d : Dev} {x : Nat} (state : d.rd (EXC_STATUS_STATE x) = 2) :
    d.endSchedule x = ((d.putExc x { d.exc x with running := false, high := false, pulse := 0, cycle := 0 }).wr (EXC_STATUS_STATE x) 1).driveExc x := by
  rw [Dev.endSchedule]
  dsimp only
  rw [if_pos (by exact state)]

theorem Dev.endSchedule_shows {d : Dev} {x : Nat} (state : d.rd (EXC_STATUS_STATE x) = 2) :
    ((d.endSchedule x).exc x).running = false ∧ ((d.endSchedule x).exc x).high = false ∧ (d.endSchedule x).rd (EXC_STATUS_STATE x) = 1 := by
  rw [Dev.endSchedule_eq state]
  simp only [Dev.exc_driveExc, Dev.exc_wr, Dev.exc_putExc_same, Dev.rd_driveExc, true_and]
  exact Dev.rd_wr_same _ (EXC_STATUS_STATE x) 1

/-- An exciter whose schedule has ended in RUN drives its idle level. -/
theorem Dev.out_endSchedule {d : Dev} {x : Nat} (run : d.mode = 1) (state : d.rd (EXC_STATUS_STATE x) = 2) (free : (d.exc x).hold = false)
    (settled : (d.exc x).afterHold = false) (clear : d.rd (EXC_STATUS_TRIP_LIVE x) = 0) :
    ((d.endSchedule x).exc x).out = 1 - d.rd (EXC_CFG_ACTIVE x) := by
  have kept (e : Exc) : Frame [.excs] [EXC_STATUS_STATE x] d ((d.putExc x e).wr (EXC_STATUS_STATE x) 1) := by simp
  rw [Dev.endSchedule_eq state, Dev.exc_driveExc]
  refine (Dev.excLevel_in_run (((kept _).rd ?_).trans run) (.inl (Dev.rd_wr_same _ (EXC_STATUS_STATE x) 1)) (by simpa using free)
    (by simpa using settled) (((kept _).rd ?_).trans clear)).trans ?_
  · simp only [List.forall_mem_singleton, POWER_STATUS_STATE, EXC_STATUS_STATE]; omega
  · simp only [List.forall_mem_singleton, EXC_STATUS_TRIP_LIVE, EXC_STATUS_STATE]; omega
  · rw [if_neg (by simp), (kept _).rd (by simp only [List.forall_mem_singleton, EXC_CFG_ACTIVE, EXC_STATUS_STATE]; omega)]

/-! ### The schedule starts -/

/-- The exciter's start instant has come. -/
def Dev.startSeen (d : Dev) (x : Nat) : Dev := d.putExc x { d.exc x with startDue := false, afterHold := false }

/-- A start that finds a schedule running is skipped. -/
def Dev.startSkipped (d : Dev) (x : Nat) : Dev :=
  let d := d.startSeen x
  (d.putExc x { d.exc x with skipRep := some (d.rd (TIMER_PCOUNT_COUNT (d.timerOf (d.rd (EXC_CFG_SYNC_VOICE x))))) }).inc (EXC_SKIP_COUNT_COUNT x)

/-- The schedule begins. -/
def Dev.scheduleBegun (d : Dev) (x : Nat) : Dev :=
  let d := d.startSeen x
  (d.putExc x { d.exc x with running := true, high := false, pulse := 0, cycle := 0 }).wr (EXC_STATUS_STEP x) 0

section

variable {d : Dev} {x : Nat} (alive : d.alive = true) (run : d.mode = 1) (due : (d.exc x).startDue = true)
include alive run due

theorem Dev.exciterStart_skips (state : d.rd (EXC_STATUS_STATE x) = 2) (running : (d.exc x).running = true) (fresh : (d.exc x).skipRep = none) :
    d.exciterStart x = (d.startSkipped x).fault 0x0306 reportOnly [] := by
  rw [Dev.exciterStart]
  dsimp only
  rw [if_neg (by simp [alive, due, run, state]), if_pos (by simp [running])]
  exact if_neg (by rw [fresh]; exact nofun)

theorem Dev.exciterStart_begins (state : d.rd (EXC_STATUS_STATE x) = 1) (idle : (d.exc x).running = false) :
    d.exciterStart x = ((d.scheduleBegun x).wr (EXC_STATUS_STATE x) 2).driveExc x := by
  rw [Dev.exciterStart]
  dsimp only
  rw [if_neg (by simp [alive, due, run, state]), if_neg (by simp [idle]), if_pos state]
  rfl

end

/-- Settles O18: each instant of a schedule changes the exciter's own state, and ends or goes on with it. -/
theorem exciterFollowsItsSchedule : Obligations.ExciterFollowsItsSchedule := by
  unfold Obligations.ExciterFollowsItsSchedule
  refine ⟨fun s x e small alive run hx due => ⟨fun idle still => ?_, fun busy running room fresh => ?_⟩,
    fun s x e trip small alive run hx running high unselected => ⟨fun last state free settled => ?_, fun train more => ?_, fun sweep started => ?_⟩,
    fun s x e trip small alive run hx running low sweep started => ⟨fun more => ?_, fun done more room => ?_, fun done ended state => ?_⟩⟩ <;>
    subst hx <;> refine Does.of_onDev rfl (by simpa [Instr.wf] using small) ?_
  · rw [Dev.exciterStart_begins alive run due idle still]
    refine ⟨?_, ?_, ?_, ?_, ?_, ?_⟩
    · simp [Dev.scheduleBegun]
    · simp [Dev.scheduleBegun, Dev.startSeen]
    · simp [Dev.scheduleBegun]
    · rw [Dev.rd_driveExc, Dev.rd_wr_key _ _ (by simp only [EXC_STATUS_STEP, EXC_STATUS_STATE]; omega)]
      exact Dev.rd_wr_same _ (EXC_STATUS_STEP x) 0
    · exact Dev.rd_wr_same _ (EXC_STATUS_STATE x) 2
    · simp [Dev.scheduleBegun, Dev.startSeen]
  · have reported : Frame faultParts faultFlds (s.dev.startSkipped x) ((s.dev.startSkipped x).fault 0x0306 reportOnly []) :=
      Frame.fault_none (fun _ h => h) (fun _ h => h) (Frame.refl _ _ _)
    have unit : ((s.dev.startSkipped x).fault 0x0306 reportOnly []).exc x = (s.dev.startSkipped x).exc x :=
      congrArg (fun t => Tab.read Exc.fresh t x) (reported.parts .excs (by decide))
    rw [Dev.exciterStart_skips alive run due busy running fresh]
    refine ⟨?_, ?_, ?_, Dev.rd_lastCode_fault_none _ _ _ _, ?_, ?_⟩
    · rw [unit]
      simpa [Dev.startSkipped, Dev.startSeen] using running
    · rw [unit]
      simp [Dev.startSkipped, Dev.startSeen]
    · rw [unit]
      simp [Dev.startSkipped, Dev.startSeen]
    · rw [reported.rd (by simp only [faultFlds, List.forall_mem_cons, List.not_mem_nil, false_imp_iff, implies_true, and_true,
        EXC_SKIP_COUNT_COUNT, FAULT_STATUS_COUNT, FAULT_STATUS_LAST_CODE, LOG_STATUS_LOG_QUEUE, LOSS_TOTAL]; omega)]
      exact Dev.rd_inc_below (d := (s.dev.startSeen x).putExc x _) (f := EXC_SKIP_COUNT_COUNT x) room
    · exact Frame.trans (by simp [Dev.startSkipped, Dev.startSeen]) (reported.mono (by simp) (by simp))
  · have kept : Frame [.excs] [EXC_STATUS_CHECK_FAIL x, EXC_STATUS_TRIP_LIVE x] s.dev (s.dev.endPhase x) :=
      Frame.endPhase unselected (by simp) (by simp) (Frame.refl _ _ _)
    have ended : s.dev.pulseEnd x = (s.dev.endPhase x).endSchedule x := by
      rw [Dev.pulseEnd]
      dsimp only
      rw [if_pos (by simp [alive, running, high]; omega), Dev.rd_pulses_endPhase unselected]
      exact if_pos (last.imp id And.right)
    have finish : Frame [.excs] [EXC_STATUS_STATE x] (s.dev.endPhase x) ((s.dev.endPhase x).endSchedule x) :=
      Frame.endSchedule (by simp) (by simp) (Frame.refl _ _ _)
    have apart (f : Fld) (check : f.key ≠ (EXC_STATUS_CHECK_FAIL x).key) (live : f.key ≠ (EXC_STATUS_TRIP_LIVE x).key) :
        (s.dev.endPhase x).rd f = s.dev.rd f := kept.rd (by simp [check, live])
    have state' : (s.dev.endPhase x).rd (EXC_STATUS_STATE x) = 2 :=
      (apart _ (by simp only [EXC_STATUS_STATE, EXC_STATUS_CHECK_FAIL]; omega) (by simp only [EXC_STATUS_STATE, EXC_STATUS_TRIP_LIVE]; omega)).trans state
    obtain ⟨-, -, -, -, hold, after⟩ := Dev.exc_endPhase unselected
    have clear : (s.dev.endPhase x).rd (EXC_STATUS_TRIP_LIVE x) = 0 := by
      rw [Dev.endPhase_of_clear unselected]
      exact Dev.rd_wr_same _ (EXC_STATUS_TRIP_LIVE x) 0
    obtain ⟨stopped, dropped, idle⟩ := Dev.endSchedule_shows state'
    rw [ended]
    refine ⟨stopped, dropped, idle, ?_, ?_, (kept.mono (by simp) (by simp)).trans (finish.mono (by simp) (by simp))⟩
    · rw [Dev.out_endSchedule ((apart _ (by simp only [POWER_STATUS_STATE, EXC_STATUS_CHECK_FAIL]; omega)
        (by simp only [POWER_STATUS_STATE, EXC_STATUS_TRIP_LIVE]; omega)).trans run) state' (hold.trans free) (after.trans settled) clear,
        apart _ (by simp only [EXC_CFG_ACTIVE, EXC_STATUS_CHECK_FAIL]; omega) (by simp only [EXC_CFG_ACTIVE, EXC_STATUS_TRIP_LIVE]; omega)]
    · rw [finish.rd (by simp only [List.forall_mem_singleton, EXC_STATUS_CHECK_FAIL, EXC_STATUS_STATE]; omega), Dev.endPhase_of_clear unselected,
        Dev.rd_driveExc, Dev.rd_wr_key _ _ (by simp only [EXC_STATUS_CHECK_FAIL, EXC_STATUS_TRIP_LIVE]; omega)]
      exact Dev.rd_checkFail_phaseEnded _ _
  · have ended : s.dev.pulseEnd x = s.dev.endPhase x := by
      rw [Dev.pulseEnd]
      dsimp only
      rw [if_pos (by simp [alive, running, high]; omega), Dev.rd_pulses_endPhase unselected]
      exact if_neg (by omega)
    obtain ⟨runs, dropped, pulse, -⟩ := Dev.exc_endPhase unselected
    rw [ended]
    exact ⟨runs.trans running, dropped, pulse, Frame.endPhase unselected (by simp) (by simp) (Frame.refl _ _ _)⟩
  · have ended : s.dev.sweepHalfPeriod x trip = s.dev.endPhase x := by
      rw [Dev.sweepHalfPeriod]
      rw [if_pos (by simp [alive, run, running, sweep, started])]
      exact if_pos high
    obtain ⟨runs, dropped, -, cycle, -⟩ := Dev.exc_endPhase unselected
    rw [ended]
    exact ⟨runs.trans running, dropped, cycle, Frame.endPhase unselected (by simp) (by simp) (Frame.refl _ _ _)⟩
  · have begun : s.dev.sweepHalfPeriod x trip = (s.dev.putExc x { s.dev.exc x with cycle := (s.dev.exc x).cycle + 1 }).beginPulse x trip := by
      rw [Dev.sweepHalfPeriod]
      dsimp only
      rw [if_pos (by simp [alive, run, running, sweep, started]), if_neg (by simp [low])]
      exact if_pos more
    have kept : Frame [.excs] [EXC_STATUS_TRIP_LIVE x, EXC_STATUS_STATE x] s.dev
        ((s.dev.putExc x { s.dev.exc x with cycle := (s.dev.exc x).cycle + 1 }).beginPulse x trip) :=
      Frame.beginPulse (by simp) (by simp) (by simp)
    obtain ⟨high, -, cycle⟩ := (s.dev.putExc x { s.dev.exc x with cycle := (s.dev.exc x).cycle + 1 }).exc_beginPulse x trip
    rw [begun]
    refine ⟨cycle.trans (by simp), high, kept.rd ?_, kept⟩
    simp only [List.forall_mem_cons, List.not_mem_nil, false_imp_iff, implies_true, and_true, EXC_STATUS_STEP, EXC_STATUS_TRIP_LIVE, EXC_STATUS_STATE]
    omega
  · have begun : s.dev.sweepHalfPeriod x trip =
        ((s.dev.putExc x { s.dev.exc x with cycle := 0 }).step1 (EXC_STATUS_STEP x)).beginPulse x trip := by
      rw [Dev.sweepHalfPeriod]
      dsimp only
      rw [if_pos (by simp [alive, run, running, sweep, started]), if_neg (by simp [low]), if_neg (by omega)]
      exact if_pos more
    have kept : Frame [.excs] [EXC_STATUS_TRIP_LIVE x, EXC_STATUS_STATE x] ((s.dev.putExc x { s.dev.exc x with cycle := 0 }).step1 (EXC_STATUS_STEP x))
        (((s.dev.putExc x { s.dev.exc x with cycle := 0 }).step1 (EXC_STATUS_STEP x)).beginPulse x trip) :=
      Frame.beginPulse (by simp) (by simp) (Frame.refl _ _ _)
    obtain ⟨high, -, cycle⟩ := ((s.dev.putExc x { s.dev.exc x with cycle := 0 }).step1 (EXC_STATUS_STEP x)).exc_beginPulse x trip
    rw [begun]
    refine ⟨cycle.trans (by simp), high, (kept.rd ?_).trans ((Dev.rd_step1_same _ _).trans (Nat.mod_eq_of_lt ?_)), ?_⟩
    · simp only [List.forall_mem_cons, List.not_mem_nil, false_imp_iff, implies_true, and_true, EXC_STATUS_STEP, EXC_STATUS_TRIP_LIVE, EXC_STATUS_STATE]
      omega
    · show s.dev.rd (EXC_STATUS_STEP x) + 1 < 2 ^ 10
      omega
    · exact Frame.trans (by simp) (kept.mono (by simp) (by simp))
  · have finish : s.dev.sweepHalfPeriod x trip = s.dev.endSchedule x := by
      rw [Dev.sweepHalfPeriod]
      rw [if_pos (by simp [alive, run, running, sweep, started]), if_neg (by simp [low]), if_neg (by omega)]
      exact if_neg (by omega)
    obtain ⟨stopped, dropped, idle⟩ := Dev.endSchedule_shows state
    rw [finish]
    exact ⟨stopped, dropped, idle, Frame.endSchedule (by simp) (by simp) (Frame.refl _ _ _)⟩

/-! ### Qualification and the open-wire check -/

/-- Elements of a list that do nothing. -/
theorem Dev.each_still {l : List Nat} {f : Dev → Nat → Dev} {d : Dev} (still : ∀ j ∈ l, f d j = d) : d.each l f = d := by
  induction l with
  | nil => rfl
  | cons j l ih =>
    rw [Dev.each_cons, still j List.mem_cons_self]
    exact ih (fun k hk => still k (List.mem_cons_of_mem _ hk))

/-- Only one element of a list does anything. -/
theorem Dev.each_of_only {l : List Nat} {f : Dev → Nat → Dev} {m : Nat} {d : Dev} (once : l.Nodup) (mem : m ∈ l)
    (before : ∀ j ∈ l, j ≠ m → f d j = d) (after : ∀ j ∈ l, j ≠ m → f (f d m) j = f d m) : d.each l f = f d m := by
  induction l with
  | nil => exact absurd mem List.not_mem_nil
  | cons j l ih =>
    obtain ⟨fresh, once'⟩ := List.nodup_cons.1 once
    rw [Dev.each_cons]
    rcases List.mem_cons.1 mem with rfl | inner
    · exact Dev.each_still (fun k hk => after k (List.mem_cons_of_mem _ hk) (fun same => fresh (same ▸ hk)))
    · rw [before j List.mem_cons_self (fun same => fresh (same ▸ inner))]
      exact ih once' inner (fun k hk => before k (List.mem_cons_of_mem _ hk)) (fun k hk => after k (List.mem_cons_of_mem _ hk))

/-- A monitor that no voice's loss hangs on: its condition is counted, and at most recorded. -/
theorem Dev.condition_of_lossless {d : Dev} {m code : Nat} (none_lost : d.rd (WM_LOSS_MASK_VOICES m) = 0) : ∃ w : Wm,
    d.condition m code = (d.putWm m w).inc (WM_COND_COUNT_COUNT m) ∨
      d.condition m code = ((d.putWm m w).inc (WM_COND_COUNT_COUNT m)).fault code transient [] := by
  have lossless (w : Wm) : ((d.putWm m w).inc (WM_COND_COUNT_COUNT m)).lossVoices m = [] := by
    rw [Dev.lossVoices, Dev.rd_inc_key (d.putWm m w) (by simp only [WM_LOSS_MASK_VOICES, WM_COND_COUNT_COUNT]; omega), Dev.putWm_rd, none_lost]
    decide
  unfold Dev.condition
  simp only [lossless, Dev.each_nil]
  split <;> split
  · exact ⟨_, .inl rfl⟩
  · exact ⟨_, .inr rfl⟩
  · exact ⟨_, .inl rfl⟩
  · exact ⟨_, .inr rfl⟩

/-- What such a condition shows. -/
theorem Dev.condition_shows {d : Dev} {m code : Nat} (none_lost : d.rd (WM_LOSS_MASK_VOICES m) = 0) :
    (d.condition m code).rd (WM_COND_COUNT_COUNT m) = (d.inc (WM_COND_COUNT_COUNT m)).rd (WM_COND_COUNT_COUNT m) ∧
      Frame (Part.wms :: faultParts) (WM_COND_COUNT_COUNT m :: faultFlds) d (d.condition m code) := by
  obtain ⟨w, counted | recorded⟩ := Dev.condition_of_lossless (code := code) none_lost
  · rw [counted]
    exact ⟨rfl, by simp⟩
  · have kept : Frame faultParts faultFlds ((d.putWm m w).inc (WM_COND_COUNT_COUNT m))
        (((d.putWm m w).inc (WM_COND_COUNT_COUNT m)).fault code transient []) :=
      Frame.fault_none (fun _ h => h) (fun _ h => h) (Frame.refl _ _ _)
    rw [recorded]
    refine ⟨kept.rd ?_, Frame.trans (by simp) (kept.mono (by simp) (by simp))⟩
    simp only [faultFlds, List.forall_mem_cons, List.not_mem_nil, false_imp_iff, implies_true, and_true, WM_COND_COUNT_COUNT, FAULT_STATUS_COUNT,
      FAULT_STATUS_LAST_CODE, LOG_STATUS_LOG_QUEUE, LOSS_TOTAL]
    omega

/-- The check of the pulse in progress is charged to a monitor. -/
def Dev.checkCharged (d : Dev) (x m : Nat) : Dev :=
  (d.putExc x { d.exc x with failed := (d.exc x).failed + 2 ^ m }).condition m 0x0302

theorem countFlds_apart {f : Fld} {m : Nat} (count : f.key ≠ (WM_COND_COUNT_COUNT m).key) (low : f.key < 1200000) :
    ∀ g ∈ WM_COND_COUNT_COUNT m :: faultFlds, f.key ≠ g.key := by
  simp only [faultFlds, List.forall_mem_cons, List.not_mem_nil, false_imp_iff, implies_true, and_true, FAULT_STATUS_COUNT, FAULT_STATUS_LAST_CODE,
    LOG_STATUS_LOG_QUEUE, LOSS_TOTAL]
  exact ⟨count, by omega⟩

theorem Dev.checkCharged_shows (d : Dev) {x m : Nat} (lossless : d.rd (WM_LOSS_MASK_VOICES m) = 0) :
    (d.checkCharged x m).rd (WM_COND_COUNT_COUNT m) = (d.inc (WM_COND_COUNT_COUNT m)).rd (WM_COND_COUNT_COUNT m) ∧
      Frame (Part.excs :: Part.wms :: faultParts) (WM_COND_COUNT_COUNT m :: faultFlds) d (d.checkCharged x m) := by
  obtain ⟨counted, charged⟩ := Dev.condition_shows (code := 0x0302)
    (d := d.putExc x { d.exc x with failed := (d.exc x).failed + 2 ^ m }) (m := m) lossless
  exact ⟨counted, Frame.trans (by simp) (charged.mono (by simp) (fun _ h => h))⟩

theorem Dev.exc_checkCharged {d : Dev} {x m : Nat} (lossless : d.rd (WM_LOSS_MASK_VOICES m) = 0) :
    (d.checkCharged x m).exc x = { d.exc x with failed := (d.exc x).failed + 2 ^ m } := by
  obtain ⟨-, charged⟩ := Dev.condition_shows (code := 0x0302)
    (d := d.putExc x { d.exc x with failed := (d.exc x).failed + 2 ^ m }) (m := m) lossless
  exact (congrArg (fun t => Tab.read Exc.fresh t x) (charged.parts .excs (by decide))).trans (Dev.exc_putExc_same _ _ _)

theorem Dev.failCheck_early {d : Dev} {x m : Nat} (fresh : (d.exc x).failed.testBit m = false)
    (early : (d.checkCharged x m).rd (EXC_STATUS_CHECK_FAIL x) < 2) :
    d.failCheck x m = (d.checkCharged x m).wr (EXC_STATUS_CHECK_FAIL x) ((d.checkCharged x m).rd (EXC_STATUS_CHECK_FAIL x) + 1) := by
  have count : min 3 ((d.checkCharged x m).rd (EXC_STATUS_CHECK_FAIL x) + 1) = (d.checkCharged x m).rd (EXC_STATUS_CHECK_FAIL x) + 1 := by omega
  rw [Dev.failCheck]
  dsimp only
  rw [if_neg (by simp [fresh]), ← Dev.checkCharged, count, if_neg (by omega)]

/-- The qualification of the pulse opens. -/
def Dev.qualOpened (d : Dev) (x : Nat) : Dev := d.putExc x { d.exc x with qual := true, checking := !(d.exc x).hold }

/-- Does the check of exciter `x` concern monitor `m`? -/
def Dev.checked (d : Dev) (x below m : Nat) : Bool :=
  d.is (WM_CFG_QUAL_EN m) && d.rd (WM_CFG_QUAL_EXC m) == x && d.rd (WM_STATUS_STATE m) == 4 && (below.testBit m || (d.wm m).level == 1)

/-- The check on one monitor. -/
def Dev.checkMonitor (x below : Nat) (d : Dev) (m : Nat) : Dev := if d.checked x below m then d.failCheck x m else d

theorem Dev.checkMonitor_of_unqualified {d : Dev} {x below m : Nat} (unqualified : d.rd (WM_CFG_QUAL_EN m) = 0) : d.checkMonitor x below m = d := by
  rw [Dev.checkMonitor, Dev.checked, Dev.is_of_zero unqualified]
  rfl

theorem Dev.openWireCheck_eq {d : Dev} {x : Nat} (below : Nat) (on : d.monitorsOn = true) (running : (d.exc x).running = true)
    (high : (d.exc x).high = true) (free : (d.exc x).hold = false) (mode : d.rd (EXC_CFG_MODE x) < 3)
    (wide : d.rd (EXC_TRIP_BLANK x) < d.rd (EXC_WIDTH_FCK x)) : d.openWireCheck x below =
      ((d.qualOpened x).each (List.range 8) (Dev.checkMonitor x below)).assertTrip x := by
  have phase : d.activePhase x = d.rd (EXC_WIDTH_FCK x) := if_neg (by omega)
  rw [Dev.openWireCheck]
  dsimp only
  rw [if_neg (by simp [on, running, high, phase]; omega), if_neg (by simp [free])]
  rfl

theorem Dev.assertTrip_of_clear {d : Dev} {x : Nat} (clear : d.tripSignal x = false) :
    d.assertTrip x = (d.wr (EXC_STATUS_TRIP_LIVE x) 0).driveExc x := by
  rw [Dev.assertTrip, clear]
  exact Dev.followTrip_of_clear clear

theorem Dev.exciterTrip_eq {d : Dev} {x : Nat} (good : d.power.good = true) (active : d.matrixActive = true) : d.exciterTrip x =
    ((d.inc (EXC_TRIP_COUNT_COUNT x)).wr (EXC_STATUS_TRIP_LIVE x) (bit (d.tripSignal x))).holdExc x := by
  rw [Dev.exciterTrip, if_neg (by simp [good, active])]

/-- The trip has been counted and shown. -/
def Dev.tripNoted (d : Dev) (x : Nat) : Dev :=
  (d.inc (EXC_TRIP_COUNT_COUNT x)).wr (EXC_STATUS_TRIP_LIVE x) (bit (d.tripSignal x))

/-- Settles O17: a trip holds at the safe level, a pulse without a trip releases, and an open-wire check charges its monitor. -/
theorem tripHoldsTheExciter : Obligations.TripHoldsTheExciter := by
  unfold Obligations.TripHoldsTheExciter
  refine ⟨fun s x small good active room up => ?_, fun s x e small alive run hx running low settled mode first unselected held => ⟨?_, ?_⟩,
    fun s x below e small inRange on hx running high free fresh mode wide =>
      ⟨fun m unselected only qualified hm exciter ready seen lossless room early => ?_, fun unqualified unselected => ?_⟩⟩
  · refine Does.of_onDev rfl (by simpa [Instr.wf] using small) ?_
    have noted : Frame [.excs] [EXC_TRIP_COUNT_COUNT x, EXC_STATUS_TRIP_LIVE x] s.dev (s.dev.tripNoted x) := by simp [Dev.tripNoted]
    have apart (f : Fld) (count : f.key ≠ (EXC_TRIP_COUNT_COUNT x).key) (live : f.key ≠ (EXC_STATUS_TRIP_LIVE x).key) :
        (s.dev.tripNoted x).rd f = s.dev.rd f := noted.rd (by simp [count, live])
    have state : (s.dev.tripNoted x).rd (EXC_STATUS_STATE x) = s.dev.rd (EXC_STATUS_STATE x) :=
      apart _ (by simp only [EXC_STATUS_STATE, EXC_TRIP_COUNT_COUNT]; omega) (by simp only [EXC_STATUS_STATE, EXC_STATUS_TRIP_LIVE]; omega)
    have started : ¬ ((s.dev.tripNoted x).mode = 0 ∧ !(s.dev.tripNoted x).booted 10) := by
      intro h
      have booted : s.dev.booted 10 = true := by
        simp only [Dev.matrixActive, Bool.and_eq_true] at active
        exact active.2
      exact absurd h.2 (by rw [show (s.dev.tripNoted x).booted 10 = s.dev.booted 10 from rfl, booted]; decide)
    obtain ⟨hold, -⟩ := (s.dev.tripNoted x).exc_holdExc x
    obtain ⟨held, out⟩ := Dev.holdExc_held (d := s.dev.tripNoted x) started (by rw [state]; omega)
    have kept : Frame [.excs] [EXC_STATUS_STATE x] (s.dev.tripNoted x) ((s.dev.tripNoted x).holdExc x) :=
      Frame.holdExc (by simp) (by simp) (Frame.refl _ _ _)
    rw [Dev.exciterTrip_eq good active, ← Dev.tripNoted]
    refine ⟨hold, held, out.trans (apart _ (by simp only [EXC_CFG_SAFE, EXC_TRIP_COUNT_COUNT]; omega)
      (by simp only [EXC_CFG_SAFE, EXC_STATUS_TRIP_LIVE]; omega)), ?_, (noted.mono (by simp) (by simp)).trans (kept.mono (by simp) (by simp))⟩
    rw [kept.rd (by simp only [List.forall_mem_singleton, EXC_TRIP_COUNT_COUNT, EXC_STATUS_STATE]; omega), Dev.tripNoted,
      Dev.rd_wr_key _ _ (by simp only [EXC_TRIP_COUNT_COUNT, EXC_STATUS_TRIP_LIVE]; omega)]
    exact Dev.rd_inc_below _ (f := EXC_TRIP_COUNT_COUNT x) room
  all_goals subst hx
  · refine Does.of_onDev rfl (by simpa [Instr.wf] using small) ?_
    have begun : s.dev.pulseStart x false = ((s.dev.pulseSeen x false).pulseReleased x).driveExc x := by
      rw [Dev.pulseStart]
      rw [if_pos (by simp [alive, run, running, low, mode, first])]
      exact Dev.beginPulse_of_clear unselected
    have apart (f : Fld) (live : f.key ≠ (EXC_STATUS_TRIP_LIVE x).key) : (s.dev.pulseSeen x false).rd f = s.dev.rd f := Dev.rd_pulseSeen live
    obtain ⟨state, out⟩ := Dev.pulseReleased_shows (d := s.dev.pulseSeen x false) (x := x)
      ((apart _ (by simp only [EXC_STATUS_STATE, EXC_STATUS_TRIP_LIVE]; omega)).trans held)
      ((apart _ (by simp only [POWER_STATUS_STATE, EXC_STATUS_TRIP_LIVE]; omega)).trans run) (by rw [Dev.exc_pulseSeen, settled])
      (Dev.rd_live_pulseSeen unselected) (by rw [Dev.exc_pulseSeen, running]) (by rw [Dev.exc_pulseSeen])
    rw [begun]
    refine ⟨?_, ?_, ?_, state, ?_, ?_⟩
    · simp [Dev.exc_pulseReleased]
    · simp [Dev.exc_pulseReleased, Dev.exc_pulseSeen]
    · simp [Dev.exc_pulseReleased, Dev.exc_pulseSeen, first]
    · rw [Dev.exc_driveExc]
      exact out.trans (apart _ (by simp only [EXC_CFG_ACTIVE, EXC_STATUS_TRIP_LIVE]; omega))
    · exact (Frame.driveExc_iff (by simp)).2 (Frame.pulseReleased (by simp) (by simp) (Frame.pulseSeen (by simp) (by simp) (Frame.refl _ _ _)))
  · refine Does.of_onDev rfl (by simpa [Instr.wf] using small) ?_
    have begun : s.dev.pulseStart x true = (s.dev.pulseSeen x true).holdExc x := by
      rw [Dev.pulseStart]
      rw [if_pos (by simp [alive, run, running, low, mode, first])]
      exact Dev.beginPulse_of_trip _ _
    have apart (f : Fld) (live : f.key ≠ (EXC_STATUS_TRIP_LIVE x).key) : (s.dev.pulseSeen x true).rd f = s.dev.rd f := Dev.rd_pulseSeen live
    have mode' : (s.dev.pulseSeen x true).mode = 1 := (apart _ (by simp only [POWER_STATUS_STATE, EXC_STATUS_TRIP_LIVE]; omega)).trans run
    obtain ⟨hold, up, pulse, -⟩ := (s.dev.pulseSeen x true).exc_holdExc x
    obtain ⟨still, out⟩ := Dev.holdExc_held (d := s.dev.pulseSeen x true) (x := x) (by rw [mode']; simp)
      (.inr (.inr ((apart _ (by simp only [EXC_STATUS_STATE, EXC_STATUS_TRIP_LIVE]; omega)).trans held)))
    rw [begun]
    refine ⟨hold, up.trans (by rw [Dev.exc_pulseSeen]), pulse.trans (by rw [Dev.exc_pulseSeen, first]), still,
      out.trans (apart _ (by simp only [EXC_CFG_SAFE, EXC_STATUS_TRIP_LIVE]; omega)), ?_⟩
    exact Frame.holdExc (by simp) (by simp) (Frame.pulseSeen (by simp) (by simp) (Frame.refl _ _ _))
  · refine Does.of_onDev rfl (by simpa [Instr.wf] using ⟨small, inRange⟩) ?_
    have opened : Frame [.excs] [] s.dev (s.dev.qualOpened x) := by simp [Dev.qualOpened]
    obtain ⟨counted, charged⟩ := (s.dev.qualOpened x).checkCharged_shows (x := x) (m := m) lossless
    have kept : Frame (Part.excs :: Part.wms :: faultParts) (WM_COND_COUNT_COUNT m :: faultFlds) s.dev ((s.dev.qualOpened x).checkCharged x m) :=
      (opened.mono (by simp) (by simp)).trans charged
    have fails : ((s.dev.qualOpened x).checkCharged x m).rd (EXC_STATUS_CHECK_FAIL x) = s.dev.rd (EXC_STATUS_CHECK_FAIL x) :=
      kept.rd (countFlds_apart (by simp only [EXC_STATUS_CHECK_FAIL, WM_COND_COUNT_COUNT]; omega) (by simp only [EXC_STATUS_CHECK_FAIL]; omega))
    have unit : ((s.dev.qualOpened x).checkCharged x m).exc x =
        { s.dev.exc x with qual := true, checking := !(s.dev.exc x).hold, failed := (s.dev.exc x).failed + 2 ^ m } := by
      rw [Dev.exc_checkCharged (d := s.dev.qualOpened x) lossless]
      simp [Dev.qualOpened]
    have charge : Dev.checkMonitor x below (s.dev.qualOpened x) m =
        ((s.dev.qualOpened x).checkCharged x m).wr (EXC_STATUS_CHECK_FAIL x) (s.dev.rd (EXC_STATUS_CHECK_FAIL x) + 1) := by
      rw [Dev.checkMonitor, if_pos, Dev.failCheck_early (by simp [Dev.qualOpened, fresh]) (by rw [fails]; exact early), fails]
      have levels : (s.dev.qualOpened x).checked x below m = s.dev.checked x below m := rfl
      rw [levels]
      simp [Dev.checked, Dev.is, qualified, exciter, ready, seen]
    have each : (s.dev.qualOpened x).each (List.range 8) (Dev.checkMonitor x below) =
        ((s.dev.qualOpened x).checkCharged x m).wr (EXC_STATUS_CHECK_FAIL x) (s.dev.rd (EXC_STATUS_CHECK_FAIL x) + 1) := by
      rw [← charge]
      have off (j : Nat) (hj : j ∈ List.range 8) (other : j ≠ m) : s.dev.rd (WM_CFG_QUAL_EN j) = 0 := by
        by_contra on
        exact other (only j (List.mem_range.1 hj) on)
      refine Dev.each_of_only List.nodup_range (List.mem_range.2 hm) (fun j hj other => Dev.checkMonitor_of_unqualified (off j hj other))
        (fun j hj other => Dev.checkMonitor_of_unqualified ?_)
      rw [charge, Dev.rd_wr_key _ _ (by simp only [WM_CFG_QUAL_EN, EXC_STATUS_CHECK_FAIL]; omega),
        kept.rd (countFlds_apart (by simp only [WM_CFG_QUAL_EN, WM_COND_COUNT_COUNT]; omega)
          (by have := List.mem_range.1 hj; simp only [WM_CFG_QUAL_EN]; omega))]
      exact off j hj other
    have sel : (((s.dev.qualOpened x).checkCharged x m).wr (EXC_STATUS_CHECK_FAIL x) (s.dev.rd (EXC_STATUS_CHECK_FAIL x) + 1)).rd (EXC_TRIP_SEL x) = 0 := by
      rw [Dev.rd_wr_key _ _ (by simp only [EXC_TRIP_SEL, EXC_STATUS_CHECK_FAIL]; omega),
        kept.rd (countFlds_apart (by simp only [EXC_TRIP_SEL, WM_COND_COUNT_COUNT]; omega) (by simp only [EXC_TRIP_SEL]; omega))]
      exact unselected
    have run : s.dev.openWireCheck x below = ((((s.dev.qualOpened x).checkCharged x m).wr (EXC_STATUS_CHECK_FAIL x)
        (s.dev.rd (EXC_STATUS_CHECK_FAIL x) + 1)).wr (EXC_STATUS_TRIP_LIVE x) 0).driveExc x := by
      rw [Dev.openWireCheck_eq below on running high free mode wide, each]
      exact Dev.assertTrip_of_clear (Dev.tripSignal_of_unselected sel)
    rw [run]
    refine ⟨?_, ?_, ?_, ?_, ?_⟩
    · simp [unit]
    · simp [unit, fresh]
    · rw [Dev.rd_driveExc, Dev.rd_wr_key _ _ (by simp only [EXC_STATUS_CHECK_FAIL, EXC_STATUS_TRIP_LIVE]; omega)]
      refine (Dev.rd_wr_same _ (EXC_STATUS_CHECK_FAIL x) _).trans (Nat.mod_eq_of_lt ?_)
      show s.dev.rd (EXC_STATUS_CHECK_FAIL x) + 1 < 2 ^ 2
      omega
    · rw [Dev.rd_driveExc, Dev.rd_wr_key _ _ (by simp only [WM_COND_COUNT_COUNT, EXC_STATUS_TRIP_LIVE]; omega),
        Dev.rd_wr_key _ _ (by simp only [WM_COND_COUNT_COUNT, EXC_STATUS_CHECK_FAIL]; omega), counted]
      exact Dev.rd_inc_below _ (f := WM_COND_COUNT_COUNT m) room
    · exact (Frame.driveExc_iff (by simp)).2 (Frame.wr (by simp) (Frame.wr (by simp) (kept.mono (by simp) (by simp))))
  · refine Does.of_onDev rfl (by simpa [Instr.wf] using ⟨small, inRange⟩) ?_
    have run : s.dev.openWireCheck x below = ((s.dev.qualOpened x).wr (EXC_STATUS_TRIP_LIVE x) 0).driveExc x := by
      rw [Dev.openWireCheck_eq below on running high free mode wide, Dev.each_still (d := s.dev.qualOpened x) (fun m hm => Dev.checkMonitor_of_unqualified (unqualified m (List.mem_range.1 hm)))]
      exact Dev.assertTrip_of_clear (Dev.tripSignal_of_unselected unselected)
    rw [run]
    refine ⟨?_, ?_, ?_, ?_⟩
    · simp [Dev.qualOpened]
    · simp [Dev.qualOpened, free]
    · rw [Dev.rd_driveExc, Dev.rd_wr_key _ _ (by simp only [EXC_STATUS_CHECK_FAIL, EXC_STATUS_TRIP_LIVE]; omega)]
      rfl
    · simp [Dev.qualOpened]

end Sys2Proof.Machine
end

/-! PROOFS: what the gate, an error, the outputs' safe levels and the safe state touch; HOLD and STANDBY. -/
section

namespace Sys2Proof.Machine

open Reg

/-! ### Fields that the shared operations show -/

/-- A committed error (R184, R202). -/
def errorFlds : List Fld :=
  [PIPE_EVENT_ERROR_ENTRY, LR_WEIGHT_WEIGHT, LR_STATUS_STABLE, LR_STATUS_CENTER_ZERO, LR_STATUS_OVERLOAD, LR_STATUS_UNDERLOAD, LR_STATUS_ERROR,
    LR_STATUS_ERR_CAUSE, PIPE_STATUS_FED, PIPE_STATUS_READY, PIPE_STATUS_MOTION_FILL, LR_SEQ_SEQ] ++
  (List.range 4).map SP_STATE_ON ++ (List.range 4).map SP_STATE_FORCED

/-- The closing of the gate (R58, R59). -/
def gateFlds : List Fld :=
  TB_STATUS_GATED :: fifoFlds ++ (List.range 4).map ANA_RSTAT_TOTAL_SUSPECT ++ (List.range 20).map TUNE_HITS_COUNT

/-- The entry into the safe state (R337, R338). -/
def safeFlds : List Fld :=
  [POWER_STATUS_STATE, SAFE_STATUS_CAUSE, SAFE_STATUS_CODE, SAFE_STATUS_PENDING, FIT_STATUS_QUEUE, FIT_STATUS_BUSY, TB_STATUS_REFOUT_SRC] ++
  faultFlds ++ gateFlds ++ errorFlds

/-- The parts that a closing gate touches. -/
def gateParts : List Part := [.voices, .anas, .time, .tune]

/-- The parts that a committed error touches. -/
def errorParts : List Part := [.pipe, .pins] ++ notifyParts

/-- The parts that the entry into the safe state touches. -/
def safeParts : List Part := [.items, .anaItems, .power, .timers, .excs] ++ faultParts ++ gateParts ++ errorParts

section

variable {us : List Part} {fs : List Fld} {d0 d : Dev}

theorem mem_family {fs : List Fld} {f : Nat → Fld} {n i : Nat} (hf : (List.range n).map f ⊆ fs) (hi : i ∈ List.range n) : f i ∈ fs :=
  hf (List.mem_map_of_mem hi)

/-! ### The gate -/

theorem Frame.restAll {reason : Nat} (hu : [Part.voices, Part.anas] ⊆ us) (hf : fifoFlds ⊆ fs) (h : Frame us fs d0 d) :
    Frame us fs d0 (d.restAll reason) :=
  h.each (fun _ _ hn kept => kept.restVoice hu (mem_family hf hn))

theorem Frame.suspectTotals (hf : (List.range 4).map ANA_RSTAT_TOTAL_SUSPECT ⊆ fs) (h : Frame us fs d0 d) : Frame us fs d0 d.suspectTotals := by
  refine h.each (fun d a ha kept => ?_)
  split
  · exact kept.wr (mem_family hf ha)
  · exact kept

/-- The hits of every running collection are dropped. -/
def Dev.hitsDropped (d : Dev) : Dev :=
  d.each (List.range 20) (fun d c =>
    if d.rd (TUNE_STATUS_MODE c) = 0 then d
    else (d.putTun c { d.tun c with hist := [], iso := false }).wr (TUNE_HITS_COUNT c) 0)

theorem Frame.hitsDropped (hu : Part.tune ∈ us) (hf : (List.range 20).map TUNE_HITS_COUNT ⊆ fs) (h : Frame us fs d0 d) : Frame us fs d0 d.hitsDropped := by
  refine h.each (fun d c hc kept => ?_)
  split
  · exact kept
  · exact Frame.wr (mem_family hf hc) ((Frame.putTun_iff hu).2 kept)

/-- The gate closes on an open clock. -/
def Dev.gateShut (d : Dev) : Dev := { d with time := { d.time with gap := 0 } }.wr TB_STATUS_GATED 1

theorem Dev.closeGate_eq (d : Dev) (reason : Nat) : d.closeGate reason =
    if (d.restAll reason).suspectTotals.is TB_STATUS_GATED then (d.restAll reason).suspectTotals
    else (d.restAll reason).suspectTotals.gateShut.hitsDropped := rfl

theorem Frame.closeGate {reason : Nat} (hu : gateParts ⊆ us) (hf : gateFlds ⊆ fs) (h : Frame us fs d0 d) : Frame us fs d0 (d.closeGate reason) := by
  obtain ⟨gate, rest⟩ := List.cons_subset.1 hf
  obtain ⟨rest, hits⟩ := List.append_subset.1 rest
  obtain ⟨fifos, totals⟩ := List.append_subset.1 rest
  have rested := (h.restAll (reason := reason) (List.Subset.trans (by decide) hu) fifos).suspectTotals totals
  rw [Dev.closeGate_eq]
  split
  · exact rested
  · exact Frame.hitsDropped (hu (by decide)) hits (Frame.wr gate (Frame.time (hu (by decide)) rested))

/-- The gate is closed. -/
theorem Dev.gated_closeGate (d : Dev) (reason : Nat) : (d.closeGate reason).is TB_STATUS_GATED = true := by
  rw [Dev.closeGate_eq]
  split
  · assumption
  · have kept : Frame [.tune] ((List.range 20).map TUNE_HITS_COUNT) (d.restAll reason).suspectTotals.gateShut
        (d.restAll reason).suspectTotals.gateShut.hitsDropped := Frame.hitsDropped (by simp) (fun _ h => h) (Frame.refl _ _ _)
    rw [kept.is (by decide)]
    exact Dev.is_of_ne_zero (ne_of_eq_of_ne (Dev.rd_wr_same _ TB_STATUS_GATED 1) (by decide : (1 : Nat) ≠ 0))

/-- What the gate's closing leaves of the time. -/
theorem Dev.time_closeGate (d : Dev) (reason : Nat) : (d.closeGate reason).time = d.time ∨ (d.closeGate reason).time = { d.time with gap := 0 } := by
  have rested : Frame [.voices, .anas] (fifoFlds ++ (List.range 4).map ANA_RSTAT_TOTAL_SUSPECT) d (d.restAll reason).suspectTotals :=
    Frame.suspectTotals (List.subset_append_right _ _) (Frame.restAll (fun _ h => h) (List.subset_append_left _ _) (Frame.refl _ _ _))
  have time : (d.restAll reason).suspectTotals.time = d.time := rested.parts .time (by decide)
  rw [Dev.closeGate_eq]
  split
  · exact .inl time
  · have kept : Frame [.tune] ((List.range 20).map TUNE_HITS_COUNT) (d.restAll reason).suspectTotals.gateShut
        (d.restAll reason).suspectTotals.gateShut.hitsDropped := Frame.hitsDropped (by simp) (fun _ h => h) (Frame.refl _ _ _)
    exact .inr (Eq.trans (kept.parts .time (by decide)) (by rw [← time]; rfl))

/-! ### The outputs and the error shown -/

theorem Frame.spForceAll (hu : Part.pins ∈ us) (hf : (List.range 4).map SP_STATE_ON ++ (List.range 4).map SP_STATE_FORCED ⊆ fs)
    (h : Frame us fs d0 d) : Frame us fs d0 d.spForceAll := by
  obtain ⟨on, forced⟩ := List.append_subset.1 hf
  exact h.each (fun d i hi kept => Frame.pins hu (Frame.wr (mem_family forced hi) (kept.wr (mem_family on hi))))

theorem Frame.excSafeAll (hu : Part.excs ∈ us) (h : Frame us fs d0 d) : Frame us fs d0 d.excSafeAll :=
  h.each (fun _ _ _ kept => kept.putExc hu)

theorem Frame.totLow (hu : Part.pins ∈ us) (h : Frame us fs d0 d) : Frame us fs d0 d.totLow := h.pins hu

theorem Frame.showError {cause : Nat} (hf : errorFlds ⊆ fs) (h : Frame us fs d0 d) : Frame us fs d0 (d.showError cause) := by
  have shown {e : Dev} (k : Frame us fs d0 e) : Frame us fs d0 (e |>.wr LR_WEIGHT_WEIGHT 0 |>.wr LR_STATUS_STABLE 0 |>.wr LR_STATUS_CENTER_ZERO 0 |>.wr
      LR_STATUS_OVERLOAD 0 |>.wr LR_STATUS_UNDERLOAD 0 |>.wr LR_STATUS_ERROR 1 |>.wr LR_STATUS_ERR_CAUSE cause) :=
    ((((((k.wr (hf (by decide))).wr (hf (by decide))).wr (hf (by decide))).wr (hf (by decide))).wr (hf (by decide))).wr (hf (by decide))).wr
      (hf (by decide))
  unfold Dev.showError
  dsimp only
  split
  · exact shown h
  · exact shown (h.wr (hf (by decide)))

theorem Frame.restartFilters (hu : Part.pipe ∈ us) (hf : [PIPE_STATUS_FED, PIPE_STATUS_READY, PIPE_STATUS_MOTION_FILL] ⊆ fs) (h : Frame us fs d0 d) :
    Frame us fs d0 d.restartFilters :=
  (((h.pipe hu).wr (hf (by simp))).wr (hf (by simp))).wr (hf (by simp))

theorem Frame.countCommit {kind : Nat} (hu : notifyParts ⊆ us) (hf : LR_SEQ_SEQ ∈ fs) (h : Frame us fs d0 d) : Frame us fs d0 (d.countCommit kind) :=
  Frame.notify hu (h.wr hf)

theorem Frame.commitError {cause : Nat} (hu : errorParts ⊆ us) (hf : errorFlds ⊆ fs) (h : Frame us fs d0 d) : Frame us fs d0 (d.commitError cause) :=
  Frame.countCommit (List.Subset.trans (by decide) hu) (hf (by decide))
    (Frame.spForceAll (hu (by decide)) (List.Subset.trans (by decide) hf)
      (Frame.restartFilters (hu (by decide)) (List.Subset.trans (by decide) hf) (h.showError hf)))

/-- A committed error is shown with its cause. -/
theorem Dev.commitError_shows (d : Dev) {cause : Nat} (small : cause < 16) : (d.commitError cause).rd LR_STATUS_ERROR = 1 ∧
    (d.commitError cause).rd LR_STATUS_ERR_CAUSE = cause ∧ (d.commitError cause).pipe.holdCause = d.pipe.holdCause := by
  have kept : Frame ([.pins] ++ notifyParts) (LR_SEQ_SEQ :: ((List.range 4).map SP_STATE_ON ++ (List.range 4).map SP_STATE_FORCED))
      (d.showError cause).restartFilters (d.commitError cause) :=
    Frame.countCommit (by decide) (by simp) (Frame.spForceAll (by decide) (List.subset_cons_self _ _) (Frame.refl _ _ _))
  have filters : Frame [.pipe] [PIPE_STATUS_FED, PIPE_STATUS_READY, PIPE_STATUS_MOTION_FILL] (d.showError cause) (d.showError cause).restartFilters :=
    Frame.restartFilters (by simp) (fun _ h => h) (Frame.refl _ _ _)
  have shown : Frame [] errorFlds d (d.showError cause) := Frame.showError (fun _ h => h) (Frame.refl _ _ _)
  refine ⟨(kept.rd (by decide)).trans ((filters.rd (by decide)).trans ?_), (kept.rd (by decide)).trans ((filters.rd (by decide)).trans ?_), ?_⟩
  · rw [Dev.showError, Dev.rd_wr_key _ _ (by decide)]
    exact Dev.rd_wr_same _ LR_STATUS_ERROR 1
  · exact (Dev.rd_wr_same _ LR_STATUS_ERR_CAUSE _).trans (Nat.mod_eq_of_lt small)
  · have pipe : (d.commitError cause).pipe = (d.showError cause).restartFilters.pipe := kept.parts .pipe (by decide)
    have same : (d.showError cause).pipe = d.pipe := shown.parts .pipe (by simp)
    rw [pipe, ← same]
    rfl

/-! ### The safe state -/

/-- The safe state is shown and recorded. -/
def Dev.safeShown (d : Dev) (cause code : Nat) : Dev :=
  let d := (((d.wr POWER_STATUS_STATE 5).wr SAFE_STATUS_CAUSE cause).wr SAFE_STATUS_CODE code).wr SAFE_STATUS_PENDING 1
  d.writeFault 0x0B20 reportOnly srcNone 0 0 0 (d.rd TOT_BACKLOG)

/-- The device's own operations are dropped. -/
def Dev.operationsDropped (d : Dev) : Dev :=
  { d with time := { d.time with step := 0, planned := false }, items := [], anaItems := [], power := { d.power with firstOk := false, entering := false },
                          writer := { d.writer with waiting := d.writer.waiting.filter (fun e => e.ring != 16 && e.ring != 17) } }

/-- The periods under way are dropped with them. -/
def Dev.unitsDropped (d : Dev) : Dev :=
  (d.operationsDropped.each (List.range 4) (fun d t => d.putTimer t { d.timer t with live := false })).wr FIT_STATUS_QUEUE 0 |>.wr FIT_STATUS_BUSY 0

/-- The outputs go to their safe levels. -/
def Dev.outputsSafe (d : Dev) : Dev := (((d.commitError 8).totLow).excSafeAll).wr TB_STATUS_REFOUT_SRC 0

theorem Dev.enterSafe_eq {d : Dev} (running : d.mode ≠ 5) (cause code : Nat) :
    d.enterSafe cause code = (((d.safeShown cause code).closeGate 6).unitsDropped).outputsSafe := by
  rw [Dev.enterSafe, if_neg running]
  rfl

theorem Frame.safeShown {cause code : Nat} (hu : faultParts ⊆ us)
    (hf : [POWER_STATUS_STATE, SAFE_STATUS_CAUSE, SAFE_STATUS_CODE, SAFE_STATUS_PENDING] ++ faultFlds ⊆ fs) (h : Frame us fs d0 d) :
    Frame us fs d0 (d.safeShown cause code) := by
  obtain ⟨shown, faults⟩ := List.append_subset.1 hf
  exact Frame.writeFault hu faults
    ((((h.wr (shown (by simp))).wr (shown (by simp))).wr (shown (by simp))).wr (shown (by simp)))

theorem Frame.unitsDropped (hu : [Part.items, Part.anaItems, Part.power, Part.timers, Part.time, Part.writer] ⊆ us)
    (hf : [FIT_STATUS_QUEUE, FIT_STATUS_BUSY] ⊆ fs) (h : Frame us fs d0 d) : Frame us fs d0 d.unitsDropped := by
  refine Frame.wr (hf (by simp)) (Frame.wr (hf (by simp)) (Frame.each ?_ (fun _ _ _ kept => kept.putTimer (hu (by simp)))))
  exact h.set rfl (fun u x => by cases u <;> first | rfl | exact absurd (hu (by simp)) x)

theorem Frame.outputsSafe (hu : Part.excs :: errorParts ⊆ us) (hf : TB_STATUS_REFOUT_SRC :: errorFlds ⊆ fs) (h : Frame us fs d0 d) :
    Frame us fs d0 d.outputsSafe := by
  obtain ⟨excs, errors⟩ := List.cons_subset.1 hu
  obtain ⟨refout, shown⟩ := List.cons_subset.1 hf
  exact Frame.wr refout (Frame.excSafeAll excs (Frame.totLow (errors (by decide)) (h.commitError errors shown)))

theorem Frame.enterSafe {cause code : Nat} (hu : safeParts ⊆ us) (hf : safeFlds ⊆ fs) (h : Frame us fs d0 d) :
    Frame us fs d0 (d.enterSafe cause code) := by
  by_cases running : d.mode = 5
  · rwa [Dev.enterSafe, if_pos running]
  · rw [Dev.enterSafe_eq running]
    exact Frame.outputsSafe (List.Subset.trans (by decide) hu) (List.Subset.trans (by decide) hf)
      (Frame.unitsDropped (List.Subset.trans (by decide) hu) (List.Subset.trans (by decide) hf)
        (Frame.closeGate (List.Subset.trans (by decide) hu) (List.Subset.trans (by decide) hf)
          (Frame.safeShown (List.Subset.trans (by decide) hu) (List.Subset.trans (by decide) hf) h)))

/-- What the entry into the safe state shows. -/
theorem Dev.enterSafe_shows {d : Dev} (running : d.mode ≠ 5) {cause code : Nat} (causes : cause < 8) (codes : code < 2 ^ 16) :
    (d.enterSafe cause code).rd POWER_STATUS_STATE = 5 ∧ (d.enterSafe cause code).rd SAFE_STATUS_CAUSE = cause ∧
      (d.enterSafe cause code).rd SAFE_STATUS_CODE = code ∧ (d.enterSafe cause code).is TB_STATUS_GATED = true := by
  have recorded : Frame faultParts faultFlds ((((d.wr POWER_STATUS_STATE 5).wr SAFE_STATUS_CAUSE cause).wr SAFE_STATUS_CODE code).wr SAFE_STATUS_PENDING 1)
      (d.safeShown cause code) := Frame.writeFault (fun _ h => h) (fun _ h => h) (Frame.refl _ _ _)
  have gated : Frame gateParts gateFlds (d.safeShown cause code) ((d.safeShown cause code).closeGate 6) :=
    Frame.closeGate (fun _ h => h) (fun _ h => h) (Frame.refl _ _ _)
  have rest : Frame safeParts (FIT_STATUS_QUEUE :: FIT_STATUS_BUSY :: TB_STATUS_REFOUT_SRC :: errorFlds) ((d.safeShown cause code).closeGate 6)
      (d.enterSafe cause code) := by
    rw [Dev.enterSafe_eq running]
    exact Frame.outputsSafe (by decide) (by decide) (Frame.unitsDropped (by decide) (by decide) (Frame.refl _ _ _))
  refine ⟨(rest.rd (by decide)).trans ((gated.rd (by decide)).trans ((recorded.rd (by decide)).trans ?_)),
    (rest.rd (by decide)).trans ((gated.rd (by decide)).trans ((recorded.rd (by decide)).trans ?_)),
    (rest.rd (by decide)).trans ((gated.rd (by decide)).trans ((recorded.rd (by decide)).trans ?_)),
    (rest.is (by decide)).trans (Dev.gated_closeGate _ _)⟩
  · simp (disch := decide) only [Dev.rd_wr_key]
    exact Dev.rd_wr_same _ POWER_STATUS_STATE 5
  · simp (disch := decide) only [Dev.rd_wr_key]
    exact (Dev.rd_wr_same _ SAFE_STATUS_CAUSE _).trans (Nat.mod_eq_of_lt causes)
  · simp (disch := decide) only [Dev.rd_wr_key]
    exact (Dev.rd_wr_same _ SAFE_STATUS_CODE _).trans (Nat.mod_eq_of_lt codes)

end

end Sys2Proof.Machine
end

/-! PROOFS: HOLD, STANDBY and resume; what a failed switch and a failing crystal come to. -/
section

namespace Sys2Proof.Machine

open Reg

section

variable {us : List Part} {fs : List Fld} {d0 d : Dev}

/-! ### The capture unit and the exciters -/

theorem Frame.takeSegment (hu : Part.cap ∈ us) (hf : [CAP_STATUS_STATE, CAP_STATUS_SEG] ⊆ fs) (h : Frame us fs d0 d) : Frame us fs d0 d.takeSegment := by
  have state : CAP_STATUS_STATE ∈ fs := hf (by simp)
  have seg : CAP_STATUS_SEG ∈ fs := hf (by simp)
  unfold Dev.takeSegment
  split
  · exact Frame.wr state ((Frame.putCap_iff hu).2 h)
  · have taken (c : Cap) (g : Nat) : Frame us fs d0 ((d.putCap c).wr CAP_STATUS_SEG g) := Frame.wr seg ((Frame.putCap_iff hu).2 h)
    dsimp only
    split
    · exact (taken _ _).wr state
    · exact (taken _ _).wr state

theorem Frame.enableCapture (hu : Part.cap ∈ us) (hf : [CAP_STATUS_STATE, CAP_STATUS_SEG] ⊆ fs) (h : Frame us fs d0 d) :
    Frame us fs d0 d.enableCapture := by
  unfold Dev.enableCapture
  split
  · exact Frame.takeSegment hu hf (Frame.wr (hf (by simp)) h)
  · exact h

theorem Frame.indexCapture {trunc aborted : Bool} (hu : Part.cap :: notifyParts ⊆ us) (hf : CAP_STATUS_CSEQ ∈ fs) (h : Frame us fs d0 d) :
    Frame us fs d0 (d.indexCapture trunc aborted) := by
  obtain ⟨cap, told⟩ := List.cons_subset.1 hu
  unfold Dev.indexCapture
  split
  · exact h
  · exact (Frame.putCap_iff cap).2 (Frame.notify told (Frame.offer (told (by decide)) ((Frame.step1_iff hf).2 h)))

theorem Frame.disableCapture (hu : Part.cap :: notifyParts ⊆ us) (hf : [CAP_STATUS_CSEQ, CAP_STATUS_STATE] ⊆ fs) (h : Frame us fs d0 d) :
    Frame us fs d0 d.disableCapture := by
  unfold Dev.disableCapture
  dsimp only
  split
  · exact Frame.wr (hf (by simp)) ((Frame.putCap_iff (hu (by simp))).2 (h.indexCapture hu (hf (by simp))))
  · exact Frame.wr (hf (by simp)) ((Frame.putCap_iff (hu (by simp))).2 h)

theorem Dev.rd_state_disableCapture (d : Dev) : d.disableCapture.rd CAP_STATUS_STATE = 0 := Dev.rd_wr_same _ CAP_STATUS_STATE 0

theorem Frame.abandonExc {x : Nat} (hu : Part.excs ∈ us) (hf : EXC_STATUS_STATE x ∈ fs) (h : Frame us fs d0 d) : Frame us fs d0 (d.abandonExc x) := by
  unfold Dev.abandonExc Dev.dropSchedule
  dsimp only
  split <;> simpa [hu, hf] using h

/-! ### The ports go down -/

/-- A port's lanes go to DETECT but for those that are retired, and the port shows it. -/
def Dev.portDown (d : Dev) (p : Nat) : Dev :=
  let d := d.each [0, 1] (fun d l => if d.rd (laneState p l) = 5 then d else d.wr (laneState p l) 0)
  (d.putPort p { PortSt.fresh with txSeq := (d.port p).txSeq }).showPort p

theorem Dev.portsDown_eq (d : Dev) : d.portsDown = (d.portDown 0).portDown 1 := rfl

/-- The fields of a port that goes down. -/
def downFlds (p : Nat) : List Fld :=
  [LINK_STATE_LANE_STATE_0 p, LINK_STATE_LANE_STATE_1 p, LINK_STATE_REPLAY_FILL p, LINK_STATE_CLOCK_LANE p, LINK_STATE_STATE p]

theorem Frame.lanesOff {p : Nat} (hf : [LINK_STATE_LANE_STATE_0 p, LINK_STATE_LANE_STATE_1 p] ⊆ fs) (h : Frame us fs d0 d) :
    Frame us fs d0 (d.each [0, 1] (fun d l => if d.rd (laneState p l) = 5 then d else d.wr (laneState p l) 0)) := by
  refine h.each (fun d l _ frame => ?_)
  split
  · exact frame
  · exact frame.wr (hf (by unfold laneState; split <;> simp))

theorem Frame.showPort {p : Nat} (hf : [LINK_STATE_CLOCK_LANE p, LINK_STATE_STATE p] ⊆ fs) (h : Frame us fs d0 d) : Frame us fs d0 (d.showPort p) :=
  (h.wr (hf (by simp))).wr (hf (by simp))

theorem Frame.portDown {p : Nat} (hu : Part.choir ∈ us) (hf : downFlds p ⊆ fs) (h : Frame us fs d0 d) : Frame us fs d0 (d.portDown p) :=
  Frame.showPort (List.Subset.trans (by simp [downFlds]) hf)
    ((h.lanesOff (List.Subset.trans (by simp [downFlds]) hf)).putPort hu (hf (by simp [downFlds])))

theorem Frame.portsDown (hu : Part.choir ∈ us) (hf : downFlds 0 ++ downFlds 1 ⊆ fs) (h : Frame us fs d0 d) : Frame us fs d0 d.portsDown := by
  obtain ⟨down0, down1⟩ := List.append_subset.1 hf
  exact (h.portDown hu down0).portDown hu down1

/-- A lane that is turned off is in DETECT or retired. -/
theorem Dev.lane_off (d : Dev) (p l : Nat) : (if d.rd (laneState p l) = 5 then d else d.wr (laneState p l) 0).rd (laneState p l) = 0 ∨
    (if d.rd (laneState p l) = 5 then d else d.wr (laneState p l) 0).rd (laneState p l) = 5 := by
  split
  · next gone => exact .inr gone
  · exact .inl ((Dev.rd_wr_same _ _ _).trans (Nat.zero_mod _))

theorem Dev.rd_state_portDown (d : Dev) (p : Nat) : (d.portDown p).rd (LINK_STATE_STATE p) = 0 := by
  have lanes (e : Dev) (lane0 : e.rd (laneState p 0) = 0 ∨ e.rd (laneState p 0) = 5) (lane1 : e.rd (laneState p 1) = 0 ∨ e.rd (laneState p 1) = 5)
      (x : PortSt) : ((e.putPort p x).showPort p).rd (LINK_STATE_STATE p) = 0 := by
    have same0 : (e.putPort p x).rd (LINK_STATE_LANE_STATE_0 p) = e.rd (laneState p 0) :=
      Dev.rd_putPort_other _ (by simp only [LINK_STATE_LANE_STATE_0, LINK_STATE_REPLAY_FILL]; omega)
    have same1 : (e.putPort p x).rd (LINK_STATE_LANE_STATE_1 p) = e.rd (laneState p 1) :=
      Dev.rd_putPort_other _ (by simp only [LINK_STATE_LANE_STATE_1, LINK_STATE_REPLAY_FILL]; omega)
    have down : portStateOf (e.rd (laneState p 0)) (e.rd (laneState p 1)) = 0 := by
      rcases lane0 with h0 | h0 <;> rcases lane1 with h1 | h1 <;> rw [h0, h1] <;> rfl
    rw [Dev.showPort, same0, same1, down]
    exact Dev.rd_wr_same _ (LINK_STATE_STATE p) 0
  refine lanes _ ?_ (Dev.lane_off _ p 1) _
  have kept (e : Dev) : (if e.rd (laneState p 1) = 5 then e else e.wr (laneState p 1) 0).rd (laneState p 0) = e.rd (laneState p 0) := by
    split
    · rfl
    · exact Dev.rd_wr_key _ _ (by simp only [laneState, LINK_STATE_LANE_STATE_0, LINK_STATE_LANE_STATE_1]; simp)
  have first := Dev.lane_off d p 0
  rw [← kept] at first
  exact first

theorem Dev.portsDown_shows (d : Dev) : d.portsDown.rd (LINK_STATE_STATE 0) = 0 ∧ d.portsDown.rd (LINK_STATE_STATE 1) = 0 := by
  have kept : Frame [.choir] (downFlds 1) (d.portDown 0) ((d.portDown 0).portDown 1) := Frame.portDown (by simp) (fun _ h => h) (Frame.refl _ _ _)
  rw [Dev.portsDown_eq]
  exact ⟨(kept.rd (by decide)).trans (d.rd_state_portDown 0), (d.portDown 0).rd_state_portDown 1⟩

end

/-! ### HOLD and RUN -/

/-- The error of HOLD is committed. -/
def Dev.holdShown (d : Dev) : Dev :=
  let d := (d.wr POWER_STATUS_STATE 2).restAll 12
  (d.putPipe { d.pipe with holdCause := true, severe := true, restLatched := false }).commitError 7

/-- The timers that run are held. -/
def Dev.timersHeld (d : Dev) : Dev :=
  d.each (List.range 4) (fun d t =>
    (d.putTimer t { d.timer t with clean := false }).wr (TIMER_STATUS_HOLD t) (d.rd (TIMER_STATUS_RUNNING t)))

/-- The capture unit and the schedules end. -/
def Dev.worksEnded (d : Dev) : Dev := d.disableCapture.each (List.range 8) Dev.abandonExc

theorem Dev.enterHold_eq (d : Dev) : d.enterHold = d.holdShown.timersHeld.worksEnded := rfl

/-- The fields of HOLD's own error and of the periods it ends. -/
def holdFlds : List Fld := POWER_STATUS_STATE :: fifoFlds ++ errorFlds

theorem Dev.holdShown_kept (d : Dev) : Frame ([.voices, .anas] ++ errorParts) holdFlds d d.holdShown := by
  have rested : Frame ([.voices, .anas] ++ errorParts) holdFlds d ((d.wr POWER_STATUS_STATE 2).restAll 12) :=
    Frame.restAll (List.subset_append_left _ _) (by decide) (Frame.wr (by decide) (Frame.refl _ _ _))
  exact Frame.commitError (List.subset_append_right _ _) (List.subset_append_right _ _) ((Frame.putPipe_iff (by decide)).2 rested)

theorem Dev.holdShown_shows (d : Dev) : d.holdShown.mode = 2 ∧ d.holdShown.rd LR_STATUS_ERROR = 1 ∧ d.holdShown.rd LR_STATUS_ERR_CAUSE = 7 ∧
    d.holdShown.pipe.holdCause = true := by
  have rested : Frame [.voices, .anas] fifoFlds (d.wr POWER_STATUS_STATE 2) ((d.wr POWER_STATUS_STATE 2).restAll 12) :=
    Frame.restAll (fun _ h => h) (fun _ h => h) (Frame.refl _ _ _)
  have committed (x : Pipe) : Frame errorParts errorFlds (((d.wr POWER_STATUS_STATE 2).restAll 12).putPipe x)
      ((((d.wr POWER_STATUS_STATE 2).restAll 12).putPipe x).commitError 7) := Frame.commitError (fun _ h => h) (fun _ h => h) (Frame.refl _ _ _)
  have shows (x : Pipe) := (((d.wr POWER_STATUS_STATE 2).restAll 12).putPipe x).commitError_shows (cause := 7) (by decide)
  exact ⟨((committed _).rd (by decide)).trans ((rested.rd (by decide)).trans (Dev.rd_wr_same _ POWER_STATUS_STATE 2)), (shows _).1, (shows _).2.1, (shows _).2.2⟩

theorem Frame.timersHeld {us : List Part} {fs : List Fld} {d0 d : Dev} (hu : Part.timers ∈ us) (hf : (List.range 4).map TIMER_STATUS_HOLD ⊆ fs)
    (h : Frame us fs d0 d) : Frame us fs d0 d.timersHeld :=
  h.each (fun _ _ ht kept => Frame.wr (mem_family hf ht) (kept.putTimer hu))

theorem Dev.rd_hold_timersHeld (d : Dev) {t : Nat} (ht : t < 4) : d.timersHeld.rd (TIMER_STATUS_HOLD t) = d.rd (TIMER_STATUS_RUNNING t) % 2 := by
  have hold (e : Dev) (n v : Nat) : (e.wr (TIMER_STATUS_HOLD n) v).rd (TIMER_STATUS_HOLD n) = v % 2 := Dev.rd_wr_same _ _ _
  have other (e : Dev) {m n : Nat} (v : Nat) (h : m ≠ n) : (e.wr (TIMER_STATUS_HOLD n) v).rd (TIMER_STATUS_HOLD m) = e.rd (TIMER_STATUS_HOLD m) :=
    Dev.rd_wr_key _ _ (by simp only [TIMER_STATUS_HOLD]; omega)
  have running (e : Dev) (m n v : Nat) : (e.wr (TIMER_STATUS_HOLD n) v).rd (TIMER_STATUS_RUNNING m) = e.rd (TIMER_STATUS_RUNNING m) :=
    Dev.rd_wr_key _ _ (by simp only [TIMER_STATUS_HOLD, TIMER_STATUS_RUNNING]; omega)
  have range : List.range 4 = [0, 1, 2, 3] := rfl
  simp only [Dev.timersHeld, range, Dev.each_cons, Dev.each_nil]
  interval_cases t <;> simp [hold, other, running]

theorem Dev.worksEnded_kept (d : Dev) : Frame ([.cap, .excs] ++ notifyParts) ([CAP_STATUS_CSEQ, CAP_STATUS_STATE] ++ (List.range 8).map EXC_STATUS_STATE) d
    d.worksEnded := by
  have capture : Frame ([.cap, .excs] ++ notifyParts) ([CAP_STATUS_CSEQ, CAP_STATUS_STATE] ++ (List.range 8).map EXC_STATUS_STATE) d d.disableCapture :=
    Frame.disableCapture (by decide) (List.subset_append_left _ _) (Frame.refl _ _ _)
  exact capture.each (fun d x hx kept => Frame.abandonExc (by decide) (mem_family (List.subset_append_right _ _) hx) kept)

theorem Dev.rd_capture_worksEnded (d : Dev) : d.worksEnded.rd CAP_STATUS_STATE = 0 := by
  have abandoned : Frame [.excs] ((List.range 8).map EXC_STATUS_STATE) d.disableCapture d.worksEnded :=
    (Frame.refl _ _ _).each (fun d x hx kept => Frame.abandonExc (by simp) (mem_family (fun _ h => h) hx) kept)
  exact (abandoned.rd (by decide)).trans d.rd_state_disableCapture

/-- The timers go on. -/
def Dev.timersReleased (d : Dev) : Dev := d.each (List.range 4) (fun d t => d.wr (TIMER_STATUS_HOLD t) 0)

theorem Dev.rd_hold_timersReleased (d : Dev) {t : Nat} (ht : t < 4) : d.timersReleased.rd (TIMER_STATUS_HOLD t) = 0 :=
  Dev.each_reaches (P := fun d => d.rd (TIMER_STATUS_HOLD t) = 0) (List.mem_range.2 ht) (fun d => Dev.rd_wr_same d (TIMER_STATUS_HOLD t) 0)
    (fun d x _ other kept => (Dev.rd_wr_key _ _ (by simp only [TIMER_STATUS_HOLD]; omega)).trans kept) d

theorem Frame.toRun_started {us : List Part} {fs : List Fld} {d0 d : Dev} (hu : [Part.cap, Part.excs, Part.pins] ⊆ us)
    (hf : [CAP_STATUS_STATE, CAP_STATUS_SEG] ⊆ fs) (h : Frame us fs d0 d) : Frame us fs d0 (d.startRun.totStart) :=
  Frame.totStart (hu (by simp)) ((h.enableCapture (hu (by simp)) hf).each (fun _ _ _ kept => (Frame.driveExc_iff (hu (by simp))).2 kept))

/-! ### STANDBY -/

theorem Frame.halfErase {us : List Part} {fs : List Fld} {d0 d : Dev} {a : Nat} (hu : [Part.nvm, Part.free] ⊆ us) (h : Frame us fs d0 d) :
    Frame us fs d0 (d.halfErase a) := (Frame.nextFree_iff (hu (by simp))).2 (Frame.nvm (hu (by simp)) h)

theorem Frame.abandonPt {us : List Part} {fs : List Fld} {d0 d : Dev} (hu : [Part.nvm, Part.free] ⊆ us) (h : Frame us fs d0 d) :
    Frame us fs d0 d.abandonPt := by
  unfold Dev.abandonPt Dev.spoilPt
  split
  · split
    · exact (Frame.nextFree_iff (hu (by simp))).2 (Frame.nvm (hu (by simp)) h)
    · split
      · exact h.halfErase hu
      · split
        · refine Frame.halfErase hu (Frame.each ((Frame.nextFree_iff (hu (by simp))).2 h) (fun _ _ _ kept => kept.nvm (hu (by simp))))
        · exact h
  · exact h

theorem Frame.dropPt {us : List Part} {fs : List Fld} {d0 d : Dev} (hu : [Part.nvm, Part.free] ⊆ us)
    (hf : [NVM_PT_STATUS_STATE, NVM_PT_STATUS_RESULT] ⊆ fs) (h : Frame us fs d0 d) : Frame us fs d0 d.dropPt := by
  unfold Dev.dropPt
  split
  · exact ((h.abandonPt hu).wr (hf (by simp))).wr (hf (by simp))
  · exact h

/-- The outputs are safe, and the ports are down. -/
def Dev.outputsDown (d : Dev) : Dev := ((((d.dropPt).wr POWER_STATUS_STATE 3).excSafeAll).spForceAll).totLow.portsDown

/-- The clocks stop with the count stored. -/
def Dev.clocksStopped (d : Dev) (c : Nat) : Dev :=
  let d : Dev := { d with time := { d.time with coarse := c, fifths := 0, gap := 0, step := 0, planned := false, refEdges := false },
                          power := { d.power with entering := false, c0 := c } }
  d |>.wr TB_STATUS_REFOUT_SRC 0 |>.wr TB_STATUS_SPLL_LOCK 0 |>.wr TB_STATUS_FPLL_LOCK 0 |>.wr TB_STATUS_FCK_SRC 1

theorem Dev.standbyEntryComplete_eq {d : Dev} (alive : d.alive = true) (entering : d.power.entering = true)
    (asleep : (d.outputsDown.closeGate 12).power.wakeDue = false) : d.standbyEntryComplete = (d.outputsDown.closeGate 12).clocksStopped d.coarse := by
  rw [Dev.standbyEntryComplete, if_neg (by simp [alive, entering])]
  exact if_neg (by rw [← Dev.outputsDown]; simp [asleep])

theorem Dev.outputsDown_kept (d : Dev) : Frame [.nvm, .free, .excs, .pins, .choir] ([NVM_PT_STATUS_STATE, NVM_PT_STATUS_RESULT, POWER_STATUS_STATE] ++
    ((List.range 4).map SP_STATE_ON ++ (List.range 4).map SP_STATE_FORCED) ++ (downFlds 0 ++ downFlds 1)) d d.outputsDown :=
  Frame.portsDown (by simp) (List.subset_append_right _ _)
    (Frame.totLow (by simp) (Frame.spForceAll (by simp) (by decide) (Frame.excSafeAll (by simp) (Frame.wr (by decide)
      (Frame.dropPt (by simp) (by decide) (Frame.refl _ _ _))))))

theorem Dev.outputsDown_shows (d : Dev) : d.outputsDown.mode = 3 ∧ d.outputsDown.pins.totPulse = 0 ∧ d.outputsDown.rd (LINK_STATE_STATE 0) = 0 ∧
    d.outputsDown.rd (LINK_STATE_STATE 1) = 0 := by
  have safe : Frame [.excs, .pins, .choir] (((List.range 4).map SP_STATE_ON ++ (List.range 4).map SP_STATE_FORCED) ++ (downFlds 0 ++ downFlds 1))
      ((d.dropPt).wr POWER_STATUS_STATE 3) d.outputsDown :=
    Frame.portsDown (by simp) (List.subset_append_right _ _)
      (Frame.totLow (by simp) (Frame.spForceAll (by simp) (by decide) (Frame.excSafeAll (by simp) (Frame.refl _ _ _))))
  have down : Frame [.choir] (downFlds 0 ++ downFlds 1) ((((d.dropPt).wr POWER_STATUS_STATE 3).excSafeAll).spForceAll).totLow d.outputsDown :=
    Frame.portsDown (by simp) (fun _ h => h) (Frame.refl _ _ _)
  have pins : d.outputsDown.pins = ((((d.dropPt).wr POWER_STATUS_STATE 3).excSafeAll).spForceAll).totLow.pins := down.parts .pins (by simp)
  obtain ⟨port0, port1⟩ := Dev.portsDown_shows ((((d.dropPt).wr POWER_STATUS_STATE 3).excSafeAll).spForceAll).totLow
  refine ⟨(safe.rd (by decide)).trans (Dev.rd_wr_same _ POWER_STATUS_STATE 3), ?_, port0, port1⟩
  rw [pins]
  rfl

/-! ### The power commands -/

theorem Dev.alive_of_hostOpen {d : Dev} (served : d.hostOpen = true) : d.alive = true := by
  simp only [Dev.hostOpen, Bool.and_eq_true] at served
  exact served.1.1.1

theorem Dev.not_entering_of_hostOpen {d : Dev} (served : d.hostOpen = true) : d.power.entering = false := by
  simp only [Dev.hostOpen, Bool.and_eq_true, Bool.not_eq_true'] at served
  exact served.1.2

section

variable {d : Dev} (alive : d.alive = true)
include alive

theorem Dev.hold_eq (run : d.mode = 1) : d.hold = d.holdShown.timersHeld.worksEnded := by
  rw [Dev.hold, if_pos (by simp [Dev.mayHold, run, alive]), Dev.enterHold_eq]

theorem Dev.run_eq (hold : d.mode = 2) (settled : d.power.entering = false) :
    d.run = ((d.wr POWER_STATUS_STATE 1).timersReleased.startRun).totStart := by
  rw [Dev.run, if_pos (by simp [Dev.mayRun, hold, settled, alive])]
  rfl

theorem Dev.standby_eq (hold : d.mode = 2) (settled : d.power.entering = false) (unstaged : d.rd APPLY_STATUS_STATE ≠ 2) :
    d.standby = { d.wr POWER_STATUS_PREV 2 with power := { d.power with entering := true, wakeDue := false } } := by
  have mode : (d.wr POWER_STATUS_PREV 2).mode = 2 := (Dev.rd_wr_key _ _ (by decide)).trans hold
  have apply : (d.wr POWER_STATUS_PREV 2).rd APPLY_STATUS_STATE ≠ 2 := by rwa [Dev.rd_wr_key _ _ (by decide)]
  have still : (if (d.wr POWER_STATUS_PREV 2).mode = 1 then (d.wr POWER_STATUS_PREV 2).enterHold else d.wr POWER_STATUS_PREV 2) =
      d.wr POWER_STATUS_PREV 2 := if_neg (by rw [mode]; decide)
  rw [Dev.standby, if_neg (by simp [Dev.mayStandby, alive, hold, settled])]
  dsimp only
  rw [hold, still, if_neg apply]
  rfl

end

/-- Settles O59: each command moves the power state with what it ends or starts; STANDBY's entry leaves the clocks, locks and links down. -/
theorem powerStatesChangeByCommand : Obligations.PowerStatesChangeByCommand := by
  unfold Obligations.PowerStatesChangeByCommand
  refine ⟨fun s served run => ?_, fun s served hold => ?_, fun s served hold apply => ?_, fun s alive entering asleep => ?_,
    fun s alive down => ⟨?_, ?_⟩, fun s alive hold entering => ?_⟩
  · refine Does.of_oneWrite rfl rfl served ?_
    have alive : s.dev.alive = true := Dev.alive_of_hostOpen served
    obtain ⟨mode, error, cause, held⟩ := (s.dev.setLatest false).holdShown_shows
    have shown := (s.dev.setLatest false).holdShown_kept
    have timers : Frame [.timers] ((List.range 4).map TIMER_STATUS_HOLD) (s.dev.setLatest false).holdShown (s.dev.setLatest false).holdShown.timersHeld :=
      Frame.timersHeld (by simp) (fun _ h => h) (Frame.refl _ _ _)
    have works := (s.dev.setLatest false).holdShown.timersHeld.worksEnded_kept
    have pipe : (s.dev.setLatest false).holdShown.timersHeld.worksEnded.pipe = (s.dev.setLatest false).holdShown.pipe :=
      Eq.trans (works.parts .pipe (by decide)) (timers.parts .pipe (by decide))
    rw [Dev.hold_eq (d := s.dev.setLatest false) alive run]
    refine ⟨(works.rd (by decide)).trans ((timers.rd (by decide)).trans mode), (works.rd (by decide)).trans ((timers.rd (by decide)).trans error),
      (works.rd (by decide)).trans ((timers.rd (by decide)).trans cause), fun t ht => ?_, Dev.rd_capture_worksEnded _, by rw [pipe, held]⟩
    have apart : (s.dev.setLatest false).holdShown.timersHeld.worksEnded.rd (TIMER_STATUS_HOLD t) =
        (s.dev.setLatest false).holdShown.timersHeld.rd (TIMER_STATUS_HOLD t) := by
      interval_cases t <;> exact works.rd (by decide)
    have running : (s.dev.setLatest false).holdShown.rd (TIMER_STATUS_RUNNING t) = s.dev.rd (TIMER_STATUS_RUNNING t) := by
      interval_cases t <;> exact shown.rd (by decide)
    rw [apart, Dev.rd_hold_timersHeld _ ht, running]
  · refine Does.of_oneWrite rfl rfl served ?_
    have alive : s.dev.alive = true := Dev.alive_of_hostOpen served
    have settled : s.dev.power.entering = false := Dev.not_entering_of_hostOpen served
    have released : Frame [] ((List.range 4).map TIMER_STATUS_HOLD) ((s.dev.setLatest false).wr POWER_STATUS_STATE 1)
        ((s.dev.setLatest false).wr POWER_STATUS_STATE 1).timersReleased :=
      (Frame.refl _ _ _).each (fun _ _ ht kept => kept.wr (mem_family (fun _ h => h) ht))
    have started : Frame [.cap, .excs, .pins] [CAP_STATUS_STATE, CAP_STATUS_SEG] ((s.dev.setLatest false).wr POWER_STATUS_STATE 1).timersReleased
        (((s.dev.setLatest false).wr POWER_STATUS_STATE 1).timersReleased.startRun).totStart :=
      Frame.toRun_started (fun _ h => h) (fun _ h => h) (Frame.refl _ _ _)
    rw [Dev.run_eq (d := s.dev.setLatest false) alive hold settled]
    refine ⟨(started.rd (by decide)).trans ((released.rd (by decide)).trans (Dev.rd_wr_same _ POWER_STATUS_STATE 1)), fun t ht => ?_⟩
    refine (started.rd ?_).trans (Dev.rd_hold_timersReleased _ ht)
    interval_cases t <;> decide
  · refine Does.of_oneWrite rfl rfl served ?_
    have alive : s.dev.alive = true := Dev.alive_of_hostOpen served
    have settled : s.dev.power.entering = false := Dev.not_entering_of_hostOpen served
    rw [Dev.standby_eq (d := s.dev.setLatest false) alive hold settled apply]
    refine ⟨?_, Dev.rd_wr_same _ POWER_STATUS_PREV 2, rfl, ?_⟩
    · exact (Dev.rd_wr_key (f := POWER_STATUS_PREV) (g := POWER_STATUS_STATE) (s.dev.setLatest false) _ (by decide)).trans hold
    · exact Frame.power (by simp) (by simp)
  · refine Does.of_onDev rfl rfl ?_
    have down := s.dev.outputsDown_kept
    have gated : Frame gateParts gateFlds s.dev.outputsDown (s.dev.outputsDown.closeGate 12) :=
      Frame.closeGate (fun _ h => h) (fun _ h => h) (Frame.refl _ _ _)
    have stopped : Frame [.time, .power] [TB_STATUS_REFOUT_SRC, TB_STATUS_SPLL_LOCK, TB_STATUS_FPLL_LOCK, TB_STATUS_FCK_SRC] (s.dev.outputsDown.closeGate 12)
        ((s.dev.outputsDown.closeGate 12).clocksStopped s.dev.coarse) := by
      unfold Dev.clocksStopped
      refine Frame.wr (by simp) (Frame.wr (by simp) (Frame.wr (by simp) (Frame.wr (by simp) ?_)))
      exact (Frame.refl _ _ _).set rfl (fun u x => by cases u <;> first | rfl | exact absurd (by simp) x)
    have power : (s.dev.outputsDown.closeGate 12).power = s.dev.power := Eq.trans (gated.parts .power (by decide)) (down.parts .power (by decide))
    have pins : (s.dev.outputsDown.closeGate 12).pins = s.dev.outputsDown.pins := gated.parts .pins (by decide)
    obtain ⟨mode, low, port0, port1⟩ := s.dev.outputsDown_shows
    have through (f : Fld) (gate : ∀ g ∈ gateFlds, f.key ≠ g.key)
        (clocks : ∀ g ∈ [TB_STATUS_REFOUT_SRC, TB_STATUS_SPLL_LOCK, TB_STATUS_FPLL_LOCK, TB_STATUS_FCK_SRC], f.key ≠ g.key) :
        ((s.dev.outputsDown.closeGate 12).clocksStopped s.dev.coarse).rd f = s.dev.outputsDown.rd f := (stopped.rd clocks).trans (gated.rd gate)
    rw [Dev.standbyEntryComplete_eq alive entering (by rw [power, asleep])]
    refine ⟨(through _ (by decide) (by decide)).trans mode, ?_, ?_, ?_, Dev.rd_wr_same _ TB_STATUS_FCK_SRC 1,
      (stopped.is (by decide)).trans (Dev.gated_closeGate _ _), ?_, Eq.trans (congrArg Pins.totPulse pins) low,
      (through _ (by decide) (by decide)).trans port0, (through _ (by decide) (by decide)).trans port1⟩
    · rw [← power]
      rfl
    · rw [Dev.clocksStopped]
      simp (disch := decide) only [Dev.rd_wr_key]
      exact Dev.rd_wr_same _ TB_STATUS_SPLL_LOCK 0
    · rw [Dev.clocksStopped]
      simp (disch := decide) only [Dev.rd_wr_key]
      exact Dev.rd_wr_same _ TB_STATUS_FPLL_LOCK 0
    · rw [Dev.clocksStopped]
      simp (disch := decide) only [Dev.rd_wr_key]
      exact Dev.rd_wr_same _ TB_STATUS_REFOUT_SRC 0
  · refine Does.of_onDev rfl rfl ?_
    have begun : s.dev.resume = s.dev.beginResume := by
      rw [Dev.resume, if_neg (by simp [Dev.mayResume, alive, down]), if_pos down]
    rw [begun]
    exact ⟨Dev.rd_wr_same _ POWER_STATUS_STATE 4, rfl, Frame.wr (by simp) (Frame.power (by simp) (Frame.refl _ _ _))⟩
  · refine Does.of_onDev rfl rfl ?_
    have good : s.dev.power.good = true := by
      simp only [Dev.alive, Bool.and_eq_true] at alive
      exact alive.1.1.1
    have mode : (s.dev.wr PIN_LEVEL_WAKE 1).mode = 3 := (Dev.rd_wr_key _ _ (by decide)).trans down
    have begun : s.dev.wake = (s.dev.wr PIN_LEVEL_WAKE 1).beginResume := by
      rw [Dev.wake, if_pos good, Dev.resume, if_neg (by simp [Dev.mayResume, show (s.dev.wr PIN_LEVEL_WAKE 1).alive = true from alive, mode]), if_pos mode]
    rw [begun]
    refine ⟨Dev.rd_wr_same _ POWER_STATUS_STATE 4, ?_, rfl, Frame.wr (by simp) (Frame.power (by simp) (by simp))⟩
    refine (Dev.rd_wr_key _ _ (by decide)).trans (Dev.rd_wr_same _ PIN_LEVEL_WAKE 1)
  · refine Does.of_onDev rfl rfl ?_
    have begun : s.dev.resume = { s.dev with power := { s.dev.power with wakeDue := true } } := by
      rw [Dev.resume, if_neg (by simp [Dev.mayResume, alive, entering]), if_neg (by rw [hold]; decide)]
    rw [begun]
    exact ⟨rfl, Frame.power (by simp) (Frame.refl _ _ _)⟩

end Sys2Proof.Machine
end

/-! PROOFS: a failed switch of the reference, an overspeed, and a failing crystal. -/
section

namespace Sys2Proof.Machine

open Reg

/-! ### Faults that may retire their source -/

/-- The strike record of a source. -/
def sourceFlds (src : Nat) : List Fld := [STRIKE_STRIKES src, STRIKE_DECAY_COUNT src, STRIKE_RETIRED src, STRIKE_PROBATION src] ++ faultFlds

section

variable {us : List Part} {fs : List Fld} {d0 d : Dev}

theorem Frame.chargeFault {code cls src : Nat} {arg : Option Nat} (hu : faultParts ⊆ us) (hf : sourceFlds src ⊆ fs) (h : Frame us fs d0 d) :
    Frame us fs d0 (d.chargeFault code cls src arg).1 := by
  obtain ⟨record, faults⟩ := List.append_subset.1 hf
  have written {strikes retire prob a : Nat} : Frame us fs d0 ((d.addStrike src cls).writeFault code cls src strikes retire prob a) :=
    (h.addStrike (hu (by decide)) (List.Subset.trans (by simp) record)).writeFault hu faults
  unfold Dev.chargeFault
  dsimp only
  split
  · exact (written.wr (record (by simp))).wr (record (by simp))
  · exact written

/-- SPLL's retirement has no effect of its own. -/
theorem Frame.fault_spll {code cls : Nat} {arg : Option Nat} (hu : faultParts ⊆ us) (hf : sourceFlds srcSpll ⊆ fs) (h : Frame us fs d0 d) :
    Frame us fs d0 (d.fault code cls [srcSpll] arg) := by
  have charged := h.chargeFault (code := code) (cls := cls) (arg := arg) hu hf
  simp only [Dev.fault, Dev.each_cons, Dev.each_nil, Dev.faultOne]
  split
  · exact charged
  · exact charged

/-- The fields of a device that enters OUT. -/
def outFlds : List Fld :=
  [CHOIR_STATUS_STATE, CHOIR_STATUS_HOLDOVER, TB_STATUS_OCXO_STATE, TB_STATUS_STAB_COUNT] ++ (choirEventFlds ++ [LOG_STATUS_LOG_QUEUE, LOSS_TOTAL])

theorem Frame.leaveCantor (hu : Part.time ∈ us) (hf : [CHOIR_STATUS_HOLDOVER, TB_STATUS_OCXO_STATE, TB_STATUS_STAB_COUNT] ⊆ fs) (h : Frame us fs d0 d) :
    Frame us fs d0 d.leaveCantor :=
  Frame.time hu (Frame.followOcxo hu (List.Subset.trans (by simp) hf) (h.wr (hf (by simp))))

theorem Frame.enterOut (hu : Part.time :: faultParts ⊆ us) (hf : outFlds ⊆ fs) (h : Frame us fs d0 d) : Frame us fs d0 d.enterOut := by
  obtain ⟨time, faults⟩ := List.cons_subset.1 hu
  obtain ⟨shown, events⟩ := List.append_subset.1 hf
  have out := h.wr (v := 5) (shown (by simp : CHOIR_STATUS_STATE ∈ _))
  unfold Dev.enterOut
  dsimp only
  refine Frame.choirEvent faults events ?_
  split
  · exact out.leaveCantor time (List.Subset.trans (by simp) shown)
  · exact out

theorem Dev.retireEffect_device_xtal {code : Nat} (xtal : code = 0x0420 ∨ code = 0x0421) :
    d.retireEffect srcDevice code = if 1 < d.deviceCount then d.enterOut else d := by
  unfold Dev.retireEffect
  rw [if_neg (by decide), if_neg (by decide), if_neg (by decide), if_neg (by decide), if_pos rfl]
  refine if_congr Iff.rfl rfl (if_pos ?_)
  omega

theorem Frame.fault_xtal {code : Nat} {arg : Option Nat} (xtal : code = 0x0420 ∨ code = 0x0421) (hu : Part.time :: faultParts ⊆ us)
    (hf : sourceFlds srcDevice ++ outFlds ⊆ fs) (h : Frame us fs d0 d) : Frame us fs d0 (d.fault code permanent [srcDevice] arg) := by
  obtain ⟨record, out⟩ := List.append_subset.1 hf
  have charged := h.chargeFault (code := code) (cls := permanent) (arg := arg) (List.cons_subset.1 hu).2 record
  simp only [Dev.fault, Dev.each_cons, Dev.each_nil, Dev.faultOne]
  split
  · rw [Dev.retireEffect_device_xtal xtal]
    split
    · exact charged.enterOut hu out
    · exact charged
  · exact charged

end

/-! ### The coarse count through the safe state -/

theorem Dev.coarse_followOcxo (d : Dev) : d.followOcxo.time.coarse = d.time.coarse := by
  unfold Dev.followOcxo
  dsimp only
  repeat' split
  all_goals rfl

theorem Dev.coarse_closeGate (d : Dev) (reason : Nat) : (d.closeGate reason).time.coarse = d.time.coarse := by
  rcases d.time_closeGate reason with same | gap
  · rw [same]
  · rw [gap]

theorem Dev.coarse_enterOut (d : Dev) : d.enterOut.time.coarse = d.time.coarse := by
  have told (e : Dev) (mask : Nat) : (e.choirEvent mask).time = e.time :=
    (Frame.choirEvent (us := faultParts) (fun _ h => h) (fun _ h => h) (Frame.refl _ (choirEventFlds ++ [LOG_STATUS_LOG_QUEUE, LOSS_TOTAL]) e)).parts .time
      (by decide)
  unfold Dev.enterOut
  dsimp only
  rw [told]
  split
  · exact Dev.coarse_followOcxo _
  · rfl

theorem Dev.coarse_fault_xtal {d : Dev} {code : Nat} {arg : Option Nat} (xtal : code = 0x0420 ∨ code = 0x0421) :
    (d.fault code permanent [srcDevice] arg).time.coarse = d.time.coarse := by
  have charged : (d.chargeFault code permanent srcDevice arg).1.time = d.time :=
    (Frame.chargeFault (us := faultParts) (fun _ h => h) (fun _ h => h) (Frame.refl _ (sourceFlds srcDevice) d)).parts .time (by decide)
  simp only [Dev.fault, Dev.each_cons, Dev.each_nil, Dev.faultOne]
  split
  · rw [Dev.retireEffect_device_xtal xtal]
    split
    · rw [Dev.coarse_enterOut, charged]
    · rw [charged]
  · rw [charged]

theorem Dev.coarse_unitsDropped (d : Dev) : d.unitsDropped.time.coarse = d.time.coarse := by
  have stopped : Frame [.timers] [FIT_STATUS_QUEUE, FIT_STATUS_BUSY] d.operationsDropped d.unitsDropped :=
    Frame.wr (by simp) (Frame.wr (by simp) ((Frame.refl _ _ _).each (fun _ _ _ kept => kept.putTimer (by simp))))
  exact (congrArg Timing.coarse (stopped.parts .time (by simp))).trans rfl

theorem Dev.coarse_enterSafe {d : Dev} (cause code : Nat) : (d.enterSafe cause code).time.coarse = d.time.coarse := by
  by_cases running : d.mode = 5
  · rw [Dev.enterSafe, if_pos running]
  · have shown : (d.safeShown cause code).time = d.time :=
      (Frame.safeShown (us := faultParts) (fun _ h => h) (fun _ h => h) (Frame.refl _ _ d)).parts .time (by decide)
    have outputs (e : Dev) : e.outputsSafe.time = e.time :=
      (Frame.outputsSafe (us := Part.excs :: errorParts) (fun _ h => h) (fun _ h => h) (Frame.refl _ _ e)).parts .time (by decide)
    rw [Dev.enterSafe_eq running, outputs, Dev.coarse_unitsDropped, Dev.coarse_closeGate, shown]

/-! ### The switch -/

theorem Dev.gated_decideSwitch (d : Dev) (target : Nat) (cfg : Bool) : (d.decideSwitch target cfg).is TB_STATUS_GATED = true := Dev.gated_closeGate _ _

/-- The step that a decided switch takes from the one under way, and its target. -/
theorem Dev.decideSwitch_time (d : Dev) (target : Nat) (cfg : Bool) :
    (d.decideSwitch target cfg).time.step = (if d.time.step = 0 ∨ d.time.step = 3 then 3 else 4) ∧ (d.decideSwitch target cfg).time.target = target :=
  ⟨rfl, rfl⟩

theorem Frame.decideSwitch {us : List Part} {fs : List Fld} {d0 d : Dev} {target : Nat} {cfg : Bool} (hu : gateParts ⊆ us) (hf : gateFlds ⊆ fs)
    (h : Frame us fs d0 d) : Frame us fs d0 (d.decideSwitch target cfg) := Frame.time (hu (by decide)) (h.closeGate hu hf)

/-- What the choice of the crystal's source reads. -/
def crystalFlds : List Fld :=
  [TB_CFG_MODE, TB_CFG_CANTOR_REF, CHOIR_STATUS_STATE, CHOIR_STATUS_HOLDOVER, CHOIR_DEVICES_MASK]

theorem Frame.crystalSource {us : List Part} {fs : List Fld} {d e : Dev} (h : Frame us fs d e) (apart : ∀ g ∈ crystalFlds, ∀ f ∈ fs, g.key ≠ f.key) :
    e.crystalSource = d.crystalSource := by
  have same {g : Fld} (mem : g ∈ crystalFlds) : e.rd g = d.rd g := h.rd (apart g mem)
  simp only [Dev.crystalSource, Dev.refMode, Dev.deviceCount, Dev.is, same (g := TB_CFG_MODE) (by decide), same (g := TB_CFG_CANTOR_REF) (by decide),
    same (g := CHOIR_STATUS_STATE) (by decide), same (g := CHOIR_STATUS_HOLDOVER) (by decide),
    same (g := CHOIR_DEVICES_MASK) (by decide)]
  rfl

section

variable {d : Dev} (clocked : d.clocked = true)
include clocked

theorem Dev.spllSwitchTimeout_unlocked (step : d.time.step = 5) (external : d.time.target = 1) : d.spllSwitchTimeout =
    ((d.wr TB_EVENT_SPLL_FAIL 1).fault 0x0410 transient [srcSpll]).decideSwitch
      (d.wr TB_EVENT_SPLL_FAIL 1).crystalSource false := by
  rw [Dev.spllSwitchTimeout, if_pos (by simp [clocked, step]), Dev.spllFail]
  exact if_pos external

theorem Dev.spllSwitchTimeout_unchecked (step : d.time.step = 7) (own : d.time.target ≠ 1) :
    d.spllSwitchTimeout = ((d.wr TB_EVENT_SPLL_FAIL 1).fault 0x0411 permanent [srcSpll]).enterSafe 1 0x0411 := by
  rw [Dev.spllSwitchTimeout, if_neg (by simp [step]), if_pos (by simp [clocked, step]), Dev.spllFail]
  exact if_neg own

theorem Dev.overspeed_open {c : Nat} (fast : 414 ≤ c) (sck : d.sckOpen = true) : d.overspeed c =
    ((d.wr TB_EVENT_OVERSPEED 1).fault 0x0412 transient [srcSpll]).forceSwitch
      (if ((d.wr TB_EVENT_OVERSPEED 1).fault 0x0412 transient [srcSpll]).isRetired srcSpll then
        ((d.wr TB_EVENT_OVERSPEED 1).fault 0x0412 transient [srcSpll]).crystalSource
      else ((d.wr TB_EVENT_OVERSPEED 1).fault 0x0412 transient [srcSpll]).rd TB_STATUS_SOURCE) := by
  rw [Dev.overspeed, if_neg (by simp [clocked]; omega)]
  exact if_pos sck

end

/-- The crystal has failed: FCK runs from RCK, and the locks are lost. -/
def Dev.xtalLost (d : Dev) : Dev :=
  let c := d.coarse
  let d := d.closeGate 6
  let d := { d with time := { d.time with coarse := c, fifths := 0, gap := 0, step := 0, planned := false } }
  d.wr TB_STATUS_FCK_SRC 1 |>.wr TB_EVENT_XTAL_FAIL 1 |>.wr TB_STATUS_SPLL_LOCK 0 |>.wr TB_STATUS_FPLL_LOCK 0

theorem Dev.xtalFail_eq {d : Dev} {cause : Nat} (alive : d.alive = true) (crystal : d.rd TB_STATUS_FCK_SRC = 0) (known : cause < 2) :
    d.xtalFail cause = ((d.xtalLost.fault (0x0420 + cause) permanent [srcDevice]).enterSafe 2 (0x0420 + cause)).portsDown := by
  have code : (if cause = 0 then 0x0420 else 0x0421) = 0x0420 + cause := by split <;> omega
  rw [Dev.xtalFail, if_neg (by simp [alive, Dev.is, crystal])]
  dsimp only
  rw [code]
  rfl

theorem Dev.xtalLost_shows (d : Dev) : d.xtalLost.rd TB_STATUS_FCK_SRC = 1 ∧ d.xtalLost.rd TB_EVENT_XTAL_FAIL = 1 ∧
    d.xtalLost.rd TB_STATUS_SPLL_LOCK = 0 ∧ d.xtalLost.rd TB_STATUS_FPLL_LOCK = 0 := by
  unfold Dev.xtalLost
  refine ⟨?_, ?_, ?_, Dev.rd_wr_same _ TB_STATUS_FPLL_LOCK 0⟩ <;> simp (disch := decide) only [Dev.rd_wr_key]
  · exact Dev.rd_wr_same _ TB_STATUS_FCK_SRC 1
  · exact Dev.rd_wr_same _ TB_EVENT_XTAL_FAIL 1
  · exact Dev.rd_wr_same _ TB_STATUS_SPLL_LOCK 0

theorem Dev.mode_xtalLost (d : Dev) : d.xtalLost.mode = d.mode := by
  have gated : Frame gateParts gateFlds d (d.closeGate 6) := Frame.closeGate (fun _ h => h) (fun _ h => h) (Frame.refl _ _ _)
  rw [Dev.xtalLost, Dev.mode]
  simp (disch := decide) only [Dev.rd_wr_key]
  exact gated.rd (by decide)

/-- Settles O13: a switch towards the crystal is decided with the gate closed, and what fails on the crystal enters the safe state. -/
theorem failedSwitchFallsBackOrIsSafe : Obligations.FailedSwitchFallsBackOrIsSafe := by
  unfold Obligations.FailedSwitchFallsBackOrIsSafe
  refine ⟨fun s clocked step external bears => ?_, fun s clocked step own => ?_, fun s c clocked fast inRange sck bears still => ?_,
    fun s c alive crystal mode known => ?_⟩
  · refine Does.of_onDev rfl rfl ?_
    have bears' : (s.dev.wr TB_EVENT_SPLL_FAIL 1).bears srcSpll := Dev.bears_wr bears (by decide) (by decide) (by decide) (by decide)
    have shown : Frame [] [TB_EVENT_SPLL_FAIL] s.dev (s.dev.wr TB_EVENT_SPLL_FAIL 1) := by simp
    have charged : Frame faultParts (strikeFlds srcSpll) (s.dev.wr TB_EVENT_SPLL_FAIL 1)
        ((s.dev.wr TB_EVENT_SPLL_FAIL 1).fault 0x0410 transient [srcSpll]) := Frame.fault_bears bears' (fun _ h => h) (fun _ h => h) (Frame.refl _ _ _)
    have decided : Frame gateParts gateFlds ((s.dev.wr TB_EVENT_SPLL_FAIL 1).fault 0x0410 transient [srcSpll])
        (((s.dev.wr TB_EVENT_SPLL_FAIL 1).fault 0x0410 transient [srcSpll]).decideSwitch
          (s.dev.wr TB_EVENT_SPLL_FAIL 1).crystalSource false) :=
      Frame.decideSwitch (fun _ h => h) (fun _ h => h) (Frame.refl _ _ _)
    have time : ((s.dev.wr TB_EVENT_SPLL_FAIL 1).fault 0x0410 transient [srcSpll]).time = s.dev.time := charged.parts .time (by decide)
    rw [Dev.spllSwitchTimeout_unlocked clocked step external]
    refine ⟨(decided.rd (by decide)).trans ((charged.rd (by decide)).trans (Dev.rd_wr_same _ TB_EVENT_SPLL_FAIL 1)),
      (decided.rd (by decide)).trans (Dev.rd_lastCode_fault_bears bears' _ _), Dev.gated_decideSwitch _ _ _, ?_, ?_⟩
    · rw [(Dev.decideSwitch_time _ _ _).1, time, step]
      rfl
    · rw [(Dev.decideSwitch_time _ _ _).2, shown.crystalSource (by decide)]
  · refine Does.of_onDev rfl rfl ?_
    have charged : Frame faultParts (sourceFlds srcSpll) (s.dev.wr TB_EVENT_SPLL_FAIL 1)
        ((s.dev.wr TB_EVENT_SPLL_FAIL 1).fault 0x0411 permanent [srcSpll]) := Frame.fault_spll (fun _ h => h) (fun _ h => h) (Frame.refl _ _ _)
    have safe : Frame safeParts safeFlds ((s.dev.wr TB_EVENT_SPLL_FAIL 1).fault 0x0411 permanent [srcSpll])
        (((s.dev.wr TB_EVENT_SPLL_FAIL 1).fault 0x0411 permanent [srcSpll]).enterSafe 1 0x0411) :=
      Frame.enterSafe (fun _ h => h) (fun _ h => h) (Frame.refl _ _ _)
    have running : ((s.dev.wr TB_EVENT_SPLL_FAIL 1).fault 0x0411 permanent [srcSpll]).mode ≠ 5 := by
      rw [Dev.mode, charged.rd (by decide), Dev.rd_wr_key _ _ (by decide)]
      simp only [Dev.clocked, Bool.and_eq_true, bne_iff_ne] at clocked
      exact clocked.2
    rw [Dev.spllSwitchTimeout_unchecked clocked step own]
    obtain ⟨mode, cause, code, gated⟩ := Dev.enterSafe_shows running (cause := 1) (code := 0x0411) (by decide) (by decide)
    exact ⟨(safe.rd (by decide)).trans ((charged.rd (by decide)).trans (Dev.rd_wr_same _ TB_EVENT_SPLL_FAIL 1)), mode, cause, code, gated⟩
  · refine Does.of_onDev rfl (by simpa [Instr.wf] using inRange) ?_
    have bears' : (s.dev.wr TB_EVENT_OVERSPEED 1).bears srcSpll := Dev.bears_wr bears (by decide) (by decide) (by decide) (by decide)
    have charged : Frame faultParts (strikeFlds srcSpll) (s.dev.wr TB_EVENT_OVERSPEED 1)
        ((s.dev.wr TB_EVENT_OVERSPEED 1).fault 0x0412 transient [srcSpll]) := Frame.fault_bears bears' (fun _ h => h) (fun _ h => h) (Frame.refl _ _ _)
    have time : ((s.dev.wr TB_EVENT_OVERSPEED 1).fault 0x0412 transient [srcSpll]).time = s.dev.time := charged.parts .time (by decide)
    have source : ((s.dev.wr TB_EVENT_OVERSPEED 1).fault 0x0412 transient [srcSpll]).rd TB_STATUS_SOURCE = s.dev.rd TB_STATUS_SOURCE :=
      (charged.rd (by decide)).trans (Dev.rd_wr_key _ _ (by decide))
    have kept : ((s.dev.wr TB_EVENT_OVERSPEED 1).fault 0x0412 transient [srcSpll]).isRetired srcSpll = false :=
      (charged.is (by decide)).trans (Dev.is_of_zero bears'.1)
    have decided := Frame.decideSwitch (us := gateParts) (fs := gateFlds) (target := s.dev.rd TB_STATUS_SOURCE) (cfg := false) (fun _ h => h) (fun _ h => h)
      (Frame.refl _ _ ((s.dev.wr TB_EVENT_OVERSPEED 1).fault 0x0412 transient [srcSpll]))
    have run : s.dev.overspeed c = ((s.dev.wr TB_EVENT_OVERSPEED 1).fault 0x0412 transient [srcSpll]).decideSwitch (s.dev.rd TB_STATUS_SOURCE) false := by
      rw [Dev.overspeed_open clocked fast sck, kept, if_neg (by decide), source, Dev.forceSwitch, time, still]
      exact if_neg (by simp)
    rw [run]
    refine ⟨(decided.rd (by decide)).trans ((charged.rd (by decide)).trans (Dev.rd_wr_same _ TB_EVENT_OVERSPEED 1)),
      (decided.rd (by decide)).trans (Dev.rd_lastCode_fault_bears bears' _ _), Dev.gated_decideSwitch _ _ _, ?_, (Dev.decideSwitch_time _ _ _).2⟩
    rw [(Dev.decideSwitch_time _ _ _).1, time, still]
    rfl
  · refine Does.of_onDev rfl (by simpa [Instr.wf] using known) ?_
    have xtal : 0x0420 + c = 0x0420 ∨ 0x0420 + c = 0x0421 := by omega
    have charged : Frame (.time :: faultParts) (sourceFlds srcDevice ++ outFlds) s.dev.xtalLost
        (s.dev.xtalLost.fault (0x0420 + c) permanent [srcDevice]) := Frame.fault_xtal xtal (fun _ h => h) (fun _ h => h) (Frame.refl _ _ _)
    have safe : Frame safeParts safeFlds (s.dev.xtalLost.fault (0x0420 + c) permanent [srcDevice])
        ((s.dev.xtalLost.fault (0x0420 + c) permanent [srcDevice]).enterSafe 2 (0x0420 + c)) :=
      Frame.enterSafe (fun _ h => h) (fun _ h => h) (Frame.refl _ _ _)
    have down : Frame [.choir] (downFlds 0 ++ downFlds 1) ((s.dev.xtalLost.fault (0x0420 + c) permanent [srcDevice]).enterSafe 2 (0x0420 + c))
        ((s.dev.xtalLost.fault (0x0420 + c) permanent [srcDevice]).enterSafe 2 (0x0420 + c)).portsDown :=
      Frame.portsDown (by simp) (fun _ h => h) (Frame.refl _ _ _)
    have running : (s.dev.xtalLost.fault (0x0420 + c) permanent [srcDevice]).mode ≠ 5 := by
      rw [Dev.mode, charged.rd (by decide), ← Dev.mode, Dev.mode_xtalLost]
      exact mode
    obtain ⟨fck, event, spll, fpll⟩ := s.dev.xtalLost_shows
    obtain ⟨state, cause, code, gated⟩ := Dev.enterSafe_shows running (cause := 2) (code := 0x0420 + c) (by decide) (by omega)
    have coarse : ((s.dev.xtalLost.fault (0x0420 + c) permanent [srcDevice]).enterSafe 2 (0x0420 + c)).portsDown.time =
        ((s.dev.xtalLost.fault (0x0420 + c) permanent [srcDevice]).enterSafe 2 (0x0420 + c)).time := down.parts .time (by decide)
    rw [Dev.xtalFail_eq alive crystal known]
    refine ⟨(down.rd (by decide)).trans ((safe.rd (by decide)).trans ((charged.rd (by decide)).trans fck)),
      (down.rd (by decide)).trans ((safe.rd (by decide)).trans ((charged.rd (by decide)).trans event)),
      (down.rd (by decide)).trans ((safe.rd (by decide)).trans ((charged.rd (by decide)).trans spll)),
      (down.rd (by decide)).trans ((safe.rd (by decide)).trans ((charged.rd (by decide)).trans fpll)),
      (down.is (by decide)).trans gated, (down.rd (by decide)).trans state, (down.rd (by decide)).trans cause, (down.rd (by decide)).trans code, ?_⟩
    rw [coarse, Dev.coarse_enterSafe, Dev.coarse_fault_xtal xtal]
    rfl

end Sys2Proof.Machine
end

/-! PROOFS: pins, the SRAM, the monitors' tests, and readmission. -/
section

namespace Sys2Proof.Machine

open Reg

section

variable {us : List Part} {fs : List Fld} {d0 d : Dev}

/-! ### Sequences of updates -/

/-- What every update of a sequence keeps. -/
theorem Dev.each_mem_keeps {α : Type} {P : Dev → Prop} {l : List α} {f : Dev → α → Dev} (keep : ∀ d x, x ∈ l → P d → P (f d x)) {d : Dev} (h : P d) :
    P (d.each l f) := by
  induction l generalizing d with
  | nil => exact h
  | cons x l ih => exact ih (fun d y hy => keep d y (List.mem_cons_of_mem _ hy)) (keep d x List.mem_cons_self h)

/-- A sequence keeps `P` until one element makes `Q` of it, which the rest keep. -/
theorem Dev.each_visits {P Q : Dev → Prop} {l : List Nat} {f : Dev → Nat → Dev} {m : Nat} (once : l.Nodup) (mem : m ∈ l)
    (before : ∀ d x, x ∈ l → x ≠ m → P d → P (f d x)) (visit : ∀ d, P d → Q (f d m)) (after : ∀ d x, x ∈ l → x ≠ m → Q d → Q (f d x)) {d : Dev}
    (h : P d) : Q (d.each l f) := by
  induction l generalizing d with
  | nil => exact absurd mem List.not_mem_nil
  | cons x l ih =>
    obtain ⟨fresh, once'⟩ := List.nodup_cons.1 once
    have inner (d : Dev) (y : Nat) (hy : y ∈ l) : y ∈ x :: l := List.mem_cons_of_mem _ hy
    rw [Dev.each_cons]
    rcases List.mem_cons.1 mem with rfl | rest
    · exact Dev.each_mem_keeps (fun d y hy => after d y (inner d y hy) (fun same => fresh (same ▸ hy))) (visit d h)
    · exact ih once' rest (fun d y hy => before d y (inner d y hy)) (fun d y hy => after d y (inner d y hy))
        (before d x List.mem_cons_self (fun same => fresh (same ▸ rest)) h)

/-! ### Voices, tuning and the track channel at a readmission -/

/-- The fields of a voice that starts. -/
def startFlds (n : Nat) : List Fld := [VOICE_STATUS_FIFO_LEVEL n, VOICE_STATUS_STATE n, VOICE_STATUS_K n, TUNE_STATUS_MODE n]

/-- A voice as it starts, its START marker with it. -/
def Dev.voiceBegun (d : Dev) (n state : Nat) : Voice :=
  let v := d.voice n
  let pin := decide (d.rd APPLY_STATUS_STATE = 5) && d.img.pins.testBit n
  let first := if (state = 4 ∨ pin) ∧ v.firstAt.isSome then v.firstAt else some d.ext
  let v := { v with evcnt := 0, riseDue := false, hidden := 0, lastStamp := none, lastEdge := none, later := [],
                    firstAt := first, startAt := d.ext, counted := 0, rose := false, probed := decide (state = 4) }
  v.pushDirect (v.entry d.ext 0 0 0 0x201 0 0)

/-- The voice that starts is shown in its state, with K at KMIN. -/
def Dev.voiceShown (d : Dev) (n state : Nat) : Dev :=
  let d := (d.putVoice n (d.voiceBegun n state)).wr (VOICE_STATUS_STATE n) state
  d.wr (VOICE_STATUS_K n) (d.rd (VOICE_DECIM_CFG_KMIN n))

theorem Dev.startVoice_eq (d : Dev) (n state : Nat) : d.startVoice n state =
    if (d.voiceShown n state).rd (TUNE_STATUS_MODE n) = 1 ∧ (d.voiceShown n state).mode ≠ 0 ∧ (d.voiceShown n state).mode ≠ 4 then
      (d.voiceShown n state).wr (TUNE_STATUS_MODE n) 2
    else d.voiceShown n state := rfl

theorem Frame.voiceShown {n state : Nat} (hu : Part.voices ∈ us) (hf : startFlds n ⊆ fs) (h : Frame us fs d0 d) :
    Frame us fs d0 (d.voiceShown n state) :=
  Frame.wr (hf (by simp [startFlds])) (Frame.wr (hf (by simp [startFlds])) (Frame.putVoice hu (hf (by simp [startFlds])) h))

theorem Frame.startVoice {n state : Nat} (hu : Part.voices ∈ us) (hf : startFlds n ⊆ fs) (h : Frame us fs d0 d) : Frame us fs d0 (d.startVoice n state) := by
  rw [Dev.startVoice_eq]
  split
  · exact (h.voiceShown hu hf).wr (hf (by simp [startFlds]))
  · exact h.voiceShown hu hf

/-- The fields of a tuning context that begins a collection. -/
def beginFlds (c : Nat) : List Fld := [TUNE_HITS_COUNT c, TUNE_STATUS_MODE c]

theorem Frame.beginTuning {c : Nat} (hu : Part.tune ∈ us) (hf : beginFlds c ⊆ fs) (h : Frame us fs d0 d) : Frame us fs d0 (d.beginTuning c) :=
  Frame.wr (hf (by simp [beginFlds])) (Frame.wr (hf (by simp [beginFlds])) ((Frame.putTun_iff hu).2 h))

theorem Frame.setTune {c st : Nat} (hu : [Part.voices, Part.anas] ⊆ us) (hf : [TUNE_STATUS_STATE c, TUNE_VALID_CTX, VOICE_STATUS_FIFO_LEVEL c] ⊆ fs)
    (h : Frame us fs d0 d) : Frame us fs d0 (d.setTune c st) :=
  Frame.when (Frame.wr (hf (by simp)) (h.wr (hf (by simp)))) (fun _ kept => kept.restVoice hu (hf (by simp)))

/-- The fields of a tuning context whose owner is readmitted. -/
def retuneFlds (c : Nat) : List Fld := [TUNE_STATUS_STATE c, TUNE_VALID_CTX, VOICE_STATUS_FIFO_LEVEL c] ++ beginFlds c

theorem Frame.readmitTuning {c : Nat} (hu : [Part.voices, Part.anas, Part.tune] ⊆ us) (hf : retuneFlds c ⊆ fs) (h : Frame us fs d0 d) :
    Frame us fs d0 (d.readmitTuning c) := by
  obtain ⟨set, begun⟩ := List.append_subset.1 hf
  have cleared : Frame us fs d0 (if d.rd (TUNE_STATUS_STATE c) = 4 then d.setTune c 0 else d) := by
    split
    · exact h.setTune (List.Subset.trans (by simp) hu) set
    · exact h
  revert cleared
  unfold Dev.readmitTuning
  generalize (if d.rd (TUNE_STATUS_STATE c) = 4 then d.setTune c 0 else d) = e
  intro cleared
  dsimp only
  split
  · exact cleared
  · exact cleared.beginTuning (hu (by simp)) begun

theorem Frame.reviveExcs (hu : Part.excs ∈ us) (hf : (List.range 8).map EXC_STATUS_STATE ++ (List.range 8).map EXC_STATUS_CHECK_FAIL ⊆ fs)
    (h : Frame us fs d0 d) : Frame us fs d0 d.reviveExcs := by
  obtain ⟨state, check⟩ := List.append_subset.1 hf
  refine h.each (fun d x hx kept => ?_)
  dsimp only
  split
  · exact (Frame.driveExc_iff hu).2 ((kept.wr (mem_family state hx)).wr (mem_family check hx))
  · exact kept

theorem Frame.cutFrame (hu : Part.track :: faultParts ⊆ us) (hf : cutFrameFlds ⊆ fs) (h : Frame us fs d0 d) : Frame us fs d0 d.cutFrame := by
  unfold Dev.cutFrame
  split
  · exact Frame.failFrame hu hf ((Frame.putTrack_iff (hu (by simp))).2 h)
  · exact h

theorem Frame.markZone {mask : Nat} (hu : Part.track ∈ us) (h : Frame us fs d0 d) : Frame us fs d0 (d.markZone mask) := by
  unfold Dev.markZone
  split
  · exact (Frame.putTrack_iff hu).2 h
  · exact h

theorem Frame.failTrack (hu : Part.track :: faultParts ⊆ us) (hf : acquireFlds ++ cutFrameFlds ⊆ fs) (h : Frame us fs d0 d) :
    Frame us fs d0 d.failTrack := by
  obtain ⟨acquire, cut⟩ := List.append_subset.1 hf
  have track : Part.track ∈ us := hu (by simp)
  unfold Dev.failTrack
  split
  · exact h
  · exact Frame.wr (acquire (by simp [acquireFlds])) (Frame.markZone track ((Frame.putTrack_iff track).2
      (Frame.leaveZones track (List.Subset.trans (by simp [acquireFlds]) acquire) (h.cutFrame hu cut))))

theorem Frame.followTach (hu : Part.track :: faultParts ⊆ us) (hf : acquireFlds ++ cutFrameFlds ⊆ fs) (h : Frame us fs d0 d) :
    Frame us fs d0 d.followTach := by
  obtain ⟨acquire, cut⟩ := List.append_subset.1 hf
  have track : Part.track ∈ us := hu (by simp)
  unfold Dev.followTach
  split
  · exact h
  · split
    · exact h.failTrack hu hf
    · split
      · exact Frame.acquire track acquire (Frame.cutFrame hu cut ((Frame.putTrack_iff track).2 h))
      · exact h

/-! ### The monitors -/

theorem Frame.followTrips (hu : Part.excs ∈ us) (hf : (List.range 8).map EXC_STATUS_TRIP_LIVE ++ (List.range 8).map EXC_STATUS_STATE ⊆ fs)
    (h : Frame us fs d0 d) : Frame us fs d0 d.followTrips := by
  obtain ⟨live, state⟩ := List.append_subset.1 hf
  refine h.each (fun d x hx kept => Frame.followTrip hu (fun g hg => ?_) kept)
  rcases List.mem_cons.1 hg with rfl | hg
  · exact mem_family live hx
  · obtain rfl := List.mem_singleton.1 hg
    exact mem_family state hx

/-- The fields of the exciters that a test's forced cells may change. -/
def forceFlds : List Fld :=
  (List.range 8).map EXC_TRIP_COUNT_COUNT ++ ((List.range 8).map EXC_STATUS_TRIP_LIVE ++ (List.range 8).map EXC_STATUS_STATE)

theorem Frame.forceTrips {m : Nat} (hu : Part.excs ∈ us) (hf : forceFlds ⊆ fs) (h : Frame us fs d0 d) : Frame us fs d0 (d.forceTrips m) := by
  obtain ⟨count, rest⟩ := List.append_subset.1 hf
  obtain ⟨live, state⟩ := List.append_subset.1 rest
  refine h.each (fun d x hx kept => ?_)
  have follows {e : Dev} (k : Frame us fs d0 e) : Frame us fs d0 (e.followTrip x) := by
    refine Frame.followTrip hu (fun g hg => ?_) k
    rcases List.mem_cons.1 hg with rfl | hg
    · exact mem_family live hx
    · obtain rfl := List.mem_singleton.1 hg
      exact mem_family state hx
  split
  · exact kept
  · unfold Dev.assertTrip
    dsimp only
    split
    · exact follows (kept.inc (mem_family count hx))
    · exact follows kept

/-- What a monitor's test touches once it is shown as begun. -/
def Dev.testForced (d : Dev) (m : Nat) : Dev := (d.each (d.touchedVoices m) (fun d n => d.restVoice n 4)).forceTrips m

theorem Frame.testForced {m : Nat} (hu : [Part.voices, Part.anas, Part.excs] ⊆ us) (hf : fifoFlds ++ forceFlds ⊆ fs) (h : Frame us fs d0 d) :
    Frame us fs d0 (d.testForced m) := by
  obtain ⟨fifos, forced⟩ := List.append_subset.1 hf
  exact Frame.forceTrips (hu (by simp)) forced (h.each (fun d n hn kept =>
    kept.restVoice (List.Subset.trans (by simp) hu) (mem_family fifos (List.mem_of_mem_filter hn))))

/-- The test's first step is shown. -/
def Dev.testShown (d : Dev) (m state : Nat) : Dev :=
  (d.putWm m { d.wm m with before := if d.rd (WM_STATUS_STATE m) = 4 then (d.wm m).level else (d.wm m).before, step := 1, due := false, moved := false }).wr
    (WM_STATUS_STATE m) state

theorem Dev.beginTest_eq (d : Dev) (m state : Nat) : d.beginTest m state = (d.testShown m state).testForced m := rfl

end

/-! ### What stays with one monitor and one source -/

/-- Monitor `m` and the retirement of source `n` are the same in both devices. -/
def Dev.SameWatch (m n : Nat) (d e : Dev) : Prop :=
  e.wm m = d.wm m ∧ e.rd (WM_STATUS_STATE m) = d.rd (WM_STATUS_STATE m) ∧ e.rd (STRIKE_RETIRED n) = d.rd (STRIKE_RETIRED n)

/-- A field that is neither a monitor's state nor in a strike record. -/
def Fld.Aside (f : Fld) : Prop := f.key < 1605632 ∧ ∀ m < 8, (WM_STATUS_STATE m).key ≠ f.key

theorem Fld.aside_of_range {f : Fld} (small : f.key < 1605632) (apart : f.key < 532992 ∨ 540288 ≤ f.key) : f.Aside :=
  ⟨small, fun m hm => by simp only [WM_STATUS_STATE]; omega⟩

theorem Dev.SameWatch.refl (m n : Nat) (d : Dev) : Dev.SameWatch m n d d := ⟨rfl, rfl, rfl⟩

theorem Dev.SameWatch.trans {m n : Nat} {d e f : Dev} (h : Dev.SameWatch m n d e) (k : Dev.SameWatch m n e f) : Dev.SameWatch m n d f :=
  ⟨k.1.trans h.1, k.2.1.trans h.2.1, k.2.2.trans h.2.2⟩

theorem Frame.sameWatch {us : List Part} {fs : List Fld} {d e : Dev} (h : Frame us fs d e) {m n : Nat} (hm : m < 8) (hu : Part.wms ∉ us)
    (hf : ∀ f ∈ fs, f.Aside) : Dev.SameWatch m n d e :=
  ⟨congrArg (fun t => Tab.read Wm.fresh t m) (h.parts .wms hu), h.rd (fun f mem => (hf f mem).2 m hm),
    h.rd (fun f mem => by have := (hf f mem).1; simp only [STRIKE_RETIRED]; omega)⟩

/-- A write to another monitor is not seen. -/
theorem Dev.sameWatch_other {d : Dev} {m n j v : Nat} {w : Wm} (other : j ≠ m) :
    Dev.SameWatch m n d ((d.putWm j w).wr (WM_STATUS_STATE j) v) :=
  ⟨Dev.wm_putWm_other _ _ (Ne.symm other), Dev.rd_wr_key _ _ (by simp only [WM_STATUS_STATE]; omega),
    Dev.rd_wr_key _ _ (by simp only [STRIKE_RETIRED, WM_STATUS_STATE]; omega)⟩

theorem testFlds_aside : ∀ f ∈ fifoFlds ++ forceFlds, f.Aside := by
  intro f mem
  simp only [fifoFlds, forceFlds, List.mem_append, List.mem_map, List.mem_range] at mem
  rcases mem with ⟨n, hn, rfl⟩ | ⟨n, hn, rfl⟩ | ⟨n, hn, rfl⟩ | ⟨n, hn, rfl⟩ <;>
    exact Fld.aside_of_range (by simp only [VOICE_STATUS_FIFO_LEVEL, EXC_TRIP_COUNT_COUNT, EXC_STATUS_TRIP_LIVE, EXC_STATUS_STATE]; omega)
      (by simp only [VOICE_STATUS_FIFO_LEVEL, EXC_TRIP_COUNT_COUNT, EXC_STATUS_TRIP_LIVE, EXC_STATUS_STATE]; omega)

theorem Dev.sameWatch_testForced (d : Dev) {m n : Nat} (hm : m < 8) (j : Nat) : Dev.SameWatch m n d (d.testForced j) :=
  (Frame.testForced (us := [.voices, .anas, .excs]) (fun _ h => h) (fun _ h => h) (Frame.refl _ _ d)).sameWatch hm (by simp) testFlds_aside

theorem Dev.sameWatch_beginTest {d : Dev} {m n j state : Nat} (hm : m < 8) (other : j ≠ m) :
    Dev.SameWatch m n d (d.beginTest j state) := by
  rw [Dev.beginTest_eq]
  exact (Dev.sameWatch_other other).trans ((d.testShown j state).sameWatch_testForced hm j)

/-- One monitor's turn in the test of all. -/
def Dev.testTurn (d : Dev) (m : Nat) : Dev :=
  let st := d.rd (WM_STATUS_STATE m)
  if st = 4 then d.beginTest m 2 else if st = 1 then d.putWm m { d.wm m with due := true } else d

theorem Dev.testMonitors_eq (d : Dev) : d.testMonitors = d.each (List.range 8) Dev.testTurn := rfl

theorem Dev.sameWatch_testTurn {d : Dev} {m n j : Nat} (hm : m < 8) (other : j ≠ m) : Dev.SameWatch m n d (d.testTurn j) := by
  unfold Dev.testTurn
  dsimp only
  split
  · exact Dev.sameWatch_beginTest hm other
  · split
    · exact ⟨Dev.wm_putWm_other _ _ (Ne.symm other), rfl, rfl⟩
    · exact Dev.SameWatch.refl _ _ _

/-- A monitor that is READY when all are tested begins its test; no source is retired by it. -/
theorem Dev.testMonitors_ready {d : Dev} {m n : Nat} (hm : m < 8) (ready : d.rd (WM_STATUS_STATE m) = 4) (back : d.rd (STRIKE_RETIRED n) = 0) :
    d.testMonitors.rd (WM_STATUS_STATE m) = 2 ∧ (d.testMonitors.wm m).step = 1 ∧ d.testMonitors.rd (STRIKE_RETIRED n) = 0 := by
  rw [Dev.testMonitors_eq]
  refine Dev.each_visits (P := fun e => e.rd (WM_STATUS_STATE m) = 4 ∧ e.rd (STRIKE_RETIRED n) = 0)
    (Q := fun e => e.rd (WM_STATUS_STATE m) = 2 ∧ (e.wm m).step = 1 ∧ e.rd (STRIKE_RETIRED n) = 0)
    List.nodup_range (List.mem_range.2 hm) (fun e x hx other h => ?_) (fun e h => ?_) (fun e x hx other h => ?_) ⟨ready, back⟩
  · obtain ⟨-, state, retired⟩ := Dev.sameWatch_testTurn (d := e) (n := n) hm other
    exact ⟨state.trans h.1, retired.trans h.2⟩
  · obtain ⟨wm, state, retired⟩ := (e.testShown m 2).sameWatch_testForced (n := n) hm m
    have turn : e.testTurn m = (e.testShown m 2).testForced m := if_pos h.1
    rw [turn, wm, state, retired]
    refine ⟨Dev.rd_wr_same _ (WM_STATUS_STATE m) 2, by simp [Dev.testShown], ?_⟩
    exact (Dev.rd_wr_key _ _ (by simp only [STRIKE_RETIRED, WM_STATUS_STATE]; omega)).trans h.2
  · obtain ⟨wm, state, retired⟩ := Dev.sameWatch_testTurn (d := e) (n := n) hm other
    exact ⟨state.trans h.1, by rw [wm]; exact h.2.1, retired.trans h.2.2⟩

/-! ### Readmission -/

theorem startFlds_aside {n : Nat} (hn : n < 16) : ∀ f ∈ startFlds n, f.Aside := by
  intro f mem
  simp only [startFlds, List.mem_cons, List.not_mem_nil, or_false] at mem
  rcases mem with rfl | rfl | rfl | rfl <;>
    exact Fld.aside_of_range (by simp only [VOICE_STATUS_FIFO_LEVEL, VOICE_STATUS_STATE, VOICE_STATUS_K, TUNE_STATUS_MODE]; omega)
      (by simp only [VOICE_STATUS_FIFO_LEVEL, VOICE_STATUS_STATE, VOICE_STATUS_K, TUNE_STATUS_MODE]; omega)

theorem retuneFlds_aside {c : Nat} (hc : c < 20) : ∀ f ∈ retuneFlds c, f.Aside := by
  intro f mem
  simp only [retuneFlds, beginFlds, List.mem_append, List.mem_cons, List.not_mem_nil, or_false] at mem
  rcases mem with (rfl | rfl | rfl) | rfl | rfl <;>
    exact Fld.aside_of_range (by simp only [TUNE_STATUS_STATE, TUNE_VALID_CTX, VOICE_STATUS_FIFO_LEVEL, TUNE_HITS_COUNT, TUNE_STATUS_MODE]; omega)
      (by simp only [TUNE_STATUS_STATE, TUNE_VALID_CTX, VOICE_STATUS_FIFO_LEVEL, TUNE_HITS_COUNT, TUNE_STATUS_MODE]; omega)

theorem Dev.sameWatch_readmitTuning (d : Dev) {m n c : Nat} (hm : m < 8) (hc : c < 20) : Dev.SameWatch m n d (d.readmitTuning c) :=
  (Frame.readmitTuning (us := [.voices, .anas, .tune]) (fun _ h => h) (fun _ h => h) (Frame.refl _ _ d)).sameWatch hm (by simp) (retuneFlds_aside hc)

theorem excFlds_aside : ∀ f ∈ (List.range 8).map EXC_STATUS_STATE ++ (List.range 8).map EXC_STATUS_CHECK_FAIL, f.Aside := by
  intro f mem
  simp only [List.mem_append, List.mem_map, List.mem_range] at mem
  rcases mem with ⟨n, hn, rfl⟩ | ⟨n, hn, rfl⟩ <;>
    exact Fld.aside_of_range (by simp only [EXC_STATUS_STATE, EXC_STATUS_CHECK_FAIL]; omega) (by simp only [EXC_STATUS_STATE, EXC_STATUS_CHECK_FAIL]; omega)

theorem Dev.sameWatch_followTach (d : Dev) {m n : Nat} (hm : m < 8) : Dev.SameWatch m n d d.followTach := by
  refine (Frame.followTach (us := .track :: faultParts) (fun _ h => h) (fun _ h => h) (Frame.refl _ _ d)).sameWatch hm (by decide) ?_
  intro f mem
  have listed : ∀ f ∈ acquireFlds ++ cutFrameFlds, f.key < 1605632 ∧ ∀ m ∈ List.range 8, (WM_STATUS_STATE m).key ≠ f.key := by decide
  exact ⟨(listed f mem).1, fun m hm => (listed f mem).2 m (List.mem_range.2 hm)⟩

theorem Dev.sameWatch_readmitVoice (d : Dev) {m n v : Nat} (hm : m < 8) (hv : v < 16) : Dev.SameWatch m n d (d.readmitVoice v) := by
  have started : Dev.SameWatch m n d (if d.rd (VOICE_STATUS_STATE v) = 3 then d.startVoice v 4 else d) := by
    split
    · exact (Frame.startVoice (us := [.voices]) (by simp) (fun _ h => h) (Frame.refl _ _ d)).sameWatch hm (by simp) (startFlds_aside hv)
    · exact Dev.SameWatch.refl _ _ _
  refine started.trans ((Dev.sameWatch_readmitTuning (c := v) _ hm (by omega)).trans (Dev.SameWatch.trans ?_ (Dev.sameWatch_followTach _ hm)))
  exact (Frame.reviveExcs (us := [.excs]) (by simp) (fun _ h => h) (Frame.refl _ _ _)).sameWatch hm (by simp) excFlds_aside

theorem Dev.sameWatch_readmitLane (d : Dev) {m n i : Nat} (hm : m < 8) (hi : i < 4) : Dev.SameWatch m n d (d.readmitLane i) := by
  have lane : Frame [] [laneState (i / 2) (i % 2), LINK_STATE_CLOCK_LANE (i / 2), LINK_STATE_STATE (i / 2)] d
      ((d.wr (laneState (i / 2) (i % 2)) 0).showPort (i / 2)) := Frame.showPort (by simp) (by simp)
  refine (lane.sameWatch hm (by simp) fun f mem => ?_).trans (Dev.sameWatch_readmitTuning _ hm (by omega))
  simp only [List.mem_cons, List.not_mem_nil, or_false] at mem
  have key : 1187840 ≤ f.key ∧ f.key < 1605632 := by
    rcases mem with rfl | rfl | rfl
    · unfold laneState
      split <;> simp only [LINK_STATE_LANE_STATE_0, LINK_STATE_LANE_STATE_1] <;> omega
    · simp only [LINK_STATE_CLOCK_LANE]; omega
    · simp only [LINK_STATE_STATE]; omega
  exact Fld.aside_of_range key.2 (by omega)

theorem Dev.sameWatch_followTrips (d : Dev) {m n : Nat} (hm : m < 8) : Dev.SameWatch m n d d.followTrips :=
  (Frame.followTrips (us := [.excs]) (by simp) (fun _ h => h) (Frame.refl _ _ d)).sameWatch hm (by simp)
    (fun f mem => testFlds_aside f (List.mem_append_right _ (List.mem_append_right _ mem)))

theorem Dev.sameWatch_settleMonitor (d : Dev) {m n j : Nat} (hm : m < 8) (other : j ≠ m) (due : Bool) : Dev.SameWatch m n d (d.settleMonitor j due) :=
  (Dev.sameWatch_other other).trans (Dev.sameWatch_followTrips _ hm)

/-- What a readmission brings about is not seen in another monitor, nor in the strike records. -/
theorem Dev.sameWatch_readmitEffect (d : Dev) {m n : Nat} (hm : m < 8) (other : n ≠ 0x18 + m) (known : hasStrikes n = true) :
    Dev.SameWatch m n d (d.readmitEffect n) := by
  unfold Dev.readmitEffect
  split
  · next voice => exact d.sameWatch_readmitVoice hm voice
  · split
    · exact d.sameWatch_readmitLane hm (by omega)
    · split
      · have monitor : 0x18 ≤ n := by
          simp only [hasStrikes, Bool.or_eq_true, Bool.and_eq_true, decide_eq_true_eq] at known
          omega
        split
        · exact d.sameWatch_settleMonitor hm (by omega) true
        · exact Dev.sameWatch_other (by omega)
      · split
        · exact (Frame.followOcxo (us := [.time]) (fs := [TB_STATUS_OCXO_STATE, TB_STATUS_STAB_COUNT]) (by simp) (fun _ h => h)
            (Frame.wr (by simp) (Frame.refl _ _ d))).sameWatch hm (by simp) (by
              intro f mem
              simp only [List.mem_cons, List.not_mem_nil, or_false] at mem
              rcases mem with rfl | rfl <;> exact Fld.aside_of_range (by decide) (by decide))
        · split
          · exact Dev.SameWatch.refl _ _ _
          · split
            · exact ⟨rfl, Dev.rd_wr_key _ _ (by simp only [WM_STATUS_STATE, CHOIR_STATUS_STATE]; omega),
                Dev.rd_wr_key _ _ (by simp only [STRIKE_RETIRED, CHOIR_STATUS_STATE]; omega)⟩
            · exact Dev.SameWatch.refl _ _ _

theorem Dev.reAdmit_eq {d : Dev} {n : Nat} (may : d.mayReadmit n = true) : d.reAdmit n = ((d.onProbation n).readmitEffect n).testMonitors := if_pos may

/-- The fields of a source on probation. -/
def probationFlds (n : Nat) : List Fld := [STRIKE_STRIKES n, STRIKE_DECAY_COUNT n, STRIKE_RETIRED n, STRIKE_PROBATION n, STRIKE_PROB_LEFT n]

theorem Frame.onProbation {us : List Part} {fs : List Fld} {d0 d : Dev} {n : Nat} (hf : probationFlds n ⊆ fs) (h : Frame us fs d0 d) :
    Frame us fs d0 (d.onProbation n) :=
  ((((h.wr (hf (by simp [probationFlds]))).wr (hf (by simp [probationFlds]))).wr (hf (by simp [probationFlds]))).wr (hf (by simp [probationFlds]))).wr
    (hf (by simp [probationFlds]))

/-- No monitor is READY: the test of all only notes those that settle. -/
theorem Frame.testMonitors_unready {us : List Part} {fs : List Fld} {d0 d : Dev} (hu : Part.wms ∈ us) (unready : ∀ m < 8, d.rd (WM_STATUS_STATE m) ≠ 4)
    (h : Frame us fs d0 d) : Frame us fs d0 d.testMonitors ∧ ∀ f, d.testMonitors.rd f = d.rd f := by
  rw [Dev.testMonitors_eq]
  refine Dev.each_mem_keeps (P := fun e => Frame us fs d0 e ∧ ∀ f, e.rd f = d.rd f) (fun e m hm kept => ?_) ⟨h, fun _ => rfl⟩
  unfold Dev.testTurn
  dsimp only
  rw [if_neg (by rw [kept.2]; exact unready m (List.mem_range.1 hm))]
  split
  · exact ⟨(Frame.putWm_iff hu).2 kept.1, kept.2⟩
  · exact kept

/-! ### The SRAM -/

theorem Frame.endPass {us : List Part} {fs : List Fld} {d0 d : Dev} {bank : Nat} (hu : Part.sram ∈ us) (h : Frame us fs d0 d) :
    Frame us fs d0 (d.endPass bank) := h.sram hu

/-- What the scrubber does with the word it reads. -/
def Dev.scrubbed (d : Dev) (bank w outcome user : Nat) : Dev :=
  if outcome = 1 then d.scrubCorrected w
  else if outcome = 2 then
    (let d := d.uncorrectable w
     if userBank user = bank then d.upsetUser user else d)
  else d

theorem Dev.scrub_eq {d : Dev} {bank : Nat} (row column outcome user : Nat) (alive : d.alive = true) (awake : d.mode ≠ 3) (free : d.copyingIn bank = false) :
    d.scrub bank row column outcome user =
      if row = 511 ∧ column = 63 then (d.scrubbed bank ((bank * 512 + row) * 64 + column) outcome user).endPass bank
      else d.scrubbed bank ((bank * 512 + row) * 64 + column) outcome user := by
  rw [Dev.scrub, if_neg (by simp [alive, awake, free])]
  rfl

theorem Frame.scrub {us : List Part} {fs : List Fld} {d0 d : Dev} {bank row column outcome user : Nat} (alive : d.alive = true) (awake : d.mode ≠ 3)
    (free : d.copyingIn bank = false) (hu : Part.sram ∈ us) (h : Frame us fs d0 (d.scrubbed bank ((bank * 512 + row) * 64 + column) outcome user)) :
    Frame us fs d0 (d.scrub bank row column outcome user) := by
  rw [Dev.scrub_eq row column outcome user alive awake free]
  split
  · exact h.endPass hu
  · exact h

/-- The fields read as the scrubbed word leaves them. -/
theorem Dev.rd_scrub {d : Dev} {bank row column outcome user : Nat} (alive : d.alive = true) (awake : d.mode ≠ 3) (free : d.copyingIn bank = false) (f : Fld) :
    (d.scrub bank row column outcome user).rd f = (d.scrubbed bank ((bank * 512 + row) * 64 + column) outcome user).rd f := by
  rw [Dev.scrub_eq row column outcome user alive awake free]
  split <;> rfl

theorem Frame.corrected {us : List Part} {fs : List Fld} {d0 d : Dev} {w : Nat} (hu : Part.sram :: faultParts ⊆ us)
    (hf : SRAM_CORR (sramBank w) :: faultFlds ⊆ fs) (h : Frame us fs d0 d) : Frame us fs d0 (d.corrected w) := by
  obtain ⟨sram, faults⟩ := List.cons_subset.1 hu
  obtain ⟨count, told⟩ := List.cons_subset.1 hf
  unfold Dev.corrected
  dsimp only
  split
  · exact h.inc count
  · exact Frame.fault_none faults told (Frame.sram sram (h.inc count))

theorem Dev.corrected_shows (d : Dev) {w : Nat} (bank : sramBank w < 8) :
    (d.corrected w).rd (SRAM_CORR (sramBank w)) = min (d.rd (SRAM_CORR (sramBank w)) + 1) (2 ^ 16 - 1) ∧
      (Store.read d.sram.corrRep (sramBank w) = 0 → (d.corrected w).rd FAULT_STATUS_LAST_CODE = 0x0B01) ∧
      (d.corrected w).sram.prevPass = d.sram.prevPass := by
  have apart : ∀ f ∈ faultFlds, (SRAM_CORR (sramBank w)).key ≠ f.key := by
    simp only [faultFlds, List.forall_mem_cons, List.not_mem_nil, false_imp_iff, implies_true, and_true, SRAM_CORR, FAULT_STATUS_COUNT, FAULT_STATUS_LAST_CODE,
      LOG_STATUS_LOG_QUEUE, LOSS_TOTAL]
    omega
  have recorded (e : Dev) : Frame faultParts faultFlds e (e.fault 0x0B01 reportOnly [] (some (sramRow w))) :=
    Frame.fault_none (fun _ h => h) (fun _ h => h) (Frame.refl _ _ _)
  unfold Dev.corrected
  dsimp only
  split
  · next told => exact ⟨Dev.rd_inc_same d (SRAM_CORR (sramBank w)), fun fresh => absurd fresh told, rfl⟩
  · refine ⟨((recorded _).rd apart).trans (Dev.rd_inc_same d (SRAM_CORR (sramBank w))), fun _ => Dev.rd_lastCode_fault_none _ _ _ _, ?_⟩
    exact (congrArg Sram.prevPass ((recorded _).parts .sram (by decide))).trans rfl

/-- A row that was clean in the previous pass is not replaced. -/
theorem Dev.scrubCorrected_of_clean {d : Dev} {w : Nat} (clean : Store.read (d.corrected w).sram.prevPass (sramRow w) = 0) : d.scrubCorrected w =
    { d.corrected w with sram := { (d.corrected w).sram with thisPass := Store.write (d.corrected w).sram.thisPass (sramRow w) 1 } } := by
  rw [Dev.scrubCorrected]
  exact if_neg (by simpa using clean)

/-! ### Pins -/

/-- The seal's level is shown, notified and logged. -/
def Dev.sealShown (d : Dev) (l : Bool) : Dev :=
  (((d.wr PIN_LEVEL_SEAL_RAW (bit l)).wr PIN_LEVEL_SEAL_OPEN (bit l)).notify 6 (bit l) 0).log 9 [bit l]

theorem Dev.sealChange_eq {d : Dev} {l : Bool} (alive : d.alive = true) (awake : d.mode ≠ 3) (other : d.rd PIN_LEVEL_SEAL_OPEN = bit (!l))
    (idle : (d.sealShown l).rd APPLY_STATUS_STATE = 0) : d.sealChange l = d.sealShown l := by
  have changed : ¬ (!d.alive || d.mode == 3 || d.is PIN_LEVEL_SEAL_OPEN == l) = true := by
    cases l <;> simp [alive, awake, Dev.is, other, bit]
  rw [Dev.sealChange, if_neg changed]
  refine (if_congr Iff.rfl rfl ?_).trans (ite_self _)
  rw [Dev.sealClosed, ← Dev.sealShown, idle]
  rfl

/-- A command whose block reads its state meets the errors there, and then has its effect (log entry 24). -/
theorem exec_reads {c e : Instr} {s : State} {f : Dev → Dev} {r : Nat} {u : List (Nat × Nat)}
    (run : ∀ s, exec c s = s.onDev c (fun d => f (d.readState r u))) (clean : ∀ s, exec e s = s.onDev e (fun d => f (d.readState r [])))
    (wf : c.wf = true) (wf' : e.wf = true) : exec c s = exec e { s with dev := s.dev.readState r u } := by
  rw [run, clean, State.onDev_wf _ _ wf, State.onDev_wf _ _ wf', Dev.readState_nil]

/-- Settles O60: pins and counts are shown as they come, and a readmission leaves other monitors to their tests. -/
theorem pinsSramAndSourcesAreFollowed : Obligations.PinsSramAndSourcesAreFollowed := by
  unfold Obligations.PinsSramAndSourcesAreFollowed
  refine ⟨fun s l small good => ?_, fun s l alive awake other idle => ?_, fun s t small alive awake => ?_,
    fun s b r c hb hr hc alive awake free => ⟨?_, fun clean => ?_, fun bad => ?_⟩, fun s b r hb hr alive copying => ?_,
    fun s served => ⟨?_, fun n may low high off unready => ?_, fun n m may hm other ready => ?_, fun n small refused => ?_⟩, ?_⟩
  · refine Does.of_onDev rfl (by simpa [Instr.wf] using small) ?_
    have shown : (s.dev.wr PIN_LEVEL_STRAP_LIVE l).rd PIN_LEVEL_STRAP_LIVE = l := (Dev.rd_wr_same _ _ _).trans (Nat.mod_eq_of_lt small)
    have addr : (s.dev.wr PIN_LEVEL_STRAP_LIVE l).rd STRAP_STATUS_ADDR = s.dev.rd STRAP_STATUS_ADDR := Dev.rd_wr_key _ _ (by decide)
    have run : s.dev.strapChange l = if l = s.dev.rd STRAP_STATUS_ADDR then s.dev.wr PIN_LEVEL_STRAP_LIVE l
        else (s.dev.wr PIN_LEVEL_STRAP_LIVE l).wr STRAP_STATUS_CHANGED 1 := by
      rw [Dev.strapChange, if_neg (by simp [good]), ← addr]
    rw [run]
    split
    · next same => exact ⟨shown, fun h => absurd same h, addr, by simp⟩
    · exact ⟨(Dev.rd_wr_key _ _ (by decide)).trans shown, fun _ => Dev.rd_wr_same _ STRAP_STATUS_CHANGED 1, (Dev.rd_wr_key _ _ (by decide)).trans addr, by simp⟩
  · refine Does.of_onDev rfl rfl ?_
    have told : Frame (notifyParts ++ [.logQueue, .logLost]) [LOG_STATUS_LOG_QUEUE, LOSS_TOTAL]
        ((s.dev.wr PIN_LEVEL_SEAL_RAW (bit l)).wr PIN_LEVEL_SEAL_OPEN (bit l)) (s.dev.sealShown l) :=
      Frame.log (by decide) (fun _ h => h) (Frame.notify (List.subset_append_left _ _) (Frame.refl _ _ _))
    have shown : Frame [] [PIN_LEVEL_SEAL_OPEN, PIN_LEVEL_SEAL_RAW] s.dev ((s.dev.wr PIN_LEVEL_SEAL_RAW (bit l)).wr PIN_LEVEL_SEAL_OPEN (bit l)) := by simp
    rw [Dev.sealChange_eq alive awake other ((told.rd (by decide)).trans ((shown.rd (by decide)).trans idle))]
    refine ⟨(told.rd (by decide)).trans ((Dev.rd_wr_same _ PIN_LEVEL_SEAL_OPEN _).trans (by cases l <;> rfl)),
      (told.rd (by decide)).trans ((Dev.rd_wr_key _ _ (by decide)).trans ((Dev.rd_wr_same _ PIN_LEVEL_SEAL_RAW _).trans (by cases l <;> rfl))),
      fun room => ?_, (shown.mono (by simp) (by simp)).trans (told.mono (fun _ h => h) (by simp))⟩
    have notified : Frame notifyParts [] ((s.dev.wr PIN_LEVEL_SEAL_RAW (bit l)).wr PIN_LEVEL_SEAL_OPEN (bit l))
        (((s.dev.wr PIN_LEVEL_SEAL_RAW (bit l)).wr PIN_LEVEL_SEAL_OPEN (bit l)).notify 6 (bit l) 0) := Frame.notify (fun _ h => h) (Frame.refl _ _ _)
    rw [Dev.sealShown, Dev.log, Dev.queueLog_of_room (by rw [notified.parts .logQueue (by decide)]; exact room)
      (.inl ⟨show (9 : Nat) ≠ 1 by decide, show (9 : Nat) ≠ 5 by decide⟩)]
    exact ⟨_, List.mem_append_right _ (List.mem_singleton_self _), rfl, rfl⟩
  · refine Does.of_onDev rfl (by simpa [Instr.wf] using small) ?_
    have temp : (s.dev.wr DIE_TEMP_TEMP t).rd DIE_TEMP_TEMP = t := (Dev.rd_wr_same _ _ _).trans (Nat.mod_eq_of_lt small)
    have most : (s.dev.wr DIE_TEMP_TEMP t).rd DIE_TEMP_TMAX = s.dev.rd DIE_TEMP_TMAX := Dev.rd_wr_key _ _ (by decide)
    have run : s.dev.dieTempMeasure t = if toSigned 16 (s.dev.rd DIE_TEMP_TMAX) < toSigned 16 t then (s.dev.wr DIE_TEMP_TEMP t).wr DIE_TEMP_TMAX t
        else s.dev.wr DIE_TEMP_TEMP t := by
      rw [Dev.dieTempMeasure, if_neg (by simp [alive, awake]), ← most]
    rw [run]
    split
    · next higher =>
      exact ⟨(Dev.rd_wr_key _ _ (by decide)).trans temp, fun _ => (Dev.rd_wr_same _ DIE_TEMP_TMAX _).trans (Nat.mod_eq_of_lt small),
        fun h => absurd higher (by omega), by simp⟩
    · next lower => exact ⟨temp, fun h => absurd h lower, fun _ => most, by simp⟩
  · refine Does.of_onDev rfl (by simp [Instr.wf, hb, hr, hc]) ?_
    exact Frame.scrub alive awake free (by simp) (Frame.refl _ _ _)
  · refine Does.of_onDev rfl (by simp [Instr.wf, hb, hr, hc]) ?_
    have bank : sramBank ((b * 512 + r) * 64 + c) = b := by rw [sramBank]; omega
    have row : sramRow ((b * 512 + r) * 64 + c) = b * 512 + r := by rw [sramRow]; omega
    obtain ⟨count, told, prev⟩ := s.dev.corrected_shows (w := (b * 512 + r) * 64 + c) (by rw [bank]; exact hb)
    have scrubbed : s.dev.scrubbed b ((b * 512 + r) * 64 + c) 1 0 = s.dev.scrubCorrected ((b * 512 + r) * 64 + c) := rfl
    rw [← row] at clean
    have run := Dev.scrubCorrected_of_clean (d := s.dev) (w := (b * 512 + r) * 64 + c) (by rw [prev]; exact clean)
    rw [bank] at count told
    refine ⟨?_, fun fresh => ?_, Frame.scrub alive awake free (by simp) ?_⟩
    · rw [Dev.rd_scrub alive awake free, scrubbed, run]
      exact count
    · rw [Dev.rd_scrub alive awake free, scrubbed, run]
      exact told fresh
    · rw [scrubbed, run]
      exact Frame.sram (by simp) (Frame.corrected (fun _ h => h) (by rw [bank]; exact fun _ h => h) (Frame.refl _ _ _))
  · refine Does.of_onDev rfl (by simp [Instr.wf, hb, hr, hc]) ?_
    refine Frame.scrub alive awake free (by simp) ?_
    have known : s.dev.uncorrectable ((b * 512 + r) * 64 + c) = s.dev := if_pos bad
    have scrubbed : s.dev.scrubbed b ((b * 512 + r) * 64 + c) 2 0 = s.dev := by
      rw [Dev.scrubbed, if_neg (by decide), if_pos rfl, known]
      exact ite_self _
    rw [scrubbed]
    exact Frame.refl _ _ _
  · refine Does.of_onDev rfl (by simp [Instr.wf, hb, hr]) ?_
    rw [Dev.rowReplacementDone, if_neg (by simp [alive, copying])]
    have recorded (e : Dev) : Frame faultParts faultFlds e (e.fault 0x0B03 reportOnly [] (some (b * 512 + r))) :=
      Frame.fault_none (fun _ h => h) (fun _ h => h) (Frame.refl _ _ _)
    refine ⟨?_, Dev.rd_lastCode_fault_none _ _ _ _, ?_⟩
    · rw [show _ = _ from (recorded _).parts .sram (by decide)]
      exact Store.read_write_same _ _ _
    · exact Frame.trans (Frame.sram (by simp) (Frame.refl _ _ _)) ((recorded _).mono (by simp) (fun _ h => h))
  · refine Does.of_oneWrite rfl rfl served ⟨fun b hb => ?_, ?_⟩
    · exact Dev.each_reaches (P := fun d => d.rd (SRAM_CORR b) = 0) (List.mem_range.2 hb) (fun d => Dev.rd_wr_same d (SRAM_CORR b) 0)
        (fun d x _ other kept => (Dev.rd_wr_key _ _ (by simp only [SRAM_CORR]; omega)).trans kept) _
    · exact Frame.each (by simp) (fun _ _ hx kept => kept.wr (mem_family (fun _ h => h) hx))
  · refine Does.of_oneWrite rfl (by simp [Instr.wf]; omega) served ?_
    have probed : Frame [.host] (probationFlds n) s.dev ((s.dev.setLatest false).onProbation n) := Frame.onProbation (fun _ h => h) (by simp)
    obtain ⟨strikes, retired, probation⟩ := (s.dev.setLatest false).onProbation_shows n
    have left : ((s.dev.setLatest false).onProbation n).rd (STRIKE_PROB_LEFT n) = s.dev.rd STRIKE_CFG_PROBATION % 2 ^ 8 := Dev.rd_wr_same _ (STRIKE_PROB_LEFT n) _
    have off' : ((s.dev.setLatest false).onProbation n).is (WM_CFG_EN (n - 0x18)) = false := by
      refine Dev.is_of_zero ((probed.rd ?_).trans off)
      simp only [probationFlds, List.forall_mem_cons, List.not_mem_nil, false_imp_iff, implies_true, and_true, WM_CFG_EN, STRIKE_STRIKES, STRIKE_DECAY_COUNT,
        STRIKE_RETIRED, STRIKE_PROBATION, STRIKE_PROB_LEFT]
      omega
    have effect : ((s.dev.setLatest false).onProbation n).readmitEffect n = ((s.dev.setLatest false).onProbation n).monitorOff (n - 0x18) := by
      rw [Dev.readmitEffect, if_neg (by omega), if_neg (by omega), if_pos high, off', if_neg (by decide)]
    have stopped : Frame [.wms] [WM_STATUS_STATE (n - 0x18)] ((s.dev.setLatest false).onProbation n)
        (((s.dev.setLatest false).onProbation n).monitorOff (n - 0x18)) := Frame.wr (by simp) ((Frame.putWm_iff (by simp)).2 (Frame.refl _ _ _))
    have unready' : ∀ m < 8, (((s.dev.setLatest false).onProbation n).monitorOff (n - 0x18)).rd (WM_STATUS_STATE m) ≠ 4 := by
      intro m hm
      by_cases same : m = n - 0x18
      · rw [same]
        exact ne_of_eq_of_ne (Dev.rd_wr_same _ (WM_STATUS_STATE (n - 0x18)) 0) (by rw [Nat.zero_mod]; decide)
      · rw [stopped.rd (by simp only [List.forall_mem_singleton, WM_STATUS_STATE]; omega), probed.rd]
        · exact unready m hm
        · simp only [probationFlds, List.forall_mem_cons, List.not_mem_nil, false_imp_iff, implies_true, and_true, WM_STATUS_STATE, STRIKE_STRIKES,
            STRIKE_DECAY_COUNT, STRIKE_RETIRED, STRIKE_PROBATION, STRIKE_PROB_LEFT]
          omega
    have through : Frame [.host, .wms] (WM_STATUS_STATE (n - 0x18) :: probationFlds n) s.dev
        (((s.dev.setLatest false).onProbation n).monitorOff (n - 0x18)) :=
      (probed.mono (by simp) (by simp)).trans (stopped.mono (by simp) (by simp))
    obtain ⟨kept, reads⟩ := through.testMonitors_unready (by simp) unready'
    rw [Dev.reAdmit_eq (d := s.dev.setLatest false) may, effect]
    have after (f : Fld) (strike : 1605632 ≤ f.key) : (((s.dev.setLatest false).onProbation n).monitorOff (n - 0x18)).testMonitors.rd f =
        ((s.dev.setLatest false).onProbation n).rd f := by
      rw [reads]
      exact stopped.rd (by simp only [List.forall_mem_singleton, WM_STATUS_STATE]; omega)
    exact ⟨(after _ (by simp only [STRIKE_RETIRED]; omega)).trans retired, (after _ (by simp only [STRIKE_PROBATION]; omega)).trans probation,
      (after _ (by simp only [STRIKE_STRIKES]; omega)).trans strikes, (after _ (by simp only [STRIKE_PROB_LEFT]; omega)).trans left, kept⟩
  · have known : hasStrikes n = true := by
      simp only [Dev.mayReadmit, Bool.and_eq_true] at may
      exact may.1.1.1.1.2
    have small : n < 256 := by
      simp only [hasStrikes, Bool.or_eq_true, Bool.and_eq_true, decide_eq_true_eq] at known
      omega
    refine Does.of_oneWrite rfl (by simpa [Instr.wf] using small) served ?_
    have probed : Frame [.host] (probationFlds n) s.dev ((s.dev.setLatest false).onProbation n) := Frame.onProbation (fun _ h => h) (by simp)
    obtain ⟨-, state, retired⟩ := ((s.dev.setLatest false).onProbation n).sameWatch_readmitEffect (m := m) hm other known
    have ready' : ((s.dev.setLatest false).onProbation n).rd (WM_STATUS_STATE m) = 4 := by
      refine (probed.rd ?_).trans ready
      simp only [probationFlds, List.forall_mem_cons, List.not_mem_nil, false_imp_iff, implies_true, and_true, WM_STATUS_STATE, STRIKE_STRIKES,
        STRIKE_DECAY_COUNT, STRIKE_RETIRED, STRIKE_PROBATION, STRIKE_PROB_LEFT]
      omega
    rw [Dev.reAdmit_eq (d := s.dev.setLatest false) may]
    exact Dev.testMonitors_ready hm (state.trans ready') (retired.trans ((s.dev.setLatest false).onProbation_shows n).2.1)
  · refine Does.of_oneWrite rfl (by simpa [Instr.wf] using small) served ?_
    rw [Dev.reAdmit, if_neg (by simp [show (s.dev.setLatest false).mayReadmit n = false from refused])]
    simp
  · intro s n m r u c e mem wf
    simp only [List.mem_cons, List.not_mem_nil, or_false, Prod.mk.injEq] at mem
    rcases mem with ⟨rfl, rfl, rfl⟩ | ⟨rfl, rfl, rfl⟩ | ⟨rfl, rfl, rfl⟩ | ⟨rfl, rfl, rfl⟩ | ⟨rfl, rfl, rfl⟩ | ⟨rfl, rfl, rfl⟩ | ⟨rfl, rfl, rfl⟩ |
      ⟨rfl, rfl, rfl⟩ <;> simp only [Instr.wf, Bool.and_eq_true] at wf
    · exact exec_reads (f := Dev.stampAccumulate n) (fun _ => rfl) (fun _ => rfl) (by simp [Instr.wf, wf]) (by simp [Instr.wf, upsetsOk, wf])
    · exact exec_reads (f := Dev.analyserStamp n) (fun _ => rfl) (fun _ => rfl) (by simp [Instr.wf, wf]) (by simp [Instr.wf, upsetsOk, wf])
    · exact exec_reads (f := Dev.localSum) (fun _ => rfl) (fun _ => rfl) (by simp [Instr.wf, wf]) (by simp [Instr.wf, upsetsOk])
    · exact exec_reads (f := Dev.pipelineCommit) (fun _ => rfl) (fun _ => rfl) (by simp [Instr.wf, wf]) (by simp [Instr.wf, upsetsOk])
    · exact exec_reads (f := Dev.trackStamp n) (fun _ => rfl) (fun _ => rfl) (by simpa [Instr.wf] using wf) (by simpa [Instr.wf, upsetsOk] using wf.1)
    · exact exec_reads (f := Dev.frameDecode) (fun _ => rfl) (fun _ => rfl) (by simp [Instr.wf, wf]) (by simp [Instr.wf, upsetsOk])
    · exact exec_reads (f := Dev.nakRx n m) (fun _ => rfl) (fun _ => rfl) (by simpa [Instr.wf] using wf) (by simpa [Instr.wf, upsetsOk] using wf.1)
    · exact exec_reads (f := Dev.replayTimeout n) (fun _ => rfl) (fun _ => rfl) (by simpa [Instr.wf] using wf) (by simpa [Instr.wf, upsetsOk] using wf.1)

end Sys2Proof.Machine
end

/-! PROOFS: the resets and the supplies. -/
section

namespace Sys2Proof.Machine

open Reg

/-! ### The tables of the register file -/

/-- A class's table through a write to a field of another class. -/
theorem Dev.table_wr (d : Dev) {f : Fld} (v : Nat) {c : Cls} (h : c ≠ f.cls) : (d.wr f v).regs.table c = d.regs.table c := RegFile.table_set_other _ _ h

/-- What pins and supplies show. -/
def levelFlds : List Fld :=
  [PIN_LEVEL_SEAL_RAW, PIN_LEVEL_OCXO_RDY, PIN_LEVEL_WAKE, PIN_LEVEL_STRAP_LIVE, SUPPLY_STATUS_VBAT_OK, SUPPLY_STATUS_VIOV_LEVEL, SUPPLY_STATUS_BKP_SRC]

theorem Dev.showLevels_eq (d o : Dev) : d.showLevels o = d.each levelFlds (fun d f => d.wr f (o.rd f)) := rfl

theorem Frame.showLevels {us : List Part} {fs : List Fld} {d0 d o : Dev} (hf : levelFlds ⊆ fs) (h : Frame us fs d0 d) : Frame us fs d0 (d.showLevels o) :=
  h.each (fun _ _ mem kept => kept.wr (hf mem))

theorem Dev.table_showLevels (d o : Dev) {c : Cls} (other : c ≠ .S) : (d.showLevels o).regs.table c = d.regs.table c := by
  have levels : ∀ f ∈ levelFlds, f.cls = .S := by decide
  rw [Dev.showLevels_eq]
  exact Dev.each_mem_keeps (P := fun e => e.regs.table c = d.regs.table c)
    (fun e f mem kept => (Dev.table_wr e _ (by rw [levels f mem]; exact other)).trans kept) rfl

/-- The levels of the straps and the source of the backup domain stay as they were shown. -/
theorem Dev.rd_showLevels (d o : Dev) : (d.showLevels o).rd PIN_LEVEL_STRAP_LIVE = o.rd PIN_LEVEL_STRAP_LIVE % 2 ^ 4 ∧
    (d.showLevels o).rd SUPPLY_STATUS_BKP_SRC = o.rd SUPPLY_STATUS_BKP_SRC % 2 := by
  rw [Dev.showLevels_eq]
  simp only [levelFlds, Dev.each, List.foldl_cons, List.foldl_nil]
  refine ⟨?_, Dev.rd_wr_same _ SUPPLY_STATUS_BKP_SRC _⟩
  simp (disch := decide) only [Dev.rd_wr_key]
  exact Dev.rd_wr_same _ PIN_LEVEL_STRAP_LIVE _

/-! ### Abandoning a pass-through operation -/

theorem Dev.regs_abandonPt (d : Dev) : d.abandonPt.regs = d.regs := by
  have erased (l : List Nat) (a : Nat) (e : Dev) : (e.each l (fun d i => d.eraseSector (a + i * 4096))).regs = e.regs :=
    Dev.each_keeps (fun x => x.regs = e.regs) l (fun d i => d.eraseSector (a + i * 4096)) (fun _ _ h => h) e rfl
  unfold Dev.abandonPt Dev.spoilPt Dev.halfSlotErase
  split
  · split
    · rfl
    · split
      · rfl
      · split
        · exact erased _ _ _
        · rfl
  · rfl

theorem Dev.abandonPt_of_idle {d : Dev} (idle : d.rd NVM_PT_STATUS_STATE = 0) : d.abandonPt = d := by
  rw [Dev.abandonPt, Dev.is_of_zero idle]
  rfl

/-! ### A reset -/

theorem Dev.reset_kept (d : Dev) (kind : Nat) :
    Frame [] (levelFlds ++ [causeFld kind, RESET_CAUSE_LAST]) (d.abandonPt.afterReset kind) (d.reset kind) :=
  Frame.wr (by simp) (Frame.wr (by simp) (Frame.showLevels (List.subset_append_left _ _) (Frame.refl _ _ _)))

theorem causeFld_key (kind : Nat) : 1572864 ≤ (causeFld kind).key ∧ (causeFld kind).key < 1572876 := by
  unfold causeFld
  split <;> decide

/-- The tables of the classes that neither hold the causes nor show the levels. -/
theorem Dev.table_reset (d : Dev) (kind : Nat) {c : Cls} (backup : c ≠ .B) (shown : c ≠ .S) :
    (d.reset kind).regs.table c = (d.abandonPt.afterReset kind).regs.table c := by
  rw [Dev.reset, Dev.table_wr _ _ backup, Dev.table_wr _ _ (by rw [causeFld_cls]; exact backup), Dev.table_showLevels _ _ shown]

theorem Dev.reset_shows (d : Dev) {kind : Nat} (small : kind < 8) : (d.reset kind).rd (causeFld kind) = 1 ∧ (d.reset kind).rd RESET_CAUSE_LAST = kind := by
  have key := causeFld_key kind
  refine ⟨?_, (Dev.rd_wr_same _ RESET_CAUSE_LAST kind).trans (Nat.mod_eq_of_lt small)⟩
  rw [Dev.reset, Dev.rd_wr_key _ _ (by simp only [RESET_CAUSE_LAST]; omega)]
  refine (Dev.rd_wr_same _ (causeFld kind) 1).trans ?_
  unfold causeFld
  split <;> rfl

/-- A field apart from the causes and the levels. -/
theorem Dev.rd_reset (d : Dev) {kind : Nat} {f : Fld} (apart : ∀ g ∈ levelFlds, f.key ≠ g.key) (causes : f.key < 1572864 ∨ 1572876 < f.key) :
    (d.reset kind).rd f = (d.abandonPt.afterReset kind).rd f := by
  refine (d.reset_kept kind).rd (fun g mem => ?_)
  rcases List.mem_append.1 mem with level | cause
  · exact apart g level
  · have key := causeFld_key kind
    simp only [List.mem_cons, List.not_mem_nil, or_false] at cause
    rcases cause with rfl | rfl
    · omega
    · simp only [RESET_CAUSE_LAST]; omega

theorem Dev.mode_reset (d : Dev) (kind : Nat) : (d.reset kind).mode = 0 :=
  (d.rd_reset (f := POWER_STATUS_STATE) (by decide) (by decide)).trans (Nat.xor_self _)

/-! ### The supplies -/

/-- POWER_GOOD rises: what stands before the reset. -/
def Dev.supplied (d : Dev) (straps : Nat) : Dev :=
  ((d.supplyBackup).wr SUPPLY_STATUS_BKP_SRC 0).wr SUPPLY_STATUS_VIOV_LEVEL 0 |>.wr PIN_LEVEL_STRAP_LIVE straps

/-- The reset of a POR, with the straps latched. -/
def Dev.poweredUp (d : Dev) (straps : Nat) (test : Bool) : Dev :=
  let d := ((d.supplied straps).reset 1).wr STRAP_STATUS_ADDR straps
  { d with host := HostSt.fresh, power := { d.power with good := true, testHeld := test, jtagHeld := false } }

theorem Dev.powerGoodRise_eq {d : Dev} (off : d.power.good = false) (straps : Nat) (test : Bool) :
    d.powerGoodRise straps test = if d.power.resetLow then (d.poweredUp straps test).wr RESET_CAUSE_PIN 1 else d.poweredUp straps test := by
  rw [Dev.powerGoodRise, if_neg (by simp [off])]
  rfl

theorem Dev.supplyBackup_eq (d : Dev) : d.supplyBackup =
    { d with power := { d.power with backup := true }, calst := { d.calst with lost := d.calst.lost || !d.power.backup } } := by
  unfold Dev.supplyBackup
  split
  · next on => rw [on, Bool.not_true, Bool.or_false, ← on]
  · next off =>
    rw [Bool.not_eq_true] at off
    rw [off, Bool.not_false, Bool.or_true]

theorem Dev.poweredUp_onReset (d : Dev) (straps : Nat) (test : Bool) :
    Frame [.host, .power] [STRAP_STATUS_ADDR] ((d.supplied straps).reset 1) (d.poweredUp straps test) := by
  have strap : Frame [.host, .power] [STRAP_STATUS_ADDR] ((d.supplied straps).reset 1) (((d.supplied straps).reset 1).wr STRAP_STATUS_ADDR straps) :=
    Frame.wr (by simp) (Frame.refl _ _ _)
  exact strap.set rfl (fun u x => by cases u <;> first | rfl | exact absurd (by simp) x)

/-- The POR's reset, after the supplies: nothing of a pass-through operation is left in the registers. -/
theorem Dev.poweredUp_kept (d : Dev) (straps : Nat) (test : Bool) :
    Frame [.host, .power] (STRAP_STATUS_ADDR :: (levelFlds ++ [RESET_CAUSE_POR, RESET_CAUSE_LAST])) ((d.supplied straps).abandonPt.afterReset 1)
      (d.poweredUp straps test) := by
  exact (((d.supplied straps).reset_kept 1).mono (by simp) (List.subset_cons_self _ _)).trans ((d.poweredUp_onReset straps test).mono (by simp) (by simp))

theorem Dev.supplied_parts (d : Dev) (straps : Nat) : Frame [.nvm, .free] [] (d.supplied straps) (d.supplied straps).abandonPt :=
  Frame.abandonPt (fun _ h => h) (Frame.refl _ _ _)

theorem Dev.poweredUp_reads (d : Dev) {straps : Nat} (test : Bool) (small : straps < 16) :
    (d.poweredUp straps test).mode = 0 ∧ (d.poweredUp straps test).rd RESET_CAUSE_POR = 1 ∧ (d.poweredUp straps test).rd RESET_CAUSE_LAST = 1 ∧
    (d.poweredUp straps test).rd STRAP_STATUS_ADDR = straps ∧ (d.poweredUp straps test).rd PIN_LEVEL_STRAP_LIVE = straps ∧
    (d.poweredUp straps test).rd SUPPLY_STATUS_BKP_SRC = 0 := by
  have kept := d.poweredUp_onReset straps test
  have causes : Frame [] [RESET_CAUSE_POR, RESET_CAUSE_LAST] (((d.supplied straps).abandonPt.afterReset 1).showLevels (d.supplied straps).abandonPt)
      ((d.supplied straps).reset 1) := Frame.wr (by simp) (Frame.wr (by simp [causeFld]) (Frame.refl _ _ _))
  have cause := Dev.reset_shows (d.supplied straps) (kind := 1) (by decide)
  have levels := Dev.rd_showLevels ((d.supplied straps).abandonPt.afterReset 1) (d.supplied straps).abandonPt
  have same (f : Fld) : (d.supplied straps).abandonPt.rd f = (d.supplied straps).rd f := congrArg (fun r => RegFile.get r f) (d.supplied straps).regs_abandonPt
  refine ⟨(kept.rd (g := POWER_STATUS_STATE) (by decide)).trans (Dev.mode_reset _ _), (kept.rd (by decide)).trans cause.1, (kept.rd (by decide)).trans cause.2,
    (Dev.rd_wr_same _ STRAP_STATUS_ADDR straps).trans (Nat.mod_eq_of_lt small), ?_, ?_⟩
  · refine ((kept.rd (by decide)).trans (causes.rd (by decide))).trans (levels.1.trans ?_)
    rw [same, show (d.supplied straps).rd PIN_LEVEL_STRAP_LIVE = straps % 2 ^ 4 from Dev.rd_wr_same _ PIN_LEVEL_STRAP_LIVE _]
    omega
  · refine ((kept.rd (by decide)).trans (causes.rd (by decide))).trans (levels.2.trans ?_)
    rw [same, show (d.supplied straps).rd SUPPLY_STATUS_BKP_SRC = 0 % 2 from ?_]
    rw [Dev.supplied]
    simp (disch := decide) only [Dev.rd_wr_key]
    exact Dev.rd_wr_same _ SUPPLY_STATUS_BKP_SRC _

theorem Dev.poweredUp_parts (d : Dev) (straps : Nat) (test : Bool) :
    (d.poweredUp straps test).power = { PowerSt.off with good := true, testHeld := test, resetLow := d.power.resetLow, backup := true } ∧
    (d.poweredUp straps test).fuses = d.fuses ∧ (d.poweredUp straps test).regs.table .N = d.regs.table .N ∧ (d.poweredUp straps test).rings = [] ∧
    (d.poweredUp straps test).time = Timing.fresh ∧
    (d.poweredUp straps test).calst = { d.calst with waiting := none, lost := (d.calst.lost || !d.power.backup) } := by
  have kept := d.poweredUp_kept straps test
  have left := d.supplied_parts straps
  have supplied : (d.supplied straps).fuses = d.fuses ∧
      (d.supplied straps).calst = { d.calst with lost := (d.calst.lost || !d.power.backup) } ∧
      (d.supplied straps).power = { d.power with backup := true } := by
    rw [Dev.supplied, Dev.supplyBackup_eq]
    exact ⟨rfl, rfl, rfl⟩
  obtain ⟨fuses, cal, power⟩ := supplied
  refine ⟨?_, ?_, ?_, kept.parts .rings (by decide), kept.parts .time (by decide), ?_⟩
  · have before : (d.supplied straps).abandonPt.power = (d.supplied straps).power := left.parts .power (by decide)
    have reset : ((d.supplied straps).reset 1).power = ((d.supplied straps).abandonPt.afterReset 1).power :=
      ((d.supplied straps).reset_kept 1).parts .power (by decide)
    refine Eq.trans (b := { ((d.supplied straps).reset 1).power with good := true, testHeld := test, jtagHeld := false }) rfl ?_
    rw [reset, Dev.afterReset, before, power]
    rfl
  · exact Eq.trans (kept.parts .fuses (by decide)) (Eq.trans (left.parts .fuses (by decide)) fuses)
  · refine Eq.trans (b := ((d.supplied straps).reset 1).regs.table .N)
      (Dev.table_wr ((d.supplied straps).reset 1) (f := STRAP_STATUS_ADDR) straps (by decide)) ?_
    rw [Dev.table_reset _ _ (by decide) (by decide)]
    refine Eq.trans (b := (d.supplied straps).regs.table .N)
      (show (d.supplied straps).abandonPt.regs.n = _ from congrArg RegFile.n (d.supplied straps).regs_abandonPt) ?_
    rw [Dev.supplied, Dev.table_wr _ _ (by decide), Dev.table_wr _ _ (by decide), Dev.table_wr _ _ (by decide), Dev.supplyBackup_eq]
  · refine Eq.trans (kept.parts .calst (by decide)) ?_
    have before : (d.supplied straps).abandonPt.calst = (d.supplied straps).calst := left.parts .calst (by decide)
    rw [Dev.afterReset, before, cal]

/-! ### The supplies fall -/

/-- The device in BACKUP, before the event of the lost supply is shown. -/
def Dev.unpowered (d : Dev) : Dev :=
  { (d.afterReset 1).showLevels d with power := { PowerSt.off with backup := true, resetLow := d.power.resetLow }, host := HostSt.fresh }

theorem Dev.unpowered_kept (d : Dev) : Frame [.power, .host] levelFlds (d.afterReset 1) d.unpowered := by
  have shown : Frame [.power, .host] levelFlds (d.afterReset 1) ((d.afterReset 1).showLevels d) := Frame.showLevels (fun _ h => h) (Frame.refl _ _ _)
  exact shown.set rfl (fun u x => by cases u <;> first | rfl | exact absurd (by simp) x)

theorem lostRail_eq : ∀ rails < 32, ∀ r < 6, 1 ≤ r → rails % 2 ^ (r - 1) = 0 → rails % 2 ^ r ≠ 0 → lostRail rails = r := by decide

theorem lostRail_pos : ∀ rails < 32, 0 < rails → lostRail rails ≠ 0 ∧ lostRail rails < 8 := by decide

theorem Dev.powerGoodFall_eq {d : Dev} {rails : Nat} (good : d.power.good) (lost : lostRail rails ≠ 0) (idle : d.rd NVM_PT_STATUS_STATE = 0) :
    d.powerGoodFall rails = ((d.unpowered.wr SUPPLY_EVENT_MAIN_LOSS 1).wr SUPPLY_EVENT_LOST_RAIL (lostRail rails)).wr SUPPLY_STATUS_BKP_SRC 1 := by
  rw [Dev.powerGoodFall, if_neg (by simp [good, lost]), Dev.abandonPt_of_idle idle]
  rfl

/-! ### The resets of a supplied device -/

/-- What a reset keeps, in a device with no pass-through operation. -/
structure Dev.ResetFrom (d e : Dev) (kind : Nat) : Prop where
  mode : e.mode = 0
  cause : e.rd (causeFld kind) = 1
  last : e.rd RESET_CAUSE_LAST = kind
  steps : e.power.steps = 2
  fuseTable : e.regs.table .F = d.regs.table .F
  nvmTable : e.regs.table .N = d.regs.table .N
  passTable : kind ≠ 2 → e.regs.table .P = d.regs.table .P
  holdTable : kind ≠ 2 → e.regs.table .H = d.regs.table .H
  cleared : kind = 2 → e.regs.table .H = []
  cal : e.rd CAL_NOW_CAL = d.rd CAL_NOW_CAL
  strap : e.rd STRAP_STATUS_ADDR = d.rd STRAP_STATUS_ADDR
  rows : e.sram.rowMap = d.sram.rowMap
  nvm : e.nvm = d.nvm
  fuses : e.fuses = d.fuses
  rings : e.rings = []
  fitV : e.fitV = []
  tune : e.tune = []
  time : e.time = Timing.fresh
  choir : e.choir = ChoirSt.fresh

theorem Dev.reset_from {d : Dev} {kind : Nat} (low : 2 ≤ kind) (high : kind < 8) (idle : d.rd NVM_PT_STATUS_STATE = 0) : d.ResetFrom (d.reset kind) kind := by
  have kept := d.reset_kept kind
  have shown := d.reset_shows high
  have field (f : Fld) (apart : ∀ g ∈ levelFlds, f.key ≠ g.key) (causes : f.key < 1572864 ∨ 1572876 < f.key) :
      (d.reset kind).rd f = (d.afterReset kind).rd f := by
    rw [d.rd_reset apart causes, Dev.abandonPt_of_idle idle]
  have table (c : Cls) (backup : c ≠ .B) (levels : c ≠ .S) : (d.reset kind).regs.table c = (d.afterReset kind).regs.table c := by
    rw [d.table_reset kind backup levels, Dev.abandonPt_of_idle idle]
  have strap : (d.afterReset kind).regs.p = d.regs.p := if_neg (by omega)
  have rows : (d.afterReset kind).sram.rowMap = d.sram.rowMap := if_neg (by omega)
  have steps : (d.afterReset kind).power.steps = 2 := if_neg (by omega)
  rw [Dev.abandonPt_of_idle idle] at kept
  exact
    { mode := d.mode_reset kind, cause := shown.1, last := shown.2
      steps := Eq.trans (congrArg PowerSt.steps (kept.parts .power (by decide))) steps
      fuseTable := table .F (by decide) (by decide)
      nvmTable := table .N (by decide) (by decide)
      passTable := fun _ => (table .P (by decide) (by decide)).trans strap
      holdTable := fun other => (table .H (by decide) (by decide)).trans (if_neg (by omega))
      cleared := fun pin => (table .H (by decide) (by decide)).trans (if_pos (by omega))
      cal := field CAL_NOW_CAL (by decide) (by decide)
      strap := (field STRAP_STATUS_ADDR (by decide) (by decide)).trans (congrArg (fun t => fieldRead t STRAP_STATUS_ADDR) strap)
      rows := Eq.trans (congrArg Sram.rowMap (kept.parts .sram (by decide))) rows
      nvm := kept.parts .nvm (by decide)
      fuses := kept.parts .fuses (by decide)
      rings := kept.parts .rings (by decide)
      fitV := kept.parts .fitV (by decide)
      tune := kept.parts .tune (by decide)
      time := kept.parts .time (by decide)
      choir := kept.parts .choir (by decide) }

theorem Dev.resetLow_reset {d : Dev} {kind : Nat} (idle : d.rd NVM_PT_STATUS_STATE = 0) : (d.reset kind).power.resetLow = d.power.resetLow := by
  have kept := d.reset_kept kind
  rw [Dev.abandonPt_of_idle idle] at kept
  exact Eq.trans (b := (d.afterReset kind).power.resetLow) (congrArg PowerSt.resetLow (kept.parts .power (by decide))) rfl

/-- A PIN reset that does not come from the TAP, at its end. -/
def Dev.pinHeld (d : Dev) : Dev :=
  let d := (d.reset 2).wr JTAG_STATUS_JTAG_RESET 0
  { d with power := { d.power with resetLow := true } }

theorem Dev.pinReset_of_alive {d : Dev} (alive : d.alive) : d.pinReset = d.pinHeld := by
  simp only [Dev.alive, Bool.and_eq_true, Bool.not_eq_true'] at alive
  obtain ⟨⟨⟨good, test⟩, -⟩, -⟩ := alive
  rw [Dev.pinReset, if_neg (by simp [good]), if_neg (by simp [test])]
  rfl

theorem Dev.resetFrom_pinHeld {d : Dev} (idle : d.rd NVM_PT_STATUS_STATE = 0) : d.ResetFrom d.pinHeld 2 := by
  have reset := Dev.reset_from (kind := 2) (by decide) (by decide) idle
  have kept : Frame [.power] [JTAG_STATUS_JTAG_RESET] (d.reset 2) d.pinHeld := Frame.power (by simp) (Frame.wr (by simp) (Frame.refl _ _ _))
  have table (c : Cls) (other : c ≠ .P) : d.pinHeld.regs.table c = (d.reset 2).regs.table c :=
    Dev.table_wr (d.reset 2) (f := JTAG_STATUS_JTAG_RESET) 0 other
  have steps : d.pinHeld.power.steps = (d.reset 2).power.steps := rfl
  exact
    { mode := (kept.rd (g := POWER_STATUS_STATE) (by decide)).trans reset.mode
      cause := (kept.rd (by decide)).trans reset.cause
      last := (kept.rd (by decide)).trans reset.last
      steps := steps.trans reset.steps
      fuseTable := (table .F (by decide)).trans reset.fuseTable
      nvmTable := (table .N (by decide)).trans reset.nvmTable
      passTable := fun other => absurd rfl other
      holdTable := fun other => absurd rfl other
      cleared := fun pin => (table .H (by decide)).trans (reset.cleared pin)
      cal := (kept.rd (by decide)).trans reset.cal
      strap := (kept.rd (by decide)).trans reset.strap
      rows := Eq.trans (congrArg Sram.rowMap (kept.parts .sram (by decide))) reset.rows
      nvm := Eq.trans (kept.parts .nvm (by decide)) reset.nvm
      fuses := Eq.trans (kept.parts .fuses (by decide)) reset.fuses
      rings := Eq.trans (kept.parts .rings (by decide)) reset.rings
      fitV := Eq.trans (kept.parts .fitV (by decide)) reset.fitV
      tune := Eq.trans (kept.parts .tune (by decide)) reset.tune
      time := Eq.trans (kept.parts .time (by decide)) reset.time
      choir := Eq.trans (kept.parts .choir (by decide)) reset.choir }

/-- Settles O57: a reset builds the device anew from what its kind keeps; the supplies' edges are resets or single fields. -/
theorem powerComesAndGoes : Obligations.PowerComesAndGoes := by
  unfold Obligations.PowerComesAndGoes
  refine ⟨fun s straps test small off => ?_, fun s rails some_ small good idle => ?_, fun s good => ?_, fun s off => ?_,
    fun s c kind mem alive idle due => ?_, fun s => ?_⟩
  · refine Does.of_onDev rfl (by simpa [Instr.wf] using small) ?_
    obtain ⟨mode, por, last, strap, live, source⟩ := s.dev.poweredUp_reads test small
    obtain ⟨power, fuses, table, rings, time, cal⟩ := s.dev.poweredUp_parts straps test
    have pin : Frame [] [RESET_CAUSE_PIN] (s.dev.poweredUp straps test) (s.dev.powerGoodRise straps test) ∧
        (s.dev.powerGoodRise straps test).regs.table .N = (s.dev.poweredUp straps test).regs.table .N := by
      rw [Dev.powerGoodRise_eq off]
      split
      · exact ⟨Frame.wr (by simp) (Frame.refl _ _ _), Dev.table_wr _ _ (by decide)⟩
      · exact ⟨Frame.refl _ _ _, rfl⟩
    obtain ⟨kept, kept_n⟩ := pin
    exact ⟨Eq.trans (kept.parts .power (by decide)) power,
      (kept.rd (by decide : ∀ g ∈ [RESET_CAUSE_PIN], POWER_STATUS_STATE.key ≠ g.key)).trans mode, (kept.rd (by decide)).trans por,
      (kept.rd (by decide)).trans last, (kept.rd (by decide)).trans strap, (kept.rd (by decide)).trans live, (kept.rd (by decide)).trans source,
      Eq.trans (kept.parts .fuses (by decide)) fuses, kept_n.trans table, Eq.trans (kept.parts .rings (by decide)) rings,
      Eq.trans (kept.parts .time (by decide)) time, Eq.trans (kept.parts .calst (by decide)) cal⟩
  · obtain ⟨lost, lost_small⟩ := lostRail_pos rails small some_
    refine Does.of_onDev rfl (by simpa [Instr.wf] using ⟨some_, small⟩) ?_
    rw [Dev.powerGoodFall_eq good lost idle]
    have kept : Frame [] [SUPPLY_EVENT_MAIN_LOSS, SUPPLY_EVENT_LOST_RAIL, SUPPLY_STATUS_BKP_SRC] s.dev.unpowered
        (((s.dev.unpowered.wr SUPPLY_EVENT_MAIN_LOSS 1).wr SUPPLY_EVENT_LOST_RAIL (lostRail rails)).wr SUPPLY_STATUS_BKP_SRC 1) :=
      Frame.wr (by simp) (Frame.wr (by simp) (Frame.wr (by simp) (Frame.refl _ _ _)))
    have before := s.dev.unpowered_kept
    refine ⟨Eq.trans (kept.parts .power (by decide)) rfl, ?_, fun r low high below above => ?_, Dev.rd_wr_same _ SUPPLY_STATUS_BKP_SRC 1,
      Eq.trans (kept.parts .nvm (by decide)) (before.parts .nvm (by decide)), Eq.trans (kept.parts .fuses (by decide)) (before.parts .fuses (by decide)),
      (kept.rd (by decide)).trans (before.rd (by decide))⟩
    · simp (disch := decide) only [Dev.rd_wr_key]
      exact Dev.rd_wr_same _ SUPPLY_EVENT_MAIN_LOSS 1
    · simp (disch := decide) only [Dev.rd_wr_key]
      rw [lostRail_eq rails small r (by omega) low below above] at lost_small ⊢
      exact (Dev.rd_wr_same _ SUPPLY_EVENT_LOST_RAIL r).trans (Nat.mod_eq_of_lt lost_small)
  · refine Does.of_onDev rfl rfl ?_
    rw [Dev.vbatLow, if_pos good]
    exact ⟨(Dev.rd_wr_key _ _ (by decide)).trans (Dev.rd_wr_same _ SUPPLY_EVENT_VBAT_LOW 1), Dev.rd_wr_same _ SUPPLY_STATUS_VBAT_OK 0, by simp⟩
  · refine Does.of_onDev rfl rfl ?_
    rw [Dev.backupDomainLoss, if_neg (by simp [off])]
    refine ⟨rfl, rfl, rfl, Nat.zero_xor _, (congrArg (· % 2 ^ 60) (Nat.zero_xor CAL_NOW_CAL.reset)).trans (by decide), fun c other => ?_⟩
    cases c <;> first | rfl | exact absurd rfl other
  · have live := alive
    simp only [Dev.alive, Bool.and_eq_true, Bool.not_eq_true'] at live
    obtain ⟨⟨⟨-, -⟩, high⟩, -⟩ := live
    simp only [List.mem_cons, Prod.mk.injEq, List.not_mem_nil, or_false] at mem
    rcases mem with ⟨rfl, rfl⟩ | ⟨rfl, rfl⟩ | ⟨rfl, rfl⟩
    · refine Does.of_onDev rfl rfl ?_
      rw [Dev.pinReset_of_alive alive]
      have r := Dev.resetFrom_pinHeld idle
      exact ⟨r.mode, r.cause, r.last, rfl, r.steps, r.fuseTable, r.nvmTable, fun other => absurd rfl other,
        fun pin => ⟨Dev.rd_wr_same _ JTAG_STATUS_JTAG_RESET 0, r.cleared pin⟩, r.cal, r.strap, r.rows, r.nvm, r.fuses, r.rings, r.fitV, r.tune, r.time, r.choir⟩
    · refine Does.of_onDev rfl rfl ?_
      rw [Dev.softReset, if_pos alive]
      have r := Dev.reset_from (kind := 3) (by decide) (by decide) idle
      exact ⟨r.mode, r.cause, r.last, (Dev.resetLow_reset idle).trans high, r.steps, r.fuseTable, r.nvmTable, fun other => ⟨r.passTable other, r.holdTable other⟩,
        fun pin => absurd pin (by decide), r.cal, r.strap, r.rows, r.nvm, r.fuses, r.rings, r.fitV, r.tune, r.time, r.choir⟩
    · obtain ⟨named, source⟩ := due rfl
      refine Does.of_onDev rfl rfl ?_
      rw [Dev.choirReset, if_pos (by simp [alive, named, Dev.is_of_zero source])]
      have r := Dev.reset_from (kind := 5) (by decide) (by decide) idle
      exact ⟨r.mode, r.cause, r.last, (Dev.resetLow_reset idle).trans high, r.steps, r.fuseTable, r.nvmTable, fun other => ⟨r.passTable other, r.holdTable other⟩,
        fun pin => absurd pin (by decide), r.cal, r.strap, r.rows, r.nvm, r.fuses, r.rings, r.fitV, r.tune, r.time, r.choir⟩
  · refine Does.of_onDev rfl rfl ?_
    exact ⟨rfl, Frame.power (by simp) (Frame.refl _ _ _)⟩

end Sys2Proof.Machine
end

/-! PROOFS: the TAP. -/
section

namespace Sys2Proof.Machine

open Reg

variable {us : List Part} {fs : List Fld} {d0 d : Dev}

/-! ### Leaving the instruction in force -/

/-- The instruction register holds the BYPASS code. -/
def Dev.tapBypassed (d : Dev) : Dev := { d with host := { d.host with tap := 31 } }

/-- The TAP no longer holds the logic. -/
def Dev.tapFreed (d : Dev) : Dev := { d.tapBypassed with power := { d.power with jtagHeld := false } }

/-- After a public instruction nothing else follows. -/
theorem Dev.leaveTap_of_public (pub : d.host.tap ∈ [1, 2, 31]) : d.leaveTap = d.tapBypassed := by
  have quiet : ∀ c ∈ [1, 2, 31], (tapHolds c || tapPrivate c) = false := by decide
  rw [Dev.leaveTap, if_neg (by simp only [quiet _ pub]; decide)]
  rfl

/-- What holds of the device before and after the reset, and through the shown bits, holds after the instruction. -/
theorem Dev.leaveTap_reaches {P : Dev → Prop} (bypassed : P d.tapBypassed) (freed : P d.tapFreed) (reset : P (d.tapFreed.reset 2))
    (shown : ∀ e, ∀ f ∈ [JTAG_STATUS_JTAG_RESET, JTAG_STATUS_PRIVATE_USED], P e → P (e.wr f 1)) : P d.leaveTap := by
  have released : P (if d.power.testHeld then d.tapFreed else (d.tapFreed.reset 2).wr JTAG_STATUS_JTAG_RESET 1) := by
    split
    · exact freed
    · exact shown _ _ (by simp) reset
  unfold Dev.leaveTap
  dsimp only
  split
  · split
    · exact shown _ _ (by simp) released
    · exact released
  · exact bypassed

/-- What the TAP itself keeps, and the NVM with it while no pass-through operation runs. -/
def Dev.TapKeeps (d e : Dev) : Prop :=
  e.host.tapLog = d.host.tapLog ∧ e.fuses = d.fuses ∧ (d.rd NVM_PT_STATUS_STATE = 0 → e.rd NVM_PT_STATUS_STATE = 0 ∧ e.nvm = d.nvm)

theorem Dev.tapKeeps_reset (d : Dev) (kind : Nat) : d.TapKeeps (d.reset kind) := by
  have kept := d.reset_kept kind
  have left : Frame [.nvm, .free] [] d d.abandonPt := Frame.abandonPt (fun _ h => h) (Frame.refl _ _ _)
  have log : (d.abandonPt.afterReset kind).host.tapLog = d.abandonPt.host.tapLog := rfl
  have host : d.abandonPt.host = d.host := left.parts .host (by decide)
  refine ⟨?_, Eq.trans (kept.parts .fuses (by decide)) (left.parts .fuses (by decide)), fun idle => ⟨?_, ?_⟩⟩
  · rw [← host, ← log]
    exact congrArg HostSt.tapLog (kept.parts .host (by decide))
  · exact (d.rd_reset (f := NVM_PT_STATUS_STATE) (by decide) (by decide)).trans (Nat.xor_self _)
  · have nvm : (d.reset kind).nvm = d.abandonPt.nvm := kept.parts .nvm (by decide)
    rw [nvm, Dev.abandonPt_of_idle idle]

theorem Dev.tapKeeps_leaveTap (d : Dev) : d.TapKeeps d.leaveTap := by
  refine Dev.leaveTap_reaches ⟨rfl, rfl, fun idle => ⟨idle, rfl⟩⟩ ⟨rfl, rfl, fun idle => ⟨idle, rfl⟩⟩ (d.tapFreed.tapKeeps_reset 2)
    (fun e f mem kept => ?_)
  obtain ⟨log, fuses, nvm⟩ := kept
  refine ⟨log, fuses, fun idle => ⟨?_, (nvm idle).2⟩⟩
  have other : NVM_PT_STATUS_STATE.key ≠ f.key := by
    revert f
    decide
  rw [Dev.rd_wr_key _ _ other]
  exact (nvm idle).1

theorem Dev.loadHolding_holds {c : Nat} (good : d.power.good) :
    (d.loadHolding c).alive = false ∧ (d.loadHolding c).power.jtagHeld = true ∧ (d.loadHolding c).host.tap = c ∧
    (d.loadHolding c).host.tapLog = d.host.tapLog ++ [c] ∧ (d.loadHolding c).rings = [] ∧
    (d.rd NVM_PT_STATUS_STATE = 0 → (d.loadHolding c).nvm = d.nvm) ∧ (d.loadHolding c).fuses = d.fuses := by
  obtain ⟨log, fuses, nvm⟩ := d.tapKeeps_leaveTap
  have left : Frame [.nvm, .free] [] d.leaveTap d.leaveTap.abandonPt := Frame.abandonPt (fun _ h => h) (Frame.refl _ _ _)
  have shown : Frame [] levelFlds (d.leaveTap.abandonPt.afterReset 2) ((d.leaveTap.abandonPt.afterReset 2).showLevels d.leaveTap.abandonPt) :=
    Frame.showLevels (fun _ h => h) (Frame.refl _ _ _)
  have kept_log : ((d.leaveTap.abandonPt.afterReset 2).showLevels d.leaveTap.abandonPt).host.tapLog = d.host.tapLog := by
    rw [← log, ← show d.leaveTap.abandonPt.host = d.leaveTap.host from left.parts .host (by decide)]
    exact Eq.trans (b := (d.leaveTap.abandonPt.afterReset 2).host.tapLog) (congrArg HostSt.tapLog (shown.parts .host (by decide))) rfl
  have eq : d.loadHolding c = { (d.leaveTap.abandonPt.afterReset 2).showLevels d.leaveTap.abandonPt with
      power := { ((d.leaveTap.abandonPt.afterReset 2).showLevels d.leaveTap.abandonPt).power with jtagHeld := true }
      host := { ((d.leaveTap.abandonPt.afterReset 2).showLevels d.leaveTap.abandonPt).host with
        tap := c, tapLog := ((d.leaveTap.abandonPt.afterReset 2).showLevels d.leaveTap.abandonPt).host.tapLog ++ [c] } } := by
    rw [Dev.loadHolding, if_neg (by simp [good])]
  rw [eq, kept_log]
  refine ⟨by simp [Dev.alive], rfl, rfl, rfl, shown.parts .rings (by decide), fun idle => ?_,
    Eq.trans (shown.parts .fuses (by decide)) (Eq.trans (left.parts .fuses (by decide)) fuses)⟩
  obtain ⟨still, same⟩ := nvm idle
  refine Eq.trans (shown.parts .nvm (by decide)) ?_
  rw [← same]
  exact Eq.trans (b := d.leaveTap.abandonPt.nvm) rfl (congrArg Dev.nvm (Dev.abandonPt_of_idle still))

/-! ### The reset that follows -/

/-- The PIN reset after an instruction that held the logic. -/
def Dev.tapReleased (d : Dev) : Dev := (d.tapFreed.reset 2).wr JTAG_STATUS_JTAG_RESET 1

theorem tap_ends {c : Nat} (other : c ∉ [1, 2, 31]) : (tapHolds c || tapPrivate c) = true := by
  simp only [List.mem_cons, List.not_mem_nil, or_false, not_or] at other
  simp only [tapHolds, tapPrivate, Bool.or_eq_true, Bool.and_eq_true, beq_iff_eq, decide_eq_true_eq, bne_iff_ne]
  omega

theorem Dev.leaveTap_of_held (run : d.power.testHeld = false) (other : d.host.tap ∉ [1, 2, 31]) :
    d.leaveTap = if tapPrivate d.host.tap then d.tapReleased.wr JTAG_STATUS_PRIVATE_USED 1 else d.tapReleased := by
  have eq : d.leaveTap = if tapHolds d.host.tap || tapPrivate d.host.tap then
      if tapPrivate d.host.tap then (if d.power.testHeld then d.tapFreed else d.tapReleased).wr JTAG_STATUS_PRIVATE_USED 1
      else if d.power.testHeld then d.tapFreed else d.tapReleased
    else d.tapBypassed := rfl
  rw [eq, if_pos (tap_ends other), run, if_neg Bool.false_ne_true]

theorem Dev.leaveTap_shows (run : d.power.testHeld = false) (other : d.host.tap ∉ [1, 2, 31]) :
    d.leaveTap.host.tap = 31 ∧ d.leaveTap.power.jtagHeld = false ∧ d.leaveTap.rd JTAG_STATUS_JTAG_RESET = 1 ∧ d.leaveTap.rd RESET_CAUSE_PIN = 1 ∧
    d.leaveTap.rd RESET_CAUSE_LAST = 2 ∧ (5 ≤ d.host.tap → d.leaveTap.rd JTAG_STATUS_PRIVATE_USED = 1) := by
  have used : Frame [] [JTAG_STATUS_PRIVATE_USED] d.tapReleased d.leaveTap := by
    rw [Dev.leaveTap_of_held run other]
    split
    · exact Frame.wr (by simp) (Frame.refl _ _ _)
    · exact Frame.refl _ _ _
  have released : Frame [] [JTAG_STATUS_JTAG_RESET] (d.tapFreed.reset 2) d.tapReleased := Frame.wr (by simp) (Frame.refl _ _ _)
  have kept := d.tapFreed.reset_kept 2
  have left : Frame [.nvm, .free] [] d.tapFreed d.tapFreed.abandonPt := Frame.abandonPt (fun _ h => h) (Frame.refl _ _ _)
  have causes : (d.tapFreed.reset 2).rd RESET_CAUSE_PIN = 1 ∧ (d.tapFreed.reset 2).rd RESET_CAUSE_LAST = 2 := d.tapFreed.reset_shows (by decide)
  have host : d.leaveTap.host = (d.tapFreed.abandonPt.afterReset 2).host :=
    Eq.trans (used.parts .host (by decide)) (Eq.trans (released.parts .host (by decide)) (kept.parts .host (by decide)))
  have power : d.leaveTap.power = (d.tapFreed.abandonPt.afterReset 2).power :=
    Eq.trans (used.parts .power (by decide)) (Eq.trans (released.parts .power (by decide)) (kept.parts .power (by decide)))
  have before_host : d.tapFreed.abandonPt.host = d.tapFreed.host := left.parts .host (by decide)
  have before_power : d.tapFreed.abandonPt.power = d.tapFreed.power := left.parts .power (by decide)
  refine ⟨?_, ?_, (used.rd (by decide)).trans (Dev.rd_wr_same _ JTAG_STATUS_JTAG_RESET 1), (used.rd (by decide)).trans ((released.rd (by decide)).trans causes.1),
    (used.rd (by decide)).trans ((released.rd (by decide)).trans causes.2), fun high => ?_⟩
  · rw [host]
    exact Eq.trans (b := d.tapFreed.abandonPt.host.tap) rfl (by rw [before_host]; rfl)
  · rw [power]
    exact Eq.trans (b := d.tapFreed.abandonPt.power.jtagHeld) rfl (by rw [before_power]; rfl)
  · have hidden : tapPrivate d.host.tap = true := by
      simp only [List.mem_cons, List.not_mem_nil, or_false, not_or] at other
      simp only [tapPrivate, Bool.and_eq_true, decide_eq_true_eq, bne_iff_ne]
      omega
    rw [Dev.leaveTap_of_held run other, if_pos hidden]
    exact Dev.rd_wr_same _ JTAG_STATUS_PRIVATE_USED 1

/-! ### A private instruction -/

/-- The units with their stored values cleared. -/
def Dev.unitsCleared (d : Dev) : Dev :=
  { d with rings := d.rings.map (fun (p : Nat × Ring) => (p.1, { p.2 with cells := [] }))
           tune := d.tune.map (fun (p : Nat × Tune) => (p.1, { p.2 with hist := [], table := [], cand := [] }))
           anas := d.anas.map (fun (p : Nat × Ana) => (p.1, { p.2 with acc := AnaAcc.fresh, shown := [] }))
           fitV := [], fitP := [], allan := [], cap := { d.cap with buf := [] }, pipe := Pipe.fresh, track := TrackSt.fresh
           choir := { d.choir with ports := d.choir.ports.map (fun (p : Nat × PortSt) => (p.1, { p.2 with held := [] })) }
           sram := { d.sram with bad := [] } }

/-- The weak map with every entry zero. -/
def Dev.weakCleared (d : Dev) : Dev := d.each (List.range 64) (fun d w => (d.wr (WEAK_MAP_SEG w) 0).wr (WEAK_MAP_VALID w) 0)

theorem Dev.clearMemories_eq (d : Dev) : d.clearMemories = d.unitsCleared.weakCleared.each [0, 1] (fun d p => d.wr (LINK_STATE_REPLAY_FILL p) 0) := rfl

def clearedParts : List Part := [.rings, .tune, .anas, .fitV, .fitP, .allan, .cap, .pipe, .track, .choir, .sram]

def clearedFlds : List Fld :=
  (List.range 64).map WEAK_MAP_SEG ++ (List.range 64).map WEAK_MAP_VALID ++ [LINK_STATE_REPLAY_FILL 0, LINK_STATE_REPLAY_FILL 1]

theorem clearedFlds_range : ∀ f ∈ clearedFlds, 1114112 ≤ f.key ∧ f.key < 1200000 := by
  intro f mem
  simp only [clearedFlds, List.mem_append, List.mem_map, List.mem_range, List.mem_cons, List.not_mem_nil, or_false] at mem
  rcases mem with (⟨w, small, rfl⟩ | ⟨w, small, rfl⟩) | rfl | rfl
  all_goals simp only [WEAK_MAP_SEG, WEAK_MAP_VALID, LINK_STATE_REPLAY_FILL]; omega

theorem clearedFlds_apart {g : Fld} (other : g.key < 1114112 ∨ 1200000 ≤ g.key) : ∀ f ∈ clearedFlds, g.key ≠ f.key := fun f mem => by
  have range := clearedFlds_range f mem
  omega

theorem Dev.rd_weakCleared (d : Dev) {w : Nat} (small : w < 64) : d.weakCleared.rd (WEAK_MAP_SEG w) = 0 := by
  refine Dev.each_reaches (P := fun d => d.rd (WEAK_MAP_SEG w) = 0) (List.mem_range.2 small) (fun d => ?_) (fun d x _ other h => ?_) d
  · rw [Dev.rd_wr_key _ _ (by simp only [WEAK_MAP_VALID, WEAK_MAP_SEG]; omega), Dev.rd_wr_same, Nat.zero_mod]
  · simp (disch := simp only [WEAK_MAP_VALID, WEAK_MAP_SEG]; omega) only [Dev.rd_wr_key]
    exact h

theorem Frame.weakCleared (hf : (List.range 64).map WEAK_MAP_SEG ++ (List.range 64).map WEAK_MAP_VALID ⊆ fs) (h : Frame us fs d0 d) :
    Frame us fs d0 d.weakCleared := by
  obtain ⟨seg, valid⟩ := List.append_subset.1 hf
  exact h.each (fun d w hw kept => (kept.wr (mem_family seg hw)).wr (mem_family valid hw))

theorem Dev.fillCleared (d : Dev) : Frame [] [LINK_STATE_REPLAY_FILL 0, LINK_STATE_REPLAY_FILL 1] d.unitsCleared.weakCleared d.clearMemories := by
  rw [Dev.clearMemories_eq]
  exact Frame.each (Frame.refl _ _ _) (fun d p mem kept => kept.wr (by
    simp only [List.mem_cons, List.not_mem_nil, or_false] at mem
    rcases mem with rfl | rfl <;> simp))

theorem Frame.clearMemories (hu : clearedParts ⊆ us) (hf : clearedFlds ⊆ fs) (h : Frame us fs d0 d) : Frame us fs d0 d.clearMemories := by
  have units : Frame us fs d0 d.unitsCleared := h.set rfl (fun u x => by cases u <;> first | rfl | exact absurd (hu (by decide)) x)
  obtain ⟨weak, fill⟩ := List.append_subset.1 hf
  exact (units.weakCleared weak).trans (d.fillCleared.mono (by simp) fill)

theorem Dev.clearMemories_shows (d : Dev) : d.clearMemories.fitV = [] ∧ d.clearMemories.allan = [] ∧ d.clearMemories.cap.buf = [] ∧
    d.clearMemories.sram.bad = [] ∧ ∀ w < 64, d.clearMemories.rd (WEAK_MAP_SEG w) = 0 := by
  have kept : Frame [] clearedFlds d.unitsCleared d.clearMemories :=
    (Frame.weakCleared (List.subset_append_left _ _) (Frame.refl _ _ _)).trans (d.fillCleared.mono (by simp) (List.subset_append_right _ _))
  refine ⟨kept.parts .fitV (by decide), kept.parts .allan (by decide), Eq.trans (congrArg Cap.buf (kept.parts .cap (by decide))) rfl,
    Eq.trans (congrArg Sram.bad (kept.parts .sram (by decide))) rfl, fun w small => ?_⟩
  refine (d.fillCleared.rd ?_).trans (d.unitsCleared.rd_weakCleared small)
  simp only [List.forall_mem_cons, List.not_mem_nil, false_imp_iff, implies_true, and_true, LINK_STATE_REPLAY_FILL, WEAK_MAP_SEG]
  omega

/-- What a private instruction leaves with the seal open. -/
def Dev.memoriesCleared (d : Dev) (c : Nat) : Dev :=
  let d := (d.tapBypassed.enterSafe 4 0).clearMemories.log 10 [c, 1]
  { d with host := { d.host with tap := c } }

theorem Dev.privateInstruction_open {c : Nat} (hidden : tapPrivate c) (good : d.power.good) (pub : d.host.tap ∈ [1, 2, 31])
    (unsealed : d.rd PIN_LEVEL_SEAL_OPEN = 1) (alive : d.alive) : d.privateInstruction c = d.memoriesCleared c := by
  have unsealed' : d.tapBypassed.is PIN_LEVEL_SEAL_OPEN = true := Dev.is_of_ne_zero (by rw [show d.tapBypassed.rd PIN_LEVEL_SEAL_OPEN = 1 from unsealed]; decide)
  have alive' : d.tapBypassed.alive = true := alive
  rw [Dev.privateInstruction, if_neg (by simp [good, hidden]), Dev.leaveTap_of_public pub, if_neg (by simp [unsealed']), if_pos alive']
  rfl

theorem Dev.memoriesCleared_shows {c : Nat} (running : d.mode ≠ 5) :
    (d.memoriesCleared c).host.tap = c ∧ (d.memoriesCleared c).mode = 5 ∧ (d.memoriesCleared c).rd SAFE_STATUS_CAUSE = 4 ∧
    (d.memoriesCleared c).fitV = [] ∧ (d.memoriesCleared c).allan = [] ∧ (d.memoriesCleared c).cap.buf = [] ∧ (d.memoriesCleared c).sram.bad = [] ∧
    (∀ w < 64, (d.memoriesCleared c).rd (WEAK_MAP_SEG w) = 0) ∧ (d.memoriesCleared c).fuses = d.fuses := by
  have running' : d.tapBypassed.mode ≠ 5 := running
  obtain ⟨mode, cause, -, -⟩ := Dev.enterSafe_shows running' (cause := 4) (code := 0) (by decide) (by decide)
  obtain ⟨fit, allan, buf, bad, weak⟩ := (d.tapBypassed.enterSafe 4 0).clearMemories_shows
  have safe : Frame safeParts safeFlds d.tapBypassed (d.tapBypassed.enterSafe 4 0) := Frame.enterSafe (fun _ h => h) (fun _ h => h) (Frame.refl _ _ _)
  have cleared : Frame clearedParts clearedFlds (d.tapBypassed.enterSafe 4 0) (d.tapBypassed.enterSafe 4 0).clearMemories :=
    Frame.clearMemories (fun _ h => h) (fun _ h => h) (Frame.refl _ _ _)
  have logged : Frame [.logQueue, .logLost, .host] [LOG_STATUS_LOG_QUEUE, LOSS_TOTAL] (d.tapBypassed.enterSafe 4 0).clearMemories (d.memoriesCleared c) :=
    Frame.host (by simp) (Frame.log (by simp) (by simp) (Frame.refl _ _ _))
  refine ⟨rfl, (logged.rd (g := POWER_STATUS_STATE) (by decide)).trans ((cleared.rd (clearedFlds_apart (by decide))).trans mode),
    (logged.rd (by decide)).trans ((cleared.rd (clearedFlds_apart (by decide))).trans cause), Eq.trans (logged.parts .fitV (by decide)) fit,
    Eq.trans (logged.parts .allan (by decide)) allan, Eq.trans (congrArg Cap.buf (logged.parts .cap (by decide))) buf,
    Eq.trans (congrArg Sram.bad (logged.parts .sram (by decide))) bad, fun w small => (logged.rd ?_).trans (weak w small),
    Eq.trans (logged.parts .fuses (by decide)) (Eq.trans (cleared.parts .fuses (by decide)) (safe.parts .fuses (by decide)))⟩
  simp only [List.forall_mem_cons, List.not_mem_nil, false_imp_iff, implies_true, and_true, LOG_STATUS_LOG_QUEUE, LOSS_TOTAL, WEAK_MAP_SEG]
  omega

/-- Settles O52: what an instruction leaves follows from the instruction in force before it. -/
theorem tapInstructionsActOnTheDevice : Obligations.TapInstructionsActOnTheDevice := by
  unfold Obligations.TapInstructionsActOnTheDevice
  refine ⟨fun s c k mem good => ?_, fun s c k mem good pub => ?_, fun s good run other => ?_,
    fun s k hidden small good pub => ⟨fun seal_ => ?_, fun unsealed alive running => ?_⟩⟩
  · simp only [List.mem_cons, Prod.mk.injEq, List.not_mem_nil, or_false] at mem
    rcases mem with ⟨rfl, rfl⟩ | ⟨rfl, rfl⟩ | ⟨rfl, rfl⟩
    · exact Does.of_onDev rfl rfl (Dev.loadHolding_holds good)
    · exact Does.of_onDev rfl rfl (Dev.loadHolding_holds good)
    · exact Does.of_onDev rfl rfl (Dev.loadHolding_holds good)
  · have loaded (n : Nat) : (s.dev.loadPublic n).host.tap = n ∧ Frame [.host] [] s.dev (s.dev.loadPublic n) := by
      rw [Dev.loadPublic, if_neg (by simp [good]), Dev.leaveTap_of_public pub]
      exact ⟨rfl, Frame.host (by simp) (Frame.host (by simp) (Frame.refl _ _ _))⟩
    simp only [List.mem_cons, Prod.mk.injEq, List.not_mem_nil, or_false] at mem
    rcases mem with ⟨rfl, rfl⟩ | ⟨rfl, rfl⟩ | ⟨rfl, rfl⟩
    · exact Does.of_onDev rfl rfl (loaded 1)
    · exact Does.of_onDev rfl rfl (loaded 2)
    · exact Does.of_onDev rfl rfl (loaded 31)
  · refine Does.of_onDev rfl rfl ?_
    rw [Dev.jtagInstructionLeave, if_pos good]
    exact Dev.leaveTap_shows run other
  · have range := hidden
    simp only [tapPrivate, Bool.and_eq_true, decide_eq_true_eq, bne_iff_ne] at range
    refine Does.of_onDev rfl (by simp [Instr.wf]; omega) ?_
    have sealed : s.dev.tapBypassed.is PIN_LEVEL_SEAL_OPEN = false := Dev.is_of_zero seal_
    rw [Dev.privateInstruction, if_neg (by simp [good, hidden]), Dev.leaveTap_of_public pub, if_pos (by simp [sealed])]
    exact ⟨rfl, Dev.rd_inc_same _ JTAG_STATUS_REFUSED, Frame.inc (by simp) (Frame.host (by simp) (Frame.host (by simp) (Frame.refl _ _ _)))⟩
  · have range := hidden
    simp only [tapPrivate, Bool.and_eq_true, decide_eq_true_eq, bne_iff_ne] at range
    refine Does.of_onDev rfl (by simp [Instr.wf]; omega) ?_
    rw [Dev.privateInstruction_open hidden good pub unsealed alive]
    exact Dev.memoriesCleared_shows running

end Sys2Proof.Machine
end

/-! PROOFS: the sums of the fit engine. -/
section

namespace Sys2Proof.Machine

open Reg

variable {us : List Part} {fs : List Fld} {d0 d : Dev}

theorem Frame.takePairs {v base ext n t : Nat} (hu : Part.fitP ∈ us) (h : Frame us fs d0 d) : Frame us fs d0 (d.takePairs v base ext n t) := by
  refine h.each (fun e p _ kept => ?_)
  dsimp only
  split
  · exact kept.putFitPair hu
  · exact kept

/-- A plain stamp in a period with a base enters the sums. -/
theorem Dev.takeFit_of_plain {v b : Nat} {e : Entry} (stamp : e.flags.testBit 7 = false) (markers : e.flags.testBit 0 = false)
    (lost : e.flags.testBit 6 = false) (base : (d.fitVoice v).base = some b) :
    let n := (d.fitVoice v).lastN + ((e.evcnt + 2 ^ 32 - (d.fitVoice v).n0) % 2 ^ 32 + 2 ^ 40 - (d.fitVoice v).lastN) % 2 ^ 32
    let t := (e.ext - b) * 65536 + e.m
    d.takeFit v e = (d.putFitVoice v { d.fitVoice v with
      lastN := n, sums := (d.fitVoice v).sums.add n t, ivl := (d.fitVoice v).ivl.take (d.polarity v) n t e.k (e.edge == 1) }).takePairs v b e.ext n t := by
  rw [Dev.takeFit, if_neg (by simp [stamp]), if_neg (by simp [markers, lost])]
  simp only [base]

/-- The waiting items with the sums of the period that ends. -/
def Dev.itemsClosed (d : Dev) (v : Nat) (e : Entry) : Dev :=
  { d with items := d.items.map (fun i =>
      if i.stop ≠ e.ext then i
      else if i.ctx < 16 then (if i.ctx = v then { i with a := (d.fitVoice v).sums, ivl := (d.fitVoice v).ivl } else i)
      else
        let q := d.fitPair (i.ctx - 16)
        let i := if i.va = v then { i with a := q.a } else i
        if i.vb = v then { i with b := q.b } else i) }

/-- The pairs of a voice with new sums. -/
def Dev.pairsZeroed (d : Dev) (v : Nat) : Dev :=
  d.each (List.range 8) (fun d p =>
    let q := d.fitPair p
    let q := if d.rd (FIT_PAIR_CFG_VOICE_A p) = v then { q with a := Sums.zero } else q
    let q := if d.rd (FIT_PAIR_CFG_VOICE_B p) = v then { q with b := Sums.zero } else q
    d.putFitPair p q)

theorem Dev.moveSums_eq (d : Dev) (v : Nat) (e : Entry) : d.moveSums v e = ((d.itemsClosed v e).pairsZeroed v).putFitVoice v
    { d.fitVoice v with base := some e.ext, n0 := e.evcnt, lastN := 0, sums := Sums.zero, ivl := Ivl.zero } := rfl

theorem Frame.pairsZeroed {v : Nat} (hu : Part.fitP ∈ us) (h : Frame us fs d0 d) : Frame us fs d0 (d.pairsZeroed v) :=
  h.each (fun _ _ _ kept => kept.putFitPair hu)

theorem Frame.moveSums {v : Nat} {e : Entry} (hu : [Part.items, Part.fitV, Part.fitP] ⊆ us) (h : Frame us fs d0 d) : Frame us fs d0 (d.moveSums v e) := by
  have closed : Frame us fs d0 (d.itemsClosed v e) := h.set rfl (fun u x => by cases u <;> first | rfl | exact absurd (hu (by simp)) x)
  rw [Dev.moveSums_eq]
  exact (closed.pairsZeroed (hu (by simp))).putFitVoice (hu (by simp))

/-- An item of the period that ends gets the voice's sums. -/
theorem Dev.mem_moveSums {v : Nat} {e : Entry} (small : v < 16) {i : Item} (mem : i ∈ d.items) (ctx : i.ctx = v) (stop : i.stop = e.ext) :
    { i with a := (d.fitVoice v).sums, ivl := (d.fitVoice v).ivl } ∈ (d.moveSums v e).items := by
  have kept : Frame [.fitV, .fitP] [] (d.itemsClosed v e) (d.moveSums v e) := by
    rw [Dev.moveSums_eq]
    exact ((Frame.refl _ _ _).pairsZeroed (by simp)).putFitVoice (by simp)
  rw [show (d.moveSums v e).items = (d.itemsClosed v e).items from kept.parts .items (by decide)]
  refine List.mem_map.2 ⟨i, mem, ?_⟩
  dsimp only
  rw [if_neg (by simp [stop]), if_pos (by omega), if_pos ctx]

/-- A device whose fit engine has taken the oldest entry of a voice's stamp stream. -/
def Dev.fitTaken (d : Dev) (v : Nat) (rest : List Entry) : Dev := d.putVoice v { d.voice v with fitTap := rest }

theorem Frame.fitTaken {v : Nat} {rest : List Entry} (hu : Part.voices ∈ us) (hf : VOICE_STATUS_FIFO_LEVEL v ∈ fs) (h : Frame us fs d0 d) :
    Frame us fs d0 (d.fitTaken v rest) := Frame.putVoice hu hf h

theorem Dev.fitTaken_tap (d : Dev) (v : Nat) (rest : List Entry) : ((d.fitTaken v rest).voice v).fitTap = rest := by
  rw [Dev.fitTaken, Dev.voice_putVoice_same]

theorem Dev.stampAccumulate_eq {v : Nat} {e : Entry} {rest : List Entry} (alive : d.alive) (tap : (d.voice v).fitTap = e :: rest) :
    d.stampAccumulate v = (d.fitTaken v rest).takeFit v e := by
  rw [Dev.stampAccumulate]
  simp only [tap, alive, if_true]
  rfl

/-- Settles O21: the fit engine takes the oldest entry of the voice's stamp stream. -/
theorem stampsEnterTheSums : Obligations.StampsEnterTheSums := by
  unfold Obligations.StampsEnterTheSums
  refine ⟨fun s v b raw n e rest f small alive tap fit stamp markers lost base raw_eq n_eq => ?_, fun s v e rest f small alive tap fit bound => ?_⟩
  · refine Does.of_onDev (f := fun d => Dev.stampAccumulate v (d.readState (5 + v) [])) rfl (by simp [Instr.wf, upsetsOk, small]) ?_
    have same : (s.dev.fitTaken v rest).fitVoice v = f := fit
    have sums := Dev.takeFit_of_plain (d := s.dev.fitTaken v rest) stamp markers lost (by rw [same]; exact base)
    simp only [Dev.readState_nil]
    rw [same, ← raw_eq, ← n_eq] at sums
    rw [Dev.stampAccumulate_eq alive tap, sums]
    have pairs : Frame [.fitP] [] ((s.dev.fitTaken v rest).putFitVoice v
        { f with lastN := n, sums := f.sums.add n ((e.ext - b) * 65536 + e.m)
                 ivl := f.ivl.take ((s.dev.fitTaken v rest).polarity v) n ((e.ext - b) * 65536 + e.m) e.k (e.edge == 1) }) _ :=
      Frame.takePairs (v := v) (base := b) (ext := e.ext) (n := n) (t := (e.ext - b) * 65536 + e.m) (by simp) (Frame.refl _ _ _)
    have voices := pairs.parts .voices (by decide)
    have fits := pairs.parts .fitV (by decide)
    have fit_new := Eq.trans (congrArg (fun t => Tab.read FitVoice.fresh t v) fits) (Dev.fitVoice_putFitVoice_same _ v _)
    refine ⟨Eq.trans (congrArg (fun t => (Tab.read Voice.fresh t v).fitTap) voices) (Dev.fitTaken_tap s.dev v rest), ?_, ?_, ?_,
      Frame.takePairs (by simp) (Frame.putFitVoice (by simp) (Frame.fitTaken (by simp) (by simp) (Frame.refl _ _ _)))⟩
    · exact congrArg FitVoice.lastN fit_new
    · exact Eq.trans (congrArg FitVoice.base fit_new) base
    · exact congrArg FitVoice.sums fit_new
  · refine Does.of_onDev (f := fun d => Dev.stampAccumulate v (d.readState (5 + v) [])) rfl (by simp [Instr.wf, upsetsOk, small]) ?_
    have same : (s.dev.fitTaken v rest).fitVoice v = f := fit
    simp only [Dev.readState_nil]
    rw [Dev.stampAccumulate_eq alive tap, Dev.takeFit, if_pos bound]
    have moved : Frame [.items, .fitV, .fitP] [] (s.dev.fitTaken v rest) ((s.dev.fitTaken v rest).moveSums v e) := (Frame.refl _ _ _).moveSums (fun _ h => h)
    have fit_new : ((s.dev.fitTaken v rest).moveSums v e).fitVoice v =
        { (s.dev.fitTaken v rest).fitVoice v with base := some e.ext, n0 := e.evcnt, lastN := 0, sums := Sums.zero, ivl := Ivl.zero } := by
      rw [Dev.moveSums_eq, Dev.fitVoice_putFitVoice_same]
    refine ⟨Eq.trans (congrArg (fun t => (Tab.read Voice.fresh t v).fitTap) (moved.parts .voices (by decide))) (Dev.fitTaken_tap s.dev v rest), ?_, ?_, ?_, ?_,
      fun i mem ctx stop => ?_, ?_⟩
    · rw [fit_new]
    · rw [fit_new]
    · rw [fit_new]
    · rw [fit_new]
    · rw [← same]
      exact Dev.mem_moveSums (d := s.dev.fitTaken v rest) small mem ctx stop
    · exact Frame.moveSums (by simp) (Frame.fitTaken (by simp) (by simp) (Frame.refl _ _ _))

end Sys2Proof.Machine
end

/-! PROOFS: the commit of a period in a device whose registers hold a number wider than its field. -/
section

namespace Sys2Proof.Machine

open Reg

/-- A device whose table holds a value for a field as it stands, not cut to the field's width. -/
def Dev.wrWide (d : Dev) (f : Fld) (v : Nat) : Dev :=
  { d with regs := d.regs.setTable f.cls (Store.write (d.regs.table f.cls) f.key (v ^^^ f.reset)) }

/-- A period with its sum, a binary64 zero or a rest. -/
def endedJob (reason : Nat) : PipeJob :=
  { start := 0, stop := 0, pseq := 0, res := [], extra := 0, own := none, sum := some { value := f64Zero, reason := reason, causes := 0 }, vs := [],
    badRatio := false, arith := false, cmd := 0, refused := 0, cmdSrc := 0, cmdSeq := 0, digest := none, realign := [], stale := false, ds := f64Zero,
    speed := f64Zero, belt := 0, seg := none }

/-- Cell 0 is enabled on pair 0, whose voice A is the number 86: the place where VOICE_STATUS[86].STATE would stand is that of DIAG_Z. The zero
in force is the binary64 with the bits 3. -/
def strayVoiceDev (reason : Nat) : Dev :=
  ({ runningDev with pipe := { runningDev.pipe with jobs := [endedJob reason], z := 3#64, ma := [f64Zero] } }.wr (CELL_CFG_EN 0) 1).wrWide (FIT_PAIR_CFG_VOICE_A 0) 86

/-- The same device while its moving average fills. -/
def strayFillingDev : Dev := (strayVoiceDev 0).wr PIPE_CFG_N_MA 2

/-- The same device at a rest, with the initial zero done. -/
def strayRestingDev : Dev := ((strayVoiceDev 1).wr PIPE_STATUS_INIT_DONE 1).wr PIPE_CFG_REST_HOLD_MAX 1

/-- Refutes O28: nothing bounds the voice number of a pair, and DIAG_Z, shown first, reads as RETIRED for voice 86, so the error cause is 3 and not 1. -/
theorem not_goodPeriodIsCommitted : ¬ Obligations.GoodPeriodIsCommitted := by
  unfold Obligations.GoodPeriodIsCommitted
  intro h
  obtain ⟨filling, -⟩ := h ⟨strayFillingDev, []⟩ (endedJob 0) [] { value := f64Zero, reason := 0, causes := 0 } (by decide +kernel) (by decide +kernel) rfl rfl rfl
    (by decide +kernel) rfl rfl rfl rfl rfl rfl rfl (by decide +kernel)
  have d := (filling (by decide +kernel) (by decide +kernel)).effect rfl (by decide)
  obtain ⟨-, -, cause, -⟩ := d
  exact absurd cause (by decide +kernel)

/-- Refutes O27: in the same way a resting period ends in error cause 3 where the statement keeps the result shown. -/
theorem not_localSumAndRest : ¬ Obligations.LocalSumAndRest := by
  unfold Obligations.LocalSumAndRest
  intro h
  obtain ⟨-, rests⟩ := h
  obtain ⟨short, -⟩ := rests ⟨strayRestingDev, []⟩ (endedJob 1) [] { value := f64Zero, reason := 1, causes := 0 } (by decide +kernel) (by decide +kernel) rfl rfl
    (by decide) (by decide) (by decide +kernel) rfl rfl rfl rfl rfl rfl rfl (by decide +kernel) (by decide +kernel) (by decide +kernel)
  have d := (short (by decide +kernel)).effect rfl (by decide)
  obtain ⟨-, -, -, -, error, -⟩ := d
  exact absurd error (by decide +kernel)

end Sys2Proof.Machine
end

/-! PROOFS: an analyser's measurements and its result block. -/
section

namespace Sys2Proof.Machine

open Reg

variable {us : List Part} {fs : List Fld} {d0 d : Dev} {a : Nat}

/-! ### Taking the next stamp -/

theorem Dev.anaTrigger_of_none (none_ : (d.ana a).tq = []) : d.anaTrigger a = d := by
  rw [Dev.anaTrigger]
  simp only [none_]

theorem Dev.analyserStamp_of_next {t : Taken} {role : Nat} (measuring : d.measuring) (none_ : (d.ana a).tq = [])
    (next : d.anaNext a false = some (t, role)) : d.analyserStamp a = d.anaProcess a t role := by
  rw [Dev.analyserStamp, if_neg (by simp [measuring]), Dev.anaTrigger_of_none none_]
  simp only [next]

/-- An instance that has taken a stamp off its queue. -/
def Dev.anaTook (d : Dev) (a role : Nat) : Dev := d.putAna a ((d.ana a).drop role)

theorem Dev.ana_anaTook (d : Dev) (a role : Nat) : (d.anaTook a role).ana a = (d.ana a).drop role := Dev.ana_putAna_same _ _ _

/-- A live stamp enters the measurement of the instance's mode, in its roles. -/
def Dev.anaUse (d : Dev) (a : Nat) (t : Taken) (start stop : Bool) : Dev :=
  if d.rd (ANA_CFG_MODE a) = 1 then d.intervalStamp a t start stop
  else if d.rd (ANA_CFG_MODE a) = 2 then
    let d := if start then d.putAna a ((d.ana a).cycleStamp t.entry.tuned) else d
    if stop then d.putAna a ((d.ana a).phaseStamp t.entry.tuned) else d
  else if (d.rd (ANA_CFG_MODE a) = 3 ∨ d.rd (ANA_CFG_MODE a) = 4) ∧ start then d.pulseStamp a t
  else d

/-- With no boundary ahead and no decimation a live stamp does nothing else. -/
theorem Dev.anaProcess_of_live {t : Taken} {role : Nat} (ahead : (d.ana a).ahead = []) (flags : t.entry.flags = 0) (k : t.entry.k = 0) :
    d.anaProcess a t role = (d.anaTook a role).anaUse a t
      (role == 0 && edgeSelected (d.rd (ANA_CFG_EDGE_S a)) t.entry.edge)
      ((if d.anaTwo a then role == 1 else true) && edgeSelected (d.rd (ANA_CFG_EDGE_T a)) t.entry.edge) := by
  have none_ahead : ((d.putAna a ((d.ana a).drop role)).ana a).ahead = [] := by
    rw [Dev.ana_putAna_same, Ana.drop]
    split <;> exact ahead
  have plain : t.entry.isBound = false := by simp [Entry.isBound, flags]
  unfold Dev.anaProcess
  simp only [none_ahead, List.length_nil, Dev.anaRollTo, plain, k, Bool.false_eq_true, if_false, lt_irrefl, decide_false, Bool.and_false]
  rfl

/-- A measurement that enters neither a histogram nor a limit. -/
theorem Dev.measure_of_plain {u : Nat} {t : Taken} (hist : d.rd (ANA_CFG_HIST_EN a) = 0) (cond : d.rd (ANA_TRIG_COND a) = 0) :
    d.measure a u t = d.putAna a { d.ana a with acc := { (d.ana a).acc with ivl := (d.ana a).acc.ivl.use u 0 } } := by
  have off : (d.putAna a { d.ana a with acc := { (d.ana a).acc with ivl := (d.ana a).acc.ivl.use u 0 } }).histogram a u =
      d.putAna a { d.ana a with acc := { (d.ana a).acc with ivl := (d.ana a).acc.ivl.use u 0 } } := by
    rw [Dev.histogram, if_pos (by rw [Dev.is_of_zero (by exact hist)]; rfl)]
  rw [Dev.measure]
  dsimp only
  rw [off, if_neg]
  rintro ⟨⟨limit, -⟩, -⟩
  exact absurd ((cond.symm.trans (by exact limit)) : 0 = 2) (by decide)

theorem Dev.ana_measure_of_plain {u : Nat} {t : Taken} {x : Ana} (hist : d.rd (ANA_CFG_HIST_EN a) = 0) (cond : d.rd (ANA_TRIG_COND a) = 0) :
    ((d.putAna a x).measure a u t).ana a = { x with acc := { x.acc with ivl := x.acc.ivl.use u 0 } } ∧
    Frame [.anas] [] d ((d.putAna a x).measure a u t) := by
  rw [Dev.measure_of_plain (by exact hist) (by exact cond), Dev.ana_putAna_same]
  refine ⟨?_, Frame.putAna (by simp) (Frame.putAna (by simp) (Frame.refl _ _ _))⟩
  simp only [Dev.ana_putAna_same]

/-- A stop stamp of the other voice ends the interval that is armed. -/
theorem Dev.anaUse_interval {t : Taken} {ts : Nat} (mode : d.rd (ANA_CFG_MODE a) = 1) (two : d.anaTwo a) (armed : (d.ana a).arm = some ts)
    (later : ts ≤ t.entry.tuned) : d.anaUse a t false true = (d.putAna a { d.ana a with arm := none }).measure a (t.entry.tuned - ts) t := by
  simp only [Dev.anaTwo, Bool.and_eq_true, bne_iff_ne] at two
  obtain ⟨-, apart⟩ := two
  rw [Dev.anaUse, if_pos mode, Dev.intervalStamp, if_neg (by simp [apart]), if_neg Bool.false_ne_true, if_pos rfl, Dev.stopStamp]
  simp only [armed, later, if_true]

/-- The closing edge of a pulse. -/
theorem Dev.anaUse_width {t : Taken} {b : Nat} {stop : Bool} (mode : d.rd (ANA_CFG_MODE a) = 3) (begun : (d.ana a).begun = some b)
    (closing : decide (t.entry.edge = 1) = d.is (ANA_CFG_POL a)) : d.anaUse a t true stop =
      (d.putAna a { d.ana a with begun := none, acc := { (d.ana a).acc with width := t.entry.tuned - b } }).measure a (t.entry.tuned - b) t := by
  have ends : ((t.entry.edge == 1) != d.is (ANA_CFG_POL a)) = false := by
    rw [← closing]
    exact bne_self_eq_false _
  rw [Dev.anaUse, if_neg (by omega), if_neg (by omega), if_pos ⟨.inl mode, rfl⟩, Dev.pulseStamp]
  simp only [ends, Bool.false_eq_true, if_false, begun]

/-! ### Closing a period -/

/-- The periods that wait, once the instance has passed a boundary. -/
def Dev.anaRolled (d : Dev) (a stop : Nat) : List AnaItem :=
  d.anaItems.map (fun i => if i.ana = a ∧ i.stop = stop then { i with acc := { (d.ana a).acc with
    unpaired := ((d.ana a).acc.unpaired + (d.ana a).pend.length) % 2 ^ 32 } } else i)

theorem Dev.anaItems_anaRoll (d : Dev) (a stop : Nat) : (d.anaRoll a stop).anaItems = d.anaRolled a stop := rfl

theorem Frame.anaRoll {stop : Nat} (hu : [Part.anas, Part.anaItems] ⊆ us) (h : Frame us fs d0 d) : Frame us fs d0 (d.anaRoll a stop) :=
  Frame.putAna (hu (by simp)) (h.set rfl (fun u x => by cases u <;> first | rfl | exact absurd (hu (by simp)) x))

/-- An instance with nothing in its queues only passes the boundary. -/
theorem Dev.anaReach_of_empty {stop : Nat} (qs : (d.ana a).qs = []) (qt : (d.ana a).qt = []) (ahead : (d.ana a).ahead = [stop]) :
    d.anaReach a stop = d.anaRoll a stop := by
  rw [Dev.anaReach, Dev.anaBacklog, qs, qt]
  simp only [List.length_nil, Dev.anaDrain, ahead, List.length_cons, Dev.anaRollTo, le_refl, if_true]

/-- A period closed with its causes. -/
def Dev.anaClosed (d : Dev) (a stop : Nat) : Dev := { d.anaRoll a stop with anaItems := dropAnaItem a (d.anaRolled a stop) }

theorem Frame.anaClosed {stop : Nat} (hu : [Part.anas, Part.anaItems] ⊆ us) (h : Frame us fs d0 d) : Frame us fs d0 (d.anaClosed a stop) :=
  (Frame.anaRoll hu h).set rfl (fun u x => by cases u <;> first | rfl | exact absurd (hu (by simp)) x)

/-- The item of a period at its boundary, with what the instance has gathered. -/
def Dev.anaGathered (d : Dev) (h : AnaItem) : AnaItem :=
  { h with acc := { (d.ana h.ana).acc with unpaired := ((d.ana h.ana).acc.unpaired + (d.ana h.ana).pend.length) % 2 ^ 32 } }

theorem Dev.anaRolled_cons {h : AnaItem} {rest : List AnaItem} (items : d.anaItems = h :: rest) :
    ∃ tail, d.anaRolled h.ana h.stop = d.anaGathered h :: tail ∧ tail.length = rest.length := by
  rw [Dev.anaRolled, items, List.map_cons, if_pos ⟨rfl, rfl⟩]
  exact ⟨_, rfl, List.length_map _⟩

theorem Dev.analyserCloseout_eq {h : AnaItem} {rest : List AnaItem} (measuring : d.measuring) (items : d.anaItems = h :: rest)
    (gone : ∀ v ∈ h.vs, d.cleared v h.stop = true) (qs : (d.ana h.ana).qs = []) (qt : (d.ana h.ana).qt = []) (ahead : (d.ana h.ana).ahead = [h.stop])
    (enough : h.minMeas ≤ (d.anaGathered h).measured) :
    d.analyserCloseout h.ana [] = (d.anaClosed h.ana h.stop).finishAna (d.anaGathered h) h.causes := by
  obtain ⟨tail, rolled, -⟩ := Dev.anaRolled_cons items
  have first : (d.anaRoll h.ana h.stop).anaItems.find? (fun i => i.ana == h.ana) = some (d.anaGathered h) := by
    rw [Dev.anaItems_anaRoll, rolled, List.find?_cons_of_pos (by simp [Dev.anaGathered])]
  have head : d.anaItems.find? (fun i => i.ana == h.ana) = some h := by
    rw [items, List.find?_cons_of_pos (by simp)]
  have reach : (d.anaReach h.ana h.stop).meetUpsets [] = d.anaRoll h.ana h.stop := Dev.anaReach_of_empty qs qt ahead
  have ready : (!d.measuring || !h.vs.all (fun v => d.cleared v h.stop)) = false := by
    simp only [measuring, Bool.not_true, Bool.false_or, Bool.not_eq_false', List.all_eq_true]
    exact gone
  have few : ¬((d.anaGathered h).mode ≠ 5 ∧ (d.anaGathered h).measured < (d.anaGathered h).minMeas) := by
    rintro ⟨-, less⟩
    exact absurd less (Nat.not_lt.2 enough)
  unfold Dev.analyserCloseout
  simp only [head, ready, reach, first, Option.getD_some, List.any_nil, Bool.false_eq_true, if_false, if_neg few]
  rfl

/-- The result block. -/
def anaResultFlds (a : Nat) : List Fld :=
  [ANA_RSEQ_RSEQ a, ANA_RSTAT_REASON a, ANA_RSTAT_CAUSES a, ANA_RSTAT_DECIM a, ANA_START_START a, ANA_COUNT_COUNT a, ANA_UNPAIRED_UNPAIRED a,
    ANA_VALUE_VALUE a, ANA_SD_SD a, ANA_MIN_MIN a, ANA_MAX_MAX a]

/-- The statistics that a period without a reason shows. -/
def AnaItem.shownCount (i : AnaItem) (total reason : Nat) : Nat := if reason ≠ 0 then 0 else (i.values total).1

/-- Its values, in their order. -/
def AnaItem.shownValues (i : AnaItem) (total reason : Nat) : List Nat :=
  if reason ≠ 0 then [if i.mode = 5 then (i.values total).2.getD 0 0 else 0, 0, 0, 0] else (i.values total).2

theorem Dev.putResult_shows (d : Dev) (a : Nat) (i : AnaItem) (reason causes : Nat) :
    (d.putResult a i reason causes).rd (ANA_RSEQ_RSEQ a) = (d.rd (ANA_RSEQ_RSEQ a) + 1) % 2 ^ 32 ∧
    (d.putResult a i reason causes).rd (ANA_RSTAT_REASON a) = reason % 2 ^ 4 ∧
    (d.putResult a i reason causes).rd (ANA_RSTAT_CAUSES a) = causes % 2 ^ 16 ∧
    (d.putResult a i reason causes).rd (ANA_COUNT_COUNT a) = i.shownCount (d.ana a).total reason % 2 ^ 32 ∧
    (d.putResult a i reason causes).rd (ANA_UNPAIRED_UNPAIRED a) = (if reason ≠ 0 then 0 else i.acc.unpaired) % 2 ^ 32 ∧
    (d.putResult a i reason causes).rd (ANA_VALUE_VALUE a) = (i.shownValues (d.ana a).total reason).getD 0 0 % 2 ^ 64 ∧
    (d.putResult a i reason causes).rd (ANA_SD_SD a) = (i.shownValues (d.ana a).total reason).getD 1 0 % 2 ^ 64 ∧
    (d.putResult a i reason causes).rd (ANA_MIN_MIN a) = (i.shownValues (d.ana a).total reason).getD 2 0 % 2 ^ 64 ∧
    (d.putResult a i reason causes).rd (ANA_MAX_MAX a) = (i.shownValues (d.ana a).total reason).getD 3 0 % 2 ^ 64 := by
  unfold Dev.putResult
  dsimp only
  refine ⟨?_, ?_, ?_, ?_, ?_, ?_, ?_, ?_, Dev.rd_wr_same _ (ANA_MAX_MAX a) _⟩
  all_goals simp (disch := simp only [ANA_RSEQ_RSEQ, ANA_RSTAT_REASON, ANA_RSTAT_CAUSES, ANA_RSTAT_DECIM, ANA_START_START, ANA_COUNT_COUNT,
    ANA_UNPAIRED_UNPAIRED, ANA_VALUE_VALUE, ANA_SD_SD, ANA_MIN_MIN, ANA_MAX_MAX]; omega) only [Dev.rd_wr_key]
  · exact Dev.rd_step1_same d (ANA_RSEQ_RSEQ a)
  · exact Dev.rd_wr_same _ (ANA_RSTAT_REASON a) _
  · exact Dev.rd_wr_same _ (ANA_RSTAT_CAUSES a) _
  · exact Dev.rd_wr_same _ (ANA_COUNT_COUNT a) _
  · exact Dev.rd_wr_same _ (ANA_UNPAIRED_UNPAIRED a) _
  · exact Dev.rd_wr_same _ (ANA_VALUE_VALUE a) _
  · exact Dev.rd_wr_same _ (ANA_SD_SD a) _
  · exact Dev.rd_wr_same _ (ANA_MIN_MIN a) _

theorem Frame.putResult {i : AnaItem} {reason causes : Nat} (hf : anaResultFlds a ⊆ fs) (h : Frame us fs d0 d) : Frame us fs d0 (d.putResult a i reason causes) :=
  ((((((((((Frame.step1 (hf (by simp [anaResultFlds])) h).wr (hf (by simp [anaResultFlds]))).wr (hf (by simp [anaResultFlds]))).wr
    (hf (by simp [anaResultFlds]))).wr (hf (by simp [anaResultFlds]))).wr (hf (by simp [anaResultFlds]))).wr (hf (by simp [anaResultFlds]))).wr
    (hf (by simp [anaResultFlds]))).wr (hf (by simp [anaResultFlds]))).wr (hf (by simp [anaResultFlds]))).wr (hf (by simp [anaResultFlds]))

/-- A period without a histogram shows its result alone. -/
theorem Dev.finishAna_of_plain {i : AnaItem} {causes : Nat} (plain : i.histEn = false) : d.finishAna i causes =
    d.putResult i.ana { i with decim := i.decim || i.acc.decim } (firstReason causes) causes := by
  rw [Dev.finishAna, Dev.closeHistogram, if_pos (by rw [plain]; rfl)]

theorem firstReason_lt (causes : Nat) : firstReason causes < 16 := by
  have low : ∀ r ∈ [12, 7, 6, 11, 3, 10, 9, 5, 4, 8, 2, 1], r < 16 := by decide
  rw [firstReason]
  cases found : [12, 7, 6, 11, 3, 10, 9, 5, 4, 8, 2, 1].find? (fun r => causes.testBit r) with
  | none => decide
  | some r => exact low r (List.mem_of_find?_eq_some found)

/-- What INTERVAL and WIDTH count and show. -/
theorem AnaItem.values_of_interval {i : AnaItem} (mode : i.mode = 1 ∨ i.mode = 3) (total : Nat) :
    i.values total = (i.acc.ivl.count, (i.acc.ivl.values i.eps).map BitVec.toNat) := by
  rw [AnaItem.values, if_neg (by omega), if_neg (by omega), if_neg (by omega)]

theorem toNat_getD (l : List F64) (n : Nat) : (l.map BitVec.toNat).getD n 0 % 2 ^ 64 = (l.getD n 0).toNat := by
  rw [List.getD_eq_getElem?_getD, List.getElem?_map, List.getD_eq_getElem?_getD]
  cases l[n]? with
  | none => rfl
  | some x => exact Nat.mod_eq_of_lt x.isLt

/-! ### The snapshot of the result block -/

/-- The words of the result block after RSEQ. -/
def Dev.resultBlock (d : Dev) (a : Nat) : List Nat :=
  let w64 := fun (f : Fld) => [d.rd f % 2 ^ 32, d.rd f / 2 ^ 32]
  let rstat := d.rd (ANA_RSTAT_REASON a) + d.rd (ANA_RSTAT_CAUSES a) * 2 ^ 4 + d.rd (ANA_RSTAT_DECIM a) * 2 ^ 20 +
    d.rd (ANA_RSTAT_TOTAL_SUSPECT a) * 2 ^ 21
  [rstat] ++ w64 (ANA_START_START a) ++ [d.rd (ANA_COUNT_COUNT a), d.rd (ANA_UNPAIRED_UNPAIRED a)] ++
    w64 (ANA_VALUE_VALUE a) ++ w64 (ANA_SD_SD a) ++ w64 (ANA_MIN_MIN a) ++ w64 (ANA_MAX_MAX a)

theorem Dev.rseqRead_eq (a : Nat) (d : Dev) : d.rseqRead a =
    { d with snaps := (d.resultBlock a).zipIdx.foldl (fun s p => Store.write s (0x6100 + a * 0x80 + 0x44 + p.2 * 4) p.1) d.snaps } := rfl

/-- Words written after a place leave it. -/
theorem Store.read_words_before (base k : Nat) (l : List Nat) : ∀ (n : Nat) (s : Store), k < n →
    Store.read ((l.zipIdx n).foldl (fun s p => Store.write s (base + p.2 * 4) p.1) s) (base + k * 4) = Store.read s (base + k * 4) := by
  induction l with
  | nil => exact fun _ _ _ => rfl
  | cons x r ih =>
    intro n s later
    rw [List.zipIdx_cons, List.foldl_cons, ih (n + 1) _ (by omega)]
    exact Store.read_write_other _ _ (by omega)

/-- Words written one after the other are read back. -/
theorem Store.read_words (base : Nat) (l : List Nat) : ∀ (n i : Nat) (s : Store) (small : i < l.length),
    Store.read ((l.zipIdx n).foldl (fun s p => Store.write s (base + p.2 * 4) p.1) s) (base + (n + i) * 4) = l[i] := by
  induction l with
  | nil => exact fun _ _ _ small => absurd small (Nat.not_lt_zero _)
  | cons x r ih =>
    intro n i s small
    rw [List.zipIdx_cons, List.foldl_cons]
    cases i with
    | zero =>
      rw [Store.read_words_before base (n + 0) r (n + 1) _ (by omega)]
      exact Store.read_write_same _ _ _
    | succ i =>
      rw [show n + (i + 1) = n + 1 + i by omega]
      exact ih (n + 1) i _ (Nat.lt_of_succ_lt_succ small)

theorem Dev.snaps_rseqRead (d : Dev) (a i : Nat) (small : i < 13) :
    Store.read (d.rseqRead a).snaps (0x6100 + a * 0x80 + 0x44 + i * 4) = (d.resultBlock a)[i]'small := by
  have word := Store.read_words (0x6100 + a * 0x80 + 0x44) (d.resultBlock a) 0 i d.snaps small
  rwa [Nat.zero_add] at word

/-- Settles O24: a stamp moves only its instance's statistics, and a closeout writes the block from them. -/
theorem analyserMeasures : Obligations.AnalyserMeasures := by
  unfold Obligations.AnalyserMeasures
  refine ⟨⟨fun s a ts x t rest small measuring ana tq qs qt ahead arm later flags k mode two free edge hist cond => ?_,
    fun s a b x t rest small measuring ana tq qs ahead begun flags k mode edge closing hist cond => ?_⟩,
    fun s a x h rest small measuring ana items own mode gone qs qt ahead pend plain => ?_, fun s a small served => ?_⟩
  · refine Does.of_onDev (f := fun d => Dev.analyserStamp a (d.readState (29 + a) [])) rfl (by simp [Instr.wf, upsetsOk, small]) ?_
    subst ana
    have next : s.dev.anaNext a false = some (t, 1) := by
      rw [Dev.anaNext, if_pos two]
      simp only [qs, qt, free, Bool.or_true, if_true]
    have took : (s.dev.anaTook a 1).ana a = { s.dev.ana a with qt := rest } := by
      rw [Dev.ana_anaTook, Ana.drop, if_neg (by decide), qt, List.tail_cons]
    simp only [Dev.readState_nil]
    rw [Dev.analyserStamp_of_next measuring tq next, Dev.anaProcess_of_live ahead flags k, if_pos two, edge,
      show ((1 == 0 && edgeSelected (s.dev.rd (ANA_CFG_EDGE_S a)) t.entry.edge : Bool)) = false from rfl, show ((1 : Nat) == 1 && true) = true from rfl,
      Dev.anaUse_interval (by exact mode) (by exact two) (by rw [took]; exact arm) later, took]
    obtain ⟨measured, frame⟩ := Dev.ana_measure_of_plain (d := s.dev.anaTook a 1) (u := t.entry.tuned - ts) (t := t)
      (x := { s.dev.ana a with qt := rest, arm := none }) (by exact hist) (by exact cond)
    exact ⟨measured, (Frame.putAna (by simp) (Frame.refl _ _ _)).trans frame⟩
  · refine Does.of_onDev (f := fun d => Dev.analyserStamp a (d.readState (29 + a) [])) rfl (by simp [Instr.wf, upsetsOk, small]) ?_
    subst ana
    have one : s.dev.anaTwo a = false := by simp [Dev.anaTwo, mode]
    have next : s.dev.anaNext a false = some (t, 0) := by
      rw [Dev.anaNext, if_neg (by simp [one])]
      simp only [qs, List.head?_cons, Option.map_some]
    have took : (s.dev.anaTook a 0).ana a = { s.dev.ana a with qs := rest } := by
      rw [Dev.ana_anaTook, Ana.drop, if_pos rfl, qs, List.tail_cons]
    simp only [Dev.readState_nil]
    rw [Dev.analyserStamp_of_next measuring tq next, Dev.anaProcess_of_live ahead flags k, edge, show ((0 : Nat) == 0 && true) = true from rfl,
      Dev.anaUse_width (by exact mode) (by rw [took]; exact begun) (by exact closing), took]
    obtain ⟨measured, frame⟩ := Dev.ana_measure_of_plain (d := s.dev.anaTook a 0) (u := t.entry.tuned - b) (t := t)
      (x := { s.dev.ana a with qs := rest, begun := none, acc := { (s.dev.ana a).acc with width := t.entry.tuned - b } }) (by exact hist) (by exact cond)
    exact ⟨measured, (Frame.putAna (by simp) (Frame.refl _ _ _)).trans frame⟩
  · subst ana own
    have gathered : (s.dev.anaGathered h).mode = 1 ∨ (s.dev.anaGathered h).mode = 3 := mode
    have counted : (s.dev.anaGathered h).measured = (s.dev.ana h.ana).acc.ivl.count := congrArg Prod.fst (AnaItem.values_of_interval gathered 0)
    obtain ⟨tail, rolled, length⟩ := Dev.anaRolled_cons items
    have closed (enough : h.minMeas ≤ (s.dev.ana h.ana).acc.ivl.count) : s.dev.analyserCloseout h.ana [] =
        (s.dev.anaClosed h.ana h.stop).putResult h.ana { s.dev.anaGathered h with decim := h.decim || (s.dev.ana h.ana).acc.decim }
          (firstReason h.causes) h.causes := by
      rw [Dev.analyserCloseout_eq measuring items gone qs qt ahead (counted ▸ enough), Dev.finishAna_of_plain (by exact plain)]
      rfl
    have before : Frame [.anas, .anaItems] [] s.dev (s.dev.anaClosed h.ana h.stop) := Frame.anaClosed (fun _ h => h) (Frame.refl _ _ _)
    have block (reason : Nat) : Frame [] (anaResultFlds h.ana) (s.dev.anaClosed h.ana h.stop) ((s.dev.anaClosed h.ana h.stop).putResult h.ana
        { s.dev.anaGathered h with decim := h.decim || (s.dev.ana h.ana).acc.decim } reason h.causes) := Frame.putResult (fun _ h => h) (Frame.refl _ _ _)
    have left : (s.dev.anaClosed h.ana h.stop).anaItems = tail := by
      show dropAnaItem h.ana (s.dev.anaRolled h.ana h.stop) = tail
      rw [rolled, dropAnaItem]
      exact if_pos rfl
    have values := fun total => AnaItem.values_of_interval
      (i := { s.dev.anaGathered h with decim := h.decim || (s.dev.ana h.ana).acc.decim }) gathered total
    obtain ⟨seq, reason, causes, count, unpaired, value, sd, low, high⟩ := (s.dev.anaClosed h.ana h.stop).putResult_shows h.ana
      { s.dev.anaGathered h with decim := h.decim || (s.dev.ana h.ana).acc.decim } (firstReason h.causes) h.causes
    have seq_before : (s.dev.anaClosed h.ana h.stop).rd (ANA_RSEQ_RSEQ h.ana) = s.dev.rd (ANA_RSEQ_RSEQ h.ana) := before.rd (by simp)
    refine ⟨fun good enough => Does.of_onDev rfl (by simp [Instr.wf, upsetsOk, small]) ?_, fun bad enough => Does.of_onDev rfl (by simp [Instr.wf, upsetsOk, small]) ?_⟩
    · have fine : firstReason h.causes = 0 := by rw [good]; decide
      rw [closed enough, seq, reason, count, unpaired, value, sd, low, high, seq_before]
      simp only [AnaItem.shownCount, AnaItem.shownValues, fine, ne_eq, not_true_eq_false, if_false, values, toNat_getD, true_and]
      refine ⟨rfl, rfl, ?_, rfl, rfl, rfl, rfl, ?_, ?_⟩
      · rw [Dev.anaGathered, pend]
        exact Nat.mod_mod _ _
      · exact (congrArg List.length (Frame.parts (block 0) .anaItems (by decide))).trans (by rw [left, length])
      · exact (before.mono (fun _ h => h) (List.nil_subset _)).trans ((block 0).mono (List.nil_subset _) (fun _ h => h))
    · rw [closed enough, seq, reason, causes, count, value, seq_before]
      simp only [AnaItem.shownCount, AnaItem.shownValues, ne_eq, bad, not_false_eq_true, if_true]
      exact ⟨trivial, Nat.mod_eq_of_lt (firstReason_lt _), trivial, rfl, by rw [if_neg (by omega)]; rfl⟩
  · refine Does.of_oneRead rfl (by simp [Instr.wf, small]) served ?_
    have word := s.dev.beginRead.snaps_rseqRead a
    refine ⟨?_, ?_, ?_, ?_⟩
    · rw [show 0x6150 + 0x80 * a = 0x6100 + a * 0x80 + 0x44 + 3 * 4 by omega]
      exact (word 3 (by decide)).trans (Dev.rd_beginRead _ _)
    · rw [show 0x6158 + 0x80 * a = 0x6100 + a * 0x80 + 0x44 + 5 * 4 by omega]
      exact (word 5 (by decide)).trans (congrArg (· % 2 ^ 32) (Dev.rd_beginRead _ _))
    · rw [show 0x6174 + 0x80 * a = 0x6100 + a * 0x80 + 0x44 + 12 * 4 by omega]
      exact (word 12 (by decide)).trans (congrArg (· / 2 ^ 32) (Dev.rd_beginRead _ _))
    · have snapped : Frame [.snaps, .rings, .host] [] s.dev (s.dev.beginRead.rseqRead a) := by
        rw [Dev.rseqRead_eq]
        exact Frame.snaps (by simp) (Frame.beginRead (by simp) (Frame.refl _ _ _))
      exact snapped.setLatest (by simp)

end Sys2Proof.Machine
end

/-! PROOFS: what the host's read accesses answer. -/
section

namespace Sys2Proof.Machine

open Reg

variable {us : List Part} {fs : List Fld} {d0 d : Dev}

/-! ### The end of an access -/

/-- An access that ends with a code of R290, except for those that have a count of their own. -/
theorem Access.close_refused {x : Access} (read : Bool) (code : x.code ≠ 0) (counted : x.code ≤ 13) (sound : x.code ≠ 9) (ready : x.code ≠ 10)
    (legal : x.legal = none) (soft : x.soft = false) :
    x.close read =
      (((x.dev.wr HOST_STATUS_LAST_CODE x.code).wr HOST_ERR_ADDR_ADDR x.addr).inc HOST_COUNT_A_REJECTS).endAccess read x.out := by
  simp [Access.close, Dev.endAccess, code, legal, soft, Dev.when, Dev.setLatest, sound, ready, counted]

/-- An access whose data are not ready. -/
theorem Access.close_late {x : Access} (read : Bool) (code : x.code = 10) (legal : x.legal = none) (soft : x.soft = false) :
    x.close read = ((((x.dev.wr HOST_STATUS_LAST_CODE 10).wr HOST_ERR_ADDR_ADDR x.addr).inc HOST_COUNT_A_REJECTS).inc HOST_COUNT_B_NOT_READY).endAccess
      read x.out := by
  simp [Access.close, Dev.endAccess, code, legal, soft, Dev.when, Dev.setLatest]

/-- What a refused access shows, and what it leaves. -/
theorem Access.close_refused_shows {x : Access} (read : Bool) (code : x.code ≠ 0) (counted : x.code ≤ 13) (sound : x.code ≠ 9) (ready : x.code ≠ 10)
    (legal : x.legal = none) (soft : x.soft = false) :
    (x.close read).host.out = x.out ∧ x.dev.Rejected (x.close read) x.code x.addr ∧ Frame [.host] rejectFlds x.dev (x.close read) := by
  rw [Access.close_refused read code counted sound ready legal soft]
  exact ⟨rfl, x.dev.rejected_of_writes x.addr (by omega), Frame.endAccess (by simp) (Frame.rejected (Frame.refl _ _ _))⟩

/-! ### One read of one word -/

/-- The four read commands are one access with their command byte. -/
theorem exec_hostRead {s : State} {c : Instr} {a n : Nat} {late : Option Nat}
    (mem : c ∈ [Instr.read a n late [], Instr.fastRead a n late [], Instr.quadRead a n late [], Instr.qioRead a n late []]) (small : a < 2 ^ 24) :
    c.wf = true ∧ ∃ cmd, exec c s = s.onDev c (Dev.hostRead cmd a n late []) := by
  simp only [List.mem_cons, List.not_mem_nil, or_false] at mem
  have found : foundOk [] = true := rfl
  rcases mem with rfl | rfl | rfl | rfl
  all_goals exact ⟨by simpa [Instr.wf, found] using small, _, rfl⟩

/-- A read of one word without a CRC. -/
theorem Dev.hostRead_word {cmd a : Nat} {late : Option Nat} (alive : d.alive) (crc : d.rd HOST_STATUS_CRC_ACTIVE = 0) (aligned : a % 4 = 0) :
    d.hostRead cmd a 1 late [] = (Access.readWords late 1 0 a (Access.begin d.beginRead a (d.readServed a))).close true := by
  have same : d.beginRead.readServed a = d.readServed a := rfl
  have found : (if d.readServed a = true then d.beginRead.findUpsets [] else d.beginRead) = d.beginRead := by
    split <;> rfl
  rw [Dev.hostRead, if_neg (by simp [alive]), if_neg (by omega), same]
  dsimp only
  rw [found, if_neg (by rw [Dev.is_of_zero (by exact crc)]; decide)]
  rfl

/-- A misaligned read. -/
theorem Dev.hostRead_misaligned {cmd a n : Nat} {late : Option Nat} (alive : d.alive) (odd : a % 4 ≠ 0) : d.hostRead cmd a n late [] =
    Access.close { (Access.begin d.beginRead a (d.readServed a)).note 7 a with out := List.replicate (4 * n) 0xFF } true := by
  rw [Dev.hostRead, if_neg (by simp [alive]), if_pos odd]
  rfl

/-- A served word that is ready. -/
theorem Access.readWords_of_served {x : Access} {a : Nat} (served : x.dev.readServed a) : Access.readWords none 1 0 a x = x.readWord a := by
  simp [Access.readWords, served]

theorem Access.readWords_of_unserved {x : Access} {a : Nat} {late : Option Nat} (unserved : x.dev.readServed a = false) :
    Access.readWords late 1 0 a x = (x.note 11 a).filler := by
  simp [Access.readWords, unserved]

theorem Access.readWords_of_late {x : Access} {a : Nat} (served : x.dev.readServed a) : Access.readWords (some 0) 1 0 a x = (x.note 10 a).filler := by
  simp [Access.readWords, served]

/-- A read of a word outside the windows takes at most a snapshot. -/
theorem Frame.wordRead {a : Nat} (ring : ringWindow a = none) (capture : ¬(0x300000 ≤ a ∧ a < 0x400000)) (miss : ¬(0x6600 ≤ a ∧ a < 0x6640))
    (hu : Part.snaps ∈ us) (h : Frame us fs d0 d) : Frame us fs d0 (d.wordRead a) := by
  unfold Dev.wordRead
  simp only [ring]
  rw [if_neg capture, if_neg miss]
  split
  · exact h.snaps hu
  · split
    · exact h.snaps hu
    · unfold Dev.lowWordRead
      split
      · split
        · exact h
        · exact h.snaps hu
      · split
        · exact h.snaps hu
        · split
          · exact h.snaps hu
          · exact h

/-- Where no register and no window lies. -/
theorem outside_of_unmapped {a : Nat} (unmapped : mapped a = false) : fieldsAt a = none ∧ inWindow a = false ∧ ringWindow a = none ∧
    ¬(0x300000 ≤ a ∧ a < 0x400000) ∧ ¬(0x6600 ≤ a ∧ a < 0x6640) := by
  simp only [mapped, Bool.or_eq_false_iff, Option.isSome_eq_false_iff, Option.isNone_iff_eq_none] at unmapped
  obtain ⟨fields, window⟩ := unmapped
  refine ⟨fields, window, ?_⟩
  simp only [inWindow, Bool.or_eq_false_iff, Bool.and_eq_false_iff, decide_eq_false_iff_not, Option.isSome_eq_false_iff, Option.isNone_iff_eq_none] at window
  obtain ⟨⟨⟨⟨⟨⟨⟨⟨ring, capture⟩, -⟩, -⟩, miss⟩, -⟩, -⟩, -⟩, -⟩ := window
  exact ⟨ring, by omega, by omega⟩

/-- A word that a register or a window holds, and whose entry is sound. -/
theorem Access.readWord_of_sound {x : Access} {a : Nat} (held : mapped a) (sound : x.dev.badEntry a = false) :
    x.readWord a = { x with out := x.out ++ bytesLE 4 (x.dev.wordValue a), dev := x.dev.wordRead a } := by
  rw [Access.readWord, if_pos held, if_neg (by simp [sound])]

/-- A word that nothing holds reads zeros, with code 6. -/
theorem Access.readWord_of_unmapped {x : Access} {a : Nat} (unmapped : mapped a = false) :
    x.readWord a = { x.note 6 a with out := x.out ++ [0, 0, 0, 0], dev := x.dev.wordRead a } := by
  obtain ⟨fields, window, ring, capture, -⟩ := outside_of_unmapped unmapped
  have noted : (x.note 6 a).dev = x.dev ∧ (x.note 6 a).out = x.out := by
    rw [Access.note]
    split <;> exact ⟨rfl, rfl⟩
  obtain ⟨dev, out⟩ := noted
  have sound : x.dev.badEntry a = false := by
    simp only [Dev.badEntry, ring, Bool.and_eq_false_iff, decide_eq_false_iff_not]
    exact .inl (by omega)
  have value : x.dev.wordValue a = 0 := by
    simp only [Dev.wordValue, fields, window, Bool.false_eq_true, if_false]
  unfold Access.readWord
  simp only [unmapped, dev, out, sound, value, Bool.false_eq_true, if_false]
  rfl

/-- A read that has a code: what the device shows at its end. -/
theorem Does.of_refusedRead {s : State} {c : Instr} {f : Dev → Dev} {x : Access} {us : List Part} (run : exec c s = s.onDev c f) (wf : c.wf = true)
    (ends : f s.dev = x.close true) {code a : Nat} (code_eq : x.code = code) (addr : x.addr = a) (some_ : code ≠ 0) (counted : code ≤ 13) (sound : code ≠ 9)
    (ready : code ≠ 10) (legal : x.legal = none) (soft : x.soft = false) (host : Part.host ∈ us) (before : Frame us [] s.dev x.dev) {out : List Nat}
    (out_eq : x.out = out) :
    Does c s fun d => d.host.out = out ∧ s.dev.Rejected d code a ∧ Frame us rejectFlds s.dev d := by
  subst code_eq addr out_eq
  obtain ⟨driven, rejected, frame⟩ := Access.close_refused_shows true some_ counted sound ready legal soft
  refine Does.of_onDev run wf ?_
  rw [ends]
  refine ⟨driven, ⟨rejected.1, rejected.2.1, ?_⟩, (before.mono (fun _ h => h) (List.nil_subset _)).trans (frame.mono (by simpa using host) (fun _ h => h))⟩
  rw [rejected.2.2, before.rd (by simp)]

theorem Frame.begun (d : Dev) {us : List Part} (hu : [Part.rings, Part.host] ⊆ us) : Frame us [] d d.beginRead := Frame.beginRead hu (Frame.refl _ _ _)

/-- Settles O49: an access answers one word, and its end shows the code that arose. -/
theorem hostReadsAnswer : Obligations.HostReadsAnswer := by
  unfold Obligations.HostReadsAnswer
  refine ⟨fun s c a n mem small alive crc => ⟨fun one aligned served held sound => ?_, fun one aligned served unmapped => ?_,
    fun one aligned unserved => ?_, fun odd => ?_⟩, fun s c a mem small crc aligned served => ?_, fun s alive => ?_, fun s code alive small unknown => ?_⟩
  · obtain ⟨wf, cmd, run⟩ := exec_hostRead mem small
    subst one
    refine Does.of_onDev run wf ?_
    rw [Dev.hostRead_word alive crc aligned, Access.begin, if_pos served, Access.readWords_of_served (by exact served),
      Access.readWord_of_sound held (by exact sound), Access.close_accepted true rfl rfl rfl]
    refine ⟨rfl, Dev.rd_wr_same _ HOST_STATUS_LAST_CODE 0, rfl, fun low => Frame.endAccess (by simp) (Frame.wr (by simp) ?_)⟩
    have ring : ringWindow a = none := if_neg (by omega)
    exact Frame.wordRead ring (by omega) (by omega) (by simp) (Frame.beginRead (by simp) (Frame.refl _ _ _))
  · obtain ⟨wf, cmd, run⟩ := exec_hostRead mem small
    subst one
    obtain ⟨-, -, ring, capture, miss⟩ := outside_of_unmapped unmapped
    have ends := Dev.hostRead_word (cmd := cmd) (late := none) alive crc aligned
    rw [Access.begin, if_pos served, Access.readWords_of_served (by exact served), Access.readWord_of_unmapped unmapped] at ends
    exact Does.of_refusedRead (code := 6) run wf ends rfl rfl (by decide) (by decide) (by decide) (by decide) rfl rfl (by simp)
      (Frame.wordRead ring capture miss (by simp) (Frame.beginRead (by simp) (Frame.refl _ _ _))) rfl
  · obtain ⟨wf, cmd, run⟩ := exec_hostRead mem small
    subst one
    have ends := Dev.hostRead_word (cmd := cmd) (late := none) alive crc aligned
    rw [Access.begin, if_neg (by simp [unserved]), Access.readWords_of_unserved (by exact unserved)] at ends
    exact Does.of_refusedRead (code := 11) run wf ends rfl rfl (by decide) (by decide) (by decide) (by decide) rfl rfl (by simp) (Frame.begun _ (by simp)) rfl
  · obtain ⟨wf, cmd, run⟩ := exec_hostRead mem small
    have ends := Dev.hostRead_misaligned (d := s.dev) (cmd := cmd) (n := n) (late := none) alive odd
    by_cases served : s.dev.readServed a = true
    · rw [Access.begin, if_pos served] at ends
      rw [if_pos served]
      exact Does.of_refusedRead (code := 7) run wf ends rfl rfl (by decide) (by decide) (by decide) (by decide) rfl rfl (by simp) (Frame.begun _ (by simp)) rfl
    · rw [Access.begin, if_neg served] at ends
      rw [if_neg served]
      exact Does.of_refusedRead (code := 11) run wf ends rfl rfl (by decide) (by decide) (by decide) (by decide) rfl rfl (by simp) (Frame.begun _ (by simp)) rfl
  · obtain ⟨wf, cmd, run⟩ := exec_hostRead mem small
    have alive : s.dev.alive := by
      simp only [Dev.readServed, Bool.and_eq_true] at served
      exact served.1.1
    refine Does.of_onDev run wf ?_
    rw [Dev.hostRead_word alive crc aligned, Access.begin, if_pos served, Access.readWords_of_late (by exact served), Access.close_late true rfl rfl rfl]
    have rejected := s.dev.beginRead.rejected_of_writes (code := 10) a (by decide)
    have before : Frame [.rings, .host] (rejectFlds ++ [HOST_COUNT_B_NOT_READY]) s.dev
        (((s.dev.beginRead.wr HOST_STATUS_LAST_CODE 10).wr HOST_ERR_ADDR_ADDR a).inc HOST_COUNT_A_REJECTS) :=
      (Frame.rejected (Frame.beginRead (by simp) (Frame.refl _ _ _))).mono (fun _ h => h) (List.subset_append_left _ _)
    obtain ⟨last, place, rejects⟩ := rejected
    refine ⟨rfl, ⟨(Dev.rd_inc_key _ (by decide)).trans last, (Dev.rd_inc_key _ (by decide)).trans place, (Dev.rd_inc_key _ (by decide)).trans rejects⟩,
      ?_, Frame.endAccess (by simp) (Frame.inc (by simp) before)⟩
    have unchanged := (Frame.rejected (code := 10) (a := a) (Frame.refl [] rejectFlds s.dev.beginRead)).rd (g := HOST_COUNT_B_NOT_READY) (by decide)
    exact (Dev.rd_inc_same _ HOST_COUNT_B_NOT_READY).trans (congrArg (fun n => min (n + 1) (2 ^ 16 - 1)) unchanged)
  · refine Does.of_onDev rfl rfl ?_
    rw [Dev.status, if_pos alive]
    exact ⟨rfl, Frame.host (by simp) (Frame.refl _ _ _)⟩
  · refine Does.of_onDev rfl (by simpa [Instr.wf] using small) ?_
    have other : s.dev.unknownCommand code =
        ((Access.start s.dev.nextFree (s.dev.openValue % 2 ^ 24)).note 13 (s.dev.openValue % 2 ^ 24)).close false := by
      rw [Dev.unknownCommand, if_pos (by simpa [alive] using unknown)]
    rw [other]
    obtain ⟨out, ⟨last, -, rejects⟩, frame⟩ := Access.close_refused_shows (x := (Access.start s.dev.nextFree (s.dev.openValue % 2 ^ 24)).note 13
      (s.dev.openValue % 2 ^ 24)) false
      (show (13 : Nat) ≠ 0 by decide) (show (13 : Nat) ≤ 13 by decide) (show (13 : Nat) ≠ 9 by decide) (show (13 : Nat) ≠ 10 by decide) rfl rfl
    exact ⟨last, rejects, out, (Frame.free (by simp) (Frame.refl _ _ _)).trans (frame.mono (by simp) (fun _ h => h))⟩

end Sys2Proof.Machine
end

/-! PROOFS: what the host's write accesses do to one field. -/
section

namespace Sys2Proof.Machine

open Reg

variable {us : List Part} {fs : List Fld} {d0 d : Dev} {f : Fld} {a v : Nat}

/-! ### A word of one field -/

theorem ofBytesLE_bytesLE (n : Nat) : ∀ v < 256 ^ n, ofBytesLE (bytesLE n v) = v := by
  induction n with
  | zero => exact fun v small => (Nat.lt_one_iff.1 small).symm
  | succ n ih =>
    intro v small
    rw [bytesLE, ofBytesLE, ih (v / 256) (Nat.div_lt_of_lt_mul (by rwa [Nat.pow_succ, Nat.mul_comm] at small))]
    omega

theorem bytesLE_lt (n : Nat) : ∀ v, (bytesLE n v).all (fun b => decide (b < 256)) = true := by
  induction n with
  | zero => exact fun _ => rfl
  | succ n ih =>
    intro v
    rw [bytesLE, List.all_cons, ih, Bool.and_true, decide_eq_true_eq]
    exact Nat.mod_lt _ (by decide)

/-- The three write commands are one access with their command byte. -/
theorem exec_hostWrite {s : State} {c : Instr}
    (mem : c ∈ [Instr.write a (bytesLE 4 v) 0, Instr.quadWrite a (bytesLE 4 v) 0, Instr.qioWrite a (bytesLE 4 v) 0]) (small : a < 2 ^ 24) :
    c.wf = true ∧ ∃ cmd, exec c s = s.onDev c (Dev.hostWrite cmd a (bytesLE 4 v) 0) := by
  simp only [List.mem_cons, List.not_mem_nil, or_false] at mem
  have bytes := bytesLE_lt 4 v
  have wf : (decide (a < 2 ^ 24) && (bytesLE 4 v).all (fun b => decide (b < 256))) = true := by
    rw [bytes, Bool.and_true, decide_eq_true_eq]
    exact small
  rcases mem with rfl | rfl | rfl
  all_goals exact ⟨wf, _, rfl⟩

theorem Fld.widthAt_of_word (word : f.word = a) (within : f.key % 32 + f.width ≤ 32) : f.widthAt a = f.width := by
  have shift : f.shiftAt a = 0 := if_pos (le_of_eq word.symm)
  have low : f.lowAt a = f.key % 32 := if_pos (le_of_eq word.symm)
  rw [Fld.widthAt, shift, low]
  omega

/-- A field that lies in one word is written with the word's bits of it. -/
theorem Dev.rd_withPart (d : Dev) (word : f.word = a) (within : f.key % 32 + f.width ≤ 32) {x : Nat} (small : x < 2 ^ f.width) :
    (d.wr f (f.withPart a (d.rd f) x)).rd f = x := by
  have shift : f.shiftAt a = 0 := if_pos (le_of_eq word.symm)
  have whole := Nat.div_add_mod (d.rd f) (2 ^ f.width)
  rw [Dev.rd_wr_same, Fld.withPart, shift, Nat.pow_zero, Nat.mul_one, Nat.mul_one, Fld.partAt, shift, Nat.pow_zero, Nat.div_one,
    Fld.widthAt_of_word word within, show d.rd f - d.rd f % 2 ^ f.width = 2 ^ f.width * (d.rd f / 2 ^ f.width) by omega, Nat.mul_add_mod]
  exact Nat.mod_eq_of_lt small

theorem Fld.ofWord_lt (word : f.word = a) (within : f.key % 32 + f.width ≤ 32) (v : Nat) : f.ofWord a v < 2 ^ f.width := by
  rw [Fld.ofWord, Fld.widthAt_of_word word within]
  exact Nat.mod_lt _ (Nat.two_pow_pos _)

/-- A served write word of a single field that is no command. -/
theorem Dev.applyWord_of_field (plain : a / 0x100 ≠ 9) (fields : fieldsAt a = some [f]) (value : f.acc ≠ .cmd) :
    d.applyWord a v = Wrote.field a v { dev := d, code := 0, legal := false } f := by
  have free : ¬(0x900 ≤ a ∧ a < 0xA00 ∧ d.is NVM_PT_STATUS_STATE) := by
    rintro ⟨low, high, -⟩
    omega
  have no_command : isCommand [f] = false := by simp [isCommand, value]
  rw [Dev.applyWord, if_neg free]
  simp only [fields, no_command, Bool.false_eq_true, if_false, List.foldl_cons, List.foldl_nil]

/-- No SOFT reset follows: the word of POWER_CMD is a command. -/
theorem not_powerCommand (fields : fieldsAt a = some [f]) (value : f.acc ≠ .cmd) : a ≠ 0xC008 := by
  rintro rfl
  have power : (fieldsAt 0xC008).map (fun l => l.all (fun f => f.acc == .cmd)) = some true := by decide +kernel
  rw [fields] at power
  simp [value] at power

/-- What a word of one field answers, by the field's access type (R6, R291). -/
theorem Dev.applyWord_rw (plain : a / 0x100 ≠ 9) (fields : fieldsAt a = some [f]) (acc : f.acc = .rw) :
    d.applyWord a v = { dev := d.wr f (f.withPart a (d.rd f) (f.ofWord a v)), code := 0, legal := false } := by
  rw [Dev.applyWord_of_field plain fields (by rw [acc]; decide), Wrote.field]
  simp only [acc]

theorem Dev.applyWord_ro (plain : a / 0x100 ≠ 9) (fields : fieldsAt a = some [f]) (acc : f.acc = .ro) (differs : f.ofWord a v ≠ f.partAt a (d.visible f)) :
    d.applyWord a v = { dev := d, code := 1, legal := false } := by
  rw [Dev.applyWord_of_field plain fields (by rw [acc]; decide), Wrote.field]
  simp only [acc, bne_iff_ne, differs, ne_eq, not_false_eq_true, if_true]
  rfl

theorem Dev.applyWord_im (plain : a / 0x100 ≠ 9) (fields : fieldsAt a = some [f]) (acc : f.acc = .im) (differs : f.ofWord a v ≠ f.partAt a (d.visible f)) :
    d.applyWord a v = { dev := d, code := 2, legal := false } := by
  rw [Dev.applyWord_of_field plain fields (by rw [acc]; decide), Wrote.field]
  simp only [acc, bne_iff_ne, differs, ne_eq, not_false_eq_true, if_true]
  rfl

theorem Dev.applyWord_iml (plain : a / 0x100 ≠ 9) (fields : fieldsAt a = some [f]) (acc : f.acc = .iml)
    (differs : f.ofWord a v ≠ f.partAt a (d.visible f)) : d.applyWord a v = { dev := d, code := 3, legal := true } := by
  rw [Dev.applyWord_of_field plain fields (by rw [acc]; decide), Wrote.field]
  simp only [acc, bne_iff_ne, differs, ne_eq, not_false_eq_true, if_true]
  rfl

/-! ### The access -/

/-- A write access of one served word: what it is at its end, but for the code. -/
theorem Dev.hostWrite_served {cmd : Nat} {w : Wrote} (served : d.hostOpen) (crc : d.rd HOST_STATUS_CRC_ACTIVE = 0) (aligned : a % 4 = 0) (small : v < 2 ^ 32)
    (other : a ≠ 0xC008) (applied : d.applyWord a v = w) : d.hostWrite cmd a (bytesLE 4 v) 0 =
      (Access.note { Access.start d a with dev := w.dev, legal := if w.legal then some a else none } w.code a).close false := by
  have open_ : d.writeServed a v = true := by simp [Dev.writeServed, served]
  have word : d.writeWord a v = w := by rw [Dev.writeWord, if_pos open_, applied]
  rw [Dev.hostWrite_word cmd v served crc aligned, ofBytesLE_bytesLE 4 v (by omega), Access.writeWord]
  simp only [Access.start, word, Bool.false_or, Option.isNone_none, Bool.and_true, beq_eq_false_iff_ne.2 other, Bool.and_false, Bool.false_and]

/-- An access that attempts to change an IM L field (R292): its count, and the notification. -/
theorem Access.close_legal {x : Access} (code : x.code = 3) (legal : x.legal = some a) (soft : x.soft = false) : x.close false =
    (((((x.dev.wr HOST_STATUS_LAST_CODE 3).wr HOST_ERR_ADDR_ADDR x.addr).inc HOST_COUNT_A_REJECTS).inc HOST_COUNT_A_LEGAL_REJECTS).notify 10 0 a).endAccess
      false x.out := by
  simp [Access.close, Dev.endAccess, code, legal, soft, Dev.when, Dev.setLatest]

/-- A count of legal rejects and its notification. -/
def Dev.legalCounted (d : Dev) (a : Nat) : Dev := (d.inc HOST_COUNT_A_LEGAL_REJECTS).notify 10 0 a

theorem Dev.legalCounted_kept (d : Dev) (a : Nat) : Frame notifyParts [HOST_COUNT_A_LEGAL_REJECTS] d (d.legalCounted a) :=
  Frame.notify (fun _ h => h) (Frame.inc (by simp) (Frame.refl _ _ _))

theorem Dev.rd_legalCounted (d : Dev) (a : Nat) : (d.legalCounted a).rd HOST_COUNT_A_LEGAL_REJECTS = min (d.rd HOST_COUNT_A_LEGAL_REJECTS + 1) (2 ^ 16 - 1) := by
  have kept : Frame notifyParts [] (d.inc HOST_COUNT_A_LEGAL_REJECTS) (d.legalCounted a) := Frame.notify (fun _ h => h) (Frame.refl _ _ _)
  exact (kept.rd (by simp)).trans (Dev.rd_inc_same _ HOST_COUNT_A_LEGAL_REJECTS)

/-- REGISTER_WRITE of a word of one field that is no command. -/
theorem Dev.registerWrite_eq {w : Wrote} (served : d.hostOpen) (aligned : a % 4 = 0) (fields : fieldsAt a = some [f]) (value : f.acc ≠ .cmd)
    (applied : (d.setLatest false).applyWord a v = w) : d.registerWrite a v = w.dev.when w.legal (fun d => d.legalCounted a) := by
  have no_command : isCommand [f] = false := by simp [isCommand, value]
  rw [Dev.registerWrite, if_neg (by simp [served, aligned])]
  simp only [fields, no_command, Bool.false_eq_true, if_false, applied]
  rfl

/-! ### UNREAD -/

/-- What the fill of a ring may touch: its field, the levels that follow it, and the watermark's notification. -/
theorem Frame.setFill {n fill : Nat} (hu : notifyParts ⊆ us) (hf : [RING_FILL_WORDS n, RING_STATUS_FULL n, RING_STATUS_ABOVE_WM n] ⊆ fs)
    (h : Frame us fs d0 d) : Frame us fs d0 (d.setFill n fill) := by
  have shown : Frame us fs d0 (d.putFill n fill) := Frame.wr (hf (by simp)) (Frame.wr (hf (by simp)) h)
  exact Frame.when (f := fun d => d.notify 1 n fill) (Frame.wr (hf (by simp)) shown) (fun _ => Frame.notify hu)

theorem Dev.rd_setFill (d : Dev) (n fill : Nat) : (d.setFill n fill).rd (RING_FILL_WORDS n) = fill % 2 ^ 18 := by
  have notified : Frame notifyParts [RING_STATUS_ABOVE_WM n] (d.putFill n fill) (d.setFill n fill) :=
    Frame.when (f := fun d => d.notify 1 n fill) (Frame.wr (by simp) (Frame.refl _ _ _)) (fun _ => Frame.notify (fun _ h => h))
  refine (notified.rd (by simp only [List.forall_mem_singleton, RING_FILL_WORDS, RING_STATUS_ABOVE_WM]; omega)).trans ?_
  rw [Dev.putFill, Dev.rd_wr_key _ _ (by simp only [RING_FILL_WORDS, RING_STATUS_FULL]; omega)]
  exact Dev.rd_wr_same d (RING_FILL_WORDS n) fill

/-- The ring's read place moved back. -/
def Dev.movedBack (d : Dev) (n : Nat) (q : List Nat × Nat × List Nat) : Dev :=
  let m := Store.read d.host.moved n - 1
  let e := d.putRing n { d.ring n with
    ents := q.1, headRead := q.2.1, back := q.2.2, gapHost := (d.ring n).gapHost || (d.ring n).gapBack, gapBack := false, snapOk := false }
  e.wr (RING_RD_PTR_INDEX n) ((e.rd (RING_RD_PTR_INDEX n) + e.ringCap n - m % max (e.ringCap n) 1) % e.ringCap n)

/-- An accepted UNREAD. -/
def Dev.unreadDone (d : Dev) (n : Nat) (q : List Nat × Nat × List Nat) : Dev :=
  let e := (d.movedBack n q).setFill n ((d.movedBack n q).rd (RING_FILL_WORDS n) + (Store.read d.host.moved n - 1))
  { e with host := { e.host with moved := [], latest := false } }

theorem Dev.unread_eq {n : Nat} {q : List Nat × Nat × List Nat} (back : d.unreadTo n = some q) : d.unread n = d.unreadDone n q := by
  rw [Dev.unread]
  simp only [back]
  rfl

/-- Settles O50: by the access type of the word's one field. -/
theorem hostWritesAreJudged : Obligations.HostWritesAreJudged := by
  unfold Obligations.HostWritesAreJudged
  refine ⟨fun s c a v f mem aligned small value served crc plain fields word within other => ⟨fun acc => ?_, fun acc differs => ?_, fun acc differs => ?_,
    fun acc differs => ?_⟩, fun s a v f aligned small value served plain fields word within => ⟨fun acc => ?_, fun acc differs => ?_⟩,
    fun s n q small served => ⟨fun back => ?_, fun back => ?_⟩⟩
  · obtain ⟨wf, cmd, run⟩ := exec_hostWrite mem small
    refine Does.of_onDev run wf ?_
    rw [Dev.hostWrite_served served crc aligned value (not_powerCommand fields (by rw [acc]; decide)) (Dev.applyWord_rw plain fields acc),
      Access.close_accepted false rfl rfl rfl]
    refine ⟨(Dev.rd_wr_key _ _ other).trans (Dev.rd_withPart s.dev word within (Fld.ofWord_lt word within v)), Dev.rd_wr_same _ HOST_STATUS_LAST_CODE 0, rfl,
      Frame.endAccess (by simp) (Frame.wr (by simp) (Frame.wr (by simp) (Frame.refl _ _ _)))⟩
  · obtain ⟨wf, cmd, run⟩ := exec_hostWrite mem small
    refine Does.of_onDev run wf ?_
    rw [Dev.hostWrite_served served crc aligned value (not_powerCommand fields (by rw [acc]; decide)) (Dev.applyWord_ro plain fields acc differs)]
    obtain ⟨-, rejected, frame⟩ := Access.close_refused_shows (x := (Access.start s.dev a).note 1 a) false (show (1 : Nat) ≠ 0 by decide)
      (show (1 : Nat) ≤ 13 by decide) (show (1 : Nat) ≠ 9 by decide) (show (1 : Nat) ≠ 10 by decide) rfl rfl
    exact ⟨rejected, frame⟩
  · obtain ⟨wf, cmd, run⟩ := exec_hostWrite mem small
    refine Does.of_onDev run wf ?_
    rw [Dev.hostWrite_served served crc aligned value (not_powerCommand fields (by rw [acc]; decide)) (Dev.applyWord_im plain fields acc differs)]
    obtain ⟨-, rejected, frame⟩ := Access.close_refused_shows (x := (Access.start s.dev a).note 2 a) false (show (2 : Nat) ≠ 0 by decide)
      (show (2 : Nat) ≤ 13 by decide) (show (2 : Nat) ≠ 9 by decide) (show (2 : Nat) ≠ 10 by decide) rfl rfl
    exact ⟨rejected, frame⟩
  · obtain ⟨wf, cmd, run⟩ := exec_hostWrite mem small
    refine Does.of_onDev run wf ?_
    rw [Dev.hostWrite_served served crc aligned value (not_powerCommand fields (by rw [acc]; decide)) (Dev.applyWord_iml plain fields acc differs),
      Access.close_legal rfl rfl rfl]
    have rejected := s.dev.rejected_of_writes (code := 3) a (by decide)
    have before : Frame [] rejectFlds s.dev (((s.dev.wr HOST_STATUS_LAST_CODE 3).wr HOST_ERR_ADDR_ADDR a).inc HOST_COUNT_A_REJECTS) :=
      Frame.rejected (Frame.refl _ _ _)
    have kept := (((s.dev.wr HOST_STATUS_LAST_CODE 3).wr HOST_ERR_ADDR_ADDR a).inc HOST_COUNT_A_REJECTS).legalCounted_kept a
    obtain ⟨last, place, rejects⟩ := rejected
    refine ⟨⟨(kept.rd (by decide)).trans last, (kept.rd (by decide)).trans place, (kept.rd (by decide)).trans rejects⟩, ?_,
      Frame.endAccess (by simp) ((before.mono (List.nil_subset _) (List.subset_append_left _ _)).trans
        (kept.mono (List.subset_append_right _ _) (List.subset_append_right _ _)))⟩
    exact (Dev.rd_legalCounted _ a).trans (congrArg (fun n => min (n + 1) (2 ^ 16 - 1)) (before.rd (by decide)))
  · refine Does.of_onDev rfl (by simp only [Instr.wf, Bool.and_eq_true, decide_eq_true_eq, beq_iff_eq]; exact ⟨⟨small, aligned⟩, value⟩) ?_
    rw [Dev.registerWrite_eq served aligned fields (by rw [acc]; decide) (Dev.applyWord_rw plain fields acc)]
    exact ⟨Dev.rd_withPart (s.dev.setLatest false) word within (Fld.ofWord_lt word within v), Frame.wr (by simp) ((Frame.refl _ _ _).setLatest (by simp))⟩
  · refine Does.of_onDev rfl (by simp only [Instr.wf, Bool.and_eq_true, decide_eq_true_eq, beq_iff_eq]; exact ⟨⟨small, aligned⟩, value⟩) ?_
    rw [Dev.registerWrite_eq served aligned fields (by rw [acc]; decide) (Dev.applyWord_iml plain fields acc (by exact differs))]
    exact ⟨Dev.rd_legalCounted (s.dev.setLatest false) a, ((Frame.refl _ _ _).setLatest (by simp)).trans
      (((s.dev.setLatest false).legalCounted_kept a).mono (List.subset_append_right _ _) (fun _ h => h))⟩
  · refine Does.of_onDev rfl (by simpa [Instr.wf] using small) ?_
    rw [Dev.unreadNow, if_pos served, Dev.unread_eq back]
    have moved : Frame [.rings] [RING_RD_PTR_INDEX n] s.dev (s.dev.movedBack n q) := Frame.wr (by simp) (Frame.putRing (by simp) (Frame.refl _ _ _))
    have filled : Frame notifyParts [RING_FILL_WORDS n, RING_STATUS_FULL n, RING_STATUS_ABOVE_WM n] (s.dev.movedBack n q)
        ((s.dev.movedBack n q).setFill n ((s.dev.movedBack n q).rd (RING_FILL_WORDS n) + (Store.read s.dev.host.moved n - 1))) :=
      Frame.setFill (fun _ h => h) (fun _ h => h) (Frame.refl _ _ _)
    have fill : (s.dev.movedBack n q).rd (RING_FILL_WORDS n) = s.dev.rd (RING_FILL_WORDS n) :=
      moved.rd (by simp only [List.forall_mem_singleton, RING_FILL_WORDS, RING_RD_PTR_INDEX]; omega)
    have ring : (s.dev.unreadDone n q).ring n = (s.dev.movedBack n q).ring n := congrArg (fun t => Tab.read Ring.fresh t n) (filled.parts .rings (by decide))
    have back_ring : (s.dev.movedBack n q).ring n = { s.dev.ring n with
      ents := q.1, headRead := q.2.1, back := q.2.2, gapHost := (s.dev.ring n).gapHost || (s.dev.ring n).gapBack, gapBack := false, snapOk := false } :=
      Dev.ring_putRing_same _ _ _
    refine ⟨?_, ?_, ?_, rfl, rfl, ?_⟩
    · rw [← fill]
      exact Dev.rd_setFill _ n _
    · exact congrArg Ring.ents (ring.trans back_ring)
    · exact congrArg Ring.headRead (ring.trans back_ring)
    · exact (Frame.host (by simp) ((moved.mono (by simp) (by simp)).trans (filled.mono (List.subset_append_right _ _) (by simp)))).setLatest (by simp)
  · refine Does.of_onDev rfl (by simpa [Instr.wf] using small) ?_
    rw [Dev.unreadNow, if_pos served]
    have still : s.dev.unread n = s.dev := by
      rw [Dev.unread]
      simp only [back]
    rw [still]
    exact (Frame.refl _ _ _).setLatest (by simp)

end Sys2Proof.Machine
end

/-! PROOFS: a tuning hit, and the test of a full collection. -/
section

namespace Sys2Proof.Machine

open Reg

variable {us : List Part} {fs : List Fld} {d0 d : Dev} {c slot pos : Nat} {runs : List (Bool × Nat)}

theorem Frame.advance {n : Nat} (hu : Part.time ∈ us) (h : Frame us fs d0 d) : Frame us fs d0 (d.advance n) := by
  unfold Dev.advance
  split
  · exact h.time hu
  · exact h

/-- The histogram with one hit more in a bin. -/
def Dev.hitBinned (d : Dev) (c f : Nat) : Store := Store.write (d.tun c).hist f ((Store.read (d.tun c).hist f + 1) % 2 ^ 21)

/-- A hit in its bin, and counted. -/
def Dev.hitCounted (d : Dev) (c slot f : Nat) : Dev :=
  let d := d.advance slot
  (d.putTun c { d.tun c with hist := d.hitBinned c f, iso := (d.tun c).iso || d.rd (TUNE_STATUS_MODE c) == 1 }).step1 (TUNE_HITS_COUNT c)

/-- A hit with its log entry. -/
def Dev.hitLogged (d : Dev) (c slot f : Nat) : Dev :=
  let e := d.hitCounted c slot f
  if c < 16 then e.logHit c (e.rd EPOCH_COUNT_COUNT * coarseMod + slot % coarseMod) f else e

theorem Dev.tun_advance (d : Dev) (slot c : Nat) : (d.advance slot).tun c = d.tun c := by
  unfold Dev.advance
  split <;> rfl

theorem Dev.rd_advance (d : Dev) (slot : Nat) (f : Fld) : (d.advance slot).rd f = d.rd f := by
  unfold Dev.advance
  split <;> rfl

theorem Dev.tun_hitCounted (d : Dev) (c slot f : Nat) : (d.hitCounted c slot f).tun c =
    { d.tun c with hist := d.hitBinned c f, iso := (d.tun c).iso || d.rd (TUNE_STATUS_MODE c) == 1 } := by
  refine Eq.trans (Tab.read_write_same _ _ _ _) ?_
  rw [Dev.hitBinned, Dev.tun_advance, Dev.rd_advance]
  rfl

theorem Frame.hitCounted {f : Nat} (hu : [Part.time, Part.tune] ⊆ us) (hf : TUNE_HITS_COUNT c ∈ fs) (h : Frame us fs d0 d) :
    Frame us fs d0 (d.hitCounted c slot f) :=
  Frame.step1 hf ((Frame.putTun_iff (hu (by simp))).2 (h.advance (hu (by simp))))

theorem Frame.logHit {ext fine : Nat} (hu : Part.voices ∈ us) (hf : VOICE_STATUS_FIFO_LEVEL c ∈ fs) (h : Frame us fs d0 d) : Frame us fs d0 (d.logHit c ext fine) := by
  unfold Dev.logHit
  dsimp only
  split
  · exact h.putVoice hu hf
  · exact h

theorem Dev.rd_hitCounted (d : Dev) (c slot f : Nat) : (d.hitCounted c slot f).rd (TUNE_HITS_COUNT c) = (d.rd (TUNE_HITS_COUNT c) + 1) % 2 ^ 21 := by
  refine (Dev.rd_step1_same _ (TUNE_HITS_COUNT c)).trans ?_
  exact congrArg (fun n => (n + 1) % 2 ^ 21) (Dev.rd_advance d slot (TUNE_HITS_COUNT c))

/-- The log entry leaves the collection. -/
theorem Dev.hitLogged_kept (d : Dev) (c slot f : Nat) :
    Frame [.voices] [VOICE_STATUS_FIFO_LEVEL c] (d.hitCounted c slot f) (d.hitLogged c slot f) := by
  unfold Dev.hitLogged
  dsimp only
  split
  · exact Frame.logHit (by simp) (by simp) (Frame.refl _ _ _)
  · exact Frame.refl _ _ _

theorem Dev.rd_hitLogged (d : Dev) (c slot f : Nat) : (d.hitLogged c slot f).rd (TUNE_HITS_COUNT c) = (d.rd (TUNE_HITS_COUNT c) + 1) % 2 ^ 21 :=
  ((d.hitLogged_kept c slot f).rd (by
    simp only [List.forall_mem_singleton, TUNE_HITS_COUNT, VOICE_STATUS_FIFO_LEVEL]
    omega)).trans (d.rd_hitCounted c slot f)

theorem Dev.tun_hitLogged (d : Dev) (c slot f : Nat) : (d.hitLogged c slot f).tun c =
    { d.tun c with hist := d.hitBinned c f, iso := (d.tun c).iso || d.rd (TUNE_STATUS_MODE c) == 1 } :=
  Eq.trans (congrArg (fun t => Tab.read Tune.fresh t c) ((d.hitLogged_kept c slot f).parts .tune (by decide))) (d.tun_hitCounted c slot f)

/-- A hit that its context may take, with one edge in its window. -/
theorem Dev.tuningHit_of_edge {r : Bool} (alive : d.alive) (clocked : d.sckOpen) (mode : d.rd (TUNE_STATUS_MODE c) ≠ 0) (free : d.blocked c slot false = false)
    (edge : decodeWindow 1024 runs = [.edge pos r]) : d.tuningHit c slot runs false =
      if (d.hitLogged c slot (pos % 1024)).rd (TUNE_HITS_COUNT c) = 2 ^ 20 then (d.hitLogged c slot (pos % 1024)).testCandidate c
      else d.hitLogged c slot (pos % 1024) := by
  rw [Dev.tuningHit, if_neg (by simp [alive, clocked, mode, free])]
  simp only [edge]
  rfl

/-- A full collection that passes: what its tests show. -/
def Dev.testsShown (d : Dev) (c : Nat) : Dev :=
  (((d.wr (TUNE_STATUS_EMPTY c) (emptyBins (d.tun c).hist)).wr (TUNE_TEST_WIDEST c) (min (widestBin (d.tun c).hist) 0x1FFF))).putTun c
    { d.tun c with boot := false }

/-- And its candidate table, which waits for its swap. -/
def Dev.candidateKept (d : Dev) (c : Nat) : Dev :=
  ((d.testsShown c).putTun c { (d.testsShown c).tun c with cand := tuneTable (d.tun c).hist 1024 0 0, hist := [], tested := fckOf (d.testsShown c).ext }).wr
    (TUNE_STATUS_PENDING c) 1 |>.wr (TUNE_STATUS_MODE c) 0

theorem Dev.testCandidate_of_first (none_ : d.rd (TUNE_STATUS_STATE c) = 0) (empty : emptyBins (d.tun c).hist ≤ 8) (narrow : widestBin (d.tun c).hist ≤ 4096) :
    d.testCandidate c = d.candidateKept c := by
  have no_third : ¬(d.rd (TUNE_STATUS_STATE c) ≠ 0 ∧ d.rd (TUNE_STATUS_STATE c) ≠ 3 ∧ (d.tun c).iso = false) := fun third => third.1 none_
  unfold Dev.testCandidate
  dsimp only
  rw [if_neg (by omega), if_neg (by omega), if_neg no_third, if_neg (fun third => no_third third.1)]
  rfl

theorem Dev.candidateKept_shows (d : Dev) (c : Nat) (empty : emptyBins (d.tun c).hist ≤ 8) (narrow : widestBin (d.tun c).hist ≤ 4096) :
    (d.candidateKept c).rd (TUNE_STATUS_PENDING c) = 1 ∧ (d.candidateKept c).rd (TUNE_STATUS_MODE c) = 0 ∧
    (d.candidateKept c).rd (TUNE_STATUS_EMPTY c) = emptyBins (d.tun c).hist ∧ (d.candidateKept c).rd (TUNE_TEST_WIDEST c) = widestBin (d.tun c).hist ∧
    ((d.candidateKept c).tun c).cand = tuneTable (d.tun c).hist 1024 0 0 ∧ ((d.candidateKept c).tun c).table = (d.tun c).table := by
  have kept : Frame [.tune] [TUNE_STATUS_PENDING c, TUNE_STATUS_MODE c] (d.testsShown c) (d.candidateKept c) :=
    Frame.wr (by simp) (Frame.wr (by simp) ((Frame.putTun_iff (by simp)).2 (Frame.refl _ _ _)))
  have shown_tun : (d.testsShown c).tun c = { d.tun c with boot := false } := Tab.read_write_same _ _ _ _
  have kept_tun : (d.candidateKept c).tun c = { (d.testsShown c).tun c with
    cand := tuneTable (d.tun c).hist 1024 0 0, hist := [], tested := fckOf (d.testsShown c).ext } := Tab.read_write_same _ _ _ _
  refine ⟨?_, Dev.rd_wr_same _ (TUNE_STATUS_MODE c) 0, (kept.rd ?_).trans ?_, (kept.rd ?_).trans ?_, ?_, ?_⟩
  · rw [Dev.candidateKept, Dev.rd_wr_key _ _ (by simp only [TUNE_STATUS_PENDING, TUNE_STATUS_MODE]; omega)]
    exact Dev.rd_wr_same _ (TUNE_STATUS_PENDING c) 1
  · simp only [List.forall_mem_cons, List.not_mem_nil, false_imp_iff, implies_true, and_true, TUNE_STATUS_EMPTY, TUNE_STATUS_PENDING, TUNE_STATUS_MODE]
    omega
  · refine (Dev.rd_wr_key _ _ (by simp only [TUNE_STATUS_EMPTY, TUNE_TEST_WIDEST]; omega)).trans ((Dev.rd_wr_same d (TUNE_STATUS_EMPTY c) _).trans ?_)
    exact Nat.mod_eq_of_lt (lt_of_le_of_lt empty (by decide : 8 < 2 ^ 11))
  · simp only [List.forall_mem_cons, List.not_mem_nil, false_imp_iff, implies_true, and_true, TUNE_TEST_WIDEST, TUNE_STATUS_PENDING, TUNE_STATUS_MODE]
    omega
  · refine (Dev.rd_wr_same _ (TUNE_TEST_WIDEST c) _).trans ?_
    rw [Nat.min_eq_left (le_trans narrow (by decide))]
    exact Nat.mod_eq_of_lt (lt_of_le_of_lt narrow (by decide : 4096 < 2 ^ 13))
  · rw [kept_tun]
  · rw [kept_tun, shown_tun]

theorem Frame.candidateKept (hu : Part.tune ∈ us) (hf : [TUNE_STATUS_PENDING c, TUNE_STATUS_MODE c, TUNE_STATUS_EMPTY c, TUNE_TEST_WIDEST c] ⊆ fs)
    (h : Frame us fs d0 d) : Frame us fs d0 (d.candidateKept c) :=
  Frame.wr (hf (by simp)) (Frame.wr (hf (by simp)) ((Frame.putTun_iff hu).2 ((Frame.putTun_iff hu).2 (Frame.wr (hf (by simp)) (Frame.wr (hf (by simp)) h)))))

/-- Settles O15: a hit fills one bin, and the hit that completes the collection tests the histogram it has filled. -/
theorem tuningCollectsAndTests : Obligations.TuningCollectsAndTests := by
  unfold Obligations.TuningCollectsAndTests
  refine ⟨⟨fun s c slot pos runs r alive small slots bits clocked mode free edge short => ?_,
    fun s c slot runs alive small slots bits clocked mode free none_ low => ?_, fun s c slot runs busy small slots bits blocked => ?_⟩,
    fun s c slot pos runs r h alive port small slots bits clocked mode free edge full none_ hist empty narrow => ?_⟩
  · refine Does.of_onDev rfl (by simp only [Instr.wf, Bool.and_eq_true, decide_eq_true_eq, beq_iff_eq]; exact ⟨⟨small, slots⟩, bits⟩) ?_
    have hits : (s.dev.hitLogged c slot (pos % 1024)).rd (TUNE_HITS_COUNT c) = s.dev.rd (TUNE_HITS_COUNT c) + 1 :=
      (s.dev.rd_hitLogged c slot _).trans (Nat.mod_eq_of_lt (by omega))
    rw [Dev.tuningHit_of_edge alive clocked mode free edge, if_neg (by omega)]
    refine ⟨?_, fun i other => ?_, hits, ?_⟩
    · rw [Dev.tun_hitLogged]
      exact Store.read_write_same _ _ _
    · rw [Dev.tun_hitLogged]
      exact Store.read_write_other _ _ other
    · exact (Frame.hitCounted (by simp) (by simp) (Frame.refl _ _ _)).trans ((s.dev.hitLogged_kept c slot _).mono (by simp) (by simp))
  · refine Does.of_onDev rfl (by simp only [Instr.wf, Bool.and_eq_true, decide_eq_true_eq, beq_iff_eq]; exact ⟨⟨small, slots⟩, bits⟩) ?_
    have discarded : s.dev.tuningHit c slot runs false = (s.dev.advance slot).inc (TUNE_DISCARD_COUNT c) := by
      rw [Dev.tuningHit, if_neg (by simp [alive, clocked, mode, free])]
      simp only [none_]
    have moved : Frame [.time] [TUNE_DISCARD_COUNT c] s.dev (s.dev.advance slot) := Frame.advance (by simp) (Frame.refl _ _ _)
    rw [discarded]
    refine ⟨?_, Eq.trans (Frame.parts (Frame.inc (fs := [TUNE_DISCARD_COUNT c]) (by simp) (Frame.refl [] _ _)) .tune (by simp)) (moved.parts .tune (by decide)),
      Frame.inc (by simp) moved⟩
    rw [Dev.rd_inc_same, Dev.rd_advance]
    exact Nat.min_eq_left (show s.dev.rd (TUNE_DISCARD_COUNT c) + 1 ≤ 65535 by omega)
  · refine Does.of_onDev rfl (by simp only [Instr.wf, Bool.and_eq_true, decide_eq_true_eq, beq_iff_eq]; exact ⟨⟨small, slots⟩, bits⟩) ?_
    rw [Dev.tuningHit, if_pos (by simp [blocked])]
    exact Frame.refl _ _ _
  · refine Does.of_onDev rfl (by simp only [Instr.wf, Bool.and_eq_true, decide_eq_true_eq, beq_iff_eq]; exact ⟨⟨small, slots⟩, bits⟩) ?_
    have logged : s.dev.hitLogged c slot (pos % 1024) = s.dev.hitCounted c slot (pos % 1024) := if_neg (by omega)
    have tun := s.dev.tun_hitCounted c slot (pos % 1024)
    have bins : ((s.dev.hitCounted c slot (pos % 1024)).tun c).hist = h := by
      rw [tun, hist]
      rfl
    have counted : Frame [.time, .tune] [TUNE_HITS_COUNT c] s.dev (s.dev.hitCounted c slot (pos % 1024)) :=
      Frame.hitCounted (by simp) (by simp) (Frame.refl _ _ _)
    have state : (s.dev.hitCounted c slot (pos % 1024)).rd (TUNE_STATUS_STATE c) = 0 := by
      refine (counted.rd ?_).trans none_
      simp only [List.forall_mem_singleton, TUNE_STATUS_STATE, TUNE_HITS_COUNT]
      omega
    rw [Dev.tuningHit_of_edge alive clocked mode free edge, if_pos ((s.dev.rd_hitLogged c slot _).trans (by rw [full]; decide)), logged,
      Dev.testCandidate_of_first state (by rw [bins]; exact empty) (by rw [bins]; exact narrow)]
    obtain ⟨pending, stopped, few, widest, cand, table⟩ := (s.dev.hitCounted c slot (pos % 1024)).candidateKept_shows c (by rw [bins]; exact empty)
      (by rw [bins]; exact narrow)
    rw [bins] at few widest cand
    exact ⟨pending, stopped, few, widest, cand, table.trans (by rw [tun]), Frame.candidateKept (by simp) (by simp) (counted.mono (by simp) (by simp))⟩

end Sys2Proof.Machine
end

/-! PROOFS: a counted edge of a voice. -/
section

namespace Sys2Proof.Machine

open Reg

variable {us : List Part} {fs : List Fld} {d0 d : Dev} {n : Nat}

/-! ### Waiting markers -/

/-- No marker waits for a slot of the FIFO. -/
def Voice.Unmarked (v : Voice) : Prop := v.pendEpoch = none ∧ v.pendDecim = none ∧ v.pendOverrun = none

theorem Voice.enterPending_of_unmarked {v : Voice} (h : v.Unmarked) : v.enterPending = v := by
  obtain ⟨epoch, decim, overrun⟩ := h
  unfold Voice.enterPending
  split
  · rfl
  · simp only [epoch, decim, overrun]

theorem Voice.drainPending_of_unmarked {v : Voice} (h : v.Unmarked) : v.drainPending = v := by
  simp only [Voice.drainPending, Voice.enterPending_of_unmarked h]

/-! ### What an edge's steps touch -/

theorem Frame.seeInput {base : Nat} {found : List Found} {runs : List (Bool × Nat)} (hu : Part.voices ∈ us) (hf : VOICE_STATUS_FIFO_LEVEL n ∈ fs)
    (h : Frame us fs d0 d) : Frame us fs d0 (d.seeInput n base found runs) := Frame.putVoice hu hf h

theorem Frame.countEdge {ext : Nat} (hu : Part.voices ∈ us) (hf : [VOICE_STATUS_FIFO_LEVEL n, VOICE_EVTOTAL_COUNT n, FIT_VOICE_STATUS_SILENT n] ⊆ fs)
    (h : Frame us fs d0 d) : Frame us fs d0 (d.countEdge n ext) :=
  Frame.wr (hf (by simp)) (Frame.step1 (hf (by simp)) (Frame.putVoice hu (hf (by simp)) h))

theorem Frame.tap {e : Entry} (hu : Part.voices ∈ us) (hf : VOICE_STATUS_FIFO_LEVEL n ∈ fs) (h : Frame us fs d0 d) : Frame us fs d0 (d.tap n e) :=
  Frame.putVoice hu hf h

theorem Dev.voice_tap (d : Dev) (n : Nat) (e : Entry) : ((d.tap n e).voice n).fifo = (d.voice n).fifo ∧ ((d.tap n e).voice n).evcnt = (d.voice n).evcnt := by
  rw [Dev.tap, Dev.voice_putVoice_same]
  split <;> exact ⟨rfl, rfl⟩

/-! ### Decimation that stands still -/

/-- With K in its limits, no rise due and no marker waiting, an edge changes nothing of the decimation. -/
theorem Dev.takeRise_of_steady {ext : Nat} (low : d.rd (VOICE_DECIM_CFG_KMIN n) ≤ d.rd (VOICE_STATUS_K n))
    (high : d.rd (VOICE_STATUS_K n) ≤ d.rd (VOICE_DECIM_CFG_KMAX n)) (unmarked : (d.voice n).Unmarked) (rise : (d.voice n).riseDue = false) :
    d.takeRise n ext = (d.putVoice n (d.voice n)).putVoice n (d.voice n) := by
  have clamped : d.clampK n ext = d.putVoice n (d.voice n) := by
    rw [Dev.clampK, Voice.drainPending_of_unmarked unmarked]
    exact if_pos (.inl (by omega))
  rw [Dev.takeRise, clamped, Dev.voice_putVoice_same, Voice.drainPending_of_unmarked unmarked]
  exact if_neg (by simp [rise])

/-- A stamp that finds fewer than 23 slots taken enters the FIFO and the stamp stream. -/
theorem Dev.stampEdge_of_room {ext fine : Nat} {rising : Bool} (unmarked : (d.voice n).Unmarked) (room : (d.voice n).slots < 23) :
    ∃ e : Entry, (e.ext, e.fine, e.evcnt, e.edge) = (ext, fine, (d.voice n).evcnt, bit rising) ∧
      d.stampEdge n ext fine rising = (d.putVoice n { (d.voice n).pushFifo e with lastStamp := some (ext * 1024 + fine) }).tap n e := by
  refine ⟨(d.voice n).entry ext fine (d.voice n).evcnt (bit rising) 0 (Store.read (d.tun n).table fine) (d.rd (VOICE_STATUS_K n)), rfl, ?_⟩
  have free : (d.voice n).free = true := decide_eq_true (by omega)
  have below : decide ((d.voice n).slots = 23) = false := decide_eq_false (by omega)
  rw [Dev.stampEdge, Voice.drainPending_of_unmarked unmarked]
  dsimp only
  rw [if_pos free, below]
  rfl

/-! ### One edge -/

/-- A voice that has counted an edge. -/
def Voice.countedAt (v : Voice) (ext : Nat) : Voice := { v with evcnt := (v.evcnt + 1) % 2 ^ 32, counted := v.counted + 1, lastEdge := some ext }

/-- A device that has counted an edge, its decimation standing still. -/
def Dev.edgeCounted (d : Dev) (n ext : Nat) : Dev :=
  ((d.countEdge n ext).putVoice n ((d.voice n).countedAt ext)).putVoice n ((d.voice n).countedAt ext)

theorem Dev.voice_countEdge (d : Dev) (n ext : Nat) : (d.countEdge n ext).voice n = (d.voice n).countedAt ext := by
  rw [Dev.countEdge]
  exact Dev.voice_putVoice_same d n _

/-- The fields that counting an edge touches. -/
def edgeFlds (n : Nat) : List Fld := [VOICE_STATUS_FIFO_LEVEL n, VOICE_EVTOTAL_COUNT n, FIT_VOICE_STATUS_SILENT n]

theorem Frame.edgeCounted {ext : Nat} (hu : Part.voices ∈ us) (hf : edgeFlds n ⊆ fs) (h : Frame us fs d0 d) : Frame us fs d0 (d.edgeCounted n ext) :=
  Frame.putVoice hu (hf (by simp [edgeFlds])) (Frame.putVoice hu (hf (by simp [edgeFlds])) (h.countEdge hu hf))

theorem edgeFlds_apart_decim (n : Nat) : (∀ f ∈ edgeFlds n, (VOICE_DECIM_CFG_KMIN n).key ≠ f.key) ∧ (∀ f ∈ edgeFlds n, (VOICE_DECIM_CFG_KMAX n).key ≠ f.key) ∧
    (∀ f ∈ edgeFlds n, (VOICE_STATUS_K n).key ≠ f.key) := by
  simp only [edgeFlds, List.forall_mem_cons, List.not_mem_nil, false_imp_iff, implies_true, and_true, VOICE_STATUS_FIFO_LEVEL, VOICE_EVTOTAL_COUNT,
    FIT_VOICE_STATUS_SILENT, VOICE_DECIM_CFG_KMIN, VOICE_DECIM_CFG_KMAX, VOICE_STATUS_K]
  omega

theorem Dev.rd_edgeCounted_total (d : Dev) (n ext : Nat) :
    (d.edgeCounted n ext).rd (VOICE_EVTOTAL_COUNT n) = (d.rd (VOICE_EVTOTAL_COUNT n) + 1) % 2 ^ 64 := by
  rw [Dev.edgeCounted, Dev.countEdge]
  simp (disch := simp only [VOICE_EVTOTAL_COUNT, VOICE_STATUS_FIFO_LEVEL, FIT_VOICE_STATUS_SILENT]; omega) only [Dev.putVoice, Dev.rd_wr_key]
  refine (Dev.rd_step1_same _ (VOICE_EVTOTAL_COUNT n)).trans (congrArg (fun t => (t + 1) % 2 ^ 64) ?_)
  exact Dev.rd_wr_key _ _ (by simp only [VOICE_EVTOTAL_COUNT, VOICE_STATUS_FIFO_LEVEL]; omega)

/-- One selected edge of a voice whose decimation stands still: counted, and stamped where its count is due. -/
theorem Dev.takeEdge_of_steady {ext fine : Nat} {r : Bool} (low : d.rd (VOICE_DECIM_CFG_KMIN n) ≤ d.rd (VOICE_STATUS_K n))
    (high : d.rd (VOICE_STATUS_K n) ≤ d.rd (VOICE_DECIM_CFG_KMAX n)) (unmarked : (d.voice n).Unmarked) (rise : (d.voice n).riseDue = false)
    (apart : (d.voice n).tooClose (ext * 1024 + fine) = false) :
    (d.takeEdge n ext fine r false).1 = if ((d.voice n).evcnt + 1) % 2 ^ 32 % 2 ^ d.rd (VOICE_STATUS_K n) = 0 then (d.edgeCounted n ext).stampEdge n ext fine r
      else d.edgeCounted n ext := by
  obtain ⟨kmin, kmax, k⟩ := edgeFlds_apart_decim n
  have counted : Frame [.voices] (edgeFlds n) d (d.countEdge n ext) := Frame.countEdge (by simp) (fun _ h => h) (Frame.refl _ _ _)
  have steady : (d.countEdge n ext).takeRise n ext = d.edgeCounted n ext := by
    rw [Dev.takeRise_of_steady (by rw [counted.rd kmin, counted.rd k]; exact low) (by rw [counted.rd kmax, counted.rd k]; exact high)
      (by rw [Dev.voice_countEdge]; exact unmarked) (by rw [Dev.voice_countEdge]; exact rise), Dev.voice_countEdge]
    rfl
  have voice : (d.edgeCounted n ext).voice n = (d.voice n).countedAt ext := Dev.voice_putVoice_same _ _ _
  have same : (d.edgeCounted n ext).rd (VOICE_STATUS_K n) = d.rd (VOICE_STATUS_K n) :=
    (Frame.edgeCounted (us := [.voices]) (by simp) (fun _ h => h) (Frame.refl _ _ _)).rd k
  have close : ((d.voice n).countedAt ext).tooClose (ext * 1024 + fine) = false := apart
  rw [Dev.takeEdge, steady]
  simp only [voice, same, Bool.false_and, Bool.false_eq_true, if_false, close, Bool.not_eq_true', decide_eq_false_iff_not]
  by_cases due : ((d.voice n).evcnt + 1) % 2 ^ 32 % 2 ^ d.rd (VOICE_STATUS_K n) = 0
  · rw [if_pos due, if_neg (by exact not_not_intro due)]
  · rw [if_neg due, if_pos (by exact due)]

/-- What the readers of a FIFO see of its edges. -/
def Voice.stamps (v : Voice) : List (Nat × Nat × Nat × Nat) := v.fifo.map (fun e => (e.ext, e.fine, e.evcnt, e.edge))

/-- What one selected edge leaves. -/
theorem Dev.takeEdge_shows {ext fine : Nat} {r : Bool} (low : d.rd (VOICE_DECIM_CFG_KMIN n) ≤ d.rd (VOICE_STATUS_K n))
    (high : d.rd (VOICE_STATUS_K n) ≤ d.rd (VOICE_DECIM_CFG_KMAX n)) (unmarked : (d.voice n).Unmarked) (rise : (d.voice n).riseDue = false)
    (room : (d.voice n).slots < 23) (apart : (d.voice n).tooClose (ext * 1024 + fine) = false) :
    (((d.takeEdge n ext fine r false).1).voice n).evcnt = ((d.voice n).evcnt + 1) % 2 ^ 32 ∧
    ((d.takeEdge n ext fine r false).1).rd (VOICE_EVTOTAL_COUNT n) = (d.rd (VOICE_EVTOTAL_COUNT n) + 1) % 2 ^ 64 ∧
    (((d.takeEdge n ext fine r false).1).voice n).stamps = (d.voice n).stamps ++
      (if ((d.voice n).evcnt + 1) % 2 ^ 32 % 2 ^ d.rd (VOICE_STATUS_K n) = 0 then [(ext, fine, ((d.voice n).evcnt + 1) % 2 ^ 32, bit r)] else []) ∧
    Frame [.voices] (edgeFlds n) d ((d.takeEdge n ext fine r false).1) := by
  have counted : Frame [.voices] (edgeFlds n) d (d.edgeCounted n ext) := Frame.edgeCounted (by simp) (fun _ h => h) (Frame.refl _ _ _)
  have voice : (d.edgeCounted n ext).voice n = (d.voice n).countedAt ext := Dev.voice_putVoice_same _ _ _
  have total := d.rd_edgeCounted_total n ext
  rw [Dev.takeEdge_of_steady low high unmarked rise apart]
  split
  · obtain ⟨e, shape, stamped⟩ := Dev.stampEdge_of_room (d := d.edgeCounted n ext) (n := n) (ext := ext) (fine := fine) (rising := r)
      (by rw [voice]; exact unmarked) (by rw [voice]; exact room)
    have level : VOICE_STATUS_FIFO_LEVEL n ∈ edgeFlds n := by simp [edgeFlds]
    have kept : Frame [.voices] [VOICE_STATUS_FIFO_LEVEL n] (d.edgeCounted n ext) ((d.edgeCounted n ext).stampEdge n ext fine r) := by
      rw [stamped]
      exact Frame.tap (by simp) (by simp) (Frame.putVoice (by simp) (by simp) (Frame.refl _ _ _))
    have tapped := Dev.voice_tap ((d.edgeCounted n ext).putVoice n { ((d.edgeCounted n ext).voice n).pushFifo e with lastStamp := some (ext * 1024 + fine) }) n e
    rw [← stamped, Dev.voice_putVoice_same, voice] at tapped
    obtain ⟨fifo, evcnt⟩ := tapped
    refine ⟨evcnt, (kept.rd ?_).trans total, ?_, counted.trans (kept.mono (fun _ h => h) (by simpa using level))⟩
    · simp only [List.forall_mem_singleton, VOICE_EVTOTAL_COUNT, VOICE_STATUS_FIFO_LEVEL]
      omega
    · rw [Voice.stamps, fifo]
      refine (List.map_append).trans (congrArg ((d.voice n).stamps ++ ·) ?_)
      rw [List.map_singleton, shape, voice]
      rfl
  · exact ⟨by rw [voice]; rfl, total, by rw [voice, List.append_nil]; rfl, counted⟩

/-- A window with one selected edge is one edge. -/
theorem Dev.takeFound_of_edge {start pos : Nat} {r : Bool} (sel : selected (d.rd (VOICE_CTRL_EDGE n)) r) :
    Dev.takeFound n start [.edge pos r] 0 false d = (d.takeEdge n (start + pos / 1024) (pos % 1024) r false).1 := by
  rw [Dev.takeFound, if_pos sel, Dev.takeFound, Dev.countExtra]
  rfl

/-- The device that has seen a window of a voice's input. -/
def Dev.windowSeen (d : Dev) (n base : Nat) (runs : List (Bool × Nat)) : Dev := (d.advance (base + 1)).seeInput n base (decodeWindow 2048 runs) runs

theorem Dev.windowSeen_kept (d : Dev) (n base : Nat) (runs : List (Bool × Nat)) :
    Frame [.voices, .time] [VOICE_STATUS_FIFO_LEVEL n] d (d.windowSeen n base runs) :=
  Frame.seeInput (by simp) (by simp) (Frame.advance (by simp) (Frame.refl _ _ _))

theorem Dev.voice_windowSeen (d : Dev) (n base : Nat) (runs : List (Bool × Nat)) : ∃ move, (d.windowSeen n base runs).voice n =
    { d.voice n with level := lastLevel runs, lastMove := move } := by
  have voices : (d.advance (base + 1)).voice n = d.voice n := by
    unfold Dev.advance
    split <;> rfl
  rw [Dev.windowSeen, Dev.seeInput, voices]
  exact ⟨_, Dev.voice_putVoice_same _ _ _⟩

theorem Dev.pastBoundary_windowSeen (d : Dev) (n base ext : Nat) (runs : List (Bool × Nat)) :
    (d.windowSeen n base runs).pastBoundary n ext = d.pastBoundary n ext := by
  have kept := d.windowSeen_kept n base runs
  have timer : (d.windowSeen n base runs).timerOf n = d.timerOf n :=
    kept.regs _ (by simp [FIT_VOICE_CFG_TIMER, VOICE_STATUS_FIFO_LEVEL])
  have running : (d.windowSeen n base runs).is (TIMER_STATUS_RUNNING (d.timerOf n)) = d.is (TIMER_STATUS_RUNNING (d.timerOf n)) :=
    kept.is (by simp only [List.forall_mem_singleton, TIMER_STATUS_RUNNING, VOICE_STATUS_FIFO_LEVEL]; omega)
  have timers : (d.windowSeen n base runs).timer (d.timerOf n) = d.timer (d.timerOf n) :=
    congrArg (fun t => Tab.read Timer.fresh t (d.timerOf n)) (kept.parts .timers (by decide))
  rw [Dev.pastBoundary, timer, running, timers]
  rfl

theorem Dev.voiceEdge_of_window {base : Nat} {runs : List (Bool × Nat)} (alive : d.alive) (counting : d.counting n) (shows : d.inputShows n runs)
    (clocked : d.sckOpen) (low : base < coarseMod) : d.voiceEdge n base runs 0 =
      if d.pastBoundary n (d.rd EPOCH_COUNT_COUNT * coarseMod + base) then
        (d.windowSeen n base runs).putVoice n { (d.windowSeen n base runs).voice n with
          later := ((d.windowSeen n base runs).voice n).later ++ [(d.rd EPOCH_COUNT_COUNT * coarseMod + base, runs, 0)] }
      else Dev.takeFound n (d.rd EPOCH_COUNT_COUNT * coarseMod + base) (decodeWindow 2048 runs) 0 false (d.windowSeen n base runs) := by
  have epoch : (d.windowSeen n base runs).rd EPOCH_COUNT_COUNT = d.rd EPOCH_COUNT_COUNT :=
    (d.windowSeen_kept n base runs).rd (by simp only [List.forall_mem_singleton, EPOCH_COUNT_COUNT, VOICE_STATUS_FIFO_LEVEL]; omega)
  have start : (d.windowSeen n base runs).rd EPOCH_COUNT_COUNT * coarseMod + base % coarseMod = d.rd EPOCH_COUNT_COUNT * coarseMod + base := by
    rw [epoch, Nat.mod_eq_of_lt low]
  rw [← d.pastBoundary_windowSeen n base _ runs, ← start, Dev.voiceEdge, if_neg (by simp [alive, counting, shows]), if_pos clocked]
  rfl

/-- Settles O7: a window waits for its boundary, or its one edge is counted and, when due, stamped. -/
theorem edgeIsCountedAndStamped : Obligations.EdgeIsCountedAndStamped := by
  unfold Obligations.EdgeIsCountedAndStamped
  intro s n base pos runs r v alive small counting even low bits edge sel voice
  subst voice
  have wf : (Instr.voiceEdge n base runs 0).wf = true := by
    simp [Instr.wf, small, even, bits]
    exact low
  obtain ⟨move, seen⟩ := s.dev.voice_windowSeen n base runs
  have kept := s.dev.windowSeen_kept n base runs
  refine ⟨fun hidden => ?_, fun shows clocked past => ?_, fun shows clocked past kmin kmax epoch decim overrun rise room apart => ?_, fun shows gated => ?_⟩
  · refine Does.of_onDev rfl wf ?_
    rw [Dev.voiceEdge, if_pos (by simp [hidden])]
    exact Frame.refl _ _ _
  · refine Does.of_onDev rfl wf ?_
    rw [Dev.voiceEdge_of_window alive counting shows clocked low, if_pos past, seen]
    refine ⟨?_, ?_, kept.putVoice (by simp) (by simp)⟩
    · rw [Dev.voice_putVoice_same]
    · rw [Dev.voice_putVoice_same]
  · refine Does.of_onDev rfl wf ?_
    have unmarked : (s.dev.voice n).Unmarked := ⟨epoch, decim, overrun⟩
    have field (f : Fld) (other : f.key ≠ (VOICE_STATUS_FIFO_LEVEL n).key) : (s.dev.windowSeen n base runs).rd f = s.dev.rd f := kept.rd (by simpa using other)
    have k : (s.dev.windowSeen n base runs).rd (VOICE_STATUS_K n) = s.dev.rd (VOICE_STATUS_K n) :=
      field _ (by simp only [VOICE_STATUS_K, VOICE_STATUS_FIFO_LEVEL]; omega)
    have shown := Dev.takeEdge_shows (d := s.dev.windowSeen n base runs) (n := n) (ext := s.dev.rd EPOCH_COUNT_COUNT * coarseMod + base + pos / 1024)
      (fine := pos % 1024) (r := r)
      (by rw [k, field _ (by simp only [VOICE_DECIM_CFG_KMIN, VOICE_STATUS_FIFO_LEVEL]; omega)]; exact kmin)
      (by rw [k, field _ (by simp only [VOICE_DECIM_CFG_KMAX, VOICE_STATUS_FIFO_LEVEL]; omega)]; exact kmax)
      (by rw [seen]; exact unmarked) (by rw [seen]; exact rise) (by rw [seen]; exact room) (by rw [seen]; exact apart)
    rw [k, seen, field _ (by simp only [VOICE_EVTOTAL_COUNT, VOICE_STATUS_FIFO_LEVEL]; omega)] at shown
    obtain ⟨evcnt, total, stamps, frame⟩ := shown
    rw [Dev.voiceEdge_of_window alive counting shows clocked low, if_neg (by simp [past]), edge,
      Dev.takeFound_of_edge (by rw [field _ (by simp only [VOICE_CTRL_EDGE, VOICE_STATUS_FIFO_LEVEL]; omega)]; exact sel)]
    exact ⟨evcnt, total, stamps, (kept.mono (fun _ h => h) (by simp)).trans (frame.mono (by simp) (by simp [edgeFlds]))⟩
  · refine Does.of_onDev rfl wf ?_
    have one : selectedCount (s.dev.rd (VOICE_CTRL_EDGE n)) (decodeWindow 2048 runs) = 1 := by
      rw [edge, selectedCount, List.filter_cons_of_pos (by exact sel)]
      rfl
    have hidden : s.dev.voiceEdge n base runs 0 = s.dev.putVoice n { s.dev.voice n with hidden := ((s.dev.voice n).hidden + 1) % 16 } := by
      rw [Dev.voiceEdge, if_neg (by simp [alive, counting, shows]), if_neg (by simp [gated]), one]
    rw [hidden]
    exact ⟨Dev.voice_putVoice_same _ _ _, Frame.putVoice (by simp) (by simp) (Frame.refl _ _ _)⟩

end Sys2Proof.Machine
end

/-! PROOFS: markers, and the start of a voice. -/
section

namespace Sys2Proof.Machine

open Reg

variable {us : List Part} {fs : List Fld} {d0 d : Dev} {n : Nat}

/-! ### Waiting markers -/

theorem Voice.free_of_slots {v : Voice} (room : v.slots < 32) : v.free = true := decide_eq_true room

/-- A marker in the FIFO. -/
theorem Voice.fifo_enter (v : Voice) (e : Entry) : (v.enter e).fifo = v.fifo ++ [v.entry e.ext e.fine e.evcnt e.edge e.flags e.m e.k] := rfl

theorem Voice.enterPending_epoch {v : Voice} {e : Entry} (room : v.slots < 32) (wait : v.pendEpoch = some e) :
    v.enterPending = { v with pendEpoch := none }.enter e := by
  rw [Voice.enterPending, if_neg (by simp [Voice.free_of_slots room])]
  simp only [wait]

theorem Voice.enterPending_decim {v : Voice} {e : Entry} (room : v.slots < 32) (first : v.pendEpoch = none) (wait : v.pendDecim = some e) :
    v.enterPending = { v with pendDecim := none }.enter e := by
  rw [Voice.enterPending, if_neg (by simp [Voice.free_of_slots room])]
  simp only [first, wait]

theorem Voice.enterPending_overrun {v : Voice} {e : Entry} (room : v.slots < 32) (first : v.pendEpoch = none) (second : v.pendDecim = none)
    (wait : v.pendOverrun = some e) : v.enterPending = { v with pendOverrun := none }.enter e := by
  rw [Voice.enterPending, if_neg (by simp [Voice.free_of_slots room])]
  simp only [first, second, wait]

/-- An EPOCH marker of a voice with room and no marker waiting. -/
theorem Voice.placeEpoch_of_room {v : Voice} (room : v.slots < 32) (unmarked : v.Unmarked) (ext : Nat) :
    (v.placeEpoch ext).fifo = v.fifo ++ [v.entry ext 0 v.evcnt 0 3 0 0] := by
  obtain ⟨epoch, decim, overrun⟩ := unmarked
  rw [Voice.placeEpoch, Voice.drainPending_of_unmarked ⟨epoch, decim, overrun⟩]
  rw [if_pos (by simp [Voice.free_of_slots room, epoch, decim, overrun])]
  rfl

/-- Every voice that counts gets the marker. -/
theorem Dev.fifo_epochMarkers {ext : Nat} (small : n < 16) (active : d.rd (VOICE_STATUS_STATE n) = 2) (room : (d.voice n).slots < 32)
    (unmarked : (d.voice n).Unmarked) : ((d.epochMarkers ext).voice n).fifo = (d.voice n).fifo ++ [(d.voice n).entry ext 0 (d.voice n).evcnt 0 3 0 0] := by
  have other (e : Dev) (m : Nat) (apart : m ≠ n) :
      (if e.rd (VOICE_STATUS_STATE m) = 1 ∨ e.rd (VOICE_STATUS_STATE m) = 2 ∨ e.rd (VOICE_STATUS_STATE m) = 4 then
        e.putVoice m ((e.voice m).placeEpoch ext) else e).voice n = e.voice n := by
    split
    · exact Dev.voice_putVoice_other _ _ (Ne.symm apart)
    · rfl
  have state (e : Dev) (m : Nat) :
      (if e.rd (VOICE_STATUS_STATE m) = 1 ∨ e.rd (VOICE_STATUS_STATE m) = 2 ∨ e.rd (VOICE_STATUS_STATE m) = 4 then
        e.putVoice m ((e.voice m).placeEpoch ext) else e).rd (VOICE_STATUS_STATE n) = e.rd (VOICE_STATUS_STATE n) := by
    split
    · exact Dev.rd_putVoice_other _ (by simp only [VOICE_STATUS_STATE, VOICE_STATUS_FIFO_LEVEL]; omega)
    · rfl
  refine Dev.each_visits (P := fun e => e.voice n = d.voice n ∧ e.rd (VOICE_STATUS_STATE n) = 2)
    (Q := fun e => (e.voice n).fifo = (d.voice n).fifo ++ [(d.voice n).entry ext 0 (d.voice n).evcnt 0 3 0 0]) List.nodup_range (List.mem_range.2 small)
    (fun e m _ apart kept => ⟨(other e m apart).trans kept.1, (state e m).trans kept.2⟩) (fun e kept => ?_)
    (fun e m _ apart marked => (congrArg Voice.fifo (other e m apart)).trans marked) ⟨rfl, active⟩
  obtain ⟨voice, counts⟩ := kept
  rw [if_pos (.inr (.inl counts)), Dev.voice_putVoice_same, voice]
  exact Voice.placeEpoch_of_room room unmarked ext

/-! ### The start of a voice -/

theorem Dev.startVoice_kept (d : Dev) (n state : Nat) : Frame [] [TUNE_STATUS_MODE n] (d.voiceShown n state) (d.startVoice n state) := by
  rw [Dev.startVoice_eq]
  split
  · exact Frame.wr (by simp) (Frame.refl _ _ _)
  · exact Frame.refl _ _ _

theorem Dev.startVoice_shows (d : Dev) (n : Nat) {state : Nat} (low : state < 8) : (d.startVoice n state).rd (VOICE_STATUS_STATE n) = state ∧
    (d.startVoice n state).voice n = d.voiceBegun n state ∧ (d.startVoice n state).rd (VOICE_STATUS_K n) = d.rd (VOICE_DECIM_CFG_KMIN n) % 32 := by
  have kept := d.startVoice_kept n state
  refine ⟨(kept.rd ?_).trans ?_, ?_, (kept.rd ?_).trans ((Dev.rd_wr_same _ (VOICE_STATUS_K n) _).trans (congrArg (· % 32) ?_))⟩
  · simp only [List.forall_mem_singleton, VOICE_STATUS_STATE, TUNE_STATUS_MODE]
    omega
  · rw [Dev.voiceShown, Dev.rd_wr_key _ _ (by simp only [VOICE_STATUS_STATE, VOICE_STATUS_K]; omega), Dev.rd_wr_same]
    exact Nat.mod_eq_of_lt low
  · exact Eq.trans (congrArg (fun t => Tab.read Voice.fresh t n) (kept.parts .voices (by decide))) (Dev.voice_putVoice_same d n _)
  · simp only [List.forall_mem_singleton, VOICE_STATUS_K, TUNE_STATUS_MODE]
    omega
  · rw [Dev.rd_wr_key _ _ (by simp only [VOICE_DECIM_CFG_KMIN, VOICE_STATUS_STATE]; omega)]
    exact Dev.rd_putVoice_other _ (.inl (by simp only [VOICE_DECIM_CFG_KMIN, VOICE_STATUS_FIFO_LEVEL]; omega))

/-- The track channel follows the start of its tachometer's voice. -/
theorem Dev.startFollowed (d : Dev) (n : Nat) : Frame (Part.track :: faultParts) (acquireFlds ++ cutFrameFlds) d (if n = 14 then d.followTach else d) := by
  split
  · exact Frame.followTach (fun _ h => h) (fun _ h => h) (Frame.refl _ _ _)
  · exact Frame.refl _ _ _

theorem Dev.voiceBegins_eq (alive : d.alive) (starting : d.rd (VOICE_STATUS_STATE n) = 1) (clocked : d.sckOpen) (tuned : d.rd (TUNE_STATUS_STATE n) = 1)
    (suits : d.viovOk n) : d.voiceBegins n = if n = 14 then (d.startVoice n 2).followTach else d.startVoice n 2 := by
  have started : Dev.voiceStart n d = d.startVoice n 2 := by rw [Dev.voiceStart, if_pos (by simp [alive, starting, clocked, tuned, suits])]
  rw [Dev.voiceBegins, started]

/-- Settles O8: markers enter one after the other, and a start leaves the voice with its marker. -/
theorem markersAndVoiceStart : Obligations.MarkersAndVoiceStart := by
  unfold Obligations.MarkersAndVoiceStart
  refine ⟨⟨fun s n v small voice room => ⟨fun e wait => ?_, fun e first wait => ?_, fun e first second wait => ?_⟩, fun s alive clocked low => ?_⟩,
    fun s n v alive small starting clocked tuned suits voice => ?_⟩
  · refine Does.of_onDev rfl (by simpa [Instr.wf] using small) ?_
    subst voice
    rw [Dev.pendingMarker, Voice.enterPending_epoch room wait]
    refine ⟨?_, ?_, ?_, ?_, Frame.putVoice (by simp) (by simp) (Frame.refl _ _ _)⟩
    all_goals rw [Dev.voice_putVoice_same]; rfl
  · refine Does.of_onDev rfl (by simpa [Instr.wf] using small) ?_
    subst voice
    rw [Dev.pendingMarker, Voice.enterPending_decim room first wait]
    refine ⟨?_, ?_, ?_, Frame.putVoice (by simp) (by simp) (Frame.refl _ _ _)⟩
    all_goals rw [Dev.voice_putVoice_same]; rfl
  · refine Does.of_onDev rfl (by simpa [Instr.wf] using small) ?_
    subst voice
    rw [Dev.pendingMarker, Voice.enterPending_overrun room first second wait]
    refine ⟨?_, ?_, Frame.putVoice (by simp) (by simp) (Frame.refl _ _ _)⟩
    all_goals rw [Dev.voice_putVoice_same]; rfl
  · refine Does.of_onDev rfl rfl ?_
    have counted : ({ s.dev with time := { s.dev.time with coarse := 0, fifths := 0 } }.inc EPOCH_COUNT_COUNT).rd EPOCH_COUNT_COUNT =
      s.dev.rd EPOCH_COUNT_COUNT + 1 := Dev.rd_inc_below _ (by exact low)
    have wrapped : s.dev.epochWrap = ({ s.dev with time := { s.dev.time with coarse := 0, fifths := 0 } }.inc EPOCH_COUNT_COUNT).epochMarkers
        ((s.dev.rd EPOCH_COUNT_COUNT + 1) * coarseMod) := by
      rw [Dev.epochWrap, if_pos (by simp [alive, clocked]), Dev.wrapEpoch, counted]
    have before : Frame [.voices, .time] (EPOCH_COUNT_COUNT :: (List.range 16).map VOICE_STATUS_FIFO_LEVEL) s.dev
        ({ s.dev with time := { s.dev.time with coarse := 0, fifths := 0 } }.inc EPOCH_COUNT_COUNT) :=
      Frame.inc (by simp) (Frame.time (by simp) (Frame.refl _ _ _))
    have marked : Frame [.voices] fifoFlds ({ s.dev with time := { s.dev.time with coarse := 0, fifths := 0 } }.inc EPOCH_COUNT_COUNT)
        (({ s.dev with time := { s.dev.time with coarse := 0, fifths := 0 } }.inc EPOCH_COUNT_COUNT).epochMarkers
          ((s.dev.rd EPOCH_COUNT_COUNT + 1) * coarseMod)) := Frame.epochMarkers (by simp) (fun _ h => mem_fifoFlds h) (Frame.refl _ _ _)
    rw [wrapped]
    refine ⟨Eq.trans (congrArg Timing.coarse (marked.parts .time (by decide))) rfl, (marked.rd (by decide)).trans counted,
      fun n v small active voice room epoch decim overrun => ?_, before.trans (marked.mono (by simp) (List.subset_cons_self _ _))⟩
    subst voice
    refine Dev.fifo_epochMarkers small ?_ room ⟨epoch, decim, overrun⟩
    exact (Dev.rd_inc_key _ (by simp only [VOICE_STATUS_STATE, EPOCH_COUNT_COUNT]; omega)).trans active
  · refine Does.of_onDev rfl (by simpa [Instr.wf] using small) ?_
    subst voice
    obtain ⟨state, voice, k⟩ := s.dev.startVoice_shows n (state := 2) (by decide)
    have followed : Frame (Part.track :: faultParts) (acquireFlds ++ cutFrameFlds) (s.dev.startVoice n 2) (s.dev.voiceBegins n) := by
      rw [Dev.voiceBegins_eq alive starting clocked tuned suits]
      exact (s.dev.startVoice n 2).startFollowed n
    have same : (s.dev.voiceBegins n).voice n = s.dev.voiceBegun n 2 :=
      Eq.trans (congrArg (fun t => Tab.read Voice.fresh t n) (followed.parts .voices (by decide))) voice
    refine ⟨(followed.rd ?_).trans state, by rw [same]; rfl, by rw [same]; rfl, (followed.rd ?_).trans k, fun still => ?_⟩
    · interval_cases n <;> decide
    · interval_cases n <;> decide
    · have started : Frame [.voices] (startFlds n) s.dev (s.dev.startVoice n 2) := Frame.startVoice (by simp) (fun _ h => h) (Frame.refl _ _ _)
      rw [Dev.voiceBegins_eq alive starting clocked tuned suits]
      split
      · next tach =>
        have off : (s.dev.startVoice n 2).rd TRACK_CFG_EN = 0 := by
          subst tach
          exact (started.rd (by decide)).trans (still.resolve_left (fun other => other rfl))
        rw [Dev.followTach, if_pos (by rw [Dev.is_of_zero off]; rfl)]
        exact started
      · exact started

end Sys2Proof.Machine
end

/-! PROOFS: the ring writer's one-word entry, and a broken ring lock. -/
section

namespace Sys2Proof.Machine

open Reg

variable {us : List Part} {fs : List Fld} {d0 d : Dev} {n : Nat}

/-! ### What waits for the writer keeps its order -/

theorem Dev.waiting_take_offer (d : Dev) (r p : Nat) (w : List Nat) :
    (d.offer r p w).writer.waiting.take d.writer.waiting.length = d.writer.waiting := by
  unfold Dev.offer
  split
  · exact List.take_length
  · exact List.take_left' rfl

theorem Dev.waiting_take_notify (d : Dev) (k s a : Nat) : (d.notify k s a).writer.waiting.take d.writer.waiting.length = d.writer.waiting := by
  unfold Dev.notify
  split
  · exact Dev.waiting_take_offer _ _ _ _
  · exact List.take_length

theorem Dev.waiting_take_setFill (d : Dev) (n fill : Nat) : (d.setFill n fill).writer.waiting.take d.writer.waiting.length = d.writer.waiting := by
  unfold Dev.setFill Dev.when
  dsimp only
  split
  · exact Dev.waiting_take_notify ((d.putFill n fill).wr (RING_STATUS_ABOVE_WM n) _) 1 n fill
  · exact List.take_length

/-! ### One word into a ring -/

theorem Frame.sramWritten {w : Nat} (hu : Part.sram ∈ us) (h : Frame us fs d0 d) : Frame us fs d0 (d.sramWritten w) := h.sram hu

/-- A word stored at the write place. -/
def Dev.wordStored (d : Dev) (n x : Nat) : Dev :=
  Dev.putWords n (d.ringCap n) [x] (d.rd (RING_WR_PTR_INDEX n)) (d.putRing n { d.ring n with gapNext := false })

theorem Dev.writeEntry_of_room {x : Nat} (room : d.rd (RING_FILL_WORDS n) < d.ringCap n) (gap : (d.ring n).gapNext = false) :
    d.writeEntry n x = (d.wordStored n x).sealEntry n 1 := by
  have claimed : d.claimRoom n 1 = (d, true) := by
    rw [Dev.claimRoom, if_neg (by omega), if_pos (by omega)]
  rw [Dev.writeEntry, claimed]
  simp only [gap, if_true, Bool.false_eq_true, if_false]
  rfl

theorem Dev.wordStored_ring (d : Dev) (n x : Nat) :
    (d.wordStored n x).ring n =
      { d.ring n with gapNext := false, cells := Store.write (d.ring n).cells (d.rd (RING_WR_PTR_INDEX n) % d.ringCap n) x } := by
  have same := Dev.ring_putRing_same d n { d.ring n with gapNext := false }
  refine (Dev.ring_putRing_same _ _ _).trans ?_
  rw [same]

theorem Frame.wordStored {x : Nat} (hr : Part.rings ∈ us) (hs : Part.sram ∈ us) (h : Frame us fs d0 d) : Frame us fs d0 (d.wordStored n x) :=
  Frame.sramWritten hs (Frame.putRing hr (Frame.putRing hr h))

/-- The ring's unit and its write place after a sealed entry, before FILL is set. -/
def Dev.entrySealed (d : Dev) (n len : Nat) : Dev :=
  (d.putRing n { d.ring n with ents := (d.ring n).ents ++ [len] }).wr (RING_WR_PTR_INDEX n) ((d.rd (RING_WR_PTR_INDEX n) + len) % d.ringCap n)

theorem Dev.sealEntry_eq (d : Dev) (n len : Nat) : d.sealEntry n len = (d.entrySealed n len).setFill n (d.rd (RING_FILL_WORDS n) + len) := by
  have fill : (d.entrySealed n len).rd (RING_FILL_WORDS n) = d.rd (RING_FILL_WORDS n) :=
    Dev.rd_wr_key _ _ (by simp only [RING_FILL_WORDS, RING_WR_PTR_INDEX]; omega)
  rw [← fill]
  rfl

/-- What a sealed entry shows. -/
theorem Dev.sealEntry_shows (d : Dev) (n len : Nat) :
    (d.sealEntry n len).ring n = { d.ring n with ents := (d.ring n).ents ++ [len] } ∧
    (d.sealEntry n len).rd (RING_WR_PTR_INDEX n) = (d.rd (RING_WR_PTR_INDEX n) + len) % d.ringCap n % 2 ^ 17 ∧
    (d.sealEntry n len).rd (RING_FILL_WORDS n) = (d.rd (RING_FILL_WORDS n) + len) % 2 ^ 18 := by
  have filled : Frame notifyParts [RING_FILL_WORDS n, RING_STATUS_FULL n, RING_STATUS_ABOVE_WM n] (d.entrySealed n len) (d.sealEntry n len) := by
    rw [Dev.sealEntry_eq]
    exact Frame.setFill (fun _ h => h) (fun _ h => h) (Frame.refl _ _ _)
  refine ⟨?_, ?_, ?_⟩
  · exact (congrArg (fun t => Tab.read Ring.fresh t n) (filled.parts .rings (by decide))).trans (Dev.ring_putRing_same _ _ _)
  · refine (filled.rd ?_).trans (Dev.rd_wr_same _ (RING_WR_PTR_INDEX n) _)
    simp only [List.forall_mem_cons, List.not_mem_nil, false_imp_iff, implies_true, and_true, RING_WR_PTR_INDEX, RING_FILL_WORDS, RING_STATUS_FULL,
      RING_STATUS_ABOVE_WM]
    omega
  · rw [Dev.sealEntry_eq]
    exact Dev.rd_setFill _ _ _

theorem Dev.waiting_take_sealEntry (d : Dev) (n len : Nat) : (d.sealEntry n len).writer.waiting.take d.writer.waiting.length = d.writer.waiting := by
  rw [Dev.sealEntry_eq]
  exact Dev.waiting_take_setFill (d.entrySealed n len) n _

theorem Frame.sealEntry {len : Nat} (hr : Part.rings ∈ us) (hu : notifyParts ⊆ us)
    (hf : [RING_WR_PTR_INDEX n, RING_FILL_WORDS n, RING_STATUS_FULL n, RING_STATUS_ABOVE_WM n] ⊆ fs) (h : Frame us fs d0 d) :
    Frame us fs d0 (d.sealEntry n len) :=
  Frame.setFill hu (fun f x => hf (List.mem_cons_of_mem _ x)) (Frame.wr (hf (by simp)) (Frame.putRing hr h))

/-- The device when its writer takes its first waiting entry. -/
def Dev.entryTaken (d : Dev) (rest : List WEntry) : Dev := { d with writer := { d.writer with cycle := d.writer.cycle + 1, waiting := rest } }

/-- The writer takes a waiting one-word entry while no voice FIFO is half full. -/
theorem Dev.ringWrite_of_waiting {w : WEntry} {x : Nat} {rest : List WEntry} (alive : d.alive) (mode : d.mode ≠ 3)
    (wait : d.writer.waiting = w :: rest) (word : w.words = [x]) (low : ∀ n < 16, (d.voice n).fifo.length < 16) :
    d.ringWrite = (d.entryTaken rest).writeEntry w.ring x := by
  have turn : ({ d with writer := { d.writer with cycle := d.writer.cycle + 1 } } : Dev).othersTurn w = true := by
    simp only [Dev.othersTurn, Bool.or_eq_true, List.all_eq_true, List.mem_range, decide_eq_true_eq]
    exact .inl low
  rw [Dev.ringWrite, if_neg (by simp [alive, mode])]
  dsimp only
  split
  next w' rest' wait' =>
    obtain ⟨rfl, rfl⟩ : w' = w ∧ rest' = rest := List.cons.inj (wait'.symm.trans wait)
    rw [if_pos turn, Dev.writeWaiting]
    simp only [word, List.length_singleton, Nat.lt_irrefl, false_and, if_false, Nat.le_refl, if_true]
    rfl
  next none => exact absurd (none.symm.trans wait) (by simp)

/-! ### A broken lock -/

/-- The device when the entries of the lock's owner are dropped. -/
def Dev.lockDropped (d : Dev) (n : Nat) (l : Lock) : Dev :=
  let e := d.raiseEpoch l.owner
  { e with writer := { e.writer with waiting := e.writer.waiting.filter (fun e => !(e.ring == n && decide (0 < e.done))) } }

/-- A broken lock counted and shown. -/
def Dev.lockShown (d : Dev) (n owner : Nat) : Dev :=
  ((((d.putRing n { d.ring n with lock := none }).addLoss n 1).inc RING_LOCK_BREAKS).wr RING_LOCK_RING n).wr RING_LOCK_OWNER owner

theorem Dev.lockTimeout_eq {l : Lock} (lock : (d.ring n).lock = some l) :
    d.lockTimeout n = ((d.lockDropped n l).lockShown n l.owner).fault 0x0B10 transient [srcDevice] (some (n + l.owner * 256)) := by
  simp only [Dev.lockTimeout, lock]
  rfl

theorem Frame.lockShown {owner : Nat} (hu : Part.rings ∈ us)
    (hf : [RING_LOSS_COUNT_COUNT n, RING_LOCK_BREAKS, RING_LOCK_RING, RING_LOCK_OWNER] ⊆ fs) (h : Frame us fs d0 d) :
    Frame us fs d0 (d.lockShown n owner) :=
  Frame.wr (hf (by simp)) (Frame.wr (hf (by simp)) (Frame.wr (hf (by simp)) (Frame.wr (hf (by simp)) (Frame.putRing hu h))))

theorem Dev.lockShown_shows {owner : Nat} (d : Dev) (small : n < 24) (loss : d.rd (RING_LOSS_COUNT_COUNT n) < 2 ^ 32 - 1)
    (breaks : d.rd RING_LOCK_BREAKS < 65535) :
    ((d.lockShown n owner).ring n).lock = none ∧
    (d.lockShown n owner).rd (RING_LOSS_COUNT_COUNT n) = d.rd (RING_LOSS_COUNT_COUNT n) + 1 ∧
    (d.lockShown n owner).rd RING_LOCK_BREAKS = d.rd RING_LOCK_BREAKS + 1 ∧
    (d.lockShown n owner).rd RING_LOCK_RING = n ∧ (d.lockShown n owner).rd RING_LOCK_OWNER = owner % 16 := by
  have apart : RING_LOCK_BREAKS.key ≠ (RING_LOSS_COUNT_COUNT n).key := by simp only [RING_LOCK_BREAKS, RING_LOSS_COUNT_COUNT]; omega
  have kept : ((d.putRing n { d.ring n with lock := none }).addLoss n 1).rd RING_LOCK_BREAKS = d.rd RING_LOCK_BREAKS := Dev.rd_wr_key _ _ apart
  refine ⟨congrArg Ring.lock (Dev.ring_putRing_same d n _), ?_, ?_, ?_, Dev.rd_wr_same _ RING_LOCK_OWNER _⟩
  · rw [Dev.lockShown]
    simp (disch := (simp only [RING_LOCK_BREAKS, RING_LOSS_COUNT_COUNT, RING_LOCK_RING, RING_LOCK_OWNER]; omega)) only [Dev.rd_wr_key, Dev.rd_inc_key]
    refine (Dev.rd_wr_same _ (RING_LOSS_COUNT_COUNT n) _).trans ?_
    have same : (d.putRing n { d.ring n with lock := none }).rd (RING_LOSS_COUNT_COUNT n) = d.rd (RING_LOSS_COUNT_COUNT n) := rfl
    have width : (RING_LOSS_COUNT_COUNT n).width = 32 := rfl
    rw [same, width, Nat.min_eq_left (by omega), Nat.mod_eq_of_lt (by omega)]
  · rw [Dev.lockShown, Dev.rd_wr_key _ _ (by decide), Dev.rd_wr_key _ _ (by decide), Dev.rd_inc_below, kept]
    rw [kept]
    exact breaks
  · rw [Dev.lockShown, Dev.rd_wr_key _ _ (by decide)]
    exact (Dev.rd_wr_same _ RING_LOCK_RING _).trans (Nat.mod_eq_of_lt (Nat.lt_trans small (by decide)))

/-- Settles O9: the one-word entry goes through `writeEntry` with room to spare; the broken lock is counted, shown and recorded. -/
theorem ringWriterAndBrokenLock : Obligations.RingWriterAndBrokenLock := by
  unfold Obligations.RingWriterAndBrokenLock
  refine ⟨fun s w x rest alive mode wait word small low room gap => Does.of_onDev rfl rfl ?_,
    fun s n l small lock loss breaks bears => Does.of_onDev rfl (by simp [Instr.wf, small]) ?_⟩
  · have stored := Dev.wordStored_ring (s.dev.entryTaken rest) w.ring x
    have kept : Frame [.rings, .writer, .sram] [] s.dev ((s.dev.entryTaken rest).wordStored w.ring x) :=
      Frame.wordStored (by simp) (by simp) (Frame.writer (by simp) (Frame.refl _ _ _))
    have cap : ((s.dev.entryTaken rest).wordStored w.ring x).ringCap w.ring = s.dev.ringCap w.ring := rfl
    obtain ⟨ring, place, fill⟩ := Dev.sealEntry_shows ((s.dev.entryTaken rest).wordStored w.ring x) w.ring 1
    rw [Dev.ringWrite_of_waiting alive mode wait word low, Dev.writeEntry_of_room (d := s.dev.entryTaken rest) room gap, ring, place, fill, stored]
    refine ⟨Dev.waiting_take_sealEntry ((s.dev.entryTaken rest).wordStored w.ring x) _ _, Store.read_write_same _ _ _, rfl, ?_, ?_, ?_⟩
    · rw [cap, kept.rd (by simp)]
    · rw [kept.rd (by simp)]
    · exact Frame.sealEntry (by simp) (by decide) (by simp) (kept.mono (by simp) (by simp))
  · have dropped : Frame [.writer] [] s.dev (s.dev.lockDropped n l) := Frame.writer (by simp) (Frame.raiseEpoch (by simp) (Frame.refl _ _ _))
    have shown : Frame [.rings, .writer] [RING_LOSS_COUNT_COUNT n, RING_LOCK_BREAKS, RING_LOCK_RING, RING_LOCK_OWNER] s.dev
        ((s.dev.lockDropped n l).lockShown n l.owner) := Frame.lockShown (by simp) (by simp) (dropped.mono (by simp) (by simp))
    have apart : ∀ g ∈ [STRIKE_RETIRED srcDevice, STRIKE_PROBATION srcDevice, STRIKE_STRIKES srcDevice, STRIKE_CFG_RETIRE],
        ∀ f ∈ [RING_LOSS_COUNT_COUNT n, RING_LOCK_BREAKS, RING_LOCK_RING, RING_LOCK_OWNER], g.key ≠ f.key := by
      simp only [List.forall_mem_cons, List.not_mem_nil, false_imp_iff, implies_true, and_true, STRIKE_RETIRED, STRIKE_PROBATION, STRIKE_STRIKES,
        STRIKE_CFG_RETIRE, RING_LOSS_COUNT_COUNT, RING_LOCK_BREAKS, RING_LOCK_RING, RING_LOCK_OWNER, srcDevice]
      omega
    have bears' : ((s.dev.lockDropped n l).lockShown n l.owner).bears srcDevice := by
      rw [Dev.bears, shown.rd (apart _ (by simp)), shown.rd (apart _ (by simp)), shown.rd (apart _ (by simp)), shown.rd (apart _ (by simp))]
      exact bears
    have fault : Frame faultParts (strikeFlds srcDevice) ((s.dev.lockDropped n l).lockShown n l.owner) (s.dev.lockTimeout n) := by
      rw [Dev.lockTimeout_eq lock]
      exact Frame.fault_bears bears' (fun _ h => h) (fun _ h => h) (Frame.refl _ _ _)
    obtain ⟨free, lost, broken, ring, owner⟩ := Dev.lockShown_shows (owner := l.owner) (s.dev.lockDropped n l) small loss breaks
    refine ⟨?_, ?_, (fault.rd (by decide)).trans broken, (fault.rd (by decide)).trans ring, (fault.rd (by decide)).trans owner, ?_,
      (shown.mono (by decide) (List.subset_append_left _ _)).trans (fault.mono (List.subset_append_right _ _) (List.subset_append_right _ _))⟩
    · exact (congrArg (fun t => (Tab.read Ring.fresh t n).lock) (fault.parts .rings (by decide))).trans free
    · refine (fault.rd ?_).trans lost
      simp only [strikeFlds, faultFlds, List.cons_append, List.nil_append, List.forall_mem_cons, List.not_mem_nil, false_imp_iff, implies_true, and_true,
        STRIKE_STRIKES, STRIKE_DECAY_COUNT, FAULT_STATUS_COUNT, FAULT_STATUS_LAST_CODE, LOG_STATUS_LOG_QUEUE, LOSS_TOTAL, RING_LOSS_COUNT_COUNT, srcDevice]
      omega
    · rw [Dev.lockTimeout_eq lock]
      exact Dev.rd_lastCode_fault_bears bears' _ _

end Sys2Proof.Machine
end

/-! PROOFS: the effects of reads on rings, snapshots, missed triggers and the capture buffer. -/
section

namespace Sys2Proof.Machine

open Reg

variable {us : List Part} {fs : List Fld} {d0 d : Dev} {n : Nat}

/-! ### A ring's data window -/

theorem Tab.read_map {α : Type} (f : α → α) (x : α) (still : f x = x) (t : Tab α) (n : Nat) :
    Tab.read x (t.map (fun p => (p.1, f p.2))) n = f (Tab.read x t n) := by
  induction t with
  | nil => exact still.symm
  | cons p rest ih =>
    simp only [List.map_cons, Tab.read]
    split
    · rfl
    · exact ih

theorem Dev.ring_beginRead (d : Dev) (n : Nat) : d.beginRead.ring n = { d.ring n with back := [], gapBack := false } :=
  Tab.read_map (fun r : Ring => { r with back := [], gapBack := false }) Ring.fresh rfl d.rings n

theorem Dev.headWord_beginRead (d : Dev) (n : Nat) : d.beginRead.headWord n = d.headWord n := by
  simp only [Dev.headWord, Dev.ring_beginRead, Dev.rd_beginRead]

/-- The register fields that a read of ring `n`'s data window may change. -/
def windowFlds (n : Nat) : List Fld :=
  [RING_STATUS_UNDERRUN n, RING_RD_PTR_INDEX n, RING_FILL_WORDS n, RING_STATUS_FULL n, RING_STATUS_ABOVE_WM n]

/-- The ring moved on over the word that its snapshot returned. -/
def Dev.windowMoved (d : Dev) (n : Nat) : Dev :=
  let r := d.ring n
  let fin := decide (r.headRead + 1 = r.ents.headD 0)
  (d.putRing n { r with
    snapOk := false, gapHost := false, ents := if fin then r.ents.tail else r.ents, headRead := if fin then 0 else r.headRead + 1,
    back := if fin then r.ents.headD 0 :: r.back else r.back, gapBack := r.gapBack || r.gapHost }).wr (RING_RD_PTR_INDEX n)
    ((d.rd (RING_RD_PTR_INDEX n) + 1) % d.ringCap n)

theorem Dev.ringDataRead_head {off : Nat} (first : off % 16 = 0) (held : d.rd (RING_FILL_WORDS n) ≠ 0) :
    d.ringDataRead n off = d.putRing n { d.ring n with snap := d.headWord n, snapOk := true } := by
  simp only [Dev.ringDataRead, if_pos first, if_neg held]

theorem Dev.ringDataRead_empty {off : Nat} (first : off % 16 = 0) (empty : d.rd (RING_FILL_WORDS n) = 0) :
    d.ringDataRead n off = (d.putRing n { d.ring n with snap := 0, snapOk := false }).wr (RING_STATUS_UNDERRUN n) 1 := by
  simp only [Dev.ringDataRead, if_pos first, if_pos empty]

theorem Dev.ringDataRead_moved {off : Nat} (last : off % 16 = 12) (taken : (d.ring n).snapOk = true) :
    d.ringDataRead n off = (d.windowMoved n).setFill n (d.rd (RING_FILL_WORDS n) - 1) := by
  rw [Dev.ringDataRead, if_neg (by omega), if_pos ⟨last, taken⟩]
  rfl

/-- The read of a ring's window: three cases and no other effect. -/
theorem Frame.ringDataRead {off : Nat} (hr : Part.rings ∈ us) (hu : notifyParts ⊆ us) (hf : windowFlds n ⊆ fs) (h : Frame us fs d0 d) :
    Frame us fs d0 (d.ringDataRead n off) := by
  by_cases first : off % 16 = 0
  · by_cases empty : d.rd (RING_FILL_WORDS n) = 0
    · rw [Dev.ringDataRead_empty first empty]
      exact Frame.wr (hf (by simp [windowFlds])) (Frame.putRing hr h)
    · rw [Dev.ringDataRead_head first empty]
      exact Frame.putRing hr h
  · by_cases moves : off % 16 = 12 ∧ (d.ring n).snapOk = true
    · rw [Dev.ringDataRead_moved moves.1 moves.2]
      exact Frame.setFill hu (fun f x => hf (List.mem_cons_of_mem _ (List.mem_cons_of_mem _ x)))
        (Frame.wr (hf (by simp [windowFlds])) (Frame.putRing hr h))
    · rw [Dev.ringDataRead, if_neg first, if_neg moves]
      exact h

/-- Beside the ring, a window read notes in the host port how far the access has moved. -/
theorem Dev.windowRead_ringDataRead (d : Dev) (n off : Nat) : Frame [.host] [] (d.ringDataRead n off) (d.windowRead n off) := by
  have noted : Frame [.host] [] (d.ringDataRead n off)
      (if Store.read (d.ringDataRead n off).host.moved n = 0 then
        { d.ringDataRead n off with host := { (d.ringDataRead n off).host with moved := Store.write (d.ringDataRead n off).host.moved n 1 } }
      else d.ringDataRead n off) := by
    split
    · exact Frame.host (by simp) (Frame.refl _ _ _)
    · exact Frame.refl _ _ _
  exact Frame.when (f := fun d => d.noteMoved n) noted (fun _ h => h.host (by simp))

theorem Frame.windowRead {off : Nat} (hr : [Part.rings, Part.host] ⊆ us) (hu : notifyParts ⊆ us) (hf : windowFlds n ⊆ fs) (h : Frame us fs d0 d) :
    Frame us fs d0 (d.windowRead n off) :=
  (Frame.ringDataRead (hr (by simp)) hu hf h).trans ((d.windowRead_ringDataRead n off).mono (by simpa using hr (by simp)) (by simp))

theorem Frame.missedTriggerRead {off : Nat} (hu : Part.anas ∈ us) (hf : ANA_MISS_FILL n ∈ fs) (h : Frame us fs d0 d) :
    Frame us fs d0 (d.missedTriggerRead n off) := by
  unfold Dev.missedTriggerRead
  dsimp only
  split
  · exact Frame.putAna hu h
  · split
    · exact Frame.wr hf (Frame.putAna hu h)
    · exact h

theorem Frame.captureBufferRead {off : Nat} (hu : Part.cap ∈ us) (h : Frame us fs d0 d) : Frame us fs d0 (d.captureBufferRead n off) := by
  unfold Dev.captureBufferRead
  split
  · exact h.cap hu
  · exact h

/-! ### The snapshot of a wide field -/

theorem Dev.lowWordRead_of_wide {a : Nat} {f : Fld} (one : fieldsAt a = some [f]) (low : f.word = a) (wide : 32 < f.width) (narrow : f.width ≤ 64)
    (plain : ¬ (0x6100 ≤ a ∧ a < 0x6300 ∧ 0x44 ≤ a % 0x80)) :
    d.lowWordRead a = { d with snaps := Store.write d.snaps (a + 4) (d.visible f / 2 ^ 32 % 2 ^ 32) } := by
  have words : f.highWords = 1 := by
    rw [Fld.highWords]
    omega
  rw [Dev.lowWordRead]
  simp only [one, if_neg plain, List.foldl_cons, List.foldl_nil, low, if_true, words, keepHigh, Nat.zero_add, Nat.mul_one]

/-! ### Corrected errors that a read meets -/

theorem Dev.findUpsets_nil (d : Dev) : d.findUpsets [] = d := rfl

theorem Dev.findUpsets_corrected (d : Dev) (w : Nat) : d.findUpsets [(w, 1)] = d.corrected w := rfl

/-- What a read with one corrected error shows of it, whatever else the read does. -/
theorem Does.of_corrected {c : Instr} {s : State} {a w : Nat} {f : Dev → Dev} {us : List Part} {fs : List Fld}
    (run : exec c s = s.onDev c (Dev.oneRead a (fun d => f (d.findUpsets [(w, 1)])))) (wf : c.wf = true) (served : s.dev.readServed a = true)
    (bank : sramBank w < 8) (kept : ∀ d, Frame us fs d (f d)) (count : ∀ g ∈ fs, (SRAM_CORR (sramBank w)).key ≠ g.key)
    (code : ∀ g ∈ fs, FAULT_STATUS_LAST_CODE.key ≠ g.key) :
    Does c s fun d =>
      d.rd (SRAM_CORR (sramBank w)) = min (s.dev.rd (SRAM_CORR (sramBank w)) + 1) (2 ^ 16 - 1) ∧
      (Store.read s.dev.sram.corrRep (sramBank w) = 0 → d.rd FAULT_STATUS_LAST_CODE = 0x0B01) := by
  obtain ⟨counted, told, -⟩ := s.dev.beginRead.corrected_shows bank
  refine Does.of_oneRead run wf served ?_
  rw [Dev.findUpsets_corrected]
  exact ⟨((kept _).rd count).trans counted, fun fresh => ((kept _).rd code).trans (told fresh)⟩

/-- Settles O11: each read has its effect between the note that a read begins and that it was the latest frame. -/
theorem readsHaveTheirEffect : Obligations.ReadsHaveTheirEffect := by
  unfold Obligations.ReadsHaveTheirEffect
  refine ⟨fun s n off small short served => ⟨fun first held => ?_, fun first empty => ?_, fun last taken => ?_⟩,
    fun s a f small aligned served one low wide narrow plain => ?_,
    fun s a off small short aligned served => ⟨fun first => ?_, fun last taken => ?_⟩, fun s i off small first served => ?_,
    fun s w n off a c mem wf served => ?_⟩
  · refine Does.of_oneRead rfl (by simp [Instr.wf, upsetsOk, small, short]; omega) served ?_
    have rest := s.dev.beginRead.windowRead_ringDataRead n off
    have effect := Dev.ringDataRead_head (d := s.dev.beginRead) (n := n) first held
    have ring : (s.dev.beginRead.windowRead n off).ring n = { s.dev.beginRead.ring n with snap := s.dev.beginRead.headWord n, snapOk := true } := by
      refine (congrArg (fun t => Tab.read Ring.fresh t n) (rest.parts .rings (by decide))).trans ?_
      rw [effect]
      exact Dev.ring_putRing_same _ _ _
    refine ⟨?_, congrArg Ring.snapOk ring, ?_⟩
    · exact (congrArg Ring.snap ring).trans (s.dev.headWord_beginRead n)
    · rw [effect] at rest
      exact Frame.setLatest (by simp) ((Frame.putRing (by simp) (Frame.beginRead (by simp) (Frame.refl _ _ _))).trans (rest.mono (by simp) (by simp)))
  · refine Does.of_oneRead rfl (by simp [Instr.wf, upsetsOk, small, short]; omega) served ?_
    have rest := s.dev.beginRead.windowRead_ringDataRead n off
    rw [Dev.ringDataRead_empty (d := s.dev.beginRead) first empty] at rest
    refine ⟨?_, (rest.rd (by simp)).trans (Dev.rd_wr_same _ (RING_STATUS_UNDERRUN n) 1), ?_⟩
    · refine (congrArg (fun t => (Tab.read Ring.fresh t n).snap) (rest.parts .rings (by decide))).trans ?_
      exact congrArg Ring.snap (Dev.ring_putRing_same _ _ _)
    · exact Frame.setLatest (by simp)
        ((Frame.wr (by simp) (Frame.putRing (by simp) (Frame.beginRead (by simp) (Frame.refl _ _ _)))).trans (rest.mono (by simp) (by simp)))
  · refine Does.of_oneRead rfl (by simp [Instr.wf, upsetsOk, small, short]; omega) served ?_
    have taken' : (s.dev.beginRead.ring n).snapOk = true := by
      rw [Dev.ring_beginRead]
      exact taken
    have rest := s.dev.beginRead.windowRead_ringDataRead n off
    rw [Dev.ringDataRead_moved last taken'] at rest
    have filled : Frame notifyParts [RING_FILL_WORDS n, RING_STATUS_FULL n, RING_STATUS_ABOVE_WM n] (s.dev.beginRead.windowMoved n)
        ((s.dev.beginRead.windowMoved n).setFill n (s.dev.beginRead.rd (RING_FILL_WORDS n) - 1)) := Frame.setFill (fun _ h => h) (fun _ h => h) (Frame.refl _ _ _)
    refine ⟨?_, ?_, (rest.rd (by simp)).trans (Dev.rd_setFill _ n _), ?_⟩
    · refine (congrArg (fun t => (Tab.read Ring.fresh t n).snapOk) (Eq.trans (rest.parts .rings (by decide)) (filled.parts .rings (by decide)))).trans ?_
      exact congrArg Ring.snapOk (Dev.ring_putRing_same _ _ _)
    · refine (rest.rd (by simp)).trans ((filled.rd ?_).trans (Dev.rd_wr_same _ (RING_RD_PTR_INDEX n) _))
      simp only [List.forall_mem_cons, List.not_mem_nil, false_imp_iff, implies_true, and_true, RING_RD_PTR_INDEX, RING_FILL_WORDS, RING_STATUS_FULL,
        RING_STATUS_ABOVE_WM]
      omega
    · have moved : Frame [.rings, .host] [RING_RD_PTR_INDEX n] s.dev (s.dev.beginRead.windowMoved n) :=
        Frame.wr (by simp) (Frame.putRing (by simp) (Frame.beginRead (by simp) (Frame.refl _ _ _)))
      exact Frame.setLatest (by simp) (((moved.mono (by simp) (by simp)).trans (filled.mono (by decide) (by simp))).trans (rest.mono (by simp) (by simp)))
  · refine Does.of_oneRead rfl (by simpa [Instr.wf, aligned] using small) served ?_
    rw [Dev.lowWordRead_of_wide one low wide narrow plain]
    exact ⟨Store.read_write_same _ _ _, Frame.setLatest (by simp) (Frame.snaps (by simp) (Frame.beginRead (by simp) (Frame.refl _ _ _)))⟩
  · refine Does.of_oneRead rfl (by simp [Instr.wf, upsetsOk, small, short, aligned]) served ?_
    rw [Dev.findUpsets_nil, Dev.missedTriggerRead, if_pos (by omega)]
    exact ⟨congrArg Ana.missSnap (Dev.ana_putAna_same s.dev.beginRead a _), (congrArg Ana.miss (Dev.ana_putAna_same s.dev.beginRead a _)).trans rfl,
      Frame.setLatest (by simp) (Frame.putAna (by simp) (Frame.beginRead (by simp) (Frame.refl _ _ _)))⟩
  · refine Does.of_oneRead rfl (by simp [Instr.wf, upsetsOk, small, short, aligned]) served ?_
    rw [Dev.findUpsets_nil, Dev.missedTriggerRead, if_neg (by omega), if_pos ⟨by omega, taken⟩]
    exact ⟨(congrArg Ana.miss (Dev.ana_putAna_same s.dev.beginRead a _)).trans rfl,
      Frame.setLatest (by simp) (Frame.wr (by simp) (Frame.putAna (by simp) (Frame.beginRead (by simp) (Frame.refl _ _ _))))⟩
  · refine Does.of_oneRead rfl (by simp [Instr.wf, upsetsOk, small, first]) served ?_
    rw [Dev.findUpsets_nil, Dev.captureBufferRead, if_pos (by omega)]
    exact ⟨rfl, Frame.setLatest (by simp) (Frame.cap (by simp) (Frame.beginRead (by simp) (Frame.refl _ _ _)))⟩
  · simp only [List.mem_cons, List.not_mem_nil, or_false, Prod.mk.injEq] at mem
    rcases mem with ⟨rfl, rfl⟩ | ⟨rfl, rfl⟩ | ⟨rfl, rfl⟩
    · have ok := wf
      simp only [Instr.wf, upsetsOk, List.all_cons, List.all_nil, Bool.and_eq_true, decide_eq_true_eq] at ok
      refine Does.of_corrected (f := fun d => Dev.windowRead n off d) rfl wf served ?_
        (fun d => Frame.windowRead (us := [.rings, .host, .writer, .faults]) (fs := windowFlds n) (by simp) (by decide) (fun _ h => h) (Frame.refl _ _ _)) ?_ ?_
      · rw [sramBank]
        omega
      · simp only [windowFlds, List.forall_mem_cons, List.not_mem_nil, false_imp_iff, implies_true, and_true, SRAM_CORR, sramBank, RING_STATUS_UNDERRUN,
          RING_RD_PTR_INDEX, RING_FILL_WORDS, RING_STATUS_FULL, RING_STATUS_ABOVE_WM]
        omega
      · simp only [windowFlds, List.forall_mem_cons, List.not_mem_nil, false_imp_iff, implies_true, and_true, FAULT_STATUS_LAST_CODE, RING_STATUS_UNDERRUN,
          RING_RD_PTR_INDEX, RING_FILL_WORDS, RING_STATUS_FULL, RING_STATUS_ABOVE_WM]
        omega
    · have ok := wf
      simp only [Instr.wf, upsetsOk, List.all_cons, List.all_nil, Bool.and_eq_true, decide_eq_true_eq] at ok
      refine Does.of_corrected (f := fun d => Dev.missedTriggerRead n off d) rfl wf served ?_
        (fun d => Frame.missedTriggerRead (us := [.anas]) (fs := [ANA_MISS_FILL n]) (by simp) (by simp) (Frame.refl _ _ _)) ?_ ?_
      · rw [sramBank]
        omega
      · simp only [List.forall_mem_singleton, SRAM_CORR, sramBank, ANA_MISS_FILL]
        omega
      · simp only [List.forall_mem_singleton, FAULT_STATUS_LAST_CODE, ANA_MISS_FILL]
        omega
    · have ok := wf
      simp only [Instr.wf, upsetsOk, List.all_cons, List.all_nil, Bool.and_eq_true, decide_eq_true_eq] at ok
      refine Does.of_corrected (f := fun d => Dev.captureBufferRead n off d) rfl wf served ?_
        (fun d => Frame.captureBufferRead (us := [.cap]) (fs := []) (by simp) (Frame.refl _ _ _)) (by simp) (by simp)
      rw [sramBank]
      omega

end Sys2Proof.Machine
end

/-! PROOFS: a frame of the track channel is decoded or late. -/
section

namespace Sys2Proof.Machine

open Reg

variable {us : List Part} {fs gs : List Fld} {d0 d e : Dev}

/-! ### What following the head point may touch -/

/-- The register fields that following the head point may change, while the channel's state stays. -/
def followFlds : List Fld :=
  [POS_HEAD, POS_BRIDGE, TRACK_STATUS_ZONE_HEAD, TRACK_EVENT_DR_LIMIT, WM_THRESH_LIVE_LOWER 6, WM_THRESH_LIVE_UPPER 6, WM_THRESH_LIVE_HYST 6,
    TRACK_STATUS_WEAK_FULL, TRACK_EVENT_REALLOC, LOG_STATUS_TOT_QUEUE] ++ (List.range 64).map WEAK_MAP_SEG ++ (List.range 64).map WEAK_MAP_VALID ++
  (sourceFlds srcDevice ++ outFlds) ++ safeFlds

/-- The parts that following the head point may change beside the track channel. -/
def besideParts : List Part := [.logs, .free] ++ safeParts

/-- From `d0` to `d` the head point was followed: the frames that wait for the decoder stayed, and no register field but those listed and `gs`
changed. -/
def Follows (gs : List Fld) (d0 d : Dev) : Prop := Frame (.track :: besideParts) (gs ++ followFlds) d0 d ∧ d.track.queue = d0.track.queue

theorem Follows.refl (gs : List Fld) (d : Dev) : Follows gs d d := ⟨Frame.refl _ _ _, rfl⟩

/-- A step beside the channel. -/
theorem Follows.beside (h : Follows gs d0 d) (k : Frame besideParts followFlds d e) : Follows gs d0 e :=
  ⟨h.1.trans (k.mono (List.subset_cons_self _ _) (List.subset_append_right _ _)), (congrArg TrackSt.queue (k.parts .track (by decide))).trans h.2⟩

/-- A step of the channel that leaves its queue. -/
theorem Follows.putTrack {t : TrackSt} (h : Follows gs d0 d) (queue : t.queue = d.track.queue := by rfl) : Follows gs d0 (d.putTrack t) :=
  ⟨(Frame.putTrack_iff (by simp)).2 h.1, queue.trans h.2⟩

theorem Follows.wr {f : Fld} {v : Nat} (hf : f ∈ followFlds) (h : Follows gs d0 d) : Follows gs d0 (d.wr f v) :=
  h.beside (Frame.wr hf (Frame.refl _ _ _))

theorem Follows.fault {code cls : Nat} {arg : Option Nat} (h : Follows gs d0 d) : Follows gs d0 (d.fault code cls [] arg) :=
  h.beside (Frame.fault_none (by decide) (by decide) (Frame.refl _ _ _))

theorem Follows.each {α : Type} {l : List α} {f : Dev → α → Dev} (h : Follows gs d0 d) (hf : ∀ d x, x ∈ l → Follows gs d0 d → Follows gs d0 (f d x)) :
    Follows gs d0 (d.each l f) := by
  unfold Dev.each
  induction l generalizing d with
  | nil => exact h
  | cons x r ih => exact ih (hf d x List.mem_cons_self h) (fun d y hy => hf d y (List.mem_cons_of_mem _ hy))

/-! ### The steps -/

theorem Follows.markZone {mask : Nat} (h : Follows gs d0 d) : Follows gs d0 (d.markZone mask) := by
  unfold Dev.markZone
  split
  · exact h.putTrack
  · exact h

theorem Follows.applyZone {z : Nat} (h : Follows gs d0 d) : Follows gs d0 (d.applyZone z) :=
  (h.beside (Frame.putLive (by decide) (Frame.refl _ _ _))).putTrack

theorem Follows.trackRecord {kind seg inhibit added ok bad : Nat} {mass : F64} {at0 : Nat × Nat} (h : Follows gs d0 d) :
    Follows gs d0 (d.trackRecord kind seg inhibit mass added ok bad at0) := by
  unfold Dev.trackRecord
  dsimp only
  refine Follows.putTrack ?_
  have offered (w : List Nat) : Follows gs d0 (d.offer 18 3 w) := h.beside (Frame.offer (by decide) (Frame.refl _ _ _))
  have counted (w : List Nat) : Follows gs d0 (if (d.massCount mass).2 then d.offer 18 3 w else (d.offer 18 3 w).nextFree) := by
    split
    · exact offered w
    · exact (offered w).beside (Frame.nextFree (by decide) (Frame.refl _ _ _))
  split
  · exact (counted _).beside (Frame.notify (by decide) (Frame.refl _ _ _))
  · exact counted _

/-- The weak map's fields are among them. -/
theorem weakMap_mem_followFlds {w : Nat} (mem : w ∈ List.range 64) : WEAK_MAP_SEG w ∈ followFlds ∧ WEAK_MAP_VALID w ∈ followFlds := by
  rw [followFlds]
  constructor
  · exact List.mem_append_left _ (List.mem_append_left _ (List.mem_append_left _ (List.mem_append_right _ (List.mem_map_of_mem mem))))
  · exact List.mem_append_left _ (List.mem_append_left _ (List.mem_append_right _ (List.mem_map_of_mem mem)))

theorem Follows.log {kind : Nat} {p : List Nat} (h : Follows gs d0 d) : Follows gs d0 (d.log kind p) :=
  h.beside (Frame.log (by decide) (by decide) (Frame.refl _ _ _))

theorem Follows.reallocate {n : Nat} (h : Follows gs d0 d) : Follows gs d0 (d.reallocate n) := by
  unfold Dev.reallocate
  split
  · exact h
  · split
    · split
      · exact h
      · exact ((h.putTrack).wr (by decide)).fault
    · next w found =>
      have mem : w ∈ List.range 64 := List.mem_of_find?_eq_some found
      obtain ⟨seg, valid⟩ := weakMap_mem_followFlds mem
      exact ((((((h.wr seg).wr valid).log).putTrack).trackRecord).wr (by decide)).fault

theorem Follows.endRevolution (h : Follows gs d0 d) : Follows gs d0 d.endRevolution :=
  (h.putTrack).each fun _ _ _ kept => kept.reallocate

/-- A full totaliser queue is charged to the device. -/
theorem Frame.fault_totFull {arg : Option Nat} (hu : Part.time :: faultParts ⊆ us) (hf : sourceFlds srcDevice ++ outFlds ⊆ fs) (h : Frame us fs d0 d) :
    Frame us fs d0 (d.fault 0x0A15 permanent [srcDevice] arg) := by
  obtain ⟨record, out⟩ := List.append_subset.1 hf
  have charged := h.chargeFault (code := 0x0A15) (cls := permanent) (arg := arg) (List.cons_subset.1 hu).2 record
  have effect (d : Dev) : d.retireEffect srcDevice 0x0A15 = if 1 < d.deviceCount then d.enterOut else d := by
    unfold Dev.retireEffect
    rw [if_neg (by decide), if_neg (by decide), if_neg (by decide), if_neg (by decide), if_pos rfl]
    exact if_congr Iff.rfl rfl (if_pos (by decide))
  simp only [Dev.fault, Dev.each_cons, Dev.each_nil, Dev.faultOne]
  split
  · rw [effect]
    split
    · exact charged.enterOut hu out
    · exact charged
  · exact charged

theorem Follows.queueTot {t : TotEntry} (h : Follows gs d0 d) : Follows gs d0 (d.queueTot t) := by
  have queued : Follows gs d0 (d.putTot (d.logs.tot ++ [t])) := h.beside (Frame.putTot (by decide) (by decide) (Frame.refl _ _ _))
  unfold Dev.queueTot
  dsimp only
  split
  · exact h
  · split
    · refine queued.beside (Frame.enterSafe (List.subset_append_right _ _) (List.subset_append_right _ _) (Frame.fault_totFull (by decide) ?_ (Frame.refl _ _ _)))
      exact List.Subset.trans (List.subset_append_right _ _) (List.subset_append_left _ _)
    · exact queued

theorem Follows.passZero (h : Follows gs d0 d) : Follows gs d0 d.passZero := by
  unfold Dev.passZero
  dsimp only
  split
  · exact h.queueTot.putTrack
  · exact h.queueTot

/-- Is the distance since the anchor, at an instant, short enough for LOCKED (R217)? -/
def Dev.near (d : Dev) (t : Nat) : Prop :=
  ∀ a, d.track.anchor = some a → f64Lt (f64OfInt ((652 * d.cellLen : Nat) : Int)) (d.travelled t a.2) = false

/-- The channel may leave LOCKED, or the instant is near. -/
theorem Follows.checkBridged {t : Nat} (may : TRACK_STATUS_STATE ∈ gs ∨ d.near t) (h : Follows gs d0 d) : Follows gs d0 (d.checkBridged t) := by
  unfold Dev.checkBridged
  split
  · exact h
  · next a anchored =>
    have locked : Follows gs d0 (if d.trackState = 2 ∧ f64Lt (f64OfInt ((652 * d.cellLen : Nat) : Int)) (d.travelled t a.2) = true then
        d.wr TRACK_STATUS_STATE 3 else d) := by
      split
      · next far =>
        rcases may with free | near
        · exact ⟨Frame.wr (List.mem_append_left _ free) h.1, h.2⟩
        · exact absurd (far.2.symm.trans (near a anchored)) (by decide)
      · exact h
    dsimp only
    generalize (if d.trackState = 2 ∧ f64Lt (f64OfInt ((652 * d.cellLen : Nat) : Int)) (d.travelled t a.2) = true then
      d.wr TRACK_STATUS_STATE 3 else d) = e at locked ⊢
    split
    · split
      · exact locked.markZone
      · exact (locked.markZone.putTrack.wr (by decide)).fault
    · exact locked

/-- The instant asked for decides ν by the tachometer's stamps and the free value alone. -/
theorem Dev.nu_congr (tach : e.track.tach = d.track.tach) (free : e.free = d.free) (t : Nat) : e.nu t = d.nu t := by
  simp only [Dev.nu, Dev.openValue, tach, free]

theorem Dev.travelled_congr (tach : e.track.tach = d.track.tach) (free : e.free = d.free) (um : e.rd TACH_UM = d.rd TACH_UM) (t : Nat) (from0 : F64) :
    e.travelled t from0 = d.travelled t from0 := by
  simp only [Dev.travelled, Dev.nu_congr tach free, Dev.rdF, um]

/-- The head point moved to where the tachometer puts it. -/
def Dev.headMoved (d : Dev) (t : Nat) : Dev :=
  let p := d.headAt t
  let e := (d.putTrack { d.track with head := p, seen := t }).wr POS_HEAD p
  (e.wr POS_BRIDGE ((d.putTrack { d.track with head := p, seen := t }).bridgeOf p)).wr TRACK_STATUS_ZONE_HEAD
    ((d.putTrack { d.track with head := p, seen := t }).segOf p / 16)

theorem Follows.headMoved {t : Nat} (h : Follows gs d0 d) : Follows gs d0 (d.headMoved t) :=
  (((h.putTrack).wr (by decide)).wr (by decide)).wr (by decide)

theorem Dev.near_headMoved {t : Nat} (near : d.near t) : (d.headMoved t).near t := by
  have moved : Frame [.track] [POS_HEAD, POS_BRIDGE, TRACK_STATUS_ZONE_HEAD] d (d.headMoved t) :=
    Frame.wr (by simp) (Frame.wr (by simp) (Frame.wr (by simp) ((Frame.putTrack_iff (by simp)).2 (Frame.refl _ _ _))))
  intro a anchored
  have cells : (d.headMoved t).cellLen = d.cellLen := moved.rd (by decide)
  rw [cells, Dev.travelled_congr (d := d) (e := d.headMoved t) rfl rfl (moved.rd (by decide))]
  exact near a anchored

/-- The rest of a moved head point: the bridged distance, the zone, the revolution and the bridge point's pass. -/
def Dev.headTaken (d : Dev) (t old p : Nat) : Dev :=
  let d := d.checkBridged t
  let d := if d.track.zone = some (d.segOf p / 16) then d else d.applyZone (d.segOf p / 16)
  let d := if d.wrapped old p then d.endRevolution else d
  if d.wrapped (d.bridgeOf old) (d.bridgeOf p) then d.passZero else d

theorem Follows.headTaken {t old p : Nat} (may : TRACK_STATUS_STATE ∈ gs ∨ d.near t) (h : Follows gs d0 d) : Follows gs d0 (d.headTaken t old p) := by
  have checked := h.checkBridged may
  unfold Dev.headTaken
  generalize d.checkBridged t = e at checked ⊢
  have zoned : Follows gs d0 (if e.track.zone = some (e.segOf p / 16) then e else e.applyZone (e.segOf p / 16)) := by
    split
    · exact checked
    · exact checked.applyZone
  dsimp only
  generalize (if e.track.zone = some (e.segOf p / 16) then e else e.applyZone (e.segOf p / 16)) = e at zoned ⊢
  have turned : Follows gs d0 (if e.wrapped old p then e.endRevolution else e) := by
    split
    · exact zoned.endRevolution
    · exact zoned
  generalize (if e.wrapped old p then e.endRevolution else e) = e at turned ⊢
  split
  · exact turned.passZero
  · exact turned

/-- The head point is followed: the channel may leave LOCKED, or the instant is near and not before the last. -/
theorem Dev.follows_followHead {t : Nat} (may : TRACK_STATUS_STATE ∈ gs ∨ (d.track.seen ≤ t ∧ d.near t)) : Follows gs d (d.followHead t) := by
  by_cases placed : d.placed = true
  · have run : d.followHead t = (d.headMoved (max t d.track.seen)).headTaken (max t d.track.seen) d.track.head (d.headAt (max t d.track.seen)) := by
      rw [Dev.followHead, if_neg (by simp [placed])]
      rfl
    rw [run]
    refine (Follows.refl gs d).headMoved.headTaken (may.imp_right fun near => Dev.near_headMoved ?_)
    rw [Nat.max_eq_left near.1]
    exact near.2
  · rw [Dev.followHead, if_pos (by simpa using placed)]
    exact Follows.refl gs d

/-! ### A frame's count -/

/-- Beside its queue, what decoding a frame needs of the channel stays: its stamps, and how far it was followed. -/
def SamePlace (d e : Dev) : Prop := e.track.queue = d.track.queue ∧ e.track.tach = d.track.tach ∧ e.track.seen = d.track.seen

theorem SamePlace.trans {a b c : Dev} (h : SamePlace a b) (k : SamePlace b c) : SamePlace a c := by
  obtain ⟨queue, tach, seen⟩ := h
  obtain ⟨queue', tach', seen'⟩ := k
  exact ⟨queue'.trans queue, tach'.trans tach, seen'.trans seen⟩

theorem Dev.samePlace_countFrame (d : Dev) (segs : List Nat) (good : Bool) : SamePlace d (d.countFrame segs good) := by
  unfold Dev.countFrame
  dsimp only
  split
  · exact ⟨rfl, rfl, rfl⟩
  · exact ⟨rfl, rfl, rfl⟩

theorem Frame.countFrame {segs : List Nat} {good : Bool} (hu : Part.track ∈ us) (h : Frame us fs d0 d) : Frame us fs d0 (d.countFrame segs good) := by
  unfold Dev.countFrame
  dsimp only
  split
  · exact (Frame.putTrack_iff hu).2 h
  · exact (Frame.putTrack_iff hu).2 h

theorem Frame.heavyFrame {segs : List Nat} (hu : Part.track ∈ us) (hf : FRAME_HEAVY ∈ fs) (h : Frame us fs d0 d) : Frame us fs d0 (d.heavyFrame segs) :=
  (Frame.putTrack_iff hu).2 (h.inc hf)

/-- An accepted frame counted. -/
def Dev.frameCounted (d : Dev) (segs : List Nat) (heavy : Bool) : Dev :=
  let d := (d.inc FRAME_OK).countFrame segs true
  if heavy then d.heavyFrame segs else d

theorem Frame.frameCounted {segs : List Nat} {heavy : Bool} (hu : Part.track ∈ us) (hf : [FRAME_OK, FRAME_HEAVY] ⊆ fs) (h : Frame us fs d0 d) :
    Frame us fs d0 (d.frameCounted segs heavy) := by
  have counted := Frame.countFrame (segs := segs) (good := true) hu (h.inc (hf (by simp : FRAME_OK ∈ _)))
  unfold Dev.frameCounted
  dsimp only
  split
  · exact counted.heavyFrame hu (hf (by simp))
  · exact counted

theorem Dev.frameCounted_shows (d : Dev) (segs : List Nat) (heavy : Bool) :
    SamePlace d (d.frameCounted segs heavy) ∧ (d.frameCounted segs heavy).rd FRAME_OK = (d.inc FRAME_OK).rd FRAME_OK := by
  have counted : SamePlace d ((d.inc FRAME_OK).countFrame segs true) := Dev.samePlace_countFrame (d.inc FRAME_OK) segs true
  have count : ((d.inc FRAME_OK).countFrame segs true).rd FRAME_OK = (d.inc FRAME_OK).rd FRAME_OK :=
    (Frame.countFrame (us := [.track]) (fs := []) (by simp) (Frame.refl _ _ _)).rd (by simp)
  unfold Dev.frameCounted
  dsimp only
  split
  · exact ⟨counted.trans ⟨rfl, rfl, rfl⟩, (Dev.rd_inc_key (f := FRAME_HEAVY) _ (by decide)).trans count⟩
  · exact ⟨counted, count⟩

theorem Dev.failFrame_samePlace (d : Dev) (c : Collected) (code : Nat) : SamePlace d (d.failFrame c code) := by
  have kept := (Frame.report (fun _ h => h) (fun _ h => h) (Frame.refl faultParts faultFlds
    (((d.inc FRAME_FAIL).heavyFrame (d.segsOfFrame c)).countFrame (d.segsOfFrame c) false)) (code := code)).parts .track (by decide)
  have counted := Dev.samePlace_countFrame ((d.inc FRAME_FAIL).heavyFrame (d.segsOfFrame c)) (d.segsOfFrame c) false
  exact SamePlace.trans (b := ((d.inc FRAME_FAIL).heavyFrame (d.segsOfFrame c)).countFrame (d.segsOfFrame c) false) counted
    ⟨congrArg TrackSt.queue kept, congrArg TrackSt.tach kept, congrArg TrackSt.seen kept⟩

/-! ### An accepted frame in ACQUIRE -/

/-- The channel LOCKED at the place its first frame names. -/
def Dev.locked (d : Dev) (pos t : Nat) : Dev :=
  (d.putTrack { d.track with anchor := some (pos, d.nu t), drRep := false, head := pos }).wr TRACK_STATUS_STATE 2

theorem Dev.anchorFrame_of_acquiring {pos t : Nat} (acquiring : d.trackState = 1) :
    d.anchorFrame pos t = (d.locked pos t).followHead ((d.locked pos t).ext * 65536) := by
  have still : (if d.placed = true then (d.checkBridged (d.ext * 65536)).checkPosition pos t else d) = d := if_neg (by simp [Dev.placed, acquiring])
  unfold Dev.anchorFrame
  rw [still]
  exact congrArg (fun e : Dev => e.followHead (e.ext * 65536)) (if_pos acquiring)

theorem Dev.acceptFrame_of_acquiring {c : Collected} {pos pass erased : Nat} (acquiring : d.trackState = 1) :
    ∃ segs heavy, d.acceptFrame c pos pass erased =
      ((d.frameCounted segs heavy).locked pos c.start).followHead (((d.frameCounted segs heavy).locked pos c.start).ext * 65536) := by
  refine ⟨d.frameSegs pos (if c.split.isSome then d.splitOf pos else none), d.heavyAccepted c pass erased, ?_⟩
  have state : (d.frameCounted (d.frameSegs pos (if c.split.isSome then d.splitOf pos else none)) (d.heavyAccepted c pass erased)).trackState = 1 :=
    ((Frame.frameCounted (us := [.track]) (by simp) (fun _ h => h) (Frame.refl _ _ _)).rd (by decide)).trans acquiring
  have eq : d.acceptFrame c pos pass erased =
      if (d.frameCounted (d.frameSegs pos (if c.split.isSome then d.splitOf pos else none)) (d.heavyAccepted c pass erased)).trackState = 5 ∨
        (d.frameCounted (d.frameSegs pos (if c.split.isSome then d.splitOf pos else none)) (d.heavyAccepted c pass erased)).trackState = 0 then
        d.frameCounted (d.frameSegs pos (if c.split.isSome then d.splitOf pos else none)) (d.heavyAccepted c pass erased)
      else (d.frameCounted (d.frameSegs pos (if c.split.isSome then d.splitOf pos else none)) (d.heavyAccepted c pass erased)).anchorFrame pos c.start := rfl
  rw [eq]
  generalize d.frameCounted (d.frameSegs pos (if c.split.isSome then d.splitOf pos else none)) (d.heavyAccepted c pass erased) = e at state ⊢
  rw [if_neg (by omega), Dev.anchorFrame_of_acquiring state]

/-! ### The decision -/

/-- What following the head point leaves of the channel. -/
theorem followFlds_apart : ∀ g ∈ [FRAME_OK, FRAME_FAIL, TRACK_STATUS_STATE], ∀ f ∈ followFlds, g.key ≠ f.key := by
  have low : ∀ g ∈ [FRAME_OK, FRAME_FAIL, TRACK_STATUS_STATE], g.key < (WEAK_MAP_SEG 0).key := by decide
  intro g hg f hf
  simp only [followFlds, List.mem_append] at hf
  rcases hf with (((hf | hf) | hf) | (hf | hf)) | hf
  · revert g f
    decide
  · obtain ⟨w, -, rfl⟩ := List.mem_map.1 hf
    have := low g hg
    simp only [WEAK_MAP_SEG] at this ⊢
    omega
  · obtain ⟨w, -, rfl⟩ := List.mem_map.1 hf
    have := low g hg
    simp only [WEAK_MAP_SEG, WEAK_MAP_VALID] at this ⊢
    omega
  · revert g f
    decide
  · revert g f
    decide
  · revert g f
    decide

/-- A frame accepted in ACQUIRE. -/
theorem Dev.acceptFrame_shows {c : Collected} {pos pass erased : Nat} (acquiring : d.trackState = 1) (room : d.rd FRAME_OK < 2 ^ 32 - 1) :
    (d.acceptFrame c pos pass erased).track.queue = d.track.queue ∧ (d.acceptFrame c pos pass erased).rd FRAME_OK = d.rd FRAME_OK + 1 ∧
      (d.acceptFrame c pos pass erased).rd FRAME_FAIL = d.rd FRAME_FAIL ∧
      (d.track.seen ≤ d.ext * 65536 →
        f64Lt (f64OfInt ((652 * d.cellLen : Nat) : Int)) (d.travelled (d.ext * 65536) (d.nu c.start)) = false →
        (d.acceptFrame c pos pass erased).rd TRACK_STATUS_STATE = 2) := by
  obtain ⟨segs, heavy, run⟩ := Dev.acceptFrame_of_acquiring (c := c) (pos := pos) (pass := pass) (erased := erased) acquiring
  obtain ⟨⟨queue, tach, seen⟩, count⟩ := d.frameCounted_shows segs heavy
  have counted : Frame [.track] [FRAME_OK, FRAME_HEAVY] d (d.frameCounted segs heavy) :=
    Frame.frameCounted (by simp) (fun _ h => h) (Frame.refl _ _ _)
  have locked : Frame [.track] [FRAME_OK, FRAME_HEAVY, TRACK_STATUS_STATE] d ((d.frameCounted segs heavy).locked pos c.start) :=
    Frame.wr (by simp) ((Frame.putTrack_iff (by simp)).2 (counted.mono (fun _ h => h) (by simp)))
  have ext : ((d.frameCounted segs heavy).locked pos c.start).ext = d.ext := by
    rw [Dev.ext, Dev.ext, Dev.coarse, Dev.coarse, locked.is (by decide), locked.rd (by decide), show _ = d.time from locked.parts .time (by decide)]
  have um : ((d.frameCounted segs heavy).locked pos c.start).rd TACH_UM = d.rd TACH_UM := locked.rd (by decide)
  have cells : ((d.frameCounted segs heavy).locked pos c.start).cellLen = d.cellLen := locked.rd (by decide)
  have free : (d.frameCounted segs heavy).free = d.free := counted.parts .free (by decide)
  have ok : ((d.frameCounted segs heavy).locked pos c.start).rd FRAME_OK = d.rd FRAME_OK + 1 :=
    (Dev.rd_wr_key _ _ (by decide)).trans (count.trans (Dev.rd_inc_below d room))
  have two : ((d.frameCounted segs heavy).locked pos c.start).rd TRACK_STATUS_STATE = 2 := Dev.rd_wr_same _ TRACK_STATUS_STATE 2
  have nu (t : Nat) : (d.frameCounted segs heavy).nu t = d.nu t := Dev.nu_congr tach free t
  have travelled (t : Nat) (x : F64) : ((d.frameCounted segs heavy).locked pos c.start).travelled t x = d.travelled t x :=
    Dev.travelled_congr (e := (d.frameCounted segs heavy).locked pos c.start) tach free um t x
  have apart : ∀ g ∈ [FRAME_OK, FRAME_FAIL], ∀ f ∈ [TRACK_STATUS_STATE] ++ followFlds, g.key ≠ f.key := by
    intro g hg f hf
    rcases List.mem_append.1 hf with state | other
    · exact (by decide : ∀ g ∈ [FRAME_OK, FRAME_FAIL], ∀ f ∈ [TRACK_STATUS_STATE], g.key ≠ f.key) g hg f state
    · exact followFlds_apart g ((by simp : [FRAME_OK, FRAME_FAIL] ⊆ [FRAME_OK, FRAME_FAIL, TRACK_STATUS_STATE]) hg) f other
  have followed : Follows [TRACK_STATUS_STATE] ((d.frameCounted segs heavy).locked pos c.start)
      (((d.frameCounted segs heavy).locked pos c.start).followHead (((d.frameCounted segs heavy).locked pos c.start).ext * 65536)) :=
    Dev.follows_followHead (.inl (by simp))
  rw [run]
  refine ⟨followed.2.trans queue, (followed.1.rd (apart _ (by simp))).trans ok,
    (followed.1.rd (apart _ (by simp))).trans (locked.rd (by decide)), fun later near => ?_⟩
  have stays : Follows [] ((d.frameCounted segs heavy).locked pos c.start)
      (((d.frameCounted segs heavy).locked pos c.start).followHead (((d.frameCounted segs heavy).locked pos c.start).ext * 65536)) := by
    refine Dev.follows_followHead (.inr ⟨?_, fun a anchored => ?_⟩)
    · rw [ext]
      exact seen.trans_le later
    · obtain rfl : (pos, (d.frameCounted segs heavy).nu c.start) = a := Option.some.inj anchored
      rw [cells, travelled, ext]
      dsimp only
      rw [nu]
      exact near
  exact (stays.1.rd (followFlds_apart _ (by simp))).trans two

theorem Dev.pruneDrops_follows (d : Dev) : Frame [.track] [] d d.pruneDrops ∧ d.pruneDrops.track.queue = d.track.queue := by
  unfold Dev.pruneDrops
  dsimp only
  split
  · exact ⟨Frame.refl _ _ _, rfl⟩
  · exact ⟨(Frame.putTrack_iff (by simp)).2 (Frame.refl _ _ _), rfl⟩

/-- The device with the frame at the head of the queue taken. -/
def Dev.frameTaken (d : Dev) (rest : List FrameWait) : Dev := d.putTrack { d.track with queue := rest }

theorem Dev.frameDecode_eq {w : FrameWait} {rest : List FrameWait} (alive : d.alive) (on : d.rd TRACK_CFG_EN = 1) (head : d.track.queue = w :: rest)
    (early : d.ext * 65536 ≤ w.deadline) :
    ∃ erased, d.frameDecode = ((d.frameTaken rest).judgeFrame w.frame erased
      (outerPasses (d.rd TRACK_DETECT_SIGMA) w.cell (w.observed d.track.drops) 6 1 [])).pruneDrops := by
  refine ⟨((w.observed d.track.drops).filter Option.isNone).length, ?_⟩
  have enabled : d.is TRACK_CFG_EN = true := Dev.is_of_ne_zero (by omega)
  have ext : (d.frameTaken rest).ext = d.ext := rfl
  have eq : d.frameDecode = if !d.alive || !d.is TRACK_CFG_EN then d
      else if w.deadline < (d.frameTaken rest).ext * 65536 then ((d.frameTaken rest).lateFrame w.frame).pruneDrops
      else ((d.frameTaken rest).judgeFrame w.frame ((w.observed d.track.drops).filter Option.isNone).length
        (outerPasses (d.rd TRACK_DETECT_SIGMA) w.cell (w.observed d.track.drops) 6 1 [])).pruneDrops := by
    unfold Dev.frameDecode
    simp only [head]
    rfl
  rw [eq, if_neg (by simp [alive, enabled]), if_neg (by rw [ext]; exact Nat.not_lt.2 early)]

/-- A frame that fails: counted, and recorded with its code. -/
theorem Dev.failFrame_shows (d : Dev) (c : Collected) {code : Nat} (small : code < 2 ^ 16) (room : d.rd FRAME_FAIL < 2 ^ 32 - 1) :
    (d.failFrame c code).track.queue = d.track.queue ∧ (d.failFrame c code).rd FRAME_FAIL = d.rd FRAME_FAIL + 1 ∧
      (d.failFrame c code).rd FAULT_STATUS_LAST_CODE = code ∧ Frame (.track :: faultParts) cutFrameFlds d (d.failFrame c code) := by
  obtain ⟨queue, -, -⟩ := d.failFrame_samePlace c code
  refine ⟨queue, (d.rd_failFrame_count c code).trans (Dev.rd_inc_below d room), ?_, Frame.failFrame (fun _ h => h) (fun _ h => h) (Frame.refl _ _ _)⟩
  exact (Dev.rd_lastCode_report _ _).trans (Nat.mod_eq_of_lt small)

/-- Does the decoder's result stand for an accepted frame (R214)? -/
def Dev.accepts (d : Dev) (found : Option (List Bool × Nat)) : Bool :=
  match found with
  | none => false
  | some (bits, _) => codeField bits 40 8 == d.rd TRACK_CFG_BELT_ID && decide (codeField bits 0 40 < d.rd BELT_LEN) &&
      codeField bits 48 8 == d.segOf (codeField bits 0 40) / 16

theorem Dev.judgeFrame_accepts {c : Collected} {erased : Nat} {found : Option (List Bool × Nat)} (good : d.accepts found = true) :
    ∃ pos pass, d.judgeFrame c erased found = d.acceptFrame c pos pass erased := by
  match found with
  | none => exact absurd good (by simp [Dev.accepts])
  | some (bits, pass) => exact ⟨codeField bits 0 40, pass, if_pos good⟩

theorem Dev.judgeFrame_rejects {c : Collected} {erased : Nat} {found : Option (List Bool × Nat)} (bad : d.accepts found = false) :
    d.judgeFrame c erased found = d.failFrame c (if found = none then 0x0701 else 0x0703) := by
  match found with
  | none => rfl
  | some (bits, pass) => exact (if_neg (Bool.eq_false_iff.1 bad)).trans (by rw [if_neg (by simp)])

/-- A late frame. -/
theorem Dev.lateFrame_shows (d : Dev) (c : Collected) (late : d.rd FRAME_LATE < 2 ^ 32 - 1) (heavy : d.rd FRAME_HEAVY < 2 ^ 32 - 1) :
    (d.lateFrame c).track.queue = d.track.queue ∧ (d.lateFrame c).rd FRAME_LATE = d.rd FRAME_LATE + 1 ∧
      (d.lateFrame c).rd FRAME_HEAVY = d.rd FRAME_HEAVY + 1 ∧ (d.lateFrame c).rd FAULT_STATUS_LAST_CODE = 0x0702 ∧
      Frame ([Part.track] ++ faultParts) ([FRAME_LATE, FRAME_HEAVY] ++ faultFlds) d (d.lateFrame c) := by
  have counted : Frame [.track] [] ((d.inc FRAME_LATE).inc FRAME_HEAVY) (((d.inc FRAME_LATE).heavyFrame (d.segsOfFrame c)).countFrame (d.segsOfFrame c) false) :=
    Frame.countFrame (by simp) ((Frame.putTrack_iff (by simp)).2 (Frame.refl _ _ _))
  have queue : (((d.inc FRAME_LATE).heavyFrame (d.segsOfFrame c)).countFrame (d.segsOfFrame c) false).track.queue = d.track.queue :=
    (Dev.samePlace_countFrame ((d.inc FRAME_LATE).heavyFrame (d.segsOfFrame c)) (d.segsOfFrame c) false).1
  have told : Frame faultParts faultFlds (((d.inc FRAME_LATE).heavyFrame (d.segsOfFrame c)).countFrame (d.segsOfFrame c) false) (d.lateFrame c) :=
    Frame.fault_none (fun _ h => h) (fun _ h => h) (Frame.refl _ _ _)
  have before : (d.inc FRAME_LATE).rd FRAME_HEAVY = d.rd FRAME_HEAVY := Dev.rd_inc_key d (by decide)
  refine ⟨(congrArg TrackSt.queue (told.parts .track (by decide))).trans queue, ?_, ?_, Dev.rd_lastCode_fault_none _ _ _ _, ?_⟩
  · rw [told.rd (by decide), counted.rd (by simp), Dev.rd_inc_key _ (by decide)]
    exact Dev.rd_inc_below d late
  · rw [told.rd (by decide), counted.rd (by simp), Dev.rd_inc_below _ (by rw [before]; exact heavy), before]
  · have incs : Frame [] [FRAME_LATE, FRAME_HEAVY] d ((d.inc FRAME_LATE).inc FRAME_HEAVY) := Frame.inc (by simp) (Frame.inc (by simp) (Frame.refl _ _ _))
    exact ((incs.mono (by simp) (by simp)).trans (counted.mono (by simp) (by simp))).trans (told.mono (by simp) (by simp))

theorem Dev.frameLate_eq {w : FrameWait} {rest : List FrameWait} (alive : d.alive) (head : d.track.queue = w :: rest)
    (late : w.deadline ≤ d.ext * 65536) : d.frameLate = ((d.frameTaken rest).lateFrame w.frame).pruneDrops := by
  have eq : d.frameLate = if d.alive && decide (w.deadline ≤ d.ext * 65536) then ((d.frameTaken rest).lateFrame w.frame).pruneDrops else d := by
    unfold Dev.frameLate
    simp only [head]
    rfl
  rw [eq, if_pos (by simp [alive, late])]

/-- Settles O32: the decoder's result and the checks of R214 decide; in ACQUIRE an accepted frame gives LOCKED unless it is already too far. -/
theorem frameIsDecodedOrLate : Obligations.FrameIsDecodedOrLate := by
  unfold Obligations.FrameIsDecodedOrLate
  refine ⟨fun s w rest found good alive on acquiring head early finds judges okRoom failRoom => ?_,
    fun s w rest alive head late lateRoom heavyRoom => ?_⟩
  · refine Does.of_onDev (f := fun d => Dev.frameDecode (d.readState 2 [])) rfl rfl ?_
    simp only [Dev.readState_nil]
    obtain ⟨erased, run⟩ := Dev.frameDecode_eq alive on head early
    rw [← finds] at run
    obtain ⟨pruned, queue⟩ := Dev.pruneDrops_follows ((s.dev.frameTaken rest).judgeFrame w.frame erased found)
    replace judges : good = (s.dev.frameTaken rest).accepts found := judges
    rw [run]
    by_cases accepted : (s.dev.frameTaken rest).accepts found = true
    · obtain ⟨pos, pass, decided⟩ := Dev.judgeFrame_accepts (c := w.frame) (erased := erased) accepted
      obtain ⟨left, ok, fail, state⟩ := Dev.acceptFrame_shows (d := s.dev.frameTaken rest) (c := w.frame) (pos := pos) (pass := pass) (erased := erased)
        acquiring okRoom
      rw [decided] at pruned queue ⊢
      rw [judges, accepted]
      exact ⟨queue.trans left, (pruned.rd (by simp)).trans ok, (pruned.rd (by simp)).trans fail, fun bad => absurd bad (by simp),
        fun _ later near => (pruned.rd (by simp)).trans (state later near)⟩
    · obtain ⟨left, fail, code, kept⟩ := (s.dev.frameTaken rest).failFrame_shows w.frame (code := if found = none then 0x0701 else 0x0703)
        (by split <;> decide) failRoom
      have rejected := Bool.eq_false_iff.2 accepted
      rw [Dev.judgeFrame_rejects rejected] at pruned queue ⊢
      rw [judges, rejected]
      refine ⟨queue.trans left, ?_, (pruned.rd (by simp)).trans fail, fun _ => ⟨?_, (pruned.rd (by simp)).trans code, ?_⟩, fun good => absurd good (by simp)⟩
      · exact (pruned.rd (by simp)).trans (kept.rd (by decide))
      · exact (pruned.rd (by simp)).trans ((kept.rd (by decide)).trans acquiring)
      · have taken : Frame [.track] [] s.dev (s.dev.frameTaken rest) := (Frame.putTrack_iff (by simp)).2 (Frame.refl _ _ _)
        exact ((taken.mono (by simp) (by simp)).trans kept).trans (pruned.mono (by simp) (by simp))
  · refine Does.of_onDev rfl rfl ?_
    obtain ⟨left, count, heavy, code, kept⟩ := (s.dev.frameTaken rest).lateFrame_shows w.frame lateRoom heavyRoom
    obtain ⟨pruned, queue⟩ := Dev.pruneDrops_follows ((s.dev.frameTaken rest).lateFrame w.frame)
    have taken : Frame [.track] [] s.dev (s.dev.frameTaken rest) := (Frame.putTrack_iff (by simp)).2 (Frame.refl _ _ _)
    rw [Dev.frameLate_eq alive head late]
    exact ⟨queue.trans left, (pruned.rd (by simp)).trans count, (pruned.rd (by simp)).trans heavy, (pruned.rd (by simp)).trans code,
      ((taken.mono (by simp) (by simp)).trans kept).trans (pruned.mono (by simp) (by simp))⟩

end Sys2Proof.Machine
end

/-! PROOFS: the lanes of a link port train, fail and retrain. -/
section

namespace Sys2Proof.Machine

open Reg

variable {us : List Part} {fs : List Fld} {d0 d : Dev} {p l : Nat}

/-! ### Where a lane's fields lie -/

theorem laneState_key (hl : l < 2) : (laneState p l).key = 1187844 + 2048 * p + 4 * l := by
  unfold laneState
  split <;> simp only [LINK_STATE_LANE_STATE_0, LINK_STATE_LANE_STATE_1] <;> omega

theorem laneFails_key (hl : l < 2) : (laneFails p l).key = 1187852 + 2048 * p + 2 * l := by
  unfold laneFails
  split <;> simp only [LINK_STATE_FAILS_0, LINK_STATE_FAILS_1] <;> omega

theorem laneErrors_key (hl : l < 2) : (laneErrors p l).key = 1188480 + 2048 * p + 16 * l := by
  unfold laneErrors
  split <;> simp only [LINK_CODE_ERR_CODE_ERR_0, LINK_CODE_ERR_CODE_ERR_1] <;> omega

theorem Dev.rd_laneState_wr (d : Dev) (p l : Nat) {v : Nat} (small : v < 8) : (d.wr (laneState p l) v).rd (laneState p l) = v := by
  have width : (laneState p l).width = 3 := by
    unfold laneState
    split <;> rfl
  rw [Dev.rd_wr_same, width]
  exact Nat.mod_eq_of_lt small

theorem Dev.rd_laneFails_zero (d : Dev) (p l : Nat) : (d.wr (laneFails p l) 0).rd (laneFails p l) = 0 := by
  rw [Dev.rd_wr_same, Nat.zero_mod]

/-! ### A port's shown state -/

theorem PortSt.run_putRun (x : PortSt) (l n : Nat) : (x.putRun l n).run l = n := by
  unfold PortSt.run PortSt.putRun
  split <;> rfl

theorem PortSt.signal_putSignal (x : PortSt) (l : Nat) (b : Bool) : (x.putSignal l b).signal l = b := by
  unfold PortSt.signal PortSt.putSignal
  split <;> rfl

theorem Dev.rd_state_showPort (d : Dev) (p : Nat) :
    (d.showPort p).rd (LINK_STATE_STATE p) = portStateOf (d.rd (LINK_STATE_LANE_STATE_0 p)) (d.rd (LINK_STATE_LANE_STATE_1 p)) := by
  have small : portStateOf (d.rd (LINK_STATE_LANE_STATE_0 p)) (d.rd (LINK_STATE_LANE_STATE_1 p)) < 2 ^ 2 := by
    unfold portStateOf
    repeat' split
    all_goals decide
  exact (Dev.rd_wr_same _ (LINK_STATE_STATE p) _).trans (Nat.mod_eq_of_lt small)

theorem portStateOf_comm (a b : Nat) : portStateOf a b = portStateOf b a := by
  exact if_congr and_comm rfl (if_congr (by omega) rfl (if_congr and_comm rfl rfl))

/-- The state shown by a lane and the other one of its port. -/
theorem Dev.rd_state_showPort_lane (d : Dev) (hl : l < 2) :
    (d.showPort p).rd (LINK_STATE_STATE p) = portStateOf (d.rd (laneState p l)) (d.rd (laneState p (1 - l))) := by
  rw [Dev.rd_state_showPort]
  obtain rfl | rfl : l = 0 ∨ l = 1 := by omega
  · rfl
  · exact portStateOf_comm _ _

/-- Counting a run leaves what the port holds and queues. -/
theorem PortSt.putRun_keeps (x : PortSt) (l n : Nat) : (x.putRun l n).held = x.held ∧ (x.putRun l n).queue = x.queue := by
  unfold PortSt.putRun
  split
  · exact ⟨rfl, rfl⟩
  · exact ⟨rfl, rfl⟩

/-! ### A lane comes UP -/

/-- A lane UP, with the state of its port and the collection of its sampler. -/
def Dev.laneCame (d : Dev) (p l : Nat) : Dev := (((d.wr (laneState p l) 4).wr (laneFails p l) 0).showPort p).followOwner (16 + 2 * p + l)

theorem Dev.laneUp_eq (d : Dev) (p l : Nat) : d.laneUp p l = if !d.portUp p && (d.laneCame p l).portUp p then (d.laneCame p l).portCame p else d.laneCame p l := rfl

theorem Frame.laneCame (hf : [laneState p l, laneFails p l, LINK_STATE_STATE p, LINK_STATE_CLOCK_LANE p, TUNE_STATUS_MODE (16 + 2 * p + l)] ⊆ fs)
    (h : Frame us fs d0 d) : Frame us fs d0 (d.laneCame p l) :=
  Frame.followOwner (hf (by simp)) (Frame.showPort (List.Subset.trans (by simp) hf) ((h.wr (hf (by simp))).wr (hf (by simp))))

theorem Dev.laneCame_shows (d : Dev) (hl : l < 2) :
    (d.laneCame p l).rd (laneState p l) = 4 ∧ (d.laneCame p l).rd (laneFails p l) = 0 ∧
      (d.laneCame p l).rd (LINK_STATE_STATE p) = portStateOf 4 (d.rd (laneState p (1 - l))) := by
  have state : (laneState p l).key = _ := laneState_key hl
  have other : (laneState p (1 - l)).key = _ := laneState_key (by omega)
  have fails : (laneFails p l).key = _ := laneFails_key hl
  have lane : ((d.wr (laneState p l) 4).wr (laneFails p l) 0).rd (laneState p l) = 4 := by
    rw [Dev.rd_wr_key _ _ (by omega), Dev.rd_laneState_wr _ _ _ (by decide)]
  have rest : ((d.wr (laneState p l) 4).wr (laneFails p l) 0).rd (laneState p (1 - l)) = d.rd (laneState p (1 - l)) := by
    rw [Dev.rd_wr_key _ _ (by omega), Dev.rd_wr_key _ _ (by omega)]
  have shown : Frame [] [LINK_STATE_CLOCK_LANE p, LINK_STATE_STATE p] ((d.wr (laneState p l) 4).wr (laneFails p l) 0)
      (((d.wr (laneState p l) 4).wr (laneFails p l) 0).showPort p) := Frame.showPort (fun _ h => h) (Frame.refl _ _ _)
  have followed : Frame [] [TUNE_STATUS_MODE (16 + 2 * p + l)] (((d.wr (laneState p l) 4).wr (laneFails p l) 0).showPort p) (d.laneCame p l) :=
    Frame.followOwner (by simp) (Frame.refl _ _ _)
  refine ⟨?_, ?_, ?_⟩
  · rw [followed.rd, shown.rd, lane]
    · simp only [List.forall_mem_cons, List.not_mem_nil, false_imp_iff, implies_true, and_true, LINK_STATE_CLOCK_LANE, LINK_STATE_STATE]
      omega
    · simp only [List.forall_mem_singleton, TUNE_STATUS_MODE]
      omega
  · rw [followed.rd, shown.rd]
    · exact Dev.rd_laneFails_zero _ _ _
    · simp only [List.forall_mem_cons, List.not_mem_nil, false_imp_iff, implies_true, and_true, LINK_STATE_CLOCK_LANE, LINK_STATE_STATE]
      omega
    · simp only [List.forall_mem_singleton, TUNE_STATUS_MODE]
      omega
  · rw [followed.rd, Dev.rd_state_showPort_lane _ hl, lane, rest]
    simp only [List.forall_mem_singleton, TUNE_STATUS_MODE, LINK_STATE_STATE]
    omega

/-- The port that has come UP, before it replays. -/
def Dev.portReady (d : Dev) (p : Nat) : PortSt :=
  { d.port p with
    attempt := false, tried := (d.port p).tried && d.rd (LINK_STATE_STATE p) == 3, held := (d.port p).held.map (fun h => { h with sends := 0 }) }

/-- A port that comes UP with nothing held or queued has nothing to send. -/
theorem Dev.portCame_of_empty (held : (d.port p).held = []) (queue : (d.port p).queue = []) : d.portCame p = d.putPort p (d.portReady p) := by
  have none : (d.portReady p).held = [] := by
    rw [Dev.portReady, held]
    rfl
  have still : (d.putPort p (d.portReady p)).replayFrom p 0 = d.putPort p (d.portReady p) := by
    rw [Dev.replayFrom]
    exact if_pos (by rw [Dev.port_putPort_same, none]; rfl)
  have eq : d.portCame p = Dev.flushPort p (((d.putPort p (d.portReady p)).replayFrom p 0).port p).queue ((d.putPort p (d.portReady p)).replayFrom p 0) := rfl
  have idle : (d.portReady p).queue = [] := queue
  rw [eq, still, Dev.port_putPort_same, idle, Dev.flushPort]

/-! ### A training set -/

/-- A set that agrees is one more in the run; the sixteenth takes the lane on. -/
theorem Dev.trainingSet_eq {codes : List Nat} {sent : Nat} {desk : Bool} {st : Nat} (trains : d.trains p = true) (state : d.rd (laneState p l) = st)
    (training : st = 2 ∨ st = 3) :
    d.trainingSet p l codes sent desk =
      let n := if d.setAgrees l codes && (st == 2 || isTs2 codes) then (d.port p).run l + 1 else 0
      if n < 16 ∨ (st = 3 ∧ !d.confirmed p l sent desk) then d.putPort p ((d.port p).putRun l n)
      else if st = 2 then (d.putPort p ((d.port p).putRun l 0)).wr (laneState p l) 3 else (d.putPort p ((d.port p).putRun l 0)).laneUp p l := by
  rw [Dev.trainingSet, state]
  exact if_neg (by rcases training with rfl | rfl <;> simp [trains])

theorem Dev.run_putPort_putRun (d : Dev) (p l n : Nat) : ((d.putPort p ((d.port p).putRun l n)).port p).run l = n := by
  rw [Dev.port_putPort_same, PortSt.run_putRun]

/-- What a lane's fields keep while its run is counted. -/
theorem Dev.rd_laneState_putPort (d : Dev) (m : Nat) (x : PortSt) (hm : m < 2) : (d.putPort p x).rd (laneState p m) = d.rd (laneState p m) := by
  have key : (laneState p m).key = _ := laneState_key hm
  exact Dev.rd_putPort_other _ (by simp only [LINK_STATE_REPLAY_FILL]; omega)

/-- A lane that comes UP beside its UP partner takes its port UP. -/
theorem Dev.laneUp_of_partner (hl : l < 2) (partner : d.rd (laneState p (1 - l)) = 4) (down : d.portUp p = false) (held : (d.port p).held = [])
    (queue : (d.port p).queue = []) : d.laneUp p l = (d.laneCame p l).putPort p ((d.laneCame p l).portReady p) := by
  obtain ⟨-, -, state⟩ := d.laneCame_shows (p := p) hl
  have up : (d.laneCame p l).portUp p = true := by
    rw [Dev.portUp, state, partner]
    rfl
  have port : (d.laneCame p l).port p = d.port p :=
    congrArg (fun c : ChoirSt => Tab.read PortSt.fresh c.ports p)
      ((Frame.laneCame (us := []) (fun _ h => h) (Frame.refl _ _ d)).parts .choir (by decide))
  rw [Dev.laneUp_eq, if_pos (by rw [down, up]; rfl), Dev.portCame_of_empty (by rw [port]; exact held) (by rw [port]; exact queue)]

/-- A lane that comes UP beside one in DETECT leaves its port in training. -/
theorem Dev.laneUp_of_alone (hl : l < 2) (partner : d.rd (laneState p (1 - l)) = 0) : d.laneUp p l = d.laneCame p l := by
  obtain ⟨-, -, state⟩ := d.laneCame_shows (p := p) hl
  have training : (d.laneCame p l).portUp p = false := by
    rw [Dev.portUp, state, partner]
    rfl
  rw [Dev.laneUp_eq, if_neg (by rw [training]; simp)]

/-! ### A failed attempt -/

/-- A field written with the value it has changes no field. -/
theorem Dev.rd_wr_self (d : Dev) {f : Fld} {v : Nat} (same : d.rd f = v) (small : v < 2 ^ f.width) (g : Fld) : (d.wr f v).rd g = d.rd g := by
  by_cases here : g.key = f.key ∧ g.cls = f.cls
  · obtain ⟨key, cls⟩ := here
    have cell : Store.read (d.regs.table f.cls) f.key = v ^^^ f.reset := by
      rw [← same]
      show _ = (Store.read (d.regs.table f.cls) f.key ^^^ f.reset) ^^^ f.reset
      rw [Nat.xor_assoc, Nat.xor_self, Nat.xor_zero]
    show fieldRead ((d.regs.setTable f.cls (fieldWrite (d.regs.table f.cls) f v)).table g.cls) g = fieldRead (d.regs.table g.cls) g
    rw [cls, RegFile.table_setTable_same, fieldRead, fieldRead, fieldWrite, key, Store.read_write_same, Nat.mod_eq_of_lt small, cell]
  · refine Dev.rd_wr_other d v ?_
    by_cases key : g.key = f.key
    · exact .inr fun cls => here ⟨key, cls⟩
    · exact .inl key

theorem Frame.wr_self {f : Fld} {v : Nat} (same : d.rd f = v) (small : v < 2 ^ f.width) (h : Frame us fs d0 d) : Frame us fs d0 (d.wr f v) :=
  ⟨h.parts, fun g hg => (d.rd_wr_self same small g).trans (h.regs g hg)⟩

/-- A lane's failed attempt counted and recorded. -/
def Dev.failRecorded (d : Dev) (p l : Nat) : Dev := (d.inc (laneFails p l)).fault 0x0801 transient [laneSource p l]

/-- The fields of a lane's failed attempt. -/
def failFlds (p l : Nat) : List Fld := laneFails p l :: strikeFlds (laneSource p l)

theorem Dev.bears_inc {src : Nat} {f : Fld} (h : d.bears src) (low : f.key < 1200000) (limit : STRIKE_CFG_RETIRE.key ≠ f.key) : (d.inc f).bears src :=
  Dev.bears_wr h (by simp only [STRIKE_RETIRED]; omega) (by simp only [STRIKE_PROBATION]; omega) (by simp only [STRIKE_STRIKES]; omega)
    limit

theorem Dev.failRecorded_shows (hp : p < 2) (hl : l < 2) (bears : d.bears (laneSource p l)) (few : d.rd (laneFails p l) < 2) :
    (d.failRecorded p l).rd (laneFails p l) = d.rd (laneFails p l) + 1 ∧ (d.failRecorded p l).rd FAULT_STATUS_LAST_CODE = 0x0801 ∧
      Frame faultParts (failFlds p l) d (d.failRecorded p l) := by
  have key : (laneFails p l).key = _ := laneFails_key hl
  have low : (laneFails p l).key < 1200000 := by omega
  have bears' : (d.inc (laneFails p l)).bears (laneSource p l) := Dev.bears_inc bears low (by rw [key]; simp only [STRIKE_CFG_RETIRE]; omega)
  have charged : Frame faultParts (strikeFlds (laneSource p l)) (d.inc (laneFails p l)) (d.failRecorded p l) :=
    Frame.fault_bears bears' (fun _ h => h) (fun _ h => h) (Frame.refl _ _ _)
  have width : (laneFails p l).width = 2 := by
    unfold laneFails
    split <;> rfl
  refine ⟨?_, Dev.rd_lastCode_fault_bears bears' _ _, ?_⟩
  · rw [charged.rd (link_apart_strikes _ low), Dev.rd_inc_below _ (by rw [width]; omega)]
  · exact (Frame.inc (by simp [failFlds]) (Frame.refl _ _ _)).trans (charged.mono (fun _ h => h) (List.subset_cons_self _ _))

theorem Dev.laneFailed_of_signal (hp : p < 2) (hl : l < 2) (state : d.rd (laneState p l) = 1) (signal : (d.port p).signal l = true)
    (bears : d.bears (laneSource p l)) (few : d.rd (laneFails p l) < 2) :
    d.laneFailed p l = (d.failRecorded p l).putPort p { (d.failRecorded p l).port p with pause := true } := by
  have stays : d.isRetired (laneSource p l) = false := Dev.is_of_zero bears.1
  obtain ⟨count, -, -⟩ := Dev.failRecorded_shows hp hl bears few
  have key : (laneFails p l).key = _ := laneFails_key hl
  have kept : ((d.failRecorded p l).putPort p { (d.failRecorded p l).port p with pause := true }).rd (laneFails p l) = d.rd (laneFails p l) + 1 := by
    rw [Dev.rd_putPort_other _ (by simp only [LINK_STATE_REPLAY_FILL]; omega), count]
  unfold Dev.laneFailed
  rw [if_neg (by omega), if_neg (by simp [stays]), if_neg (by simp [signal])]
  exact if_neg fun three => absurd (kept.symm.trans three) (by omega)

theorem Dev.laneFailed_of_silent (state : d.rd (laneState p l) = 0) (active : d.rd (STRIKE_RETIRED (laneSource p l)) = 0)
    (silent : (d.port p).signal l = false) : d.laneFailed p l = d := by
  have stays : d.isRetired (laneSource p l) = false := Dev.is_of_zero active
  rw [Dev.laneFailed, if_neg (by omega), if_neg (by simp [stays]), if_pos (by simp [silent])]

/-- The attempt over: both lanes in DETECT. -/
def Dev.attemptOver (d : Dev) (p : Nat) : Dev :=
  (d.lanesDown p).putPort p { (d.lanesDown p).port p with attempt := false, sig0 := false, sig1 := false, count0 := 0, count1 := 0 }

theorem Dev.attemptOver_lanes (d : Dev) (p : Nat) :
    (d.attemptOver p).rd (LINK_STATE_LANE_STATE_0 p) = 0 ∧ (d.attemptOver p).rd (LINK_STATE_LANE_STATE_1 p) = 0 := by
  constructor
  · rw [Dev.attemptOver, Dev.rd_putPort_other _ (by simp only [LINK_STATE_LANE_STATE_0, LINK_STATE_REPLAY_FILL]; omega), Dev.lanesDown,
      Dev.rd_wr_key _ _ (by simp only [LINK_STATE_LANE_STATE_0, LINK_STATE_LANE_STATE_1]; omega)]
    exact Dev.rd_wr_same _ (LINK_STATE_LANE_STATE_0 p) 0
  · rw [Dev.attemptOver, Dev.rd_putPort_other _ (by simp only [LINK_STATE_LANE_STATE_1, LINK_STATE_REPLAY_FILL]; omega)]
    exact Dev.rd_wr_same _ (LINK_STATE_LANE_STATE_1 p) 0

/-- The port's state and its samplers' collections follow. -/
def Dev.portFollowed (d : Dev) (p : Nat) : Dev := ((d.showPort p).followOwner (16 + 2 * p)).followOwner (17 + 2 * p)

theorem Frame.portFollowed
    (hf : [LINK_STATE_STATE p, LINK_STATE_CLOCK_LANE p, TUNE_STATUS_MODE (16 + 2 * p), TUNE_STATUS_MODE (17 + 2 * p)] ⊆ fs) (h : Frame us fs d0 d) :
    Frame us fs d0 (d.portFollowed p) :=
  Frame.followOwner (hf (by simp)) (Frame.followOwner (hf (by simp)) (Frame.showPort (List.Subset.trans (by simp) hf) h))

theorem Dev.portFollowed_state (d : Dev) (p : Nat) :
    (d.portFollowed p).rd (LINK_STATE_STATE p) = portStateOf (d.rd (LINK_STATE_LANE_STATE_0 p)) (d.rd (LINK_STATE_LANE_STATE_1 p)) := by
  have followed : Frame [] [TUNE_STATUS_MODE (16 + 2 * p), TUNE_STATUS_MODE (17 + 2 * p)] (d.showPort p) (d.portFollowed p) :=
    Frame.followOwner (by simp) (Frame.followOwner (by simp) (Frame.refl _ _ _))
  rw [followed.rd, Dev.rd_state_showPort]
  simp only [List.forall_mem_cons, List.not_mem_nil, false_imp_iff, implies_true, and_true, TUNE_STATUS_MODE, LINK_STATE_STATE]
  omega

theorem Dev.trainingTimeout_eq {e : Dev} (alive : d.linkAlive = true) (attempt : (d.port p).attempt = true) (down : d.portUp p = false)
    (failed : d.each [0, 1] (Dev.laneFailed p) = e) (lane0 : e.rd (LINK_STATE_LANE_STATE_0 p) ≠ 4 ∧ e.rd (LINK_STATE_LANE_STATE_0 p) ≠ 5)
    (lane1 : e.rd (LINK_STATE_LANE_STATE_1 p) ≠ 4 ∧ e.rd (LINK_STATE_LANE_STATE_1 p) ≠ 5) :
    d.trainingTimeout p = (e.attemptOver p).portFollowed p := by
  have lanes : e.each [0, 1] (fun d l => if d.rd (laneState p l) = 4 ∨ d.rd (laneState p l) = 5 then d else d.wr (laneState p l) 0) = e.lanesDown p := by
    have lane1' : (e.wr (LINK_STATE_LANE_STATE_0 p) 0).rd (LINK_STATE_LANE_STATE_1 p) = e.rd (LINK_STATE_LANE_STATE_1 p) :=
      Dev.rd_wr_key _ _ (by simp only [LINK_STATE_LANE_STATE_0, LINK_STATE_LANE_STATE_1]; omega)
    have first : (if e.rd (laneState p 0) = 4 ∨ e.rd (laneState p 0) = 5 then e else e.wr (laneState p 0) 0) = e.wr (LINK_STATE_LANE_STATE_0 p) 0 :=
      if_neg (not_or.2 lane0)
    rw [Dev.each_cons, Dev.each_cons, Dev.each_nil, first]
    exact if_neg (not_or.2 (by rw [show laneState p 1 = LINK_STATE_LANE_STATE_1 p from rfl, lane1']; exact lane1))
  have state : ((e.attemptOver p).portFollowed p).portUp p = false := by
    obtain ⟨zero0, zero1⟩ := e.attemptOver_lanes p
    rw [Dev.portUp, Dev.portFollowed_state, zero0, zero1]
    rfl
  unfold Dev.trainingTimeout
  rw [if_neg (by simp [alive, attempt, down]), failed]
  dsimp only
  rw [lanes]
  exact if_neg fun up => absurd (state.symm.trans up) (by simp)

/-! ### A port retrains with the collections of its samplers -/

/-- The fields that a retrain of the whole port may change. -/
def retrainAllFlds (p : Nat) : List Fld :=
  [LINK_STATE_LANE_STATE_0 p, LINK_STATE_LANE_STATE_1 p, LINK_STATE_STATE p, LINK_STATE_CLOCK_LANE p, LINK_STATE_REPLAY_FILL p, LINK_RETRY_RETRAINS p,
    TUNE_STATUS_MODE (16 + 2 * p), TUNE_STATUS_MODE (17 + 2 * p)]

theorem Dev.retrain_followed (d : Dev) (p : Nat) :
    Frame [] [TUNE_STATUS_MODE (16 + 2 * p), TUNE_STATUS_MODE (17 + 2 * p)] (d.retrain p) (d.retrainAll p) :=
  Frame.followOwner (by simp) (Frame.followOwner (by simp) (Frame.refl _ _ _))

theorem Frame.retrainAll (hu : [Part.choir, Part.writer] ⊆ us) (hf : retrainAllFlds p ⊆ fs) (h : Frame us fs d0 d) : Frame us fs d0 (d.retrainAll p) :=
  (Frame.retrain hu (List.Subset.trans (by simp [retrainFlds, retrainAllFlds]) hf) h).trans
    ((d.retrain_followed p).mono (by simp) (List.Subset.trans (by simp [retrainAllFlds]) hf))

theorem Dev.rd_retrains_retrain (d : Dev) (p : Nat) (room : d.rd (LINK_RETRY_RETRAINS p) < 65535) :
    (d.retrain p).rd (LINK_RETRY_RETRAINS p) = d.rd (LINK_RETRY_RETRAINS p) + 1 := by
  have lanes : Frame [] [LINK_STATE_LANE_STATE_0 p, LINK_STATE_LANE_STATE_1 p] d
      (d.each [0, 1] (fun d l => if d.rd (laneState p l) = 5 then d else d.wr (laneState p l) 0)) := by
    refine Frame.each (Frame.refl _ _ _) fun d l hl kept => ?_
    split
    · exact kept
    · exact kept.wr (by unfold laneState; split <;> simp)
  have before : Frame [.choir] [LINK_STATE_LANE_STATE_0 p, LINK_STATE_LANE_STATE_1 p, LINK_STATE_REPLAY_FILL p, LINK_STATE_CLOCK_LANE p, LINK_STATE_STATE p] d
      (((d.each [0, 1] (fun d l => if d.rd (laneState p l) = 5 then d else d.wr (laneState p l) 0)).putPort p
        ((d.each [0, 1] (fun d l => if d.rd (laneState p l) = 5 then d else d.wr (laneState p l) 0)).port p).idle).showPort p) :=
    Frame.showPort (by simp) (Frame.putPort (by simp) (by simp) (lanes.mono (by simp) (by simp)))
  have same := before.rd (g := LINK_RETRY_RETRAINS p) (by
    simp only [List.forall_mem_cons, List.not_mem_nil, false_imp_iff, implies_true, and_true, LINK_RETRY_RETRAINS, LINK_STATE_LANE_STATE_0,
      LINK_STATE_LANE_STATE_1, LINK_STATE_REPLAY_FILL, LINK_STATE_CLOCK_LANE, LINK_STATE_STATE]
    omega)
  refine (Dev.rd_inc_below _ (f := LINK_RETRY_RETRAINS p) ?_).trans (congrArg (· + 1) same)
  exact same.trans_lt room

/-- What a port with both lanes in use shows after a retrain. -/
theorem Dev.retrainAll_shows (lane0 : d.rd (LINK_STATE_LANE_STATE_0 p) ≠ 5) (lane1 : d.rd (LINK_STATE_LANE_STATE_1 p) ≠ 5)
    (room : d.rd (LINK_RETRY_RETRAINS p) < 65535) :
    (d.retrainAll p).rd (LINK_STATE_LANE_STATE_0 p) = 0 ∧ (d.retrainAll p).rd (LINK_STATE_LANE_STATE_1 p) = 0 ∧
      (d.retrainAll p).rd (LINK_STATE_STATE p) = 0 ∧ (d.retrainAll p).rd (LINK_RETRY_RETRAINS p) = d.rd (LINK_RETRY_RETRAINS p) + 1 ∧
      (d.retrainAll p).port p = (d.port p).idle ∧ Frame [.choir, .writer] (retrainAllFlds p) d (d.retrainAll p) := by
  obtain ⟨state, port, zero0, zero1⟩ := Dev.retrain_shows lane0 lane1
  have after := d.retrain_followed p
  refine ⟨(after.rd ?_).trans zero0, (after.rd ?_).trans zero1, (after.rd ?_).trans state, (after.rd ?_).trans (d.rd_retrains_retrain p room), ?_,
    Frame.retrainAll (fun _ h => h) (fun _ h => h) (Frame.refl _ _ _)⟩
  · simp only [List.forall_mem_cons, List.not_mem_nil, false_imp_iff, implies_true, and_true, LINK_STATE_LANE_STATE_0, TUNE_STATUS_MODE]
    omega
  · simp only [List.forall_mem_cons, List.not_mem_nil, false_imp_iff, implies_true, and_true, LINK_STATE_LANE_STATE_1, TUNE_STATUS_MODE]
    omega
  · simp only [List.forall_mem_cons, List.not_mem_nil, false_imp_iff, implies_true, and_true, LINK_STATE_STATE, TUNE_STATUS_MODE]
    omega
  · simp only [List.forall_mem_cons, List.not_mem_nil, false_imp_iff, implies_true, and_true, LINK_RETRY_RETRAINS, TUNE_STATUS_MODE]
    omega
  · exact (congrArg (fun c : ChoirSt => Tab.read PortSt.fresh c.ports p) (after.parts .choir (by decide))).trans port

/-- A port's first lane failed, its second one silent. -/
def Dev.firstFailed (d : Dev) (p : Nat) : Dev := (d.failRecorded p 0).putPort p { (d.failRecorded p 0).port p with pause := true }

/-- What the end of an attempt shows in which the first lane had a signal alone. -/
theorem Dev.trainingTimeout_shows (hp : p < 2) (alive : d.linkAlive = true) (attempt : (d.port p).attempt = true) (down : d.portUp p = false)
    (sig0 : (d.port p).sig0 = true) (sig1 : (d.port p).sig1 = false) (lane0 : d.rd (LINK_STATE_LANE_STATE_0 p) = 1)
    (lane1 : d.rd (LINK_STATE_LANE_STATE_1 p) = 0) (bears : d.bears (laneSource p 0)) (active : d.rd (STRIKE_RETIRED (laneSource p 1)) = 0)
    (few : d.rd (LINK_STATE_FAILS_0 p) < 2) :
    d.trainingTimeout p = ((d.firstFailed p).attemptOver p).portFollowed p ∧
      (d.firstFailed p).rd (LINK_STATE_FAILS_0 p) = d.rd (LINK_STATE_FAILS_0 p) + 1 ∧ (d.firstFailed p).rd FAULT_STATUS_LAST_CODE = 0x0801 ∧
      (d.firstFailed p).rd (LINK_STATE_LANE_STATE_1 p) = 0 ∧
      Frame (.choir :: faultParts) (LINK_STATE_REPLAY_FILL p :: failFlds p 0) d (d.firstFailed p) := by
  obtain ⟨count, code, recorded⟩ := Dev.failRecorded_shows hp (by decide : 0 < 2) bears few
  have failed : Frame (.choir :: faultParts) (LINK_STATE_REPLAY_FILL p :: failFlds p 0) d (d.firstFailed p) :=
    (recorded.mono (by simp) (by simp)).trans (Frame.putPort (by simp) (by simp) (Frame.refl _ _ _))
  have lanes : ∀ f ∈ LINK_STATE_REPLAY_FILL p :: failFlds p 0, (LINK_STATE_LANE_STATE_0 p).key ≠ f.key ∧ (LINK_STATE_LANE_STATE_1 p).key ≠ f.key ∧
      (STRIKE_RETIRED (laneSource p 1)).key ≠ f.key := by
    simp only [failFlds, strikeFlds, faultFlds, List.cons_append, List.nil_append, List.forall_mem_cons, List.not_mem_nil, false_imp_iff, implies_true,
      and_true, LINK_STATE_REPLAY_FILL, laneFails_key (by decide : 0 < 2), STRIKE_STRIKES, STRIKE_DECAY_COUNT, FAULT_STATUS_COUNT,
      FAULT_STATUS_LAST_CODE, LOG_STATUS_LOG_QUEUE, LOSS_TOTAL, LINK_STATE_LANE_STATE_0, LINK_STATE_LANE_STATE_1, STRIKE_RETIRED, laneSource]
    omega
  have state0 := (failed.rd fun f hf => (lanes f hf).1).trans lane0
  have state1 := (failed.rd fun f hf => (lanes f hf).2.1).trans lane1
  have port : (d.failRecorded p 0).port p = d.port p :=
    congrArg (fun c : ChoirSt => Tab.read PortSt.fresh c.ports p) (recorded.parts .choir (by decide))
  have silent : ((d.firstFailed p).port p).signal 1 = false := by
    rw [Dev.firstFailed, Dev.port_putPort_same, port]
    exact sig1
  have both : d.each [0, 1] (Dev.laneFailed p) = d.firstFailed p := by
    rw [Dev.each_cons, Dev.each_cons, Dev.each_nil, Dev.laneFailed_of_signal (l := 0) hp (by decide) lane0 sig0 bears few]
    exact Dev.laneFailed_of_silent (d := d.firstFailed p) state1 ((failed.rd fun f hf => (lanes f hf).2.2).trans active) silent
  refine ⟨Dev.trainingTimeout_eq alive attempt down both (by omega) (by omega), ?_, ?_, state1, failed⟩
  · rw [Dev.firstFailed, Dev.rd_putPort_other _ (by simp only [LINK_STATE_FAILS_0, LINK_STATE_REPLAY_FILL]; omega)]
    exact count
  · rw [Dev.firstFailed, Dev.rd_putPort_other _ (by simp only [FAULT_STATUS_LAST_CODE, LINK_STATE_REPLAY_FILL]; omega), code]

theorem Dev.rd_laneErrors_wr (d : Dev) (p l n : Nat) :
    (d.wr (laneErrors p l) (min 0xFFFF (d.rd (laneErrors p l) + n))).rd (laneErrors p l) = min 0xFFFF (d.rd (laneErrors p l) + n) := by
  have width : (laneErrors p l).width = 16 := by
    unfold laneErrors
    split <;> rfl
  rw [Dev.rd_wr_same, width]
  exact Nat.mod_eq_of_lt (by omega)

/-- A lane of a port that is UP on both is not retired. -/
theorem Dev.lane_not_retired (d : Dev) (hl : l < 2) (lane0 : d.rd (LINK_STATE_LANE_STATE_0 p) = 4) (lane1 : d.rd (LINK_STATE_LANE_STATE_1 p) = 4) :
    d.rd (laneState p l) ≠ 5 := by
  obtain rfl | rfl : l = 0 ∨ l = 1 := by omega
  · exact ne_of_eq_of_ne lane0 (by decide)
  · exact ne_of_eq_of_ne lane1 (by decide)

/-- A port on one lane that retries the other one. -/
def Dev.retryBegun (d : Dev) (p : Nat) : Dev :=
  (d.wr (LINK_STATE_LANE_STATE_1 p) 0).putPort p { (d.wr (LINK_STATE_LANE_STATE_1 p) 0).port p with tried := true }

/-- Settles O34: each line code takes its lane one state on; failures and losses take the port down. -/
theorem linkTrainsAndRetrains : Obligations.LinkTrainsAndRetrains := by
  unfold Obligations.LinkTrainsAndRetrains
  refine ⟨⟨fun s p l hp hl trains => ⟨fun ready detect => ?_, fun codes small align => ⟨fun idle => ?_, fun other => ?_⟩⟩,
    fun s p l sent codes desk hp hl four small trains => ⟨fun state agrees last => ?_, fun state agrees ts2 enough => ⟨fun waits => ?_, fun done alone => ?_,
      fun done partner down held queue => ?_⟩, fun state wrong => ?_⟩,
    fun s p hp alive attempt down sig0 sig1 lane0 lane1 bears active few => ?_, fun s p hp => ?_⟩,
    fun s p fs hp alive lane0 room flds => ⟨fun lane1 => ⟨?_, fun served => ?_, fun l n rd codes hl long small count many bears => ?_,
      fun l n rd codes hl long small count few => ?_⟩, fun lane1 state tried => ?_⟩⟩
  · refine Does.of_onDev rfl (by simp [Instr.wf, hp, hl]) ?_
    have eq : s.dev.laneSignalDetect p l =
        ((s.dev.putPort p { (s.dev.port p).putSignal l true with attempt := true }).wr (laneState p l) 1).showPort p :=
      if_pos (by simp [trains, ready, detect])
    have key : (laneState p l).key = _ := laneState_key hl
    have shown : Frame [] [LINK_STATE_CLOCK_LANE p, LINK_STATE_STATE p]
        ((s.dev.putPort p { (s.dev.port p).putSignal l true with attempt := true }).wr (laneState p l) 1) (s.dev.laneSignalDetect p l) := by
      rw [eq]
      exact Frame.showPort (fun _ h => h) (Frame.refl _ _ _)
    have port : (s.dev.laneSignalDetect p l).port p = { (s.dev.port p).putSignal l true with attempt := true } :=
      (congrArg (fun c : ChoirSt => Tab.read PortSt.fresh c.ports p) (shown.parts .choir (by decide))).trans
        (Dev.port_putPort_same s.dev p _)
    refine ⟨(shown.rd ?_).trans (Dev.rd_laneState_wr _ _ _ (by decide)), ?_, ?_, ?_⟩
    · simp only [List.forall_mem_cons, List.not_mem_nil, false_imp_iff, implies_true, and_true, LINK_STATE_CLOCK_LANE, LINK_STATE_STATE]
      omega
    · rw [port]
      exact PortSt.signal_putSignal _ _ _
    · rw [port]
    · exact (Frame.wr (by simp) (Frame.putPort (by simp) (by simp) (Frame.refl _ _ _))).trans (shown.mono (by simp) (by simp))
  · refine Does.of_onDev rfl (by simpa [Instr.wf, hp, hl] using small) ?_
    rw [Dev.laneAlign, if_pos (by simp [trains, align, idle])]
    exact ⟨Dev.rd_laneState_wr _ _ _ (by decide), s.dev.run_putPort_putRun p l 0, Frame.wr (by simp) (Frame.putPort (by simp) (by simp) (Frame.refl _ _ _))⟩
  · refine Does.of_onDev rfl (by simpa [Instr.wf, hp, hl] using small) ?_
    rw [Dev.laneAlign, if_neg (by simp [other])]
    exact Frame.refl _ _ _
  · refine Does.of_onDev rfl (by simpa [Instr.wf, hp, hl, four] using small) ?_
    rw [Dev.trainingSet_eq trains state (.inl rfl)]
    simp only [agrees, last, Bool.true_and, beq_self_eq_true, Bool.true_or, if_true]
    rw [if_neg (by omega)]
    exact ⟨Dev.rd_laneState_wr _ _ _ (by decide), s.dev.run_putPort_putRun p l 0, Frame.wr (by simp) (Frame.putPort (by simp) (by simp) (Frame.refl _ _ _))⟩
  · refine Does.of_onDev rfl (by simpa [Instr.wf, hp, hl, four] using small) ?_
    rw [Dev.trainingSet_eq trains state (.inr rfl)]
    simp only [agrees, ts2, Bool.true_and, Bool.or_true, if_true]
    rw [if_pos (.inr ⟨trivial, by simp [waits]⟩)]
    exact ⟨(s.dev.rd_laneState_putPort l _ hl).trans state, s.dev.run_putPort_putRun p l _, Frame.putPort (by simp) (by simp) (Frame.refl _ _ _)⟩
  · refine Does.of_onDev rfl (by simpa [Instr.wf, hp, hl, four] using small) ?_
    have partner := (s.dev.rd_laneState_putPort (p := p) (1 - l) ((s.dev.port p).putRun l 0) (by omega)).trans alone
    obtain ⟨lane, fails, port⟩ := (s.dev.putPort p ((s.dev.port p).putRun l 0)).laneCame_shows (p := p) hl
    rw [Dev.trainingSet_eq trains state (.inr rfl)]
    simp only [agrees, ts2, Bool.true_and, Bool.or_true, if_true]
    rw [if_neg (by simp [done]; omega), if_neg (by decide), Dev.laneUp_of_alone hl partner]
    rw [partner] at port
    exact ⟨lane, fails, port⟩
  · refine Does.of_onDev rfl (by simpa [Instr.wf, hp, hl, four] using small) ?_
    have partner' := (s.dev.rd_laneState_putPort (p := p) (1 - l) ((s.dev.port p).putRun l 0) (by omega)).trans partner
    obtain ⟨lane, fails, port⟩ := (s.dev.putPort p ((s.dev.port p).putRun l 0)).laneCame_shows (p := p) hl
    rw [Dev.trainingSet_eq trains state (.inr rfl)]
    simp only [agrees, ts2, Bool.true_and, Bool.or_true, if_true]
    rw [if_neg (by simp [done]; omega), if_neg (by decide), Dev.laneUp_of_partner hl partner']
    · rw [partner'] at port
      refine ⟨((s.dev.putPort p ((s.dev.port p).putRun l 0)).laneCame p l).rd_laneState_putPort l _ hl |>.trans lane, ?_,
        congrArg PortSt.attempt (Dev.port_putPort_same _ _ _),
        Frame.putPort (by simp) (by simp) (Frame.laneCame (by simp) (Frame.putPort (by simp) (by simp) (Frame.refl _ _ _)))⟩
      rw [Dev.rd_putPort_other _ (by simp only [LINK_STATE_STATE, LINK_STATE_REPLAY_FILL]; omega)]
      exact port
    · rw [Dev.portUp, Dev.rd_putPort_other _ (by simp only [LINK_STATE_STATE, LINK_STATE_REPLAY_FILL]; omega)]
      exact down
    · rw [Dev.port_putPort_same]
      exact ((s.dev.port p).putRun_keeps l 0).1.trans held
    · rw [Dev.port_putPort_same]
      exact ((s.dev.port p).putRun_keeps l 0).2.trans queue
  · refine Does.of_onDev rfl (by simpa [Instr.wf, hp, hl, four] using small) ?_
    have eq : s.dev.trainingSet p l codes sent desk = s.dev.putPort p ((s.dev.port p).putRun l 0) := by
      rw [Dev.trainingSet_eq trains rfl state]
      simp only [wrong, Bool.false_and, Bool.false_eq_true, if_false]
      exact if_pos (.inl (by decide))
    rw [eq]
    exact ⟨s.dev.run_putPort_putRun p l 0, Frame.putPort (by simp) (by simp) (Frame.refl _ _ _)⟩
  · refine Does.of_onDev rfl (by simp [Instr.wf, hp]) ?_
    obtain ⟨run, count, code, state1, failed⟩ := Dev.trainingTimeout_shows hp alive attempt down sig0 sig1 lane0 lane1 bears active few
    have closed : Frame [.choir] [LINK_STATE_LANE_STATE_0 p, LINK_STATE_REPLAY_FILL p] (s.dev.firstFailed p) ((s.dev.firstFailed p).attemptOver p) := by
      refine Frame.putPort (by simp) (by simp) (Frame.wr_self ?_ (Nat.two_pow_pos _) (Frame.wr (by simp) (Frame.refl _ _ _)))
      rw [Dev.rd_wr_key _ _ (by simp only [LINK_STATE_LANE_STATE_0, LINK_STATE_LANE_STATE_1]; omega)]
      exact state1
    have followed : Frame [] [LINK_STATE_STATE p, LINK_STATE_CLOCK_LANE p, TUNE_STATUS_MODE (16 + 2 * p), TUNE_STATUS_MODE (17 + 2 * p)]
        ((s.dev.firstFailed p).attemptOver p) (((s.dev.firstFailed p).attemptOver p).portFollowed p) :=
      Frame.portFollowed (fun _ h => h) (Frame.refl _ _ _)
    obtain ⟨zero0, zero1⟩ := (s.dev.firstFailed p).attemptOver_lanes p
    have port : (((s.dev.firstFailed p).attemptOver p).portFollowed p).port p = ((s.dev.firstFailed p).attemptOver p).port p :=
      congrArg (fun c : ChoirSt => Tab.read PortSt.fresh c.ports p) (followed.parts .choir (by decide))
    have ended : ((s.dev.firstFailed p).attemptOver p).port p =
        { ((s.dev.firstFailed p).lanesDown p).port p with attempt := false, sig0 := false, sig1 := false, count0 := 0, count1 := 0 } :=
      Dev.port_putPort_same _ _ _
    have paused : ((s.dev.firstFailed p).port p).pause = true := congrArg PortSt.pause (Dev.port_putPort_same (s.dev.failRecorded p 0) p _)
    have through : Frame [.choir] [LINK_STATE_LANE_STATE_0 p, LINK_STATE_REPLAY_FILL p, LINK_STATE_STATE p, LINK_STATE_CLOCK_LANE p,
        TUNE_STATUS_MODE (16 + 2 * p), TUNE_STATUS_MODE (17 + 2 * p)] (s.dev.firstFailed p) (((s.dev.firstFailed p).attemptOver p).portFollowed p) :=
      (closed.mono (fun _ h => h) (by simp)).trans (followed.mono (by simp) (by simp))
    rw [run]
    refine ⟨(through.rd ?_).trans count, (through.rd ?_).trans code, (followed.rd ?_).trans zero0, ?_, ?_, ?_, ?_⟩
    · simp only [List.forall_mem_cons, List.not_mem_nil, false_imp_iff, implies_true, and_true, LINK_STATE_FAILS_0, LINK_STATE_LANE_STATE_0,
        LINK_STATE_REPLAY_FILL, LINK_STATE_STATE, LINK_STATE_CLOCK_LANE, TUNE_STATUS_MODE]
      omega
    · simp only [List.forall_mem_cons, List.not_mem_nil, false_imp_iff, implies_true, and_true, FAULT_STATUS_LAST_CODE, LINK_STATE_LANE_STATE_0,
        LINK_STATE_REPLAY_FILL, LINK_STATE_STATE, LINK_STATE_CLOCK_LANE, TUNE_STATUS_MODE]
      omega
    · simp only [List.forall_mem_cons, List.not_mem_nil, false_imp_iff, implies_true, and_true, LINK_STATE_LANE_STATE_0, LINK_STATE_STATE,
        LINK_STATE_CLOCK_LANE, TUNE_STATUS_MODE]
      omega
    · rw [Dev.portFollowed_state, zero0, zero1]
      rfl
    · exact (congrArg PortSt.pause (port.trans ended)).trans paused
    · exact congrArg PortSt.attempt (port.trans ended)
    · have listed : LINK_STATE_REPLAY_FILL p :: failFlds p 0 ⊆ [LINK_STATE_FAILS_0 p, LINK_STATE_LANE_STATE_0 p, LINK_STATE_STATE p,
          LINK_STATE_CLOCK_LANE p, LINK_STATE_REPLAY_FILL p, TUNE_STATUS_MODE (16 + 2 * p), TUNE_STATUS_MODE (17 + 2 * p)] ++
          strikeFlds (laneSource p 0) :=
        List.cons_subset.2 ⟨by simp, List.cons_subset.2 ⟨by simp [laneFails], List.subset_append_right _ _⟩⟩
      exact (failed.mono (by simp) listed).trans (through.mono (by simp) (by simp))
  · refine Does.of_onDev rfl (by simp [Instr.wf, hp]) ?_
    exact ⟨Dev.port_putPort_same _ _ _, Frame.putPort (by simp) (by simp) (Frame.refl _ _ _)⟩
  · subst flds
    obtain ⟨zero0, zero1, state, count, port, kept⟩ := Dev.retrainAll_shows (p := p) (d := s.dev) (by omega) (by omega) room
    refine Does.of_onDev rfl (by simp [Instr.wf, hp]) ?_
    have run : s.dev.laneSignalLoss p = s.dev.retrainAll p := if_pos (by simp [alive, laneState, lane0])
    rw [run]
    exact ⟨zero0, zero1, state, count, (congrArg PortSt.held port).trans rfl, kept⟩
  · subst flds
    obtain ⟨zero0, zero1, state, count, port, kept⟩ := Dev.retrainAll_shows (p := p) (d := s.dev.setLatest false) (by rw [Dev.rd_setLatest]; omega)
      (by rw [Dev.rd_setLatest]; omega) room
    refine Does.of_oneWrite rfl (by simp [Instr.wf, hp]) served ?_
    have run : (s.dev.setLatest false).retrainPort p = (s.dev.setLatest false).retrainAll p := if_pos alive
    rw [run]
    exact ⟨zero0, zero1, state, count, (congrArg PortSt.held port).trans rfl,
      (Frame.setLatest (by simp) (Frame.refl _ _ _)).trans (kept.mono (by simp) (fun _ h => h))⟩
  · subst flds
    have key : (laneErrors p l).key = _ := laneErrors_key hl
    have bears' : (s.dev.wr (laneErrors p l) (min 0xFFFF (s.dev.rd (laneErrors p l) + n))).bears (laneSource p l) :=
      Dev.bears_wr bears (by simp only [STRIKE_RETIRED]; omega) (by simp only [STRIKE_PROBATION]; omega) (by simp only [STRIKE_STRIKES]; omega)
        (by simp only [STRIKE_CFG_RETIRE]; omega)
    have low : (laneErrors p l).key < 1200000 := by omega
    have errors := Dev.rd_laneErrors_wr s.dev p l n
    have written : Frame [] [laneErrors p l] s.dev (s.dev.wr (laneErrors p l) (min 0xFFFF (s.dev.rd (laneErrors p l) + n))) :=
      Frame.wr (by simp) (Frame.refl _ _ _)
    have charged := Frame.fault_bears (code := 0x0803) (arg := none) bears' (fun _ h => h) (fun _ h => h) (Frame.refl faultParts (strikeFlds (laneSource p l)) _)
    have last := Dev.rd_lastCode_fault_bears bears' 0x0803 none
    have run : s.dev.codeViolationLimit p l rd codes =
        ((s.dev.wr (laneErrors p l) (min 0xFFFF (s.dev.rd (laneErrors p l) + n))).fault 0x0803 transient [laneSource p l]).retrainAll p := by
      rw [Dev.codeViolationLimit, if_neg (by simp [alive, s.dev.lane_not_retired hl lane0 lane1]), ← count]
      exact if_neg (by omega)
    generalize s.dev.wr (laneErrors p l) (min 0xFFFF (s.dev.rd (laneErrors p l) + n)) = w at *
    generalize w.fault 0x0803 transient [laneSource p l] = e at *
    have before (g : Fld) (below : g.key < 1200000) (other : g.key ≠ (laneErrors p l).key) : e.rd g = s.dev.rd g :=
      (charged.rd (link_apart_strikes _ below)).trans (written.rd (by simpa using other))
    have state0 := before (LINK_STATE_LANE_STATE_0 p) (by simp only [LINK_STATE_LANE_STATE_0]; omega) (by simp only [LINK_STATE_LANE_STATE_0]; omega)
    have state1 := before (LINK_STATE_LANE_STATE_1 p) (by simp only [LINK_STATE_LANE_STATE_1]; omega) (by simp only [LINK_STATE_LANE_STATE_1]; omega)
    have retrains := before (LINK_RETRY_RETRAINS p) (by simp only [LINK_RETRY_RETRAINS]; omega) (by simp only [LINK_RETRY_RETRAINS]; omega)
    obtain ⟨zero0, zero1, state, -, -, kept⟩ := Dev.retrainAll_shows (p := p) (d := e) (by omega) (by omega) (by omega)
    refine Does.of_onDev rfl (by simpa [Instr.wf, hp, hl, long] using small) ?_
    rw [run]
    refine ⟨zero0, zero1, state, (kept.rd ?_).trans ((charged.rd (link_apart_strikes _ low)).trans errors), (kept.rd ?_).trans last, ?_⟩
    · simp only [retrainAllFlds, List.forall_mem_cons, List.not_mem_nil, false_imp_iff, implies_true, and_true, LINK_STATE_LANE_STATE_0,
        LINK_STATE_LANE_STATE_1, LINK_STATE_STATE, LINK_STATE_CLOCK_LANE, LINK_STATE_REPLAY_FILL, LINK_RETRY_RETRAINS, TUNE_STATUS_MODE]
      omega
    · simp only [retrainAllFlds, List.forall_mem_cons, List.not_mem_nil, false_imp_iff, implies_true, and_true, LINK_STATE_LANE_STATE_0,
        LINK_STATE_LANE_STATE_1, LINK_STATE_STATE, LINK_STATE_CLOCK_LANE, LINK_STATE_REPLAY_FILL, LINK_RETRY_RETRAINS, TUNE_STATUS_MODE,
        FAULT_STATUS_LAST_CODE]
      omega
    · have first : Frame ([Part.choir] ++ faultParts) (retrainAllFlds p ++ [laneErrors p l] ++ strikeFlds (laneSource p l)) s.dev e :=
        (written.mono (by simp) (by simp)).trans (charged.mono (by simp) (List.subset_append_right _ _))
      exact first.trans (kept.mono (by decide) (by simp))
  · refine Does.of_onDev rfl (by simpa [Instr.wf, hp, hl, long] using small) ?_
    have run : s.dev.codeViolationLimit p l rd codes = s.dev.wr (laneErrors p l) (min 0xFFFF (s.dev.rd (laneErrors p l) + n)) := by
      rw [Dev.codeViolationLimit, if_neg (by simp [alive, s.dev.lane_not_retired hl lane0 lane1]), ← count]
      exact if_pos (by omega)
    rw [run]
    exact ⟨Dev.rd_laneErrors_wr _ _ _ _, Frame.wr (by simp) (Frame.refl _ _ _)⟩
  · subst flds
    have lanes : s.dev.each [0, 1] (fun d l => if d.rd (laneState p l) = 5 then d.wr (laneState p l) 0 else d) = s.dev.wr (LINK_STATE_LANE_STATE_1 p) 0 := by
      rw [Dev.each_cons, Dev.each_cons, Dev.each_nil, if_neg (show s.dev.rd (laneState p 0) ≠ 5 from ne_of_eq_of_ne lane0 (by decide))]
      exact if_pos lane1
    have begun : Frame [.choir] [LINK_STATE_LANE_STATE_1 p, LINK_STATE_REPLAY_FILL p] s.dev (s.dev.retryBegun p) :=
      Frame.putPort (by simp) (by simp) (Frame.wr (by simp) (Frame.refl _ _ _))
    have run : s.dev.oneLaneRetrain p = (s.dev.retryBegun p).retrainAll p := by
      rw [Dev.oneLaneRetrain, if_pos (by simp [alive, state, tried]), lanes]
      rfl
    have state0 : (s.dev.retryBegun p).rd (LINK_STATE_LANE_STATE_0 p) = 4 := by
      refine (begun.rd ?_).trans lane0
      simp only [List.forall_mem_cons, List.not_mem_nil, false_imp_iff, implies_true, and_true, LINK_STATE_LANE_STATE_0, LINK_STATE_LANE_STATE_1,
        LINK_STATE_REPLAY_FILL]
      omega
    have state1 : (s.dev.retryBegun p).rd (LINK_STATE_LANE_STATE_1 p) = 0 := by
      rw [Dev.retryBegun, Dev.rd_putPort_other _ (by simp only [LINK_STATE_LANE_STATE_1, LINK_STATE_REPLAY_FILL]; omega)]
      exact Dev.rd_wr_same _ (LINK_STATE_LANE_STATE_1 p) 0
    have retrains : (s.dev.retryBegun p).rd (LINK_RETRY_RETRAINS p) < 65535 := by
      refine (begun.rd ?_).trans_lt room
      simp only [List.forall_mem_cons, List.not_mem_nil, false_imp_iff, implies_true, and_true, LINK_RETRY_RETRAINS, LINK_STATE_LANE_STATE_1,
        LINK_STATE_REPLAY_FILL]
      omega
    obtain ⟨zero0, zero1, down, -, port, kept⟩ := Dev.retrainAll_shows (p := p) (d := s.dev.retryBegun p) (by omega) (by omega) retrains
    refine Does.of_onDev rfl (by simp [Instr.wf, hp]) ?_
    rw [run]
    have marked : ((s.dev.retryBegun p).port p).tried = true := congrArg PortSt.tried (Dev.port_putPort_same (s.dev.wr (LINK_STATE_LANE_STATE_1 p) 0) p _)
    exact ⟨zero0, zero1, down, (congrArg PortSt.tried port).trans marked, (begun.mono (by simp) (by simp)).trans (kept.mono (fun _ h => h) (fun _ h => h))⟩

end Sys2Proof.Machine
end

/-! PROOFS: a reset that the choir has planned stays planned through all that a switching boundary runs. -/
section

namespace Sys2Proof.Machine

open Reg

/-! ### How a planned reset passes through a branch and a loop -/

@[simp] theorem Dev.choir_ite (c : Prop) [Decidable c] (a b : Dev) :
    (if c then a else b).choir = if c then a.choir else b.choir :=
  apply_ite Dev.choir c a b

@[simp] theorem ChoirSt.resetAt_ite (c : Prop) [Decidable c] (a b : ChoirSt) :
    (if c then a else b).resetAt = if c then a.resetAt else b.resetAt :=
  apply_ite ChoirSt.resetAt c a b

@[simp] theorem Dev.resetAt_each {α : Type} {f : Dev → α → Dev}
    (kept : ∀ (d : Dev) (x : α), (f d x).choir.resetAt = d.choir.resetAt) (d : Dev) (l : List α) :
    (d.each l f).choir.resetAt = d.choir.resetAt := by
  induction l generalizing d with
  | nil => rfl
  | cons x l ih => exact (ih (f d x)).trans (kept d x)

@[simp] theorem Dev.resetAt_when {f : Dev → Dev} (kept : ∀ d : Dev, (f d).choir.resetAt = d.choir.resetAt)
    (d : Dev) (c : Bool) : (d.when c f).choir.resetAt = d.choir.resetAt := by
  cases c
  · rfl
  · exact kept d

/-! ### The state operations -/

@[simp] theorem Dev.choir_putChoir (d : Dev) (c : ChoirSt) : (d.putChoir c).choir = c := rfl

@[simp] theorem Dev.resetAt_putPort (d : Dev) (p : Nat) (x : PortSt) :
    (d.putPort p x).choir.resetAt = d.choir.resetAt := rfl

@[simp] theorem Dev.resetAt_advance (d : Dev) (c : Nat) : (d.advance c).choir.resetAt = d.choir.resetAt := by simp [Dev.advance]

@[simp] theorem Dev.resetAt_followOcxo (d : Dev) : d.followOcxo.choir.resetAt = d.choir.resetAt := by simp [Dev.followOcxo]

@[simp] theorem Dev.resetAt_offer (d : Dev) (ring producer : Nat) (words : List Nat) :
    (d.offer ring producer words).choir.resetAt = d.choir.resetAt := by simp [Dev.offer]

@[simp] theorem Dev.resetAt_notify (d : Dev) (kind sub arg : Nat) : (d.notify kind sub arg).choir.resetAt = d.choir.resetAt := by simp [Dev.notify]

@[simp] theorem Dev.resetAt_queueLog (d : Dev) (r : LogRec) : (d.queueLog r).choir.resetAt = d.choir.resetAt := by
  simp only [Dev.queueLog]
  split
  · simp
  · split <;> simp

@[simp] theorem Dev.resetAt_log (d : Dev) (kind : Nat) (payload : List Nat) : (d.log kind payload).choir.resetAt = d.choir.resetAt := by
  simp [Dev.log]

@[simp] theorem Dev.resetAt_choirEvent (d : Dev) (mask : Nat) : (d.choirEvent mask).choir.resetAt = d.choir.resetAt := by simp [Dev.choirEvent]

@[simp] theorem Dev.resetAt_restVoice (d : Dev) (n reason : Nat) : (d.restVoice n reason).choir.resetAt = d.choir.resetAt := by simp [Dev.restVoice]

@[simp] theorem Dev.resetAt_restAll (d : Dev) (reason : Nat) : (d.restAll reason).choir.resetAt = d.choir.resetAt := by simp [Dev.restAll]

/-! ### Outputs -/

@[simp] theorem Dev.resetAt_spPin (d : Dev) (i level : Nat) : (d.spPin i level).choir.resetAt = d.choir.resetAt := by simp [Dev.spPin]

@[simp] theorem Dev.resetAt_spForce (d : Dev) (i : Nat) : (d.spForce i).choir.resetAt = d.choir.resetAt := by simp [Dev.spForce]

@[simp] theorem Dev.resetAt_spForceAll (d : Dev) : d.spForceAll.choir.resetAt = d.choir.resetAt := by simp [Dev.spForceAll]

@[simp] theorem Dev.resetAt_totLow (d : Dev) : d.totLow.choir.resetAt = d.choir.resetAt := by simp [Dev.totLow]

@[simp] theorem Dev.resetAt_excSafe (d : Dev) (x : Nat) : (d.excSafe x).choir.resetAt = d.choir.resetAt := by simp [Dev.excSafe]

@[simp] theorem Dev.resetAt_excSafeAll (d : Dev) : d.excSafeAll.choir.resetAt = d.choir.resetAt := by simp [Dev.excSafeAll]

@[simp] theorem Dev.resetAt_restartFilters (d : Dev) : d.restartFilters.choir.resetAt = d.choir.resetAt := by simp [Dev.restartFilters]

@[simp] theorem Dev.resetAt_showError (d : Dev) (cause : Nat) : (d.showError cause).choir.resetAt = d.choir.resetAt := by simp [Dev.showError]

@[simp] theorem Dev.resetAt_countCommit (d : Dev) (kind : Nat) : (d.countCommit kind).choir.resetAt = d.choir.resetAt := by simp [Dev.countCommit]

@[simp] theorem Dev.resetAt_commitError (d : Dev) (cause : Nat) : (d.commitError cause).choir.resetAt = d.choir.resetAt := by simp [Dev.commitError]

/-! ### The belt -/

@[simp] theorem Dev.resetAt_putLive (d : Dev) (lower upper hyst : Nat) : (d.putLive lower upper hyst).choir.resetAt = d.choir.resetAt := by
  simp [Dev.putLive]

@[simp] theorem Dev.resetAt_leaveZones (d : Dev) : d.leaveZones.choir.resetAt = d.choir.resetAt := by
  unfold Dev.leaveZones
  split <;> simp

@[simp] theorem Dev.resetAt_countFrame (d : Dev) (segs : List Nat) (good : Bool) : (d.countFrame segs good).choir.resetAt = d.choir.resetAt := by
  simp [Dev.countFrame]

@[simp] theorem Dev.resetAt_heavyFrame (d : Dev) (segs : List Nat) : (d.heavyFrame segs).choir.resetAt = d.choir.resetAt := by simp [Dev.heavyFrame]

@[simp] theorem Dev.resetAt_markZone (d : Dev) (mask : Nat) : (d.markZone mask).choir.resetAt = d.choir.resetAt := by simp [Dev.markZone]

/-! ### Faults -/

@[simp] theorem Dev.resetAt_suspectTotals (d : Dev) : d.suspectTotals.choir.resetAt = d.choir.resetAt := by simp [Dev.suspectTotals]

@[simp] theorem Dev.resetAt_closeGate (d : Dev) (reason : Nat) : (d.closeGate reason).choir.resetAt = d.choir.resetAt := by simp [Dev.closeGate]

@[simp] theorem Dev.resetAt_stopTuning (d : Dev) (c : Nat) : (d.stopTuning c).choir.resetAt = d.choir.resetAt := by simp [Dev.stopTuning]

@[simp] theorem Dev.resetAt_writeFault (d : Dev) (code cls src strikes retire prob arg : Nat) :
    (d.writeFault code cls src strikes retire prob arg).choir.resetAt = d.choir.resetAt := by simp [Dev.writeFault]

@[simp] theorem Dev.resetAt_report (d : Dev) (code : Nat) : (d.report code).choir.resetAt = d.choir.resetAt := by simp [Dev.report]

@[simp] theorem Dev.resetAt_failFrame (d : Dev) (c : Collected) (code : Nat) : (d.failFrame c code).choir.resetAt = d.choir.resetAt := by
  simp [Dev.failFrame]

@[simp] theorem Dev.resetAt_cutFrame (d : Dev) : d.cutFrame.choir.resetAt = d.choir.resetAt := by
  unfold Dev.cutFrame
  split <;> simp

@[simp] theorem Dev.resetAt_failTrack (d : Dev) : d.failTrack.choir.resetAt = d.choir.resetAt := by simp [Dev.failTrack]

@[simp] theorem Dev.resetAt_retireVoice (d : Dev) (n : Nat) : (d.retireVoice n).choir.resetAt = d.choir.resetAt := by simp [Dev.retireVoice]

@[simp] theorem Dev.resetAt_markRetired (d : Dev) (src : Nat) : (d.markRetired src).choir.resetAt = d.choir.resetAt := by simp [Dev.markRetired]

@[simp] theorem Dev.resetAt_retireVoiceSource (d : Dev) (n : Nat) : (d.retireVoiceSource n).choir.resetAt = d.choir.resetAt := by
  simp [Dev.retireVoiceSource]

@[simp] theorem Dev.resetAt_failMonitor (d : Dev) (m : Nat) : (d.failMonitor m).choir.resetAt = d.choir.resetAt := by simp [Dev.failMonitor]

@[simp] theorem Dev.resetAt_showPort (d : Dev) (p : Nat) : (d.showPort p).choir.resetAt = d.choir.resetAt := by simp [Dev.showPort]

@[simp] theorem Dev.resetAt_retireLane (d : Dev) (p l : Nat) : (d.retireLane p l).choir.resetAt = d.choir.resetAt := by simp [Dev.retireLane]

@[simp] theorem Dev.resetAt_leaveCantor (d : Dev) : d.leaveCantor.choir.resetAt = d.choir.resetAt := by simp [Dev.leaveCantor]

@[simp] theorem Dev.resetAt_enterOut (d : Dev) : d.enterOut.choir.resetAt = d.choir.resetAt := by simp [Dev.enterOut]

@[simp] theorem Dev.resetAt_addStrike (d : Dev) (src cls : Nat) : (d.addStrike src cls).choir.resetAt = d.choir.resetAt := by simp [Dev.addStrike]

@[simp] theorem Dev.resetAt_chargeFault (d : Dev) (code cls src : Nat) (arg : Option Nat) :
    (d.chargeFault code cls src arg).1.choir.resetAt = d.choir.resetAt := by simp [Dev.chargeFault]

@[simp] theorem Dev.resetAt_enterSafe (d : Dev) (cause code : Nat) : (d.enterSafe cause code).choir.resetAt = d.choir.resetAt := by
  unfold Dev.enterSafe
  split
  · rfl
  · rw [Dev.wr_choir, Dev.resetAt_excSafeAll, Dev.resetAt_totLow, Dev.resetAt_commitError, Dev.wr_choir, Dev.wr_choir, Dev.resetAt_each]
    · simp
    · exact fun _ _ => rfl

@[simp] theorem Dev.resetAt_retireEffect (d : Dev) (src code : Nat) : (d.retireEffect src code).choir.resetAt = d.choir.resetAt := by
  simp [Dev.retireEffect]

@[simp] theorem Dev.resetAt_faultOne (code cls : Nat) (arg : Option Nat) (d : Dev) (src : Nat) :
    (Dev.faultOne code cls arg d src).choir.resetAt = d.choir.resetAt := by simp [Dev.faultOne]

@[simp] theorem Dev.resetAt_fault (d : Dev) (code cls : Nat) (srcs : List Nat) (arg : Option Nat) :
    (d.fault code cls srcs arg).choir.resetAt = d.choir.resetAt := by
  unfold Dev.fault
  split <;> simp

/-! ### The ageing law -/

@[simp] theorem Dev.resetAt_computeEps (d : Dev) : d.computeEps.choir.resetAt = d.choir.resetAt := by simp [Dev.computeEps]

/-! ### Rings -/

@[simp] theorem Dev.resetAt_sramWritten (d : Dev) (w : Nat) : (d.sramWritten w).choir.resetAt = d.choir.resetAt := by simp [Dev.sramWritten]

@[simp] theorem Dev.resetAt_putFill (d : Dev) (n fill : Nat) : (d.putFill n fill).choir.resetAt = d.choir.resetAt := by simp [Dev.putFill]

@[simp] theorem Dev.resetAt_setFill (d : Dev) (n fill : Nat) : (d.setFill n fill).choir.resetAt = d.choir.resetAt := by simp [Dev.setFill]

@[simp] theorem Dev.resetAt_addLoss (d : Dev) (n k : Nat) : (d.addLoss n k).choir.resetAt = d.choir.resetAt := by simp [Dev.addLoss]

@[simp] theorem Dev.resetAt_emptyRing (n : Nat) (d : Dev) : (Dev.emptyRing n d).choir.resetAt = d.choir.resetAt := by simp [Dev.emptyRing]

/-! ### Voices -/

@[simp] theorem Dev.resetAt_tap (d : Dev) (n : Nat) (e : Entry) : (d.tap n e).choir.resetAt = d.choir.resetAt := by simp [Dev.tap]

@[simp] theorem Dev.resetAt_riseCause (d : Dev) (n : Nat) : (d.riseCause n).choir.resetAt = d.choir.resetAt := by simp [Dev.riseCause]

@[simp] theorem Dev.resetAt_clampK (d : Dev) (n ext : Nat) : (d.clampK n ext).choir.resetAt = d.choir.resetAt := by simp [Dev.clampK]

@[simp] theorem Dev.resetAt_takeRise (d : Dev) (n ext : Nat) : (d.takeRise n ext).choir.resetAt = d.choir.resetAt := by simp [Dev.takeRise]

@[simp] theorem Dev.resetAt_loseEdge (d : Dev) (n ext fine : Nat) : (d.loseEdge n ext fine).choir.resetAt = d.choir.resetAt := by
  simp [Dev.loseEdge]

@[simp] theorem Dev.resetAt_stampEdge (d : Dev) (n ext fine : Nat) (rising : Bool) :
    (d.stampEdge n ext fine rising).choir.resetAt = d.choir.resetAt := by simp [Dev.stampEdge]

@[simp] theorem Dev.resetAt_countEdge (d : Dev) (n ext : Nat) : (d.countEdge n ext).choir.resetAt = d.choir.resetAt := by simp [Dev.countEdge]

@[simp] theorem Dev.resetAt_countExtra (d : Dev) (n ext extra : Nat) : (d.countExtra n ext extra).choir.resetAt = d.choir.resetAt := by
  simp [Dev.countExtra]

@[simp] theorem Dev.resetAt_dropPair (d : Dev) (n : Nat) : (d.dropPair n).choir.resetAt = d.choir.resetAt := by simp [Dev.dropPair]

@[simp] theorem Dev.resetAt_takeEdge (d : Dev) (n ext fine : Nat) (rising pair : Bool) :
    (d.takeEdge n ext fine rising pair).1.choir.resetAt = d.choir.resetAt := by
  simp only [Dev.takeEdge]
  split
  · simp
  · split
    · simp
    · split <;> simp

@[simp] theorem Dev.resetAt_takeFound (n start : Nat) (found : List Found) (extra : Nat) (paired : Bool) (d : Dev) :
    (Dev.takeFound n start found extra paired d).choir.resetAt = d.choir.resetAt := by
  induction found generalizing extra paired d with
  | nil => simp [Dev.takeFound]
  | cons f rest ih => cases f <;> simp [Dev.takeFound, ih]

@[simp] theorem Dev.resetAt_takeLater (d : Dev) (n : Nat) : (d.takeLater n).choir.resetAt = d.choir.resetAt := by simp [Dev.takeLater]

@[simp] theorem Dev.resetAt_epochMarkers (d : Dev) (ext : Nat) : (d.epochMarkers ext).choir.resetAt = d.choir.resetAt := by simp [Dev.epochMarkers]

@[simp] theorem Dev.resetAt_wrapEpoch (d : Dev) : d.wrapEpoch.choir.resetAt = d.choir.resetAt := by simp [Dev.wrapEpoch]

/-! ### Tuning -/

@[simp] theorem Dev.resetAt_followOwner (d : Dev) (c : Nat) : (d.followOwner c).choir.resetAt = d.choir.resetAt := by simp [Dev.followOwner]

@[simp] theorem Dev.resetAt_beginTuning (d : Dev) (c : Nat) : (d.beginTuning c).choir.resetAt = d.choir.resetAt := by simp [Dev.beginTuning]

@[simp] theorem Dev.resetAt_setTune (d : Dev) (c st : Nat) : (d.setTune c st).choir.resetAt = d.choir.resetAt := by simp [Dev.setTune]

@[simp] theorem Dev.resetAt_swapTable (d : Dev) (c coarse : Nat) : (d.swapTable c coarse).choir.resetAt = d.choir.resetAt := by simp [Dev.swapTable]

/-! ### Exciters and monitors -/

@[simp] theorem Dev.resetAt_driveExc (d : Dev) (x : Nat) : (d.driveExc x).choir.resetAt = d.choir.resetAt := by simp [Dev.driveExc]

@[simp] theorem Dev.resetAt_holdExc (d : Dev) (x : Nat) : (d.holdExc x).choir.resetAt = d.choir.resetAt := by simp [Dev.holdExc]

@[simp] theorem Dev.resetAt_followTrip (d : Dev) (x : Nat) : (d.followTrip x).choir.resetAt = d.choir.resetAt := by simp [Dev.followTrip]

@[simp] theorem Dev.resetAt_assertTrip (d : Dev) (x : Nat) : (d.assertTrip x).choir.resetAt = d.choir.resetAt := by simp [Dev.assertTrip]

@[simp] theorem Dev.resetAt_followTrips (d : Dev) : d.followTrips.choir.resetAt = d.choir.resetAt := by simp [Dev.followTrips]

@[simp] theorem Dev.resetAt_boundaryStarts (d : Dev) (n : Nat) (gated : Bool) : (d.boundaryStarts n gated).choir.resetAt = d.choir.resetAt := by
  simp [Dev.boundaryStarts]

@[simp] theorem Dev.resetAt_settleMonitor (d : Dev) (m : Nat) (due : Bool) : (d.settleMonitor m due).choir.resetAt = d.choir.resetAt := by
  simp [Dev.settleMonitor]

@[simp] theorem Dev.resetAt_dropSchedule (d : Dev) (x : Nat) : (d.dropSchedule x).choir.resetAt = d.choir.resetAt := by
  simp only [Dev.dropSchedule, Dev.resetAt_driveExc]
  split <;> simp

/-! ### The fit engine -/

@[simp] theorem Dev.resetAt_takePairs (d : Dev) (v base ext n t : Nat) : (d.takePairs v base ext n t).choir.resetAt = d.choir.resetAt := by
  simp [Dev.takePairs]

@[simp] theorem Dev.resetAt_moveSums (d : Dev) (v : Nat) (e : Entry) : (d.moveSums v e).choir.resetAt = d.choir.resetAt := by
  rw [Dev.moveSums, Dev.putFitVoice_choir, Dev.resetAt_each]
  exact fun _ _ => rfl

@[simp] theorem Dev.resetAt_takeFit (d : Dev) (v : Nat) (e : Entry) : (d.takeFit v e).choir.resetAt = d.choir.resetAt := by
  unfold Dev.takeFit
  split
  · simp
  · split
    · rfl
    · dsimp only
      split <;> simp

@[simp] theorem Dev.resetAt_drainFit (d : Dev) (v id : Nat) : (d.drainFit v id).choir.resetAt = d.choir.resetAt := by simp [Dev.drainFit]

@[simp] theorem Dev.resetAt_drainFits (d : Dev) : d.drainFits.choir.resetAt = d.choir.resetAt := by simp [Dev.drainFits]

@[simp] theorem Dev.resetAt_markBound (d : Dev) (v ext : Nat) : (d.markBound v ext).choir.resetAt = d.choir.resetAt := by simp [Dev.markBound]

@[simp] theorem Dev.resetAt_decimFall (d : Dev) (v : Nat) (tm : Timer) (ext : Nat) : (d.decimFall v tm ext).choir.resetAt = d.choir.resetAt := by
  unfold Dev.decimFall
  split
  · rfl
  · dsimp only
    split <;> simp

@[simp] theorem Dev.resetAt_freshRecord (d : Dev) (v ext : Nat) (gated : Bool) : (d.freshRecord v ext gated).choir.resetAt = d.choir.resetAt := by
  simp [Dev.freshRecord]

@[simp] theorem Dev.resetAt_endProbation (d : Dev) (src : Nat) : (d.endProbation src).choir.resetAt = d.choir.resetAt := by simp [Dev.endProbation]

@[simp] theorem Dev.resetAt_decayStrike (d : Dev) (src : Nat) (whole : Bool) : (d.decayStrike src whole).choir.resetAt = d.choir.resetAt := by
  simp [Dev.decayStrike]

@[simp] theorem Dev.resetAt_decayStrikes (d : Dev) (t : Nat) (tm : Timer) : (d.decayStrikes t tm).choir.resetAt = d.choir.resetAt := by
  simp [Dev.decayStrikes]

@[simp] theorem Dev.resetAt_takeEps (d : Dev) (t b : Nat) : (d.takeEps t b).choir.resetAt = d.choir.resetAt := by simp [Dev.takeEps]

@[simp] theorem Dev.resetAt_endContexts (d : Dev) (vs : List Nat) (t ext : Nat) : (d.endContexts vs t ext).choir.resetAt = d.choir.resetAt := by
  simp [Dev.endContexts]

@[simp] theorem Dev.resetAt_endPeriod (d : Dev) (t ext : Nat) : (d.endPeriod t ext).choir.resetAt = d.choir.resetAt := by simp [Dev.endPeriod]

@[simp] theorem Dev.resetAt_beginPeriod (d : Dev) (t ext : Nat) (gated : Bool) : (d.beginPeriod t ext gated).choir.resetAt = d.choir.resetAt := by
  simp [Dev.beginPeriod]

/-! ### Capture -/

@[simp] theorem Dev.resetAt_capState (d : Dev) (s : Nat) : (d.capState s).choir.resetAt = d.choir.resetAt := by simp [Dev.capState]

@[simp] theorem Dev.resetAt_fillOrArm (d : Dev) : d.fillOrArm.choir.resetAt = d.choir.resetAt := by simp [Dev.fillOrArm]

@[simp] theorem Dev.resetAt_takeSegment (d : Dev) : d.takeSegment.choir.resetAt = d.choir.resetAt := by
  unfold Dev.takeSegment
  split
  · simp
  · dsimp only
    split <;> simp

@[simp] theorem Dev.resetAt_writeCaptured (d : Dev) (w : Nat) : (d.writeCaptured w).choir.resetAt = d.choir.resetAt := by simp [Dev.writeCaptured]

@[simp] theorem Dev.resetAt_indexCapture (d : Dev) (trunc aborted : Bool) : (d.indexCapture trunc aborted).choir.resetAt = d.choir.resetAt := by
  unfold Dev.indexCapture
  split <;> simp

@[simp] theorem Dev.resetAt_finishCapture (d : Dev) (trunc : Bool) : (d.finishCapture trunc).choir.resetAt = d.choir.resetAt := by
  simp [Dev.finishCapture]

@[simp] theorem Dev.resetAt_feedPost (d : Dev) (l : List (Nat × Nat)) : (d.feedPost l).choir.resetAt = d.choir.resetAt := by
  induction l generalizing d with
  | nil => rfl
  | cons p rest ih =>
    simp only [Dev.feedPost]
    split
    · simp
    · simp [ih]

@[simp] theorem Dev.resetAt_missTrigger (d : Dev) (a cause cond time : Nat) : (d.missTrigger a cause cond time).choir.resetAt = d.choir.resetAt := by
  simp [Dev.missTrigger]

@[simp] theorem Dev.resetAt_acceptTrigger (d : Dev) (a : Nat) (take : Option Nat) (time : Nat) :
    (d.acceptTrigger a take time).choir.resetAt = d.choir.resetAt := by simp [Dev.acceptTrigger]

@[simp] theorem Dev.resetAt_trigger (d : Dev) (a cond : Nat) (take : Option Nat) (time : Nat) :
    (d.trigger a cond take time).choir.resetAt = d.choir.resetAt := by
  unfold Dev.trigger
  dsimp only
  split
  · rfl
  · split
    · simp
    · split
      · split
        · split <;> simp
        · rfl
      · simp

@[simp] theorem Dev.resetAt_disableCapture (d : Dev) : d.disableCapture.choir.resetAt = d.choir.resetAt := by simp [Dev.disableCapture]

@[simp] theorem Dev.resetAt_enableCapture (d : Dev) : d.enableCapture.choir.resetAt = d.choir.resetAt := by simp [Dev.enableCapture]

@[simp] theorem Dev.resetAt_flushCapture (d : Dev) : d.flushCapture.choir.resetAt = d.choir.resetAt := by simp [Dev.flushCapture]

/-! ### The link -/

@[simp] theorem Dev.resetAt_startTx (d : Dev) (p hops : Nat) (body : List Nat) : (d.startTx p hops body).choir.resetAt = d.choir.resetAt := by
  simp [Dev.startTx]

@[simp] theorem Dev.resetAt_flushPort (p : Nat) (l : List (Nat × List Nat)) (d : Dev) : (Dev.flushPort p l d).choir.resetAt = d.choir.resetAt := by
  induction l generalizing d with
  | nil => rfl
  | cons f rest ih => simp [Dev.flushPort, ih]

@[simp] theorem Dev.resetAt_queueTx (d : Dev) (p hops : Nat) (body : List Nat) : (d.queueTx p hops body).choir.resetAt = d.choir.resetAt := by
  simp [Dev.queueTx]

@[simp] theorem Dev.resetAt_newMessage (d : Dev) (type dst : Nat) (bcast : Bool) (payload : List Nat) :
    (d.newMessage type dst bcast payload).1.choir.resetAt = d.choir.resetAt := by simp [Dev.newMessage]

@[simp] theorem Dev.resetAt_send (d : Dev) (type dst : Nat) (bcast : Bool) (payload : List Nat) :
    (d.send type dst bcast payload).choir.resetAt = d.choir.resetAt := by simp [Dev.send]

@[simp] theorem Dev.resetAt_retrain (d : Dev) (p : Nat) : (d.retrain p).choir.resetAt = d.choir.resetAt := by simp [Dev.retrain]

/-! ### The journal -/

@[simp] theorem Dev.resetAt_putTot (d : Dev) (q : List TotEntry) : (d.putTot q).choir.resetAt = d.choir.resetAt := by simp [Dev.putTot]

@[simp] theorem Dev.resetAt_queueTot (d : Dev) (e : TotEntry) : (d.queueTot e).choir.resetAt = d.choir.resetAt := by simp [Dev.queueTot]

@[simp] theorem Dev.resetAt_totStart (d : Dev) : d.totStart.choir.resetAt = d.choir.resetAt := by simp [Dev.totStart]

/-! ### Analysers -/

@[simp] theorem Dev.resetAt_histogram (d : Dev) (a u : Nat) : (d.histogram a u).choir.resetAt = d.choir.resetAt := by simp [Dev.histogram]

@[simp] theorem Dev.resetAt_measure (d : Dev) (a u : Nat) (t : Taken) : (d.measure a u t).choir.resetAt = d.choir.resetAt := by simp [Dev.measure]

@[simp] theorem Dev.resetAt_stopStamp (d : Dev) (a : Nat) (t : Taken) : (d.stopStamp a t).choir.resetAt = d.choir.resetAt := by
  simp only [Dev.stopStamp]
  split
  · split <;> simp
  · simp

@[simp] theorem Dev.resetAt_intervalStamp (d : Dev) (a : Nat) (t : Taken) (start stop : Bool) :
    (d.intervalStamp a t start stop).choir.resetAt = d.choir.resetAt := by simp [Dev.intervalStamp]

@[simp] theorem Dev.resetAt_pulseStamp (d : Dev) (a : Nat) (t : Taken) : (d.pulseStamp a t).choir.resetAt = d.choir.resetAt := by
  simp only [Dev.pulseStamp]
  split
  · simp
  · split <;> simp

@[simp] theorem Dev.resetAt_anaRoll (d : Dev) (a stop : Nat) : (d.anaRoll a stop).choir.resetAt = d.choir.resetAt := by simp [Dev.anaRoll]

@[simp] theorem Dev.resetAt_anaRollTo (d : Dev) (a ext : Nat) (x : Nat) : (d.anaRollTo a ext x).choir.resetAt = d.choir.resetAt := by
  induction x generalizing d with
  | zero => rfl
  | succ n ih =>
    simp only [Dev.anaRollTo]
    split
    · split
      · simp [ih]
      · rfl
    · rfl

@[simp] theorem Dev.resetAt_takeCount (d : Dev) (a stop evcnt : Nat) : (d.takeCount a stop evcnt).choir.resetAt = d.choir.resetAt := by
  simp [Dev.takeCount]

@[simp] theorem Dev.resetAt_anaProcess (d : Dev) (a : Nat) (t : Taken) (role : Nat) : (d.anaProcess a t role).choir.resetAt = d.choir.resetAt := by
  simp [Dev.anaProcess]

@[simp] theorem Dev.resetAt_anaTrigger (d : Dev) (a : Nat) : (d.anaTrigger a).choir.resetAt = d.choir.resetAt := by
  simp only [Dev.anaTrigger]
  split
  · rfl
  · split <;> simp

@[simp] theorem Dev.resetAt_anaDrain (d : Dev) (a stop : Nat) (x : Nat) : (d.anaDrain a stop x).choir.resetAt = d.choir.resetAt := by
  induction x generalizing d with
  | zero => rfl
  | succ n ih =>
    simp only [Dev.anaDrain]
    split
    · split
      · simp [ih]
      · rfl
    · rfl

@[simp] theorem Dev.resetAt_preFeed (d : Dev) (a : Nat) : (d.preFeed a).choir.resetAt = d.choir.resetAt := by simp [Dev.preFeed]

@[simp] theorem Dev.resetAt_anaReach (d : Dev) (a stop : Nat) : (d.anaReach a stop).choir.resetAt = d.choir.resetAt := by simp [Dev.anaReach]

@[simp] theorem Dev.resetAt_anaEndOne (d : Dev) (a t stop : Nat) (tm : Timer) : (d.anaEndOne a t stop tm).choir.resetAt = d.choir.resetAt := by
  simp [Dev.anaEndOne]

@[simp] theorem Dev.resetAt_anaEndPeriod (d : Dev) (t stop : Nat) (tm : Timer) : (d.anaEndPeriod t stop tm).choir.resetAt = d.choir.resetAt := by
  simp [Dev.anaEndPeriod]

@[simp] theorem Dev.resetAt_anaBeginPeriod (d : Dev) (t : Nat) (gated : Bool) : (d.anaBeginPeriod t gated).choir.resetAt = d.choir.resetAt := by
  simp [Dev.anaBeginPeriod]

/-! ### The track channel -/

@[simp] theorem Dev.resetAt_tachStamp (d : Dev) (e : Entry) : (d.tachStamp e).choir.resetAt = d.choir.resetAt := by simp [Dev.tachStamp]

@[simp] theorem Dev.resetAt_drainTach (d : Dev) (ext : Nat) : (d.drainTach ext).choir.resetAt = d.choir.resetAt := by simp [Dev.drainTach]

@[simp] theorem Dev.resetAt_applyZone (d : Dev) (z : Nat) : (d.applyZone z).choir.resetAt = d.choir.resetAt := by simp [Dev.applyZone]

@[simp] theorem Dev.resetAt_trackRecord (d : Dev) (kind seg inhibit : Nat) (mass : F64) (added ok bad : Nat) (at0 : Nat × Nat) :
    (d.trackRecord kind seg inhibit mass added ok bad at0).choir.resetAt = d.choir.resetAt := by simp [Dev.trackRecord]

@[simp] theorem Dev.resetAt_reallocate (d : Dev) (s : Nat) : (d.reallocate s).choir.resetAt = d.choir.resetAt := by
  unfold Dev.reallocate
  split
  · rfl
  · split
    · split <;> simp
    · simp

@[simp] theorem Dev.resetAt_endRevolution (d : Dev) : d.endRevolution.choir.resetAt = d.choir.resetAt := by simp [Dev.endRevolution]

@[simp] theorem Dev.resetAt_checkBridged (d : Dev) (t : Nat) : (d.checkBridged t).choir.resetAt = d.choir.resetAt := by
  unfold Dev.checkBridged
  split <;> simp

@[simp] theorem Dev.resetAt_passZero (d : Dev) : d.passZero.choir.resetAt = d.choir.resetAt := by simp [Dev.passZero]

@[simp] theorem Dev.resetAt_followHead (d : Dev) (t : Nat) : (d.followHead t).choir.resetAt = d.choir.resetAt := by simp [Dev.followHead]

@[simp] theorem Dev.resetAt_acquire (d : Dev) : d.acquire.choir.resetAt = d.choir.resetAt := by simp [Dev.acquire]

@[simp] theorem Dev.resetAt_followTach (d : Dev) : d.followTach.choir.resetAt = d.choir.resetAt := by simp [Dev.followTach]

@[simp] theorem Dev.resetAt_takeSpeed (d : Dev) (v : F64) : (d.takeSpeed v).choir.resetAt = d.choir.resetAt := by simp [Dev.takeSpeed]

@[simp] theorem Dev.resetAt_beltBoundary (d : Dev) (start stop : Nat) : (d.beltBoundary start stop).1.choir.resetAt = d.choir.resetAt := by
  unfold Dev.beltBoundary
  split
  · rfl
  · dsimp only
    split <;> simp

@[simp] theorem Dev.resetAt_startTrack (d : Dev) : d.startTrack.choir.resetAt = d.choir.resetAt := by
  simp only [Dev.startTrack]
  split <;> simp

/-! ### The pipeline -/

@[simp] theorem Dev.resetAt_openJob (d : Dev) (start stop pseq : Nat) (res : Tab PairRes) (extra : Nat) (stale : Bool) (b : BeltEnd) :
    (d.openJob start stop pseq res extra stale b).choir.resetAt = d.choir.resetAt := by simp [Dev.openJob]

@[simp] theorem Dev.resetAt_startPipeline (d : Dev) : d.startPipeline.choir.resetAt = d.choir.resetAt := by simp [Dev.startPipeline]

/-! ### The timebase -/

@[simp] theorem Dev.resetAt_showRefOut (d : Dev) : d.showRefOut.choir.resetAt = d.choir.resetAt := by simp [Dev.showRefOut]

@[simp] theorem Dev.resetAt_imageRefOut (d : Dev) : d.imageRefOut.choir.resetAt = d.choir.resetAt := by simp [Dev.imageRefOut]

@[simp] theorem Dev.resetAt_decideSwitch (d : Dev) (target : Nat) (cfg : Bool) : (d.decideSwitch target cfg).choir.resetAt = d.choir.resetAt := by
  simp [Dev.decideSwitch]

@[simp] theorem Dev.resetAt_planSwitch (d : Dev) : d.planSwitch.choir.resetAt = d.choir.resetAt := by simp [Dev.planSwitch]

/-! ### An applied image -/

@[simp] theorem Dev.resetAt_applyState (d : Dev) (st : Nat) : (d.applyState st).choir.resetAt = d.choir.resetAt := by simp [Dev.applyState]

@[simp] theorem Dev.resetAt_endApply (d : Dev) : d.endApply.choir.resetAt = d.choir.resetAt := by simp [Dev.endApply]

@[simp] theorem Dev.resetAt_checkViov (d : Dev) : d.checkViov.choir.resetAt = d.choir.resetAt := by simp [Dev.checkViov]

@[simp] theorem Dev.resetAt_disableVoice (d : Dev) (n : Nat) : (d.disableVoice n).choir.resetAt = d.choir.resetAt := by simp [Dev.disableVoice]

@[simp] theorem Dev.resetAt_restartVoice (d : Dev) (n ext : Nat) : (d.restartVoice n ext).choir.resetAt = d.choir.resetAt := by
  simp [Dev.restartVoice]

@[simp] theorem Dev.resetAt_applyVoices (d o : Dev) (ext : Nat) : (d.applyVoices o ext).choir.resetAt = d.choir.resetAt := by simp [Dev.applyVoices]

@[simp] theorem Dev.resetAt_applyRings (d o : Dev) : (d.applyRings o).choir.resetAt = d.choir.resetAt := by simp [Dev.applyRings]

@[simp] theorem Dev.resetAt_showThresholds (d : Dev) : d.showThresholds.choir.resetAt = d.choir.resetAt := by simp [Dev.showThresholds]

@[simp] theorem Dev.resetAt_monitorOff (d : Dev) (m : Nat) : (d.monitorOff m).choir.resetAt = d.choir.resetAt := by simp [Dev.monitorOff]

@[simp] theorem Dev.resetAt_applyMonitors (d o : Dev) : (d.applyMonitors o).choir.resetAt = d.choir.resetAt := by simp [Dev.applyMonitors]

@[simp] theorem Dev.resetAt_wakeExc (d : Dev) (x : Nat) : (d.wakeExc x).choir.resetAt = d.choir.resetAt := by simp [Dev.wakeExc]

@[simp] theorem Dev.resetAt_applyExcs (d o : Dev) : (d.applyExcs o).choir.resetAt = d.choir.resetAt := by simp [Dev.applyExcs]

@[simp] theorem Dev.resetAt_applyCapture (d o : Dev) : (d.applyCapture o).choir.resetAt = d.choir.resetAt := by simp [Dev.applyCapture]

@[simp] theorem Dev.resetAt_applyAnas (d o : Dev) (ext : Nat) : (d.applyAnas o ext).choir.resetAt = d.choir.resetAt := by simp [Dev.applyAnas]

@[simp] theorem Dev.resetAt_takeTable (d : Dev) (t : Store) : (d.takeTable t).choir.resetAt = d.choir.resetAt := by simp [Dev.takeTable]

@[simp] theorem Dev.resetAt_showActive (d : Dev) (m : ImgSt) : (d.showActive m).choir.resetAt = d.choir.resetAt := by simp [Dev.showActive]

@[simp] theorem Dev.resetAt_sendCfgHash (d : Dev) : d.sendCfgHash.choir.resetAt = d.choir.resetAt := by simp [Dev.sendCfgHash]

@[simp] theorem Dev.resetAt_portsDown (d : Dev) : d.portsDown.choir.resetAt = d.choir.resetAt := by simp [Dev.portsDown]

@[simp] theorem Dev.resetAt_choirOfOne (d : Dev) : d.choirOfOne.choir.resetAt = d.choir.resetAt := by simp [Dev.choirOfOne]

@[simp] theorem Dev.resetAt_applyRole (d o : Dev) : (d.applyRole o).choir.resetAt = d.choir.resetAt := by simp [Dev.applyRole]

@[simp] theorem Dev.resetAt_applyChoir (d : Dev) : d.applyChoir.choir.resetAt = d.choir.resetAt := by simp [Dev.applyChoir]

@[simp] theorem Dev.resetAt_applySetpoint (d : Dev) (i : Nat) : (d.applySetpoint i).choir.resetAt = d.choir.resetAt := by simp [Dev.applySetpoint]

@[simp] theorem Dev.resetAt_applyWeighing (d o : Dev) : (d.applyWeighing o).choir.resetAt = d.choir.resetAt := by simp [Dev.applyWeighing]

@[simp] theorem Dev.resetAt_restTimer (d : Dev) (t reason : Nat) : (d.restTimer t reason).choir.resetAt = d.choir.resetAt := by
  rw [Dev.restTimer, Dev.resetAt_each, Dev.resetAt_each]
  · intro d v
    simp
  · intro d a
    split <;> simp

@[simp] theorem Dev.resetAt_anaCatchUp (d : Dev) (ext : Nat) : (d.anaCatchUp ext).choir.resetAt = d.choir.resetAt := by simp [Dev.anaCatchUp]

@[simp] theorem Dev.resetAt_endPeriods (d new : Dev) (ends : List Nat) (ext : Nat) : (d.endPeriods new ends ext).choir.resetAt = d.choir.resetAt := by
  simp [Dev.endPeriods]

@[simp] theorem Dev.resetAt_startTimer (d : Dev) (t : Nat) : (d.startTimer t).choir.resetAt = d.choir.resetAt := by simp [Dev.startTimer]

@[simp] theorem Dev.resetAt_joinTimers (d o : Dev) (ends : List Nat) (ext : Nat) (gated : Bool) :
    (d.joinTimers o ends ext gated).choir.resetAt = d.choir.resetAt := by
  rw [Dev.joinTimers, Dev.resetAt_each, Dev.resetAt_each]
  · intro d v
    simp
  · intro d a
    simp

@[simp] theorem Dev.resetAt_applyTimers (d o : Dev) (ends : List Nat) (ext : Nat) (gated : Bool) :
    (d.applyTimers o ends ext gated).choir.resetAt = d.choir.resetAt := by simp [Dev.applyTimers]

@[simp] theorem Dev.resetAt_markGroups (d o : Dev) : (d.markGroups o).choir.resetAt = d.choir.resetAt := by simp [Dev.markGroups]

end Sys2Proof.Machine

end

/-! PROOFS: what the apply unit shows of a staged image, and all that follows the switch of a period's timers. -/
section

namespace Sys2Proof.Machine

open Reg

variable {n t : Nat}

/-! ### The fields of a staged image -/

/-- What the apply unit shows of a staged image: its state, the generation and the check code. -/
def RegFile.staged (r : RegFile) : Nat × Nat × Nat := (r.get APPLY_STATUS_STATE, r.get STAGED_GEN, r.get CHECK_STAGED)

/-- A field that lies before or behind the fields of the apply unit. -/
def Fld.apart (f : Fld) : Bool := decide (f.key < 1310848) || decide (1311616 < f.key)

theorem Fld.apart_iff {f : Fld} : f.apart = true ↔ f.key < 1310848 ∨ 1311616 < f.key := by simp [Fld.apart]

theorem Fld.ne_of_apart {f : Fld} (h : f.apart) {g : Fld} (hg : g ∈ [APPLY_STATUS_STATE, STAGED_GEN, CHECK_STAGED]) : g.key ≠ f.key := by
  have lies : 1310848 ≤ g.key ∧ g.key ≤ 1311616 := by
    revert g
    decide
  rw [Fld.apart_iff] at h
  omega

theorem Dev.staged_of_rd {d e : Dev} (same : ∀ g ∈ [APPLY_STATUS_STATE, STAGED_GEN, CHECK_STAGED], e.rd g = d.rd g) :
    e.regs.staged = d.regs.staged :=
  Prod.ext (same _ (by simp)) (Prod.ext (same _ (by simp)) (same _ (by simp)))

theorem Frame.staged {us : List Part} {fs : List Fld} {d e : Dev} (h : Frame us fs d e) (hf : ∀ f ∈ fs, f.apart) :
    e.regs.staged = d.regs.staged :=
  Dev.staged_of_rd fun _ hg => h.rd fun f mem => Fld.ne_of_apart (hf f mem) hg

@[simp] theorem Dev.staged_wr {f : Fld} (h : f.apart) (d : Dev) (v : Nat) : (d.wr f v).regs.staged = d.regs.staged :=
  Dev.staged_of_rd fun _ hg => Dev.rd_wr_key d v (Fld.ne_of_apart h hg)

@[simp] theorem Dev.staged_inc {f : Fld} (h : f.apart) (d : Dev) : (d.inc f).regs.staged = d.regs.staged := Dev.staged_wr h d _

@[simp] theorem Dev.staged_step1 {f : Fld} (h : f.apart) (d : Dev) : (d.step1 f).regs.staged = d.regs.staged := Dev.staged_wr h d _

/-! ### Where the fields lie that a period's end and begin write -/

@[simp] theorem apart_VOICE_STATUS_FIFO_LEVEL (h : n < 16) : (VOICE_STATUS_FIFO_LEVEL n).apart := by
  simp only [Fld.apart_iff, VOICE_STATUS_FIFO_LEVEL]
  omega

@[simp] theorem apart_VOICE_STATUS_STATE (h : n < 16) : (VOICE_STATUS_STATE n).apart := by
  simp only [Fld.apart_iff, VOICE_STATUS_STATE]
  omega

@[simp] theorem apart_VOICE_STATUS_K (h : n < 16) : (VOICE_STATUS_K n).apart := by
  simp only [Fld.apart_iff, VOICE_STATUS_K]
  omega

@[simp] theorem apart_VOICE_EVENT_KMAX_HIT (h : n < 16) : (VOICE_EVENT_KMAX_HIT n).apart := by
  simp only [Fld.apart_iff, VOICE_EVENT_KMAX_HIT]
  omega

@[simp] theorem apart_VOICE_EVENT_DECIM_UP (h : n < 16) : (VOICE_EVENT_DECIM_UP n).apart := by
  simp only [Fld.apart_iff, VOICE_EVENT_DECIM_UP]
  omega

@[simp] theorem apart_VOICE_EVENT_DECIM_DOWN (h : n < 16) : (VOICE_EVENT_DECIM_DOWN n).apart := by
  simp only [Fld.apart_iff, VOICE_EVENT_DECIM_DOWN]
  omega

@[simp] theorem apart_VOICE_EVENT_OVERRUN (h : n < 16) : (VOICE_EVENT_OVERRUN n).apart := by
  simp only [Fld.apart_iff, VOICE_EVENT_OVERRUN]
  omega

@[simp] theorem apart_VOICE_EVENT_RUNT (h : n < 16) : (VOICE_EVENT_RUNT n).apart := by
  simp only [Fld.apart_iff, VOICE_EVENT_RUNT]
  omega

@[simp] theorem apart_VOICE_EVENT_RETIRED (h : n < 16) : (VOICE_EVENT_RETIRED n).apart := by
  simp only [Fld.apart_iff, VOICE_EVENT_RETIRED]
  omega

@[simp] theorem apart_VOICE_OVERRUN_COUNT_COUNT (h : n < 16) : (VOICE_OVERRUN_COUNT_COUNT n).apart := by
  simp only [Fld.apart_iff, VOICE_OVERRUN_COUNT_COUNT]
  omega

@[simp] theorem apart_VOICE_RUNT_COUNT_COUNT (h : n < 16) : (VOICE_RUNT_COUNT_COUNT n).apart := by
  simp only [Fld.apart_iff, VOICE_RUNT_COUNT_COUNT]
  omega

@[simp] theorem apart_VOICE_EVTOTAL_COUNT (h : n < 16) : (VOICE_EVTOTAL_COUNT n).apart := by
  simp only [Fld.apart_iff, VOICE_EVTOTAL_COUNT]
  omega

@[simp] theorem apart_FIT_VOICE_STATUS_SILENT (h : n < 16) : (FIT_VOICE_STATUS_SILENT n).apart := by
  simp only [Fld.apart_iff, FIT_VOICE_STATUS_SILENT]
  omega

@[simp] theorem apart_TUNE_HITS_COUNT (h : n < 20) : (TUNE_HITS_COUNT n).apart := by
  simp only [Fld.apart_iff, TUNE_HITS_COUNT]
  omega

@[simp] theorem apart_TUNE_STATUS_MODE (h : n < 20) : (TUNE_STATUS_MODE n).apart := by
  simp only [Fld.apart_iff, TUNE_STATUS_MODE]
  omega

@[simp] theorem apart_TUNE_STATUS_STATE (h : n < 20) : (TUNE_STATUS_STATE n).apart := by
  simp only [Fld.apart_iff, TUNE_STATUS_STATE]
  omega

@[simp] theorem apart_TUNE_STATUS_PENDING (h : n < 20) : (TUNE_STATUS_PENDING n).apart := by
  simp only [Fld.apart_iff, TUNE_STATUS_PENDING]
  omega

@[simp] theorem apart_TUNE_SEQ_COUNT (h : n < 20) : (TUNE_SEQ_COUNT n).apart := by
  simp only [Fld.apart_iff, TUNE_SEQ_COUNT]
  omega

@[simp] theorem apart_TUNE_SWAP_TIME_TIME (h : n < 20) : (TUNE_SWAP_TIME_TIME n).apart := by
  simp only [Fld.apart_iff, TUNE_SWAP_TIME_TIME]
  omega

@[simp] theorem apart_EXC_SKIP_COUNT_COUNT (h : n < 8) : (EXC_SKIP_COUNT_COUNT n).apart := by
  simp only [Fld.apart_iff, EXC_SKIP_COUNT_COUNT]
  omega

@[simp] theorem apart_TIMER_PCOUNT_COUNT (h : n < 4) : (TIMER_PCOUNT_COUNT n).apart := by
  simp only [Fld.apart_iff, TIMER_PCOUNT_COUNT]
  omega

@[simp] theorem apart_TIMER_STATUS_RUNNING (h : n < 4) : (TIMER_STATUS_RUNNING n).apart := by
  simp only [Fld.apart_iff, TIMER_STATUS_RUNNING]
  omega

@[simp] theorem apart_ANA_RSTAT_TOTAL_SUSPECT (h : n < 4) : (ANA_RSTAT_TOTAL_SUSPECT n).apart := by
  simp only [Fld.apart_iff, ANA_RSTAT_TOTAL_SUSPECT]
  omega

@[simp] theorem apart_STRIKE_STRIKES (n : Nat) : (STRIKE_STRIKES n).apart := by
  simp only [Fld.apart_iff, STRIKE_STRIKES]
  omega

@[simp] theorem apart_STRIKE_DECAY_COUNT (n : Nat) : (STRIKE_DECAY_COUNT n).apart := by
  simp only [Fld.apart_iff, STRIKE_DECAY_COUNT]
  omega

@[simp] theorem apart_STRIKE_PROB_LEFT (n : Nat) : (STRIKE_PROB_LEFT n).apart := by
  simp only [Fld.apart_iff, STRIKE_PROB_LEFT]
  omega

@[simp] theorem apart_STRIKE_PROBATION (n : Nat) : (STRIKE_PROBATION n).apart := by
  simp only [Fld.apart_iff, STRIKE_PROBATION]
  omega

@[simp] theorem apart_STRIKE_RETIRED (n : Nat) : (STRIKE_RETIRED n).apart := by
  simp only [Fld.apart_iff, STRIKE_RETIRED]
  omega

/-! ### Branches and loops -/

@[simp] theorem Dev.regs_ite (c : Prop) [Decidable c] (a b : Dev) : (if c then a else b).regs = if c then a.regs else b.regs :=
  apply_ite Dev.regs c a b

@[simp] theorem RegFile.staged_ite (c : Prop) [Decidable c] (a b : RegFile) :
    (if c then a else b).staged = if c then a.staged else b.staged :=
  apply_ite RegFile.staged c a b

theorem Dev.staged_each {α : Type} {f : Dev → α → Dev} {l : List α}
    (kept : ∀ x ∈ l, ∀ d : Dev, (f d x).regs.staged = d.regs.staged) (d : Dev) :
    (d.each l f).regs.staged = d.regs.staged := by
  induction l generalizing d with
  | nil => rfl
  | cons x l ih =>
    exact (ih (fun y hy => kept y (List.mem_cons_of_mem x hy)) (f d x)).trans (kept x List.mem_cons_self d)

@[simp] theorem Dev.staged_when {f : Dev → Dev} (kept : ∀ d : Dev, (f d).regs.staged = d.regs.staged) (d : Dev) (c : Bool) :
    (d.when c f).regs.staged = d.regs.staged := by
  cases c
  · rfl
  · exact kept d

/-! ### The state operations -/

@[simp] theorem Dev.staged_putVoice (h : n < 16) (d : Dev) (v : Voice) : (d.putVoice n v).regs.staged = d.regs.staged :=
  Dev.staged_wr (apart_VOICE_STATUS_FIFO_LEVEL h) _ _

@[simp] theorem Dev.staged_restVoice (h : n < 16) (d : Dev) (reason : Nat) : (d.restVoice n reason).regs.staged = d.regs.staged := by
  rw [Dev.restVoice, Dev.staged_each fun a _ e => by split <;> rfl]
  exact Dev.staged_putVoice h _ _

@[simp] theorem Dev.staged_restAll (d : Dev) (reason : Nat) : (d.restAll reason).regs.staged = d.regs.staged :=
  Dev.staged_each (fun _ hv e => Dev.staged_restVoice (List.mem_range.1 hv) e reason) d

@[simp] theorem Dev.regs_offer (d : Dev) (ring producer : Nat) (words : List Nat) : (d.offer ring producer words).regs = d.regs := by
  simp [Dev.offer]

@[simp] theorem Dev.regs_notify (d : Dev) (kind sub arg : Nat) : (d.notify kind sub arg).regs = d.regs := by simp [Dev.notify]

@[simp] theorem Dev.staged_putLog (d : Dev) (q : List LogRec) : (d.putLog q).regs.staged = d.regs.staged := Dev.staged_wr (by decide) _ _

@[simp] theorem Dev.staged_queueLog (d : Dev) (r : LogRec) : (d.queueLog r).regs.staged = d.regs.staged := by
  simp only [Dev.queueLog]
  split
  · simp
  · split
    · exact Dev.staged_inc (f := LOSS_TOTAL) rfl _
    · simp

@[simp] theorem Dev.staged_log (d : Dev) (kind : Nat) (payload : List Nat) : (d.log kind payload).regs.staged = d.regs.staged := by
  simp [Dev.log]

/-! ### Faults -/

@[simp] theorem Dev.staged_writeFault (d : Dev) (code cls src strikes retire prob arg : Nat) :
    (d.writeFault code cls src strikes retire prob arg).regs.staged = d.regs.staged := by
  simp [Dev.writeFault, Dev.staged_inc (f := FAULT_STATUS_COUNT) rfl, Dev.staged_wr (f := FAULT_STATUS_LAST_CODE) rfl]

@[simp] theorem Dev.staged_markRetired (d : Dev) (src : Nat) : (d.markRetired src).regs.staged = d.regs.staged := by simp [Dev.markRetired]

@[simp] theorem Dev.staged_addStrike (d : Dev) (src cls : Nat) : (d.addStrike src cls).regs.staged = d.regs.staged := by
  unfold Dev.addStrike
  split
  · rfl
  · dsimp only
    split <;> split <;> simp

@[simp] theorem Dev.staged_chargeFault (d : Dev) (code cls src : Nat) (arg : Option Nat) :
    (d.chargeFault code cls src arg).1.regs.staged = d.regs.staged := by
  simp [Dev.chargeFault]

@[simp] theorem Dev.staged_failTrack (d : Dev) : d.failTrack.regs.staged = d.regs.staged :=
  (Frame.failTrack (fun _ h => h) (fun _ h => h) (Frame.refl _ (acquireFlds ++ cutFrameFlds) d)).staged (by decide)

@[simp] theorem Dev.staged_stopTuning (h : n < 20) (d : Dev) : (d.stopTuning n).regs.staged = d.regs.staged := by
  simp [Dev.stopTuning, h]

@[simp] theorem Dev.staged_retireVoice (h : n < 16) (d : Dev) : (d.retireVoice n).regs.staged = d.regs.staged := by
  have wide : n < 20 := by omega
  simp [Dev.retireVoice, h, wide]

/-- A fault of a voice retires that voice at most. -/
@[simp] theorem Dev.staged_fault_voice (h : n < 16) (d : Dev) (code cls : Nat) (arg : Option Nat) :
    (d.fault code cls [n] arg).regs.staged = d.regs.staged := by
  simp only [Dev.fault, Dev.each_cons, Dev.each_nil, Dev.faultOne, Dev.retireEffect, if_pos h]
  split
  · exact (Dev.staged_retireVoice h _).trans (Dev.staged_chargeFault _ _ _ _ _)
  · exact Dev.staged_chargeFault _ _ _ _ _

@[simp] theorem Dev.staged_fault_none (d : Dev) (code cls : Nat) (arg : Option Nat) : (d.fault code cls [] arg).regs.staged = d.regs.staged := by
  rw [Dev.fault_none_eq, Dev.staged_writeFault]

/-! ### Voices -/

@[simp] theorem Dev.staged_tap (h : n < 16) (d : Dev) (e : Entry) : (d.tap n e).regs.staged = d.regs.staged := by simp [Dev.tap, h]

@[simp] theorem Dev.staged_riseCause (h : n < 16) (d : Dev) : (d.riseCause n).regs.staged = d.regs.staged := by simp [Dev.riseCause, h]

@[simp] theorem Dev.staged_clampK (h : n < 16) (d : Dev) (ext : Nat) : (d.clampK n ext).regs.staged = d.regs.staged := by
  simp only [Dev.clampK]
  split
  · simp [h]
  · split <;> simp [h]

@[simp] theorem Dev.staged_takeRise (h : n < 16) (d : Dev) (ext : Nat) : (d.takeRise n ext).regs.staged = d.regs.staged := by
  simp only [Dev.takeRise]
  split <;> simp [h]

@[simp] theorem Dev.staged_loseEdge (h : n < 16) (d : Dev) (ext fine : Nat) : (d.loseEdge n ext fine).regs.staged = d.regs.staged := by
  simp [Dev.loseEdge, h]

@[simp] theorem Dev.staged_stampEdge (h : n < 16) (d : Dev) (ext fine : Nat) (rising : Bool) :
    (d.stampEdge n ext fine rising).regs.staged = d.regs.staged := by
  simp only [Dev.stampEdge]
  split <;> simp [h]

@[simp] theorem Dev.staged_countEdge (h : n < 16) (d : Dev) (ext : Nat) : (d.countEdge n ext).regs.staged = d.regs.staged := by
  simp [Dev.countEdge, h]

@[simp] theorem Dev.staged_countExtra (h : n < 16) (d : Dev) (ext extra : Nat) : (d.countExtra n ext extra).regs.staged = d.regs.staged := by
  simp [Dev.countExtra, h]

@[simp] theorem Dev.staged_dropPair (h : n < 16) (d : Dev) : (d.dropPair n).regs.staged = d.regs.staged := by simp [Dev.dropPair, h]

@[simp] theorem Dev.staged_takeEdge (h : n < 16) (d : Dev) (ext fine : Nat) (rising pair : Bool) :
    (d.takeEdge n ext fine rising pair).1.regs.staged = d.regs.staged := by
  simp only [Dev.takeEdge]
  split
  · simp [h]
  · split
    · simp [h]
    · split <;> simp [h]

@[simp] theorem Dev.staged_takeFound (h : n < 16) (start : Nat) (found : List Found) (extra : Nat) (paired : Bool) (d : Dev) :
    (Dev.takeFound n start found extra paired d).regs.staged = d.regs.staged := by
  induction found generalizing extra paired d with
  | nil => simp [Dev.takeFound, h]
  | cons f rest ih => cases f <;> simp [Dev.takeFound, ih, h]

@[simp] theorem Dev.staged_takeLater (h : n < 16) (d : Dev) : (d.takeLater n).regs.staged = d.regs.staged := by
  rw [Dev.takeLater, Dev.staged_each fun w _ e => by split <;> simp [h]]
  exact Dev.staged_putVoice h _ _

/-! ### Tuning and exciters -/

@[simp] theorem Dev.staged_beginTuning (h : n < 20) (d : Dev) : (d.beginTuning n).regs.staged = d.regs.staged := by
  simp [Dev.beginTuning, h]

@[simp] theorem Dev.staged_setTune (h : n < 16) (d : Dev) (st : Nat) : (d.setTune n st).regs.staged = d.regs.staged := by
  have wide : n < 20 := by omega
  simp [Dev.setTune, h, wide, Dev.staged_wr (f := TUNE_VALID_CTX) rfl]

@[simp] theorem Dev.staged_swapTable (h : n < 16) (d : Dev) (coarse : Nat) : (d.swapTable n coarse).regs.staged = d.regs.staged := by
  have wide : n < 20 := by omega
  simp [Dev.swapTable, h, wide]

@[simp] theorem Dev.staged_boundaryStarts (d : Dev) (v : Nat) (gated : Bool) : (d.boundaryStarts v gated).regs.staged = d.regs.staged := by
  refine Dev.staged_each (fun x hx e => ?_) d
  have small : x < 8 := List.mem_range.1 hx
  dsimp only
  split
  · rfl
  · split <;> simp [small]

/-! ### The end and the begin of a period -/

@[simp] theorem Dev.staged_decimFall (h : n < 16) (d : Dev) (tm : Timer) (ext : Nat) : (d.decimFall n tm ext).regs.staged = d.regs.staged := by
  unfold Dev.decimFall
  split
  · rfl
  · dsimp only
    split <;> simp [h]

@[simp] theorem Dev.staged_freshRecord (h : n < 16) (d : Dev) (ext : Nat) (gated : Bool) :
    (d.freshRecord n ext gated).regs.staged = d.regs.staged := by
  simp [Dev.freshRecord, h]

@[simp] theorem Dev.staged_endProbation (d : Dev) (src : Nat) : (d.endProbation src).regs.staged = d.regs.staged := by
  simp only [Dev.endProbation]
  split
  · next voice => simp [voice.1]
  · simp

@[simp] theorem Dev.staged_decayStrike (d : Dev) (src : Nat) (whole : Bool) : (d.decayStrike src whole).regs.staged = d.regs.staged := by
  have counted (n : Nat) : (if d.rd (STRIKE_STRIKES src) = 0 then d
      else if d.rd STRIKE_CFG_DECAY ≤ n then (d.wr (STRIKE_STRIKES src) (d.rd (STRIKE_STRIKES src) - 1)).wr (STRIKE_DECAY_COUNT src) 0
      else d.wr (STRIKE_DECAY_COUNT src) n).regs.staged = d.regs.staged := by
    split
    · rfl
    · split <;> simp
  have probed (e : Dev) : (if e.is (STRIKE_PROBATION src) && whole then
      if e.rd (STRIKE_PROB_LEFT src) - 1 = 0 then (e.wr (STRIKE_PROB_LEFT src) (e.rd (STRIKE_PROB_LEFT src) - 1)).endProbation src
      else e.wr (STRIKE_PROB_LEFT src) (e.rd (STRIKE_PROB_LEFT src) - 1)
      else e).regs.staged = e.regs.staged := by
    split
    · split <;> simp
    · rfl
  unfold Dev.decayStrike
  split
  · rfl
  · exact (probed _).trans (counted _)

@[simp] theorem Dev.staged_decayStrikes (d : Dev) (t : Nat) (tm : Timer) : (d.decayStrikes t tm).regs.staged = d.regs.staged := by
  refine Dev.staged_each (fun src _ e => ?_) d
  dsimp only
  split
  · rfl
  · split <;> simp

@[simp] theorem Dev.staged_takeEps (d : Dev) (t b : Nat) : (d.takeEps t b).regs.staged = d.regs.staged := by
  simp [Dev.takeEps, Dev.staged_wr (f := TB_STATUS_AGE_HELD) rfl, Dev.staged_wr (f := AGE_DAYS_D) rfl, Dev.staged_wr (f := AGE_EPS_EPS) rfl]

@[simp] theorem Dev.staged_anaBeginPeriod (d : Dev) (t : Nat) (gated : Bool) : (d.anaBeginPeriod t gated).regs.staged = d.regs.staged :=
  Dev.staged_each (fun _ _ e => by dsimp only; split <;> rfl) d

theorem lt_of_mem_timerVoices {d : Dev} {v : Nat} (h : v ∈ d.timerVoices t) : v < 16 := List.mem_range.1 (List.mem_of_mem_filter h)

@[simp] theorem Dev.staged_beginPeriod (d : Dev) (t ext : Nat) (gated : Bool) : (d.beginPeriod t ext gated).regs.staged = d.regs.staged := by
  have voices {f : Dev → Nat → Dev} (kept : ∀ v < 16, ∀ e : Dev, (f e v).regs.staged = e.regs.staged) (e : Dev) :
      (e.each (d.timerVoices t) f).regs.staged = e.regs.staged :=
    Dev.staged_each (fun v hv => kept v (lt_of_mem_timerVoices hv)) e
  have swapped (v : Nat) (hv : v < 16) (e : Dev) :
      (if e.is (TUNE_STATUS_PENDING v) && !gated && decide ((e.tun v).tested < fckOf ext) then e.swapTable v (ext % coarseMod) else e).regs.staged =
        e.regs.staged := by
    split <;> simp [hv]
  have rested (p : Nat) (e : Dev) :
      (if e.timerOf (e.rd (FIT_PAIR_CFG_VOICE_A p)) = t then e.putFitPair p { e.fitPair p with upset := false } else e).regs.staged =
        e.regs.staged := by
    split <;> rfl
  rw [Dev.beginPeriod, voices fun v hv e => Dev.staged_takeLater hv e, Dev.staged_takeEps, Dev.putTimer_regs,
    Dev.staged_each fun p _ e => rested p e, voices fun v hv e => Dev.staged_freshRecord hv e ext gated,
    voices fun v _ e => Dev.staged_boundaryStarts e v gated, Dev.staged_decayStrikes, voices swapped,
    voices fun v hv e => Dev.staged_decimFall hv e _ ext]

@[simp] theorem Dev.staged_restTimer (d : Dev) (t reason : Nat) : (d.restTimer t reason).regs.staged = d.regs.staged := by
  rw [Dev.restTimer, Dev.staged_each fun _ _ e => by split <;> rfl,
    Dev.staged_each fun v hv e => Dev.staged_putVoice (lt_of_mem_timerVoices hv) e _]

@[simp] theorem Dev.staged_startTimer (h : t < 4) (d : Dev) : (d.startTimer t).regs.staged = d.regs.staged := by simp [Dev.startTimer, h]

@[simp] theorem Dev.staged_joinTimers (d o : Dev) (ends : List Nat) (ext : Nat) (gated : Bool) :
    (d.joinTimers o ends ext gated).regs.staged = d.regs.staged := by
  refine (Dev.staged_each (fun _ _ _ => by rfl) _).trans (Dev.staged_each (fun v hv e => ?_) d)
  have small : v < 16 := List.mem_range.1 (List.mem_of_mem_filter hv)
  dsimp only
  split <;> simp [small]

@[simp] theorem Dev.staged_applyTimers (d o : Dev) (ends : List Nat) (ext : Nat) (gated : Bool) :
    (d.applyTimers o ends ext gated).regs.staged = d.regs.staged := by
  rw [Dev.applyTimers, Dev.staged_each fun t ht e => ?timers, Dev.staged_each fun v hv e => ?voices, Dev.staged_joinTimers,
    Dev.staged_each fun t _ e => ?begun]
  case begun => split <;> simp
  case voices =>
    have small : v < 16 := List.mem_range.1 hv
    split <;> simp [small]
  case timers =>
    have small : t < 4 := List.mem_range.1 ht
    dsimp only
    split
    · split <;> simp [small]
    · split
      · simp [small]
      · split <;> simp

/-! ### The reference output and the switch of the reference -/

@[simp] theorem Dev.staged_imageRefOut (d : Dev) : d.imageRefOut.regs.staged = d.regs.staged := by
  simp [Dev.imageRefOut, Dev.showRefOut, Dev.staged_wr (f := TB_STATUS_REFOUT_SRC) rfl]

@[simp] theorem Dev.staged_decideSwitch (d : Dev) (target : Nat) (cfg : Bool) : (d.decideSwitch target cfg).regs.staged = d.regs.staged :=
  (Frame.decideSwitch (fun _ h => h) (fun _ h => h) (Frame.refl gateParts gateFlds d)).staged (by decide)

@[simp] theorem Dev.regs_planSwitch (d : Dev) : d.planSwitch.regs = d.regs := rfl

@[simp] theorem Dev.regs_openJob (d : Dev) (start stop pseq : Nat) (res : Tab PairRes) (extra : Nat) (stale : Bool) (b : BeltEnd) :
    (d.openJob start stop pseq res extra stale b).regs = d.regs := rfl

end Sys2Proof.Machine

end

/-! PROOFS: a staged image is committed, taken up at the switching boundary, and its transition ends. -/
section

namespace Sys2Proof.Machine

open Reg

variable {d : Dev}

/-! ### The switch of the image, in its parts -/

/-- The device when the periods that the switch ends have ended. -/
def Dev.periodsEnded (d : Dev) (t0 ext : Nat) : Dev :=
  d.endPeriods (d.takeTable d.img.table) (d.endingTimers (d.takeTable d.img.table) t0 ext) ext

/-- The image's values are in force, and its voices follow them; `o` holds the settings before the switch. -/
def Dev.voicesApplied (o : Dev) (m : ImgSt) (ext : Nat) : Dev :=
  (((((o.takeTable m.table).showActive m).applyRole o).markGroups o).applyVoices o ext).checkViov

/-- Does an image in transition change one of the groups that are not atomic? -/
def Dev.groupMoves (d : Dev) : Bool := d.img.refGroup || d.img.linkGroup || d.img.pins != 0

/-- The units from the rings to the capture unit follow the image. -/
def Dev.unitsApplied (d o : Dev) (ext : Nat) : Dev :=
  (((((d.each [1, 2, 3, 5, 6, 7] Dev.raiseEpoch).applyRings o).applyMonitors o).applyExcs o).applyAnas o ext).applyCapture o

/-- The ageing law, the pipeline and the choir follow the image. -/
def Dev.choirApplied (d o : Dev) : Dev := ((if d.differs o ageFlds then d.computeEps else d).applyWeighing o).applyChoir

/-- Nothing is staged any more, and a transition of a group has begun. -/
def Dev.transitionShown (d : Dev) (group : Bool) : Dev :=
  if group then (((d.wr STAGED_GEN 0).wr CHECK_STAGED 0).wr APPLY_STATUS_TRANS_LEFT
    (((d.wr STAGED_GEN 0).wr CHECK_STAGED 0).rd TRANS_REST)).applyState 5
  else (d.wr STAGED_GEN 0).wr CHECK_STAGED 0

/-- The faults that a switch reports: the address strap differs, and the boundary came late. -/
def Dev.switchReported (d : Dev) (late : Bool) : Dev :=
  if late then (if d.mismatch then d.fault 0x0904 reportOnly [] else d).fault 0x0907 reportOnly []
  else if d.mismatch then d.fault 0x0904 reportOnly [] else d

/-- The reference follows the image. -/
def Dev.referenceFollows (d : Dev) : Dev :=
  if d.img.refGroup then d.imageRefOut.decideSwitch d.wantedSource true else d.imageRefOut.planSwitch

/-- The device at the end of the switch, but for the end of an APPLY that leaves no group in transition. -/
def Dev.imageSwitched (d : Dev) (t0 ext : Nat) (gated : Bool) : Dev :=
  let o := d.periodsEnded t0 ext
  let v := o.voicesApplied d.img ext
  (((((v.unitsApplied o ext).choirApplied o).transitionShown v.groupMoves).applyTimers o
    (d.endingTimers (d.takeTable d.img.table) t0 ext) ext gated).switchReported d.img.late).referenceFollows

theorem Dev.switchImage_eq (d : Dev) (t0 ext : Nat) (gated : Bool) :
    d.switchImage t0 ext gated = if ((d.periodsEnded t0 ext).voicesApplied d.img ext).groupMoves then d.imageSwitched t0 ext gated
      else (d.imageSwitched t0 ext gated).endApply := by
  cases hl : d.img.late <;> simp only [Dev.switchImage, Dev.imageSwitched, Dev.switchReported, hl] <;> rfl

/-! ### What the switch leaves of the image's values, of the staged image and of a planned reset -/

/-- What a switch may change once the image's values are in force: units, and the register classes of strikes and of the journal. -/
def switchAllow : Allow := { Allow.least with b := true, h := true }

theorem Keeps.switchApplied {d0 : Dev} {o : Dev} {ext : Nat} (h : Keeps switchAllow d0 d) :
    Keeps switchAllow d0 ((d.unitsApplied o ext).choirApplied o) := by
  have raised : Keeps switchAllow d0 (d.each [1, 2, 3, 5, 6, 7] Dev.raiseEpoch) := h.each fun _ _ _ kept => Dev.raiseEpoch_keeps kept
  have units : Keeps switchAllow d0 (d.unitsApplied o ext) :=
    Dev.applyCapture_keeps (Dev.applyAnas_keeps (Dev.applyExcs_keeps (Dev.applyMonitors_keeps (Dev.applyRings_keeps raised))))
  unfold Dev.choirApplied
  split
  · exact Dev.applyChoir_keeps (Dev.applyWeighing_keeps (Dev.computeEps_keeps rfl units))
  · exact Dev.applyChoir_keeps (Dev.applyWeighing_keeps units)

theorem Keeps.transitionShown {d0 : Dev} {group : Bool} (h : Keeps switchAllow d0 d) : Keeps switchAllow d0 (d.transitionShown group) := by
  have cleared : Keeps switchAllow d0 ((d.wr STAGED_GEN 0).wr CHECK_STAGED 0) := (h.wr rfl).wr rfl
  unfold Dev.transitionShown
  split
  · exact Dev.applyState_keeps (cleared.wr rfl)
  · exact cleared

theorem Keeps.switchReported {d0 : Dev} {late : Bool} (h : Keeps switchAllow d0 d) : Keeps switchAllow d0 (d.switchReported late) := by
  unfold Dev.switchReported
  split <;> split
  · exact Dev.fault_keeps rfl (Dev.fault_keeps rfl h)
  · exact Dev.fault_keeps rfl h
  · exact Dev.fault_keeps rfl h
  · exact h

theorem Keeps.referenceFollows {d0 : Dev} (h : Keeps switchAllow d0 d) : Keeps switchAllow d0 d.referenceFollows := by
  unfold Dev.referenceFollows
  split
  · exact Dev.decideSwitch_keeps (Dev.imageRefOut_keeps h)
  · exact Dev.planSwitch_keeps (Dev.imageRefOut_keeps h)

theorem Keeps.imageSwitched (d : Dev) (t0 ext : Nat) (gated : Bool) :
    Keeps switchAllow ((d.periodsEnded t0 ext).takeTable d.img.table) (d.imageSwitched t0 ext gated) := by
  have voices : Keeps switchAllow ((d.periodsEnded t0 ext).takeTable d.img.table) ((d.periodsEnded t0 ext).voicesApplied d.img ext) :=
    Dev.checkViov_keeps rfl (Dev.applyVoices_keeps (Dev.markGroups_keeps (Dev.applyRole_keeps (Dev.showActive_keeps (Keeps.refl _ _)))))
  exact (Keeps.switchReported (Dev.applyTimers_keeps rfl rfl voices.switchApplied.transitionShown)).referenceFollows

@[simp] theorem Dev.resetAt_periodsEnded (d : Dev) (t0 ext : Nat) : (d.periodsEnded t0 ext).choir.resetAt = d.choir.resetAt := by
  simp [Dev.periodsEnded]

@[simp] theorem Dev.resetAt_voicesApplied (o : Dev) (m : ImgSt) (ext : Nat) : (o.voicesApplied m ext).choir.resetAt = o.choir.resetAt := by
  simp [Dev.voicesApplied]

@[simp] theorem Dev.resetAt_unitsApplied (d o : Dev) (ext : Nat) : (d.unitsApplied o ext).choir.resetAt = d.choir.resetAt := by
  rw [Dev.unitsApplied, Dev.resetAt_applyCapture, Dev.resetAt_applyAnas, Dev.resetAt_applyExcs, Dev.resetAt_applyMonitors, Dev.resetAt_applyRings,
    Dev.resetAt_each]
  exact fun _ _ => rfl

@[simp] theorem Dev.resetAt_choirApplied (d o : Dev) : (d.choirApplied o).choir.resetAt = d.choir.resetAt := by simp [Dev.choirApplied]

@[simp] theorem Dev.resetAt_transitionShown (d : Dev) (group : Bool) : (d.transitionShown group).choir.resetAt = d.choir.resetAt := by
  simp [Dev.transitionShown]

@[simp] theorem Dev.resetAt_switchReported (d : Dev) (late : Bool) : (d.switchReported late).choir.resetAt = d.choir.resetAt := by
  unfold Dev.switchReported
  split <;> split <;> simp

@[simp] theorem Dev.resetAt_referenceFollows (d : Dev) : d.referenceFollows.choir.resetAt = d.choir.resetAt := by simp [Dev.referenceFollows]

@[simp] theorem Dev.resetAt_imageSwitched (d : Dev) (t0 ext : Nat) (gated : Bool) :
    (d.imageSwitched t0 ext gated).choir.resetAt = d.choir.resetAt := by
  simp [Dev.imageSwitched]

theorem Dev.staged_transitionShown (d : Dev) : (d.transitionShown true).regs.staged = (5, 0, 0) := by
  have shown : Frame notifyParts [APPLY_STATUS_STATE] (((d.wr STAGED_GEN 0).wr CHECK_STAGED 0).wr APPLY_STATUS_TRANS_LEFT
      (((d.wr STAGED_GEN 0).wr CHECK_STAGED 0).rd TRANS_REST)) (d.transitionShown true) :=
    Frame.applyState (fun _ h => h) (by simp) (Frame.refl _ _ _)
  have state : (d.transitionShown true).rd APPLY_STATUS_STATE = 5 := Dev.rd_applyState_state _ (by decide)
  have gen : (d.transitionShown true).rd STAGED_GEN = 0 := by
    rw [shown.rd (by decide), Dev.rd_wr_key _ _ (by decide), Dev.rd_wr_key _ _ (by decide)]
    exact Dev.rd_wr_same _ STAGED_GEN _
  have check : (d.transitionShown true).rd CHECK_STAGED = 0 := by
    rw [shown.rd (by decide), Dev.rd_wr_key _ _ (by decide)]
    exact Dev.rd_wr_same _ CHECK_STAGED _
  exact Prod.ext state (Prod.ext gen check)

theorem Dev.staged_switchReported (d : Dev) (late : Bool) : (d.switchReported late).regs.staged = d.regs.staged := by
  unfold Dev.switchReported
  split <;> split <;> simp

theorem Dev.staged_referenceFollows (d : Dev) : d.referenceFollows.regs.staged = d.regs.staged := by simp [Dev.referenceFollows]

theorem Dev.staged_imageSwitched (d : Dev) (t0 ext : Nat) (gated : Bool)
    (moves : ((d.periodsEnded t0 ext).voicesApplied d.img ext).groupMoves = true) :
    (d.imageSwitched t0 ext gated).regs.staged = (5, 0, 0) := by
  rw [Dev.imageSwitched, moves, Dev.staged_referenceFollows, Dev.staged_switchReported, Dev.staged_applyTimers, Dev.staged_transitionShown]

/-! ### The device behind the switch -/

/-- The values `t` of class I are in force, nothing is staged, and the choir plans no reset. -/
structure Dev.Switched (t : Store) (d : Dev) : Prop where
  table : d.regs.table .I = Store.canon t
  state : d.rd APPLY_STATUS_STATE = 0 ∨ d.rd APPLY_STATUS_STATE = 5
  gen : d.rd STAGED_GEN = 0
  check : d.rd CHECK_STAGED = 0
  reset : d.choir.resetAt = none

theorem Dev.table_takeTable (d : Dev) (t : Store) : (d.takeTable t).regs.table .I = Store.canon t := rfl

theorem Dev.switchImage_switched (t0 ext : Nat) (gated : Bool) (unplanned : d.choir.resetAt = none) :
    (d.switchImage t0 ext gated).Switched d.img.table := by
  have kept := Keeps.imageSwitched d t0 ext gated
  have reset : (d.imageSwitched t0 ext gated).choir.resetAt = none := (Dev.resetAt_imageSwitched d t0 ext gated).trans unplanned
  rw [Dev.switchImage_eq]
  split
  · next moves =>
    have staged := Dev.staged_imageSwitched d t0 ext gated moves
    simp only [RegFile.staged, Prod.mk.injEq] at staged
    obtain ⟨state, gen, check⟩ := staged
    exact ⟨kept.cls .I rfl, .inr state, gen, check, reset⟩
  · obtain ⟨state, gen, check, -⟩ := (d.imageSwitched t0 ext gated).endApply_shows
    exact ⟨(Dev.endApply_keeps kept).cls .I rfl, .inl state, gen, check, (Dev.resetAt_endApply _).trans reset⟩

/-! ### The belt at a boundary leaves the staged image alone -/

theorem Dev.img_drainTach (d : Dev) (ext : Nat) : (d.drainTach ext).img = d.img :=
  ((Frame.putVoice (us := [.voices, .track]) (fs := fifoFlds) (by simp) (mem_fifoFlds (by decide)) (Frame.refl _ _ d)).each
    fun _ _ _ kept => (Frame.putTrack_iff (by simp)).2 kept).parts .img (by decide)

theorem Dev.img_followTach (d : Dev) : d.followTach.img = d.img :=
  (Frame.followTach (fun _ h => h) (fun _ h => h) (Frame.refl (Part.track :: faultParts) (acquireFlds ++ cutFrameFlds) d)).parts .img (by decide)

theorem Dev.img_followHead (d : Dev) (t : Nat) : (d.followHead t).img = d.img :=
  (Dev.follows_followHead (gs := [TRACK_STATUS_STATE]) (.inl (by simp))).1.parts .img (by decide)

theorem Dev.img_cutFrame (d : Dev) : d.cutFrame.img = d.img :=
  (Frame.cutFrame (fun _ h => h) (fun _ h => h) (Frame.refl (Part.track :: faultParts) cutFrameFlds d)).parts .img (by decide)

theorem Dev.img_markZone (d : Dev) (mask : Nat) : (d.markZone mask).img = d.img :=
  (Frame.markZone (by simp) (Frame.refl [.track] [] d)).parts .img (by decide)

theorem Dev.img_fault_none (d : Dev) (code cls : Nat) : (d.fault code cls []).img = d.img :=
  (Frame.fault_none (fun _ h => h) (fun _ h => h) (Frame.refl faultParts faultFlds d)).parts .img (by decide)

theorem Dev.img_ite (c : Prop) [Decidable c] (a b : Dev) : (if c then a else b).img = if c then a.img else b.img := apply_ite Dev.img c a b

theorem Dev.img_takeSpeed (d : Dev) (v : F64) : (d.takeSpeed v).img = d.img := by
  simp only [Dev.takeSpeed, Dev.img_ite, Dev.img_fault_none, Dev.wr_img, Dev.img_markZone, Dev.putTrack_img, Dev.img_cutFrame, ite_self]

theorem Dev.img_beltBoundary (d : Dev) (start stop : Nat) : (d.beltBoundary start stop).1.img = d.img := by
  have drained : (d.drainTach stop).followTach.img = d.img := (Dev.img_followTach _).trans (Dev.img_drainTach d stop)
  unfold Dev.beltBoundary
  split
  · rfl
  · dsimp only
    split
    · exact drained
    · rw [Dev.img_followHead, Dev.img_takeSpeed, Dev.img_ite, Dev.nextFree_img, ite_self, drained]

/-! ### The boundary is taken -/

theorem Dev.Switched.openJob {t : Store} (h : d.Switched t) (start stop pseq : Nat) (res : Tab PairRes) (extra : Nat) (stale : Bool) (b : BeltEnd) :
    (d.openJob start stop pseq res extra stale b).Switched t :=
  ⟨h.table, h.state, h.gen, h.check, h.reset⟩

/-- What the belt gives at a boundary of timer `t`. -/
def Dev.boundaryBelt (d : Dev) (t ext : Nat) : Dev × BeltEnd :=
  match (d.timer t).prev with
  | some b => if decide (t = d.pipeTimer) then d.beltBoundary b ext else (d, BeltEnd.none)
  | none => (d, BeltEnd.none)

/-- The PCOUNT of the boundary that timer `t` meets. -/
def Dev.boundaryCount (d : Dev) (t : Nat) : Nat := if (d.timer t).prev.isSome then (d.rd (TIMER_PCOUNT_COUNT t) + 1) % 2 ^ 32 else 0

/-- The device when the belt has been followed and a transition counted down. -/
def Dev.boundaryCounted (d : Dev) (t ext : Nat) : Dev :=
  if decide (t = d.pipeTimer) && (decide (d.rd APPLY_STATUS_STATE = 5) && d.is APPLY_STATUS_TRANS_LEFT) then
    (d.boundaryBelt t ext).1.wr APPLY_STATUS_TRANS_LEFT ((d.boundaryBelt t ext).1.rd APPLY_STATUS_TRANS_LEFT - 1)
  else (d.boundaryBelt t ext).1

/-- Has the boundary named for the switch gone by? -/
def Dev.namedPassed (d : Dev) (p : Nat) : Bool :=
  match d.img.named with
  | some q => decide (q ≠ p)
  | none => false

/-- The device as a boundary leaves it, but for the period that it hands to the pipeline. -/
def Dev.boundaryCrossed (d : Dev) (t ext : Nat) (gated : Bool) : Dev :=
  if decide (t = d.pipeTimer) && d.switchDue (d.boundaryCount t) then
    Dev.switchImage { d.boundaryCounted t ext with
      img := { (d.boundaryCounted t ext).img with late := (d.boundaryCounted t ext).namedPassed (d.boundaryCount t) } } t ext gated
  else (d.boundaryCounted t ext).takeBoundary t ext gated

theorem Dev.boundaryTaken_eq (d : Dev) (t ext : Nat) (gated : Bool) : d.boundaryTaken t ext gated = d.boundaryCrossed t ext gated ∨
    ∃ start pseq res extra stale b, d.boundaryTaken t ext gated = (d.boundaryCrossed t ext gated).openJob start ext pseq res extra stale b := by
  have run : d.boundaryTaken t ext gated =
      match (d.timer t).prev with
      | some b =>
        if decide (t = d.pipeTimer) = true ∧ (d.boundaryCrossed t ext gated).mode ≠ 3 ∧ (d.boundaryCrossed t ext gated).mode ≠ 5 then
          (d.boundaryCrossed t ext gated).openJob b ext (d.rd (TIMER_PCOUNT_COUNT t))
            (match (d.timer t).prev with | some b => d.presets t b | none => [])
            (if (decide (d.rd APPLY_STATUS_STATE = 5) && d.is APPLY_STATUS_TRANS_LEFT) && d.img.linkGroup then 2 ^ 7 else 0)
            ((decide (t = d.pipeTimer) && d.switchDue (d.boundaryCount t)) && d.img.pipeNew) (d.boundaryBelt t ext).2
        else d.boundaryCrossed t ext gated
      | none => d.boundaryCrossed t ext gated := rfl
  rw [run]
  split
  · split
    · exact .inr ⟨_, _, _, _, _, _, rfl⟩
    · exact .inl rfl
  · exact .inl rfl

theorem Dev.boundaryCounted_keeps (d : Dev) (t ext : Nat) :
    (d.boundaryCounted t ext).img = d.img ∧ (d.boundaryCounted t ext).choir.resetAt = d.choir.resetAt := by
  have belt : (d.boundaryBelt t ext).1.img = d.img ∧ (d.boundaryBelt t ext).1.choir.resetAt = d.choir.resetAt := by
    unfold Dev.boundaryBelt
    split
    · split
      · exact ⟨Dev.img_beltBoundary _ _ _, Dev.resetAt_beltBoundary _ _ _⟩
      · exact ⟨rfl, rfl⟩
    · exact ⟨rfl, rfl⟩
  unfold Dev.boundaryCounted
  split <;> exact belt

theorem Dev.switchImage_late_switched (t0 ext : Nat) (gated late : Bool) (unplanned : d.choir.resetAt = none) :
    (Dev.switchImage { d with img := { d.img with late := late } } t0 ext gated).Switched d.img.table :=
  Dev.switchImage_switched (d := { d with img := { d.img with late := late } }) t0 ext gated unplanned

theorem Dev.boundaryTaken_switched {t : Nat} (ext : Nat) (gated : Bool) (own : t = d.pipeTimer) (due : ∀ p, d.switchDue p = true)
    (unplanned : d.choir.resetAt = none) : (d.boundaryTaken t ext gated).Switched d.img.table := by
  obtain ⟨img, reset⟩ := d.boundaryCounted_keeps t ext
  have crossed : (d.boundaryCrossed t ext gated).Switched d.img.table := by
    rw [Dev.boundaryCrossed, due, decide_eq_true own, Bool.and_self, if_pos rfl, ← img]
    exact Dev.switchImage_late_switched t ext gated _ (reset.trans unplanned)
  rcases d.boundaryTaken_eq t ext gated with run | ⟨start, pseq, res, extra, stale, b, run⟩
  · exact run ▸ crossed
  · exact run ▸ crossed.openJob start ext pseq res extra stale b

/-- With no reset planned the choir resets nothing. -/
theorem Dev.choirReset_eq (unplanned : d.choir.resetAt = none) : d.choirReset = d := by
  rw [Dev.choirReset, Dev.resetDue, unplanned, Bool.and_false, Bool.false_and, if_neg (by decide)]

/-- The epoch that a boundary beyond the wrap begins. -/
def Dev.epochReached (d : Dev) (ext : Nat) : Dev := (if d.rd EPOCH_COUNT_COUNT < ext / coarseMod then d.wrapEpoch else d).advance ext

theorem Frame.epochReached (d : Dev) (ext : Nat) : Frame [.time, .voices] (EPOCH_COUNT_COUNT :: fifoFlds) d (d.epochReached ext) := by
  refine Frame.advance (by simp) ?_
  split
  · exact Frame.epochMarkers (by simp) (fun _ hn => List.mem_cons_of_mem _ (mem_fifoFlds hn))
      (Frame.inc List.mem_cons_self ((Frame.refl _ _ d).time (by simp)))
  · exact Frame.refl _ _ _

theorem Dev.switchingBoundary_eq (live : d.alive = true) (run : d.sckOpen = true) (running : d.rd (TIMER_STATUS_RUNNING d.pipeTimer) = 1)
    (due : ∀ p, d.switchDue p = true) :
    d.switchingBoundary = ((d.epochReached (d.timer d.pipeTimer).next).boundaryTaken d.pipeTimer (d.timer d.pipeTimer).next false).choirReset := by
  have on : d.is (TIMER_STATUS_RUNNING d.pipeTimer) = true := Dev.is_of_ne_zero (by omega)
  rw [Dev.switchingBoundary]
  simp only [live, run, on, due, Bool.and_self, if_true]
  rfl

theorem Dev.switchingBoundary_switched (live : d.alive = true) (run : d.sckOpen = true) (running : d.rd (TIMER_STATUS_RUNNING d.pipeTimer) = 1)
    (armed : d.rd APPLY_STATUS_STATE = 4) (mode : d.mode = 1) (unnamed : d.img.named = none) (unplanned : d.choir.resetAt = none) :
    d.switchingBoundary.Switched d.img.table := by
  have due {e : Dev} (armed : e.rd APPLY_STATUS_STATE = 4) (mode : e.mode = 1) (unnamed : e.img.named = none) (p : Nat) : e.switchDue p = true := by
    rw [Dev.switchDue, armed, mode, unnamed]
    rfl
  have kept := Frame.epochReached d (d.timer d.pipeTimer).next
  have img : (d.epochReached (d.timer d.pipeTimer).next).img = d.img := kept.parts .img (by decide)
  have choir : (d.epochReached (d.timer d.pipeTimer).next).choir = d.choir := kept.parts .choir (by decide)
  have taken : ((d.epochReached (d.timer d.pipeTimer).next).boundaryTaken d.pipeTimer (d.timer d.pipeTimer).next false).Switched d.img.table := by
    rw [← img]
    exact Dev.boundaryTaken_switched _ _ (kept.rd (by decide)).symm
      (due ((kept.rd (by decide)).trans armed) ((kept.rd (by decide)).trans mode) ((congrArg ImgSt.named img).trans unnamed))
      ((congrArg ChoirSt.resetAt choir).trans unplanned)
  rw [Dev.switchingBoundary_eq live run running (due armed mode unnamed), Dev.choirReset_eq taken.reset]
  exact taken

/-! ### The steps of a commitment -/

theorem Frame.showSlots {us : List Part} {fs : List Fld} {d0 : Dev} (hf : [CFG_STATUS_SLOT_A, CFG_STATUS_SLOT_B] ⊆ fs) (h : Frame us fs d0 d) :
    Frame us fs d0 d.showSlots := by
  refine h.each fun e p mem kept => ?_
  have listed : p.2 ∈ fs := hf (by
    simp only [List.mem_cons, List.not_mem_nil, or_false] at mem
    rcases mem with rfl | rfl <;> simp)
  split
  · exact kept
  · exact kept.wr listed

/-- The device when step `n` has been programmed and its state in NVM is shown. -/
def Dev.stepCommitted (d : Dev) (n a : Nat) : Dev := { d.program a markBytes with img := { d.img with step := n } }.showSlots

theorem Frame.stepCommitted (d : Dev) (n a : Nat) : Frame [.nvm, .img] [CFG_STATUS_SLOT_A, CFG_STATUS_SLOT_B] d (d.stepCommitted n a) :=
  Frame.showSlots (fun _ h => h) (((Frame.refl _ _ d).nvm (by simp)).img (by simp))

theorem Dev.stepCommitted_shows (d : Dev) (n a : Nat) :
    (d.stepCommitted n a).nvm = nvmProgram d.nvm a markBytes ∧ (d.stepCommitted n a).img = { d.img with step := n } := by
  have kept : Frame [] [CFG_STATUS_SLOT_A, CFG_STATUS_SLOT_B] { d.program a markBytes with img := { d.img with step := n } } (d.stepCommitted n a) :=
    Frame.showSlots (fun _ h => h) (Frame.refl _ _ _)
  exact ⟨kept.parts .nvm (by simp), kept.parts .img (by simp)⟩

/-- The commitment of an image that is not legal on a configured device has the steps 2 and 3. -/
theorem Dev.commitSteps_eq (configured : d.rd CFG_STATUS_CONFIGURED = 1) (plain : d.img.legal = false) : d.commitSteps = [2, 3] := by
  have on : d.is CFG_STATUS_CONFIGURED = true := Dev.is_of_ne_zero (by omega)
  rw [Dev.commitSteps, plain, on]
  decide

theorem Dev.commitDue_eq (configured : d.rd CFG_STATUS_CONFIGURED = 1) (plain : d.img.legal = false) :
    d.commitDue = if d.img.step < 2 then some 2 else if d.img.step < 3 then some 3 else none := by
  rw [Dev.commitDue, Dev.commitSteps_eq configured plain]
  by_cases first : d.img.step < 2
  · simp [first]
  · by_cases second : d.img.step < 3 <;> simp [first, second]

theorem Dev.commitComplete_failed {n : Nat} (ready : d.nvmReady = true) (committing : d.rd APPLY_STATUS_STATE = 3) (due : d.commitDue = some n)
    (early : n ≠ 4) : d.commitComplete n true = d.commitFails n := by
  rw [Dev.commitComplete, if_neg (by simp [ready, committing, due]), if_pos ⟨rfl, early⟩]

theorem Dev.commitComplete_programmed {n a : Nat} (ready : d.nvmReady = true) (committing : d.rd APPLY_STATUS_STATE = 3) (due : d.commitDue = some n)
    (programs : d.commitProgram n = d.program a markBytes) :
    d.commitComplete n false = if (d.stepCommitted n a).commitDue.isNone then (d.stepCommitted n a).afterCommit else d.stepCommitted n a := by
  rw [Dev.commitComplete, if_neg (by simp [ready, committing, due]), if_neg (by simp)]
  simp only [Bool.false_eq_true, if_false, programs]
  rfl

/-- What is due behind a step of a commitment. -/
theorem Dev.commitDue_stepCommitted (configured : d.rd CFG_STATUS_CONFIGURED = 1) (plain : d.img.legal = false) (n a : Nat) :
    (d.stepCommitted n a).commitDue = if n < 2 then some 2 else if n < 3 then some 3 else none := by
  obtain ⟨-, img⟩ := d.stepCommitted_shows n a
  rw [Dev.commitDue_eq (((Frame.stepCommitted d n a).rd (by decide)).trans configured) ((congrArg ImgSt.legal img).trans plain), img]

/-- The last step of an image's commitment arms the switch. -/
theorem Dev.afterCommit_eq (configured : d.rd CFG_STATUS_CONFIGURED = 1) (apply : d.img.load = false) (alone : d.rd APPLY_STATUS_CHOIR_WIDE = 0) :
    d.afterCommit = d.showSlots.applyState 4 := by
  have shown : Frame [] [CFG_STATUS_SLOT_A, CFG_STATUS_SLOT_B] d d.showSlots := Frame.showSlots (fun _ h => h) (Frame.refl _ _ _)
  have on : d.showSlots.is CFG_STATUS_CONFIGURED = true := Dev.is_of_ne_zero (by rw [shown.rd (by decide), configured]; decide)
  have load : d.showSlots.img.load = false := (congrArg ImgSt.load (shown.parts .img (by simp))).trans apply
  have armed : Frame notifyParts [APPLY_STATUS_STATE] d.showSlots (d.showSlots.applyState 4) :=
    Frame.applyState (fun _ h => h) (by simp) (Frame.refl _ _ _)
  have single : (d.showSlots.applyState 4).is APPLY_STATUS_CHOIR_WIDE = false :=
    Dev.is_of_zero (by rw [armed.rd (by decide), shown.rd (by decide), alone])
  rw [Dev.afterCommit, load, on, if_neg (by decide), Dev.arm, single]
  rfl

/-- A failed step spoils its mark and ends in a refusal with code 13. -/
theorem Dev.commitFails_eq {n : Nat} (step : n = 2 ∨ n = 3) :
    ∃ a, d.commitFails n = ((d.spoil a markBytes).showSlots.fault 0x0906 transient [srcDevice]).refuseApply 13 0xFFFFFFFF := by
  rcases step with rfl | rfl <;> exact ⟨_, rfl⟩

/-- Settles O47: each step of a commitment programs its mark, the last arms the switch, and the boundary takes the image up. -/
theorem imageIsCommittedAndTakenUp : Obligations.ImageIsCommittedAndTakenUp := by
  unfold Obligations.ImageIsCommittedAndTakenUp
  refine ⟨fun s g o ready committing configured plain slot active => ⟨fun first => ?_, fun second load alone => ?_, fun n steps bears => ?_⟩,
    fun s live run running armed mode unnamed unplanned => ?_, fun s live passing left fixed pins => ?_⟩
  · refine Does.of_onDev rfl rfl ?_
    have due : s.dev.commitDue = some 2 := by rw [Dev.commitDue_eq configured plain, first, if_pos (by decide)]
    rw [Dev.commitComplete_programmed (a := markAddr g 0x84) ready committing due (by rw [← slot]; rfl),
      Dev.commitDue_stepCommitted configured plain, if_neg (by decide)]
    obtain ⟨nvm, img⟩ := s.dev.stepCommitted_shows 2 (markAddr g 0x84)
    have kept := Frame.stepCommitted s.dev 2 (markAddr g 0x84)
    exact ⟨nvm, (kept.rd (by decide)).trans committing, img, kept⟩
  · refine Does.of_onDev rfl rfl ?_
    have due : s.dev.commitDue = some 3 := by rw [Dev.commitDue_eq configured plain, second, if_neg (by decide), if_pos (by decide)]
    have kept := Frame.stepCommitted s.dev 3 (markAddr o 0x88)
    obtain ⟨nvm, img⟩ := s.dev.stepCommitted_shows 3 (markAddr o 0x88)
    rw [Dev.commitComplete_programmed (a := markAddr o 0x88) ready committing due (by rw [← active]; rfl),
      Dev.commitDue_stepCommitted configured plain, if_pos (by decide),
      Dev.afterCommit_eq ((kept.rd (by decide)).trans configured) ((congrArg ImgSt.load img).trans load) ((kept.rd (by decide)).trans alone)]
    have armed : Frame notifyParts [APPLY_STATUS_STATE, CFG_STATUS_SLOT_A, CFG_STATUS_SLOT_B] (s.dev.stepCommitted 3 (markAddr o 0x88))
        ((s.dev.stepCommitted 3 (markAddr o 0x88)).showSlots.applyState 4) :=
      Frame.applyState (fun _ h => h) (by simp) (Frame.showSlots (by simp) (Frame.refl _ _ _))
    exact ⟨Eq.trans (armed.parts .nvm (by decide)) nvm, Dev.rd_applyState_state _ (by decide),
      (kept.mono (by simp) (by simp)).trans (armed.mono (by simp [notifyParts]) (fun _ h => h))⟩
  · have step : n = 2 ∨ n = 3 := steps.imp And.left And.left
    refine Does.of_onDev rfl (by rcases step with rfl | rfl <;> rfl) ?_
    have due : s.dev.commitDue = some n := by
      rw [Dev.commitDue_eq configured plain]
      rcases steps with ⟨rfl, at_step⟩ | ⟨rfl, at_step⟩ <;> simp [at_step]
    obtain ⟨a, fails⟩ := s.dev.commitFails_eq step
    rw [Dev.commitComplete_failed ready committing due (by omega), fails]
    have marked : Frame [.nvm, .free] [CFG_STATUS_SLOT_A, CFG_STATUS_SLOT_B] s.dev (s.dev.spoil a markBytes).showSlots :=
      Frame.showSlots (fun _ h => h) (((Frame.refl _ _ s.dev).nvm (by simp)).free (by simp))
    have bears' : (s.dev.spoil a markBytes).showSlots.bears srcDevice := by
      rw [Dev.bears, marked.rd (by decide), marked.rd (by decide), marked.rd (by decide), marked.rd (by decide)]
      exact bears
    obtain ⟨result, state, last, img, -⟩ :=
      ((s.dev.spoil a markBytes).showSlots.fault 0x0906 transient [srcDevice]).refuseApply_shows 13 0xFFFFFFFF
    refine ⟨state, result, last, img, Frame.refuseApply (by decide) (by simp [refuseFlds, strikeFlds, faultFlds])
      (Frame.fault_bears bears' (by decide) (by simp [strikeFlds, faultFlds]) (marked.mono (by decide) (by simp)))⟩
  · refine Does.of_onDev rfl rfl ?_
    have switched := Dev.switchingBoundary_switched live run running armed mode unnamed unplanned
    exact ⟨switched.table, switched.gen, switched.check, switched.state⟩
  · refine Does.of_onDev rfl rfl ?_
    have still : (s.dev.is APPLY_STATUS_TRANS_LEFT || (s.dev.img.refGroup && s.dev.time.step != 0) ||
        !(List.range 16).all (fun v => !s.dev.img.pins.testBit v || s.dev.pinSettled v)) = false := by
      rw [Dev.is_of_zero left, fixed, pins]
      simp
    have ended : s.dev.transitionEnd = s.dev.endApply := by
      simp only [Dev.transitionEnd, still, live, passing]
      rfl
    rw [ended]
    obtain ⟨state, gen, check, img⟩ := s.dev.endApply_shows
    exact ⟨state, gen, check, img, Frame.endApply (by simp [notifyParts]) (by simp) (Frame.refl _ _ _)⟩

end Sys2Proof.Machine

end
